-- ==== Sys2Proof/Word.lean ====
section
/-! DEFINITION. The word types of the VG2560 model, and the sparse table type that its state holds. -/
namespace Sys2Proof

/-- One byte. -/
abbrev Byte := BitVec 8
/-- A 32-bit register word (R12: register accesses are 32-bit). -/
abbrev Word := BitVec 32
/-- A run of bytes, lowest address first. -/
abbrev Bytes := List Byte
/-- A sparse table: pairs of a key and a value, keys strictly rising, no value equal to the table's default. -/
abbrev Tab (α : Type) := List (Nat × α)

end Sys2Proof
end

