-- ==== Sys2Proof/Syntax.lean ====
section
/-! DEFINITION. The commands of the VG2560: one constructor for each row of the table of operations and events,
with the operands that come from outside the part. Numbers are Nat; WellFormed says the range of each. -/
namespace Sys2Proof

/-- The framed ZCP targets (R306). -/
inductive Target where
  | mb0 | mb1 | sb0 | sb1 | uart0
  deriving DecidableEq, Repr

/-- Where a ZCP command comes from: a PCIe queue, a framed session, or the JTAG mailbox. -/
inductive Src where
  | pcie (queue : Nat)
  | framed (target : Target)
  | jtag
  deriving DecidableEq, Repr

/-- The part of a submission entry that every ZCP command shares (Table 8-9). -/
structure Hdr where
  src : Src
  cid : Nat := 0
  fence : Bool := false
  noInt : Bool := false
  resultAddr : Nat := 0
  /-- The reserved and unused bits and bytes of the entry, as one number: 0 when each of them is 0. -/
  reserved : Nat := 0
  /-- The number that the Command Engine gives the command while it is in flight; 0 in a row. -/
  uid : Nat := 0
  deriving DecidableEq, Repr

/-- An MCTP peer: the binding (0 PCIe VDM, 1 SB0, 2 SB1, 3 MB0, 4 MB1), its endpoint identifier, and the secured
session that the message came in, if any. -/
structure Peer where
  binding : Nat := 0
  eid : Nat := 0
  session : Option Nat := none
  deriving DecidableEq, Repr

/-- What the bay reads from a cartridge while it identifies it (R398, R402, R404). -/
structure CartIdent where
  cid : Bytes := []
  sectors : Nat := 0
  preEol : Nat := 0
  lifeA : Nat := 0
  lifeB : Nat := 0
  /-- The RPMB write counter and the authentication code that the cartridge answers with. -/
  rpmbCounter : Nat := 0
  rpmbMac : Bytes := []
  /-- The EXT_CSD sleep/awake timeout in ms. -/
  sleepMs : Nat := 0
  /-- OCR bit 30, and EXT_CSD_REV (Table 11-9). -/
  sectorMode : Bool := true
  extCsdRev : Nat := 8
  /-- Sector 0, and the catalogue's bytes after it. -/
  catalogue : Bytes := []
  /-- A step of the identification failed. -/
  failed : Bool := false
  deriving DecidableEq, Repr

/-- A command to the VG2560: one constructor for each row of the table of operations and events. -/
inductive Instr where
  /-- SESSION_NEGOTIATE (R299): Selects the highest common ZCP version and, on framed transports, the fragment size and UART0 rate. -/
  | sessionNegotiate (h : Hdr) (minVersion maxVersion baud maxFragment : Nat)
  /-- CAPABILITIES (R298): Writes the 64-byte capabilities data of the queue or session to host memory. -/
  | capabilities (h : Hdr) (hostAddr : Nat)
  /-- ECHO (R298): Returns its 8 data bytes unchanged. -/
  | echo (h : Hdr) (payload : Nat)
  /-- SLOT_STATUS (R115): Writes 16 bytes per slot in the range, holding STR_SLOT_n and the DMT of the last release completion. -/
  | slotStatus (h : Hdr) (first count hostAddr : Nat)
  /-- SLOT_HOLD (R115): Holds a RELEASED slot with REASON COMMAND; the hold trigger occurs before the command completes. -/
  | slotHold (h : Hdr) (slot : Nat)
  /-- SLOT_RELEASE (R115): Clears a HELD slot for release; the command completes at the release trigger or with DEPENDENCY_UNMET. -/
  | slotRelease (h : Hdr) (slot : Nat)
  /-- SLOT_RECOVER (R115): Moves a RELEASED or HELD slot to RECOVERING. -/
  | slotRecover (h : Hdr) (slot : Nat)
  /-- SLOT_UNQUARANTINE (R115): Moves a QUARANTINED slot to HELD with CHECKED 0. -/
  | slotUnquarantine (h : Hdr) (slot : Nat)
  /-- BUS_RESTORE (R113): Attempts the restore sequence on an ISOLATED XB bus. -/
  | busRestore (h : Hdr) (bus : Nat)
  /-- POLICY_STAGE (R159): Reads a policy image, runs the staging checks in order and writes the image into the non-committed slot. -/
  | policyStage (h : Hdr) (length hostAddr : Nat) (data : Bytes) (verdicts : Nat := 0)
  /-- POLICY_COMMIT (R161): Commits the staged image at the single MRAM commit-record write, then requests every port's epoch switch. -/
  | policyCommit (h : Hdr) (flags serial : Nat)
  /-- POLICY_DISCARD (R201): Erases the staged image whose serial number matches. -/
  | policyDiscard (h : Hdr) (serial : Nat)
  /-- POLICY_STATUS (R201): Writes the policy status data to host memory. -/
  | policyStatus (h : Hdr) (hostAddr : Nat)
  /-- VIOLATION_COUNTS (R201): Writes WINDOW_COUNT, TRIPS and TOTAL for each violation rule in the range. -/
  | violationCounts (h : Hdr) (first count hostAddr : Nat)
  /-- VIOLATION_RESET (R201): Sets one rule's WINDOW_COUNT to 0 and keeps TRIPS and TOTAL. -/
  | violationReset (h : Hdr) (rule : Nat)
  /-- PORT_STATUS (R154): Writes 32 bytes of one port's mode, device, suspend-address and idle-wait registers. -/
  | portStatus (h : Hdr) (port hostAddr : Nat)
  /-- PORT_IDLE_WINDOW (R148): Declares a host-idle window that opens at the next host-idle point; the command completes when the window ends. -/
  | portIdleWindow (h : Hdr) (port durationUs : Nat)
  /-- MEASURE_STATUS (R242): Writes the flash state record of each bound device in the range. -/
  | measureStatus (h : Hdr) (first count hostAddr : Nat)
  /-- LEAF_READ (R242): Writes the value and state of each leaf in the range, together with FLASH_ROOT and CHANGES. -/
  | leafRead (h : Hdr) (device first count hostAddr : Nat)
  /-- MEASURE_SCAN (R242): Queues a REFRESH or VERIFY scan of a device; the command completes when the scan ends. -/
  | measureScan (h : Hdr) (device kind first count : Nat)
  /-- WEAR_READ (R242): Writes the wear count of each block in the range. -/
  | wearRead (h : Hdr) (device first count hostAddr : Nat)
  /-- WEAR_FORECAST (R240): Writes MAX, HOT_BLOCK, RATE and the DAYS forecasts of a device. -/
  | wearForecast (h : Hdr) (device hostAddr : Nat)
  /-- WEAR_RESET (R242): Sets a device's wear counts and ring to 0 and re-arms its alert levels. -/
  | wearReset (h : Hdr) (device : Nat)
  /-- DIGEST_OPEN (R207): Opens a host digest context for the submitting function. -/
  | digestOpen (h : Hdr) (alg keyLen outLen keyAddr : Nat) (data : Bytes)
  /-- DIGEST_UPDATE (R208): Feeds the fragments of a descriptor list to a context in list order, restarting a finished context. -/
  | digestUpdate (h : Hdr) (context descCount listAddr : Nat) (list data : Bytes)
  /-- DIGEST_FINISH (R210): Writes the digest and leaves the context finished, or closes it when CLOSE is set. -/
  | digestFinish (h : Hdr) (context flags hostAddr : Nat)
  /-- DIGEST_CLOSE (R242): Closes a digest context and erases its key. -/
  | digestClose (h : Hdr) (context : Nat)
  /-- PK_OP (R276): Runs one public-key operation from the menu on a Hammer lane in the queue's latency class. -/
  | pkOp (h : Hdr) (operation inLen bufAddr : Nat) (data : Bytes)
  /-- HAMMER_STATUS (R276): Writes the Hammer status registers and the state of each lane. -/
  | hammerStatus (h : Hdr) (hostAddr : Nat)
  /-- HAMMER_LANE_TEST (R276): Runs the extended test on a RETIRED or SPARE lane; a RETIRED lane that passes becomes SPARE with FAILS 2. -/
  | hammerLaneTest (h : Hdr) (lane : Nat)
  /-- RECEIPT_SIGN (R333): Takes a snapshot and builds and signs one Haldura receipt over a transaction digest. -/
  | receiptSign (h : Hdr) (format alg digestLen outSize digestAddr outAddr : Nat) (data : Bytes)
  /-- RECEIPT_BATCH (R324): Signs one receipt over the Merkle root of up to 256 digests and writes their inclusion records. -/
  | receiptBatch (h : Hdr) (format alg digestLen count outSize listAddr outAddr : Nat) (data : Bytes)
  /-- RECEIPT_KEYS (R333): Writes the six receipt and metering key entries with their kids. -/
  | receiptKeys (h : Hdr) (hostAddr : Nat)
  /-- PSD_READ (R370): Writes the preimage of the latest completed PSD generation. -/
  | psdRead (h : Hdr) (hostAddr : Nat)
  /-- PSD_CHANGES (R366): Writes PSD history records from FROM_GEN, or completes with PSD_HISTORY_LOST. -/
  | psdChanges (h : Hdr) (fromGen max hostAddr : Nat)
  /-- CONFIG_DIGEST (R370): Writes the CED, its preimage and the live configuration block for the current, staged or committed image. -/
  | configDigest (h : Hdr) (which outSize hostAddr : Nat)
  /-- IDENTITY_CERTS (R370): Writes the DER certificates of slot 0, of slot 1, or the five leaf certificates. -/
  | identityCerts (h : Hdr) (select outSize hostAddr : Nat)
  /-- IDENTITY_CERT_INSTALL (R350): Checks an owner certificate chain and installs it in SPDM slot 1, or empties the slot. -/
  | identityCertInstall (h : Hdr) (length hostAddr : Nat) (data : Bytes)
  /-- RECOVER_STATUS (R410): Writes the headers of every journal record that is not FREE. -/
  | recoverStatus (h : Hdr) (hostAddr : Nat)
  /-- RECOVER_STAGE (R384): Supplies a recovery image or manifest for a device waiting for a source, and completes when the manifest passes its checks. -/
  | recoverStage (h : Hdr) (device flags length hostAddr : Nat) (data : Bytes) (verdicts : Nat := 0)
  /-- RECOVER_DATA (R410): Supplies stored blocks for a framed recovery once staging buffer room is free. -/
  | recoverData (h : Hdr) (device first count hostAddr : Nat) (data : Bytes)
  /-- RECOVER_FULL (R410): Moves a HELD or RELEASED slot to RECOVERING with FULL operations. -/
  | recoverFull (h : Hdr) (slot : Nat)
  /-- RECOVER_ABORT (R410): Ends a slot's operations after their current block as ABORTED and quarantines the slot. -/
  | recoverAbort (h : Hdr) (slot : Nat)
  /-- RECOVER_ARB_ADVANCE (R410): Advances ARB3 to the target security version. -/
  | recoverArbAdvance (h : Hdr) (targetSvn : Nat)
  /-- CART_STATUS (R410): Writes four 64-byte cartridge slot entries. -/
  | cartStatus (h : Hdr) (hostAddr : Nat)
  /-- CART_CATALOGUE (R410): Writes the catalogue bytes of one cartridge. -/
  | cartCatalogue (h : Hdr) (slot outSize hostAddr : Nat)
  /-- CART_LIFE (R410): Writes the 64 entries of the cartridge life table. -/
  | cartLife (h : Hdr) (hostAddr : Nat)
  /-- CART_EJECT (R410): Puts a cartridge to sleep and powers it off, leaving its slot EJECTED. -/
  | cartEject (h : Hdr) (slot : Nat)
  /-- CART_RESCAN (R410): Power-cycles a cartridge and identifies it again, completing at READY or FAILED. -/
  | cartRescan (h : Hdr) (slot : Nat)
  /-- LC_STATUS (R439): Returns CRU_LC_STATUS, CRU_DEBUG and ARB0 to ARB3. -/
  | lcStatus (h : Hdr)
  /-- CRU_CHALLENGE (R423): Issues a 32-byte nonce for one purpose from DRBG D0. -/
  | cruChallenge (h : Hdr) (purpose : Nat)
  /-- LC_TRANSITION (R418): Checks a statement, writes the intent record and blows the codeword, then completes and triggers a Control Region restart. -/
  | lcTransition (h : Hdr) (target length hostAddr : Nat) (data : Bytes) (verdicts : Nat := 0)
  /-- OWNER_KEYS_READ (R439): Writes the owner key slot table and the options. -/
  | ownerKeysRead (h : Hdr) (hostAddr : Nat)
  /-- OWNER_KEY_CHANGE (R428): Applies a KEY_ADD, KEY_REVOKE or OPTIONS statement to the owner key slot table. -/
  | ownerKeyChange (h : Hdr) (length hostAddr : Nat) (data : Bytes) (verdicts : Nat := 0)
  /-- DEBUG_GRANT (R436): Accepts a debug statement, withdraws keys at level 4 or 5, updates the PSD and opens the debug port. -/
  | debugGrant (h : Hdr) (length hostAddr : Nat) (data : Bytes) (verdicts : Nat := 0)
  /-- DEBUG_END (R437): Ends the grant in force and clears DEBUG_GRANTED. -/
  | debugEnd (h : Hdr)
  /-- FW_STAGE (R79): Writes and verifies a Warden image or lane bundle into a copy that is not running, and marks it VALID. -/
  | fwStage (h : Hdr) (component target length hostAddr : Nat) (data : Bytes) (verdicts : Nat := 0)
  /-- FW_ACTIVATE (R81): Makes a copy preferred; for a Warden image, drains commands and triggers a Control Region restart. -/
  | fwActivate (h : Hdr) (component copy : Nat)
  /-- FW_STATUS (R78): Returns the state, SVN and version of each firmware copy, ARB0, ARB1 and any update in progress. -/
  | fwStatus (h : Hdr)
  /-- FW_ARB_ADVANCE (R80): Advances ARB0 or ARB1, refusing a value that would strand a VALID copy unless FORCE is set. -/
  | fwArbAdvance (h : Hdr) (counter targetSvn flags : Nat)
  /-- RNG_READ (R439): Writes random bytes from D0 to host memory. -/
  | rngRead (h : Hdr) (length hostAddr : Nat)
  /-- OTP_READ (R439): Writes a range of OTP words, giving unreadable words as 0 and counting them in HIDDEN. -/
  | otpRead (h : Hdr) (first count hostAddr : Nat)
  /-- TIME_READ (R484): Returns DMT, wall time, OpSeconds, epoch and time flags. -/
  | timeRead (h : Hdr)
  /-- TIME_SET (R479): Steps or slews the wall time, starting a new time epoch on a backward step. -/
  | timeSet (h : Hdr) (wallNs atDmt mode flags : Nat)
  /-- WIND (R464): Winds a channel with the key equal to TURN, optionally declaring a sleep. -/
  | wind (h : Hdr) (channel flags key sleepMs : Nat)
  /-- WATCHDOG_STATUS (R484): Writes both channel words and the DMT of the last accepted wind for each channel in the range. -/
  | watchdogStatus (h : Hdr) (first count hostAddr : Nat)
  /-- WATCHDOG_ARM (R484): Arms or disarms the wind-up channel of a RELEASED slot. -/
  | watchdogArm (h : Hdr) (channel action : Nat)
  /-- TAMPER_STATUS (R462): Writes the tamper status registers and per-source counts. -/
  | tamperStatus (h : Hdr) (hostAddr : Nat)
  /-- TAMPER_CLEAR (R448): Clears the TRIPPED bits and event rings of named sources that are no longer asserting. -/
  | tamperClear (h : Hdr) (mask : Nat)
  /-- TAMPER_TEST (R454): Opens a test window that stimulates one tamper source's sensor. -/
  | tamperTest (h : Hdr) (source : Nat)
  /-- TAMPER_FIX (R451): Blows OTP word 112 bits to fix named sources in HARDWARE_QUENCH. -/
  | tamperFix (h : Hdr) (mask : Nat)
  /-- LOG_STATUS (R500): Writes the Logbook sequence marks and counts. -/
  | logStatus (h : Hdr) (hostAddr : Nat)
  /-- LOG_READ (R500): Exports Logbook records from FROM_SEQ in window order. -/
  | logRead (h : Hdr) (fromSeq max flags hostAddr : Nat)
  /-- LOG_ACK (R500): Raises the acknowledged sequence mark. -/
  | logAck (h : Hdr) (uptoSeq : Nat)
  /-- LOG_CLEAR (R500): Erases acknowledged records up to UPTO_SEQ and writes a LOG_CLEARED record. -/
  | logClear (h : Hdr) (uptoSeq : Nat)
  /-- METER_STATUS (R345): Writes the open billing period's header and the per-queue counts. -/
  | meterStatus (h : Hdr) (hostAddr : Nat)
  /-- METER_RECORD (R345): Writes a held closed period record. -/
  | meterRecord (h : Hdr) (periodId outSize hostAddr : Nat)
  /-- METER_ACK (R345): Allows period records up to PERIOD_ID to be overwritten. -/
  | meterAck (h : Hdr) (periodId : Nat)
  /-- METER_CLOSE (R345): Closes the open billing period now, flagged FORCED_CLOSE. -/
  | meterClose (h : Hdr)
  /-- FAULT_STATUS (R525): Writes the service, fault, island, domain and crossing registers. -/
  | faultStatus (h : Hdr) (hostAddr : Nat)
  /-- POWER_CAP_SET (R521): Replaces CAP_SETTING until the next commit or device start. -/
  | powerCapSet (h : Hdr) (cap : Nat)
  /-- POWER_STATUS (R525): Returns the temper, power and power-configuration registers and the regulator current. -/
  | powerStatus (h : Hdr)
  /-- SQ_TAIL_DOORBELL (R281): A write of a queue's SQ_TAIL doorbell that makes new submission entries available, or faults the queue when out of range. -/
  | sqTailDoorbell (fn queue value : Nat)
  /-- CQ_HEAD_DOORBELL (R281): A write of a queue's CQ_HEAD doorbell that frees completion ring room, or faults the queue when out of range. -/
  | cqHeadDoorbell (fn queue value : Nat)
  /-- QUEUE_OPEN (R293): An OPEN written to CME_Q_CMD that checks the configuration and opens the selected queue. -/
  | queueOpen (fn : Nat)
  /-- QUEUE_CLOSE (R293): A CLOSE written to CME_Q_CMD that stops fetching and waits for the commands in flight. -/
  | queueClose (fn : Nat)
  /-- QUEUE_RESET (R293): A RESET written to CME_Q_CMD that makes the queue CLOSED at once. -/
  | queueReset (fn : Nat)
  /-- WWU_WIND_WRITE (R483): A write to WWU_WIND that is taken as a register wind. -/
  | wwuWindWrite (channel key : Nat)
  /-- LGB_CURSOR_WRITE (R498): A write of LGB_CURSOR high that loads the Logbook window from the cursor. -/
  | lgbCursorWrite (high : Nat)
  /-- RC_REGISTER_READ (R10): A read of an RC counter that returns its value and clears it. -/
  | rcRegisterRead (fn addr : Nat)
  /-- REGISTER_LOW_WORD_READ (R12): A read of the low word of a 64-bit register that latches its high word. -/
  | registerLowWordRead (fn addr : Nat)
  /-- REGISTER_WRITE (R8): A write to any register without a row of its own, acting by the field access types. -/
  | registerWrite (fn addr value : Nat)
  /-- ISLAND_CROSSING_TIMEOUT (R309): A command-class crossing unacknowledged for 64 µs completes with ISLAND_TIMEOUT or returns all ones. -/
  | islandCrossingTimeout (fn island : Nat) (cmd : Option Hdr)
  /-- PWR_OK_RISE (R48): Begins a device start: the supervisor brings the regions up in order. -/
  | pwrOkRise (ramFails : Bool := false)
  /-- PWR_OK_FALL (R46): Removes power from every region except Ember, which changes over to VBAT. -/
  | pwrOkFall
  /-- BROWN_OUT (R539): A core or 1.8 V supply out of range while PWR_OK is high is treated as a fall of PWR_OK. -/
  | brownOut
  /-- DOMAIN_SWITCH_ON (R519): Switches the next power domain on in the start sequence, one every 20 µs. -/
  | domainSwitchOn (digestFails : Nat := 0)
  /-- GUARD_DEFAULT_APPLIED (R50): The Guard Region applies the built-in default: every slot held, every port in OWN and every write denied. -/
  | guardDefaultApplied
  /-- FIRST_STAGE (R53): The active Warden pair starts at the fixed vector and runs the first stage. -/
  | firstStage (fsp : Bytes) (entropyGood : Bool) (eccError : Bool := false)
  /-- CARTRIDGE_SEARCH (R73): Searches the cartridges for a Warden image or lane bundle when every copy has failed. -/
  | cartridgeSearch (slot : Nat) (image : Bytes)
  /-- SERIAL_STATUS_FRAME (R75): Sends the unsolicited status frame once a second until a peer answers. -/
  | serialStatusFrame
  /-- BUNDLE_LOAD_COMPLETE (R67): Ends the lane bundle load, verifies the copy and releases lanes and decoders. -/
  | bundleLoadComplete (header : List Bytes) (blocks : List (List Bytes)) (laneFails portFails : Nat)
  /-- POLICY_LOAD (R164): Loads and re-checks the committed policy at start, falling back or entering NO_POLICY. -/
  | policyLoad (verdicts : Nat := 0)
  /-- WARDEN_COPY_REPAIR (R62): Finishes rewriting a FAILED Warden copy from the running copy and sets REPAIRED. -/
  | wardenCopyRepair
  /-- CERTIFICATE_BUILD (R348): Finishes building the Alias and leaf certificates with a single DeviceID signature. -/
  | certificateBuild (attempts : Nat := 0)
  /-- CONTROL_RESTART_COMPLETE (R108): At the end of a restart, re-holds and re-releases interrupted slots, resumes paused channels and acts on latched events. -/
  | controlRestartComplete
  /-- PERST_ASSERT (R45): PERST# assertion resets the PCIe island and the queue contexts. -/
  | perstAssert
  /-- PERST_DEASSERT (R52): PERST# deassertion starts link training. -/
  | perstDeassert (rate lanes : Nat := 4)
  /-- PCIE_HOT_RESET (R45): A hot reset or link disable received on the link resets the PCIe island and queues. -/
  | pcieHotReset (rate lanes : Nat := 4)
  /-- FUNCTION_LEVEL_RESET (R311): An FLR closes the function's queues and digest contexts. -/
  | functionLevelReset (fn : Nat)
  /-- BUS_MASTER_DISABLE (R311): Clearing Bus Master Enable puts every open queue of the function in ERROR. -/
  | busMasterDisable (fn : Nat)
  /-- SUBMISSION_FETCH (R291): Fetches a submission entry in class order once the rings have room, then runs the admission checks. -/
  | submissionFetch (queue : Nat) (entry : Bytes)
  /-- HOST_READ_FAULT (R311): A failed host-memory read stops its command with HOST_READ_FAILED, or puts the queue in ERROR when it was a submission fetch. -/
  | hostReadFault (queue : Nat) (cmd : Option Hdr) (kind addr : Nat) (fed : Bytes)
  /-- COMPLETION_WRITE (R288): Writes a completion entry when a command ends and signals MSI-X. -/
  | completionWrite (src : Src)
  /-- INTERRUPT_COALESCE_EXPIRY (R301): Sends the deferred MSI-X message when the COAL_US timer expires. -/
  | interruptCoalesceExpiry (queue : Nat)
  /-- ASYNC_EVENT_DELIVERY (R305): Writes a pending asynchronous completion once the delivery queue has room or opens. -/
  | asyncEventDelivery (group : Nat)
  /-- QUEUE_CLOSE_TIMEOUT (R293): A CLOSE that has waited 100 ms makes the queue CLOSED without the remaining completions. -/
  | queueCloseTimeout (queue : Nat)
  /-- FRAME_RECEIVED (R307): A ZCP frame received on a framed transport is checked and assembled into a command message. -/
  | frameReceived (target : Target) (frame : Bytes) (pec : Option Nat := none)
  /-- FRAGMENT_TIMEOUT (R307): A gap of more than 100 ms between fragments discards the message with a FRAME_SEQUENCE NAK. -/
  | fragmentTimeout (src : Src)
  /-- SMBUS_BLOCK_READ (R306): An SMBus block read with command code 0x5B returns the next response frame or an empty block. -/
  | smbusBlockRead (target : Target) (code : Nat)
  /-- I3C_PRIVATE_READ (R306): An I3C private read returns the next response frame or is NACKed. -/
  | i3cPrivateRead (target : Target)
  /-- BAUD_REVERT (R299): UART0 returns to its previous rate when no frame passes its CRC within 1 s of a change. -/
  | baudRevert
  /-- OUTBOX_RETRY (R308): Retries the oldest outbox message once a second, or a master transaction after its retry wait. -/
  | outboxRetry (accepted : Bool)
  /-- JTAG_MAILBOX_FRAME (R438): A ZCP frame carried by the JTAG mailbox data register. -/
  | jtagMailboxFrame (frame : Bytes)
  /-- JTAG_LC_TRANSITION (R416): A factory life-cycle transition made by test equipment over JTAG in FULL debug. -/
  | jtagLcTransition (lcTarget : Nat)
  /-- SET_ENDPOINT_ID (R353): MCTP control command that assigns the endpoint ID. -/
  | setEndpointId (binding op eid : Nat)
  /-- GET_ENDPOINT_ID (R353): MCTP control command that returns the endpoint ID. -/
  | getEndpointId (binding : Nat)
  /-- GET_ENDPOINT_UUID (R353): MCTP control command that returns the UUID derived from the DeviceID kid. -/
  | getEndpointUuid (binding : Nat)
  /-- GET_MCTP_VERSION_SUPPORT (R353): MCTP control command that returns the supported MCTP versions. -/
  | getMctpVersionSupport (binding msgType : Nat)
  /-- GET_MESSAGE_TYPE_SUPPORT (R353): MCTP control command that returns the supported message types. -/
  | getMessageTypeSupport (binding : Nat)
  /-- MCTP_UNSUPPORTED_CMD (R353): Any other MCTP control command is answered with ERROR_UNSUPPORTED_CMD. -/
  | mctpUnsupportedCmd (binding code : Nat)
  /-- GET_VERSION (R355): SPDM GET_VERSION, which creates or replaces requester connection state. -/
  | getVersion (peer : Peer) (req : Bytes)
  /-- GET_CAPABILITIES (R354): SPDM GET_CAPABILITIES answered with the responder's flags. -/
  | getCapabilities (peer : Peer) (req : Bytes)
  /-- NEGOTIATE_ALGORITHMS (R354): SPDM NEGOTIATE_ALGORITHMS answered with the offered algorithms. -/
  | negotiateAlgorithms (peer : Peer) (req : Bytes)
  /-- GET_DIGESTS (R354): SPDM GET_DIGESTS for slot 0 and a filled slot 1. -/
  | getDigests (peer : Peer) (req : Bytes)
  /-- GET_CERTIFICATE (R354): SPDM GET_CERTIFICATE returning at most 1,024 bytes per response. -/
  | getCertificate (peer : Peer) (req : Bytes)
  /-- CHALLENGE (R354): SPDM CHALLENGE signed with the Alias key. -/
  | challenge (peer : Peer) (req : Bytes) (attempts : Nat)
  /-- GET_MEASUREMENTS (R360): SPDM GET_MEASUREMENTS answered from one snapshot, signed when requested. -/
  | getMeasurements (peer : Peer) (req : Bytes) (attempts : Nat)
  /-- KEY_EXCHANGE (R356): SPDM KEY_EXCHANGE that opens a session with ECDH P-384 within the session limit. -/
  | keyExchange (peer : Peer) (req : Bytes) (attempts : Nat)
  /-- FINISH (R354): SPDM FINISH carrying RequesterVerifyData only. -/
  | finish (peer : Peer) (req : Bytes)
  /-- HEARTBEAT (R354): SPDM HEARTBEAT inside a session. -/
  | heartbeat (peer : Peer) (req : Bytes)
  /-- KEY_UPDATE (R354): SPDM KEY_UPDATE inside a session. -/
  | keyUpdate (peer : Peer) (req : Bytes)
  /-- END_SESSION (R356): SPDM END_SESSION that ends a session. -/
  | endSession (peer : Peer) (req : Bytes)
  /-- SPDM_UNSUPPORTED_REQUEST (R354): Any other SPDM request code is answered with ERROR UnsupportedRequest. -/
  | spdmUnsupportedRequest (peer : Peer) (req : Bytes)
  /-- SPDM_SESSION_IDLE_TIMEOUT (R356): A session with no message for 120 s ends. -/
  | spdmSessionIdleTimeout (session : Nat)
  /-- QUERY_DEVICE_IDENTIFIERS (R82): PLDM Type 5 QueryDeviceIdentifiers. -/
  | queryDeviceIdentifiers (peer : Peer)
  /-- GET_FIRMWARE_PARAMETERS (R82): PLDM Type 5 GetFirmwareParameters. -/
  | getFirmwareParameters (peer : Peer)
  /-- REQUEST_UPDATE (R83): PLDM RequestUpdate that begins an update, or is refused while one is in progress. -/
  | requestUpdate (peer : Peer) (maxTransfer components : Nat)
  /-- PASS_COMPONENT_TABLE (R82): PLDM PassComponentTable. -/
  | passComponentTable (peer : Peer) (component stamp : Nat)
  /-- UPDATE_COMPONENT (R82): PLDM UpdateComponent for the Warden image or the lane bundle. -/
  | updateComponent (peer : Peer) (component size : Nat)
  /-- REQUEST_FIRMWARE_DATA (R82): Arrival of firmware data answering the device's RequestFirmwareData. -/
  | requestFirmwareData (data : Bytes)
  /-- TRANSFER_COMPLETE (R82): PLDM TransferComplete exchange at the end of the data transfer. -/
  | transferComplete
  /-- VERIFY_COMPLETE (R82): PLDM VerifyComplete exchange after image verification. -/
  | verifyComplete (verdicts : Nat := 0)
  /-- APPLY_COMPLETE (R82): PLDM ApplyComplete exchange after the image is written. -/
  | applyComplete
  /-- ACTIVATE_FIRMWARE (R82): PLDM ActivateFirmware, applying the Warden activation rule or reporting that the bundle needs a device start. -/
  | activateFirmware (peer : Peer) (selfContained : Bool)
  /-- GET_STATUS (R82): PLDM GetStatus. -/
  | getStatus (peer : Peer)
  /-- CANCEL_UPDATE_COMPONENT (R82): PLDM CancelUpdateComponent. -/
  | cancelUpdateComponent (peer : Peer)
  /-- CANCEL_UPDATE (R83): PLDM CancelUpdate, which ends the update in progress. -/
  | cancelUpdate (peer : Peer)
  /-- FW_UPDATE_TIMEOUT (R83): A firmware update with no progress for 600 s ends. -/
  | fwUpdateTimeout
  /-- HOST_CS_FALL (R166): A host CS# fall begins a command that is decoded and filtered under the epoch in force. -/
  | hostCsFall (port cs : Nat)
  /-- HOST_CS_RISE (R135): A host CS# rise ends a command and applies its shadow effect when it completed. -/
  | hostCsRise (port cs differ : Nat)
  /-- PORT_EPOCH_SWAP (R165): A port swaps its table banks at the first instant both host CS# are high. -/
  | portEpochSwap (port : Nat)
  /-- POLICY_COMMIT_TIMEOUT (R169): POLICY_COMMIT completes with EPOCH_SWITCH_PENDING 1 s after the commit point. -/
  | policyCommitTimeout
  /-- HOST_IDLE_POINT (R126): Both host CS# high for 20 ns commits a pending mode change, window or reset pulse. -/
  | hostIdlePoint (port : Nat) (disagree : Bool := false)
  /-- RESYNC_PULSE_END (R143): At the end of the pulse and recovery, the devices return to reset defaults and IN_SYNC. -/
  | resyncPulseEnd (port : Nat)
  /-- IDLE_WINDOW_END (R148): A host-idle window ends when its duration expires or its work is done, and PORT_IDLE_WINDOW completes. -/
  | idleWindowEnd (port : Nat)
  /-- IDLE_WAIT_LOG (R130): A pending mode change that has waited 1 s is logged. -/
  | idleWaitLog (port : Nat)
  /-- HOST_CLOCK_STALL (R152): A host CS# held low for 1 s with no SCK edge is recorded as a stall. -/
  | hostClockStall (port : Nat)
  /-- GAP_WAIT_EXPIRY (R373): Rung-3 work whose GAP wait expires takes the port into OWN as a yield. -/
  | gapWaitExpiry (port : Nat)
  /-- F_VDDIO_LOSS (R529): A flash-side VDDIO out of range puts the port's bound devices in RESYNC. -/
  | fVddioLoss (port : Nat)
  /-- H_VDDIO_LOSS (R529): A host-side VDDIO out of range makes the port read its host inputs idle. -/
  | hVddioLoss (port : Nat)
  /-- DEVICE_SCAN_START (R228): A scan of a device begins in OWN or a window, resetting it and entering scan mode. -/
  | deviceScanStart (device : Nat) (jedec sfdp : Bytes) (disagree : Bool := false)
  /-- FLASH_STATUS_POLL (R388): A status read every 20 µs while a sequencer erase, program or configuration write is in progress. -/
  | flashStatusPoll (device status : Nat) (disagree : Bool := false)
  /-- DEVICE_SCAN_END (R228): A scan ends: leaves are set, the slot's check is judged and the port resets the devices it drove. -/
  | deviceScanEnd (device : Nat) (read : List (Nat × Bytes)) (disagree : Bool := false)
  /-- REFRESH_REQUEST (R230): Requests a REFRESH when a device's staleness exceeds REFRESH_INTERVAL_S. -/
  | refreshRequest (device : Nat)
  /-- VERIFY_REQUEST (R230): Requests a VERIFY every VERIFY_INTERVAL_S of OpSeconds. -/
  | verifyRequest (device : Nat)
  /-- FIT_LEAF_EVENT (R222): FIT applies a write or completion event to a leaf in port sequence order. -/
  | fitLeafEvent
  /-- FLASH_STATE_RECORD_UPDATE (R232): Recomputes a device's roots and flash state record after leaf changes. -/
  | flashStateRecordUpdate (device : Nat)
  /-- PSD_RECOMPUTATION (R362): Computes a new PSD generation from the changes gathered and appends history records. -/
  | psdRecomputation
  /-- WEAR_DAILY_RECORD (R240): Records each device's highest count in the wear ring every 86,400 OpSeconds. -/
  | wearDailyRecord
  /-- RELEASE_TRIGGER (R105): A slot's release trigger falls due: its ports go to PASS and its strings are scheduled to go slack. -/
  | releaseTrigger (slot : Nat)
  /-- STRING_SCHEDULED_CHANGE (R101): A direct string changes level at its scheduled time. -/
  | stringScheduledChange (string : Nat)
  /-- EXTENSION_TICK (R101): An XB bus tick writes the pending changes of each expander in index order. -/
  | extensionTick (bus : Nat)
  /-- MAX_DELAY_EXPIRY (R106): A dependant not triggered by MAX_DELAY is logged and acted on by MAX_ACTION. -/
  | maxDelayExpiry (edge : Nat)
  /-- POWER_GOOD_CHANGE (R109): A POWER_GOOD input changes level and starts its debounce. -/
  | powerGoodChange (string : Nat) (level : Bool)
  /-- POWER_GOOD_DEBOUNCE (R109): A level change that has lasted its debounce is accepted, and a loss carries out PG_ACTION. -/
  | powerGoodDebounce (string : Nat)
  /-- POWER_GOOD_TIMEOUT (R109): No asserted power-good within the timeout after a release trigger counts as power-good loss. -/
  | powerGoodTimeout (slot : Nat)
  /-- EXPANDER_NAK (R111): An expander fails to acknowledge a transaction, and a retry is scheduled. -/
  | expanderNak (bus expander : Nat)
  /-- EXPANDER_RETRY (R111): Retries an unacknowledged expander transaction after its wait. -/
  | expanderRetry (bus : Nat) (ack : Bool)
  /-- BUS_RESTORE_ATTEMPT (R113): Attempts to restore an ISOLATED bus once a second. -/
  | busRestoreAttempt (bus : Nat) (ack : Bool)
  /-- HAMMER_OP_COMPLETE (R255): A lane finishes an operation, checks its invariant and takes the next work. -/
  | hammerOpComplete (lane : Nat) (holds : Bool)
  /-- KNOWN_ANSWER_TEST_DONE (R261): A TESTING lane finishes its tests and returns to ACTIVE or counts a failure. -/
  | knownAnswerTestDone (lane : Nat) (passed : Bool)
  /-- SPARE_PROMOTION_DONE (R245): A promoted spare passes its self-test and becomes ACTIVE. -/
  | sparePromotionDone (lane : Nat) (passed : Bool)
  /-- LANE_POWER_UP_READY (R273): A gated lane powered again becomes ready. -/
  | lanePowerUpReady (lane : Nat)
  /-- POOL_REFILL_DONE (R253): A lane finishes making a precomputed nonce pair for a pool. -/
  | poolRefillDone (lane : Nat) (holds : Bool)
  /-- FORGE_CHECKPOINT (R316): Writes sequence numbers, LAST_WALL, period counts and PSD generation to MRAM every 10 ms. -/
  | forgeCheckpoint
  /-- PERIOD_BOUNDARY (R336): Closes the open billing period when the wall time reaches END_WALL and opens the next. -/
  | periodBoundary
  /-- PERIOD_RECORD_SIGN (R336): Signs a closed period's record once all its receipts are complete. -/
  | periodRecordSign
  /-- OPERATION_POSITION_GRANT (R374): A waiting Reforge operation takes a free position and begins SEARCH. -/
  | operationPositionGrant (device : Nat) (manifests : List (Nat × Bytes)) (verdicts : Nat := 0)
  /-- SOURCE_WAIT_TIMEOUT (R383): No host or UART source within SOURCE_WAIT_S fails the operation. -/
  | sourceWaitTimeout (device : Nat)
  /-- CARTRIDGE_WAIT_TIMEOUT (R406): A removed source cartridge not returned within CARTRIDGE_WAIT_S leads to the rest of the search order. -/
  | cartridgeWaitTimeout (device : Nat)
  /-- BLOCK_STAGED (R386): A stored block read from the source is hashed and checked against its leaf. -/
  | blockStaged (device block : Nat) (data : Bytes) (disagree : Bool := false)
  /-- BLOCK_DONE_MARK (R393): After a block's last program completes, sets its DONE bit and starts the next block. -/
  | blockDoneMark (device : Nat) (disagree : Bool := false)
  /-- CARTRIDGE_INSERTION (R398): CBY_DET low for 10 ms starts identification of the cartridge. -/
  | cartridgeInsertion (slot : Nat)
  /-- OCR_POLL (R398): Sends CMD1 every 10 ms until the OCR busy bit is set or 1 s passes. -/
  | ocrPoll (slot : Nat) (ready : Bool) (ident : CartIdent) (verdicts : Nat := 0)
  /-- CARTRIDGE_TRANSFER_DONE (R399): An MMC transfer ends, and a CRC or response failure is retried up to three times. -/
  | cartridgeTransferDone (slot : Nat) (good : Bool)
  /-- CARTRIDGE_REMOVAL (R406): CBY_DET high for 10 ms powers off the slot and sends reading operations back to SEARCH. -/
  | cartridgeRemoval (slot : Nat)
  /-- CARTRIDGE_SLEEP (R400): A cartridge not addressed for 2 s is deselected and put to sleep. -/
  | cartridgeSleep (slot : Nat)
  /-- CARTRIDGE_REACQUIRE (R401): Repeats CMD13 every 1 ms in the re-acquisition window, and re-identifies the cartridge when the window is missed. -/
  | cartridgeReacquire (slot : Nat) (ready : Bool) (cid : Bytes := [])
  /-- CARTRIDGE_LIFE_READ (R409): Reads the EXT_CSD life bytes every 86,400 OpSeconds and updates LIFE. -/
  | cartridgeLifeRead (slot preEol lifeA lifeB : Nat)
  /-- TAMPER_DETECTOR_ASSERT (R441): A continuous tamper detector asserts and counts an event. -/
  | tamperDetectorAssert (source : Nat)
  /-- TAMPER_SAMPLE (R442): Samples the shield, meshes and switches every 32 ms, counting an event for each failing source. -/
  | tamperSample (meshReturn : Nat) (switches : Nat := 0) (shieldBroken : Bool := false) (vbat : Nat := 3000)
  /-- TAMPER_TEST_WINDOW_END (R455): Ends a test window, judges the result and samples the detector under real conditions. -/
  | tamperTestWindowEnd
  /-- TAMPER_SCHEDULED_TEST (R455): Starts the scheduled test of the next enabled source, one per second. -/
  | tamperScheduledTest
  /-- CHANNEL_EXPIRY (R471): A wind-up deadline or re-acquisition window passes without a wind, and the channel acts by ACTION. -/
  | channelExpiry (channel : Nat)
  /-- PRE_EXPIRY_WARNING (R470): Logs and posts WIND_LOW at deadline minus PRE_MS. -/
  | preExpiryWarning (channel : Nat)
  /-- SLEEP_GUARD_PASS (R473): At W + G without a wake wind, the channel enters REACQUIRE. -/
  | sleepGuardPass (channel : Nat)
  /-- CLOCK_STOP_DETECT (R469): A watchdog's selected clock stops, and it moves to the other clock or expires if both stop. -/
  | clockStopDetect (ember : Bool)
  /-- CLOCK_RETURN (R469): A watchdog returns to its selected clock after it has run for 10 ms. -/
  | clockReturn (ember : Bool)
  /-- IWD_EXPIRY (R474): The internal watchdog expires, traps the Warden and starts the 2 ms hard timer. -/
  | iwdExpiry
  /-- IWD_HARD_TIMER_EXPIRY (R474): The 2 ms hard timer ends and causes a Control Region restart. -/
  | iwdHardTimerExpiry
  /-- DMT_CHECKPOINT (R476): Writes DMT and OpSeconds to MRAM every 1,000,000 µs. -/
  | dmtCheckpoint
  /-- TIME_MARK (R491): Writes a TIME_MARK record when 2^31 µs of DMT have passed since the last one. -/
  | timeMark
  /-- LOG_RECORD_WRITE (R490): Writes a staged event to the Logbook, folding repeats and storms and evicting by rung. -/
  | logRecordWrite
  /-- RECORD_CLOSE (R493): An OPEN ordinary record closes when its repeat window or 60 s passes. -/
  | recordClose (seq : Nat)
  /-- STORM_CLOSE (R495): A storm record closes 1,000 µs after its head and names the shared resource. -/
  | stormClose (seq : Nat)
  /-- TEMPER_EVALUATION (R26): Every 100 µs the temper loop raises or lowers its VDD_CORE command. -/
  | temperEvaluation (tj : Int) (current utilPct waitE : Nat) (scanLate ack : Bool) (bellowsPct : Nat := 0)
  /-- AVS_RETRY (R27): In AVS_HOLD, retries the regulator every 10 ms. -/
  | avsRetry (ack : Bool)
  /-- POWER_CAP_EVALUATION (R522): Every 100 µs enforces the effective cap by the steps in order, or undoes them. -/
  | powerCapEvaluation (power : Nat)
  /-- DRBG_RESEED (R432): A DRBG instance reseeds after 65,536 requests or 100 ms. -/
  | drbgReseed (unit : Nat) (gathered : Bool)
  /-- ENTROPY_RETRY (R433): A stopped DRBG instance retries its reseed every 100 ms, and entropy reads FAILED after 1 s. -/
  | entropyRetry (unit : Nat) (gathered : Bool)
  /-- CHALLENGE_EXPIRY (R423): An outstanding nonce expires 600 s after issue. -/
  | challengeExpiry (purpose : Nat)
  /-- BLOCK_FAULT (R504): A block-level fault isolates the cell and replays its work on a spare. -/
  | blockFault (kind index : Nat) (resends : Nat := 0)
  /-- REGION_REINIT_DONE (R504): A region-level re-initialisation of a block ends and BLOCK_REINIT clears. -/
  | regionReinitDone
  /-- LOCKSTEP_MISMATCH (R508): A lockstep mismatch halts the active Warden pair and starts the standby takeover. -/
  | lockstepMismatch
  /-- WARDEN_TAKEOVER_DONE (R508): The standby pair becomes active and replays from the last checkpoint. -/
  | wardenTakeoverDone (good : Bool)
  /-- WARDEN_SELF_TEST_DONE (R509): The halted pair's self-test ends, making it the standby or switching it off. -/
  | wardenSelfTestDone (passed : Bool)
  /-- ISLAND_RESET_REQUEST (R514): A reset of one side of a crossing flushes the other half and resumes after the acknowledge. -/
  | islandResetRequest (island : Nat)
  /-- ISLAND_CLOCK_STOP (R515): An island clock with no edge for 64 µs is marked stopped. -/
  | islandClockStop (island : Nat)
  /-- HOST_SCK_EDGE (R153): A host SCK edge during a command captures opcode, address and data bits, forms the opcode and address verdicts and reaches the cut points of the blocking methods. -/
  | hostSckEdge (port : Nat) (rise : Bool) (hostDq flashDq : Nat) (late : Bool) (differ : Nat)
  /-- ISLAND_CLOCK_RETURN (R514): A stopped island clock resumes: CLOCK_RUNNING returns to 1, the island flushes its half of the crossing and leaves reset, and stalled data transfers continue. -/
  | islandClockReturn (island : Nat)
  /-- VDDIO_IN_RANGE (R529): A port side's VDDIO returns within range, so the port again reads its host inputs or drives its flash side. -/
  | vddioInRange (port : Nat) (flashSide : Bool)
  /-- TAMPER_DETECTOR_DEASSERT (R441): A continuous tamper detector deasserts, clearing its EMB_TAMPER_ACTIVE bit and re-arming event counting after 1 µs. -/
  | tamperDetectorDeassert (source : Nat)
  /-- TIME_SLEW_END (R481): A slew of the wall time finishes applying its correction and SLEWING returns to 0. -/
  | timeSlewEnd
  /-- HOST_READ_COMPLETION (R36): Host memory answers a DMA read of a submission entry, digest, list or image, and the waiting fetch or command proceeds. -/
  | hostReadCompletion (queue cid : Nat) (data : Bytes)
  /-- DYNAMIC_ADDRESS_ASSIGNMENT (R351): The I3C controller assigns a dynamic address to the ZCP target or MCTP target on MB0 or MB1 by SETDASA or ENTDAA. -/
  | dynamicAddressAssignment (target : Target) (mctp : Bool) (address : Nat)
  /-- SMBUS_CLOCK_LOW_TIMEOUT (R535): An SMBus clock held low for 25 ms to 35 ms makes the SB0 or SB1 target release the bus. -/
  | smbusClockLowTimeout (target : Target)
  deriving DecidableEq, Repr

end Sys2Proof
end

