-- ==== Sys2Proof/Config.lean ====
section
/-! DEFINITION. What the spec leaves open and what it takes from outside itself: free values, and the cryptographic
functions of the standards it names. None has a body, so nothing can be proved of a value of one. -/
namespace Sys2Proof

/-- An entry of a lane bundle's manifest (R66): the component type (1 Hammer microcode, 2 Anvil decoder table, 3 Bellows
parameter table), the lane or port mask it is meant for, its payload's offset and length in the bundle, and the payload's
digest. -/
structure BundleEntry where
  kind : Nat := 0
  target : Nat := 0
  offset : Nat := 0
  length : Nat := 0
  digest : Bytes := []
  deriving DecidableEq, Repr

/-- The content of a device's certificate (R349, Table 10-2). An absent path length is none. -/
structure CertBody where
  serial : Bytes := []
  issuer : Bytes := []
  subject : Bytes := []
  notBefore : String := "20240101000000Z"
  notAfter : String := "99991231235959Z"
  isCa : Bool := false
  pathLen : Option Nat := none
  keyCertSign : Bool := false
  digitalSignature : Bool := true
  keyAlgorithm : String := ""
  key : Bytes := []
  fwids : List Bytes := []
  svn : Option Nat := none
  debugFlag : Bool := false
  deriving DecidableEq, Repr

end Sys2Proof

namespace Sys2Proof.Config

/-- A free value: what the machine does where the spec states no value, one for each draw (log entry 3). -/
opaque freeValue : Nat → Nat

/-- Bytes that the entropy source and a DRBG instance deliver: draw number and length (R432, log entry 4). -/
opaque randomBytes : Nat → Nat → Bytes

/-- A hash of Table 6-14's ALG codes 0 to 5 over data, with an output length for SHAKE256 (log entry 5). -/
opaque hash : Nat → Bytes → Nat → Bytes

/-- HMAC with the hash of the code, key, data (log entry 5). -/
opaque hmac : Nat → Bytes → Bytes → Bytes

/-- The SPDM key schedule (Table 10-5): input key, label, context, output length (log entry 5). -/
opaque keySchedule : Bytes → Bytes → Bytes → Nat → Bytes

/-- The public key of a private key, for an algorithm code of Table 9-1 (log entry 5). -/
opaque publicKey : Nat → Bytes → Bytes

/-- A signature by a private key over the input that its operation takes, with fresh randomness: algorithm, key, input, draw
(log entry 5). -/
opaque sign : Nat → Bytes → Bytes → Nat → Bytes

/-- Whether a signature verifies over the input that its operation takes: algorithm, public key, input, signature (log entry
5). -/
opaque verify : Nat → Bytes → Bytes → Bytes → Bool

/-- The output of an operation of Table 7-2 on its input, with fresh randomness: operation, input, draw (log entry 5). -/
opaque pkResult : Nat → Bytes → Nat → Bytes

/-- The shared secret of ECDH P-384: private key and peer's point (log entry 5). -/
opaque ecdh : Bytes → Bytes → Bytes

/-- A secured SPDM message: key, payload, message number (log entry 5). -/
opaque sealMessage : Bytes → Bytes → Nat → Bytes

/-- The DER encoding of the part of an X.509 certificate that is signed (log entry 5). -/
opaque derTbs : CertBody → Bytes

/-- The DER encoding of a certificate from its signed part and its ecdsa-with-SHA384 signature (log entry 5). -/
opaque derCert : Bytes → Bytes → Bytes

/-- The public key, the validity of its own signature form, and the issuer's key check of a DER certificate chain
(log entry 5): what a check of a chain of certificates against a root finds. -/
opaque chainValid : List Bytes → Bool

/-- The public key that a DER certificate carries (log entry 5). -/
opaque certKey : Bytes → Bytes

/-- The public key whose digest OTP holds, which the part's immutable code carries: the maker and YDAS keys (log
entry 5). -/
opaque keyOfDigest : Bytes → Bytes

/-- The manifest of a lane bundle, signatures included: the spec gives its fields but no layout (log entry 21). -/
opaque bundleManifest : Bytes → Bytes

/-- A number of a lane bundle's manifest (R66; log entry 21): 0 format, 1 security version, 2 lowest Warden security
version, 4 microcode build, 5 and 6 the offsets of its ECDSA and LMS signatures, 7 the length of the LMS signature. -/
opaque bundleNumber : Nat → Bytes → Nat

/-- The entries of a lane bundle's manifest (R66; log entry 21); none where they do not have the manifest's form. -/
opaque bundleEntries : Bytes → Option (List BundleEntry)

/-- The unsolicited status frame of the serial loader, whose content the spec does not give: the draw (R75; log entry
22). -/
opaque statusFrame : Nat → Bytes

/-- The pattern bits of the eight meshes in a sample, three for each mesh, that the pattern key and the number of the sample
give (R442, log entry 106); an empty key stands for the fixed pattern of R456. -/
opaque meshPattern : Bytes → Nat → Nat

/-- The status of a firmware command that refuses an image or a copy, for which the spec names none: the cause (R78; log
entry 23). -/
opaque imageStatus : Nat → Nat

/-- The layout of FW_STATUS's result, which the spec does not give, over the values it holds (Table 2-13; log entry 24). -/
opaque fwStatus : List Nat → Bytes

/-- The descriptors that the PLDM firmware device names itself by (R82; log entry 25). -/
opaque pldmIdentifiers : Bytes

/-- The part is of the extended temperature grade, −40 °C to 105 °C, and not of the one from 0 °C to 105 °C (R20; log
entry 26). -/
opaque extendedGrade : Bool

/-- The version entries of an MCTP message type, 4 bytes each (R353; log entry 27). -/
opaque mctpVersions : Nat → Bytes

end Sys2Proof.Config
end

