-- ==== Sys2Proof/Machine/Bytes.lean ====
section
/-! DEFINITION. Bit-field, byte-order and sparse-table helpers that every later file uses. -/
namespace Sys2Proof

/-- The low 8 bits of n. -/
def byte (n : Nat) : Byte := BitVec.ofNat 8 n

/-- v in n bytes, little-endian (R6: registers and ZCP entries are little-endian). -/
def le : Nat → Nat → Bytes
  | 0, _ => []
  | n + 1, v => byte v :: le n (v / 256)

/-- v in n bytes, big-endian. -/
def be (n v : Nat) : Bytes := (le n v).reverse

/-- The number that little-endian bytes spell. -/
def leNat : Bytes → Nat
  | [] => 0
  | b :: bs => b.toNat + 256 * leNat bs

/-- The number that big-endian bytes spell. -/
def beNat (b : Bytes) : Nat := leNat b.reverse

/-- n zero bytes. -/
def zeros (n : Nat) : Bytes := List.replicate n 0

/-- b cut or filled with zero bytes to exactly n bytes. -/
def fixLen : Nat → Bytes → Bytes
  | 0, _ => []
  | n + 1, [] => 0 :: fixLen n []
  | n + 1, b :: bs => b :: fixLen n bs

/-- n bytes of b from offset off; bytes beyond the end read 0. -/
def slice (b : Bytes) (off n : Nat) : Bytes := fixLen n (b.drop off)

/-- The n-byte little-endian field of b at offset off. -/
def fld (b : Bytes) (off n : Nat) : Nat := leNat (slice b off n)

/-- b with new written over it at offset off (b's length is kept when new lies inside it). -/
def patch (b : Bytes) (off : Nat) (new : Bytes) : Bytes :=
  b.take off ++ new ++ b.drop (off + new.length)

/-- Every byte of b is 0. -/
def allZero (b : Bytes) : Bool := b.all (· == 0)

/-- The w-bit field of n at bit lo. -/
def bits (n lo w : Nat) : Nat := n / 2 ^ lo % 2 ^ w

/-- v placed as a w-bit field at bit lo of a word that is otherwise 0. -/
def put (lo w v : Nat) : Nat := v % 2 ^ w * 2 ^ lo

/-- 1 for true, 0 for false. -/
def b2n (b : Bool) : Nat := if b then 1 else 0

/-- a + b, saturating at the top of w bits. -/
def satAdd (w a b : Nat) : Nat := min (a + b) (2 ^ w - 1)

/-- n as a signed number of w bits. -/
def toSigned (w n : Nat) : Int := if n % 2 ^ w < 2 ^ (w - 1) then (n % 2 ^ w : Nat) else ((n % 2 ^ w : Nat) : Int) - 2 ^ w

/-- The w-bit two's complement of i. -/
def ofSigned (w : Nat) (i : Int) : Nat := (i % (2 ^ w : Int)).toNat

/-- The low w bits of a or of b. -/
def bor (a b : Nat) : Nat := a ||| b

/-- Bit i of n set. -/
def setBit (n i : Nat) : Nat := n ||| 2 ^ i

/-- Bit i of n cleared. -/
def clrBit (n i : Nat) : Nat := if n.testBit i then n - 2 ^ i else n

/-- Bit i of n made equal to v. -/
def putBit (n i : Nat) (v : Bool) : Nat := if v then setBit n i else clrBit n i

/-- The bits of n that are 1 in m cleared, over w bits (a W1C write of m, R8). -/
def w1c (w n m : Nat) : Nat := n &&& (2 ^ w - 1 - m % 2 ^ w)

/-- How many of the low w bits of n are 1. -/
def popCount : Nat → Nat → Nat
  | 0, _ => 0
  | w + 1, n => n % 2 + popCount w (n / 2)

/-- The position of the lowest 1 among the low w bits of n. -/
def lowestBit (w n : Nat) : Option Nat := (List.range w).find? (fun i => n.testBit i)

/-- The number of 0 bytes needed to bring n up to a multiple of a. -/
def padTo (a n : Nat) : Nat := (a - n % a) % a

/-- a divided by b, rounded up. -/
def ceilDiv (a b : Nat) : Nat := (a + b - 1) / b

/-- Chunks of n bytes (the last may be shorter), at most fuel of them. -/
def chunks (n : Nat) : Nat → Bytes → List Bytes
  | 0, _ => []
  | fuel + 1, b => if b.isEmpty then [] else b.take n :: chunks n fuel (b.drop n)

namespace Tab
variable {α : Type}

/-- The value under key k, d where the table lists none. -/
def get (t : Tab α) (k : Nat) (d : α) : α :=
  match t with
  | [] => d
  | (j, v) :: t => if j = k then v else get t k d

/-- t without an entry for k. -/
def del (t : Tab α) (k : Nat) : Tab α :=
  match t with
  | [] => []
  | (j, v) :: t => if j = k then del t k else (j, v) :: del t k

/-- t with v under key k, in its place in the rising order. -/
def ins (t : Tab α) (k : Nat) (v : α) : Tab α :=
  match t with
  | [] => [(k, v)]
  | (j, w) :: t => if k < j then (k, v) :: (j, w) :: t else if j = k then (k, v) :: t else (j, w) :: ins t k v

/-- t with value v under key k; a value equal to the default d is not listed. -/
def set [DecidableEq α] (t : Tab α) (k : Nat) (d v : α) : Tab α := if v = d then t.del k else t.ins k v

/-- t with the value under key k changed by f. -/
def upd [DecidableEq α] (t : Tab α) (k : Nat) (d : α) (f : α → α) : Tab α := t.set k d (f (t.get k d))

/-- Every key of t is above k. -/
def above (t : Tab α) (k : Nat) : Bool := t.all (fun p => decide (k < p.1))

/-- The canonical form: keys strictly rising, no entry equal to the default d. -/
def wf [DecidableEq α] (d : α) (t : Tab α) : Bool :=
  match t with
  | [] => true
  | (k, v) :: t => decide (v ≠ d) && above t k && wf d t

/-- The keys that t lists. -/
def keys (t : Tab α) : List Nat := t.map Prod.fst

end Tab


end Sys2Proof
end

