-- ==== Sys2Proof/Machine/State.lean ====
section
/-! DEFINITION. The state of the VG2560 as plain data, one structure per subsystem of Table 1-1, its value at
reset, and the reasons a step can stop. Each field's default value is its value at reset. -/
namespace Sys2Proof.Machine

/-- Why a step stops with a fault. -/
inductive Fault where
  /-- No meaning raises it: every command of the table has an effect (safe). It keeps the type inhabited. -/
  | unreachable
  deriving DecidableEq, Repr

/-- Why a step is refused. -/
inductive Refusal where
  /-- Raised by exec for a command that has no meaning yet (safe). -/
  | notModelled (mnemonic : String)
  deriving DecidableEq, Repr

/-! ### Chapter 15: the Logbook -/

/-- An event on its way to the Logbook (R485, R489, R490). -/
structure LogEv where
  code : Nat := 0
  rung : Nat := 6
  cls : Nat := 0
  idx : Nat := 0
  /-- true when the owning chapter gives PARAMETERS a layout of its own (R492 case 3). -/
  own : Bool := false
  params : Bytes := []
  dmt : Nat := 0
  gap : Bool := false
  held : Bool := false
  /-- Island code the event waited on, 0 for none (R495). -/
  island : Nat := 0
  deriving DecidableEq, Repr

/-- A Logbook record (Table 15-1), with the bookkeeping that R493 and R494 need while it is OPEN. -/
structure LogRec where
  seq : Nat := 0
  opSeconds : Nat := 0
  powerCycles : Nat := 0
  rung : Nat := 0
  dmt : Nat := 0
  cls : Nat := 0
  idx : Nat := 0
  code : Nat := 0
  repeats : Nat := 1
  isOpen : Bool := false
  storm : Bool := false
  stormHead : Bool := false
  merged : Bool := false
  held : Bool := false
  gap : Bool := false
  spanSat : Bool := false
  hint : Nat := 0
  own : Bool := false
  params : Bytes := []
  lastDelta : Nat := 0
  /-- REPEAT_WINDOW_MS in force when the record was opened (R502). -/
  windowMs : Nat := 0
  /-- Sources that joined a storm, and the island each waited on (R495). -/
  joined : List (Nat × Nat) := []
  deriving DecidableEq, Repr

/-- The Logbook (chapter 15). -/
structure Lgb where
  records : List LogRec := []
  /-- Places of the record area that are not retired (Table 16-2). -/
  places : Nat := 65536
  nextSeq : Nat := 1
  ackedSeq : Nat := 0
  staging : List LogEv := []
  /-- Events held by the Guard Region, and how many more it had no room for (R490). -/
  heldGuard : List LogEv := []
  overGuard : Nat := 0
  /-- Events held by the Forge Region, and how many more it had no room for (R490). -/
  heldForge : List LogEv := []
  overForge : Nat := 0
  running : Bool := false
  lastMark : Nat := 0
  fillHit : Bool := false
  evictHit : Bool := false
  dropHit : Bool := false
  cursorLow : Nat := 0
  cursorHigh : Nat := 0
  window : List LogRec := []
  windowSkipped : Bool := false
  dropped : Nat := 0
  evicted : Nat := 0
  storms : Nat := 0
  fillCount : Nat := 0
  /-- DROPPED and EVICTED since device start (LOG_STATUS). -/
  droppedStart : Nat := 0
  evictedStart : Nat := 0
  deriving DecidableEq, Repr

/-! ### Chapter 08: the Command Engine -/

/-- What work of the device's own on its lanes finds (R205, R254 to R256): nothing is tried or waits; it is tried; it waits for a
powered Hammer lane to be idle; it waits for lanes that the budget has gated; or it waits for a shared Bellows lane. -/
inductive LaneWait where
  | none | trying | lane | beyond | bellows
  deriving DecidableEq, Repr

/-- A command fetched and not yet completed (R291). -/
structure Flight where
  cid : Nat := 0
  /-- Its number, which no other command in flight has. -/
  uid : Nat := 0
  fence : Bool := false
  noInt : Bool := false
  /-- It has been handed on and runs, or waits for the event that ends it. -/
  started : Bool := false
  /-- The island that a crossing of it waits on (R309), 0 for none, and the DMT at which the crossing began. -/
  island : Nat := 0
  islandAt : Nat := 0
  /-- What it waits for on the lanes; its row, sent again, carries it out. -/
  waits : LaneWait := .none
  /-- Its completion is never written (R294). -/
  orphan : Bool := false
  entry : Bytes := []
  data : Bytes := []
  deriving DecidableEq, Repr

/-- Data the part writes to memory of a function: address and bytes. -/
structure HostWrite where
  addr : Nat := 0
  data : Bytes := []
  deriving DecidableEq, Repr

/-- What a receipt was counted as when it was issued: its queue, period and number, and the digests of a batch, 0 for a single
one (R334). -/
structure Issue where
  queue : Nat := 0
  period : Nat := 0
  seq : Nat := 0
  digests : Nat := 0
  deriving DecidableEq, Repr

/-- A finished command whose completion is not yet written (R288). -/
structure Completion where
  src : Src
  cid : Nat := 0
  status : Nat := 0
  carriedOut : Bool := false
  rung : Nat := 7
  isAsync : Bool := false
  noInt : Bool := false
  result : Bytes := []
  resultAddr : Nat := 0
  out : List HostWrite := []
  /-- The receipt that it carries, whose write to host memory has not begun (R331). -/
  issue : Option Issue := none
  deriving DecidableEq, Repr

/-- CME_Q_STATE.STATE (Table 8-13). -/
inductive QState where
  | closed | opened | closing | error
  deriving DecidableEq, Repr

/-- The registers of a function for one queue that it selects: CME_Q_CFG, the ring bases and RESULT (Table 8-13). -/
structure QRegs where
  depthLog2 : Nat := 4
  version : Nat := 0x10
  async : Bool := false
  intEnable : Bool := false
  vector : Nat := 0
  wm : Nat := 0
  coalUs : Nat := 0
  sqBase : Nat := 0
  cqBase : Nat := 0
  result : Nat := 0
  deriving DecidableEq, Repr

/-- A queue pair: the function and the configuration that it was opened with, its ring indices and its commands in flight
(R290 to R294). -/
structure Queue where
  /-- The function that opened it. -/
  fn : Nat := 0
  depthLog2 : Nat := 4
  version : Nat := 0x10
  async : Bool := false
  intEnable : Bool := false
  vector : Nat := 0
  wm : Nat := 0
  coalUs : Nat := 0
  sqBase : Nat := 0
  cqBase : Nat := 0
  state : QState := .closed
  lastCause : Nat := 0
  /-- The INDEX of each doorbell as last written to the OPEN queue, in range or not (Table 8-5). -/
  sqDoorbell : Nat := 0
  cqDoorbell : Nat := 0
  /-- SQ_TAIL and CQ_HEAD as last taken, the next entry to fetch, and the next completion place. -/
  sqTail : Nat := 0
  cqHead : Nat := 0
  sqHead : Nat := 0
  cqTail : Nat := 0
  phase : Bool := true
  flights : List Flight := []
  done : List Completion := []
  /-- DMT at which CLOSE began to wait. -/
  closingAt : Nat := 0
  /-- DMT at which a deferred message is due (R301). -/
  coalDue : Option Nat := none
  wmHit : Bool := false
  wmCount : Nat := 0
  /-- The context is retired by a fault (Table 16-2). -/
  retired : Bool := false
  deriving DecidableEq, Repr

/-- A function's MSI-X capability, table and pending bits (R279, R300), with the reset values of the PCIe rules: disabled, and
every vector masked (log entry 70). -/
structure Msix where
  enable : Bool := false
  functionMask : Bool := false
  /-- The vectors whose mask bit is 0. -/
  unmasked : List Nat := []
  pending : List Nat := []
  /-- The message address and data words of the table, by word index, four words a vector. -/
  words : Tab Nat := []
  deriving DecidableEq, Repr

/-- One function's part of the function control block (Table 8-13). -/
structure FnBlock where
  grantsChanged : Bool := false
  islandHit : Bool := false
  lastIsland : Nat := 0
  bmeLost : Bool := false
  stray : Nat := 0
  qSelect : Nat := 0
  /-- CME_Q_CFG, the ring bases and RESULT of each queue, as the function has written them. -/
  queues : Tab QRegs := []
  msix : Msix := {}
  /-- The base addresses in its BAR0 and BAR2 (for a VF, those of the SR-IOV capability's VF BARs). -/
  bar0 : Nat := 0
  bar2 : Nat := 0
  readFault : Nat := 0
  readFaultKind : Nat := 0
  /-- The high words that reads of low words latched, by the address they are read at (R12). -/
  latches : Tab (Option Nat) := []
  deriving DecidableEq, Repr

/-- A pending asynchronous event of a queue group (R305). -/
structure AsyncEv where
  code : Nat := 0
  count : Nat := 1
  rung : Nat := 6
  hintClass : Nat := 0
  hintIndex : Nat := 0
  mask : Nat := 0
  /-- The Logbook sequence number of the first occurrence, 0 until its record is written. -/
  logSeq : Nat := 0
  /-- The code of the first occurrence where it was counted as an overflow, else 0 (R305). -/
  first : Nat := 0
  /-- A GROUP event (R304); false for MANAGEMENT. -/
  grouped : Bool := false
  /-- The DMT of the first occurrence. -/
  dmt : Nat := 0
  deriving DecidableEq, Repr

/-- A framed session on MB0, MB1, SB0, SB1 or UART0 (R297, R306, R307). -/
structure Session where
  version : Nat := 0x10
  maxFragment : Nat := 240
  /-- The message being assembled: its MSG_SEQ, the next FRAG and the bytes so far. -/
  building : Option (Nat × Nat × Bytes) := none
  lastFragAt : Nat := 0
  /-- A complete command message waiting for or under execution: its MSG_SEQ. -/
  running : Option Nat := none
  flights : List Flight := []
  done : List Completion := []
  /-- The last command completed and its stored response. -/
  lastSeq : Option Nat := none
  lastResponse : Bytes := []
  /-- Response frames not yet read, oldest first. -/
  frames : List Bytes := []
  /-- An IBI with data byte 0xAE is due (Table 8-17). -/
  ibi : Bool := false
  dynAddr : Nat := 0
  /-- UART0: the rate, the rate to return to, and when (R299). -/
  baud : Nat := 115200
  oldBaud : Nat := 115200
  revertAt : Option Nat := none
  /-- UART0: the rate that takes effect after the last byte of the response, 0 for none. -/
  nextBaud : Nat := 0
  /-- SMBus: the bus is held by the target's transfer (R535). -/
  busy : Bool := false
  deriving DecidableEq, Repr

/-- A message held in the outbox (R308). -/
structure OutMsg where
  rung : Nat := 6
  bus : Target
  /-- The transmission units that have not been acknowledged (R351). -/
  units : List Bytes := []
  /-- Retries made so far, and when the next is due. -/
  tries : Nat := 0
  dueAt : Nat := 0
  deriving DecidableEq, Repr

/-- An access to a register behind an island whose clock has stopped: it waits for its crossing (R309). -/
structure RegAccess where
  fn : Nat := 0
  addr : Nat := 0
  /-- The value of a write; none for a read. -/
  write : Option Nat := none
  at_ : Nat := 0
  deriving DecidableEq, Repr

/-- Weighted round robin of one class (R295): the queue whose turn it is, and the entries it may still fetch. -/
structure Turn where
  queue : Nat := 0
  left : Nat := 0
  deriving DecidableEq, Repr

/-- The Command Engine (chapter 08). -/
structure Cme where
  queues : Tab Queue := []
  /-- The number of the next command in flight. -/
  nextUid : Nat := 0
  fns : Tab FnBlock := []
  asyncs : Tab (List AsyncEv) := []
  merged : Nat := 0
  islandTimeouts : Nat := 0
  mb0 : Session := {}
  mb1 : Session := {}
  sb0 : Session := {}
  sb1 : Session := {}
  uart0 : Session := { maxFragment := 4096 }
  outbox : List OutMsg := []
  outboxHit : Bool := false
  outboxCrossings : Nat := 0
  outboxDrops : Nat := 0
  express : Turn := {}
  standard : Turn := {}
  bulk : Turn := {}
  /-- Fetching is stopped while an activation waits (R81). -/
  draining : Bool := false
  /-- The register accesses that wait for an island, oldest first (R309). -/
  accesses : List RegAccess := []
  /-- The JTAG mailbox: the response frames in its data register, and whether a command runs (R438). -/
  jtagResponse : Bytes := []
  jtagFlights : List Flight := []
  jtagSession : Session := { maxFragment := 4096 }
  deriving DecidableEq, Repr

/-- A transaction of a port's own sequencer on a flash device: interface (Table 4-7), clock in MHz, opcode, address with its
number of bytes, dummy clocks, the data sent, and the number of bytes read. -/
structure FlashXfer where
  device : Nat := 0
  iface : Nat := 0
  mhz : Nat := 50
  opcode : Nat := 0
  addr : Nat := 0
  addrBytes : Nat := 0
  dummy : Nat := 0
  data : Bytes := []
  read : Nat := 0
  deriving DecidableEq, Repr

/-- What the part last put on its interfaces: the model's own output latch. -/
structure Io where
  /-- The answer to the last register read. -/
  readData : Option Nat := none
  /-- The last submission entry that was read from host memory: function and address (R290). -/
  fetch : Option (Nat × Nat) := none
  /-- What the last command wrote to host memory: function, address, bytes. -/
  dma : List (Nat × HostWrite) := []
  /-- The last MSI-X message: function and vector. -/
  msix : Option (Nat × Nat) := none
  /-- The transmission units of the last MCTP, PLDM or SPDM message sent over PCIe, or the unit last acknowledged on another bus
  (R308, R351). -/
  mctp : List Bytes := []
  /-- The last frame sent. -/
  frame : Bytes := []
  /-- The transactions that the ports' own sequencers sent at the DMT flashAt, the last at which they sent any, in order (R145,
  R228, R229, R388, R559). -/
  flash : List FlashXfer := []
  flashAt : Nat := 0
  /-- Where the last stored block was read (R379, R384): the cartridge slot, or 4 for host memory, and the byte address. -/
  stagedFrom : Option (Nat × Nat) := none
  deriving DecidableEq, Repr

/-! ### Chapters 01 and 16: the Spine -/

/-- STATE of SPN_TEMPER_STATUS (Table 1-4). -/
inductive TemperState where
  | startup | tracking | capLimited | atFloor | avsHold
  deriving DecidableEq, Repr

/-- A yield in progress (R44). -/
structure Yield where
  winner : Nat := 0
  yielder : Nat := 0
  cls : Nat := 0
  idx : Nat := 0
  begun : Nat := 0
  /-- Which of several parties that yield the same resource it is. -/
  tag : Nat := 0
  deriving DecidableEq, Repr

/-- The crossing into an island: the events merged into the activation that its toggle carries, and whether more came than
its count of 255 holds (R513). -/
structure Crossing where
  count : Nat := 0
  saturated : Bool := false
  deriving DecidableEq, Repr

/-- The Spine: temper loop, power cap, faults, islands and domains (chapters 01 and 16). -/
structure Spn where
  vcoreMv : Nat := 0
  temper : TemperState := .startup
  avsFault : Bool := false
  /-- When the next retry is due in AVS_HOLD (R27), and the last evaluations of the loop and of the cap. -/
  avsRetryAt : Nat := 0
  temperAt : Nat := 0
  capAt : Nat := 0
  /-- DMT since which no condition of R26 at half its threshold has held. -/
  calmSince : Nat := 0
  /-- The ceiling in force, in mV (R24, step 1 of Table 16-8). -/
  ceilingMv : Nat := 900
  /-- Utilisation of Bellows as last measured, in percent (R26). -/
  bellowsPct : Nat := 0
  /-- Hottest junction sensor in °C, device power and regulator current as last measured. -/
  tj : Int := 25
  power : Nat := 0
  currentTenMa : Nat := 0
  capHit : Bool := false
  yields : List Yield := []
  yieldCount : Nat := 0
  /-- SERVICE_STATE of Table 16-3, with bits 0 to 2 computed from the units they show. -/
  service : Nat := 0
  changeHit : Bool := false
  activePair : Nat := 0
  standbyReady : Bool := false
  takeovers : Nat := 0
  restarts : Nat := 0
  /-- Lockstep failures of each pair in this device start, and whether its domain is switched off (R509). -/
  lockFails : List Nat := [0, 0]
  pairOff : List Bool := [false, false]
  /-- The pair under self-test (R509). -/
  testingPair : Option Nat := none
  /-- The standby pair that is taking over (R508). -/
  takeoverTo : Option Nat := none
  corrected : Nat := 0
  remapped : Nat := 0
  reinit : Nat := 0
  /-- The blocks under region-level re-initialisation, oldest first (R504). -/
  reinitBlocks : List Nat := []
  /-- DMT of the last block-level fault of each block (R504: a second within 1 s). -/
  lastFault : Tab Nat := []
  /-- Spare wind-up channels, queue contexts and MRAM pool bytes left (Table 16-2). -/
  windSpares : Nat := 8
  queueSpares : Nat := 64
  mramSpare : Nat := 65536
  /-- Groups of 512 SRAM rows whose one spare row is used. -/
  rowsUsed : List Nat := []
  mramDegraded : Bool := false
  /-- Clock running and in reset, one bit an island code (Table 16-10). -/
  clockRunning : Nat := 0
  inReset : Nat := 0x7E
  crossSat : List Nat := [0, 0, 0, 0, 0, 0, 0]
  /-- The crossings whose toggle is not acknowledged, by island code (R512, R513). -/
  crossings : Tab Crossing := []
  /-- Domains switched on in this device start, and when the last one was. -/
  domains : Nat := 0
  domainAt : Nat := 0
  capSetting : Nat := 152
  thermalCap : Nat := 152
  byCommand : Bool := false
  capStep : Nat := 0
  /-- Digest lane pairs gated under step 3 of Table 16-8. -/
  pairsGated : List Nat := []
  /-- DMT since which POWER has been at least 0.5 W below the cap; of the floor; of the last overrun record. -/
  belowSince : Option Nat := none
  floorSince : Option Nat := none
  overrunAt : Nat := 0
  deriving DecidableEq, Repr

/-! ### Chapter 02: device start -/

/-- SPN_BOOT_STATUS.PHASE (Table 2-9). -/
inductive Phase where
  | guardDefault | firstStage | lcComplete | wardenVerify | bundleLoad | bundleVerify | policyLoad | operational
  | noPolicy | cartridgeSearch | serialLoader | scrapped | controlRestart
  deriving DecidableEq, Repr

/-- State of a firmware copy in the boot record. -/
inductive CopyState where
  | empty | valid | failed
  deriving DecidableEq, Repr

/-- A Warden copy in MRAM and its line of the boot record. -/
structure WardenCopy where
  state : CopyState := .empty
  restarts : Nat := 0
  image : Bytes := []
  deriving DecidableEq, Repr

/-- What the boot record holds of a lane bundle copy in boot memory. -/
structure BundleCopy where
  state : CopyState := .empty
  svn : Nat := 0
  minWarden : Nat := 0
  /-- Staging has emptied it and not completed: it stays EMPTY and is never tried (R79). -/
  staging : Bool := false
  deriving DecidableEq, Repr

/-- The boot header of the boot memory, as the loader reads it (R64, R65, Table 2-6). -/
structure BootHeader where
  /-- The loader has read it in this device start. -/
  read : Bool := false
  /-- It passed its CRC and has the right MAGIC. -/
  good : Bool := false
  quad : Bool := false
  fullSpeed : Bool := false
  /-- The lengths of copies A and B in CRC blocks, 0 for an empty one, and the copy that PREFERRED names. -/
  blocksA : Nat := 0
  blocksB : Nat := 0
  preferred : Nat := 0
  deriving DecidableEq, Repr

/-- Where a firmware update came from (R83). -/
inductive UpdateVia where
  | zcp | pldm | serial
  deriving DecidableEq, Repr

/-- The PLDM Type 5 states of an update in progress (R82). -/
inductive PldmState where
  | idle | learn | ready | download | verify | apply | activate
  deriving DecidableEq, Repr

/-- The firmware update in progress (R83). -/
structure Update where
  via : UpdateVia := .zcp
  /-- PLDM: the binding of the update agent. -/
  binding : Nat := 0
  /-- 1 Warden image, 2 lane bundle; copy 1 A, 2 B. -/
  component : Nat := 1
  copy : Nat := 1
  lastProgress : Nat := 0
  image : Bytes := []
  size : Nat := 0
  maxTransfer : Nat := 0
  pldm : PldmState := .idle
  verified : Bool := false
  /-- What the lanes will do for its signatures, two bits each (log entry 81). -/
  verdicts : Nat := 0
  /-- PLDM: components still to be passed, and those applied (component, copy). -/
  left : Nat := 0
  applied : List (Nat × Nat) := []
  /-- A FW_STAGE or FW_ACTIVATE that yields to a recovery, the second one true for FW_ACTIVATE (R84). -/
  waiter : Option (Hdr × Bool) := none
  deriving DecidableEq, Repr

/-- Device start (chapter 02). -/
structure Boot where
  pwrOk : Bool := false
  riseAt : Nat := 0
  /-- The TIME_MARK of this device start has been reported (R491). -/
  timeMarked : Bool := false
  phase : Phase := .guardDefault
  wardenSrc : Nat := 0
  bundleCopy : Nat := 0
  cosigned : Bool := false
  debugAtStart : Nat := 0
  cause : Nat := 0
  lcWipeDone : Bool := false
  repaired : Bool := false
  elapsedUs : Nat := 0
  fwVersion : Nat := 0
  /-- The header of the Warden image that runs; empty while none does. -/
  runHeader : Bytes := []
  /-- A Warden image runs in this run of the Control Region. -/
  imageUp : Bool := false
  /-- The built-in default of R50 has been applied in this start. -/
  guardUp : Bool := false
  /-- The Control Region runs (neither absent nor restarting). -/
  controlUp : Bool := false
  forgeUp : Bool := false
  /-- The offset in the FSP at which the active pair runs the first stage: its second copy after an uncorrectable ECC error
  in the first (R53). -/
  fspVector : Nat := 0
  /-- The first stage has requested the Forge Region (Table 2-2). -/
  forgeAsked : Bool := false
  /-- OPERATIONAL or NO_POLICY has been reached in this device start (Table 2-10). -/
  reached : Bool := false
  /-- The image that runs has reached OPERATIONAL in this run (R60 to R62, R71). -/
  imageOp : Bool := false
  /-- OPERATIONAL has been reached in this device start (R510). -/
  opReached : Bool := false
  /-- The lane bundle has been accepted in this device start (R68). -/
  bundleIn : Bool := false
  /-- Control Region held off until the next device start (R510). -/
  absent : Bool := false
  restartAt : Nat := 0
  perst : Bool := true
  linkTraining : Bool := false
  /-- The link that was last trained, or that trains: its rate, 1 to 4 for 2.5, 5, 8 and 16 GT/s, and its lanes (R279). -/
  linkRate : Nat := 4
  linkLanes : Nat := 4
  preferred : Nat := 0
  copyA : WardenCopy := {}
  copyB : WardenCopy := {}
  bundlePreferred : Nat := 0
  /-- PREFERRED of the boot header as FW_ACTIVATE last wrote it; none while the part has not written it (R81). -/
  headerPreferred : Option Nat := none
  bundleA : BundleCopy := {}
  bundleB : BundleCopy := {}
  header : BootHeader := {}
  /-- The read command and the clock in MHz that the loader uses for the bundle (R65). -/
  loadOpcode : Nat := 0x03
  loadMhz : Nat := 25
  /-- Failures to be logged once the Logbook runs (R76): copy and cause. -/
  failures : List (Nat × Nat) := []
  /-- A debug grant was in force when main power fell: the record of its end is owed (R437). -/
  grantEnded : Bool := false
  update : Option Update := none
  /-- A restart that follows FW_ACTIVATE or LC_TRANSITION, and when its drain of 100 ms ends (R81). -/
  drainUntil : Option Nat := none
  /-- The serial loader has been answered by a peer (R75). -/
  peerSeen : Bool := false
  lastStatusFrame : Nat := 0
  /-- The next cartridge slot of the cartridge search (R73). -/
  searched : Nat := 0
  /-- The DMT at which the search of that slot began. -/
  searchAt : Nat := 0
  /-- The Warden copy whose image runs, and the copy that the serial loader wrote in this device start. -/
  runCopy : Nat := 0
  serialCopy : Option Nat := none
  /-- The bundle copies tried in this device start (R67). -/
  bundleTried : List Nat := []
  /-- DMT of the last fall of PWR_OK, and a rise that waits for 50 µs after it (R539). -/
  fallAt : Option Nat := none
  risePending : Bool := false
  deriving DecidableEq, Repr

/-! ### Chapter 03: the Strings Unit -/

/-- Slot states (Table 3-1). -/
inductive SlotState where
  | absent | held | checking | released | recovering | quarantined
  deriving DecidableEq, Repr

/-- REASON of STR_SLOT_n (Table 3-13). -/
inductive Reason where
  | none | powerOn | waitingDependency | command | rootMismatch | watchdog | violations | pgLoss | busIsolated
  | coupledHold | maxDelay | recoveryFailed | tamperHold | controlRestart | noPolicy | leafMismatch
  deriving DecidableEq, Repr

/-- What a slot's strings are doing. -/
inductive SlotSeq where
  | none | releasing | holding
  deriving DecidableEq, Repr

/-- One component slot (R85 to R88, R105). -/
structure Slot where
  state : SlotState := .held
  checked : Bool := false
  reason : Reason := .powerOn
  /-- DMT at which it entered its state (R87). -/
  changedAt : Option Nat := none
  /-- DMT at which a request last held it while it was RELEASED (R87). -/
  heldAt : Option Nat := none
  /-- It is in CHECKING for the check of a device start (R395). -/
  startCheck : Bool := false
  /-- The check that SLOT_UNQUARANTINE made due waits for an isolated bus (R112, Table 3-2). -/
  checkDue : Bool := false
  holds : Nat := 0
  seq : SlotSeq := .none
  trigAt : Nat := 0
  lastDone : Nat := 0
  /-- The release sequence has completed since the last release trigger. -/
  completed : Bool := false
  /-- A SLOT_RELEASE clearance stands (R86). -/
  cleared : Bool := false
  /-- AUTO_RESTORE has cleared it for the release that R107, R114 or R446 owes it. -/
  restore : Bool := false
  /-- DMT from which it has been cleared with CHECKED 1 (R105). -/
  readyAt : Nat := 0
  /-- A QUARANTINE_DEP fell due while CHECKING (R106). -/
  quarantineDue : Bool := false
  /-- A gated RESET release waits for power-good (R100). -/
  gateWait : Bool := false
  /-- Held by the isolation of a bus that carries one of its strings (R112). -/
  heldByBus : Bool := false
  /-- Held by a tamper source's hold-platform response (R446). -/
  heldByTamper : Bool := false
  /-- Held until a SLOT_RELEASE, its bus restored or its sources cleared with AUTO_RESTORE 0 (R114, R446). -/
  needsRelease : Bool := false
  /-- SLOT_RELEASE commands that wait for the release trigger. -/
  waiters : List Hdr := []
  deriving DecidableEq, Repr

/-- One string: its output level, the change scheduled for it, and its input (R89, R100, R109). -/
structure Str where
  driven : Bool := false
  slack : Bool := false
  /-- A scheduled change: when, and whether to slack. -/
  due : Option (Nat × Bool) := none
  /-- The level on the pin or line from outside, the level last sampled, and since when that one has lasted (R109). -/
  input : Bool := false
  sampled : Bool := false
  since : Nat := 0
  accepted : Bool := false
  /-- Accepted as asserted since its slot's release trigger, and its timeout acted on (R109). -/
  pgSeen : Bool := false
  pgTimedOut : Bool := false
  deriving DecidableEq, Repr

/-- STATE of an XB bus (Table 3-10). -/
inductive BusState where
  | unused | up | retrying | isolated
  deriving DecidableEq, Repr

/-- An XB bus (R111 to R113). -/
structure XBus where
  state : BusState := .unused
  isolatedHit : Bool := false
  retries : Nat := 0
  /-- The expanders being retried: each with the retries made and when the next is due. -/
  retry : List (Nat × Nat × Nat) := []
  /-- Its bring-up at the load or commit of a policy runs (R113). -/
  comingUp : Bool := false
  lastRestore : Nat := 0
  waiters : List Hdr := []
  deriving DecidableEq, Repr

/-- What the dependency rules remember of one edge (R106, R107). -/
structure Edge where
  misses : Nat := 0
  /-- The window of this prerequisite completion (its DMT) has been acted on. -/
  acted : Option Nat := none
  /-- The prerequisite was held by HOLD_PREREQ and waits for the dependant's checks. -/
  holdsPrereq : Bool := false
  /-- The prerequisite completion (its DMT) for which the dependant's release trigger has occurred. -/
  met : Option Nat := none
  /-- The dependant was held through this COUPLED edge. -/
  heldDep : Bool := false
  deriving DecidableEq, Repr

/-- An action latched during a Control Region restart (R511, Table 16-5). -/
inductive Latched where
  | pgLoss (slot : Nat)
  | violations (slot : Nat)
  | leafMismatch (slot : Nat)
  | tamperHold
  | coupledHold (slot : Nat)
  /-- The SFDP check of a slot's device failed (R147). -/
  | wrongPart (slot : Nat)
  deriving DecidableEq, Repr

/-- The Strings Unit (chapter 03). -/
structure Strings where
  slots : Tab Slot := []
  strs : Tab Str := []
  bus0 : XBus := {}
  bus1 : XBus := {}
  bus2 : XBus := {}
  bus3 : XBus := {}
  edges : Tab Edge := []
  change : Bool := false
  latched : List Latched := []
  /-- Slots whose sequences a Control Region restart cut short (R108): slot, and true for a release. -/
  cutShort : List (Nat × Bool) := []
  deriving DecidableEq, Repr

/-! ### Chapters 04 and 05: the Anvil ports and the policy image -/

/-- Port modes (Table 4-4). -/
inductive PortMode where
  | own | pass | gap | frozen
  deriving DecidableEq, Repr

/-- PENDING of APn_MODE (Table 4-15). -/
inductive PendMode where
  | none | own | pass | gap | resetPulse
  deriving DecidableEq, Repr

/-- Interface of the command phase (Table 4-7). -/
inductive Iface where
  | spi | qpi | opiStr | opiDtr
  deriving DecidableEq, Repr

/-- Operation in progress (Table 4-7). -/
inductive Busy where
  | none | program | erase | register
  deriving DecidableEq, Repr

/-- Suspended operations (Table 4-7). -/
inductive Susp where
  | none | erase | program | both
  deriving DecidableEq, Repr

/-- Result of the SFDP check (Table 4-16). -/
inductive Sfdp where
  | notChecked | matches | mismatch | noResponse
  deriving DecidableEq, Repr

/-- The shadow of one flash device (Table 4-7) with the rest of APn_DEV_k. -/
structure Shadow where
  addr4 : Bool := false
  iface : Iface := .spi
  dummy : Nat := 0
  wel : Bool := false
  busy : Busy := .none
  susp : Susp := .none
  suspAddr : Nat := 0
  rstEn : Bool := false
  resync : Bool := false
  /-- A SUSPEND is pending (R138); the most recent suspension when SUSP is BOTH; the erase under way. -/
  suspPending : Bool := false
  lastSusp : Susp := .none
  eraseAddr : Nat := 0
  sfdp : Sfdp := .notChecked
  resyncCause : Nat := 0
  resyncHit : Bool := false
  /-- A software reset in OWN has been sent, and the status read that confirms it is awaited, from a DMT on (R129). -/
  confirm : Bool := false
  confirmFrom : Nat := 0
  /-- The software reset of R143 has been sent inside a window, and the status read that confirms it is awaited. -/
  swReset : Bool := false
  deriving DecidableEq, Repr

/-- One bank of a port's tables (R165): port record, profile, region table and violation rules of an epoch. -/
structure Bank where
  epoch : Nat := 0
  record : Bytes := []
  profile : Bytes := []
  regions : Bytes := []
  rules : Bytes := []
  /-- The device records of its two devices (R237). -/
  dev0 : Bytes := []
  dev1 : Bytes := []
  deriving DecidableEq, Repr

/-- What the filter has decided about a host command. -/
inductive Verdict where
  | pending
  | allowed
  /-- Denied by a method: 0 blinding, 1 chip-select, 2 opcode, 3 extension. -/
  | denied (method : Nat)
  deriving DecidableEq, Repr

/-- A host command in progress, from CS# fall to CS# rise (R119, R153, R183 to R191). -/
structure HostCmd where
  cs : Nat := 0
  bank : Nat := 0
  iface : Iface := .spi
  /-- An SCK edge has occurred (R125). -/
  edged : Bool := false
  /-- Why nothing of it reaches the flash: 0 it does, 1 gated, 2 window or reset pulse, 3 OWN. -/
  blocked : Nat := 0
  rises : Nat := 0
  falls : Nat := 0
  opBits : Nat := 0
  opcode : Nat := 0
  /-- The opcode byte as it leaves for the flash (R189). -/
  sentOpcode : Nat := 0
  ext : Nat := 0
  extBits : Nat := 0
  /-- The extension as it leaves for the flash (R184). -/
  sentExt : Nat := 0
  addr : Nat := 0
  addrBits : Nat := 0
  modeBits : Nat := 0
  /-- The mode byte as the host sent it, and as it leaves for the flash (R174). -/
  modeByte : Nat := 0
  sentMode : Nat := 0
  /-- The data lines have turned from flash to host (R119), and the SCK hold is engaged (R187). -/
  turned : Bool := false
  sckHeld : Bool := false
  dummies : Nat := 0
  acc : Nat := 0
  accBits : Nat := 0
  /-- Data bytes completed, and those captured from the side that drives them. -/
  dataCount : Nat := 0
  data : Bytes := []
  /-- What the host received of a read, after blinding. -/
  hostRx : Bytes := []
  verdict : Verdict := .pending
  kind : Nat := 0
  region : Nat := 0xFF
  /-- The edge that carries out a chip-select cut: clock number, true for a rise. -/
  cutAt : Option (Nat × Bool) := none
  cut : Bool := false
  hostClock : Bool := false
  /-- The fall of the cut's clock has won: the cut is made after that fall, on a rise of the port's own (R187). -/
  lateCut : Bool := false
  recorded : Bool := false
  /-- Decoding has stopped (R194). -/
  stopped : Bool := false
  /-- The frozen or RESYNC gate judges it; it applies no shadow effect. -/
  gated : Bool := false
  /-- How the two decoders differ: 0 not at all, 1 B denies, 2 B allows, 3 the shadow update, 4 B blinds the data (R132). -/
  differ : Nat := 0
  /-- The snoop buffer overflowed (R216). -/
  abandon : Bool := false
  startedAt : Nat := 0
  lastEdge : Nat := 0
  stalled : Bool := false
  deriving DecidableEq, Repr

/-- A host-idle window (R148 to R150). -/
structure Window where
  hdr : Hdr
  durationUs : Nat := 0
  isOpen : Bool := false
  openedAt : Nat := 0
  operations : Nat := 0
  intrusions : Nat := 0
  /-- The chip selects whose shadow WEL was 1 as the window opened (R149). -/
  wel : List Nat := []
  deriving DecidableEq, Repr

/-- One Anvil port (chapter 04). -/
structure Port where
  mode : PortMode := .own
  /-- Changes of what the PSD preimage holds of it (R362). -/
  stirs : Nat := 0
  /-- Its decoder pair has been released: the bundle holds a table for it, and both decoders hold the same one (R68). -/
  decoders : Bool := false
  pending : PendMode := .none
  /-- The device whose RESYNC pulse is pending. -/
  pulseFor : Nat := 0
  pendingSince : Nat := 0
  waitLogged : Bool := false
  /-- A reset pulse runs until this DMT. -/
  pulseUntil : Option Nat := none
  frozenHit : Bool := false
  fVddioLost : Bool := false
  hVddioOk : Bool := true
  fVddioOk : Bool := true
  /-- F_RESET# is driven low. -/
  resetLow : Bool := true
  csLow0 : Bool := false
  csLow1 : Bool := false
  csHighSince : Nat := 0
  /-- The level of the host's SCK. -/
  sckHigh : Bool := false
  dev0 : Shadow := {}
  dev1 : Shadow := {}
  cmdCount : Nat := 0
  truncCount : Nat := 0
  intrusions : Nat := 0
  stalls : Nat := 0
  welAdopt : Nat := 0
  violations : Nat := 0
  bank0 : Bank := {}
  bank1 : Bank := {}
  active : Nat := 0
  swapPending : Bool := false
  cmd : Option HostCmd := none
  /-- The command of the other chip select, where that fell while cmd ran (R125). -/
  other : Option HostCmd := none
  /-- The interface of the last command, which the idle lines keep (R119). -/
  lineIface : Iface := .spi
  /-- DMT until which a reset of R129 drives F_RESET# low. -/
  pulseLowUntil : Nat := 0
  /-- What the host received in its last read command. -/
  lastRx : Bytes := []
  window : Option Window := none
  /-- The port went into OWN as a yield for rung-3 work (Table 4-5). -/
  yielded : Bool := false
  deriving DecidableEq, Repr

/-- Counters of one violation rule (R198). -/
structure RuleCount where
  subs : List Nat := []
  /-- The DMT at which subs was last brought up to date. -/
  subAt : Nat := 0
  trips : Nat := 0
  total : Nat := 0
  deriving DecidableEq, Repr

/-- A policy image held in a slot of the policy store (R155 to R157). -/
structure Image where
  raw : Bytes := []
  format : Nat := 1
  svn : Nat := 0
  id : Bytes := []
  serial : Nat := 0
  binding : Option Bytes := none
  /-- Deterministic encoding of the payload map with keys 7 and 8 removed (Table 10-10). -/
  header : Bytes := []
  sections : Tab Bytes := []
  /-- Whether it has ever been committed (R164). -/
  wasCommitted : Bool := false
  deriving DecidableEq, Repr

/-- The policy store and the epoch switch (R159 to R170). -/
structure Policy where
  slot0 : Option Image := none
  slot1 : Option Image := none
  /-- The commit record: the committed slot, the epoch counter and the DMT of the commit point. -/
  committed : Option Nat := none
  epoch : Nat := 0
  commitDmt : Nat := 0
  /-- The committed image is loaded and in force in this start. -/
  loaded : Bool := false
  fallback : Bool := false
  /-- The POLICY_STAGE whose image is being read from host memory: its source and CID (R160). -/
  staging : Option (Src × Nat) := none
  /-- The image being written into the slot that is not committed, for a POLICY_STAGE that waits (R160). -/
  writing : Option (Hdr × Image) := none
  /-- The POLICY_COMMIT that waits for the ports to swap, and the DMT of its commit point (R169). -/
  waiter : Option Hdr := none
  waitUntil : Nat := 0
  rules : Tab RuleCount := []
  deriving DecidableEq, Repr

/-- The Anvil Port Array (chapters 04 and 05). -/
structure Anvil where
  ports : Tab Port := []
  deriving DecidableEq, Repr

/-! ### Chapter 06: Bellows, the leaf store and the flash image tracker -/

/-- Leaf states, in the order of LEAF_READ's codes (R220). -/
inductive LeafState where
  | unknown | fresh | stale | erased
  deriving DecidableEq, Repr

/-- One leaf. VALUE is held while FRESH. -/
structure Leaf where
  state : LeafState := .unknown
  value : Bytes := []
  deriving DecidableEq, Repr

/-- An event on its way to FIT (R222), for a block of a device, with the port sequence number of its command. -/
inductive FitEv where
  | program (dev block seq : Nat)
  /-- Erase of 4 KiB or 32 KiB inside the block. -/
  | partErase (dev block seq : Nat)
  /-- Erase of 64 KiB or the whole device covering the block. -/
  | erase (dev block seq : Nat)
  | completion (dev block seq : Nat) (value : Bytes)
  /-- RESYNC entry with cause UNEXPECTED_BUSY or ADDR4_MISMATCH. -/
  | doubt (dev : Nat)
  deriving DecidableEq, Repr

/-- A snoop assembly: sub-leaf of each chunk, the latest port sequence number and the last update (R213, R224). -/
structure Assembly where
  chunks : Tab Bytes := []
  seq : Nat := 0
  last : Nat := 0
  deriving DecidableEq, Repr

/-- What FIT holds of one device's flash state record (Table 6-7). -/
structure FlashRec where
  flashRoot : Bytes := []
  checkRoot : Bytes := []
  staleCount : Nat := 0
  unknownCount : Nat := 0
  erasedCount : Nat := 0
  checkMatch : Bool := false
  mismatchSeen : Bool := false
  oldestStale : Nat := 0
  updateDmt : Nat := 0
  epoch : Nat := 0
  /-- Changes of the record (R362). -/
  stirs : Nat := 0
  deriving DecidableEq, Repr

/-- Scan kinds (Table 6-5). -/
inductive ScanKind where
  | start | check | remeasure | refresh | verify
  deriving DecidableEq, Repr

/-- A scan that is queued or running (R227 to R230). -/
structure Scan where
  kind : ScanKind := .start
  device : Nat := 0
  first : Nat := 0
  /-- Blocks asked for; 0 for every block. -/
  count : Nat := 0
  running : Bool := false
  /-- DMT at which it was requested (R373). -/
  askedAt : Nat := 0
  /-- A START scan's identification and SFDP reads have been made and match (R145). -/
  identified : Bool := false
  /-- A REMEASURE of every block (R389). -/
  whole : Bool := false
  /-- Blocks read so far. -/
  done : List Nat := []
  /-- The DMT at which the write that enters SCAN_MODE was sent, while its end is awaited (R228). -/
  entryAt : Option Nat := none
  /-- The DMT at which the recovery ends of the reset that it begins with in OWN (R145, R228). -/
  resetAt : Option Nat := none
  /-- The power cap has paused it, as a yield of rung 5 to rung 3 (R42, R43, step 4 of Table 16-8). -/
  yielded : Bool := false
  blocksRead : Nat := 0
  mismatches : Nat := 0
  waiters : List Hdr := []
  deriving DecidableEq, Repr

/-- A chunk that a snoop tap holds until a lane takes it (R216): device, block, chunk, port sequence number and data. -/
structure TapChunk where
  device : Nat := 0
  block : Nat := 0
  chunk : Nat := 0
  seq : Nat := 0
  data : Bytes := []
  deriving DecidableEq, Repr

/-- The flash image tracker (FIT). -/
structure Fit where
  leaves : Tab Leaf := []
  events : List FitEv := []
  /-- The latest program or erase of each block, by its port sequence number. -/
  lastWrite : Tab Nat := []
  asms : Tab Assembly := []
  evictions : Nat := 0
  highWater : Nat := 0
  recs : Tab FlashRec := []
  /-- Devices whose leaves changed since their record was computed, with the DMT of the change. -/
  dirty : Tab Nat := []
  /-- DMT at which the number of STALE leaves of each device last rose from 0 (R233). -/
  staleSince : Tab Nat := []
  scans : List Scan := []
  mismatch : Nat := 0
  wearAlert : Nat := 0
  /-- Port sequence numbers (R222). -/
  seqs : Tab Nat := []
  /-- Highest OpSeconds at which each device last had a VERIFY requested. -/
  verifyAt : Tab Nat := []
  /-- MRAM: wear counts, the ring of each device (OpSeconds, MAX; newest first), levels reported. -/
  wear : Tab Nat := []
  rings : Tab (List (Nat × Nat)) := []
  wearLevel : Tab Nat := []
  lastDaily : Nat := 0
  deriving DecidableEq, Repr

/-- A digest lane (R203, R205). -/
structure DigestLane where
  outOfService : Bool := false
  deriving DecidableEq, Repr

/-- A host digest context (R207 to R211). -/
structure Context where
  fn : Nat := 0
  alg : Nat := 0
  key : Bytes := []
  outLen : Nat := 0
  fed : Bytes := []
  finished : Bool := false
  deriving DecidableEq, Repr

/-- An LMS_VERIFY that waits for a shared Bellows lane: its command, its input and where its output goes (R247). -/
structure LmsJob where
  hdr : Hdr
  input : Bytes := []
  outAt : Nat := 0
  deriving DecidableEq, Repr

/-- Bellows (BDE). -/
structure Bellows where
  lanes : Tab DigestLane := []
  contexts : Tab (Option Context) := []
  /-- What the snoop taps hold, oldest first; at most 4 KiB for each port (R216). -/
  taps : List TapChunk := []
  /-- LMS verifications that wait for a shared lane, oldest first (R205, R247). -/
  lms : List LmsJob := []
  drops : Nat := 0
  deriving DecidableEq, Repr

/-! ### Chapter 07: the Hammer array -/

/-- Lane states (Table 7-1). -/
inductive LaneState where
  | notReleased | active | spare | gated | testing | retired
  deriving DecidableEq, Repr

/-- Work classes below RETRY (Table 7-3). -/
inductive WorkClass where
  | system | express | refill | standard | bulk | background
  deriving DecidableEq, Repr

/-- Who a Hammer operation works for. -/
inductive Requester where
  /-- PK_OP: the command, its buffer address and where its output goes. -/
  | pkOp (h : Hdr) (buf outOff : Nat)
  /-- A receipt under construction, by its build number. -/
  | receipt (build : Nat)
  /-- A pool refill: the curve, 0 P-256 or 1 P-384. -/
  | refill (curve : Nat)
  /-- A signed period record, by PERIOD_ID. -/
  | period (id : Nat)
  /-- The device's own operation whose result its requester has taken (attestation, decision verification). -/
  | own
  /-- The requester was lost (R265). -/
  | lost
  deriving DecidableEq, Repr

/-- A Hammer operation, waiting or running (R254 to R260). -/
structure HOp where
  op : Nat := 0
  cls : WorkClass := .system
  queue : Nat := 0
  retry : Bool := false
  tried : List Nat := []
  /-- Its number, given when it is submitted. -/
  id : Nat := 0
  /-- The gated lane for want of which it waited while its class was deprived (R274, R275). -/
  deprived : Option Nat := none
  input : Bytes := []
  since : Nat := 0
  req : Requester := .own
  deriving DecidableEq, Repr

/-- A Hammer lane (R243, R244, R262). -/
structure Lane where
  state : LaneState := .notReleased
  fails : Nat := 0
  standsFor : Nat := 31
  running : Option HOp := none
  /-- The pair taken by the running signature was made on the spot (R252). -/
  opsDone : Nat := 0
  sinceFail : Nat := 0
  lifetimeFails : Nat := 0
  /-- The operation whose known-answer tests a TESTING lane runs. -/
  testOp : Nat := 0
  /-- The lane is being powered or self-tested: 0 no, 1 power-up (R273), 2 promotion (R245), 3 extended test. -/
  coming : Nat := 0
  /-- The HAMMER_LANE_TEST commands that wait for an extended test, or for what the lane does before it. -/
  testHdr : List Hdr := []
  deriving DecidableEq, Repr

/-- Pairs of one curve in one cluster made by one lane: since its last passed test, and before it (R250, R261). -/
structure PairLot where
  untested : Nat := 0
  proven : Nat := 0
  deriving DecidableEq, Repr

/-- When a queue class was deprived (R274): whether it is now, and the DMT at which it last was. -/
structure GateMark where
  now : Bool := false
  last : Option Nat := none
  deriving DecidableEq, Repr

/-- The Hammer array (HMA). -/
structure Hammer where
  lanes : Tab Lane := []
  /-- Keyed cluster × 64 + curve × 32 + lane. -/
  pairs : Tab PairLot := []
  waiting : List HOp := []
  budget : Nat := 16
  utilPct : Nat := 0
  waitE : Nat := 0
  retireHit : Bool := false
  invariantHit : Bool := false
  p384EmptyHit : Bool := false
  p256EmptyHit : Bool := false
  noPair : Nat := 0
  invariantFails : Nat := 0
  yields : Nat := 0
  bundleSvn : Nat := 0
  mcBuild : Nat := 0
  /-- The number of the next operation that is submitted. -/
  nextOp : Nat := 0
  /-- The deprivation of the queue classes (R274). -/
  gateE : GateMark := {}
  gateS : GateMark := {}
  gateB : GateMark := {}
  /-- Weighted round robin of the queue classes (R254). -/
  express : Turn := {}
  standard : Turn := {}
  bulk : Turn := {}
  /-- Work of the device's own that waits for lanes (R254 to R256). -/
  ownWait : LaneWait := .none
  deriving DecidableEq, Repr

/-! ### Chapter 09: the receipt forge and metering -/

/-- One queue's sequence number and counts (R315, Table 9-9). -/
structure QCount where
  nextSeq : Nat := 0
  issued : Nat := 0
  batches : Nat := 0
  batchDigests : Nat := 0
  voided : Nat := 0
  refused : Nat := 0
  pkOps : Nat := 0
  digestBytes : Nat := 0
  /-- FIRST_SEQ and LAST_SEQ; none while no number was assigned in the period. -/
  span : Option (Nat × Nat) := none
  deriving DecidableEq, Repr

/-- A receipt between its snapshot and its completion (R312, R331). -/
structure Building where
  id : Nat := 0
  hdr : Hdr
  queue : Nat := 0
  seq : Nat := 0
  psdGen : Nat := 0
  period : Nat := 0
  flags : Nat := 0
  format : Nat := 2
  alg : Nat := 1
  payload : Bytes := []
  /-- The digests of a batch; empty for a single receipt. -/
  batch : List Bytes := []
  outAddr : Nat := 0
  /-- The signatures made so far, and the operations still to end. -/
  sigEc : Option Bytes := none
  sigPq : Option Bytes := none
  opsLeft : Nat := 1
  deprived : Bool := false
  deriving DecidableEq, Repr

/-- The billing period that is open (R336 to R343). -/
structure Period where
  id : Nat := 0
  startWall : Int := 0
  endWall : Int := 0
  openEpoch : Nat := 0
  openDmt : Nat := 0
  flags : Nat := 0
  anchored : Bool := false
  /-- The METERING section in force for it. -/
  cfg : Bytes := []
  deriving DecidableEq, Repr

/-- A closed period: its payload and, once signed, its COSE_Sign1 (R336, R344). -/
structure PeriodRec where
  id : Nat := 0
  /-- The payload's fields but for PREV, which is known when the record before it is complete. -/
  closed : Period := {}
  closeEpoch : Nat := 0
  closeDmt : Nat := 0
  ced : Bytes := []
  psdGen : Nat := 0
  counts : Tab QCount := []
  /-- The finished record; empty until it is signed or kept as an unsigned payload. -/
  record : Bytes := []
  unsigned : Bool := false
  deriving DecidableEq, Repr

/-- The forge checkpoint in MRAM (R316, R363). -/
structure Checkpoint where
  counts : Tab QCount := []
  base : Nat := 0
  lastWall : Int := 0
  lastEpoch : Nat := 0
  psdGen : Nat := 0
  deriving DecidableEq, Repr

/-- The receipt forge (RFG). -/
structure Forge where
  counts : Tab QCount := []
  /-- What device starts have added to every queue's sequence number (R316). -/
  base : Nat := 0
  lastWall : Int := 0
  lastEpoch : Nat := 0
  period : Option Period := none
  records : List PeriodRec := []
  newestClosed : Nat := 0
  acked : Nat := 0
  /-- SHA-384 of the last record, for PREV. -/
  prev : Bytes := []
  building : List Building := []
  nextBuild : Nat := 0
  issued : Nat := 0
  voided : Nat := 0
  refused : Nat := 0
  extendHit : Bool := false
  heldHit : Bool := false
  checkpoint : Checkpoint := {}
  checkpointAt : Nat := 0
  /-- A quench whose close of the open period the forge has not made (R344). -/
  quenchDue : Bool := false
  deriving DecidableEq, Repr

/-! ### Chapter 10: attestation -/

/-- A PSD change record (Table 10-9). -/
structure PsdChange where
  gen : Nat := 0
  dmt : Nat := 0
  offset : Nat := 0
  data : Bytes := []
  isLast : Bool := false
  deriving DecidableEq, Repr

/-- A secured SPDM session (R356). -/
structure SpdmSession where
  id : Nat := 0
  binding : Nat := 0
  eid : Nat := 0
  lastMsg : Nat := 0
  /-- FINISH has been accepted. -/
  established : Bool := false
  secret : Bytes := []
  /-- Key updates made in each direction: the requester's and the responder's keys. -/
  updates : Nat := 0
  rspUpdates : Nat := 0
  /-- Secured messages sent, and the transcript of the key exchange. -/
  sent : Nat := 0
  transcript : Bytes := []
  deriving DecidableEq, Repr

/-- SPDM connection state of a requester (R355). -/
structure Connection where
  binding : Nat := 0
  eid : Nat := 0
  /-- 0 after GET_VERSION, 1 after GET_CAPABILITIES, 2 after NEGOTIATE_ALGORITHMS. -/
  stage : Nat := 0
  version : Nat := 0
  lastUsed : Nat := 0
  /-- The messages that its version, capabilities and algorithms were settled in; those about certificates since; and those
  about measurements since the last signature. -/
  transcript : Bytes := []
  certMsgs : Bytes := []
  measMsgs : Bytes := []
  deriving DecidableEq, Repr

/-- The Attestation Responder and the PSD engine (chapter 10). -/
structure Attest where
  /-- The last completed generation, its preimage and its PSD; and what a device start adds to the next one (R363). -/
  gen : Nat := 0
  skip : Nat := 0
  preimage : Bytes := []
  psd : Bytes := []
  /-- The offsets of the fields that have changed since that generation, whatever they hold now (R88, R362); and each port's and
  device's count of changes at that generation. -/
  moved : List Nat := []
  portSeen : List Nat := []
  recSeen : List Nat := []
  history : List PsdChange := []
  /-- The lowest generation whose records are all held. -/
  oldestGen : Nat := 0
  /-- The CED current for attestation, its preimage and its live configuration block. -/
  ced : Bytes := []
  cedPre : Bytes := []
  live : Bytes := []
  certsReady : Bool := false
  attCert : Bytes := []
  leafCerts : List Bytes := []
  /-- The root, product and DeviceID certificates of slot 0, written at manufacture. -/
  deviceCerts : List Bytes := []
  /-- The owner's chain in slot 1; empty while the slot is. -/
  slot1 : List Bytes := []
  fspDigest : Bytes := []
  wardenMeas : Bytes := []
  bundleMeas : Bytes := []
  connections : List Connection := []
  sessions : List SpdmSession := []
  nextSession : Nat := 1
  limitHit : Bool := false
  lostHit : Bool := false
  spdmErrors : Nat := 0
  /-- MCTP endpoint identifiers by binding: PCIe VDM, SB0, SB1, MB0, MB1. -/
  eids : List Nat := [0, 0, 0, 0, 0]
  /-- Dynamic addresses of the MCTP targets on MB0 and MB1. -/
  mctpDyn : List Nat := [0, 0]
  deriving DecidableEq, Repr

/-! ### Chapter 11: the Reforge Unit and the Cartridge Bay -/

/-- PHASE of RFU_OP_j (Table 11-12). -/
inductive RfuPhase where
  | idle | search | verify | waitPort | write | remeasure | waitSource
  deriving DecidableEq, Repr

/-- STATE of a journal record (Table 11-7). -/
inductive JState where
  | free | opened | remeasure | committed | failed | aborted
  deriving DecidableEq, Repr

/-- A journal record (Table 11-7). -/
structure Journal where
  state : JState := .free
  full : Bool := false
  slot : Nat := 0
  source : Nat := 0
  attempt : Nat := 0
  manifestDigest : Bytes := []
  cartCid : Bytes := []
  epoch : Nat := 0
  intentDmt : Nat := 0
  commitDmt : Nat := 0
  /-- Blocks of the rewrite set, and those with their DONE bit set, ascending. -/
  set : List Nat := []
  done : List Nat := []
  doneCount : Nat := 0
  deriving DecidableEq, Repr

/-- What a recovery manifest says (Table 11-6). -/
structure Manifest where
  digest : Bytes := []
  imageId : Bytes := []
  svn : Nat := 0
  density : Nat := 0
  checkRoot : Bytes := []
  leaves : Bytes := []
  blockMap : Bytes := []
  deriving DecidableEq, Repr

/-- A staged block (R386): its index and bytes, verified against its leaf. -/
structure Staged where
  block : Nat := 0
  data : Bytes := []
  deriving DecidableEq, Repr

/-- A RECOVER_DATA command that waits for buffer room: its first block, how many, and their bytes. -/
structure DataWait where
  hdr : Hdr
  first : Nat := 0
  count : Nat := 0
  data : Bytes := []
  deriving DecidableEq, Repr

/-- A Reforge operation (R371 to R376). -/
structure RfuOp where
  device : Nat := 0
  slot : Nat := 0
  full : Bool := false
  /-- The operation position it holds (R374). -/
  position : Option Nat := none
  phase : RfuPhase := .idle
  /-- DMT at which it asked for its port (R373). -/
  portSince : Nat := 0
  source : Nat := 0
  cartSlot : Nat := 0
  attempt : Nat := 0
  manifest : Option Manifest := none
  /-- The byte address of the data area of its source: in host memory, or on the cartridge's user area (R379, R384). -/
  hostBase : Nat := 0
  staged : List Staged := []
  /-- The block whose first read failed and is read once more (R386). -/
  reread : Option Nat := none
  /-- The block being written, and what was last sent for it: the number of pages programmed, 0 after the erase. -/
  writing : Option Nat := none
  pages : Nat := 0
  /-- The DMT at which the erase or program in progress was sent; none while none is. -/
  sentAt : Option Nat := none
  waitSince : Nat := 0
  /-- The block's last program has completed: its done-mark is due. -/
  blockDone : Bool := false
  /-- OWN: the entry step of R228 has been made, or its end is awaited since this DMT. -/
  entered : Bool := false
  entryAt : Option Nat := none
  /-- RECOVER_DATA commands that wait for buffer room. -/
  dataWait : List DataWait := []
  /-- It ends after its current block (R376, RECOVER_ABORT). -/
  stopping : Bool := false
  /-- Cartridge sources abandoned in this operation: the CID and the manifest's digest (R386). -/
  skipped : List (Bytes × Bytes) := []
  /-- The record's attempt goes on when the same manifest is found again (R394, R406). -/
  resume : Bool := false
  /-- A removed cartridge's manifest that is waited for (R406), and whether that wait is over, so that any source serves. -/
  wantDigest : Bytes := []
  anySource : Bool := false
  deriving DecidableEq, Repr

/-- The Reforge Unit (RFU). -/
structure Reforge where
  ops : List RfuOp := []
  journal : Tab Journal := []
  failHit : Bool := false
  commitHit : Bool := false
  blocksWritten : Nat := 0
  failed : Nat := 0
  /-- Slots that carry RESUMING (R395). -/
  resuming : List Nat := []
  deriving DecidableEq, Repr

/-- STATE of CBY_SLOT_k (Table 11-15). -/
inductive CartState where
  | empty | identifying | ready | asleep | inUse | failed | ejected
  deriving DecidableEq, Repr

/-- An entry of a cartridge's catalogue (R404). -/
structure CatEntry where
  kind : Nat := 0
  imageId : Bytes := []
  svn : Nat := 0
  startLba : Nat := 0
  sectors : Nat := 0
  digest : Bytes := []
  deriving DecidableEq, Repr

/-- A cartridge slot (R398 to R406). -/
structure Cart where
  state : CartState := .empty
  present : Bool := false
  powered : Bool := false
  /-- The level of CBY_DET k# (true is low) and since when. -/
  detLow : Bool := false
  detSince : Nat := 0
  catalogue : Nat := 0
  entries : List CatEntry := []
  raw : Bytes := []
  cid : Bytes := []
  ocrSince : Nat := 0
  /-- DMT at which its identification ended (R73). -/
  identAt : Nat := 0
  lastPoll : Nat := 0
  lastUsed : Nat := 0
  guardMs : Nat := 10
  /-- The re-acquisition window's start, and whether the one re-identification has been made (R401). -/
  reacquire : Option Nat := none
  reidentified : Bool := false
  /-- It has answered CMD13 and CMD10 since it last slept and another cartridge was last removed (R400). -/
  checked : Bool := false
  preEol : Nat := 0
  lifeA : Nat := 0
  lifeB : Nat := 0
  life : Nat := 0
  retries : Nat := 0
  rpmb : Nat := 0
  capacity : Nat := 0
  lastLifeRead : Nat := 0
  /-- Bytes read from it that do not yet make a whole MiB of MIB_READ. -/
  readBytes : Nat := 0
  /-- CART_RESCAN commands that wait for identification. -/
  waiters : List Hdr := []
  deriving DecidableEq, Repr

/-- An entry of the life table in MRAM (R408). -/
structure LifeEntry where
  cid : Bytes := []
  firstSeen : Nat := 0
  lastSeen : Nat := 0
  maxRpmb : Nat := 0
  mibRead : Nat := 0
  wakes : Nat := 0
  insertions : Nat := 0
  crcErrors : Nat := 0
  preEol : Nat := 0
  lifeA : Nat := 0
  lifeB : Nat := 0
  life : Nat := 0
  deriving DecidableEq, Repr

/-- The Cartridge Bay (CBY). -/
structure CartBay where
  slots : Tab Cart := []
  /-- CBY_CLK in MHz, rounded down: 0 at the 400 kHz of identification, and 52 for data (R397, R398). -/
  clockMhz : Nat := 0
  addressed : Nat := 0
  removedHit : Bool := false
  insertedHit : Bool := false
  errorHit : Bool := false
  crcErrors : Nat := 0
  lifeTable : List LifeEntry := []
  deriving DecidableEq, Repr


/-! ### Chapter 12: the Crucible -/

/-- An outstanding challenge (R423). -/
structure Challenge where
  nonce : Bytes := []
  expires : Nat := 0
  deriving DecidableEq, Repr

/-- An owner key slot entry (Table 12-9); state 0 EMPTY, 1 ACTIVE, 2 REVOKED. -/
structure OwnerKey where
  state : Nat := 0
  alg : Nat := 0
  uses : Nat := 0
  key : Bytes := []
  deriving DecidableEq, Repr

/-- The owner key slot table as one of its two MRAM copies holds it, with its MAC (R427). -/
structure OwnerTable where
  keys : Tab OwnerKey := []
  cosign : Bool := false
  mac : Bytes := []
  deriving DecidableEq, Repr

/-- The Crucible key store (Table 12-10): private keys, empty while erased. -/
structure KeyStore where
  deviceId : Bytes := []
  attKey : Bytes := []
  receipt384 : Bytes := []
  receipt256 : Bytes := []
  receiptEd : Bytes := []
  receiptPq : Bytes := []
  metering : Bytes := []
  tableMac : Bytes := []
  deriving DecidableEq, Repr

/-- The public keys that the store last derived (they outlive an erasure of the private keys). -/
structure PublicKeys where
  deviceId : Bytes := []
  attKey : Bytes := []
  receipt384 : Bytes := []
  receipt256 : Bytes := []
  receiptEd : Bytes := []
  receiptPq : Bytes := []
  metering : Bytes := []
  deriving DecidableEq, Repr

/-- A DRBG instance (R432, R433). -/
structure Drbg where
  generating : Bool := false
  requests : Nat := 0
  lastReseed : Nat := 0
  stoppedAt : Nat := 0
  deriving DecidableEq, Repr

/-- CRU_STATUS.ENTROPY (Table 12-13). -/
inductive Entropy where
  | starting | good | degraded | failed
  deriving DecidableEq, Repr

/-- The Crucible (chapter 12). -/
structure Crucible where
  challenges : Tab Challenge := []
  tableA : OwnerTable := {}
  tableB : OwnerTable := {}
  /-- The table in force in this start, and the COSIGN_REQUIRED option in force (R430). -/
  table : OwnerTable := {}
  cosignInForce : Bool := false
  /-- The new key that a CLAIM or TRANSFER puts in slot 0 at the wipe (R428), kept in MRAM with the intent. -/
  newKey : Bytes := []
  store : KeyStore := {}
  pubs : PublicKeys := {}
  d0 : Drbg := {}
  d1 : Drbg := {}
  d2 : Drbg := {}
  d3 : Drbg := {}
  entropy : Entropy := .starting
  entropyHit : Bool := false
  lcState : Nat := 0
  lcHit : Bool := false
  /-- The Logbook still owes the LC_TRANSITION record of a finished wipe: old state, new state, record. -/
  lcRecord : Option (Nat × Nat × Nat) := none
  /-- The first stage has locked the UDS (R346). -/
  udsLocked : Bool := false
  /-- The key ladder's CDI_0 between the first stage and the derivation of the Alias key (R347, log entry 59); empty otherwise. -/
  ladder : Bytes := []
  awaitPowerCycle : Bool := false
  keysWithdrawn : Bool := false
  /-- The level in force when no grant is, the grant's level and identifier. -/
  debugLevel : Nat := 0
  granted : Bool := false
  grantId : Nat := 0
  grantHit : Bool := false
  attached : Bool := false
  reseeds : Nat := 0
  authFails : Nat := 0
  deriving DecidableEq, Repr

/-! ### Chapter 13 and the time base of chapter 14: the Ember region -/

/-- A TAMPER_TRIP record that battery RAM holds (R445). -/
structure HeldTrip where
  source : Nat := 0
  count : Nat := 0
  response : Nat := 0
  dmt : Nat := 0
  deriving DecidableEq, Repr

/-- What is kept for one tamper source (R443, Table 13-10). -/
structure Source where
  /-- DMT of its most recent events, newest first, at most 16. -/
  ring : List Nat := []
  tripped : Bool := false
  /-- Its detector is asserting, or its last sample failed. -/
  active : Bool := false
  deassertAt : Option Nat := none
  events : Nat := 0
  eventsStart : Nat := 0
  trips : Nat := 0
  lastTest : Nat := 0
  deriving DecidableEq, Repr

/-- An open test window (R454, R455). -/
structure TestWindow where
  source : Nat := 0
  openedAt : Nat := 0
  detected : Option Nat := none
  released : Bool := false
  /-- The extra sample of a sampled source has been taken (Table 13-5). -/
  sampled : Bool := false
  hdr : Option Hdr := none
  deriving DecidableEq, Repr

/-- A slew of the wall time (R481): what remains to be applied, in ns, and where it stands. -/
structure Slew where
  begun : Nat := 0
  base : Int := 0
  total : Int := 0
  ppm : Nat := 0
  deriving DecidableEq, Repr

/-- The Ember region (chapters 13 and 14). -/
structure Ember where
  dmt : Nat := 0
  /-- The 9-bit accumulator of R475, in 1/512 µs. -/
  frac : Nat := 0
  opSeconds : Nat := 0
  /-- Microseconds of the OpSeconds interval under way. -/
  opUs : Nat := 0
  powerCycles : Nat := 0
  /-- What MRAM holds of DMT and OpSeconds, and the DMT of the last write (R476, R477). -/
  mramDmt : Nat := 0
  mramOp : Nat := 0
  mramAt : Nat := 0
  dmtGap : Bool := false
  /-- Battery RAM, SYSTEM area: OFFSET, WALL_SET, TimeEpoch (R478). -/
  offset : Int := 0
  wallSet : Bool := false
  epoch : Nat := 0
  slew : Option Slew := none
  stepHit : Bool := false
  epochHit : Bool := false
  /-- Battery RAM fails its check at the next rise of PWR_OK (R456); TS9 counted an event since main power fell. -/
  ramBad : Bool := true
  xtalEvent : Bool := false
  latch : Bool := false
  latchCopy : Bool := false
  mirror : Bool := false
  sources : Tab Source := []
  held : List HeldTrip := []
  evPending : Nat := 0
  pendingSat : Bool := false
  /-- Alerts that wait for the next OPERATIONAL (Table 13-2). -/
  lateAlert : Nat := 0
  /-- Battery RAM, OWNER area: the copy of the TAMPER section; empty while it holds none. -/
  tamperCopy : Bytes := []
  /-- Battery RAM, SECRET area: the pattern keys; empty while erased. -/
  secret : Bytes := []
  quenchHit : Bool := false
  /-- The DMT of the last quench of this device start or of the time before it (R447). -/
  quenchAt : Option Nat := none
  tripHit : Bool := false
  batteryLossSeen : Bool := false
  lastSample : Nat := 0
  /-- What EMESH_DRV carried in the last sample: bit 3k + j for mesh k in phase j (R442). -/
  meshDrive : Nat := 0
  test : Option TestWindow := none
  /-- Scheduled tests: the period's start in OpSeconds, the next source, and when. -/
  testPeriod : Nat := 0
  testNext : Nat := 0
  testAt : Nat := 0
  /-- VBAT in mV as last measured. -/
  vbatMv : Nat := 3000
  /-- R461: drawing from main power. -/
  onMain : Bool := false
  deriving DecidableEq, Repr

/-! ### Chapter 14: the Wind-up Watchdog Unit -/

/-- Channel states (Table 14-1). -/
inductive ChState where
  | idle | first | running | sleep | reacquire | paused
  deriving DecidableEq, Repr

/-- A wind-up channel (R463 to R473). -/
structure Channel where
  state : ChState := .idle
  turn : Nat := 0
  /-- DMT in µs: the period's start, where its open part begins, and its deadline. In SLEEP the deadline is W. -/
  start : Nat := 0
  openAt : Nat := 0
  deadline : Nat := 0
  /-- The channel record in force since the arming (Table 14-2). -/
  record : Bytes := []
  warned : Bool := false
  /-- The period followed a LOG or ALERT expiry (R471). -/
  afterExpiry : Bool := false
  onBackup : Bool := false
  expiries : Nat := 0
  lastCause : Nat := 0
  lastWind : Nat := 0
  deriving DecidableEq, Repr

/-- The internal watchdog (R474). -/
structure Iwd where
  running : Bool := false
  onBackup : Bool := false
  stopHit : Bool := false
  /-- Kept in MRAM. -/
  expiries : Nat := 0
  hardTimer : Option Nat := none
  deriving DecidableEq, Repr

/-- The Wind-up Watchdog Unit (chapter 14). -/
structure Windup where
  channels : Tab Channel := []
  iwd : Iwd := {}
  preHit : Bool := false
  expiryHit : Bool := false
  reacquireHit : Bool := false
  stopHit : Bool := false
  expiries : Nat := 0
  badKeys : Nat := 0
  /-- The two clocks of Table 14-4 have stopped. -/
  refStopped : Bool := false
  emberStopped : Bool := false
  deriving DecidableEq, Repr

/-! ### The whole device -/

/-- The VG2560: one part for each subsystem of Table 1-1, the interfaces, and the queue of waiting commands. -/
structure State where
  spn : Spn := {}
  boot : Boot := {}
  strs : Strings := {}
  apa : Anvil := {}
  pol : Policy := {}
  fit : Fit := {}
  bde : Bellows := {}
  hma : Hammer := {}
  cme : Cme := {}
  rfg : Forge := {}
  atr : Attest := {}
  rfu : Reforge := {}
  cby : CartBay := {}
  cru : Crucible := {}
  /-- The 1,024 OTP words that are not 0, by index (R414). -/
  otp : Tab Nat := []
  emb : Ember := {}
  wwu : Windup := {}
  lgb : Lgb := {}
  io : Io := {}
  /-- The model's own field: how many free values have been drawn. -/
  draws : Nat := 0
  /-- The commands that wait, first in, first out. -/
  pending : List Instr := []
  deriving DecidableEq, Repr

/-- The machine at reset: main power absent, every stored part as it leaves the wafer. -/
def State.reset : State := {}

end Sys2Proof.Machine
end

