-- ==== Sys2Proof/Machine/Ops.lean ====
section
/-! DEFINITION. The named operations that the meanings share: time, free values, OTP, the policy in force, queue
grants, reports to the Logbook and to the queue groups, and yields. -/
namespace Sys2Proof.Machine

/-- What a meaning answers. -/
abbrev Res := Host.Outcome State Fault Refusal

/-! ### Cryptography with fixed output lengths -/

/-- SHA-256. -/
def sha256 (b : Bytes) : Bytes := fixLen 32 (Config.hash 0 b 32)
/-- SHA-384. -/
def sha384 (b : Bytes) : Bytes := fixLen 48 (Config.hash 1 b 48)
/-- HMAC-SHA-384. -/
def hmac384 (key b : Bytes) : Bytes := fixLen 48 (Config.hmac 1 key b)
/-- HMAC-SHA-256. -/
def hmac256 (key b : Bytes) : Bytes := fixLen 32 (Config.hmac 0 key b)

/-! ### Bytes of text -/

/-- The bytes of an ASCII text. -/
def ascii (t : String) : Bytes := t.toList.map (fun c => byte c.toNat)

/-! ### Free values -/

/-- s after one more free value has been drawn. -/
def State.drawn (s : State) : State := { s with draws := s.draws + 1 }

/-- n random bytes of the next draw. -/
def State.random (s : State) (n : Nat) : Bytes := fixLen n (Config.randomBytes s.draws n)

/-! ### Time -/

/-- DMT in µs (R14). -/
def State.now (s : State) : Nat := s.emb.dmt

/-- The PCIe island answers: the Control Region's 54 domains are on, it is not held off, and the part is not SCRAPPED, whose trims
are gone (R52, R420, R510). Its registers are served by hardware, before the Warden runs and while the Control Region restarts
too. -/
def State.pcieUp (s : State) : Bool := s.boot.pwrOk && decide (54 ≤ s.spn.domains) && !s.boot.absent && s.cru.lcState != 6

/-- The active Warden pair runs: its region has power, it is not held off, and the first stage has not stopped as SCRAPPED
(R53, R56, R510). -/
def State.wardenRuns (s : State) : Bool :=
  s.boot.pwrOk && decide (54 ≤ s.spn.domains) && !s.boot.absent && s.boot.phase != .scrapped

/-- The part of a running slew that has been applied by now, in ns (R481). -/
def Slew.applied (w : Slew) (now : Nat) : Int :=
  let step : Int := (((now - w.begun) * w.ppm / 1000 : Nat) : Int)
  if w.total < 0 then max w.total (-step) else min w.total step

/-- OFFSET in force, with a slew's part applied (R478, R481). -/
def State.offsetNow (s : State) : Int :=
  match s.emb.slew with
  | some w => w.base + w.applied s.emb.dmt
  | none => s.emb.offset

/-- The wall time in ns; 0 while it is unset (R478). -/
def State.wall (s : State) : Int := if s.emb.wallSet then (s.emb.dmt : Int) * 1000 + s.offsetNow else 0

/-! ### OTP -/

/-- OTP word w. -/
def State.otpWord (s : State) (w : Nat) : Nat := s.otp.get w 0

/-- The OTP array with the bits of mask blown in word w (R412: bits are only ever blown). -/
def otpBlown (o : Tab Nat) (w mask : Nat) : Tab Nat :=
  if w < 1024 then o.set w 0 (o.get w 0 ||| mask % 2 ^ 64) else o

/-- s with the bits of mask blown in OTP word w. -/
def State.blow (s : State) (w mask : Nat) : State := { s with otp := otpBlown s.otp w mask }

/-- The highest of n unary positions from OTP word w that is blown, plus 1; 0 when none is (R434). -/
def topPosition (s : State) (w n : Nat) : Nat :=
  (List.range n).foldl (fun a p => if (s.otpWord (w + p / 64)).testBit (p % 64) then p + 1 else a) 0

/-- The value of ARBc (R434). -/
def State.arb (s : State) (c : Nat) : Nat := topPosition s (96 + 2 * c) 128

/-- The number of evidence positions blown (R452). -/
def State.evidence (s : State) : Nat :=
  (List.range 8).foldl (fun a i => a + popCount 64 (s.otpWord (104 + i))) 0

/-- s with position p of the counter at OTP word w blown. -/
def State.blowPosition (s : State) (w p : Nat) : State := s.blow (w + p / 64) (2 ^ (p % 64))

/-- s with ARBc advanced to the value v: its highest position last (R72, R434). -/
def State.advanceArb (s : State) (c v : Nat) : State :=
  (List.range (min v 128)).foldl (fun t p => if s.arb c ≤ p then t.blowPosition (96 + 2 * c) p else t) s

/-- A two-bit flag of a transition record reads as set only when both bits are 1 (R415). -/
def twoBits (r lo : Nat) : Bool := bits r lo 2 == 3

/-- The target of a transition record, by majority (R415); none when the fields have no majority. -/
def recordTarget (r : Nat) : Option Nat :=
  let a := bits r 0 3
  let b := bits r 8 3
  let c := bits r 16 3
  if a = b ∨ a = c then some a else if b = c then some b else none

/-- A record whose three TARGET fields all read 0 is free (R415). -/
def recordFree (r : Nat) : Bool := bits r 0 3 == 0 && bits r 8 3 == 0 && bits r 16 3 == 0

/-- Transition records used (R415). -/
def State.recordsUsed (s : State) : Nat :=
  (List.range 64).foldl (fun a i => if recordFree (s.otpWord (4 + i)) then a else a + 1) 0

/-- The newest used transition record: its index. -/
def State.newestRecord (s : State) : Option Nat :=
  (List.range 64).foldl (fun a i => if recordFree (s.otpWord (4 + i)) then a else some i) none

/-- OWNERSHIP_COUNT: used records whose target is OWNED (R415). -/
def State.ownershipCount (s : State) : Nat :=
  (List.range 64).foldl (fun a i =>
    if !recordFree (s.otpWord (4 + i)) && recordTarget (s.otpWord (4 + i)) == some 4 then a + 1 else a) 0

/-- A transition is past its intent point and its WIPE_DONE is clear (Table 12-12 TRANSITION_PENDING). -/
def State.transitionPending (s : State) : Bool :=
  match s.newestRecord with
  | some i => !twoBits (s.otpWord (4 + i)) 62
  | none => false

/-- SHA-384 of the DeviceID public key, which names this device (R156). -/
def State.deviceName (s : State) : Bytes := sha384 s.cru.pubs.deviceId

/-- The quenched state: the latch, its copy or its mirror (R458). -/
def State.quenched (s : State) : Bool := s.emb.latch || s.emb.latchCopy || s.emb.mirror

/-! ### The policy in force -/

/-- The committed image, once it is loaded in this start (R164). -/
def State.image (s : State) : Option Image :=
  if s.pol.loaded then
    match s.pol.committed with
    | some 0 => s.pol.slot0
    | some _ => s.pol.slot1
    | none => none
  else none

/-- The slot of the policy store that is not committed (R160). -/
def State.otherSlot (s : State) : Nat := if s.pol.committed = some 0 then 1 else 0

/-- The image that a slot of the policy store holds. -/
def State.polSlot (s : State) (k : Nat) : Option Image := if k = 0 then s.pol.slot0 else s.pol.slot1

/-- The staged image: what the slot that is not committed holds, unless it was committed earlier (R160). -/
def State.staged (s : State) : Option Image := (s.polSlot s.otherSlot).filter (fun i => !i.wasCommitted)

/-- A section of an image; empty where it is absent. -/
def Image.sec (i : Image) (id : Nat) : Bytes := i.sections.get id []

/-- A section of the policy in force; empty where there is none. -/
def State.sec (s : State) (id : Nat) : Bytes :=
  match s.image with
  | some i => i.sec id
  | none => []

/-- Record n of w bytes of a section, after a header of h bytes. -/
def State.secRec (s : State) (id h w n : Nat) : Bytes := slice (s.sec id) (h + w * n) w

/-! ### Queue grants (R282, R284) -/

/-- A decoded queue record (Table 8-7). -/
structure Grant where
  fn : Nat := 0xFF
  priv : Nat := 0
  cls : Nat := 0
  weight : Nat := 1
  maxDepth : Nat := 4
  async : Bool := false
  deriving DecidableEq, Repr

/-- The record that 8 bytes of a QUEUE_GRANTS section spell. -/
def decodeGrant (r : Bytes) : Grant :=
  { fn := fld r 0 1, priv := fld r 1 1, cls := fld r 2 1, weight := fld r 3 1, maxDepth := fld r 4 1,
    async := (fld r 5 1).testBit 0 }

/-- The grant of queue q: by the QUEUE_GRANTS section, or the built-in grants in NO_POLICY (R284). -/
def State.grant (s : State) (q : Nat) : Grant :=
  if s.boot.phase = .noPolicy then
    if q = 0 then { fn := 0, priv := 3, cls := 1, weight := 1, maxDepth := 12, async := true } else {}
  else match s.image with
    | some i => if q < 4096 then decodeGrant (slice (i.sec 0x20) (64 + 8 * q) 8) else {}
    | none => {}

/-- The management queue of a framed target (Table 8-6); none for 0xFFFF and in NO_POLICY. -/
def State.mgmtQueue (s : State) (t : Target) : Option Nat :=
  if s.boot.phase = .noPolicy then none else
  match s.image with
  | none => none
  | some i =>
    let k := match t with
      | .mb0 => 0
      | .mb1 => 1
      | .sb0 => 2
      | .sb1 => 3
      | .uart0 => 4
    let q := fld (i.sec 0x20) (2 * k) 2
    if q = 0xFFFF then none else some q

/-- Whether queue group g has an OWNER or OPERATOR queue. -/
def State.groupManaged (s : State) (g : Nat) : Bool :=
  (List.range 64).any (fun j => let r := s.grant (64 * g + j); r.fn != 0xFF && decide (2 ≤ r.priv))

/-- Queue q as the CME holds it. -/
def State.queue (s : State) (q : Nat) : Queue := s.cme.queues.get q {}

/-- s with queue q changed by f. -/
def State.updQueue (s : State) (q : Nat) (f : Queue → Queue) : State :=
  { s with cme := { s.cme with queues := s.cme.queues.upd q {} f } }

/-- The function control block of a function. -/
def State.fnBlock (s : State) (f : Nat) : FnBlock := s.cme.fns.get f {}

/-- s with the control block of function n changed by f. -/
def State.updFn (s : State) (n : Nat) (f : FnBlock → FnBlock) : State :=
  { s with cme := { s.cme with fns := s.cme.fns.upd n {} f } }

/-- The framed session of a target. -/
def State.session (s : State) (t : Target) : Session :=
  match t with
  | .mb0 => s.cme.mb0
  | .mb1 => s.cme.mb1
  | .sb0 => s.cme.sb0
  | .sb1 => s.cme.sb1
  | .uart0 => s.cme.uart0

/-- s with the framed session of a target changed by f. -/
def State.updSession (s : State) (t : Target) (f : Session → Session) : State :=
  match t with
  | .mb0 => { s with cme := { s.cme with mb0 := f s.cme.mb0 } }
  | .mb1 => { s with cme := { s.cme with mb1 := f s.cme.mb1 } }
  | .sb0 => { s with cme := { s.cme with sb0 := f s.cme.sb0 } }
  | .sb1 => { s with cme := { s.cme with sb1 := f s.cme.sb1 } }
  | .uart0 => { s with cme := { s.cme with uart0 := f s.cme.uart0 } }

/-! ### Reports to the Logbook -/

/-- The region whose unit raises an event (R490). -/
inductive Region where
  | guard | control | forge
  deriving DecidableEq, Repr

/-- NO_RUNG6 of the LOGBOOK section (R502). -/
def State.noRung6 (s : State) : Bool := (fld (s.sec 0x34) 6 1).testBit 0

/-- The newest of the staged events whose rung number is above r, taken out; none when there is none. The list is
oldest first. -/
def displaceNewest (r : Nat) (l : List LogEv) : Option (List LogEv) :=
  let rev := l.reverse
  match rev.findIdx? (fun e => decide (r < e.rung)) with
  | some i => some (rev.eraseIdx i).reverse
  | none => none

/-- One event lost: DROPPED and DROP_HIT (R490). -/
def Lgb.drop (g : Lgb) : Lgb :=
  { g with dropped := satAdd 32 g.dropped 1, droppedStart := satAdd 32 g.droppedStart 1, dropHit := true }

/-- An event is taken before another of its instant: ascending source class, then ascending source index (R490). -/
def LogEv.before (e x : LogEv) : Bool := e.dmt == x.dmt && (decide (e.cls < x.cls) || (e.cls == x.cls && decide (e.idx < x.idx)))

/-- An event takes its place among the staged ones: the end, but before those of its instant that come after it (R490). -/
def takePlace (e : LogEv) : List LogEv → List LogEv
  | [] => [e]
  | x :: r => if e.before x then e :: x :: r else x :: takePlace e r

/-- An event enters the staging buffer of 1,024 places, 256 of them kept for rungs 0 to 2 (R490). -/
def Lgb.stage (g : Lgb) (e : LogEv) : Lgb :=
  let low := (g.staging.filter (fun x => decide (3 ≤ x.rung))).length
  if e.rung ≤ 2 then
    if g.staging.length < 1024 then { g with staging := takePlace e g.staging }
    else match displaceNewest e.rung g.staging with
      | some l => ({ g with staging := takePlace e l }).drop
      | none => g.drop
  else if g.staging.length < 1024 ∧ low < 768 then { g with staging := takePlace e g.staging }
  else match displaceNewest e.rung g.staging with
    | some l => ({ g with staging := takePlace e l }).drop
    | none => g.drop

/-- An event reaches the Logbook, or the region that holds it while the Control Region is down (R490). -/
def State.report (s : State) (r : Region) (e : LogEv) : State :=
  if !s.boot.pwrOk then s
  else if e.rung = 6 ∧ s.noRung6 then s
  else
    let e := { e with dmt := s.now, gap := s.emb.dmtGap }
    if s.boot.controlUp then { s with lgb := s.lgb.stage e }
    else
      let e := { e with held := true }
      match r with
      | .control => s
      | .guard =>
        if s.lgb.heldGuard.length < 256 then { s with lgb := { s.lgb with heldGuard := s.lgb.heldGuard ++ [e] } }
        else { s with lgb := { s.lgb with overGuard := s.lgb.overGuard + 1 } }
      | .forge =>
        if s.lgb.heldForge.length < 256 then { s with lgb := { s.lgb with heldForge := s.lgb.heldForge ++ [e] } }
        else { s with lgb := { s.lgb with overForge := s.lgb.overForge + 1 } }

/-- The quantities of an event in the layout of R489. -/
structure Quantities where
  cause : Nat := 0
  index2 : Nat := 0
  value : Nat := 0
  detail : Bytes := []
  island : Nat := 0
  deriving DecidableEq, Repr

/-- The 32 parameter bytes of R489. -/
def Quantities.layout (q : Quantities) (dmt : Nat) : Bytes :=
  le 8 dmt ++ le 2 q.cause ++ le 2 q.index2 ++ le 4 q.value ++ fixLen 16 q.detail

/-- An event with parameters in the layout of R489: region, code, rung, source class and index. -/
def State.log (s : State) (r : Region) (code rung cls idx : Nat) (q : Quantities := {}) : State :=
  s.report r { code := code, rung := rung, cls := cls, idx := idx, params := q.layout s.now, island := q.island }

/-- An event with a parameter layout of its own. -/
def State.logOwn (s : State) (r : Region) (code rung cls idx : Nat) (params : Bytes) : State :=
  s.report r { code := code, rung := rung, cls := cls, idx := idx, own := true, params := fixLen 32 params }

/-! ### Grouped asynchronous events (R304, R305) -/

/-- The code of the Logbook record of an event's first occurrence. -/
def AsyncEv.recordCode (e : AsyncEv) : Nat := if e.first = 0 then e.code else e.first

/-- The Logbook event is the first occurrence that a pending asynchronous event of group g reports: its code, its instant, and
for a GROUP event a queue of the group (R304, R305). -/
def AsyncEv.reports (e : AsyncEv) (g : Nat) (x : LogEv) : Bool :=
  e.recordCode == x.code && e.dmt == x.dmt && (!e.grouped || x.idx / 64 == g)

/-- An event raised in a group that has the given events pending: merged into the one of its code, added, or counted as
overflow. The second part says how many merges were made. -/
def addAsync (l : List AsyncEv) (e : AsyncEv) : List AsyncEv × Nat :=
  let merge (c : Nat) (x : AsyncEv) : AsyncEv :=
    if x.code = c then { x with count := min (x.count + 1) 0xFFFF, mask := x.mask ||| e.mask } else x
  let has (c : Nat) : Bool := l.any (fun x => decide (x.code = c))
  if has e.code then (l.map (merge e.code), 1)
  else if (l.filter (fun x => decide (x.code ≠ 0x0B05))).length < 32 then (l ++ [e], 0)
  else if has 0x0B05 then (l.map (merge 0x0B05), 1)
  else (l ++ [{ e with code := 0x0B05, first := e.code, hintClass := 0, hintIndex := 0 }], 0)

/-- An event posted to queue group g. -/
def State.postAsync (s : State) (g : Nat) (e : AsyncEv) : State :=
  let r := addAsync (s.cme.asyncs.get g []) { e with dmt := s.now }
  { s with cme := { s.cme with asyncs := s.cme.asyncs.set g [] r.1, merged := satAdd 32 s.cme.merged r.2 } }

/-- A MANAGEMENT event: posted to each queue group that has an OWNER or OPERATOR queue (R304). -/
def State.tellManagers (s : State) (code rung : Nat) (hintClass hintIndex : Nat := 0) : State :=
  (List.range 64).foldl (fun t g =>
    if s.groupManaged g then t.postAsync g { code := code, rung := rung, hintClass := hintClass, hintIndex := hintIndex }
    else t) s

/-- A GROUP event that concerns queue q (R304). -/
def State.tellGroup (s : State) (code rung q : Nat) : State :=
  s.postAsync (q / 64) { code := code, rung := rung, hintClass := 5, hintIndex := q / 64, mask := 2 ^ (q % 64), grouped := true }

/-! ### Yields (R42 to R44) -/

/-- The VALUE of a yield record: winning rung, yielding rung, 0, 0. -/
def yieldValue (winner yielder : Nat) : Nat := winner + 256 * yielder

/-- A yield begins: it is counted and logged, once for each party (R44). -/
def State.startYield (s : State) (r : Region) (winner yielder cls idx : Nat) (tag : Nat := 0) : State :=
  if s.spn.yields.any (fun y => decide (y.cls = cls ∧ y.idx = idx ∧ y.winner = winner ∧ y.yielder = yielder ∧ y.tag = tag)) then s
  else
    let y : Yield := { winner := winner, yielder := yielder, cls := cls, idx := idx, begun := s.now, tag := tag }
    ({ s with spn := { s.spn with yields := s.spn.yields ++ [y], yieldCount := satAdd 32 s.spn.yieldCount 1 } }).log
      r 0x0F01 winner cls idx { value := yieldValue winner yielder }

/-- A yield of a party that is not a command begins: it is also reported to the queue groups (R43). -/
def State.yieldBegin (s : State) (r : Region) (winner yielder cls idx : Nat) : State :=
  if s.spn.yields.any (fun y => decide (y.cls = cls ∧ y.idx = idx ∧ y.winner = winner ∧ y.yielder = yielder ∧ y.tag = 0)) then s
  else (s.startYield r winner yielder cls idx).tellManagers 0x0F01 winner (if cls = 1 then 1 else if cls = 2 then 7 else if cls = 6 then 6 else 0) idx

/-- The yields on a resource, of one party, end: a second record gives each one's duration in µs (R44). -/
def State.yieldEnd (s : State) (r : Region) (cls idx : Nat) (tag : Nat := 0) : State :=
  let mine := s.spn.yields.filter (fun y => decide (y.cls = cls ∧ y.idx = idx ∧ y.tag = tag))
  let s := { s with spn := { s.spn with yields := s.spn.yields.filter (fun y => !decide (y.cls = cls ∧ y.idx = idx ∧ y.tag = tag)) } }
  mine.foldl (fun t y => t.log r 0x0F02 y.winner cls idx
    { value := yieldValue y.winner y.yielder, detail := le 8 (t.now - y.begun) }) s

/-- WINNING and YIELDING of SPN_YIELD_ACTIVE (Table 1-12). -/
def State.yieldActive (s : State) : Nat :=
  s.spn.yields.foldl (fun a y => setBit (setBit a y.winner) (7 + y.yielder)) 0

end Sys2Proof.Machine
end

