-- ==== Sys2Proof/Machine/Commands.lean ====
section
/-! DEFINITION. What every ZCP command goes through: the opcode table, the admission checks of R289, the order of
R292, and its completion (R288). -/
namespace Sys2Proof.Machine

/-- An opcode with its lowest privilege and the ZCP version that introduced it (Table 18-2), and the parameter bytes of a
command that carries it. -/
structure Op where
  code : Nat
  priv : Nat
  version : Nat
  args : Bytes := []
  deriving DecidableEq, Repr

/-- The opcode in a command with the given parameter bytes. -/
def Op.on (op : Op) (args : Bytes) : Op := { op with args := args }

/-- SESSION_NEGOTIATE (Table 18-2). -/
def opSessionNegotiate : Op := { code := 0x0000, priv := 0, version := 0x10 }
/-- CAPABILITIES (Table 18-2). -/
def opCapabilities : Op := { code := 0x0001, priv := 0, version := 0x10 }
/-- ECHO (Table 18-2). -/
def opEcho : Op := { code := 0x0002, priv := 0, version := 0x10 }
/-- SLOT_STATUS (Table 18-2). -/
def opSlotStatus : Op := { code := 0x0100, priv := 0, version := 0x10 }
/-- SLOT_HOLD (Table 18-2). -/
def opSlotHold : Op := { code := 0x0101, priv := 2, version := 0x10 }
/-- SLOT_RELEASE (Table 18-2). -/
def opSlotRelease : Op := { code := 0x0102, priv := 2, version := 0x10 }
/-- SLOT_RECOVER (Table 18-2). -/
def opSlotRecover : Op := { code := 0x0103, priv := 2, version := 0x10 }
/-- SLOT_UNQUARANTINE (Table 18-2). -/
def opSlotUnquarantine : Op := { code := 0x0104, priv := 3, version := 0x10 }
/-- BUS_RESTORE (Table 18-2). -/
def opBusRestore : Op := { code := 0x0105, priv := 2, version := 0x10 }
/-- POLICY_STAGE (Table 18-2). -/
def opPolicyStage : Op := { code := 0x0200, priv := 3, version := 0x10 }
/-- POLICY_COMMIT (Table 18-2). -/
def opPolicyCommit : Op := { code := 0x0201, priv := 3, version := 0x10 }
/-- POLICY_DISCARD (Table 18-2). -/
def opPolicyDiscard : Op := { code := 0x0202, priv := 3, version := 0x10 }
/-- POLICY_STATUS (Table 18-2). -/
def opPolicyStatus : Op := { code := 0x0203, priv := 0, version := 0x10 }
/-- VIOLATION_COUNTS (Table 18-2). -/
def opViolationCounts : Op := { code := 0x0210, priv := 0, version := 0x11 }
/-- VIOLATION_RESET (Table 18-2). -/
def opViolationReset : Op := { code := 0x0211, priv := 2, version := 0x11 }
/-- PORT_STATUS (Table 18-2). -/
def opPortStatus : Op := { code := 0x0220, priv := 0, version := 0x10 }
/-- PORT_IDLE_WINDOW (Table 18-2). -/
def opPortIdleWindow : Op := { code := 0x0221, priv := 2, version := 0x10 }
/-- MEASURE_STATUS (Table 18-2). -/
def opMeasureStatus : Op := { code := 0x0300, priv := 0, version := 0x10 }
/-- LEAF_READ (Table 18-2). -/
def opLeafRead : Op := { code := 0x0301, priv := 0, version := 0x10 }
/-- MEASURE_SCAN (Table 18-2). -/
def opMeasureScan : Op := { code := 0x0302, priv := 2, version := 0x10 }
/-- WEAR_READ (Table 18-2). -/
def opWearRead : Op := { code := 0x0303, priv := 0, version := 0x10 }
/-- WEAR_FORECAST (Table 18-2). -/
def opWearForecast : Op := { code := 0x0304, priv := 0, version := 0x11 }
/-- WEAR_RESET (Table 18-2). -/
def opWearReset : Op := { code := 0x0305, priv := 3, version := 0x10 }
/-- DIGEST_OPEN (Table 18-2). -/
def opDigestOpen : Op := { code := 0x0310, priv := 1, version := 0x10 }
/-- DIGEST_UPDATE (Table 18-2). -/
def opDigestUpdate : Op := { code := 0x0311, priv := 1, version := 0x10 }
/-- DIGEST_FINISH (Table 18-2). -/
def opDigestFinish : Op := { code := 0x0312, priv := 1, version := 0x10 }
/-- DIGEST_CLOSE (Table 18-2). -/
def opDigestClose : Op := { code := 0x0313, priv := 1, version := 0x10 }
/-- PK_OP (Table 18-2). -/
def opPkOp : Op := { code := 0x0320, priv := 1, version := 0x10 }
/-- HAMMER_STATUS (Table 18-2). -/
def opHammerStatus : Op := { code := 0x0321, priv := 0, version := 0x10 }
/-- HAMMER_LANE_TEST (Table 18-2). -/
def opHammerLaneTest : Op := { code := 0x0322, priv := 3, version := 0x11 }
/-- RECEIPT_SIGN (Table 18-2). -/
def opReceiptSign : Op := { code := 0x0400, priv := 1, version := 0x10 }
/-- RECEIPT_BATCH (Table 18-2). -/
def opReceiptBatch : Op := { code := 0x0401, priv := 1, version := 0x10 }
/-- RECEIPT_KEYS (Table 18-2). -/
def opReceiptKeys : Op := { code := 0x0402, priv := 0, version := 0x10 }
/-- PSD_READ (Table 18-2). -/
def opPsdRead : Op := { code := 0x0500, priv := 0, version := 0x10 }
/-- PSD_CHANGES (Table 18-2). -/
def opPsdChanges : Op := { code := 0x0501, priv := 0, version := 0x11 }
/-- CONFIG_DIGEST (Table 18-2). -/
def opConfigDigest : Op := { code := 0x0502, priv := 0, version := 0x11 }
/-- IDENTITY_CERTS (Table 18-2). -/
def opIdentityCerts : Op := { code := 0x0503, priv := 0, version := 0x10 }
/-- IDENTITY_CERT_INSTALL (Table 18-2). -/
def opIdentityCertInstall : Op := { code := 0x0504, priv := 3, version := 0x11 }
/-- RECOVER_STATUS (Table 18-2). -/
def opRecoverStatus : Op := { code := 0x0600, priv := 0, version := 0x10 }
/-- RECOVER_STAGE (Table 18-2). -/
def opRecoverStage : Op := { code := 0x0601, priv := 2, version := 0x10 }
/-- RECOVER_DATA (Table 18-2). -/
def opRecoverData : Op := { code := 0x0602, priv := 2, version := 0x12 }
/-- RECOVER_FULL (Table 18-2). -/
def opRecoverFull : Op := { code := 0x0603, priv := 3, version := 0x10 }
/-- RECOVER_ABORT (Table 18-2). -/
def opRecoverAbort : Op := { code := 0x0604, priv := 3, version := 0x10 }
/-- RECOVER_ARB_ADVANCE (Table 18-2). -/
def opRecoverArbAdvance : Op := { code := 0x0605, priv := 3, version := 0x10 }
/-- CART_STATUS (Table 18-2). -/
def opCartStatus : Op := { code := 0x0700, priv := 0, version := 0x10 }
/-- CART_CATALOGUE (Table 18-2). -/
def opCartCatalogue : Op := { code := 0x0701, priv := 0, version := 0x10 }
/-- CART_LIFE (Table 18-2). -/
def opCartLife : Op := { code := 0x0702, priv := 0, version := 0x11 }
/-- CART_EJECT (Table 18-2). -/
def opCartEject : Op := { code := 0x0703, priv := 2, version := 0x10 }
/-- CART_RESCAN (Table 18-2). -/
def opCartRescan : Op := { code := 0x0704, priv := 2, version := 0x10 }
/-- LC_STATUS (Table 18-2). -/
def opLcStatus : Op := { code := 0x0800, priv := 0, version := 0x10 }
/-- CRU_CHALLENGE (Table 18-2). -/
def opCruChallenge : Op := { code := 0x0801, priv := 0, version := 0x10 }
/-- LC_TRANSITION (Table 18-2). -/
def opLcTransition : Op := { code := 0x0802, priv := 3, version := 0x10 }
/-- OWNER_KEYS_READ (Table 18-2). -/
def opOwnerKeysRead : Op := { code := 0x0810, priv := 0, version := 0x10 }
/-- OWNER_KEY_CHANGE (Table 18-2). -/
def opOwnerKeyChange : Op := { code := 0x0811, priv := 3, version := 0x10 }
/-- DEBUG_GRANT (Table 18-2). -/
def opDebugGrant : Op := { code := 0x0820, priv := 2, version := 0x10 }
/-- DEBUG_END (Table 18-2). -/
def opDebugEnd : Op := { code := 0x0821, priv := 2, version := 0x10 }
/-- FW_STAGE (Table 18-2). -/
def opFwStage : Op := { code := 0x0830, priv := 3, version := 0x10 }
/-- FW_ACTIVATE (Table 18-2). -/
def opFwActivate : Op := { code := 0x0831, priv := 3, version := 0x10 }
/-- FW_STATUS (Table 18-2). -/
def opFwStatus : Op := { code := 0x0832, priv := 0, version := 0x10 }
/-- FW_ARB_ADVANCE (Table 18-2). -/
def opFwArbAdvance : Op := { code := 0x0833, priv := 3, version := 0x12 }
/-- RNG_READ (Table 18-2). -/
def opRngRead : Op := { code := 0x0840, priv := 1, version := 0x10 }
/-- OTP_READ (Table 18-2). -/
def opOtpRead : Op := { code := 0x0841, priv := 0, version := 0x10 }
/-- TIME_READ (Table 18-2). -/
def opTimeRead : Op := { code := 0x0900, priv := 0, version := 0x10 }
/-- TIME_SET (Table 18-2). -/
def opTimeSet : Op := { code := 0x0901, priv := 2, version := 0x10 }
/-- WIND (Table 18-2). -/
def opWind : Op := { code := 0x0910, priv := 1, version := 0x10 }
/-- WATCHDOG_STATUS (Table 18-2). -/
def opWatchdogStatus : Op := { code := 0x0911, priv := 0, version := 0x10 }
/-- WATCHDOG_ARM (Table 18-2). -/
def opWatchdogArm : Op := { code := 0x0912, priv := 2, version := 0x10 }
/-- TAMPER_STATUS (Table 18-2). -/
def opTamperStatus : Op := { code := 0x0A00, priv := 0, version := 0x10 }
/-- TAMPER_CLEAR (Table 18-2). -/
def opTamperClear : Op := { code := 0x0A01, priv := 3, version := 0x10 }
/-- TAMPER_TEST (Table 18-2). -/
def opTamperTest : Op := { code := 0x0A02, priv := 2, version := 0x10 }
/-- TAMPER_FIX (Table 18-2). -/
def opTamperFix : Op := { code := 0x0A03, priv := 3, version := 0x12 }
/-- LOG_STATUS (Table 18-2). -/
def opLogStatus : Op := { code := 0x0B00, priv := 0, version := 0x10 }
/-- LOG_READ (Table 18-2). -/
def opLogRead : Op := { code := 0x0B01, priv := 2, version := 0x10 }
/-- LOG_ACK (Table 18-2). -/
def opLogAck : Op := { code := 0x0B02, priv := 2, version := 0x10 }
/-- LOG_CLEAR (Table 18-2). -/
def opLogClear : Op := { code := 0x0B03, priv := 3, version := 0x10 }
/-- METER_STATUS (Table 18-2). -/
def opMeterStatus : Op := { code := 0x0C00, priv := 0, version := 0x10 }
/-- METER_RECORD (Table 18-2). -/
def opMeterRecord : Op := { code := 0x0C01, priv := 2, version := 0x10 }
/-- METER_ACK (Table 18-2). -/
def opMeterAck : Op := { code := 0x0C02, priv := 2, version := 0x10 }
/-- METER_CLOSE (Table 18-2). -/
def opMeterClose : Op := { code := 0x0C03, priv := 3, version := 0x10 }
/-- FAULT_STATUS (Table 18-2). -/
def opFaultStatus : Op := { code := 0x0F00, priv := 0, version := 0x10 }
/-- POWER_CAP_SET (Table 18-2). -/
def opPowerCapSet : Op := { code := 0x0F10, priv := 3, version := 0x12 }
/-- POWER_STATUS (Table 18-2). -/
def opPowerStatus : Op := { code := 0x0F11, priv := 0, version := 0x10 }

/-! ### Admission (R286, R289, R550) -/

/-- The ZCP version of a queue or session (R297). -/
def State.versionOf (s : State) (src : Src) : Nat :=
  match src with
  | .pcie q => (s.queue q).version
  | .framed t => (s.session t).version
  | .jtag => s.cme.jtagSession.version

/-- The privilege rule of R286 and the restricted sessions of Table 18-3. -/
def State.mayRun (s : State) (src : Src) (op : Op) : Bool :=
  match src with
  | .pcie q => decide (op.priv ≤ (s.grant q).priv)
  | .framed t =>
    if t = .uart0 ∧ s.boot.phase = .serialLoader then
      decide (op.code < 0x100) || op.code == 0x0830 || op.code == 0x0831 || op.code == 0x0832
    else match s.mgmtQueue t with
      | some q => decide (op.priv ≤ (s.grant q).priv)
      | none => decide (op.code < 0x100)
  | .jtag =>
    if s.cru.lcState = 6 then op.code == 0x0800
    else decide (op.code < 0x100) || op.code == 0x0800 || op.code == 0x0801 || op.code == 0x0841 ||
      op.code == 0x0820 || op.code == 0x0821

/-- The two commands that can return a result longer than 24 bytes (R553). -/
def longResult (op : Op) : Bool := op.code == 0x0301 || op.code == 0x0801

/-- Whether RESULT_ADDR is as R288 and R553 want it; a framed session ignores it (R306). -/
def resultAddrOk (h : Hdr) (op : Op) : Bool :=
  match h.src with
  | .pcie _ => if longResult op then h.resultAddr != 0 else h.resultAddr == 0
  | _ => true

/-- The status of the admission checks, 0 when all pass (R289). -/
def State.admission (s : State) (h : Hdr) (op : Op) (inRange : Bool) : Nat :=
  if s.versionOf h.src < op.version then 0x0103
  else if !s.mayRun h.src op then 0x0201
  else if h.cid = 0xFFFF ∨ h.reserved ≠ 0 ∨ !resultAddrOk h op ∨ !inRange then 0x0102
  else 0

/-- The commands of a source that are in flight. -/
def State.flights (s : State) (src : Src) : List Flight :=
  match src with
  | .pcie q => (s.queue q).flights
  | .framed t => (s.session t).flights
  | .jtag => s.cme.jtagFlights

/-- s with the commands in flight of a source changed by f. -/
def State.updFlights (s : State) (src : Src) (f : List Flight → List Flight) : State :=
  match src with
  | .pcie q => s.updQueue q (fun x => { x with flights := f x.flights })
  | .framed t => s.updSession t (fun x => { x with flights := f x.flights })
  | .jtag => { s with cme := { s.cme with jtagFlights := f s.cme.jtagFlights } }

/-- Whether an address that a command writes to is in range: not 0 (R551); a framed session ignores it (R306). -/
def State.writeAddrOk (_s : State) (h : Hdr) (addr : Nat) : Bool :=
  match h.src with
  | .pcie _ => addr != 0
  | _ => true

/-- The FIRST and COUNT of a range lie inside n objects (R551). -/
def rangeOk (first count n : Nat) : Bool := decide (first + count ≤ n) && decide (0 < count)

/-! ### Completion (R288, R292) -/

/-- What a command ends with. -/
structure Reply where
  status : Nat := 0
  carriedOut : Bool := true
  rung : Nat := 7
  result : Bytes := []
  out : List HostWrite := []
  issue : Option Issue := none
  deriving DecidableEq, Repr

/-- Status OK with a result. -/
def ok (result : Bytes := []) : Reply := { result := result }

/-- Status OK with a result and one block of data written to an address. -/
def okOut (addr : Nat) (data : Bytes) (result : Bytes := []) : Reply :=
  { result := result, out := [{ addr := addr, data := data }] }

/-- A failure without effect. -/
def err (status : Nat) (result : Bytes := []) : Reply := { status := status, carriedOut := false, result := result }

/-- The completion of a command from its reply. -/
def Reply.completion (r : Reply) (h : Hdr) : Completion :=
  { src := h.src, cid := h.cid, status := r.status, carriedOut := r.carriedOut, rung := r.rung, noInt := h.noInt,
    result := r.result, resultAddr := h.resultAddr, out := r.out, issue := r.issue }

/-- The command in flight that a stamped header names. -/
def State.inFlight (s : State) (h : Hdr) : Option Flight := (s.flights h.src).find? (fun f => decide (f.uid = h.uid))

/-- s with a finished completion in line for its queue or session. -/
def State.putDone (s : State) (src : Src) (c : Completion) : State :=
  match src with
  | .pcie q => s.updQueue q (fun x => { x with done := x.done ++ [c] })
  | .framed t => s.updSession t (fun x => { x with done := x.done ++ [c] })
  | .jtag => { s with cme := { s.cme with jtagSession := { s.cme.jtagSession with done := s.cme.jtagSession.done ++ [c] } } }

/-- A command ends: it leaves the commands in flight, and its completion is in line to be written unless R294 says it
never is. -/
def complete (h : Hdr) (r : Reply) (s : State) : State :=
  match s.inFlight h with
  | none => s
  | some f =>
    let s := s.updFlights h.src (fun l => l.eraseP (fun f => decide (f.uid = h.uid)))
    if f.orphan then s else s.putDone h.src (r.completion h)

/-! ### Taking up (R287, R291, R292) -/

/-- The command in flight that a row carries out: the oldest of its CID that has not begun, or that waits on an island or for a
lane. One
whose completion is never written runs to its end too (R294). -/
def State.flightFor (s : State) (h : Hdr) : Option Flight :=
  (s.flights h.src).find? (fun f => decide (f.cid = h.cid) && (!f.started || f.island != 0 || f.waits != .none))

/-- The length of the inline data of a framed command (R306). -/
def State.inlineLen (s : State) (h : Hdr) : Nat :=
  match s.flightFor h with
  | some f => f.data.length
  | none => 0

/-- Whether an address that a command reads n bytes from is in range: not 0 in host memory (R551), or an offset inside the
inline data, which holds the bytes (R306, log entry 110). -/
def State.readAddrOk (s : State) (h : Hdr) (addr n : Nat) : Bool :=
  match h.src with
  | .pcie _ => addr != 0
  | _ => decide (addr < s.inlineLen h ∧ addr + n ≤ s.inlineLen h)

/-- The n bytes that a command reads from an address: what the host memory of its function holds there, or the part of its
inline data (R306). -/
def State.inputOf (s : State) (h : Hdr) (addr n : Nat) (host : Bytes) : Bytes :=
  match h.src with
  | .pcie _ => host
  | _ => match s.flightFor h with
    | some f => slice f.data addr n
    | none => []

/-- The 64 bytes of the submission entry of a command (Table 8-9). -/
def submission (h : Hdr) (op : Op) : Bytes :=
  fixLen 64 (le 2 op.code ++ le 2 h.cid ++ le 1 (b2n h.fence + 2 * b2n h.noInt) ++ zeros 3 ++ le 8 h.resultAddr ++ op.args)

/-- The entry of a command in flight spells a row's command. An empty entry, which no row brings in flight, spells any. -/
def Flight.spells (f : Flight) (h : Hdr) (op : Op) : Bool :=
  f.entry.isEmpty || (decide (h.reserved = 0) && f.entry == submission h op)

/-- The depth D of a queue (R290). -/
def Queue.depth (q : Queue) : Nat := 2 ^ q.depthLog2

/-- P: completions posted and not yet consumed (R291). -/
def Queue.posted (q : Queue) : Nat := (q.cqTail + q.depth - q.cqHead) % q.depth

/-- F: commands fetched whose completion entry is not yet written (R291). -/
def Queue.inFlight (q : Queue) : Nat :=
  (q.flights.filter (fun f => !f.orphan)).length + (q.done.filter (fun c => !c.isAsync)).length

/-- R291 lets the queue's next entry be fetched. -/
def Queue.roomToFetch (q : Queue) : Bool :=
  decide (q.posted + q.inFlight + (if q.async then 2 else 1) ≤ q.depth - 1)

/-- READY of CME_FN_STATUS (Table 8-13). -/
def State.ready (s : State) : Bool := s.boot.controlUp && (s.boot.phase == .operational || s.boot.phase == .noPolicy)

/-- A framed target carries ZCP now (Table 8-1). -/
def State.framedReady (s : State) (t : Target) : Bool :=
  !s.cme.draining && (s.ready || (t == .uart0 && s.boot.controlUp && s.boot.phase == .serialLoader))

/-- A source that works: the region that serves it is up. -/
def State.sourceUp (s : State) (src : Src) : Bool :=
  match src with
  | .jtag => s.boot.pwrOk
  | _ => s.boot.controlUp

/-- Whether a row's command may be handed on: a command of its CID is in flight and its entry spells the row (R287, R291). -/
def State.sourceLive (s : State) (h : Hdr) (op : Op) : Bool :=
  match s.flightFor h with
  | some f => s.sourceUp h.src && f.spells h op
  | none => false

/-- The number that a row's command has in flight; where there is none, one that no command has. -/
def State.uidFor (s : State) (h : Hdr) : Nat := ((s.flightFor h).map Flight.uid).getD s.cme.nextUid

/-- The header with its command's number in flight. -/
def State.stamp (s : State) (h : Hdr) : Hdr := { h with uid := s.uidFor h }

/-- Whether the order of R292 lets a command start now: every command fetched before it has started, none of them has
FENCE set, and a command with FENCE set has none before it. -/
def State.mayStart (s : State) (h : Hdr) : Bool :=
  let before := (s.flights h.src).takeWhile (fun f => decide (f.uid ≠ s.uidFor h))
  before.all (fun f => f.started && !f.fence) && (before.isEmpty || !h.fence)

/-- s with a command in flight added under the next number. -/
def State.addFlight (s : State) (src : Src) (f : Flight) : State :=
  let n := s.cme.nextUid
  let s := s.updFlights src (fun l => l ++ [{ f with uid := n }])
  { s with cme := { s.cme with nextUid := n + 1 } }

/-- s with the command marked as started. -/
def State.started (s : State) (h : Hdr) : State :=
  s.updFlights h.src (fun l => l.map (fun f => if f.uid = s.uidFor h then { f with started := true, island := 0, waits := .none } else f))

/-- Whether a command row is taken up at all: its source can have sent it and R292 lets it start. -/
def State.takes (s : State) (h : Hdr) (op : Op) : Bool := s.sourceLive h op && s.mayStart h

/-- The clock of an island of Table 8-18 has stopped (R515). -/
def State.islandStopped (s : State) (i : Nat) : Bool := decide (1 ≤ i) && !s.spn.clockRunning.testBit i

/-- The island that every run of a command crosses (Table 8-18), 0 for none. -/
def Op.island (op : Op) : Nat :=
  if 0x0700 ≤ op.code ∧ op.code ≤ 0x0704 then 1
  else if op.code = 0x0105 then 4
  else if op.code = 0x0900 ∨ op.code = 0x0901 then 5
  else if op.code = 0x0F10 ∨ op.code = 0x0F11 then 6
  else 0

/-- One more event at a crossing: while the toggle before it is not acknowledged they merge, and the count keeps their number
up to 255 (R513). -/
def Crossing.merge (x : Crossing) : Crossing := if x.count < 255 then { x with count := x.count + 1 } else { x with saturated := true }

/-- An event crosses into an island whose clock has stopped, and is not acknowledged (R513, R515). -/
def State.crossInto (s : State) (i : Nat) : State := { s with spn := { s.spn with crossings := s.spn.crossings.upd i {} Crossing.merge } }

/-- s with the command that a stamped header names waiting on a crossing into an island (R309). -/
def State.waitIsland (s : State) (h : Hdr) (i : Nat) : State :=
  (s.crossInto i).updFlights h.src (fun l => l.map (fun f => if f.uid = h.uid then { f with island := i, islandAt := s.now } else f))

/-- s with the command that a stamped header names waiting for a lane: its row, sent again, carries it out. -/
def State.waitLane (s : State) (h : Hdr) (w : LaneWait) : State :=
  s.updFlights h.src (fun l => l.map (fun f => if f.uid = h.uid then { f with waits := w } else f))

/-- A ZCP command: the admission checks, then its own checks and effect, to which its stamped header is given. A body that
answers no reply leaves the command waiting for the event that ends it. A command whose island has stopped waits: its row,
sent again once the clock is back, carries it out, and ISLAND_CROSSING_TIMEOUT ends it otherwise (R309). -/
def command (op : Op) (h : Hdr) (inRange : Bool) (s : State) (body : Hdr → State → Option Reply × State) : State :=
  if !s.takes h op then s
  else
    let st := s.admission h op inRange
    let k := s.stamp h
    let t := s.started h
    if st ≠ 0 then complete k (err st) t
    else if s.islandStopped op.island then t.waitIsland k op.island
    else match body k t with
      | (some r, t) => complete k r t
      | (none, t) => t

/-- A command whose body always ends it. -/
def commandC (op : Op) (h : Hdr) (inRange : Bool) (s : State) (body : Hdr → State → Reply × State) : State :=
  command op h inRange s (fun h t => ((some (body h t).1), (body h t).2))

/-- A command that only reads. -/
def commandR (op : Op) (h : Hdr) (inRange : Bool) (s : State) (body : Hdr → State → Reply) : State :=
  command op h inRange s (fun h t => (some (body h t), t))

/-- Commands that wait end together with one reply. -/
def completeAll (hs : List Hdr) (r : Reply) (s : State) : State := hs.foldl (fun t h => complete h r t) s

/-- The function that submits a command: the one that opened its queue; none for a management source. -/
def State.fnOf (s : State) (src : Src) : Option Nat :=
  match src with
  | .pcie q => some (s.queue q).fn
  | _ => none

/-- The queue under which a source's work is counted: its own, or its management queue. -/
def State.queueOf (s : State) (src : Src) : Nat :=
  match src with
  | .pcie q => q
  | .framed t => (s.mgmtQueue t).getD 0xFFFF
  | .jtag => 0xFFFF

/-- s with the metering counts of queue q changed by f (R334). -/
def State.updCount (s : State) (q : Nat) (f : QCount → QCount) : State :=
  if q < 4096 then { s with rfg := { s.rfg with counts := s.rfg.counts.upd q {} f } } else s

end Sys2Proof.Machine
end

