-- ==== Sys2Proof/Machine/Sections.lean ====
section
/-! DEFINITION. The records of the policy in force, read from its packed sections where they are used: strings, slots,
expanders, edges, ports, devices. -/
namespace Sys2Proof.Machine

/-! ### Strings (Table 3-5): entry i is STR[i], and XSTR[i − 128] from 128 -/

/-- A decoded string entry. -/
structure StrEntry where
  role : Nat := 0
  high : Bool := false
  openDrain : Bool := false
  gate : Bool := false
  target : Nat := 0
  bus : Nat := 0
  expander : Nat := 0
  line : Nat := 0
  offsetA : Nat := 0
  offsetB : Nat := 0
  deriving DecidableEq, Repr

/-- The entry that 16 bytes of STRING_TABLE spell. -/
def decodeStr (r : Bytes) : StrEntry :=
  { role := fld r 0 1, high := (fld r 1 1).testBit 0, openDrain := (fld r 1 1).testBit 1, gate := (fld r 1 1).testBit 2,
    target := fld r 2 1, bus := bits (fld r 3 1) 4 2, expander := bits (fld r 3 1) 0 3, line := fld r 4 1,
    offsetA := fld r 8 4, offsetB := fld r 12 4 }

/-- The 256 string entries of an image, with their indices. -/
def strEntriesOf (sec : Bytes) : List (Nat × StrEntry) :=
  (List.range 256).zip ((chunks 16 256 sec).map decodeStr)

/-- The string entries of the policy in force. -/
def State.strEntries (s : State) : List (Nat × StrEntry) := strEntriesOf (s.sec 0x10)

/-- String entry i. -/
def State.strEntry (s : State) (i : Nat) : StrEntry := decodeStr (s.secRec 0x10 0 16 i)

/-- A RESET or ENABLE string. -/
def StrEntry.isOutput (e : StrEntry) : Bool := e.role == 1 || e.role == 2

/-- A string that names a slot: RESET, ENABLE or POWER_GOOD. -/
def StrEntry.namesSlot (e : StrEntry) (n : Nat) : Bool := (e.role == 1 || e.role == 2 || e.role == 3) && e.target == n

/-- The strings that name slot n, in ascending index. -/
def State.slotStrings (s : State) (n : Nat) : List (Nat × StrEntry) := s.strEntries.filter (fun p => p.2.namesSlot n)

/-- The RESET and ENABLE strings of slot n. -/
def State.slotOutputs (s : State) (n : Nat) : List (Nat × StrEntry) := (s.slotStrings n).filter (fun p => p.2.isOutput)

/-- The POWER_GOOD strings of slot n. -/
def State.slotPg (s : State) (n : Nat) : List (Nat × StrEntry) := (s.slotStrings n).filter (fun p => p.2.role == 3)

/-- Whether slot n has a string on bus b. -/
def State.slotOnBus (s : State) (n b : Nat) : Bool := (s.slotStrings n).any (fun p => decide (128 ≤ p.1) && p.2.bus == b)

/-- The BUS_RESET string of bus b. -/
def State.busReset (s : State) (b : Nat) : Option Nat :=
  (s.strEntries.find? (fun p => p.2.role == 4 && p.2.target == b)).map Prod.fst

/-! ### Slots (Table 3-6) -/

/-- FLAGS of slot record n. -/
def State.slotFlags (s : State) (n : Nat) : Nat := fld (s.secRec 0x11 0 8 n) 0 1
/-- DEFINED. -/
def State.slotDefined (s : State) (n : Nat) : Bool := (s.slotFlags n).testBit 0
/-- AUTO_RELEASE. -/
def State.autoRelease (s : State) (n : Nat) : Bool := (s.slotFlags n).testBit 1
/-- AUTO_RESTORE. -/
def State.autoRestore (s : State) (n : Nat) : Bool := (s.slotFlags n).testBit 2
/-- WIND. -/
def State.slotWinds (s : State) (n : Nat) : Bool := (s.slotFlags n).testBit 3
/-- PG_ACTION: 0 LOG, 1 HOLD, 2 RECOVER. -/
def State.pgAction (s : State) (n : Nat) : Nat := fld (s.secRec 0x11 0 8 n) 3 1

/-- The device that a FLASH0 or FLASH1 byte binds: 2 × port + chip select. -/
def flashOf (b : Nat) : Option Nat := if b.testBit 7 then some (2 * bits b 0 4 + bits b 4 1) else none

/-- The devices bound by a slot record. -/
def devicesOfRec (r : Bytes) : List Nat := [flashOf (fld r 1 1), flashOf (fld r 2 1)].filterMap id

/-- The devices that slot n binds. -/
def State.slotDevices (s : State) (n : Nat) : List Nat :=
  if s.slotDefined n then devicesOfRec (s.secRec 0x11 0 8 n) else []

/-- The slot that binds device d. -/
def State.deviceSlot (s : State) (d : Nat) : Option Nat :=
  (List.range 256).find? (fun n => (s.slotDevices n).contains d)

/-- The slots bound to a port's devices, in ascending order. -/
def State.portSlots (s : State) (p : Nat) : List Nat :=
  (List.range 256).filter (fun n => (s.slotDevices n).any (fun d => d / 2 == p))

/-- The devices of a port that a slot binds. -/
def State.portDevices (s : State) (p : Nat) : List Nat := [2 * p, 2 * p + 1].filter (fun d => (s.deviceSlot d).isSome)

/-! ### Expanders (Table 3-7) -/

/-- PROTOCOL of expander e on bus b: 0 not fitted, 1 I3C, 2 I2C. -/
def State.expProtocol (s : State) (b e : Nat) : Nat := fld (s.secRec 0x12 0 4 (8 * b + e)) 0 1

/-- The tick of bus b in µs: 400 with more than four I2C expanders (R101). -/
def State.busTick (s : State) (b : Nat) : Nat :=
  if 4 < ((List.range 8).filter (fun e => s.expProtocol b e == 2)).length then 400 else 200

/-- Whether a bound extension string, or a fitted expander, uses bus b. -/
def State.busUsed (s : State) (b : Nat) : Bool := (List.range 8).any (fun e => s.expProtocol b e != 0)

/-! ### Edges (Table 3-8) -/

/-- A decoded edge. -/
structure EdgeRec where
  src : Nat := 0
  dst : Nat := 0
  coupled : Bool := false
  maxAction : Nat := 0
  soft : Bool := false
  minDelay : Nat := 0
  maxDelay : Nat := 0xFFFFFFFF
  deriving DecidableEq, Repr

/-- The edge that 12 bytes spell. -/
def decodeEdge (r : Bytes) : EdgeRec :=
  { src := fld r 0 1, dst := fld r 1 1, coupled := (fld r 2 1).testBit 0, maxAction := bits (fld r 2 1) 1 2,
    soft := (fld r 2 1).testBit 3, minDelay := fld r 4 4, maxDelay := fld r 8 4 }

/-- The edges of a DEPENDENCY_GRAPH section, with their indices. -/
def edgesOf (sec : Bytes) : List (Nat × EdgeRec) := (List.range 1024).zip ((chunks 12 1024 sec).map decodeEdge)

/-- The edges of the policy in force. -/
def State.edges (s : State) : List (Nat × EdgeRec) := edgesOf (s.sec 0x13)

/-! ### What the PSD preimage holds -/

/-- The field of the preimage at an offset has changed (R362). -/
def State.stirPsd (s : State) (offset : Nat) : State :=
  if s.atr.moved.contains offset then s else { s with atr := { s.atr with moved := s.atr.moved ++ [offset] } }

/-- y as a flash state record after x: a change of it is counted (R362). -/
def FlashRec.stir (x y : FlashRec) : FlashRec := { y with stirs := if { y with stirs := x.stirs } = x then x.stirs else x.stirs + 1 }

/-- s with the flash state record of device d changed by f. -/
def State.updRec (s : State) (d : Nat) (f : FlashRec → FlashRec) : State :=
  { s with fit := { s.fit with recs := s.fit.recs.upd d {} (fun x => x.stir (f x)) } }

/-! ### Ports and devices -/

/-- Port p. -/
def State.port (s : State) (p : Nat) : Port := s.apa.ports.get p {}

/-- The bank of tables that a port enforces. -/
def Port.bank (p : Port) : Bank := if p.active = 0 then p.bank0 else p.bank1

/-- The preimage holds the same of two states of a port, bindings apart (Table 10-7). -/
def Port.psdSame (x y : Port) : Bool :=
  x.bank.epoch == y.bank.epoch && (x.mode == .frozen) == (y.mode == .frozen) && x.dev0.resync == y.dev0.resync &&
  x.dev0.sfdp == y.dev0.sfdp && x.dev1.resync == y.dev1.resync && x.dev1.sfdp == y.dev1.sfdp

/-- y as the state of a port after x: a change of what the preimage holds of it is counted (R362). -/
def Port.stir (x y : Port) : Port := { y with stirs := if x.psdSame y then x.stirs else x.stirs + 1 }

/-- s with port p changed by f. -/
def State.updPort (s : State) (p : Nat) (f : Port → Port) : State :=
  { s with apa := { s.apa with ports := s.apa.ports.upd p {} (fun x => x.stir (f x)) } }

/-- The bank that a port does not enforce. -/
def Port.otherBank (p : Port) : Bank := if p.active = 0 then p.bank1 else p.bank0

/-- The shadow of chip select k. -/
def Port.dev (p : Port) (k : Nat) : Shadow := if k = 0 then p.dev0 else p.dev1

/-- p with the shadow of chip select k changed by f. -/
def Port.updDev (p : Port) (k : Nat) (f : Shadow → Shadow) : Port :=
  if k = 0 then { p with dev0 := f p.dev0 } else { p with dev1 := f p.dev1 }

/-- GUARDED of the port record in force (Table 5-4). -/
def Bank.guarded (b : Bank) : Bool := (fld b.record 0 1).testBit 0
/-- DEFAULT_FILL. -/
def Bank.defaultFill (b : Bank) : Nat := fld b.record 2 1
/-- GAP_WAIT_MS. -/
def Bank.gapWaitMs (b : Bank) : Nat := fld b.record 4 2

/-- The device record of device d that its port enforces (Table 6-8); empty where there is none. -/
def State.deviceRec (s : State) (d : Nat) : Bytes :=
  let b := (s.port (d / 2)).bank
  if d % 2 = 0 then b.dev0 else b.dev1

/-- VALID of a device record. -/
def State.deviceValid (s : State) (d : Nat) : Bool := decide (d < 32) && (fld (s.deviceRec d) 0 1).testBit 0

/-- The number of 64 KiB blocks of device d under the profile that its port enforces (R217). -/
def State.deviceBlocks (s : State) (d : Nat) : Nat :=
  let l := fld (s.port (d / 2)).bank.profile 3 1
  if 16 ≤ l ∧ l ≤ 29 then 2 ^ (l - 16) else 0

/-- Whether block i of device d lies in an exclusion of its record (Table 6-8). -/
def State.blockExcluded (s : State) (d i : Nat) : Bool :=
  let r := s.deviceRec d
  (List.range (min (fld r 7 1) 8)).any (fun e =>
    let a := fld r (64 + 4 * e) 2
    decide (a ≤ i ∧ i < a + fld r (66 + 4 * e) 2))

/-! ### Slots as the Strings Unit holds them -/

/-- Slot n. -/
def State.slot (s : State) (n : Nat) : Slot := s.strs.slots.get n {}

/-- s with slot n changed by f. -/
def State.updSlot (s : State) (n : Nat) (f : Slot → Slot) : State :=
  { s with strs := { s.strs with slots := s.strs.slots.upd n {} f } }

/-- String i. -/
def State.str (s : State) (i : Nat) : Str := s.strs.strs.get i {}

/-- s with string i changed by f. -/
def State.updStr (s : State) (i : Nat) (f : Str → Str) : State :=
  { s with strs := { s.strs with strs := s.strs.strs.upd i {} f } }

/-- The XB bus b. -/
def State.xbus (s : State) (b : Nat) : XBus :=
  match b with
  | 0 => s.strs.bus0
  | 1 => s.strs.bus1
  | 2 => s.strs.bus2
  | _ => s.strs.bus3

/-- s with XB bus b changed by f. -/
def State.updBus (s : State) (b : Nat) (f : XBus → XBus) : State :=
  match b with
  | 0 => { s with strs := { s.strs with bus0 := f s.strs.bus0 } }
  | 1 => { s with strs := { s.strs with bus1 := f s.strs.bus1 } }
  | 2 => { s with strs := { s.strs with bus2 := f s.strs.bus2 } }
  | _ => { s with strs := { s.strs with bus3 := f s.strs.bus3 } }

/-- What the dependency rules remember of edge i. -/
def State.edgeMem (s : State) (i : Nat) : Edge := s.strs.edges.get i {}

/-- s with the memory of edge i changed by f. -/
def State.updEdge (s : State) (i : Nat) (f : Edge → Edge) : State :=
  { s with strs := { s.strs with edges := s.strs.edges.upd i {} f } }

/-- The smallest resource that sources of one class share: hint class and index (R495). -/
def State.sharedResource (s : State) (cls : Nat) (idxs : List Nat) (islands : List Nat) : Nat × Nat :=
  let port : Option Nat :=
    if cls = 3 ∨ cls = 9 then
      (List.range 16).find? (fun p => idxs.all (fun n => (s.slotDevices n).any (fun d => d / 2 == p)))
    else if cls = 2 then (List.range 16).find? (fun p => idxs.all (fun d => d / 2 == p))
    else none
  let bus : Option Nat :=
    if cls = 3 ∨ cls = 9 then (List.range 4).find? (fun b => idxs.all (fun n => s.slotOnBus n b)) else none
  let group : Option Nat :=
    if cls = 5 then (List.range 64).find? (fun g => idxs.all (fun q => q / 64 == g)) else none
  let island : Option Nat := ([1, 2, 3, 4, 5, 6] : List Nat).find? (fun i => islands.all (· == i))
  match port, bus, group with
  | some p, _, _ => (1, p)
  | none, some b, _ => (2, b)
  | none, none, some g => (5, g)
  | none, none, none =>
    match island with
    | some i => (3, i)
    | none => (0, 0)

end Sys2Proof.Machine
end

