-- ==== Sys2Proof/Machine/SlotOps.lean ====
section
/-! DEFINITION. The shared operations of chapter 3 on slots: changing a slot's state, hold and release of its strings,
holds along COUPLED edges, recovery and checking. -/
namespace Sys2Proof.Machine

/-- The value of a slot state (Table 3-1). -/
def SlotState.code : SlotState → Nat
  | .absent => 0
  | .held => 1
  | .checking => 2
  | .released => 3
  | .recovering => 4
  | .quarantined => 5

/-- The value of a REASON (Table 3-13). -/
def Reason.code : Reason → Nat
  | .none => 0
  | .powerOn => 1
  | .waitingDependency => 2
  | .command => 3
  | .rootMismatch => 4
  | .watchdog => 5
  | .violations => 6
  | .pgLoss => 7
  | .busIsolated => 8
  | .coupledHold => 9
  | .maxDelay => 10
  | .recoveryFailed => 11
  | .tamperHold => 12
  | .controlRestart => 13
  | .noPolicy => 14
  | .leafMismatch => 15

/-! ### The tamper sources' settings in force (R449, R450) -/

/-- The record of source i in the copy of the TAMPER section; empty where there is none. -/
def State.tamperRec (s : State) (i : Nat) : Bytes :=
  if s.emb.tamperCopy.isEmpty then [] else slice s.emb.tamperCopy (16 + 8 * i) 8

/-- The source's bit in OTP word 112 is blown (R451). -/
def State.sourceFixed (s : State) (i : Nat) : Bool := (s.otpWord 112).testBit i

/-- MODE of source i: 0 DISABLED, 1 PROGRAMMABLE, 2 HARDWARE_QUENCH. -/
def State.sourceMode (s : State) (i : Nat) : Nat :=
  if s.sourceFixed i then 2
  else if s.emb.tamperCopy.isEmpty then (if i < 16 then 1 else 0) else fld (s.tamperRec i) 0 1

/-- The response of source i: bit 0 LOG, 1 ALERT, 2 HOLD_PLATFORM, 3 QUENCH. -/
def State.sourceResponse (s : State) (i : Nat) : Nat :=
  match s.sourceMode i with
  | 0 => 0
  | 1 => if s.emb.tamperCopy.isEmpty then 3 else fld (s.tamperRec i) 1 1
  | _ => 11

/-- COUNT of source i. -/
def State.sourceCount (s : State) (i : Nat) : Nat :=
  if s.sourceFixed i ∨ s.emb.tamperCopy.isEmpty then 1 else fld (s.tamperRec i) 2 1

/-- WINDOW_MS of source i. -/
def State.sourceWindow (s : State) (i : Nat) : Nat :=
  if s.emb.tamperCopy.isEmpty then 1000 else fld (s.tamperRec i) 4 2

/-- Source i as the Ember region holds it. -/
def State.source (s : State) (i : Nat) : Source := s.emb.sources.get i {}

/-- s with source i changed by f. -/
def State.updSource (s : State) (i : Nat) (f : Source → Source) : State :=
  { s with emb := { s.emb with sources := s.emb.sources.upd i {} f } }

/-- A tripped source has HOLD_PLATFORM in its response (R446). -/
def State.platformHeld (s : State) : Bool :=
  (List.range 32).any (fun i => (s.source i).tripped && (s.sourceResponse i).testBit 2)

/-! ### Predicates -/

/-- The check of every device that slot n binds matches (R219, R86). -/
def State.slotMatches (s : State) (n : Nat) : Bool :=
  (s.slotDevices n).all (fun d => (s.fit.recs.get d {}).checkMatch)

/-- Slot n is cleared for release (R86): by AUTO_RELEASE, but not while R114 keeps it HELD until a SLOT_RELEASE. -/
def State.slotCleared (s : State) (n : Nat) : Bool :=
  (s.autoRelease n && !(s.slot n).needsRelease) || (s.slot n).cleared || (s.slot n).restore

/-- Slot n is RELEASED. -/
def State.isReleased (s : State) (n : Nat) : Bool := (s.slot n).state == .released

/-- Some slot bound to port p is RELEASED. -/
def State.portReleased (s : State) (p : Nat) : Bool := (s.portSlots p).any s.isReleased

/-- Recovery is enabled for slot n: by its RECOVERY record, or by an OPEN or REMEASURE journal record of one of its
devices (R371). The slot records follow the section's 64-byte header, 4 bytes each. -/
def State.recoveryEnabled (s : State) (n : Nat) (recordFlags : Nat) : Bool :=
  recordFlags.testBit 0 ||
  (s.slotDevices n).any (fun d =>
    let j := s.rfu.journal.get d {}
    j.state == .opened || j.state == .remeasure)

/-- An XB bus that carries a string of slot n is ISOLATED (R112). -/
def State.slotIsolated (s : State) (n : Nat) : Bool :=
  (List.range 4).any (fun b => (s.xbus b).state == .isolated && s.slotOnBus n b)

/-! ### State changes -/

/-- A superseded or repeated request for a slot is logged with the state that stands (R87, R375). -/
def State.logSuperseded (s : State) (n : Nat) (why : Reason) : State :=
  s.log .control 0x0102 3 3 n { cause := why.code, value := (s.slot n).state.code }

/-- The rank of a request's target state: the higher takes effect (R87). -/
def SlotState.rank : SlotState → Nat
  | .quarantined => 5
  | .recovering => 4
  | .held => 3
  | .checking => 2
  | .released => 1
  | .absent => 0

/-- A request that finds its slot in a state of higher rank than its target, entered in the same instant, is logged as
superseded (R87): one instant is one value of DMT (log entry 84). -/
def State.superseded (s : State) (n : Nat) (target : SlotState) (why : Reason) : State :=
  if (s.slot n).changedAt = some s.now ∧ target.rank < (s.slot n).state.rank then s.logSuperseded n why else s

/-- A change of a slot's state, REASON and CHECKED: CHANGE is set, a departure from RELEASED is counted, and a record
is written when the state or CHECKED changes (R88, Table 3-9, Table 3-13). -/
def State.setSlot (s : State) (n : Nat) (st : SlotState) (why : Reason) (checked : Bool) : State :=
  let o := s.slot n
  let s := s.updSlot n (fun x => { x with state := st, reason := why, checked := checked,
                                          changedAt := if x.state == st then x.changedAt else some s.now,
                                          holds := if o.state == .released && st != .released then min (x.holds + 1) 255 else x.holds })
  if o.state == st && o.checked == checked then s
  else
    let s := { s with strs := { s.strs with change := s.strs.change || o.state != st }
                      atr := (s.stirPsd (0x100 + 64 * (n / 64))).atr }
    let s := if o.changedAt = some s.now ∧ o.state.rank < st.rank ∧ (o.state = .held ∨ o.state = .released ∨ o.state = .recovering) ∧ st ≠ .checking
             then s.logSuperseded n o.reason else s
    s.log .guard 0x0101 3 3 n
      { cause := why.code, value := o.state.code + 256 * st.code + 65536 * b2n checked }

/-- The wind-up channel of a slot that leaves RELEASED returns to IDLE (R463). -/
def State.disarm (s : State) (n : Nat) : State :=
  { s with wwu := { s.wwu with channels := s.wwu.channels.upd n {} (fun c =>
      { c with state := .idle, turn := 0, start := 0, openAt := 0, deadline := 0, record := [], warned := false, afterExpiry := false, onBackup := false }) } }

/-- A hold trigger of slot n: each output string that is slack is scheduled to go taut at the trigger plus its hold
offset; release steps that have not happened are cancelled (R103). -/
def State.holdTrigger (s : State) (n : Nat) : State :=
  let s := (s.slotOutputs n).foldl (fun t p => t.updStr p.1 (fun x =>
    { x with due := if x.slack then some (t.now + p.2.offsetB, false) else none })) s
  s.updSlot n (fun x => { x with seq := .holding, trigAt := s.now, gateWait := false, completed := false, readyAt := 0 })

/-- The hold trigger of a slot that is held while the Control Region is down: no string of it moves now, and its hold sequence
begins when the restart ends (R16, R108, R112). -/
def State.holdLater (s : State) (n : Nat) : State :=
  let s := { s with strs := { s.strs with cutShort := s.strs.cutShort ++ [(n, false)] } }
  s.updSlot n (fun x => { x with seq := .none, gateWait := false, completed := false, readyAt := 0 })

/-- The release trigger's part on strings: each output string is scheduled to go slack at the trigger plus its release
offset, but a RESET string of a slot with a GATE input counts from that input's acceptance (R100). An input already accepted
at the trigger leaves the trigger as the count's start, and any one of several GATE inputs is enough: DESIGN CHOICES (log
entry 93). -/
def State.scheduleRelease (s : State) (n : Nat) : State :=
  let gated := (s.slotPg n).any (fun p => p.2.gate)
  let seen := (s.slotPg n).any (fun p => p.2.gate && (s.str p.1).accepted)
  let wait := gated && !seen
  let s := (s.slotOutputs n).foldl (fun t p => t.updStr p.1 (fun x =>
    { x with due := if wait && p.2.role == 1 then none else if x.slack then none else some (t.now + p.2.offsetA, true) })) s
  s.updSlot n (fun x => { x with gateWait := wait })

/-- A change becomes pending on port p (R126, R130). One that replaces a change that waits goes on with its wait: a DESIGN
CHOICE, for R130 does not say whether the wait begins anew (log entry 117). -/
def State.setPending (s : State) (p : Nat) (m : PendMode) : State :=
  s.updPort p (fun x => { x with pending := m, pendingSince := if x.pending == .none then s.now else x.pendingSince,
                                 waitLogged := if x.pending == .none then false else x.waitLogged })

/-- A port whose last RELEASED slot has left that state is to enter OWN at the next host-idle point (Table 4-5). -/
def State.portAfterHold (s : State) (p : Nat) : State :=
  let x := s.port p
  if !s.portReleased p && x.mode == .pass && x.pending != .own then s.setPending p .own else s

/-- The ports that carry devices of slot n. -/
def State.slotPorts (s : State) (n : Nat) : List Nat := ((s.slotDevices n).map (· / 2)).eraseDups

/-- Slot n alone leaves RELEASED for a state (R463, R103, Table 4-5). -/
def State.leaveReleased (s : State) (n : Nat) (st : SlotState) (why : Reason) : State :=
  let s := s.setSlot n st why (s.slot n).checked
  let s := s.updSlot n (fun x => { x with heldAt := some s.now })
  let s := if s.boot.controlUp then s.holdTrigger n else s.holdLater n
  let s := s.disarm n
  (s.slotPorts n).foldl State.portAfterHold s

/-- One round of R107: the RELEASED dependants on COUPLED edges from a set of slots, added to it. -/
def State.coupledRound (s : State) (l : List Nat) : List Nat :=
  (s.edges.filterMap (fun p =>
    if p.2.coupled && l.contains p.2.src && s.isReleased p.2.dst && !l.contains p.2.dst then some p.2.dst else none)).foldl
    (fun a d => if a.contains d then a else a ++ [d]) l

/-- Every slot that the cascade of R107 reaches from slot n, n first. -/
def State.coupledClosure (s : State) (n : Nat) : Nat → List Nat → List Nat
  | 0, l => l
  | k + 1, l =>
    let l' := s.coupledRound l
    if l'.length = l.length then l else State.coupledClosure s n k l'

/-- The dependants of slot n on COUPLED edges are held with it, and the cascade goes on (R107). -/
def State.holdCoupled (s : State) (n : Nat) : State :=
  let deps := (s.coupledClosure n 256 [n]).filter (fun d => decide (d ≠ n))
  let s := deps.foldl (fun t d => t.leaveReleased d .held .coupledHold) s
  s.edges.foldl (fun t p =>
    if p.2.coupled && (p.2.src == n || deps.contains p.2.src) then
      if deps.contains p.2.dst then t.updEdge p.1 (fun e => { e with heldDep := true })
      else if p.2.dst == n then t else t.superseded p.2.dst .held .coupledHold
    else t) s

/-- A RELEASED slot is held, with the cascade of R107 (Table 3-2). During a Control Region restart the COUPLED holds
wait (R112). -/
def State.holdSlot (s : State) (n : Nat) (why : Reason) : State :=
  if s.isReleased n then
    let s := s.leaveReleased n .held why
    if s.boot.controlUp then s.holdCoupled n
    else { s with strs := { s.strs with latched := s.strs.latched ++ [.coupledHold n] } }
  else s.superseded n .held why

/-- Several RELEASED slots are held for one cause, each with that REASON, and then the cascade of R107 goes on from each
(R112). -/
def State.holdSlots (s : State) (l : List Nat) (why : Reason) : State :=
  let s := l.foldl (fun t n => t.leaveReleased n .held why) s
  if s.boot.controlUp then l.foldl State.holdCoupled s
  else { s with strs := { s.strs with latched := s.strs.latched ++ l.map Latched.coupledHold } }

/-- SLOT_RELEASE commands of slot n that wait end with a reply. -/
def State.answerRelease (s : State) (n : Nat) (r : Reply) : State :=
  let hs := (s.slot n).waiters
  completeAll hs r (s.updSlot n (fun x => { x with waiters := [] }))

/-- Slot n is no longer held through a COUPLED edge (R107): it was released by itself, or an owner must act on it now. -/
def State.dropHeldDep (s : State) (n : Nat) : State :=
  s.edges.foldl (fun t p => if p.2.dst == n && (t.edgeMem p.1).heldDep then t.updEdge p.1 (fun e => { e with heldDep := false }) else t) s

/-- A slot enters QUARANTINED: its clearance ends (R86), and a SLOT_RELEASE that waits completes with SLOT_BUSY. -/
def State.quarantine (s : State) (n : Nat) (why : Reason) : State :=
  let s := if s.isReleased n then (s.leaveReleased n .quarantined why).holdCoupled n
           else s.setSlot n .quarantined why (s.slot n).checked
  let s := s.updSlot n (fun x => { x with cleared := false, restore := false, quarantineDue := false, heldByBus := false, heldByTamper := false, needsRelease := false })
  (s.dropHeldDep n).answerRelease n (err 0x0421)

/-- A slot enters RECOVERING, and one Reforge operation begins for each of its devices (R371); a slot with no flash
device goes on to HELD with CHECKED 1 at once (R372). A slot already in RECOVERING is left as it is (R375), and so is a HELD
one with a string on an isolated bus (R112). -/
def State.recoverSlot (s : State) (n : Nat) (why : Reason) (full : Bool) : State :=
  match (s.slot n).state with
  | .recovering => s.logSuperseded n why
  | .released | .held | .checking =>
    if (s.slot n).state == .held && s.slotIsolated n then s else
    let s := if s.isReleased n then (s.leaveReleased n .recovering why).holdCoupled n
             else s.setSlot n .recovering why (s.slot n).checked
    let s := s.updSlot n (fun x => { x with quarantineDue := false })
    if (s.slotDevices n).isEmpty then s.setSlot n .held why true
    else
      let ops := (s.slotDevices n).map (fun d => ({ device := d, slot := n, full := full } : RfuOp))
      { s with rfu := { s.rfu with ops := s.rfu.ops ++ ops } }
  | _ => s

/-- A wind-up expiry, a violation threshold or a leaf mismatch moves a RELEASED or HELD slot to RECOVERING, and leaves one in
any other state as it is (Table 3-2, R199, R375). -/
def State.recoverHeld (s : State) (n : Nat) (why : Reason) : State :=
  match (s.slot n).state with
  | .released | .held | .recovering => s.recoverSlot n why false
  | _ => s.superseded n .recovering why

/-- What held slot n is over: AUTO_RESTORE clears it for release, and without it the slot waits for a SLOT_RELEASE (R114,
R446). -/
def State.restoreHeld (s : State) (n : Nat) (x : Slot) : Slot :=
  { x with heldByBus := false, heldByTamper := false, restore := x.restore || s.autoRestore n,
           needsRelease := x.needsRelease || !s.autoRestore n }

/-- The slots that a platform hold kept are restored once no tripped source holds the platform (R446). -/
def State.endPlatformHold (s : State) : State :=
  if s.platformHeld then s
  else (List.range 256).foldl (fun t n => if (t.slot n).heldByTamper then t.updSlot n (t.restoreHeld n) else t) s

/-! ### Checking -/

/-- A scan is queued unless one of its kind is already queued or running for the device (R230). It is asked for now, or with
the operation that it is a part of (R373). -/
def State.queueScan (s : State) (x : Scan) : State :=
  if s.fit.scans.any (fun y => decide (y.kind = x.kind ∧ y.device = x.device)) then s
  else { s with fit := { s.fit with scans := s.fit.scans ++ [{ x with askedAt := if x.askedAt = 0 then s.now else x.askedAt }] } }

/-- A slot enters CHECKING: a scan of each bound device is queued, and MISMATCH_SEEN of each is cleared (Table 6-7).
A slot that binds no flash passes at once (Table 3-2). -/
def State.enterChecking (s : State) (n : Nat) (kind : ScanKind) : State :=
  let why := (s.slot n).reason
  let s := (s.setSlot n .checking why false).updSlot n (fun x => { x with checkDue := false, startCheck := kind == .start })
  let ds := s.slotDevices n
  if ds.isEmpty then
    (s.setSlot n .held why true).updSlot n (fun x => { x with readyAt := s.now })
  else ds.foldl (fun t d =>
    let t := t.updRec d (fun r => { r with mismatchSeen := false })
    t.queueScan { kind := kind, device := d }) s

/-- An edge that slot n waits on has a prerequisite that is not RELEASED; a SOFT one is ignored while that is QUARANTINED
(R105). -/
def State.waitsDependency (s : State) (n : Nat) : Bool :=
  s.edges.any (fun p => p.2.dst == n && !s.isReleased p.2.src && !(p.2.soft && (s.slot p.2.src).state == .quarantined))

/-- The Warden looks at a HELD slot: one that is cleared for release with CHECKED 0, or whose check no longer matches,
is due for checking; one with CHECKED 1 has been ready since now, and waits for its prerequisites (R86, R105). A slot with a
string on an isolated bus stays as it is (R112), and so does one that a request has held in this instant (R87). -/
def State.considerSlot (s : State) (n : Nat) : State :=
  let x := s.slot n
  if x.state != .held || !(s.slotCleared n || x.checkDue) || !s.boot.controlUp || s.slotIsolated n || x.heldAt == some s.now then s
  else if x.checked && s.slotMatches n then
    s.updSlot n (fun y => { y with readyAt := if y.readyAt = 0 then s.now else y.readyAt,
                                   reason := if s.platformHeld then .tamperHold else if s.waitsDependency n then .waitingDependency else y.reason })
  else
    let s := if x.checked then s.setSlot n .held x.reason false else s
    (s.updSlot n (fun y => { y with readyAt := 0 })).enterChecking n .check

end Sys2Proof.Machine
end

