-- ==== Sys2Proof/Machine/Violations.lean ====
section
/-! DEFINITION. Chapter 5: violation records, the rules that count them, and their actions. -/
namespace Sys2Proof.Machine

/-- A violation on its way to its record (Table 5-13). -/
structure Viol where
  port : Nat := 0
  cs : Nat := 0
  kind : Nat := 0
  method : Nat := 4
  opcode : Nat := 0
  ext : Nat := 0
  iface : Nat := 0
  addr : Nat := 0xFFFFFFFF
  region : Nat := 0xFF
  flags : Nat := 0
  deriving DecidableEq, Repr

/-- The value of a port mode (Table 4-4). -/
def PortMode.code : PortMode → Nat
  | .own => 0
  | .pass => 1
  | .gap => 2
  | .frozen => 3

/-- The value of an interface (Table 4-7). -/
def Iface.code : Iface → Nat
  | .spi => 0
  | .qpi => 1
  | .opiStr => 2
  | .opiDtr => 3

/-- The sub-window in which a DMT lies, for a window of w ms; time is divided into windows' sixteenths (R198). -/
def subIndex (t w : Nat) : Nat := if w = 0 then 0 else t * 16 / (1000 * w)

/-- The counts of the 16 most recent sub-windows at a DMT. -/
def RuleCount.advance (c : RuleCount) (now w : Nat) : RuleCount :=
  { c with subs := (List.replicate (min (subIndex now w - subIndex c.subAt w) 16) 0 ++ c.subs).take 16, subAt := now }

/-- The count over the window. -/
def RuleCount.count (c : RuleCount) : Nat := c.subs.foldl (· + ·) 0

/-- One more violation in the latest sub-window. -/
def RuleCount.bump (c : RuleCount) : RuleCount :=
  { c with subs := match c.subs with
      | [] => [1]
      | x :: r => (x + 1) :: r }

/-- The count set to 0. -/
def RuleCount.cleared (c : RuleCount) : RuleCount := { c with subs := [] }

/-- KINDS of a violation rule record (Table 5-14). -/
def ruleKinds (r : Bytes) : Nat := fld r 0 2
/-- THRESHOLD. -/
def ruleThreshold (r : Bytes) : Nat := fld r 2 2
/-- WINDOW_MS. -/
def ruleWindow (r : Bytes) : Nat := fld r 4 2
/-- ACTION. -/
def ruleAction (r : Bytes) : Nat := fld r 6 1

/-- A violation of a kind is charged to a rule record: the record's counts, the count for WINDOW_COUNT, and whether the
rule trips (R198). With THRESHOLD 0 the rule has no window, and what was counted before keeps its time. -/
def RuleCount.charge (c : RuleCount) (now kind : Nat) (rule : Bytes) : RuleCount × Nat × Bool :=
  let c := { c with total := satAdd 32 c.total 1 }
  if ruleThreshold rule = 0 then (c, 0, false)
  else
    let c := c.advance now (ruleWindow rule)
    if !(ruleKinds rule).testBit kind then (c, c.count, false) else
    let c := c.bump
    let n := c.count
    if ruleThreshold rule ≤ n then ({ c.cleared with trips := min (c.trips + 1) 0xFFFF }, n, true) else (c, n, false)

/-- The action of a rule that trips (R198, R199; R511 during a Control Region restart). -/
def State.violationTrips (s : State) (rule_ kind action : Nat) : State :=
  let s :=
    if rule_ = 256 then s.log .guard 0x0205 1 0 0 { cause := kind, index2 := 256, value := action }
    else s.log .guard 0x0205 1 3 rule_ { cause := kind, index2 := rule_, value := action }
  if action = 0 then s
  else
    let s := if rule_ = 256 then s.tellManagers 0x0205 1 else s.tellManagers 0x0205 1 4 rule_
    if action = 2 ∧ rule_ < 256 then
      if s.boot.controlUp then s.recoverHeld rule_ .violations
      else { s with strs := { s.strs with latched := s.strs.latched ++ [.violations rule_] } }
    else s

/-- The 32 parameter bytes of a FLASH_VIOLATION (Table 5-13). -/
def Viol.params (v : Viol) (mode : Nat) (slot : Option Nat) (epoch count flags : Nat) : Bytes :=
  le 1 v.port ++ le 1 v.cs ++ le 1 v.kind ++ le 1 v.method ++ le 1 v.opcode ++ le 1 v.ext ++ le 1 v.iface ++ le 1 mode ++
  le 4 v.addr ++ le 1 v.region ++ le 1 flags ++ le 2 (slot.getD 0xFFFF) ++ le 4 epoch ++ le 2 (min count 0xFFFF) ++ zeros 10

/-- A denial or a RESYNC entry is recorded, charged to its rule and counted on its port, under the tables of a bank
(R195, R196, R198, Table 5-17). -/
def State.violate (s : State) (b : Bank) (v : Viol) : State :=
  let d := 2 * v.port + v.cs
  let slot := s.deviceSlot d
  let n := slot.getD 256
  let rule := slice b.rules (8 * n) 8
  let (c, count, trips) := (s.pol.rules.get n {}).charge s.now v.kind rule
  let s := { s with pol := { s.pol with rules := s.pol.rules.set n {} c } }
  let s := s.updPort v.port (fun p => { p with violations := satAdd 32 p.violations 1 })
  let s := s.logOwn .guard 0x0201 1 2 d
    (v.params (s.port v.port).mode.code slot b.epoch count (v.flags + 2 * b2n trips))
  if trips then s.violationTrips n v.kind (ruleAction rule) else s

end Sys2Proof.Machine
end

