-- ==== Sys2Proof/Machine/PortOps.lean ====
section
/-! DEFINITION. Chapter 4's shared operations on ports: profiles and opcode entries, gating, resets of the shadow, RESYNC,
mode changes and pending changes. -/
namespace Sys2Proof.Machine

/-! ### Profiles (Tables 5-5 and 5-6) -/

/-- FLAGS of a bank's profile. -/
def Bank.profileFlags (b : Bank) : Nat := fld b.profile 4 1
/-- RESYNC_RESET. -/
def Bank.resyncReset (b : Bank) : Bool := b.profileFlags.testBit 1
/-- ADDR4_READABLE. -/
def Bank.addr4Readable (b : Bank) : Bool := b.profileFlags.testBit 2
/-- ONE_BYTE_8S. -/
def Bank.oneByte8s (b : Bank) : Bool := b.profileFlags.testBit 3
/-- Device size in bytes (DENSITY_LOG2). -/
def Bank.size (b : Bank) : Nat := 2 ^ fld b.profile 3 1
/-- XIP_OFF. -/
def Bank.xipOff (b : Bank) : Nat := fld b.profile 7 1
/-- RESET_PULSE_US. -/
def Bank.pulseUs (b : Bank) : Nat := fld b.profile 8 2
/-- RESET_RECOVERY_US. -/
def Bank.recoveryUs (b : Bank) : Nat := fld b.profile 0x0A 2
/-- MAX_TIME[t] in µs. -/
def Bank.maxTime (b : Bank) (t : Nat) : Nat := fld b.profile (0x20 + 4 * t) 4
/-- PAGE_SIZE. -/
def Bank.pageSize (b : Bank) : Nat := fld b.profile 0x60 2

/-- The interface of a code (Table 5-5). -/
def ifaceOf (c : Nat) : Iface :=
  match c with
  | 0 => .spi
  | 1 => .qpi
  | 2 => .opiStr
  | _ => .opiDtr

/-- RESET_IFACE. -/
def Bank.resetIface (b : Bank) : Iface := ifaceOf (fld b.profile 5 1)

/-- A decoded opcode entry (Table 5-6). -/
structure OpEntry where
  cls : Nat := 0
  effect : Nat := 0
  ifaceMask : Nat := 0
  phases : Nat := 0
  dummy : Nat := 0
  op : Nat := 0
  sub : Nat := 0
  deriving DecidableEq, Repr

/-- The entry that 8 bytes spell. -/
def decodeOpEntry (r : Bytes) : OpEntry :=
  { cls := fld r 0 1, effect := fld r 1 1, ifaceMask := fld r 2 1, phases := fld r 3 1, dummy := fld r 4 1, op := fld r 5 1,
    sub := fld r 6 1 }

/-- Entry i of a profile. -/
def profileEntry (profile : Bytes) (i : Nat) : OpEntry := decodeOpEntry (slice profile (128 + 8 * i) 8)

/-- Entry i of a bank's profile. -/
def Bank.entry (b : Bank) (i : Nat) : OpEntry := profileEntry b.profile i

/-- ADDR_MODE. -/
def OpEntry.addrMode (e : OpEntry) : Nat := bits e.phases 0 2
/-- ADDR_QUAD. -/
def OpEntry.addrQuad (e : OpEntry) : Bool := e.phases.testBit 2
/-- DATA: 0 none, 1 host to flash, 2 flash to host. -/
def OpEntry.data (e : OpEntry) : Nat := bits e.phases 3 2
/-- DATA_QUAD. -/
def OpEntry.dataQuad (e : OpEntry) : Bool := e.phases.testBit 5
/-- ACCEPT_WHILE_BUSY. -/
def OpEntry.acceptBusy (e : OpEntry) : Bool := e.phases.testBit 6
/-- NONVOLATILE. -/
def OpEntry.nonvolatile (e : OpEntry) : Bool := e.phases.testBit 7
/-- MODE_BYTE. -/
def OpEntry.modeByte (e : OpEntry) : Bool := e.dummy.testBit 6
/-- The dummy clocks under a shadow DUMMY. -/
def OpEntry.dummies (e : OpEntry) (shadow : Nat) : Nat := if e.dummy.testBit 5 then shadow else bits e.dummy 0 5
/-- ERASE_SIZE. -/
def OpEntry.eraseSize (e : OpEntry) : Nat := bits e.op 0 3
/-- TIME. -/
def OpEntry.time (e : OpEntry) : Nat := bits e.op 3 3
/-- METHOD. -/
def OpEntry.method (e : OpEntry) : Nat := bits e.op 6 2
/-- The entry allows an interface. -/
def OpEntry.allows (e : OpEntry) (i : Iface) : Bool := e.ifaceMask.testBit i.code

/-- Address bytes of a command with an entry: octal interfaces use four whatever ADDR_MODE says (R173). -/
def OpEntry.addrBytes (e : OpEntry) (i : Iface) (addr4 : Bool) : Nat :=
  if e.addrMode = 0 then 0
  else if i == .opiStr || i == .opiDtr then 4
  else if e.addrMode = 1 then 3
  else if e.addrMode = 2 then 4
  else if addr4 then 4 else 3

/-- The interface sends an extension after the opcode. -/
def Bank.twoByte (b : Bank) (i : Iface) : Bool := i == .opiDtr || (i == .opiStr && !b.oneByte8s)

/-! ### The freeze gate (Table 4-6) -/

/-- The array reads of the first row. -/
def gateReads : List Nat := [0x03, 0x0B, 0x13, 0x0C, 0x3B, 0x3C, 0x6B, 0x6C, 0xBB, 0xBC, 0xEB, 0xEC]

/-- The second row: status, flag status, identification, SFDP. -/
def gateIdents : List Nat := [0x05, 0x70, 0x9F, 0x5A]

/-- The freeze gate passes an opcode in an interface. -/
def gateAllows (i : Iface) (op : Nat) : Bool :=
  gateIdents.contains op || (if i == .opiDtr then op == 0xEE || op == 0x0B else gateReads.contains op)

/-! ### Devices and gating -/

/-- Device k of port p is bound to a slot that is RELEASED. -/
def State.csReleased (s : State) (p k : Nat) : Bool :=
  match s.deviceSlot (2 * p + k) with
  | some n => s.isReleased n
  | none => false

/-- The shadow of device d. -/
def State.shadow (s : State) (d : Nat) : Shadow := (s.port (d / 2)).dev (d % 2)

/-- s with the shadow of device d changed by f. -/
def State.updShadow (s : State) (d : Nat) (f : Shadow → Shadow) : State :=
  s.updPort (d / 2) (fun p => p.updDev (d % 2) f)

/-- Every shadow field at the profile's reset defaults (R134); the check's result and the register's cause stay. -/
def Shadow.reset (b : Bank) (x : Shadow) : Shadow :=
  { addr4 := (fld b.profile 6 1).testBit 0, iface := b.resetIface, dummy := bits (fld b.profile 6 1) 1 5,
    sfdp := x.sfdp, resyncCause := x.resyncCause, resyncHit := x.resyncHit }

/-- The shadow holds its reset defaults with BUSY NONE (R143): the fields of Table 4-7, but for SUSP_ADDR, which counts only
while an erase is suspended. -/
def Shadow.atDefaults (b : Bank) (x : Shadow) : Bool :=
  let r := Shadow.reset b x
  x.addr4 == r.addr4 && x.iface == r.iface && x.dummy == r.dummy && x.wel == r.wel && x.busy == r.busy && x.susp == r.susp &&
  x.rstEn == r.rstEn && x.resync == r.resync

/-- A device's pieces of the leaf store's index space. -/
def leafIndex (d i : Nat) : Nat := d * 8192 + i

/-- Every assembly of device d is discarded (R226). -/
def State.dropAssemblies (s : State) (d : Nat) : State :=
  { s with fit := { s.fit with asms := s.fit.asms.filter (fun e => decide (e.1 / 8192 ≠ d)) },
           bde := { s.bde with taps := s.bde.taps.filter (fun c => c.device != d) } }

/-! ### Port modes (Table 4-5) -/

/-- A Reforge operation needs its port (R373); one whose cartridge was removed still writes what is staged (R406). -/
def RfuOp.needsPort (o : RfuOp) : Bool :=
  o.phase == .waitPort || o.phase == .write || o.phase == .remeasure || o.writing.isSome ||
  ((o.phase == .search || o.phase == .waitSource) && !o.staged.isEmpty)

/-- Work of rung 3 that a scan kind is (Table 6-5). -/
def ScanKind.urgent : ScanKind → Bool
  | .start | .check | .remeasure => true
  | _ => false

/-- Some device work of port p is queued or runs. -/
def State.portWork (s : State) (p : Nat) : Bool :=
  s.fit.scans.any (fun x => x.device / 2 == p) || s.rfu.ops.any (fun o => o.device / 2 == p && o.needsPort)

/-- Some rung-3 work of port p is queued or runs. -/
def State.urgentWork (s : State) (p : Nat) : Bool :=
  s.fit.scans.any (fun x => x.device / 2 == p && x.kind.urgent) || s.rfu.ops.any (fun o => o.device / 2 == p && o.needsPort)

/-- The operation of a CS1 device between two blocks, whose port the CS0 device's operation goes before (R374). -/
def State.givesWay (s : State) (o : RfuOp) : Bool :=
  o.device % 2 == 1 && o.writing.isNone && s.rfu.ops.any (fun x => x.device == o.device - 1)

/-- Device work of port p runs. -/
def State.workRuns (s : State) (p : Nat) : Bool :=
  s.fit.scans.any (fun x => x.device / 2 == p && x.running) ||
  s.rfu.ops.any (fun o => o.device / 2 == p && (o.phase == .write || o.writing.isSome) && !s.givesWay o)

/-- The port still owes a device the status read that confirms its reset (R129). -/
def Port.confirming (x : Port) : Bool := x.dev0.confirm || x.dev1.confirm

/-- OWN work of port p is outstanding (R128, R129): rung-3 work, work that runs, or a reset that is not confirmed. -/
def State.ownWork (s : State) (p : Nat) : Bool := s.urgentWork p || s.workRuns p || (s.port p).confirming

/-- A RESYNC reset pulse of port p would be allowed for device k (R143). -/
def Port.pulseAllowed (x : Port) (k : Nat) (otherReleased : Bool) : Bool :=
  (x.dev k).resync && x.bank.resyncReset && x.fVddioOk && (!otherReleased || (x.dev (1 - k)).atDefaults x.bank)

/-- The device for which a RESYNC reset pulse is allowed on port p. -/
def State.pulseDevice (s : State) (p : Nat) : Option Nat :=
  ([0, 1] : List Nat).find? (fun k => (s.port p).pulseAllowed k (s.csReleased p (1 - k)))

/-- No change is pending on port p. -/
def State.dropPending (s : State) (p : Nat) : State :=
  s.updPort p (fun x => { x with pending := .none, pendingSince := 0, waitLogged := false })

/-- A device in RESYNC asks for a reset pulse where R143 allows one and nothing else is pending; in OWN, where no OWN work is
outstanding, whose end would reset it. -/
def State.planPulse (s : State) (p : Nat) : State :=
  let x := s.port p
  if (x.mode == .own && s.ownWork p) || x.pending != .none || x.pulseUntil.isSome then s
  else match s.pulseDevice p with
    | some k => (s.setPending p .resetPulse).updPort p (fun x => { x with pulseFor := k })
    | none => s

/-- The value of PENDING (Table 4-15). -/
def PendMode.code : PendMode → Nat
  | .none => 0
  | .own => 1
  | .pass => 2
  | .gap => 3
  | .resetPulse => 4

/-- Port p changes its mode; a yield on it ends when it leaves OWN (R44, R127). -/
def State.setMode (s : State) (p : Nat) (m : PortMode) : State :=
  let x := s.port p
  if x.mode == m then s
  else
    let s := s.updPort p (fun x => { x with mode := m, yielded := false })
    if x.mode == .own && x.yielded then s.yieldEnd .guard 1 p else s

/-- A device enters RESYNC with a cause (R142, R195, R200, Table 6-4, R226). Its record names the host command that caused it
as that was sent, where one did (R196); without one, OPCODE is 0: a DESIGN CHOICE, for Table 5-13 gives no value (log entry
122). -/
def State.enterResync (s : State) (d cause : Nat) (by_ : Option Viol := none) : State :=
  let p := d / 2
  if (s.shadow d).resync then s
  else
    let s := s.updShadow d (fun x => { x with resync := true, resyncCause := cause, resyncHit := true, confirm := false, swReset := false })
    let v : Viol := { by_.getD { iface := (s.shadow d).iface.code } with port := p, cs := d % 2, kind := 9 }
    let s := s.violate (s.port p).bank v
    let s := s.dropAssemblies d
    let s := if cause = 3 ∨ cause = 4 then { s with fit := { s.fit with events := s.fit.events ++ [.doubt d] } } else s
    s.planPulse p

/-- Scans of port p that run stop, and begin again when they can. -/
def State.pauseScans (s : State) (p : Nat) : State :=
  { s with fit := { s.fit with scans := s.fit.scans.map (fun x =>
      if x.device / 2 = p then { x with running := false, entryAt := none, resetAt := none, identified := false } else x) } }

/-- A port enters FROZEN (R132, R69): FROZEN_HIT, and a record with what the decoders put out. Its scans begin again as R559
lets them. -/
def State.freezePort (s : State) (p : Nat) (detail : Bytes) : State :=
  if (s.port p).mode == .frozen then s
  else
    let s := ((s.dropPending p).setMode p .frozen).pauseScans p
    let s := s.updPort p (fun x => { x with frozenHit := true })
    let s := s.log .guard 0x0202 1 1 p { value := fld detail 0 4, detail := detail }
    s.planPulse p

/-! ### Shadow effects (R136, R138, R558) -/

/-- A field of the configuration bit map in the data of a CONFIG_WRITE; none where it does not apply (R558). -/
def configField (b : Bank) (off width : Nat) (addr : Option Nat) (data : Bytes) : Option Nat :=
  let reg := fld b.profile (off + 3) 1
  let idx := fld b.profile off 1
  let applies := reg == 0xFF || (match addr with
    | some a => a % 256 == reg
    | none => false)
  if applies ∧ idx < data.length then some (bits (fld data idx 1) (fld b.profile (off + 1) 1) width) else none

/-- A CONFIG_WRITE on a shadow: the shadow, and whether the interface is now unknown (R558). -/
def Shadow.configWrite (x : Shadow) (b : Bank) (nonvolatile : Bool) (addr : Option Nat) (data : Bytes) : Shadow × Bool :=
  let x := match configField b 0x10 1 addr data with
    | some v => { x with addr4 := v == fld b.profile 0x12 1 }
    | none => x
  let x := match configField b 0x1C (fld b.profile 0x1E 1) addr data with
    | some v => { x with dummy := v }
    | none => x
  let x := if nonvolatile then { x with busy := .register } else x
  match configField b 0x14 (fld b.profile 0x16 1) addr data with
  | some v =>
    match (List.range 4).find? (fun i => fld b.profile (0x18 + i) 1 == v) with
    | some i => ({ x with iface := ifaceOf i }, false)
    | none => (x, true)
  | none => (x, false)

/-- A pending suspension takes effect (R138). -/
def Shadow.suspended (x : Shadow) : Shadow :=
  match x.busy with
  | .erase => { x with susp := if x.susp == .program || x.susp == .both then .both else .erase, suspAddr := x.eraseAddr,
                       lastSusp := .erase, suspPending := false, busy := .none }
  | .program => { x with susp := if x.susp == .erase || x.susp == .both then .both else .program, lastSusp := .program,
                         suspPending := false, busy := .none }
  | _ => { x with suspPending := false, busy := .none }

/-- The most recent suspension is resumed (R138). -/
def Shadow.resumed (x : Shadow) : Shadow :=
  match x.susp with
  | .none => x
  | .erase => { x with susp := .none, busy := .erase, eraseAddr := x.suspAddr }
  | .program => { x with susp := .none, busy := .program }
  | .both => if x.lastSusp == .erase then { x with susp := .program, lastSusp := .program, busy := .erase, eraseAddr := x.suspAddr }
             else { x with susp := .erase, lastSusp := .erase, busy := .program }

/-- A status byte on a shadow (R136, R138): the shadow, whether WEL was adopted, and a cause of RESYNC. -/
def Shadow.takeStatus (x : Shadow) (b : Bank) (status : Nat) : Shadow × Bool × Nat :=
  let wip := status.testBit (fld b.profile 0x0C 1)
  let wel := status.testBit (fld b.profile 0x0D 1)
  if !wip then
    if x.suspPending then ({ x.suspended with wel := wel }, false, 0)
    else if x.busy != .none then ({ x with busy := .none, wel := wel }, false, 0)
    else ({ x with wel := wel }, wel != x.wel, 0)
  else if x.busy == .none && !x.suspPending then (x, false, 3)
  else (x, false, 0)

/-! ### The sequencer's own transactions (R145, R149, R228, R229, R388, R559) -/

/-- The index of an interface's clock limit in Table 4-2, by the interface and whether its data run on four lines. -/
def clockLimit (i : Iface) (v33 : Bool) : Nat :=
  match i with
  | .spi => if v33 then 133 else 166
  | .qpi => 100
  | .opiStr => if v33 then 133 else 166
  | .opiDtr => if v33 then 0 else 200

/-- The clock limit of an interface on a port: the lower of the limits of its two supplies (R117). -/
def Bank.clockLimit (b : Bank) (i : Iface) : Nat :=
  min (Sys2Proof.Machine.clockLimit i ((fld b.record 0 1).testBit 1)) (Sys2Proof.Machine.clockLimit i ((fld b.record 0 1).testBit 2))

/-- s with the transactions that a sequencer sends: they follow what was sent at this DMT. -/
def State.sendFlash (s : State) (l : List FlashXfer) : State :=
  if l.isEmpty then s
  else { s with io := { s.io with flash := (if s.io.flashAt = s.now then s.io.flash else []) ++ l, flashAt := s.now } }

/-- A command without data or address of an opcode, in an interface at 50 MHz. -/
def bareXfer (d : Nat) (i : Iface) (op : Nat) : FlashXfer := { device := d, iface := i.code, opcode := op }

/-- The identification and SFDP reads of R145, in the profile's reset interface at 50 MHz. -/
def identXfers (d : Nat) (i : Iface) : List FlashXfer :=
  [{ device := d, iface := i.code, opcode := 0x9F, read := 3 },
   { device := d, iface := i.code, opcode := 0x5A, addrBytes := if i == .spi || i == .qpi then 3 else 4,
     dummy := if i == .opiDtr then 20 else 8, read := 256 }]

/-- The opcode of the profile's entry with a shadow effect; 0 where it has none. -/
def Bank.opcodeOf (b : Bank) (effect : Nat) : Nat := ((List.range 256).find? (fun i => (b.entry i).effect == effect)).getD 0

/-- RESET ENABLE and RESET in an interface (R129, R143). -/
def Bank.resetXfers (b : Bank) (d : Nat) (i : Iface) : List FlashXfer :=
  [bareXfer d i (b.opcodeOf 15), bareXfer d i (b.opcodeOf 16)]

/-- The entry step of R228: WRITE ENABLE, then the configuration write that enters SCAN_MODE. -/
def State.entryXfers (s : State) (d : Nat) : List FlashXfer :=
  let b := (s.port (d / 2)).bank
  let r := s.deviceRec d
  let e := b.entry (fld r 4 1)
  [bareXfer d b.resetIface 0x06,
   { device := d, iface := b.resetIface.code, opcode := fld r 4 1, addr := if fld r 8 4 = 0xFFFFFFFF then 0 else fld r 8 4,
     addrBytes := if fld r 8 4 = 0xFFFFFFFF then 0 else e.addrBytes b.resetIface (s.shadow d).addr4, data := [byte (fld r 5 1)] }]

/-- The interface of a SCAN_MODE (Table 6-8). -/
def scanModeIface (m : Nat) : Iface := if m < 3 then .spi else if m = 3 then .qpi else if m = 4 then .opiStr else .opiDtr

/-- The interface in which a scan of device d reads: SCAN_MODE in OWN, and the shadow's in windows and on a FROZEN port
(R228, R229, R559). -/
def State.scanIface (s : State) (d : Nat) : Iface :=
  if (s.port (d / 2)).mode == .own then scanModeIface (fld (s.deviceRec d) 1 1) else (s.shadow d).iface

/-- The opcode with which a scan of device d reads (R228, R229, R559). -/
def State.scanOpcode (s : State) (d : Nat) : Nat :=
  let b := (s.port (d / 2)).bank
  let i := s.scanIface d
  let op := fld (s.deviceRec d) 3 1
  if (s.port (d / 2)).mode != .frozen || gateAllows i op then op
  else ((List.range 256).find? (fun o => gateAllows i o && !gateIdents.contains o && (b.entry o).cls == 1 && (b.entry o).allows i)).getD op

/-- The clock of a scan of device d, in MHz (R229, R559). -/
def State.scanMhz (s : State) (d : Nat) : Nat := min (fld (s.deviceRec d) 2 1) ((s.port (d / 2)).bank.clockLimit (s.scanIface d))

/-- The read transaction of a scan of device d over n blocks from block i. -/
def State.scanXfer (s : State) (d i n : Nat) : FlashXfer :=
  let e := (s.port (d / 2)).bank.entry (s.scanOpcode d)
  { device := d, iface := (s.scanIface d).code, mhz := s.scanMhz d, opcode := s.scanOpcode d, addr := 65536 * i,
    addrBytes := e.addrBytes (s.scanIface d) (s.shadow d).addr4, dummy := e.dummies (s.shadow d).dummy, read := 65536 * n }

/-- WRITE ENABLE and an erase or program of Reforge at an address, in the interface of the device's scans at the lower of its
clock and WRITE_MHZ (R388). -/
def State.writeXfers (s : State) (d op mhz addr : Nat) (data : Bytes) : List FlashXfer :=
  let i := s.scanIface d
  let x : FlashXfer := { device := d, iface := i.code, mhz := min (s.scanMhz d) mhz, opcode := 0x06 }
  let e := (s.port (d / 2)).bank.entry op
  [x, { x with opcode := op, addr := addr, addrBytes := e.addrBytes i (s.shadow d).addr4, data := data }]

/-- Ascending blocks as runs of consecutive ones: first block and length. -/
def runsOf : List Nat → List (Nat × Nat)
  | [] => []
  | i :: r => match runsOf r with
    | (j, n) :: t => if j = i + 1 then (i, n + 1) :: t else (i, 1) :: (j, n) :: t
    | [] => [(i, 1)]

/-- The status read of device d in an interface (R129, R143, R228, R388). -/
def Bank.statusXfer (b : Bank) (d : Nat) (i : Iface) : FlashXfer := { device := d, iface := i.code, opcode := b.opcodeOf 17, read := 1 }

/-- The entry step of R228 is sent: WRITE ENABLE, and the configuration write that enters SCAN_MODE. The shadow takes its
effect, and the port waits for its end. -/
def State.enterScanMode (s : State) (d : Nat) : State :=
  let r := s.deviceRec d
  let addr := if fld r 8 4 = 0xFFFFFFFF then none else some (fld r 8 4)
  (s.sendFlash (s.entryXfers d)).updShadow d
    (fun x => (({ x with wel := true } : Shadow).configWrite (s.port (d / 2)).bank true addr [byte (fld r 5 1)]).1)

/-- A window of port p is open. -/
def State.inWindow (s : State) (p : Nat) : Bool :=
  match (s.port p).window with
  | some w => w.isOpen
  | none => false

/-- The decoders disagree on a command of the sequencer of port p, of an opcode: it is cut, and the port enters FROZEN with both
outputs in the record, decoder A's that it passes and decoder B's that it does not (R132). -/
def State.ownDisagreement (s : State) (p op : Nat) : State :=
  if (s.port p).mode == .own || s.inWindow p then s.freezePort p (le 1 op ++ le 1 0 ++ le 1 1 ++ le 1 1) else s

/-- The reset that begins or ends OWN work (R129, R228): the F_RESET# pulse resets both devices where no slot of the port is
RELEASED; otherwise RESET ENABLE and RESET go to the devices that the port drove, in the interface in which it last drove each,
and a status read is to confirm them after the recovery time. -/
def State.ownReset (s : State) (p : Nat) (drove : List Nat) : State :=
  let b := (s.port p).bank
  let reset (d : Nat) : Bool := decide (d / 2 = p) && (!s.portReleased p || drove.contains d)
  let s := { s with rfu := { s.rfu with ops := s.rfu.ops.map (fun o => if reset o.device then { o with entered := false, entryAt := none } else o) } }
  if !s.portReleased p then
    s.updPort p (fun x => { x with dev0 := x.dev0.reset b, dev1 := x.dev1.reset b, resetLow := false, pulseLowUntil := s.now + b.pulseUs })
  else if (s.port p).mode == .frozen then s
  else
    (drove.foldl (fun t d => t.updShadow d (fun x => { Shadow.reset b x with confirm := true, confirmFrom := s.now + b.recoveryUs })) s).sendFlash
      (drove.flatMap (fun d => b.resetXfers d (s.shadow d).iface))

/-- The GAP wait of rung-3 work of port p that was requested at a DMT is over (R373, Table 5-4). -/
def State.waitOver (s : State) (p since : Nat) : Bool := decide (since + 1000 * (s.port p).bank.gapWaitMs ≤ s.now)

/-- Some rung-3 work of port p has used up its own GAP wait (R373). -/
def State.gapExpired (s : State) (p : Nat) : Bool :=
  s.fit.scans.any (fun x => x.device / 2 == p && x.kind.urgent && s.waitOver p x.askedAt) ||
  s.rfu.ops.any (fun o => o.device / 2 == p && o.needsPort && s.waitOver p o.portSince)

/-- Rung-3 work of port p that was requested at a DMT may use OWN: no bound slot is RELEASED, or its own GAP wait is over
(R373, Table 4-5). -/
def State.ownTurn (s : State) (p since : Nat) : Bool := !s.portReleased p || s.waitOver p since

/-- Device work on port p is asked for or has ended: the change that Table 4-5 gives becomes pending. -/
def State.planPort (s : State) (p : Nat) : State :=
  let x := s.port p
  let released := s.portReleased p
  let urgent := s.urgentWork p
  let confirmed := !x.confirming
  match x.mode with
  | .frozen => s
  | .own =>
    if released && !s.workRuns p && confirmed && !s.gapExpired p && x.decoders && !x.bank.profile.isEmpty then
      s.setPending p (if s.portWork p then .gap else .pass)
    else if x.pending == .pass || x.pending == .gap then s.dropPending p
    else s
  | .pass =>
    if !released then s.setPending p .own
    else if s.portWork p then (if x.pending == .own then s else s.setPending p .gap)
    else if x.pending == .gap || x.pending == .own then s.dropPending p
    else s
  | .gap =>
    if !released && urgent then s.setPending p .own
    else if s.portWork p then (if x.pending == .pass || (x.pending == .own && !s.gapExpired p) then s.dropPending p else s)
    else if x.window.isSome then s
    else s.setPending p .pass

/-- Every port's change is planned again. -/
def State.planPorts (s : State) : State := (List.range 16).foldl State.planPort s

/-- The Warden looks at every slot and every port after something that may have changed what is due. -/
def State.settle (s : State) : State :=
  let s := if s.boot.controlUp && s.image.isSome then (s.strs.slots.keys ++ (List.range 256).filter s.slotDefined).eraseDups.foldl State.considerSlot s else s
  s.planPorts

/-- Port p can pass at a release trigger of a slot bound to it (R128): its decoder pair has been released (R68). -/
def State.canPass (s : State) (p : Nat) : Bool :=
  let x := s.port p
  x.mode == .frozen ||
  (x.decoders && !x.dev0.resync && !x.dev1.resync && !(x.mode == .own && s.ownWork p) && !(x.pending == .own && s.portWork p))

/-- The release trigger's part on a port: OWN to PASS before any string of the slot changes level; a change to OWN that
is pending only because no slot was RELEASED is cancelled (R127, R128). -/
def State.portRelease (s : State) (p : Nat) : State :=
  let x := s.port p
  match x.mode with
  | .frozen => s
  | .own => (s.dropPending p).setMode p .pass
  | _ => if x.pending == .own then s.dropPending p else s

end Sys2Proof.Machine
end

