-- ==== Sys2Proof/Machine/LeafOps.lean ====
section
/-! DEFINITION. Chapter 6's shared operations: leaves and roots, leaf transitions and mismatches, assemblies, wear and flash
state records. -/
namespace Sys2Proof.Machine

/-! ### Leaves and roots (R217 to R219) -/

/-- The leaf of a block from its 64 sub-leaves. -/
def leafOfSubs (subs : List Bytes) : Bytes := sha256 (subs.flatMap (fixLen 32))

/-- The leaf of a block from its 65,536 bytes. -/
def leafOf (block : Bytes) : Bytes := leafOfSubs ((List.range 64).map (fun c => sha256 (slice block (1024 * c) 1024)))

/-- ERASED_LEAF. -/
def erasedLeaf : Bytes := leafOf (List.replicate 65536 0xFF)

/-- A marker of Table 6-3. -/
def marker (last : Nat) : Bytes := zeros 31 ++ [byte last]

/-- Leaf i of device d. -/
def State.leaf (s : State) (d i : Nat) : Leaf := s.fit.leaves.get (leafIndex d i) {}

/-- Some leaf of device d is STALE. -/
def Fit.anyStale (f : Fit) (d : Nat) : Bool := f.leaves.any (fun e => e.1 / 8192 == d && e.2.state == .stale)

/-- The time since which STALE_COUNT of device d has not been 0, brought up to its leaves (R233). -/
def Fit.noteStale (f : Fit) (d now : Nat) : Fit :=
  if !f.anyStale d then { f with staleSince := f.staleSince.del d }
  else if f.staleSince.any (fun e => e.1 == d) then f
  else { f with staleSince := f.staleSince.ins d now }

/-- s with leaf i of device d changed, and the device's record due for its update (R232). -/
def State.setLeaf (s : State) (d i : Nat) (l : Leaf) : State :=
  if s.leaf d i = l then s
  else { s with fit := ({ s.fit with leaves := s.fit.leaves.set (leafIndex d i) {} l, dirty := s.fit.dirty.ins d s.now }).noteStale d s.now }

/-- The contribution of a leaf to the flash root (Table 6-3), and the VALUE that LEAF_READ writes. -/
def Leaf.contribution (l : Leaf) : Bytes :=
  match l.state with
  | .fresh => fixLen 32 l.value
  | .erased => erasedLeaf
  | .stale => marker 0x53
  | .unknown => marker 0x55

/-- The next level of a tree: each pair of nodes hashed together. -/
def nextLevel : List Bytes → List Bytes
  | a :: b :: rest => sha256 (a ++ b) :: nextLevel rest
  | l => l

/-- The root of a tree of at most 2 ^ fuel contributions. -/
def treeRoot : Nat → List Bytes → Bytes
  | 0, l => l.headD []
  | fuel + 1, l => if l.length ≤ 1 then l.headD [] else treeRoot fuel (nextLevel l)

/-- The flash root of device d. -/
def State.flashRoot (s : State) (d : Nat) : Bytes :=
  treeRoot 13 ((List.range (s.deviceBlocks d)).map (fun i => (s.leaf d i).contribution))

/-- The check root of device d. -/
def State.checkRoot (s : State) (d : Nat) : Bytes :=
  treeRoot 13 ((List.range (s.deviceBlocks d)).map (fun i =>
    if s.blockExcluded d i then marker 0x58 else (s.leaf d i).contribution))

/-- Leaves of device d in a state. -/
def State.leafCount (s : State) (d : Nat) (st : LeafState) : Nat :=
  ((List.range (s.deviceBlocks d)).filter (fun i => (s.leaf d i).state == st)).length

/-- EXPECTED_CHECK_ROOT of a device record. -/
def expectedRoot (r : Bytes) : Bytes := slice r 32 32

/-- The flash state record of device d computed from its leaves (R219, R232, R233); UPDATE_DMT moves only with a leaf change. -/
def State.updateRecord (s : State) (d : Nat) : State :=
  let old := s.fit.recs.get d {}
  let when_ := s.fit.dirty.get d old.updateDmt
  let stale := s.leafCount d .stale
  let check := s.checkRoot d
  let r (x : FlashRec) : FlashRec :=
    { x with
      flashRoot := s.flashRoot d, checkRoot := check, staleCount := stale, unknownCount := s.leafCount d .unknown,
      erasedCount := s.leafCount d .erased,
      checkMatch := s.deviceValid d && check == expectedRoot (s.deviceRec d)
      oldestStale := if stale = 0 then 0 else s.fit.staleSince.get d when_,
      updateDmt := when_, epoch := (s.port (d / 2)).bank.epoch }
  { s with fit := { s.fit with dirty := s.fit.dirty.del d } }.updRec d r

/-! ### Mismatches and transitions (R221 to R223) -/

/-- A mismatch on a block of a device: from the value held to the value found (R223). -/
def State.leafMismatch (s : State) (d i : Nat) (old new : Bytes) : State :=
  let excl := s.blockExcluded d i
  let action := fld (s.deviceRec d) 6 1
  let s := { s with fit := { s.fit with mismatch := setBit s.fit.mismatch d } }.updRec d (fun r => { r with mismatchSeen := true })
  let s := s.log .forge 0x0301 2 2 d
    { index2 := i, value := action + 256 * b2n excl, detail := slice old 0 8 ++ slice new 0 8 }
  if action = 0 ∧ !excl then s
  else
    let s := s.tellManagers 0x0301 2 7 d
    match s.deviceSlot d with
    | some n =>
      if action = 2 ∧ !excl then
        if s.boot.controlUp then s.recoverHeld n .leafMismatch
        else { s with strs := { s.strs with latched := s.strs.latched ++ [.leafMismatch n] } }
      else s
    | none => s

/-- A completion value on a leaf (Table 6-4), and whether it is a mismatch. -/
def Leaf.completed (l : Leaf) (v : Bytes) : Leaf × Bool :=
  if v = erasedLeaf then ({ state := .erased }, l.state == .fresh)
  else ({ state := .fresh, value := v }, (l.state == .fresh && l.value != v) || l.state == .erased)

/-- A completion value reaches block i of device d. -/
def State.applyCompletion (s : State) (d i : Nat) (v : Bytes) : State :=
  let l := s.leaf d i
  let (l', bad) := l.completed v
  let s := s.setLeaf d i l'
  if bad then s.leafMismatch d i l.contribution v else s

/-- Port sequence number a is later than b; the numbers are of 32 bits (R222). -/
def seqLater (a b : Nat) : Bool := a != b && decide ((a + 2 ^ 32 - b) % 2 ^ 32 < 2 ^ 31)

/-- A write of the block completed with a later number than a completion (R222). -/
def State.writtenAfter (s : State) (d i seq : Nat) : Bool :=
  match s.fit.lastWrite.find? (fun p => p.1 == leafIndex d i) with
  | some p => seqLater p.2 seq
  | none => false

/-- RESYNC entry with cause UNEXPECTED_BUSY or ADDR4_MISMATCH: every known leaf becomes STALE (Table 6-4). -/
def State.doubtDevice (s : State) (d : Nat) : State :=
  (List.range (s.deviceBlocks d)).foldl (fun t i => if (t.leaf d i).state == .unknown then t else t.setLeaf d i { state := .stale }) s

/-- FIT applies one event (Table 6-4, R222). -/
def State.applyFit (s : State) (e : FitEv) : State :=
  match e with
  | .program d i _ => s.setLeaf d i { state := .stale }
  | .partErase d i _ => s.setLeaf d i { state := if (s.leaf d i).state == .erased then .erased else .stale }
  | .erase d i _ => s.setLeaf d i { state := .erased }
  | .completion d i seq v => if s.writtenAfter d i seq then s else s.applyCompletion d i v
  | .doubt d => s.doubtDevice d

/-- The device that an event concerns. -/
def FitEv.device : FitEv → Nat
  | .program d _ _ => d
  | .partErase d _ _ => d
  | .erase d _ _ => d
  | .completion d _ _ _ => d
  | .doubt d => d

/-- Every event of device d that waits is applied, in order, before a scan's result is taken. -/
def State.flushFit (s : State) (d : Nat) : State :=
  let mine := s.fit.events.filter (fun e => e.device == d)
  mine.foldl State.applyFit { s with fit := { s.fit with events := s.fit.events.filter (fun e => e.device != d) } }

/-! ### Wear (R238, R241) -/

/-- The wear count of block i of device d. -/
def State.wearOf (s : State) (d i : Nat) : Nat := s.fit.wear.get (leafIndex d i) 0

/-- MAX and HOT_BLOCK of device d (R240). -/
def State.wearMax (s : State) (d : Nat) : Nat × Nat :=
  (List.range (s.deviceBlocks d)).foldl (fun a i => if a.1 < s.wearOf d i then (s.wearOf d i, i) else a) (0, 0)

/-- RATED_CYCLES. -/
def State.ratedCycles (s : State) (d : Nat) : Nat := fld (s.deviceRec d) 20 4
/-- WEAR_ALERT_PCT. -/
def State.wearPct (s : State) (d : Nat) : Nat := fld (s.deviceRec d) 24 1

/-- A wear level of device d is reported (R241). -/
def State.reportWear (s : State) (d level mx : Nat) : State :=
  let s := { s with fit := { s.fit with wearAlert := setBit s.fit.wearAlert d, wearLevel := s.fit.wearLevel.set d 0 level } }
  let s := s.log .forge 0x0302 5 2 d { cause := level, value := mx }
  s.tellManagers 0x0302 5 7 d

/-- The wear levels of device d that MAX has reached and that were not reported are reported (R241). -/
def State.checkWear (s : State) (d : Nat) : State :=
  if !s.deviceValid d then s
  else
    let mx := (s.wearMax d).1
    let done := s.fit.wearLevel.get d 0
    let s := if done < 1 ∧ s.ratedCycles d * s.wearPct d ≤ mx * 100 then s.reportWear d 1 mx else s
    if done < 2 ∧ s.ratedCycles d ≤ mx then s.reportWear d 2 mx else s

/-- Each block of a list is worn by one erase (R238, R239). -/
def State.wearBlocks (s : State) (d : Nat) (bs : List Nat) : State :=
  ({ s with fit := { s.fit with wear := bs.foldl (fun w i => w.upd (leafIndex d i) 0 (fun n => satAdd 32 n 1)) s.fit.wear } }).checkWear d

/-! ### Writes that complete at the flash side (R141, R221, R226) -/

/-- The next port sequence number of port p (R222). -/
def State.nextPortSeq (s : State) (p : Nat) : Nat × State :=
  let n := (s.fit.seqs.get p 0 + 1) % 2 ^ 32
  (n, { s with fit := { s.fit with seqs := s.fit.seqs.set p 0 n } })

/-- A write of some blocks of device d: the assemblies of the blocks are discarded, and FIT gets one event each. -/
def State.writeBlocks (s : State) (d seq : Nat) (bs : List Nat) (ev : Nat → FitEv) : State :=
  { s with
    fit := { s.fit with events := s.fit.events ++ bs.map ev,
                        lastWrite := bs.foldl (fun w i => w.ins (leafIndex d i) seq) s.fit.lastWrite,
                        asms := bs.foldl (fun a i => a.del (leafIndex d i)) s.fit.asms }
    bde := { s.bde with taps := s.bde.taps.filter (fun c => !(c.device == d && bs.contains c.block)) } }

/-- A program at an address completes. -/
def State.noteProgram (s : State) (d addr seq : Nat) : State :=
  s.writeBlocks d seq [addr / 65536] (fun i => .program d i seq)

/-- An erase of a size code of Table 5-6 at an address completes: its blocks are marked and worn. -/
def State.noteErase (s : State) (d size addr seq : Nat) : State :=
  let all := List.range (s.deviceBlocks d)
  let bs := if size = 4 then all else [addr / 65536]
  let s := if size = 1 ∨ size = 2 then s.writeBlocks d seq bs (fun i => .partErase d i seq)
           else s.writeBlocks d seq bs (fun i => .erase d i seq)
  s.wearBlocks d bs

/-! ### Snoop assemblies (R213 to R216, R224, R225) -/

/-- The assembly pool's use: snoop assemblies, and two for each device that a scan streams (R224). -/
def State.poolInUse (s : State) : Nat :=
  s.fit.asms.length + 2 * (s.fit.scans.filter (fun x => x.running)).length

/-- The oldest assembly of a list, by its last update. -/
def oldestAsm (l : Tab Assembly) : Option Nat :=
  (l.foldl (fun (a : Option (Nat × Nat)) e => match a with
    | some (k, t) => if e.2.last < t then some (e.1, e.2.last) else some (k, t)
    | none => some (e.1, e.2.last)) none).map Prod.fst

/-- The port of an assembly's block. -/
def asmPort (k : Nat) : Nat := k / 8192 / 2

/-- Room for a new assembly of device d: none evicted within the limits, else the oldest, preferring the same port
(R225). -/
def State.asmRoom (s : State) (d : Nat) : State :=
  let mine := s.fit.asms.filter (fun e => asmPort e.1 == d / 2)
  if mine.length < 256 ∧ s.fit.asms.length < 960 then s
  else match oldestAsm (if mine.isEmpty then s.fit.asms else mine) with
    | some k => { s with fit := { s.fit with asms := s.fit.asms.del k, evictions := satAdd 32 s.fit.evictions 1 } }
    | none => s

/-- A chunk of a block is completed: its sub-leaf joins the block's assembly, and a full assembly is a completion
(R213, R214). -/
def State.addChunk (s : State) (d i c seq : Nat) (data : Bytes) : State :=
  let k := leafIndex d i
  let s := if s.fit.asms.any (fun e => e.1 == k) then s else s.asmRoom d
  let a := s.fit.asms.get k {}
  let a := { a with chunks := a.chunks.ins c (sha256 data), seq := seq, last := s.now }
  if a.chunks.length = 64 then
    { s with fit := { s.fit with asms := s.fit.asms.del k,
                                 events := s.fit.events ++ [.completion d i seq (leafOfSubs (a.chunks.map Prod.snd))] } }
  else
    let s := { s with fit := { s.fit with asms := s.fit.asms.ins k a } }
    { s with fit := { s.fit with highWater := max s.fit.highWater s.poolInUse } }

/-! ### What an operation of Reforge still has to stage (R386, R387) -/

/-- Block i is stored. -/
def Manifest.stored (m : Manifest) (i : Nat) : Bool := (fld m.blockMap (i / 8) 1).testBit (i % 8)

/-- LEAVES[i]. -/
def Manifest.leafAt (m : Manifest) (i : Nat) : Bytes := slice m.leaves (32 * i) 32

/-- The journal record of device d. -/
def State.journal (s : State) (d : Nat) : Journal := s.rfu.journal.get d {}

/-- The value that a leaf holds as FRESH or ERASED (R387). -/
def Leaf.held (l : Leaf) : Option Bytes :=
  match l.state with
  | .fresh => some l.value
  | .erased => some erasedLeaf
  | _ => none

/-- The rewrite set of an operation (R387); without a manifest it is empty. -/
def State.rewriteSet (s : State) (o : RfuOp) : List Nat :=
  match o.manifest with
  | none => []
  | some m =>
    let all := List.range (s.deviceBlocks o.device)
    if o.full then all
    else all.filter (fun i => !s.blockExcluded o.device i && (s.leaf o.device i).held != some (m.leafAt i))

/-- The blocks that an operation has to rewrite: by its record once the intent is written, else as the leaves stand. -/
def State.opSet (s : State) (o : RfuOp) : List Nat :=
  if o.phase == .write || o.resume then (s.journal o.device).set.filter (fun i => !(s.journal o.device).done.contains i)
  else s.rewriteSet o

/-- The stored blocks that an operation still has to stage. -/
def State.toStage (s : State) (o : RfuOp) : List Nat :=
  match o.manifest with
  | some m => (s.opSet o).filter (fun i => m.stored i && !o.staged.any (fun x => x.block == i))
  | none => []

/-- An operation stages stored blocks, and its stream has a Bellows lane dedicated at rung 3 (R386). -/
def State.staging (s : State) (o : RfuOp) : Bool :=
  (o.phase == .waitPort || o.phase == .write) && !o.stopping && !(s.toStage o).isEmpty

/-- Digest or receipt work of a queue is outstanding (R205). -/
def State.digestWork (s : State) : Bool :=
  !s.rfg.building.isEmpty ||
  s.cme.queues.any (fun p => p.2.flights.any (fun f =>
    let c := fld f.entry 0 2
    decide ((0x0310 ≤ c ∧ c ≤ 0x0313) ∨ c = 0x0400 ∨ c = 0x0401)))

/-- The digest lanes in service, ascending; none while their block is re-initialised (R504). -/
def State.digestLanes (s : State) : List Nat :=
  if s.spn.reinitBlocks.contains 3 then [] else (List.range 8).filter (fun l => !(s.bde.lanes.get l {}).outOfService)

/-- The devices whose rung-3 measurement streams run: scans, and the staging of a recovery's blocks (R205, R386). -/
def State.streams (s : State) : List Nat :=
  (s.fit.scans.filter (fun x => x.running && x.kind.urgent)).map Scan.device ++ (s.rfu.ops.filter s.staging).map RfuOp.device

/-- The lanes dedicated to measurement: one for each stream, the lowest first, at most six while digest or receipt work is
outstanding (R205). -/
def State.dedicatedLanes (s : State) : List Nat :=
  s.digestLanes.take (min s.streams.length (if s.digestWork then 6 else 8))

/-- The dedicated lane that serves the measurement stream of device d: the streams are spread over the dedicated lanes, at
most two on each, and one beyond that waits (R205). -/
def State.streamLane (s : State) (d : Nat) : Option Nat :=
  let ls := s.dedicatedLanes
  match s.streams.findIdx? (· == d) with
  | some k => if k < 2 * ls.length then ls[k % ls.length]? else none
  | none => none

/-- The lane pairs gated under R522; a pair with a dedicated lane is not. -/
def State.gatedPairs (s : State) : List Nat :=
  s.spn.pairsGated.filter (fun p => !s.dedicatedLanes.any (fun l => l / 2 == p))

/-- The lanes that share work (R205). -/
def State.sharedLanes (s : State) : List Nat :=
  s.digestLanes.filter (fun l => !s.dedicatedLanes.contains l && !s.gatedPairs.contains (l / 2))

/-- A lane can take background work: one is shared (R205). -/
def State.sharesLane (s : State) : Bool := !s.sharedLanes.isEmpty

/-- The lanes take what the taps hold, the oldest first (R216): hashing takes no time in this model (log entry 85). -/
def State.drainTaps (s : State) : State :=
  if s.bde.taps.isEmpty || !s.sharesLane then s
  else s.bde.taps.foldl (fun t c => t.addChunk c.device c.block c.chunk c.seq c.data) { s with bde := { s.bde with taps := [] } }

/-- The room in the tap of port p, in bytes. -/
def State.tapRoom (s : State) (p : Nat) : Nat := 4096 - 1024 * (s.bde.taps.filter (fun c => c.device / 2 == p)).length

/-- The blocks that hold data bytes of a read beyond those that the tap has room for (R216). -/
def droppedBlocks (room size addr n : Nat) : List Nat :=
  ((List.range ((n + 65535) / 65536 + 1)).filterMap (fun j =>
    let o := room + 65536 * j
    if o < n then some ((addr + o) % size / 65536) else none) ++ (if room < n then [(addr + n - 1) % size / 65536] else [])).eraseDups

/-- Block i of device d has an assembly, or chunks in the tap that would begin one. -/
def State.assembles (s : State) (d i : Nat) : Bool :=
  s.fit.asms.any (fun e => e.1 == leafIndex d i) || s.bde.taps.any (fun c => c.device == d && c.block == i)

/-- The tap abandons the assemblies of some blocks of device d, and counts them (R216). -/
def State.abandonBlocks (s : State) (d : Nat) (lost : List Nat) : State :=
  let n := (lost.filter (s.assembles d)).length
  { s with bde := { s.bde with drops := satAdd 32 s.bde.drops n,
                               taps := s.bde.taps.filter (fun c => !(c.device == d && lost.contains c.block)) },
           fit := { s.fit with asms := lost.foldl (fun a i => a.del (leafIndex d i)) s.fit.asms } }

/-- The chunks that a read from an address completes (R213), as far as the tap has room. -/
def readChunks (room d size addr seq : Nat) (data : Bytes) : List TapChunk :=
  let first := padTo 1024 addr
  (List.range ((min room data.length - first) / 1024)).map (fun k =>
    let a := (addr + first + 1024 * k) % size
    { device := d, block := a / 65536, chunk := a / 1024 % 64, seq := seq, data := slice data (first + 1024 * k) 1024 })

/-- The data of a host read command of class READ that the tap captured, from an address (R212 to R216). While no lane is
shared the tap holds what it has room for. -/
def State.snoop (s : State) (d addr seq : Nat) (data : Bytes) : State :=
  let s := s.drainTaps
  let size := (s.port (d / 2)).bank.size
  let room := if s.sharesLane then data.length else s.tapRoom (d / 2)
  let s := { s with bde := { s.bde with taps := s.bde.taps ++ readChunks room d size addr seq data } }
  (s.abandonBlocks d (droppedBlocks room size addr data.length)).drainTaps

end Sys2Proof.Machine
end

