-- ==== Sys2Proof/Machine/PkChecks.lean ====
section
/-! DEFINITION. The input checks of Table 7-4 on an operation of Table 7-2 (R258, R277). The curve constants are those of
FIPS 186-5 and RFC 8032, and the LMS lengths those of RFC 8554 (PRESUMED, log entry 82). -/
namespace Sys2Proof.Machine

/-! ### Curves -/

/-- a to the power e modulo m, over the low k bits of e. -/
def powMod (m : Nat) : Nat → Nat → Nat → Nat
  | 0, _, _ => 1 % m
  | k + 1, a, e =>
    let r := powMod m k (a * a % m) (e / 2)
    if e % 2 = 1 then a * r % m else r

/-- The prime, the order and the constant b of P-256. -/
def p256 : Nat × Nat × Nat :=
  (0xFFFFFFFF00000001000000000000000000000000FFFFFFFFFFFFFFFFFFFFFFFF,
   0xFFFFFFFF00000000FFFFFFFFFFFFFFFFBCE6FAADA7179E84F3B9CAC2FC632551,
   0x5AC635D8AA3A93E7B3EBBD55769886BC651D06B0CC53B0F63BCE3C3E27D2604B)

/-- The prime, the order and the constant b of P-384. -/
def p384 : Nat × Nat × Nat :=
  (0xFFFFFFFFFFFFFFFFFFFFFFFFFFFFFFFFFFFFFFFFFFFFFFFFFFFFFFFFFFFFFFFEFFFFFFFF0000000000000000FFFFFFFF,
   0xFFFFFFFFFFFFFFFFFFFFFFFFFFFFFFFFFFFFFFFFFFFFFFFFC7634D81F4372DDF581A0DB248B0A77AECEC196ACCC52973,
   0xB3312FA7E23EE7E4988E056BE3F82D19181D9C6EFE8141120314088F5013875AC656398D8A2ED19D2A85C8EDD3EC2AEF)

/-- A scalar lies in 1 to n − 1. -/
def scalarOk (curve : Nat × Nat × Nat) (d : Nat) : Bool := decide (0 < d ∧ d < curve.2.1)

/-- An uncompressed point of coordinates of w bytes: it begins 0x04, its coordinates are below p, and it lies on the
curve; no such point is the point at infinity. -/
def pointOk (curve : Nat × Nat × Nat) (w : Nat) (q : Bytes) : Bool :=
  let p := curve.1
  let x := beNat (slice q 1 w)
  let y := beNat (slice q (1 + w) w)
  fld q 0 1 == 4 && decide (x < p ∧ y < p) && (y * y + 3 * x) % p == (x * x * x + curve.2.2) % p

/-- r and s of a signature of 2w bytes lie in 1 to n − 1. -/
def rsOk (curve : Nat × Nat × Nat) (w : Nat) (sig : Bytes) : Bool :=
  scalarOk curve (beNat (slice sig 0 w)) && scalarOk curve (beNat (slice sig w w))

/-- The prime of Ed25519. -/
def edPrime : Nat := 2 ^ 255 - 19
/-- The order L of Ed25519. -/
def edOrder : Nat := 2 ^ 252 + 27742317777372353535851937790883648493
/-- The constant d of Ed25519: −121665 divided by 121666. -/
def edD : Nat := (edPrime - 121665) * powMod edPrime 255 121666 (edPrime - 2) % edPrime

/-- An encoded point of Ed25519 decodes canonically: y is below p, x² is a square, and x = 0 has no sign. -/
def edPointOk (a : Bytes) : Bool :=
  let w := fld a 0 32
  let y := w % 2 ^ 255
  let u := (y * y + edPrime - 1) % edPrime
  let v := (edD * (y * y) + 1) % edPrime
  let ls := powMod edPrime 255 (u * v % edPrime) ((edPrime - 1) / 2)
  decide (y < edPrime) && (if u = 0 then !w.testBit 255 else ls == 1)

/-! ### RSA, ML-KEM and LMS -/

/-- n is odd and exactly 3,072 bits long, and e is odd with 3 ≤ e < n. -/
def rsaKeyOk (n e : Nat) : Bool := n % 2 == 1 && decide (2 ^ 3071 ≤ n ∧ n < 2 ^ 3072) && e % 2 == 1 && decide (3 ≤ e ∧ e < n)

/-- A prime factor is odd and 1,536 bits long. -/
def rsaPrimeOk (p : Nat) : Bool := p % 2 == 1 && decide (2 ^ 1535 ≤ p ∧ p < 2 ^ 1536)

/-- ALG and PAD have one of their codes. -/
def rsaCodesOk (alg pad : Nat) : Bool := decide (alg ≤ 1 ∧ pad ≤ 1)

/-- The modulus check of FIPS 203: every 12-bit coefficient of the first 1,152 bytes of ek is below 3,329. -/
def kemKeyOk (ek : Bytes) : Bool := (List.range 384).all (fun i => decide (fld ek (3 * i) 3 % 4096 < 3329 ∧ fld ek (3 * i) 3 / 4096 < 3329))

/-- The tree height of an LMS type that R246 names. -/
def lmsHeight (t : Nat) : Option Nat := if 5 ≤ t ∧ t ≤ 9 then some (5 * (t - 4)) else none

/-- The chains of an LM-OTS type that R246 names. -/
def otsChains (t : Nat) : Option Nat := if t = 2 then some 133 else if t = 3 then some 67 else if t = 4 then some 34 else none

/-- The length of an LMS signature under the types that 8 bytes give. -/
def lmsSigLen (types : Bytes) : Option Nat := do
  let h ← lmsHeight (beNat (slice types 0 4))
  let p ← otsChains (beNat (slice types 4 4))
  some (4 + (36 + 32 * p) + 4 + 32 * h)

/-- The length that an HSS signature of one or two levels has under its public key and its own signed key. -/
def hssSigLen (key sig : Bytes) : Option Nat := do
  let a ← lmsSigLen (slice key 4 8)
  match beNat (slice key 0 4) with
  | 1 => some (4 + a)
  | 2 => some (4 + a + 56 + (← lmsSigLen (slice sig (4 + a) 8)))
  | _ => none

/-! ### Table 7-4 -/

/-- The input checks of an operation: one that fails gives PK_INPUT_INVALID. -/
def pkInputOk (op : Nat) (x : Bytes) : Bool :=
  match op with
  | 0x01 => scalarOk p256 (beNat (slice x 0 32))
  | 0x02 => scalarOk p384 (beNat (slice x 0 48))
  | 0x03 => pointOk p256 32 (slice x 0 65)
  | 0x04 => pointOk p384 48 (slice x 0 97)
  | 0x06 => edPointOk (slice x 0 32)
  | 0x07 => rsaKeyOk (beNat (slice x 0 384)) (beNat (slice x 384 4)) && rsaCodesOk (fld x 388 1) (fld x 389 1)
  | 0x08 => rsaPrimeOk (beNat (slice x 0 192)) && rsaPrimeOk (beNat (slice x 192 192)) && rsaCodesOk (fld x 964 1) (fld x 965 1)
  | 0x09 =>
    let d := beNat (slice x 97 48)
    pointOk p384 48 (slice x 0 97) && (d == 0 || scalarOk p384 d)
  | 0x0C => kemKeyOk x
  | 0x0D => hssSigLen (slice x 0 60) (x.drop 64) == some (beNat (slice x 60 4))
  | _ => true

/-- The range checks of a verification's signature: one that fails gives VALID 0. -/
def pkRangeOk (op : Nat) (x : Bytes) : Bool :=
  match op with
  | 0x03 => rsOk p256 32 (slice x 97 64)
  | 0x04 => rsOk p384 48 (slice x 145 96)
  | 0x06 => decide (fld x 64 32 < edOrder)
  | 0x07 => decide (beNat (slice x 440 384) < beNat (slice x 0 384))
  | _ => true

end Sys2Proof.Machine
end

