-- ==== Sys2Proof/Machine/HammerOps.lean ====
section
/-! DEFINITION. Chapter 7's shared operations: placing work on lanes, nonce pairs, gating, suspicion and retirement. -/
namespace Sys2Proof.Machine

/-- Lane n. -/
def State.lane (s : State) (n : Nat) : Lane := s.hma.lanes.get n {}

/-- s with lane n changed by f. -/
def State.updLane (s : State) (n : Nat) (f : Lane → Lane) : State :=
  { s with hma := { s.hma with lanes := s.hma.lanes.upd n {} f } }

/-- The value of a lane state (Table 7-1). -/
def LaneState.code : LaneState → Nat
  | .notReleased => 0
  | .active => 1
  | .spare => 2
  | .gated => 3
  | .testing => 4
  | .retired => 5

/-- A lane in service: ACTIVE, GATED or TESTING (Table 7-8). -/
def Lane.inService (l : Lane) : Bool := l.state == .active || l.state == .gated || l.state == .testing

/-- The lanes in service, ascending. -/
def State.serviceLanes (s : State) : List Nat := (List.range 18).filter (fun n => (s.lane n).inService)

/-- Cluster of a lane (Table 7-12). -/
def clusterOf (lane : Nat) : Nat := lane / 6

/-- A lane that can take work: ACTIVE, nothing running. -/
def Lane.free (l : Lane) : Bool := l.state == .active && l.running.isNone && l.coming == 0

/-- The order of a work class (Table 7-3). -/
def WorkClass.order : WorkClass → Nat
  | .system => 0
  | .express => 1
  | .refill => 2
  | .standard => 3
  | .bulk => 4
  | .background => 5

/-- The rung of a work class (Table 7-3). -/
def WorkClass.rung : WorkClass → Nat
  | .system => 2
  | .express => 4
  | .refill => 4
  | .standard => 4
  | .bulk => 5
  | .background => 5

/-- The work class of a queue (R254). -/
def State.classOf (s : State) (q : Nat) : WorkClass :=
  match (s.grant q).cls with
  | 0 => .express
  | 1 => .standard
  | _ => .bulk

/-- A retry goes ahead of all new work of its class and of the classes below (Table 7-3). -/
def HOp.rank (o : HOp) : Nat := 2 * o.cls.order + (if o.retry then 0 else 1)

/-- The long operations of R257. -/
def isLong (op : Nat) : Bool := op == 0x08 || op == 0x0A

/-- How many lanes run an operation with a property. -/
def State.runningCount (s : State) (p : HOp → Bool) : Nat :=
  ((List.range 18).filter (fun n => match (s.lane n).running with
    | some o => p o
    | none => false)).length

/-! ### Nonce pairs (R250 to R253) -/

/-- The key of a lot of pairs. -/
def lotKey (cluster curve lane : Nat) : Nat := cluster * 64 + curve * 32 + lane

/-- Pairs of a curve that a cluster holds. -/
def State.poolOf (s : State) (cluster curve : Nat) : Nat :=
  (List.range 18).foldl (fun a l =>
    let x := s.hma.pairs.get (lotKey cluster curve l) {}
    a + x.untested + x.proven) 0

/-- Pairs of a curve that the array holds. -/
def State.poolTotal (s : State) (curve : Nat) : Nat := s.poolOf 0 curve + s.poolOf 1 curve + s.poolOf 2 curve

/-- Pairs of a lot that may be drawn: those made since the last passed test of a TESTING lane may not (R261). -/
def State.drawable (s : State) (cluster curve lane : Nat) : Nat :=
  let x := s.hma.pairs.get (lotKey cluster curve lane) {}
  if (s.lane lane).state == .testing then x.proven else x.proven + x.untested

/-- The lots from which a lane of a cluster can draw, its own cluster's first. -/
def State.lotsFor (s : State) (cluster curve : Nat) : List Nat :=
  ((cluster :: ([0, 1, 2] : List Nat).filter (· ≠ cluster)).flatMap (fun c =>
    ((List.range 18).filter (fun l => decide (0 < s.drawable c curve l))).map (lotKey c curve)))

/-- One pair taken from a lot. -/
def PairLot.take1 (x : PairLot) : PairLot :=
  if 0 < x.proven then { x with proven := x.proven - 1 } else { x with untested := x.untested - 1 }

/-- The curve whose pair a signing operation consumes. -/
def pairCurve (op : Nat) : Option Nat := if op = 0x01 then some 0 else if op = 0x02 then some 1 else none

/-! ### The DRBG instances (R249, R250, R432, R433) -/

/-- A DRBG instance. -/
def Crucible.drbg (c : Crucible) (u : Nat) : Drbg :=
  match u with
  | 0 => c.d0
  | 1 => c.d1
  | 2 => c.d2
  | _ => c.d3

/-- The Crucible with a DRBG instance changed by f. -/
def Crucible.updDrbg (c : Crucible) (u : Nat) (f : Drbg → Drbg) : Crucible :=
  match u with
  | 0 => { c with d0 := f c.d0 }
  | 1 => { c with d1 := f c.d1 }
  | 2 => { c with d2 := f c.d2 }
  | _ => { c with d3 := f c.d3 }

/-- Some DRBG instance generates. -/
def State.anyDrbg (s : State) : Bool :=
  s.cru.d0.generating || s.cru.d1.generating || s.cru.d2.generating || s.cru.d3.generating

/-- Some instance that serves the Hammer clusters generates (R432). -/
def State.clusterDrbg (s : State) : Bool := s.cru.d1.generating || s.cru.d2.generating || s.cru.d3.generating

/-- A generate request is made of instance D0. -/
def State.useD0 (s : State) : State :=
  { s with cru := { s.cru with d0 := { s.cru.d0 with requests := s.cru.d0.requests + 1 } } }

/-- The instance that a cluster draws from: its own, or another cluster's when its own has stopped (R433). -/
def State.drbgFor (s : State) (cluster : Nat) : Option Nat :=
  ((cluster + 1) :: ([1, 2, 3] : List Nat)).find? (fun u => (s.cru.drbg u).generating)

/-- A cluster makes n generate requests. -/
def State.drawFor (s : State) (cluster n : Nat) : State :=
  match s.drbgFor cluster with
  | some u => { s with cru := s.cru.updDrbg u (fun d => { d with requests := d.requests + n }) }
  | none => s

/-- Operations that draw from a DRBG: signing with a nonce, blinding or hedging, ECDH and encapsulation (R249, R432). -/
def needsRandom (op : Nat) : Bool :=
  op == 0x01 || op == 0x02 || op == 0x08 || op == 0x09 || op == 0x0A || op == 0x0C

/-- The generate requests of an operation but for its pair: the blinding or the hedging, and the private key of
ECDH_P384 with d all zero or the salt of RSA3072_SIGN_CRT with PAD 1 (R249, R277). -/
def opDraws (op : Nat) (input : Bytes) : Nat :=
  b2n (needsRandom op) + b2n (op == 0x09 && decide (input.length = 145) && beNat (slice input 97 48) == 0) +
    b2n (op == 0x08 && fld input 965 1 == 1)

/-- A signing operation starts on a lane: it takes a pair, or makes one on the spot, from a nonce drawn for it, when
every pool is empty (R250 to R252). -/
def State.takePair (s : State) (lane op : Nat) : State :=
  match pairCurve op with
  | none => s
  | some c =>
    match s.lotsFor (clusterOf lane) c with
    | k :: _ => { s with hma := { s.hma with pairs := s.hma.pairs.upd k {} PairLot.take1 } }
    | [] =>
      { s with hma := { s.hma with noPair := satAdd 32 s.hma.noPair 1,
                                   p256EmptyHit := s.hma.p256EmptyHit || c == 0,
                                   p384EmptyHit := s.hma.p384EmptyHit || c == 1 } }.drawFor (clusterOf lane) 1

/-- An operation starts on a lane: its pair is taken and its random values are drawn. -/
def State.beginWork (s : State) (lane op : Nat) (input : Bytes) : State :=
  (s.drawFor (clusterOf lane) (opDraws op input)).takePair lane op

/-- The refill that a cluster owes, with its class: REFILL at 256 pairs or fewer, else BACKGROUND, none when both pools
are full (R253) or no instance gives a nonce (R433). The emptier pool is filled first. -/
def State.refillFor (s : State) (cluster : Nat) : Option (Nat × WorkClass) :=
  let a := s.poolOf cluster 0
  let b := s.poolOf cluster 1
  let c := if b < a then 1 else 0
  let n := min a b
  if 1024 ≤ n ∨ !s.clusterDrbg then none else some (c, if n ≤ 256 then .refill else .background)

/-! ### Placing work (R254 to R257) -/

/-- Work of the device's own waits for a Hammer lane: nothing but SYSTEM work goes before it (R254). -/
def State.ownWaits (s : State) : Bool := s.hma.ownWait == .lane || s.hma.ownWait == .beyond

/-- The operation may start now: the limits of R256 and R257. -/
def State.mayPlace (s : State) (o : HOp) : Bool :=
  !(o.cls == .system && decide (2 ≤ s.runningCount (fun x => x.cls == .system))) &&
  !(isLong o.op && decide (6 ≤ s.runningCount (fun x => isLong x.op)))

/-- A retry takes a lane that it has not tried, in another cluster where a free lane is available (R260). -/
def State.laneFits (s : State) (o : HOp) (lane : Nat) : Bool :=
  !o.tried.contains lane &&
  (match o.tried.getLast? with
   | none => true
   | some t =>
     clusterOf t != clusterOf lane ||
     !(List.range 18).any (fun n => (s.lane n).free && clusterOf n != clusterOf t && !o.tried.contains n))

/-- The queue whose turn it is among the queues that wait, and the turn after it is served (R254, R295): weighted round
robin on queue weight. -/
def Turn.next (t : Turn) (weight : Nat → Nat) (qs : List Nat) : Option (Nat × Turn) :=
  if qs.isEmpty then none
  else if qs.contains t.queue ∧ 0 < t.left then some (t.queue, { t with left := t.left - 1 })
  else
    let above := qs.filter (fun q => decide (t.queue < q))
    match (if above.isEmpty then qs else above).min? with
    | some q => some (q, { queue := q, left := weight q - 1 })
    | none => none

/-- The turn of a queue class. -/
def State.turnOf (s : State) (c : WorkClass) : Turn :=
  match c with
  | .express => s.hma.express
  | .standard => s.hma.standard
  | _ => s.hma.bulk

/-- s with the turn of a queue class set. -/
def State.setTurn (s : State) (c : WorkClass) (t : Turn) : State :=
  match c with
  | .express => { s with hma := { s.hma with express := t } }
  | .standard => { s with hma := { s.hma with standard := t } }
  | .bulk => { s with hma := { s.hma with bulk := t } }
  | _ => s

/-- The waiting operation that a lane takes: the oldest of the highest class, by weighted round robin among the queues
of a queue class; with the state after the turn. -/
def State.pickOp (s : State) (lane : Nat) : Option (HOp × State) :=
  let can := s.hma.waiting.filter (fun o => s.mayPlace o && s.laneFits o lane && (!s.ownWaits || o.cls == .system))
  match (can.map HOp.rank).min? with
  | none => none
  | some r =>
    let top := can.filter (fun o => o.rank == r)
    match top with
    | [] => none
    | o :: _ =>
      if o.retry || !(o.cls == .express || o.cls == .standard || o.cls == .bulk) then some (o, s)
      else
        match (s.turnOf o.cls).next (fun q => (s.grant q).weight) (top.map HOp.queue).eraseDups with
        | none => some (o, s)
        | some (q, t) =>
          match top.find? (fun x => x.queue == q) with
          | some x => some (x, s.setTurn o.cls t)
          | none => some (o, s)

/-- A waiting operation starts on lane n. -/
def State.startOp (s : State) (n : Nat) (o : HOp) : State :=
  let s := { s with hma := { s.hma with waiting := s.hma.waiting.erase o } }
  (s.updLane n (fun l => { l with running := some o })).beginWork n o.op o.input

/-- A free lane takes its next work: the waiting operation, or a refill that ranks above it (R253, R255). While work of the
device's own waits for a lane it takes SYSTEM work alone (R254). -/
def State.feedLane (s : State) (n : Nat) : State :=
  if !(s.lane n).free then s
  else
    let refill := if s.ownWaits then none else s.refillFor (clusterOf n)
    let startRefill (c : Nat) (w : WorkClass) : State :=
      (s.updLane n (fun l => { l with running := some { cls := w, req := .refill c, since := s.now } })).drawFor (clusterOf n) 1
    match s.pickOp n, refill with
    | none, none => s
    | none, some (c, w) => startRefill c w
    | some (o, t), r =>
      match r with
      | some (c, w) =>
        if 2 * w.order + 1 < o.rank then startRefill c w else t.startOp n o
      | none => t.startOp n o

/-- The lanes in service that have power or are being given it: those of a cluster that is re-initialised have none (R504). -/
def State.poweredLanes (s : State) : List Nat :=
  s.serviceLanes.filter (fun n => ((s.lane n).state != .gated || (s.lane n).coming == 1) && (s.lane n).coming != 4)

/-- The lanes that work of the device's own needs beyond the budget while it waits for them: two of each cluster (log entry
123). -/
def State.ownLanes (s : State) : List Nat :=
  if s.hma.ownWait == .beyond then ([0, 1, 2] : List Nat).flatMap (fun c => (s.serviceLanes.filter (fun n => clusterOf n == c)).take 2) else []

/-- The lanes beyond the budget: those of the highest index among the powered ones (R272, R273). -/
def State.beyondBudget (s : State) : List Nat :=
  (s.poweredLanes.drop (max 2 s.hma.budget)).filter (fun n => !s.ownLanes.contains n)

/-- The lanes beyond the budget are gated, each as soon as it is idle (R273). -/
def State.gateLanes (s : State) : State :=
  (s.beyondBudget.filter (fun n => (s.lane n).free)).foldl (fun t n => t.updLane n (fun l => { l with state := .gated })) s

/-- Up to n gated lanes are powered again, the lowest index first (R273). -/
def State.powerLanes (s : State) (n : Nat) : State :=
  ((s.serviceLanes.filter (fun m => (s.lane m).state == .gated && (s.lane m).coming == 0)).take n).foldl
    (fun t m => t.updLane m (fun l => { l with coming := 1 })) s

/-- Gated lanes are powered again for work of class EXPRESS or above that waits, up to the budget (R273), so that two lanes in
service are powered (R272), and for work of the device's own that cannot be done within the budget (log entry 123). -/
def State.powerForWork (s : State) : State :=
  let p := s.poweredLanes.length
  let wait := (s.hma.waiting.filter (fun o => o.cls == .system || o.cls == .express)).length + (if s.ownWaits then 2 else 0)
  let s := s.powerLanes (max (2 - p) (min wait (s.hma.budget - p)))
  (s.ownLanes.filter (fun n => (s.lane n).state == .gated && (s.lane n).coming == 0)).foldl
    (fun t n => t.updLane n (fun l => { l with coming := 1 })) s

/-- The budget is evaluated: when it has risen, gated lanes are powered up to it (R273). -/
def State.setBudget (s : State) (b : Nat) : State :=
  let rise := decide (s.hma.budget < b)
  let s := { s with hma := { s.hma with budget := b } }
  if rise then s.powerLanes (b - s.poweredLanes.length) else s

/-! ### Deprivation (R274, R275) -/

/-- The deprivation of a queue class. -/
def State.gateMark (s : State) (c : WorkClass) : GateMark :=
  match c with
  | .express => s.hma.gateE
  | .standard => s.hma.gateS
  | .bulk => s.hma.gateB
  | _ => {}

/-- The gated lane for want of which the work of a class waits: every powered lane is busy and a lane in service is
gated (R274). -/
def State.deprivedOf (s : State) (c : WorkClass) : Option Nat :=
  if (c == .express || c == .standard || c == .bulk) && !s.serviceLanes.any (fun n => (s.lane n).free) &&
      s.hma.waiting.any (fun o => o.cls == c) then
    s.serviceLanes.find? (fun n => (s.lane n).state == .gated)
  else none

/-- A mark is brought up to a time: a class that was deprived until now was so at that time. -/
def GateMark.stamp (m : GateMark) (t : Nat) : GateMark := if m.now then { m with last := some t } else m

/-- The marks of the three queue classes are stamped with the time. -/
def State.stampGates (s : State) : State :=
  { s with hma := { s.hma with gateE := s.hma.gateE.stamp s.now, gateS := s.hma.gateS.stamp s.now, gateB := s.hma.gateB.stamp s.now } }

/-- An operation whose class is deprived begins to yield to the cap, at rung 3, for the lane that is gated (R44, R275). -/
def State.depriveOp (s : State) (o : HOp) : State :=
  match s.deprivedOf o.cls, o.deprived with
  | some n, none =>
    let s := { s with hma := { s.hma with waiting := s.hma.waiting.map (fun (x : HOp) => if x.id = o.id then { x with deprived := some n } else x) } }
    s.startYield .forge 3 o.cls.rung 6 n (o.id + 1)
  | _, _ => s

/-- Work that waits while every powered lane is busy and a lane in service is gated is deprived (R274). -/
def State.markDeprived (s : State) : State :=
  let s := s.hma.waiting.foldl State.depriveOp s
  let mark (m : GateMark) (c : WorkClass) : GateMark := ({ m with now := (s.deprivedOf c).isSome }).stamp s.now
  { s with hma := { s.hma with gateE := mark s.hma.gateE .express, gateS := mark s.hma.gateS .standard, gateB := mark s.hma.gateB .bulk } }

/-- The yield of an operation ends with the operation (R44, R554). -/
def State.endYield (s : State) (o : HOp) : State :=
  match o.deprived with
  | some n => s.yieldEnd .forge 6 n (o.id + 1)
  | none => s

/-- A queue class was deprived in the last 1 ms (R274). -/
def State.recentlyDeprived (s : State) (c : WorkClass) : Bool :=
  (s.gateMark c).now || (match (s.gateMark c).last with
    | some t => decide (s.now ≤ t + 1000)
    | none => false)

/-- GATE_LEVEL: the highest-ranked queue class deprived in the last 1 ms (R274). -/
def State.gateLevel (s : State) : Nat :=
  if s.recentlyDeprived .express then 3 else if s.recentlyDeprived .standard then 2 else if s.recentlyDeprived .bulk then 1 else 0

/-! ### Submission -/

/-- Every free lane takes work, the lowest index first (R255). -/
def State.placeWork (s : State) : State :=
  let s := s.stampGates.gateLanes
  let s := (List.range 18).foldl State.feedLane s
  s.powerForWork.markDeprived

/-- An operation takes its place among those that wait: the oldest first (R254). -/
def insertOp (o : HOp) : List HOp → List HOp
  | [] => [o]
  | x :: r => if o.since < x.since ∨ (o.since = x.since ∧ o.id < x.id) then o :: x :: r else x :: insertOp o r

/-- An operation joins those that wait, and work is placed. -/
def State.submitOp (s : State) (o : HOp) : State :=
  ({ s with hma := { s.hma with waiting := insertOp { o with since := s.now, id := s.hma.nextOp } s.hma.waiting,
                                nextOp := s.hma.nextOp + 1 } }).placeWork

/-- No lane is in service (R264). -/
def State.hammerUnavailable (s : State) : Bool := s.serviceLanes.isEmpty

/-- Lanes in service that are gated. -/
def State.gatedLanes (s : State) : Nat := (s.serviceLanes.filter (fun n => (s.lane n).state == .gated)).length

/-! ### Failures, testing and retirement (R260 to R263) -/

/-- Every pool pair that a lane made since its last passed test is erased (R263). -/
def State.dropUntested (s : State) (lane : Nat) : State :=
  ([0, 1, 2] : List Nat).foldl (fun t c => ([0, 1] : List Nat).foldl (fun t v =>
    { t with hma := { t.hma with pairs := t.hma.pairs.upd (lotKey c v lane) {} (fun x => { x with untested := 0 }) } }) t) s

/-- A passed test proves the pairs that the lane made (R261). -/
def State.provePairs (s : State) (lane : Nat) : State :=
  ([0, 1, 2] : List Nat).foldl (fun t c => ([0, 1] : List Nat).foldl (fun t v =>
    { t with hma := { t.hma with pairs := t.hma.pairs.upd (lotKey c v lane) {} (fun x =>
      { x with proven := x.proven + x.untested, untested := 0 }) } }) t) s

/-- Spares whose promotion runs. -/
def State.promotions (s : State) : Nat := ((List.range 18).filter (fun n => (s.lane n).state == .spare && (s.lane n).coming == 2)).length

/-- A spare is promoted in place of a lane: in the same cluster if there is one, else the lower index (R245). At most 16
lanes are in service (R244). -/
def State.promoteSpare (s : State) (lane : Nat) : State :=
  let spares := (List.range 18).filter (fun n => (s.lane n).state == .spare && (s.lane n).coming == 0)
  if 16 ≤ s.serviceLanes.length + s.promotions then s
  else match (spares.filter (fun n => clusterOf n == clusterOf lane)) ++ spares with
    | n :: _ => s.updLane n (fun l => { l with standsFor := lane, coming := 2 })
    | [] => s

/-- A spare stands for lane n, or is being promoted in its place. -/
def State.replaced (s : State) (n : Nat) : Bool :=
  (List.range 18).any (fun m => (s.lane m).standsFor == n && ((s.lane m).inService || (s.lane m).coming == 2))

/-- A spare that could not be promoted before is promoted in place of the first lane that stays out and that none replaces
(R245). -/
def State.fillPlace (s : State) : State :=
  match (List.range 18).find? (fun n => ((s.lane n).state == .retired || (s.lane n).state == .notReleased) && !s.replaced n) with
  | some n => s.promoteSpare n
  | none => s

/-- A lane is retired (R263), and a spare takes its place (R245): in place of a spare that was being promoted, the lane
that it was to stand for is replaced, and a spare that replaces no lane is not itself replaced. -/
def State.retireLane (s : State) (lane : Nat) : State :=
  let l := s.lane lane
  let s := s.updLane lane (fun l => { l with state := .retired, running := none, coming := 0, standsFor := 31 })
  let s := s.dropUntested lane
  let s := { s with hma := { s.hma with retireHit := true } }
  let s := s.log .forge 0x0304 3 6 lane
  let s := s.tellManagers 0x0304 3 6 lane
  if l.state != .spare then s.promoteSpare lane else if l.coming = 2 then s.promoteSpare l.standsFor else s

/-- A lane counts a failure, and is retired at the third (R262). -/
def State.laneFails (s : State) (lane : Nat) : State :=
  let s := s.updLane lane (fun l => { l with fails := l.fails + 1, lifetimeFails := min (l.lifetimeFails + 1) 65535, sinceFail := 0 })
  if 3 ≤ (s.lane lane).fails then s.retireLane lane else s

/-- An operation ends well on a lane: the count of R262, and FAILS falls after 16,777,216 in a row. -/
def Lane.good (l : Lane) : Lane :=
  let n := l.sinceFail + 1
  if 16777216 ≤ n ∧ 0 < l.fails then { l with opsDone := l.opsDone + 1, sinceFail := 0, fails := l.fails - 1 }
  else { l with opsDone := l.opsDone + 1, sinceFail := n }

/-- Both pools are erased (R253). -/
def State.erasePools (s : State) : State := { s with hma := { s.hma with pairs := [] } }

/-- A lane fails an invariant: the failure is counted, and the lane tests itself (R260 to R262). -/
def State.invariantFailed (s : State) (n op : Nat) : State :=
  let s := { s with hma := { s.hma with invariantHit := true, invariantFails := satAdd 32 s.hma.invariantFails 1 } }
  let s := s.updLane n (fun l => { l with state := .testing, testOp := op })
  s.laneFails n

/-! ### The device's own operations (R254 to R256, R259, R260; log entries 81 and 123) -/

/-- s as a row that may need lanes for work of the device's own tries it. -/
def State.tryOwn (s : State) : State := { s with hma := { s.hma with ownWait := .trying } }

/-- s with what the work of a row lacks; the first lack stands. -/
def State.lacks (s : State) (w : LaneWait) : State :=
  { s with hma := { s.hma with ownWait := if s.hma.ownWait == .none || s.hma.ownWait == .trying then w else s.hma.ownWait } }

/-- s with lanes taken by the work of a row. -/
def State.tookLanes (s : State) : State :=
  { s with hma := { s.hma with ownWait := if s.hma.ownWait == .trying then .none else s.hma.ownWait } }

/-- The idle lanes, ascending. -/
def State.idleLanes (s : State) : List Nat := (List.range 18).filter (fun n => (s.lane n).free)

/-- SYSTEM work runs on two lanes already (R256). -/
def State.systemFull (s : State) : Bool := decide (2 ≤ s.runningCount (fun x => x.cls == .system))

/-- The lane that takes an operation of the device's own that the given lanes have tried: an idle one, in another cluster than
the last where there is one (R255, R260). -/
def State.ownLane (s : State) (tried : List Nat) : Option Nat :=
  let can := s.idleLanes.filter (fun n => !tried.contains n)
  (can.filter (fun n => (tried.getLast?.map clusterOf) != some (clusterOf n)) ++ can).head?

/-- An operation of the device's own runs, on at most three lanes, the first errs of which fail their invariant; whether it
succeeded. The failure of the third lane is logged (R260). One that finds no idle lane waits. -/
def State.runOwn (s : State) (op : Nat) : Nat → List Nat → Nat → Bool × State
  | 0, tried, _ => (false, s.tookLanes.log .forge 0x0303 2 6 (tried.getLast?.getD 0) { value := op })
  | left + 1, tried, errs =>
    if s.systemFull then (false, s.lacks .lane)
    else match s.ownLane tried with
    | none =>
      if s.poweredLanes.any (fun n => !tried.contains n) then (false, s.lacks .lane)
      else if s.serviceLanes.any (fun n => !tried.contains n) then (false, s.lacks .beyond)
      else if tried.isEmpty then (false, s)
      else (false, s.tookLanes.log .forge 0x0303 2 6 (tried.getLast?.getD 0) { value := op })
    | some n =>
      let s := s.beginWork n op []
      if errs = 0 then (true, s.tookLanes.updLane n Lane.good)
      else State.runOwn (s.invariantFailed n op) op left (tried ++ [n]) (errs - 1)

/-- Two lanes of a list in different clusters, of which the given ones are none (R259). -/
def lanePair (l used : List Nat) : Option (Nat × Nat) :=
  match l.filter (fun n => !used.contains n) with
  | [] => none
  | a :: r => (r.find? (fun n => clusterOf n != clusterOf a)).map (fun b => (a, b))

/-- The two idle lanes that run a decision verification which the given lanes have not run; with what it lacks, where there are
none now: nothing, where no two lanes in service ever could. -/
def State.decisionPair (s : State) (used : List Nat) : Option (Nat × Nat) × LaneWait :=
  if s.systemFull then (none, .lane)
  else match lanePair s.idleLanes used with
  | some p => (some p, .none)
  | none => (none, if (lanePair s.poweredLanes used).isSome then .lane else if (lanePair s.serviceLanes used).isSome then .beyond else .none)

/-- A verification that found no two lanes: it waits, or is rejected where there are none. -/
def State.noPair (s : State) (w : LaneWait) : Bool × State := (false, if w == .none then s else s.lacks w)

/-- A signature that a decision rests on is verified on two lanes of different clusters (R259); whether it is accepted.
code says what the lanes do: 0 both give the true verdict; 1 the first differs and 2 the second, and the pair that runs it
again agrees, so that the lane in the minority counts an invariant failure; 3 the second pair disagrees too, and the
rejection is logged. Before a lane bundle is accepted no lane exists, and what the start verifies is verified without one. -/
def State.verdict (s : State) (op : Nat) (good : Bool) (code : Nat) : Bool × State :=
  if !s.boot.bundleIn then (good, s)
  else match s.decisionPair [] with
  | (none, w) => s.noPair w
  | (some (a, b), _) =>
    if code = 0 then (good, (s.tookLanes.updLane a Lane.good).updLane b Lane.good)
    else match s.decisionPair [a, b] with
      | (none, w) => if w == .none then (false, s.tookLanes.log .forge 0x0303 2 6 a { value := op }) else s.noPair w
      | (some (c, d), _) =>
        let s := (s.tookLanes.updLane c Lane.good).updLane d Lane.good
        if code = 1 then (good, (s.updLane b Lane.good).invariantFailed a op)
        else if code = 2 then (good, (s.updLane a Lane.good).invariantFailed b op)
        else (false, s.log .forge 0x0303 2 6 c { value := op })

/-- What the lanes do for signature i of a command: two bits each. -/
def verdictCode (verdicts i : Nat) : Nat := bits verdicts (2 * i) 2

/-- The signatures of a command are verified one after the other, until one is not accepted. -/
def State.decideAll (s : State) (verdicts : Nat) : Nat → List (Nat × Bool) → Bool × State
  | _, [] => (true, s)
  | i, (op, good) :: rest =>
    let r := s.verdict op good (verdictCode verdicts i)
    if r.1 then State.decideAll r.2 verdicts (i + 1) rest else r

end Sys2Proof.Machine
end

