-- ==== Sys2Proof/Machine/Cbor.lean ====
section
/-! DEFINITION. Deterministic CBOR (RFC 8949 as R322 and R158 narrow it): an encoder, and a decoder that refuses every
encoding but the deterministic one. -/
namespace Sys2Proof

/-- The shortest head of a major type and argument. -/
def cborHead (major n : Nat) : Bytes :=
  if n < 24 then [byte (32 * major + n)]
  else if n < 2 ^ 8 then byte (32 * major + 24) :: be 1 n
  else if n < 2 ^ 16 then byte (32 * major + 25) :: be 2 n
  else if n < 2 ^ 32 then byte (32 * major + 26) :: be 4 n
  else byte (32 * major + 27) :: be 8 n

/-- An unsigned integer. -/
def cborUint (n : Nat) : Bytes := cborHead 0 n
/-- An integer. -/
def cborInt (i : Int) : Bytes := if 0 ≤ i then cborHead 0 i.toNat else cborHead 1 (-1 - i).toNat
/-- A byte string. -/
def cborBytes (b : Bytes) : Bytes := cborHead 2 b.length ++ b
/-- A text string. -/
def cborText (b : Bytes) : Bytes := cborHead 3 b.length ++ b
/-- The head of an array of n items. -/
def cborArray (n : Nat) : Bytes := cborHead 4 n
/-- The head of a map of n entries. -/
def cborMap (n : Nat) : Bytes := cborHead 5 n

/-- A decoded data item. -/
inductive Cbor where
  | uint (n : Nat)
  /-- The integer −1 − n. -/
  | nint (n : Nat)
  | bytes (b : Bytes)
  | text (b : Bytes)
  | array (l : List Cbor)
  | map (l : List (Cbor × Cbor))
  | tag (n : Nat) (c : Cbor)
  deriving Repr

/-- A head that is in its shortest form: major type, argument, rest. -/
def readHead (b : Bytes) : Option (Nat × Nat × Bytes) :=
  match b with
  | [] => none
  | x :: rest =>
    let m := x.toNat / 32
    let a := x.toNat % 32
    let long (k lo : Nat) : Option (Nat × Nat × Bytes) :=
      let n := beNat (rest.take k)
      if rest.length < k ∨ n < lo then none else some (m, n, rest.drop k)
    if a < 24 then some (m, a, rest)
    else if a = 24 then long 1 24
    else if a = 25 then long 2 (2 ^ 8)
    else if a = 26 then long 4 (2 ^ 16)
    else if a = 27 then long 8 (2 ^ 32)
    else none

/-- Whether byte string a comes before b in the order of bytes. -/
def bytesLt : Bytes → Bytes → Bool
  | [], [] => false
  | [], _ :: _ => true
  | _ :: _, [] => false
  | x :: xs, y :: ys => decide (x.toNat < y.toNat) || (x == y && bytesLt xs ys)

/-- Read n items with a reader of one item. -/
def readMany (one : Bytes → Option (Cbor × Bytes)) : Nat → Bytes → Option (List Cbor × Bytes)
  | 0, b => some ([], b)
  | n + 1, b =>
    match one b with
    | none => none
    | some (c, rest) =>
      match readMany one n rest with
      | none => none
      | some (l, rest) => some (c :: l, rest)

/-- Read n map entries, their encoded keys strictly rising from the one before. -/
def readPairs (one : Bytes → Option (Cbor × Bytes)) : Nat → Bytes → Bytes → Option (List (Cbor × Cbor) × Bytes)
  | 0, _, b => some ([], b)
  | n + 1, prev, b =>
    match one b with
    | none => none
    | some (k, rest) =>
      let enc := b.take (b.length - rest.length)
      if !bytesLt prev enc then none
      else match one rest with
        | none => none
        | some (v, rest) =>
          match readPairs one n enc rest with
          | none => none
          | some (l, rest) => some ((k, v) :: l, rest)

/-- One data item from the front of b, nested at most fuel deep; only the deterministic encoding is taken. -/
def readItem : Nat → Bytes → Option (Cbor × Bytes)
  | 0, _ => none
  | fuel + 1, b =>
    match readHead b with
    | none => none
    | some (m, n, rest) =>
      if m = 0 then some (.uint n, rest)
      else if m = 1 then some (.nint n, rest)
      else if m = 2 then if rest.length < n then none else some (.bytes (rest.take n), rest.drop n)
      else if m = 3 then if rest.length < n then none else some (.text (rest.take n), rest.drop n)
      else if m = 4 then
        if rest.length < n then none else (readMany (readItem fuel) n rest).map (fun p => (.array p.1, p.2))
      else if m = 5 then
        if rest.length < n then none else (readPairs (readItem fuel) n [] rest).map (fun p => (.map p.1, p.2))
      else if m = 6 then (readItem fuel rest).map (fun p => (.tag n p.1, p.2))
      else none

/-- The whole of b as one data item. -/
def readCbor (b : Bytes) : Option Cbor :=
  match readItem 8 b with
  | some (c, []) => some c
  | _ => none

/-- The value under an unsigned key of a map's entries. -/
def mapGet (l : List (Cbor × Cbor)) (k : Nat) : Option Cbor :=
  (l.find? (fun p => match p.1 with
    | .uint n => n == k
    | _ => false)).map Prod.snd

/-- The unsigned keys of a map's entries; none when some key is not unsigned. -/
def mapKeys (l : List (Cbor × Cbor)) : Option (List Nat) :=
  l.mapM (fun p => match p.1 with
    | .uint n => some n
    | _ => none)

/-- The number of an unsigned item. -/
def Cbor.asUint : Cbor → Option Nat
  | .uint n => some n
  | _ => none

/-- The bytes of a byte string. -/
def Cbor.asBytes : Cbor → Option Bytes
  | .bytes b => some b
  | _ => none

/-- The entries of a map. -/
def Cbor.asMap : Cbor → Option (List (Cbor × Cbor))
  | .map l => some l
  | _ => none

/-- The items of an array. -/
def Cbor.asArray : Cbor → Option (List Cbor)
  | .array l => some l
  | _ => none

/-- The ToBeSigned of a COSE_Sign1 (R321). -/
def sig1Input (prot payload : Bytes) : Bytes :=
  cborArray 4 ++ cborText ("Signature1".toList.map (fun c => byte c.toNat)) ++ cborBytes prot ++ cborBytes [] ++ cborBytes payload

/-- A tagged COSE_Sign1 (R320). -/
def coseSign1 (prot payload sig : Bytes) : Bytes :=
  [0xD2, 0x84] ++ cborBytes prot ++ [0xA0] ++ cborBytes payload ++ cborBytes sig

/-- The ToBeSigned of one signature of a COSE_Sign (RFC 9052). -/
def sigInput (bodyProt signProt payload : Bytes) : Bytes :=
  cborArray 5 ++ cborText ("Signature".toList.map (fun c => byte c.toNat)) ++ cborBytes bodyProt ++ cborBytes signProt ++
  cborBytes [] ++ cborBytes payload

/-- One signature of a COSE_Sign: its protected header's bytes, alg as an integer, kid, signature. -/
structure CoseSig where
  prot : Bytes := []
  alg : Int := 0
  kid : Bytes := []
  sig : Bytes := []
  deriving DecidableEq, Repr

/-- The integer of an item. -/
def Cbor.asInt : Cbor → Option Int
  | .uint n => some n
  | .nint n => some (-1 - (n : Int))
  | _ => none

/-- The protected header of a COSE_Sign's body: empty, or an encoded map (RFC 9052), in the deterministic encoding. -/
def bodyProtOk (b : Bytes) : Bool := b.isEmpty || ((readCbor b).bind Cbor.asMap).isSome

/-- A protected header that carries exactly an alg and a kid. Other parameters, and an unprotected header that is not empty, are
refused: a DESIGN CHOICE, for R155 names none and RFC 9052 has them (log entry 119). -/
def readProt (b : Bytes) : Option (Int × Bytes) := do
  let m ← (← readCbor b).asMap
  let ks ← mapKeys m
  if ks != [1, 4] then none
  else
    let a ← (← mapGet m 1).asInt
    let k ← (← mapGet m 4).asBytes
    some (a, k)

/-- One COSE_Signature of a COSE_Sign: [protected, an empty map, signature] (log entry 119). -/
def readSigner (c : Cbor) : Option CoseSig := do
  match ← c.asArray with
  | [p, .map [], s] =>
    let pb ← p.asBytes
    let ak ← readProt pb
    some { prot := pb, alg := ak.1, kid := ak.2, sig := ← s.asBytes }
  | _ => none

/-- A tagged COSE_Sign: the body's protected bytes, the payload, the signatures. -/
def readCoseSign (b : Bytes) : Option (Bytes × Bytes × List CoseSig) := do
  match ← readCbor b with
  | .tag 98 c =>
    match ← c.asArray with
    | [p, .map [], pay, .array sigs] =>
      let l ← sigs.mapM readSigner
      let pb ← p.asBytes
      if bodyProtOk pb then some (pb, ← pay.asBytes, l) else none
    | _ => none
  | _ => none

/-- A tagged COSE_Sign1: its one signature with alg and kid, and the payload (log entry 119). -/
def readCoseSign1 (b : Bytes) : Option (Bytes × CoseSig) := do
  match ← readCbor b with
  | .tag 18 c =>
    match ← c.asArray with
    | [p, .map [], pay, s] =>
      let pb ← p.asBytes
      let ak ← readProt pb
      some (← pay.asBytes, { prot := pb, alg := ak.1, kid := ak.2, sig := ← s.asBytes })
    | _ => none
  | _ => none

end Sys2Proof
end

