-- ==== Sys2Proof/Machine/Psd.lean ====
section
/-! DEFINITION. Chapter 10: the Platform State Digest, the Configuration Epoch Digest and the commands that read them;
with the service state of chapter 16 that the digest carries. -/
namespace Sys2Proof.Machine

/-! ### The service state (R506, Table 16-3) -/

/-- SERVICE_STATE. -/
def State.serviceState (s : State) : Nat :=
  let n := s.serviceLanes.length
  b2n (s.boot.bundleIn && decide (n < 16)) + 2 * b2n (s.boot.bundleIn && n == 0) +
  4 * b2n (s.bde.lanes.any (fun p => p.2.outOfService)) + (s.spn.service &&& 0x78)

/-- s with one of the service bits 3 to 6 set or cleared. -/
def State.setService (s : State) (bit : Nat) (v : Bool) : State :=
  { s with spn := { s.spn with service := putBit s.spn.service bit v } }

/-- A change of SERVICE_STATE since a state sets CHANGE_HIT and writes a record with the old and new byte (R506). -/
def State.noteService (old s : State) : State :=
  let s := if old.serviceState = s.serviceState ∧ old.serviceLanes.length = s.serviceLanes.length then s else s.stirPsd 0x040
  if old.serviceState = s.serviceState then s
  else
    let s := { s with spn := { s.spn with changeHit := true } }
    s.log .guard 0x0F06 3 0 0 { value := old.serviceState + 256 * s.serviceState }

/-! ### The preimage (Tables 10-7 and 10-8) -/

/-- The value of an SFDP result (Table 4-16). -/
def Sfdp.code : Sfdp → Nat
  | .notChecked => 0
  | .matches => 1
  | .mismatch => 2
  | .noResponse => 3

/-- Some port has not yet swapped to the committed epoch (R170). -/
def State.swapping (s : State) : Bool := (List.range 16).any (fun p => (s.port p).swapPending)

/-- FLAGS of the preimage. -/
def State.psdFlags (s : State) : Nat :=
  b2n s.quenched + 2 * b2n s.cru.granted + 4 * b2n s.swapping + 8 * b2n (!s.rfu.resuming.isEmpty) +
  16 * b2n (s.boot.reached && s.image.isNone) + 32 * b2n s.pol.fallback

/-- Slot n carries RESUMING (R395). -/
def State.isResuming (s : State) (n : Nat) : Bool := s.rfu.resuming.contains n

/-- TAMPER_TRIPPED: bit i for a source tripped and not cleared. -/
def State.trippedMask (s : State) : Nat :=
  (List.range 32).foldl (fun a i => if (s.source i).tripped then setBit a i else a) 0

/-- The running Warden image's header (Table 2-4). -/
def State.wardenHeader (s : State) : Bytes := slice s.boot.runHeader 0 0x50

/-- DEVICE_STATE (Table 10-8). -/
def State.deviceState (s : State) : Bytes :=
  fixLen 64 (le 1 s.cru.lcState ++ le 1 s.cru.debugLevel ++ le 1 s.boot.wardenSrc ++ le 1 s.serviceState ++
    le 8 (if s.cru.granted then s.cru.grantId else 0) ++ le 4 s.trippedMask ++ le 2 s.evidence ++
    le 1 s.serviceLanes.length ++ [0] ++ le 2 (fld s.wardenHeader 8 2) ++ le 2 s.hma.bundleSvn ++
    le 1 (s.arb 0) ++ le 1 (s.arb 1) ++ le 1 (s.arb 2) ++ le 1 (s.arb 3) ++ le 4 s.boot.fwVersion ++ le 4 (fld s.atr.cedPre 8 4))

/-- A DEVk byte of a port entry. -/
def State.portDevByte (s : State) (d : Nat) : Nat :=
  let x := (s.port (d / 2)).dev (d % 2)
  b2n (s.deviceSlot d).isSome + 2 * b2n x.resync + 4 * x.sfdp.code

/-- The entry of port p. -/
def State.portEntry (s : State) (p : Nat) : Bytes :=
  le 4 (s.port p).bank.epoch ++ le 1 (b2n ((s.port p).mode == .frozen)) ++ le 1 (s.portDevByte (2 * p)) ++
  le 1 (s.portDevByte (2 * p + 1)) ++ [0]

/-- The byte of slot n. -/
def State.slotByte (s : State) (n : Nat) : Byte :=
  let x := s.slot n
  byte (x.state.code + 8 * b2n x.checked + 16 * b2n (s.isResuming n))

/-- What FIT holds of device d. -/
def State.flashRec (s : State) (d : Nat) : FlashRec := s.fit.recs.get d {}

/-- The scans of device d that run, and those that wait for windows (R230). -/
def State.scanActive (s : State) (d : Nat) : Bool := s.fit.scans.any (fun x => x.device == d && x.running)
/-- A scan of device d waits for windows: a background scan, or one of any kind on a FROZEN port, while a slot of its port is
RELEASED and no window is open for it (R230, R559). -/
def State.scanPending (s : State) (d : Nat) : Bool :=
  let x := s.port (d / 2)
  let open_ : Bool := match x.window with
    | some w => w.isOpen
    | none => false
  s.fit.scans.any (fun y => y.device == d && !(y.running && open_) &&
    (x.mode == .frozen || y.kind == .refresh || y.kind == .verify) &&
    (decide (s.spn.capStep < 4) || !(y.kind == .refresh || y.kind == .verify))) && s.portReleased (d / 2)

/-- A flash state record's first 72 bytes and the rest, with given flag bits 2 and 3 (Table 6-7). -/
def FlashRec.bytes (r : FlashRec) (d : Nat) (scanBits : Nat) : Bytes :=
  fixLen 32 r.flashRoot ++ fixLen 32 r.checkRoot ++ le 2 r.staleCount ++ le 2 r.unknownCount ++ le 2 r.erasedCount ++
  le 1 (b2n r.checkMatch + 2 * b2n r.mismatchSeen + scanBits) ++ le 1 d ++ le 8 r.oldestStale ++ le 8 r.updateDmt ++
  le 4 r.epoch ++ zeros 4

/-- The entry of device d: 80 zero bytes for an unbound device. -/
def State.deviceEntry (s : State) (d : Nat) : Bytes :=
  if (s.deviceSlot d).isSome then fixLen 80 ((s.flashRec d).bytes d 0) else zeros 80

/-- The PSD preimage of a generation over the live state (Table 10-7). -/
def State.psdPreimage (s : State) (gen : Nat) : Bytes :=
  ascii "VPSD" ++ le 2 1 ++ le 2 s.psdFlags ++ le 8 gen ++ fixLen 48 s.atr.ced ++ s.deviceState ++
  (List.range 16).flatMap s.portEntry ++ (List.range 256).map s.slotByte ++ (List.range 32).flatMap s.deviceEntry

/-- The fields of the preimage that are patched whole: offset and length (log entry 14). -/
def psdFields : List (Nat × Nat) :=
  [(0x006, 2), (0x010, 48), (0x040, 64)] ++ (List.range 16).map (fun p => (0x080 + 8 * p, 8)) ++
  (List.range 4).map (fun i => (0x100 + 64 * i, 64)) ++ (List.range 32).map (fun d => (0x200 + 80 * d, 80))

/-- The change records of one generation (R365): the fields that differ, and those that have changed, whatever they hold now (R88,
R362). -/
def psdPatches (gen dmt : Nat) (old new : Bytes) (moved : List Nat) : List PsdChange :=
  let l := (psdFields.filter (fun f =>
      slice old f.1 f.2 != slice new f.1 f.2 || moved.contains f.1)).map (fun f =>
    ({ gen := gen, dmt := dmt, offset := f.1, data := slice new f.1 f.2 } : PsdChange))
  (l.zip (List.range l.length)).map (fun p => { p.1 with isLast := p.2 + 1 == l.length })

/-- The ring of 4,096 records after more are appended, and the lowest generation whose records it holds in full. -/
def appendHistory (ring add : List PsdChange) (oldest : Nat) : List PsdChange × Nat :=
  let all := ring ++ add
  let lost := all.length - 4096
  let kept := all.drop lost
  let lowest := match kept.head? with
    | none => 0
    | some r => if (all.take lost).any (fun x => x.gen == r.gen) then r.gen + 1 else r.gen
  (kept, if ring.isEmpty ∨ 0 < lost then lowest else oldest)

/-- The offsets of the fields that have changed since the last generation, whatever they hold now. -/
def State.psdMoved (s : State) : List Nat :=
  s.atr.moved ++ ((List.range 16).filter (fun p => (s.port p).stirs != s.atr.portSeen.getD p 0)).map (fun p => 0x080 + 8 * p) ++
  ((List.range 32).filter (fun d => (s.flashRec d).stirs != s.atr.recSeen.getD d 0)).map (fun d => 0x200 + 80 * d)

/-- A recomputation is due: a field has changed since the last generation, or the live preimage differs from that one's
(R88, R362). -/
def State.psdPending (s : State) : Bool := !s.psdMoved.isEmpty || s.psdPreimage s.atr.gen != s.atr.preimage

/-- The next generation is computed (R362, R365). -/
def State.recompute (s : State) : State :=
  if s.psdPending then
    let g := s.atr.gen + 1 + s.atr.skip
    let p := s.psdPreimage g
    let r := appendHistory s.atr.history (psdPatches g s.now s.atr.preimage p s.psdMoved) s.atr.oldestGen
    { s with atr := { s.atr with gen := g, skip := 0, preimage := p, psd := sha384 p, moved := [],
                                 portSeen := (List.range 16).map (fun p => (s.port p).stirs),
                                 recSeen := (List.range 32).map (fun d => (s.flashRec d).stirs), history := r.1, oldestGen := r.2 } }
  else s

/-- PSD_RECOMPUTATION (R362). -/
def execPsdRecomputation (s : State) : Res := if s.boot.forgeUp then .next s.recompute else .next s

/-! ### The Configuration Epoch Digest (R367, R368) -/

/-- An owner key slot entry's 2,048 bytes (Table 12-9). -/
def OwnerKey.bytes (k : OwnerKey) : Bytes :=
  le 1 k.state ++ le 1 k.alg ++ le 1 k.uses ++ [0] ++ le 2 k.key.length ++ [0, 0] ++ fixLen 2040 k.key

/-- Owner key slot i. -/
def OwnerTable.slot (t : OwnerTable) (i : Nat) : OwnerKey := t.keys.get i {}

/-- The owner key slot table's 32,768 bytes (R427). -/
def OwnerTable.bytes (t : OwnerTable) : Bytes := (List.range 16).flatMap (fun i => (t.slot i).bytes)

/-- FLOOR: 0 GUARANTEE, 1 REST (R521). -/
def State.floorSel (s : State) : Nat := fld (s.sec 0x40) 1 1

/-- The live configuration block with a cap and a floor (Table 10-11). -/
def State.liveBlockWith (s : State) (cap floor : Nat) : Bytes :=
  le 1 cap ++ le 1 floor ++ le 1 (b2n s.cru.table.cosign) ++ [0] ++ le 4 (s.otpWord 112 % 2 ^ 32) ++
  sha384 s.cru.table.bytes ++ zeros 8

/-- The live configuration block with the values in force. -/
def State.liveBlock (s : State) : Bytes := s.liveBlockWith s.spn.capSetting s.floorSel

/-- CAP of an image's DEVICE section; 152 where it is absent (R521). -/
def Image.cap (i : Image) : Nat := if (i.sec 0x40).isEmpty then 152 else fld (i.sec 0x40) 0 1

/-- The CED preimage of an image, but for its LIVE_DIGEST (Table 10-10). -/
def cedHead (img : Option Image) (epoch : Nat) : Bytes :=
  match img with
  | none => ascii "VCED" ++ le 2 1 ++ le 2 0 ++ le 4 0 ++ zeros 4 ++ zeros 48
  | some i =>
    ascii "VCED" ++ le 2 1 ++ le 2 i.sections.length ++ le 4 epoch ++ zeros 4 ++ sha384 i.header ++
    i.sections.flatMap (fun p => le 1 p.1 ++ zeros 3 ++ sha384 p.2)

/-- The CED current for attestation is formed again: the epoch stays the earlier one while ports are still swapping. -/
def State.refreshCed (s : State) : State :=
  let live := s.liveBlock
  let head := if s.swapping ∧ s.image.isSome ∧ !s.atr.cedPre.isEmpty then s.atr.cedPre.take (s.atr.cedPre.length - 48) else cedHead s.image s.pol.epoch
  let pre := head ++ sha384 live
  let s := if s.atr.cedPre = pre then s else s.stirPsd 0x010
  { s with atr := { s.atr with live := live, cedPre := pre, ced := sha384 pre } }

/-- CONFIG_EPOCH current for attestation (R170). -/
def State.configEpoch (s : State) : Nat := fld s.atr.cedPre 8 4

/-! ### Commands (Table 10-12) -/

/-- PSD_READ (R370). -/
def execPsdRead (h : Hdr) (hostAddr : Nat) (s : State) : Res :=
  .next (commandR (opPsdRead.on (le 8 hostAddr)) h (s.writeAddrOk h hostAddr) s fun _ t =>
    okOut hostAddr t.atr.preimage (le 8 t.atr.gen ++ t.atr.psd.take 16))

/-- A change record's 128 bytes (Table 10-9). -/
def PsdChange.bytes (r : PsdChange) : Bytes :=
  le 8 r.gen ++ le 8 r.dmt ++ le 2 r.offset ++ le 1 r.data.length ++ le 1 (b2n r.isLast) ++ zeros 4 ++ fixLen 96 r.data ++ zeros 8

/-- A run of records cut back to its last one with LAST set. -/
def cutToLast (l : List PsdChange) : List PsdChange := (l.reverse.dropWhile (fun r => !r.isLast)).reverse

/-- PSD_CHANGES (R366, R370). -/
def execPsdChanges (h : Hdr) (fromGen max hostAddr : Nat) (s : State) : Res :=
  .next (commandC (opPsdChanges.on (le 8 fromGen ++ le 2 max ++ zeros 6 ++ le 8 hostAddr)) h (decide (1 ≤ max ∧ max ≤ 4096) && s.writeAddrOk h hostAddr) s fun _ t =>
    if fromGen < t.atr.oldestGen then (err 0x0490, { t with atr := { t.atr with lostHit := true } })
    else
      let l := cutToLast ((t.atr.history.filter (fun r => decide (fromGen ≤ r.gen))).take max)
      let next := match l.getLast? with
        | some r => r.gen + 1
        | none => fromGen
      (okOut hostAddr (l.flatMap PsdChange.bytes) (le 2 l.length ++ zeros 6 ++ le 8 next), t))

/-- CONFIG_DIGEST (R370). -/
def execConfigDigest (h : Hdr) (which outSize hostAddr : Nat) (s : State) : Res :=
  .next (commandR (opConfigDigest.on (le 1 which ++ zeros 3 ++ le 4 outSize ++ le 8 hostAddr)) h (decide (which < 3) && s.writeAddrOk h hostAddr) s fun _ t =>
    if which = 1 ∧ t.staged.isNone then err 0x0440
    else
      let live := match which, t.staged with
        | 0, _ => t.atr.live
        | 1, some i => t.liveBlockWith i.cap (fld (i.sec 0x40) 1 1)
        | _, _ => t.liveBlock
      let pre := match which with
        | 0 => t.atr.cedPre
        | 1 => cedHead t.staged (t.pol.epoch + 1) ++ sha384 live
        | _ => cedHead t.image t.pol.epoch ++ sha384 live
      let out := sha384 pre ++ pre ++ live
      if outSize < out.length then err 0x0370 else okOut hostAddr out (le 4 out.length))

end Sys2Proof.Machine
end

