-- ==== Sys2Proof/Machine/LifeCycle.lean ====
section
/-! DEFINITION. Chapter 12's shared operations: the life-cycle state, keys and their ladder, owner key slots, and
authorisation statements. -/
namespace Sys2Proof.Machine

/-! ### Algorithm numbers that the model gives the functions of Config -/

/-- ECDSA P-384. -/
def algP384 : Nat := 1
/-- ECDSA P-256. -/
def algP256 : Nat := 2
/-- Ed25519. -/
def algEd : Nat := 3
/-- ML-DSA-65. -/
def algPq : Nat := 5
/-- LMS. -/
def algLms : Nat := 6
/-- RSA-3072. -/
def algRsa : Nat := 7

/-- SHAKE256 with a 64-byte output. -/
def shake512 (b : Bytes) : Bytes := fixLen 64 (Config.hash 5 b 64)

/-- What an operation of an algorithm takes of a message m: ECDSA and RSA its digest, ML-DSA the external μ over the public
key's hash and an empty context, Ed25519 and LMS the message itself (R321, Table 7-2). -/
def signInput (alg : Nat) (pub m : Bytes) : Bytes :=
  if alg = algP384 ∨ alg = algRsa then sha384 m
  else if alg = algP256 then sha256 m
  else if alg = algPq then shake512 (shake512 pub ++ [0, 0] ++ m)
  else m

/-- A signature of a message verifies under a public key. -/
def verifies (alg : Nat) (key m sig : Bytes) : Bool := Config.verify alg key (signInput alg key m) sig

/-- The signature of n bytes of a message by a private key, whose public key is pub. -/
def signature (alg : Nat) (key pub m : Bytes) (draw n : Nat) : Bytes := fixLen n (Config.sign alg key (signInput alg pub m) draw)

/-! ### Life-cycle states (R412, R413) -/

/-- The codeword of a state (Table 12-1). -/
def codeword (state : Nat) : Nat :=
  match state with
  | 0 => 0
  | 1 => 0x000000000000A5A5
  | 2 => 0x000000005A5AA5A5
  | 3 => 0x0000C3C35A5AA5A5
  | 4 => 0x3C3CC3C35A5AA5A5
  | 5 => 0x3C3CC3C35A5AFFFF
  | _ => 0xFFFFFFFFFFFFFFFF

/-- The state whose codeword a copy equals. -/
def stateOf (w : Nat) : Option Nat := (List.range 7).find? (fun k => codeword k == w)

/-- A copy lies between the codewords of states a and b: every bit of the first and none outside the second. -/
def between (w a b : Nat) : Bool := (w &&& codeword a) == codeword a && (w ||| codeword b) == codeword b

/-- The candidate of step 1 of R413. -/
def candidate (c : List Nat) : Option Nat :=
  match (List.range 7).find? (fun k => decide (2 ≤ (c.filter (fun w => w == codeword k)).length)) with
  | some k => some k
  | none =>
    match (c.filterMap stateOf).max? with
    | none => none
    | some k =>
      let rest := c.erase (codeword k)
      if rest.all (fun w => (List.range 7).any (fun j => decide (k < j) && between w k j)) then some k else none

/-- The life-cycle state, and the record whose codeword blow the first stage has to finish (R413). -/
def State.decodeLc (s : State) : Nat × Option Nat :=
  let c := [s.otpWord 0, s.otpWord 1, s.otpWord 2]
  match candidate c with
  | none => (6, none)
  | some k =>
    let plain := if c.all (fun w => w == codeword k) then (k, none) else (6, none)
    match s.newestRecord with
    | none => plain
    | some i =>
      let r := s.otpWord (4 + i)
      match recordTarget r with
      | some t => if !twoBits r 60 ∧ k ≤ t ∧ c.all (fun w => between w k t) then (t, some i) else plain
      | none => plain

/-- The three codeword copies are blown up to a state, A, then B, then C, and the record's CODEWORD_DONE after them
(Table 12-5). -/
def State.blowCodeword (s : State) (target rec_ : Nat) : State :=
  ((((s.blow 0 (codeword target)).blow 1 (codeword target)).blow 2 (codeword target)).blow (4 + rec_) (3 * 2 ^ 60))

/-- The intent point: the three TARGET fields of a record are blown (Table 12-5). -/
def State.blowIntent (s : State) (target rec_ : Nat) : State :=
  s.blow (4 + rec_) (put 0 3 target + put 8 3 target + put 16 3 target)

/-- The next free record; record 63 only for SCRAPPED (R415). -/
def State.nextRecord (s : State) (target : Nat) : Option Nat :=
  ((List.range 64).find? (fun i => recordFree (s.otpWord (4 + i)))).bind (fun i => if i = 63 ∧ target ≠ 6 then none else some i)

/-! ### Keys (R347, R431) -/

/-- The UDS (Table 12-2); its words taken as little-endian bytes (log entry 15). -/
def State.uds (s : State) : Bytes := (List.range 6).flatMap (fun i => le 8 (s.otpWord (68 + i)))

/-- A digest held in six OTP words (Table 12-2). -/
def State.otpDigest (s : State) (w : Nat) : Bytes := (List.range 6).flatMap (fun i => le 8 (s.otpWord (w + i)))

/-- The first n bytes of output of the counter-mode KDF of R347, whose PRF is HMAC-SHA-384. -/
def kdf (key : Bytes) (label : String) (context : Bytes) (n : Nat) : Bytes :=
  fixLen n ((List.range ((n + 47) / 48)).flatMap (fun i =>
    hmac384 key (be 4 (i + 1) ++ ascii label ++ [0] ++ context ++ be 4 (8 * n))))

/-- An ECDSA private key from KDF output of bitlen(n) + 64 bits (FIPS 186-5, appendix A.2.1), in w bytes, most significant
first. -/
def ecdsaKey (curve : Nat × Nat × Nat) (w : Nat) (c : Bytes) : Bytes := be w (beNat c % (curve.2.1 - 1) + 1)

/-- CDI_0 (Table 10-1). -/
def State.cdi0 (s : State) : Bytes := kdf s.uds "VG-CDI0" s.atr.fspDigest 48

/-- CDI_0 is taken into the key ladder, which keeps it for CDI_1 alone (R347, log entry 59). -/
def State.openLadder (s : State) : State := { s with cru := { s.cru with ladder := s.cdi0 } }

/-- The DeviceID key is derived (Table 10-1). -/
def State.deriveDeviceId (s : State) : State :=
  let k := ecdsaKey p384 48 (kdf s.cdi0 "VG-DEVID" [] 56)
  { s with cru := { s.cru with store := { s.cru.store with deviceId := k },
                               pubs := { s.cru.pubs with deviceId := Config.publicKey algP384 k } } }

/-- The Alias key is derived from the firmware's measurements, and the key ladder's CDI_0 is erased (Table 10-1, R347). -/
def State.deriveAttKey (s : State) : State :=
  if s.cru.ladder.isEmpty then s else
  let cdi1 := kdf s.cru.ladder "VG-CDI1" (s.atr.wardenMeas ++ s.atr.bundleMeas ++ le 1 s.cru.lcState ++ le 1 s.boot.debugAtStart) 48
  let k := ecdsaKey p384 48 (kdf cdi1 "VG-ALIAS" [] 56)
  { s with cru := { s.cru with ladder := [], store := { s.cru.store with attKey := k },
                               pubs := { s.cru.pubs with attKey := Config.publicKey algP384 k } } }

/-- The owner-derived keys (Table 10-1, R427). -/
def State.deriveOwnerKeys (s : State) : State :=
  let o := kdf s.cdi0 "VG-OWNER" (le 1 s.cru.lcState ++ le 1 s.ownershipCount) 48
  let k384 := ecdsaKey p384 48 (kdf o "VG-RCPT-384" [] 56)
  let k256 := ecdsaKey p256 32 (kdf o "VG-RCPT-256" [] 40)
  let kEd := kdf o "VG-RCPT-ED" [] 32
  let kPq := kdf o "VG-RCPT-MLDSA" [] 32
  let kM := ecdsaKey p384 48 (kdf o "VG-METER" [] 56)
  { s with cru := { s.cru with
      store := { s.cru.store with receipt384 := k384, receipt256 := k256, receiptEd := kEd, receiptPq := kPq, metering := kM,
                                  tableMac := kdf o "VG-OKT" [] 48 },
                    pubs := { s.cru.pubs with receipt384 := Config.publicKey algP384 k384, receipt256 := Config.publicKey algP256 k256,
                                              receiptEd := Config.publicKey algEd kEd, receiptPq := Config.publicKey algPq kPq,
                                              metering := Config.publicKey algP384 kM } } }

/-- The signing keys are erased: Alias, receipt and metering (R436, R457). -/
def State.eraseSigningKeys (s : State) : State :=
  { s with cru := { s.cru with store := { s.cru.store with attKey := [], receipt384 := [], receipt256 := [], receiptEd := [],
                                                           receiptPq := [], metering := [] } } }

/-! ### Owner key slots (R427, R428) -/

/-- The MAC of a table under the owner table MAC key. -/
def State.tableMac (s : State) (t : OwnerTable) : Bytes := hmac384 s.cru.store.tableMac t.bytes

/-- The table and its options are written to both MRAM copies, one after the other (R430). -/
def State.writeTable (s : State) (t : OwnerTable) : State :=
  let t := { t with mac := s.tableMac t }
  { s with cru := { s.cru with tableA := t, tableB := t, table := t } }

/-- An ACTIVE slot with a use (bit number of USES). -/
def OwnerTable.activeWith (t : OwnerTable) (i use : Nat) : Bool :=
  let k := t.slot i
  decide (i < 16) && k.state == 1 && k.uses.testBit use

/-- The slots that are ACTIVE with a use. -/
def OwnerTable.slotsWith (t : OwnerTable) (use : Nat) : List Nat := (List.range 16).filter (fun i => t.activeWith i use)

/-! ### Authorisation statements (R424 to R426) -/

/-- A statement (Table 12-7). -/
structure Statement where
  purpose : Nat := 0
  device : Bytes := []
  nonce : Bytes := []
  level : Nat := 0
  newKey : Bytes := []
  slot : Nat := 0
  uses : Nat := 0
  ydasKey : Bytes := []
  options : Nat := 0
  flags : Nat := 0
  bodyProt : Bytes := []
  payload : Bytes := []
  sigs : List CoseSig := []
  deriving DecidableEq, Repr

/-- The payload keys that a purpose needs besides 1 to 3 (Table 12-7). -/
def purposeKeys (p : Nat) : List Nat :=
  match p with
  | 1 => [5]
  | 2 => [5]
  | 5 => [4]
  | 6 => [5, 6, 7]
  | 7 => [6, 10]
  | 8 => [9]
  | _ => []

/-- The unsigned number under a key, 0 where it is absent. -/
def mapUint (m : List (Cbor × Cbor)) (k : Nat) : Option Nat :=
  match mapGet m k with
  | none => some 0
  | some c => c.asUint

/-- The byte string under a key, empty where it is absent. -/
def mapBytes (m : List (Cbor × Cbor)) (k : Nat) : Option Bytes :=
  match mapGet m k with
  | none => some []
  | some c => c.asBytes

/-- The lengths and ranges of a statement's fields (Table 12-7, R428). -/
def Statement.shapeOk (x : Statement) : Bool :=
  decide (1 ≤ x.purpose ∧ x.purpose ≤ 8) && decide (x.device.length = 48 ∧ x.nonce.length = 32) &&
  (match x.purpose with
   | 1 | 2 => decide (x.newKey.length = 97)
   | 5 => decide (3 ≤ x.level ∧ x.level ≤ 5)
   | 6 => decide (x.slot < 16 ∧ x.uses < 64) &&
     (decide (x.newKey.length = 97) || (decide (x.newKey.length = 1952) && x.uses == 1))
   | 7 => decide (x.slot < 16 ∧ x.flags < 2)
   | 8 => decide (x.options < 2)
   | _ => true) &&
  x.sigs.all (fun g => g.alg == -35 && decide (g.kid.length = 1))

/-- The statement that bytes spell; none when its structure, keys, lengths or encoding are wrong (check 1 of R426). -/
def readStatement (b : Bytes) : Option Statement := do
  if b.length = 0 ∨ 8192 < b.length then none
  let (prot, payload, sigs) ← readCoseSign b
  let c ← readCbor payload
  let m ← c.asMap
  let keys ← mapKeys m
  let p ← mapUint m 1
  let ydas := sigs.any (fun g => g.kid == [0xFF])
  let want := [1, 2, 3] ++ purposeKeys p ++ (if ydas then [8] else [])
  if !(keys.all want.contains && want.all keys.contains) then none
  let x : Statement :=
    { purpose := p, device := ← mapBytes m 2, nonce := ← mapBytes m 3, level := ← mapUint m 4, newKey := ← mapBytes m 5,
      slot := ← mapUint m 6, uses := ← mapUint m 7, ydasKey := ← mapBytes m 8, options := ← mapUint m 9, flags := ← mapUint m 10,
      bodyProt := prot, payload := payload, sigs := sigs }
  if x.shapeOk ∧ (!ydas ∨ x.ydasKey.length = 97) then some x else none

/-- A purpose is allowed in a life-cycle state (Tables 12-4 and 12-8, R436). -/
def purposeAllowed (purpose lc level : Nat) : Bool :=
  match purpose with
  | 1 => lc == 3
  | 2 => lc == 4
  | 3 => lc == 3 || lc == 4
  | 4 => lc == 3 || lc == 4 || lc == 5
  | 5 => lc == 3 || (lc == 4 && level != 5)
  | _ => lc == 4

/-- The signers of Table 12-8: whether YDAS signs, whether NEW_KEY signs, and the use that an owner slot must have. -/
def requiredSigners (purpose lc keyLen : Nat) : Bool × Bool × Option Nat :=
  match purpose with
  | 1 => (false, true, none)
  | 2 => (false, true, some 4)
  | 3 => (true, false, if lc = 4 then some 4 else none)
  | 4 => if lc = 4 then (false, false, some 4) else (true, false, none)
  | 5 => (true, false, if lc = 4 then some 3 else none)
  | 6 => (false, keyLen == 97, some 5)
  | _ => (false, false, some 5)

/-- The signers are exactly those of Table 12-8, each owner slot ACTIVE with the use, and YDAS_KEY as OTP has it
(check 4 of R426). -/
def State.signersOk (s : State) (x : Statement) : Bool :=
  let kids := x.sigs.map CoseSig.kid
  let (y, n, o) := requiredSigners x.purpose s.cru.lcState x.newKey.length
  let owners := kids.filterMap (fun k => match k with
    | [b] => if b.toNat < 16 then some b.toNat else none
    | _ => none)
  let others := kids.filter (fun k => match k with
    | [b] => decide (16 ≤ b.toNat)
    | _ => true)
  decide ((others.filter (· == [0xFF])).length = b2n y) && decide ((others.filter (· == [0xFE])).length = b2n n) &&
  decide (others.length = b2n y + b2n n) &&
  (match o with
   | none => owners.isEmpty
   | some use => decide (owners.length = 1) && owners.all (fun i => s.cru.table.activeWith i use)) &&
  (!y || sha384 x.ydasKey == s.otpDigest 86)

/-- The key and algorithm of a signer. -/
def State.signerKey (s : State) (x : Statement) (kid : Bytes) : Nat × Bytes :=
  match kid with
  | [b] =>
    if b.toNat = 0xFF then (algP384, x.ydasKey)
    else if b.toNat = 0xFE then (algP384, x.newKey)
    else (if (s.cru.table.slot b.toNat).alg = 2 then algPq else algP384, (s.cru.table.slot b.toNat).key)
  | _ => (algP384, [])

/-- A signature verifies (check 5 of R426). -/
def State.signatureOk (s : State) (x : Statement) (g : CoseSig) : Bool :=
  let k := s.signerKey x g.kid
  k.1 == algP384 && verifies k.1 k.2 (sigInput x.bodyProt g.prot x.payload) g.sig

/-- Each signature verifies (check 5 of R426). -/
def State.signaturesOk (s : State) (x : Statement) : Bool := x.sigs.all (s.signatureOk x)

/-- The outstanding challenge of a purpose (R423). -/
def State.challengeOf (s : State) (p : Nat) : Option Challenge :=
  match s.cru.challenges.get p {} with
  | c => if c.nonce.isEmpty ∨ c.expires ≤ s.now then none else some c

/-- The nonce of a purpose is consumed when a statement presents it. -/
def State.consumeNonce (s : State) (x : Statement) : State :=
  match s.challengeOf x.purpose with
  | some c => if c.nonce = x.nonce then { s with cru := { s.cru with challenges := s.cru.challenges.del x.purpose } } else s
  | none => s

/-- A byte string occurs in another. -/
def occursIn (x b : Bytes) : Bool := (List.range b.length).any (fun i => x.isPrefixOf (b.drop i))

/-- A statement that fails its first check consumes each outstanding nonce whose bytes stand in it (R423, R426): a DESIGN CHOICE for
where such a statement presents its nonce (log entry 124). -/
def State.consumeWithin (s : State) (b : Bytes) : State :=
  { s with cru := { s.cru with challenges := s.cru.challenges.filter (fun e => e.2.nonce.isEmpty || !occursIn e.2.nonce b) } }

/-- The status of the checks of R426 on a statement that the command accepts for some purposes; 0 when all pass. -/
def State.checkStatement (s : State) (accepts : Statement → Bool) (x : Statement) : Nat :=
  if !accepts x || !purposeAllowed x.purpose s.cru.lcState x.level then 0x04B0
  else if x.device ≠ s.deviceName ∨ (s.challengeOf x.purpose).map Challenge.nonce ≠ some x.nonce then 0x0591
  else if !s.signersOk x then 0x0590
  else if s.hammerUnavailable then 0x0360
  else if !s.signaturesOk x then 0x0590
  else 0

/-- A refused statement is logged and counted (R426). -/
def State.authRefused (s : State) (status : Nat) : State :=
  let s := { s with cru := { s.cru with authFails := satAdd 32 s.cru.authFails 1 } }
  s.log .control 0x0802 2 0 0 { cause := status }

/-- The checks of R426 with the signatures verified on lanes, as far as the checks before them let it come to that
(R259). -/
def State.judgeStatement (s : State) (accepts : Statement → Bool) (x : Statement) (verdicts : Nat) : Nat × State :=
  let st := s.checkStatement accepts x
  if st = 0 ∨ (st = 0x0590 ∧ s.signersOk x) then
    let r := s.decideAll verdicts 0 (x.sigs.map (fun g => (0x04, s.signatureOk x g)))
    (if r.1 then st else 0x0590, r.2)
  else (st, s)

/-- A statement is presented: the status of its checks, the statement, and the state with its nonce consumed. -/
def State.present (s : State) (b : Bytes) (verdicts : Nat) (accepts : Statement → Bool) : Nat × Statement × State :=
  match readStatement b with
  | none => (0x0592, {}, (s.consumeWithin b).authRefused 0x0592)
  | some x =>
    let r := s.judgeStatement accepts x verdicts
    let s := r.2.consumeNonce x
    (r.1, x, if r.1 = 0 then s else s.authRefused r.1)

/-! ### The wipe of a transition (R419, R420, Table 12-6) -/

/-- Wipe kinds by target and past ownership: 1 CLAIM, 2 TRANSFER, 3 RMA, 4 SCRAP, 0 a factory transition. -/
def State.wipeKind (s : State) (target : Nat) : Nat :=
  match target with
  | 4 => if s.ownershipCount ≤ 1 then 1 else 2
  | 5 => 3
  | 6 => 4
  | _ => 0

/-- The owner table that a wipe leaves: the new key in slot 0 for a CLAIM or TRANSFER (R428). -/
def wipedTable (kind : Nat) (newKey : Bytes) : OwnerTable :=
  if kind = 1 ∨ kind = 2 then { keys := [(0, { state := 1, alg := 1, uses := 0x3F, key := newKey })] } else {}

/-- Every bit of OTP words 68 to 1,023 is blown (R420). -/
def State.blowAll (s : State) : State := (List.range 956).foldl (fun t i => t.blow (68 + i) (2 ^ 64 - 1)) s

/-- The items that every wipe of an owned or field transition erases (Table 12-6), and what it clears: the quench latch, its
copy and its mirror (R460), each source's TRIPS (Table 13-10) and
the count of IWD expiries (Table 14-6). -/
def State.wipeCommon (s : State) (kind : Nat) : State :=
  let t := wipedTable kind s.cru.newKey
  { s with
    cru := { s.cru with tableA := t, tableB := t, table := t, cosignInForce := false, newKey := [], challenges := [],
                        store := { s.cru.store with attKey := [], receipt384 := [], receipt256 := [], receiptEd := [], receiptPq := [],
                                                    metering := [], tableMac := [] } }
    pol := { s.pol with slot0 := none, slot1 := none, writing := none, committed := none, loaded := false, fallback := false, epoch := 0 }
    rfg := { s.rfg with counts := [], base := 0, period := none, records := [], newestClosed := 0, acked := 0, prev := [], building := [], quenchDue := false,
                        checkpoint := { psdGen := s.rfg.checkpoint.psdGen } }
    rfu := { s.rfu with journal := [], ops := [], resuming := [] }
    atr := { s.atr with slot1 := [], sessions := [] }
    wwu := { s.wwu with iwd := { s.wwu.iwd with expiries := 0 } }
    emb := { s.emb with tamperCopy := [], latch := false, latchCopy := false, mirror := false,
                        sources := s.emb.sources.map (fun p => (p.1, { p.2 with trips := 0 })) } }

/-- The state before a transition: the target of the last used record before its own; BLANK when there is none. -/
def State.stateBefore (s : State) (rec_ : Nat) : Nat :=
  (((List.range rec_).filterMap (fun i => recordTarget (s.otpWord (4 + i)))).filter (fun t => t != 0)).getLast?.getD 0

/-- The wipe of a transition, with WIPE_DONE blown after it (Table 12-5, step 5). -/
def State.wipe (s : State) (target rec_ : Nat) : State :=
  let kind := s.wipeKind target
  let old := s.stateBefore rec_
  let s := if kind = 0 then s else s.wipeCommon kind
  let s := if kind = 2 ∨ kind = 3 ∨ kind = 4 then
      { s with lgb := { s.lgb with records := [], staging := [], heldGuard := [], heldForge := [], window := [],
                                   nextSeq := if kind = 4 then 1 else s.lgb.nextSeq,
                                   ackedSeq := if kind = 4 then 0 else s.lgb.ackedSeq } }
    else s
  let s := if kind = 4 then
      { s with fit := { s.fit with wear := [], rings := [], wearLevel := [] }
               cby := { s.cby with lifeTable := [] }
               boot := { s.boot with copyA := {}, copyB := {} }
               rfg := { s.rfg with checkpoint := {} }
               atr := { s.atr with gen := 0 }
               emb := { s.emb with opSeconds := 0, mramOp := 0, mramDmt := 0, powerCycles := 0 } }.blowAll
    else s
  let s := (s.blow (4 + rec_) (3 * 2 ^ 62)).refreshCed
  { s with boot := { s.boot with lcWipeDone := true },
           cru := { s.cru with lcRecord := some (old, target, rec_), awaitPowerCycle := decide (1 ≤ kind ∧ kind ≤ 3) } }

end Sys2Proof.Machine
end

