-- ==== Sys2Proof/Machine/Metering.lean ====
section
/-! DEFINITION. Chapter 9, metering: billing periods and their boundaries, closing and signing of records, the ring, and the
metering commands. -/
namespace Sys2Proof.Machine

/-! ### Boundaries (R335) -/

/-- The METERING section in force; DAILY with offset 0 where it is absent. -/
def State.meteringCfg (s : State) : Bytes := if (s.sec 0x22).isEmpty then [1, 0, 0, 0, 0, 0, 0, 0] else s.sec 0x22

/-- The length of a period in ns, and the phase of its boundaries. -/
def periodStep (cfg : Bytes) : Int × Int :=
  match fld cfg 0 1 with
  | 0 => (3600 * 1000000000, 0)
  | 1 => (86400 * 1000000000, (fld cfg 4 2 : Int) * 60000000000)
  | _ => ((max 1 (fld cfg 2 2) : Nat) * 60000000000, 0)

/-- The boundary at or below a wall time. -/
def boundaryBelow (cfg : Bytes) (wall : Int) : Int :=
  let p := periodStep cfg
  p.2 + (wall - p.2) / p.1 * p.1

/-- The boundary after a wall time. -/
def boundaryAbove (cfg : Bytes) (wall : Int) : Int := boundaryBelow cfg wall + (periodStep cfg).1

/-! ### Counts (R334) -/

/-- A queue's counts of a period, without its next sequence number. -/
def QCount.ofPeriod (c : QCount) : QCount := { c with nextSeq := 0 }

/-- A queue's counts at the opening of a period. -/
def QCount.fresh (c : QCount) : QCount := { nextSeq := c.nextSeq }

/-- Every queue's counts at the opening of a period. -/
def freshCounts (l : Tab QCount) : Tab QCount := (l.map (fun p => (p.1, p.2.fresh))).filter (fun p => p.2 != {})

/-- The counts of the period with an identifier are changed for queue q: the open period, or one that has closed. -/
def State.countIn (s : State) (id q : Nat) (f : QCount → QCount) : State :=
  if (s.rfg.period.map Period.id) = some id then s.updCount q f
  else { s with rfg := { s.rfg with records := s.rfg.records.map (fun r =>
    if r.id = id ∧ r.record.isEmpty then { r with counts := r.counts.upd q {} f } else r) } }

/-- The receipts issued whose write to host memory has not begun: their completions are in line. -/
def State.unwritten (s : State) : List Issue :=
  ((s.cme.queues.flatMap (fun p => p.2.done)) ++ s.cme.mb0.done ++ s.cme.mb1.done ++ s.cme.sb0.done ++ s.cme.sb1.done ++
    s.cme.uart0.done).filterMap Completion.issue

/-- A receipt counted in a period has neither been written nor voided (R336). -/
def State.receiptsOpen (s : State) (id : Nat) : Bool :=
  s.rfg.building.any (fun b => b.period == id) || s.unwritten.any (fun i => i.period == id)

/-! ### Records (R341, R343, R344) -/

/-- The CBOR of a signed value. -/
def cborWall (w : Int) : Bytes := cborInt w

/-- One queue's array of key 13. -/
def queueArray (q : Nat) (c : QCount) : Bytes :=
  let span := c.span.getD (0, 0)
  cborArray 10 ++ ([q, c.issued, c.batches, c.batchDigests, c.voided, c.refused, c.pkOps, c.digestBytes, span.1, span.2] : List Nat).flatMap cborUint

/-- A period record's payload (Table 9-11). -/
def PeriodRec.payload (r : PeriodRec) (prev : Bytes) : Bytes :=
  let rows := (r.counts.map (fun p => (p.1, p.2.ofPeriod))).filter (fun p => p.2 != {})
  cborMap 13 ++ cborUint 1 ++ cborUint 1 ++ cborUint 2 ++ cborUint r.id ++ cborUint 3 ++ cborWall r.closed.startWall ++
  cborUint 4 ++ cborWall r.closed.endWall ++ cborUint 5 ++ cborUint r.closed.openEpoch ++ cborUint 6 ++ cborUint r.closeEpoch ++
  cborUint 7 ++ cborUint r.closed.openDmt ++ cborUint 8 ++ cborUint r.closeDmt ++ cborUint 9 ++ cborUint r.closed.flags ++
  cborUint 10 ++ cborBytes (fixLen 48 r.ced) ++ cborUint 11 ++ cborUint r.psdGen ++ cborUint 12 ++ cborBytes (fixLen 48 prev) ++
  cborUint 13 ++ cborArray rows.length ++ rows.flatMap (fun p => queueArray p.1 p.2)

/-- The protected header of a COSE algorithm and a kid (R320). -/
def coseProt (alg : Int) (kid : Bytes) : Bytes := cborMap 2 ++ cborUint 1 ++ cborInt alg ++ cborUint 4 ++ cborBytes kid

/-- The kid of a public key (R319). -/
def kidOf (pub : Bytes) : Bytes := (sha384 pub).take 8

/-- The bytes that a record takes in the ring: its own, or those that it will have. -/
def PeriodRec.size (r : PeriodRec) : Nat :=
  if r.record.isEmpty then (coseSign1 (zeros 14) (r.payload []) (zeros 96)).length else r.record.length

/-- The metering ring in bytes (R343). -/
def ringBytes : Nat := 448 * 1024

/-- The bytes of the records that may not be overwritten. -/
def Forge.unackedBytes (f : Forge) : Nat := ((f.records.filter (fun r => decide (f.acked < r.id))).map PeriodRec.size).foldl (· + ·) 0

/-- The oldest acknowledged records leave the ring until what is held fits. -/
def trimRing (acked : Nat) : Nat → List PeriodRec → List PeriodRec
  | 0, l => l
  | n + 1, l =>
    match l with
    | [] => []
    | r :: rest =>
      if ringBytes < (l.map PeriodRec.size).foldl (· + ·) 0 ∧ r.id ≤ acked then trimRing acked n rest else l

/-! ### Periods (R336 to R340) -/

/-- A period opens (R336, R337). -/
def State.openPeriod (s : State) (cfg : Bytes) (flags : Nat) : State :=
  let id := (s.rfg.newestClosed + 1) % 2 ^ 32
  let gap := if s.emb.dmtGap then 32 else 0
  let p : Period :=
    if s.emb.wallSet then
      { id := id, startWall := boundaryBelow cfg s.wall, endWall := boundaryAbove cfg s.wall, openEpoch := s.emb.epoch,
        openDmt := s.now, flags := flags ||| gap, anchored := true, cfg := cfg }
    else { id := id, openEpoch := s.emb.epoch, openDmt := s.now, flags := flags ||| gap ||| 256, cfg := cfg }
  { s with rfg := { s.rfg with period := some p } }

/-- The record that the open period would make now. -/
def State.periodRec (s : State) (p : Period) (flags : Nat) (forced : Bool) : PeriodRec :=
  let gap := if s.emb.dmtGap then 32 else 0
  let closed := { p with flags := p.flags ||| flags ||| gap, endWall := if forced then s.wall else p.endWall }
  { id := p.id, closed := closed, closeEpoch := s.emb.epoch, closeDmt := s.now, ced := s.atr.ced, psdGen := s.atr.gen,
    counts := (s.rfg.counts.map (fun c => (c.1, c.2.ofPeriod))).filter (fun c => c.2 != {}) }

/-- There is room for a record. -/
def State.ringRoom (s : State) (r : PeriodRec) : Bool := decide (s.rfg.unackedBytes + r.size ≤ ringBytes)

/-- A closing record finds no room: the period stays open, EXTENDED (R343). -/
def State.extendPeriod (s : State) (p : Period) (flags : Nat) : State :=
  if p.flags.testBit 4 then s
  else
    let s := { s with rfg := { s.rfg with period := some { p with flags := p.flags ||| 16 ||| flags }, extendHit := true } }
    let s := s.log .forge 0x0C01 2 0 0 { value := p.id }
    s.tellManagers 0x0C01 2

/-- The open period closes, and the next one opens (R336, R339, R340). A changed METERING section takes effect at a close
at END_WALL, once the device start has found which section is in force. -/
def State.closePeriod (s : State) (flags : Nat) : State :=
  match s.rfg.period with
  | none => s
  | some p =>
    let forced := flags.testBit 3
    let r := s.periodRec p flags forced
    if !s.ringRoom r then s.extendPeriod p (flags &&& 128)
    else
      let changed := s.boot.reached && !forced && !flags.testBit 7 && s.meteringCfg != p.cfg
      let s := { s with rfg := { s.rfg with
        records := s.rfg.records ++ [r], newestClosed := p.id, period := none,
                                 counts := freshCounts s.rfg.counts } }
      let s := s.openPeriod (if changed then s.meteringCfg else p.cfg) (if changed then 64 else 0)
      { s with rfg := { s.rfg with checkpoint := { s.rfg.checkpoint with counts := s.rfg.counts, base := s.rfg.base } } }

/-- A device that has no open period opens its first (R337). -/
def State.startPeriod_ (s : State) : State :=
  if s.rfg.period.isSome ∨ s.cru.awaitPowerCycle then s else s.openPeriod s.meteringCfg 0

/-- The forge makes the close that a quench asks of it (R344): the open period, flagged QUENCHED. -/
def State.closeQuenched (s : State) : State :=
  if s.rfg.quenchDue then { s with rfg := { s.rfg with quenchDue := false } }.closePeriod 128 else s

/-- The wall time has stepped (R337 to R339): an unanchored period is anchored; a backward step flags SETBACK, on a period that
it anchors as well; a forward step to END_WALL or beyond closes the period. -/
def State.meterStep (s : State) (backward : Bool) : State :=
  match s.rfg.period with
  | none => s
  | some p =>
    if !p.anchored then
      { s with rfg := { s.rfg with period := some { p with anchored := true, startWall := boundaryBelow p.cfg s.wall,
                                                            endWall := boundaryAbove p.cfg s.wall,
                                                            flags := p.flags ||| b2n backward } } }
    else if backward then { s with rfg := { s.rfg with period := some { p with flags := p.flags ||| 1 } } }
    else if p.endWall ≤ s.wall then s.closePeriod 2
    else s

/-- PERIOD_BOUNDARY (R336): the wall time has reached END_WALL. -/
def execPeriodBoundary (s : State) : Res :=
  match s.rfg.period with
  | none => .next s
  | some p => if s.boot.forgeUp ∧ s.emb.wallSet ∧ p.anchored ∧ p.endWall ≤ s.wall then .next (s.closePeriod 0) else .next s

/-! ### Signing of records (R336, R341, R344) -/

/-- An operation that signs the record of a period waits or runs. -/
def State.signingPeriod (s : State) (id : Nat) : Bool :=
  s.hma.waiting.any (fun o => o.req == .period id) ||
  (List.range 18).any (fun n => match (s.lane n).running with
    | some o => o.req == .period id
    | none => false)

/-- A finished record is kept, and the next record chains over it. -/
def State.keepRecord (s : State) (id : Nat) (record : Bytes) (unsigned : Bool) : State :=
  let rs := s.rfg.records.map (fun r => if r.id = id then { r with record := record, unsigned := unsigned } else r)
  { s with rfg := { s.rfg with records := trimRing s.rfg.acked rs.length rs, prev := sha384 record } }

/-- The signature of period record id has been made, or the record is kept unsigned after a quench (R344). A record
whose key is not held waits to be signed. -/
def State.finishPeriod (s : State) (id : Nat) : State :=
  match s.rfg.records.find? (fun r => r.id == id) with
  | none => s
  | some r =>
    let payload := r.payload s.rfg.prev
    if s.quenched then s.keepRecord id payload true
    else if s.cru.store.metering.isEmpty then s
    else
      let prot := coseProt (-35) (kidOf s.cru.pubs.metering)
      let sig := signature algP384 s.cru.store.metering [] (sig1Input prot payload) s.draws 96
      s.drawn.keepRecord id (coseSign1 prot payload sig) false

/-- PERIOD_RECORD_SIGN (R336): the oldest closed record whose receipts have all ended is signed, or kept unsigned
after a quench (R344); it waits while no metering key, no lane or no nonce is there. -/
def execPeriodRecordSign (s : State) : Res :=
  match s.rfg.records.find? (fun r => r.record.isEmpty) with
  | none => .next s
  | some r =>
    if !s.boot.forgeUp || s.receiptsOpen r.id || s.signingPeriod r.id then .next s
    else if s.quenched then .next (s.finishPeriod r.id)
    else if s.cru.store.metering.isEmpty || s.hammerUnavailable || !s.clusterDrbg then .next s
    else .next (s.submitOp { op := 0x02, cls := .system, req := .period r.id })

/-! ### Commands (Table 9-12) -/

/-- The queues whose entries a source is given. -/
def State.meteredQueues (s : State) (src : Src) : List Nat :=
  (List.range 4096).filter (fun q => match s.fnOf src with
    | some fn => (s.grant q).fn == fn
    | none => (s.grant q).fn != 0xFF)

/-- A queue's entry of METER_STATUS. -/
def QCount.entry (c : QCount) (q : Nat) : Bytes :=
  let span := c.span.getD (0, 0)
  le 2 q ++ zeros 2 ++ le 4 (min c.voided 0xFFFFFFFF) ++ le 8 c.issued ++ le 8 c.batches ++ le 8 c.batchDigests ++
  le 4 (min c.refused 0xFFFFFFFF) ++ le 4 (min c.pkOps 0xFFFFFFFF) ++ le 8 span.1 ++ le 8 span.2 ++ le 8 c.digestBytes

/-- The header of METER_STATUS. -/
def State.meterHeader (s : State) : Bytes :=
  let p := s.rfg.period.getD {}
  le 4 p.id ++ le 2 p.flags ++ zeros 2 ++ le 8 (ofSigned 64 p.startWall) ++ le 8 (ofSigned 64 p.endWall) ++ le 8 p.openDmt ++
  le 2 p.openEpoch ++ zeros 6 ++ le 4 ((s.rfg.records.head?.map PeriodRec.id).getD 0) ++ le 4 s.rfg.newestClosed ++ le 4 s.rfg.acked ++
  le 4 (ringBytes - s.rfg.unackedBytes) ++ zeros 8

/-- METER_STATUS. -/
def execMeterStatus (h : Hdr) (hostAddr : Nat) (s : State) : Res :=
  .next (commandR (opMeterStatus.on (le 8 hostAddr)) h (s.writeAddrOk h hostAddr) s fun h t =>
    let qs := t.meteredQueues h.src
    okOut hostAddr (t.meterHeader ++ qs.flatMap (fun q => (t.rfg.counts.get q {}).entry q)) (le 2 qs.length))

/-- METER_RECORD. -/
def execMeterRecord (h : Hdr) (periodId outSize hostAddr : Nat) (s : State) : Res :=
  .next (commandR (opMeterRecord.on (le 4 periodId ++ le 4 outSize ++ le 8 hostAddr)) h (s.writeAddrOk h hostAddr) s fun _ t =>
    if (t.rfg.period.map Period.id) = some periodId then err 0x0481
    else match t.rfg.records.find? (fun r => r.id == periodId && !r.record.isEmpty) with
      | none => err 0x0480
      | some r =>
        if outSize < r.record.length then err 0x0370
        else if r.unsigned ∧ t.quenched then { okOut hostAddr r.record (le 4 r.record.length) with status := 0x0470 }
        else okOut hostAddr r.record (le 4 r.record.length))

/-- METER_ACK: an extended period closes at the first boundary after it made room (R343). -/
def execMeterAck (h : Hdr) (periodId : Nat) (s : State) : Res :=
  .next (commandC (opMeterAck.on (le 4 periodId)) h true s fun _ t =>
    if t.rfg.newestClosed < periodId then (err 0x0480, t)
    else
      let t := { t with rfg := { t.rfg with acked := max t.rfg.acked periodId } }
      match t.rfg.period with
      | some p =>
        if p.flags.testBit 4 ∧ p.anchored ∧ t.emb.wallSet ∧ p.endWall ≤ t.wall ∧ t.ringRoom (t.periodRec p 0 false) then
          (ok, { t with rfg := { t.rfg with period := some { p with endWall := boundaryAbove p.cfg t.wall } } })
        else (ok, t)
      | none => (ok, t))

/-- METER_CLOSE: where the closing record finds no room, the period is still open (R343). -/
def execMeterClose (h : Hdr) (s : State) : Res :=
  .next (commandC opMeterClose h true s fun _ t =>
    let u := t.closePeriod 8
    if u.rfg.newestClosed = t.rfg.newestClosed then (err 0x0481, u) else (ok (le 4 u.rfg.newestClosed), u))

end Sys2Proof.Machine
end

