-- ==== Sys2Proof/Machine/Entry.lean ====
section
/-! DEFINITION. The submission entry (Table 8-9): its header, and which of its parameter bytes are unused for each
opcode, packed as R551 gives. -/
namespace Sys2Proof.Machine

/-- Every opcode of Table 18-2. -/
def allOps : List Op :=
  [opSessionNegotiate, opCapabilities, opEcho, opSlotStatus, opSlotHold, opSlotRelease,
   opSlotRecover, opSlotUnquarantine, opBusRestore, opPolicyStage, opPolicyCommit, opPolicyDiscard,
   opPolicyStatus, opViolationCounts, opViolationReset, opPortStatus, opPortIdleWindow, opMeasureStatus,
   opLeafRead, opMeasureScan, opWearRead, opWearForecast, opWearReset, opDigestOpen,
   opDigestUpdate, opDigestFinish, opDigestClose, opPkOp, opHammerStatus, opHammerLaneTest,
   opReceiptSign, opReceiptBatch, opReceiptKeys, opPsdRead, opPsdChanges, opConfigDigest,
   opIdentityCerts, opIdentityCertInstall, opRecoverStatus, opRecoverStage, opRecoverData, opRecoverFull,
   opRecoverAbort, opRecoverArbAdvance, opCartStatus, opCartCatalogue, opCartLife, opCartEject,
   opCartRescan, opLcStatus, opCruChallenge, opLcTransition, opOwnerKeysRead, opOwnerKeyChange,
   opDebugGrant, opDebugEnd, opFwStage, opFwActivate, opFwStatus, opFwArbAdvance,
   opRngRead, opOtpRead, opTimeRead, opTimeSet, opWind, opWatchdogStatus,
   opWatchdogArm, opTamperStatus, opTamperClear, opTamperTest, opTamperFix, opLogStatus,
   opLogRead, opLogAck, opLogClear, opMeterStatus, opMeterRecord, opMeterAck,
   opMeterClose, opFaultStatus, opPowerCapSet, opPowerStatus]

/-- The opcode with a code; none when no command has it (check 1 of R289). -/
def opOf (code : Nat) : Option Op := allOps.find? (fun o => o.code == code)

/-- The bytes from offset 16 that each command leaves unused, as runs of offset and length. -/
def unusedRuns (code : Nat) : List (Nat × Nat) :=
  match code with
  | 0x0000 => [(18, 2), (26, 38)]
  | 0x0001 => [(24, 40)]
  | 0x0002 => [(24, 40)]
  | 0x0100 => [(18, 2), (28, 36)]
  | 0x0101 => [(17, 47)]
  | 0x0102 => [(17, 47)]
  | 0x0103 => [(17, 47)]
  | 0x0104 => [(17, 47)]
  | 0x0105 => [(17, 47)]
  | 0x0200 => [(16, 4), (32, 32)]
  | 0x0201 => [(17, 3), (28, 36)]
  | 0x0202 => [(24, 40)]
  | 0x0203 => [(24, 40)]
  | 0x0210 => [(28, 36)]
  | 0x0211 => [(18, 46)]
  | 0x0220 => [(17, 3), (28, 36)]
  | 0x0221 => [(17, 3), (24, 40)]
  | 0x0300 => [(18, 2), (28, 36)]
  | 0x0301 => [(17, 1), (22, 2), (32, 32)]
  | 0x0302 => [(22, 42)]
  | 0x0303 => [(17, 1), (22, 2), (32, 32)]
  | 0x0304 => [(17, 3), (28, 36)]
  | 0x0305 => [(17, 47)]
  | 0x0310 => [(28, 36)]
  | 0x0311 => [(20, 4), (32, 32)]
  | 0x0312 => [(19, 5), (32, 32)]
  | 0x0313 => [(18, 46)]
  | 0x0320 => [(17, 3), (32, 32)]
  | 0x0321 => [(24, 40)]
  | 0x0322 => [(17, 47)]
  | 0x0400 => [(19, 1), (40, 24)]
  | 0x0401 => [(19, 1), (22, 2), (28, 4), (48, 16)]
  | 0x0402 => [(24, 40)]
  | 0x0500 => [(24, 40)]
  | 0x0501 => [(26, 6), (40, 24)]
  | 0x0502 => [(17, 3), (32, 32)]
  | 0x0503 => [(17, 3), (32, 32)]
  | 0x0504 => [(20, 4), (32, 32)]
  | 0x0600 => [(24, 40)]
  | 0x0601 => [(18, 2), (32, 32)]
  | 0x0602 => [(17, 1), (22, 2), (32, 32)]
  | 0x0603 => [(17, 47)]
  | 0x0604 => [(17, 47)]
  | 0x0605 => [(17, 47)]
  | 0x0700 => [(24, 40)]
  | 0x0701 => [(17, 3), (32, 32)]
  | 0x0702 => [(24, 40)]
  | 0x0703 => [(17, 47)]
  | 0x0704 => [(17, 47)]
  | 0x0800 => [(16, 48)]
  | 0x0801 => [(17, 47)]
  | 0x0802 => [(17, 3), (32, 32)]
  | 0x0810 => [(24, 40)]
  | 0x0811 => [(16, 4), (32, 32)]
  | 0x0820 => [(16, 4), (32, 32)]
  | 0x0821 => [(16, 48)]
  | 0x0830 => [(18, 2), (32, 32)]
  | 0x0831 => [(18, 46)]
  | 0x0832 => [(16, 48)]
  | 0x0833 => [(19, 45)]
  | 0x0840 => [(20, 4), (32, 32)]
  | 0x0841 => [(20, 4), (32, 32)]
  | 0x0900 => [(16, 48)]
  | 0x0901 => [(34, 30)]
  | 0x0910 => [(24, 40)]
  | 0x0911 => [(18, 2), (28, 36)]
  | 0x0912 => [(18, 46)]
  | 0x0A00 => [(24, 40)]
  | 0x0A01 => [(20, 44)]
  | 0x0A02 => [(17, 47)]
  | 0x0A03 => [(20, 44)]
  | 0x0B00 => [(24, 40)]
  | 0x0B01 => [(27, 5), (40, 24)]
  | 0x0B02 => [(24, 40)]
  | 0x0B03 => [(24, 40)]
  | 0x0C00 => [(24, 40)]
  | 0x0C01 => [(32, 32)]
  | 0x0C02 => [(20, 44)]
  | 0x0C03 => [(16, 48)]
  | 0x0F00 => [(24, 40)]
  | 0x0F10 => [(17, 47)]
  | 0x0F11 => [(16, 48)]
  | _ => []

/-- The header of a submission entry; its reserved part is 0 when every reserved and unused byte and bit is. -/
def hdrOf (src : Src) (entry : Bytes) : Hdr :=
  let flags := fld entry 4 1
  let unused := (unusedRuns (fld entry 0 2)).any (fun p => !allZero (slice entry p.1 p.2))
  { src := src, cid := fld entry 2 2, fence := flags.testBit 0, noInt := flags.testBit 1, resultAddr := fld entry 8 8,
    reserved := if decide (flags < 4) && allZero (slice entry 5 3) && !unused then 0 else 1 }

/-- A 64-byte entry reaches the Command Engine from a source: it joins the commands in flight, and the admission checks
that the entry alone decides are made (R289). -/
def State.takeEntry (s : State) (src : Src) (entry data : Bytes) : State :=
  let h := { hdrOf src entry with uid := s.cme.nextUid }
  let s := s.addFlight src { cid := h.cid, fence := h.fence, noInt := h.noInt, entry := entry, data := data }
  match opOf (fld entry 0 2) with
  | none => complete h (err 0x0101) s
  | some op =>
    let st := s.admission h op true
    if st = 0 then s else complete h (err st) s

end Sys2Proof.Machine
end

