-- ==== Sys2Proof/Machine/Queues.lean ====
section
/-! DEFINITION. Chapter 8: the queues of the PCIe rings, their doorbells, fetching, completions, interrupts, watermarks
and asynchronous events. -/
namespace Sys2Proof.Machine

/-! ### The PCIe functions (Table 8-2, R3) -/

/-- What a function's configuration space gives: identifiers, BAR sizes, MSI-X vectors, SR-IOV and payload size. -/
structure FnCaps where
  vendor : Nat := 0x1F83
  device : Nat
  revision : Nat := 0x01
  classCode : Nat := 0x108000
  bar0 : Nat
  bar2 : Nat
  vectors : Nat
  msixTable : Nat := 0
  msixPba : Nat
  totalVfs : Nat
  firstVf : Nat
  vfStride : Nat
  maxPayload : Nat := 512
  deriving DecidableEq, Repr

/-- PF0. -/
def pfCaps : FnCaps :=
  { device := 0x2560, bar0 := 131072, bar2 := 65536, vectors := 2048, msixPba := 0x8000, totalVfs := 63, firstVf := 1, vfStride := 1 }

/-- Each VF. -/
def vfCaps : FnCaps :=
  { device := 0x2561, bar0 := 65536, bar2 := 4096, vectors := 32, msixPba := 0x800, totalVfs := 0, firstVf := 0, vfStride := 0 }

/-- The function of a number, PF0 or a VF. -/
def fnCaps (fn : Nat) : FnCaps := if fn = 0 then pfCaps else vfCaps

/-- Address bits 63:32 of a register row select what it reaches: 0 BAR0, 1 BAR2, 2 configuration space (log entry 109). -/
def bar2Space : Nat := 2 ^ 32
/-- Where the rows' addresses of configuration space begin. -/
def cfgSpace : Nat := 2 ^ 33

/-- A word of a function's configuration space: the identifiers, class code and revision, BAR0 and BAR2, MSI-X, the payload size,
function level reset, the link's rate and lanes, and SR-IOV (Table 8-2). The places of the capabilities are the model's (log entry
109). -/
def State.configWord (s : State) (fn off : Nat) : Nat :=
  let c := fnCaps fn
  let b := s.fnBlock fn
  match off with
  | 0x00 => c.vendor + 65536 * c.device
  | 0x08 => c.revision + 256 * c.classCode
  | 0x10 => b.bar0 % 2 ^ 32 + 4
  | 0x14 => b.bar0 / 2 ^ 32
  | 0x18 => b.bar2 % 2 ^ 32 + 4
  | 0x1C => b.bar2 / 2 ^ 32
  | 0x34 => 0x40
  | 0x40 => 0x5011 + put 16 11 (c.vectors - 1) + put 30 1 (b2n b.msix.functionMask) + put 31 1 (b2n b.msix.enable)
  | 0x44 => c.msixTable + 2
  | 0x48 => c.msixPba + 2
  | 0x50 => 0x00020010
  | 0x54 => (if c.maxPayload = 512 then 2 else 0) + put 28 1 1
  | 0x5C => put 0 4 4 + put 4 6 4
  | 0x60 => put 16 4 s.boot.linkRate + put 20 6 s.boot.linkLanes
  | 0x100 => if fn = 0 then 0x00010010 else 0
  | 0x10C => put 0 16 c.totalVfs + put 16 16 c.totalVfs
  | 0x114 => put 0 16 c.firstVf + put 16 16 c.vfStride
  | 0x118 => if fn = 0 then 65536 * vfCaps.device else 0
  | _ => 0

/-- The JTAG IDCODE (R3). -/
def jtagIdcode : Nat := 0x12560C35

/-! ### Measures of a queue -/

/-- Entries doorbelled and not yet fetched. -/
def Queue.unfetched (q : Queue) : Nat := (q.sqTail + q.depth - q.sqHead) % q.depth

/-- OUTSTANDING: entries doorbelled and not yet completed (Table 8-13). -/
def Queue.outstanding (q : Queue) : Nat := q.unfetched + q.inFlight

/-- The queue-depth level, 0 where it is disabled (Table 8-13A, R297). -/
def Queue.wmLevel (q : Queue) : Nat := if q.version = 0x10 then 0 else q.wm * q.depth / 16

/-- An upward crossing of queue q's watermark from a measure (R302, R304). -/
def State.depthCrossing (s : State) (q before : Nat) : State :=
  let x := s.queue q
  if x.wmLevel ≠ 0 ∧ before < x.wmLevel ∧ x.wmLevel ≤ x.outstanding then
    (s.updQueue q (fun x => { x with wmHit := true, wmCount := satAdd 16 x.wmCount 1 })).tellGroup 0x0003 6 q
  else s

/-! ### Opening, closing and faults -/

/-- The commands in flight of a queue whose completions will never be written (R294). The message that a written completion has
deferred is still sent (R301). -/
def Queue.abandon (q : Queue) : Queue :=
  { q with flights := q.flights.map (fun f => { f with orphan := true }), done := [] }

/-- The value of LAST_CAUSE; ERROR causes 1 to 4 (Table 8-13). -/
def State.queueError (s : State) (q cause : Nat) : State :=
  let s := s.updQueue q (fun x => { x.abandon with state := .error, lastCause := cause })
  s.log .control 0x0001 5 5 q { cause := cause }

/-- The completion without a submission that a queue in ERROR still writes, when its ring has room (Table 8-19). -/
def State.queueErrorEntry (s : State) (q cause : Nat) : State :=
  let x := s.queue q
  if x.posted + 1 ≤ x.depth - 1 then
    s.updQueue q (fun x => { x with done := [{ src := .pcie q, cid := 0xFFFF, status := 0x0702,
                                               result := le 1 cause ++ [0] ++ le 2 x.sqHead }] })
  else s

/-- A queue becomes CLOSED at once and writes no further completion; a message that is deferred still goes (R301). -/
def Queue.closeNow (q : Queue) : Queue := { q.abandon with state := .closed }

/-- A queue is closed as by CLOSE: it stops fetching and waits for the commands in flight (R293). -/
def State.closeQueue (s : State) (q : Nat) : State :=
  let x := s.queue q
  if x.state == .opened then
    if x.inFlight = 0 then s.updQueue q Queue.closeNow
    else s.updQueue q (fun x => { x with state := .closing, closingAt := s.now })
  else s

/-- A queue's context at a reset of its function or of the PCIe island (Table 8-19): CLOSED, with the commands in flight
running on without completions. -/
def Queue.reset (q : Queue) : Queue :=
  { lastCause := 6, flights := (q.abandon).flights, retired := q.retired, wmHit := q.wmHit, wmCount := q.wmCount }

/-- Queue q is reset with its function, and the fault is logged when it was in use (Table 8-19). -/
def State.resetQueue (s : State) (q : Nat) : State :=
  let was := (s.queue q).state
  let s := s.updQueue q Queue.reset
  if was == .closed then s else s.log .control 0x0001 5 5 q { cause := 6 }

/-- Every host digest context that a property picks is closed and its key erased (R207). -/
def State.closeContexts (s : State) (p : Context → Bool) : State :=
  { s with bde := { s.bde with contexts := s.bde.contexts.filter (fun e => match e.2 with
    | some c => !p c
    | none => false) } }

/-- A queue of a function: granted to it, and one of the PCIe queues. -/
def State.ownsQueue (s : State) (fn q : Nat) : Bool := decide (fn < 64 ∧ q < 4096) && (s.grant q).fn == fn

/-- The registers of a function for queue q (Table 8-13). -/
def State.qRegs (s : State) (fn q : Nat) : QRegs := (s.fnBlock fn).queues.get q {}

/-- s with the registers of a function for queue q changed by f. -/
def State.updQRegs (s : State) (fn q : Nat) (f : QRegs → QRegs) : State :=
  s.updFn fn (fun b => { b with queues := b.queues.upd q {} f })

/-- Queue q is in use by a function: it was opened by it and is not CLOSED. -/
def State.usesQueue (s : State) (fn q : Nat) : Bool := (s.queue q).fn == fn && (s.queue q).state != .closed

/-- The queues that the Command Engine holds a context of. -/
def State.usedQueues (s : State) : List Nat := s.cme.queues.keys

/-- SQ_TAIL_DOORBELL (R281, R311). -/
def execSqTailDoorbell (fn queue value : Nat) (s : State) : Res :=
  if !s.pcieUp then .next s
  else
    let x := s.queue queue
    if !s.ownsQueue fn queue || x.state != .opened then .next (s.updFn fn (fun b => { b with stray := satAdd 32 b.stray 1 }))
    else
      let v := value % 4096
      let s := s.updQueue queue (fun x => { x with sqDoorbell := v })
      if x.depth ≤ v then .next ((s.queueError queue 2).queueErrorEntry queue 2)
      else .next ((s.updQueue queue (fun x => { x with sqTail := v })).depthCrossing queue x.outstanding)

/-- CQ_HEAD_DOORBELL (R281, R291, R311). -/
def execCqHeadDoorbell (fn queue value : Nat) (s : State) : Res :=
  if !s.pcieUp then .next s
  else
    let x := s.queue queue
    if !s.ownsQueue fn queue || x.state != .opened then .next (s.updFn fn (fun b => { b with stray := satAdd 32 b.stray 1 }))
    else
      let v := value % 4096
      let s := s.updQueue queue (fun x => { x with cqDoorbell := v })
      if x.depth ≤ v ∨ x.posted < (v + x.depth - x.cqHead) % x.depth then .next (s.queueError queue 3)
      else .next (s.updQueue queue (fun x => { x with cqHead := v }))

/-- RESULT of an OPEN, 0 when the queue opens (Table 8-13). -/
def State.openResult (s : State) (fn q : Nat) : Nat :=
  let x := s.qRegs fn q
  let g := s.grant q
  if !s.ownsQueue fn q then 1
  else if x.depthLog2 < 4 ∨ 12 < x.depthLog2 ∨ g.maxDepth < x.depthLog2 then 2
  else if (fnCaps fn).vectors ≤ x.vector then 3
  else if x.sqBase % 4096 ≠ 0 ∨ x.cqBase % 4096 ≠ 0 then 4
  else if x.version ∉ [0x10, 0x11, 0x12] then 5
  else if (s.queue q).state != .closed then 6
  else if x.async && !g.async then 7
  else if !s.ready || (s.queue q).retired then 8
  else 0

/-- A queue opened by a function with the configuration of its registers: both doorbells and both internal indices at 0
(R290, R293, R297). -/
def Queue.openWith (q : Queue) (fn : Nat) (x : QRegs) : Queue :=
  { q with fn := fn, depthLog2 := x.depthLog2, version := x.version, async := x.async, intEnable := x.intEnable, vector := x.vector,
           wm := x.wm, coalUs := x.coalUs, sqBase := x.sqBase, cqBase := x.cqBase, state := .opened, sqDoorbell := 0, cqDoorbell := 0, sqTail := 0, cqHead := 0,
           sqHead := 0, cqTail := 0, phase := true, done := [], coalDue := none }

/-- QUEUE_OPEN (R293): the selected queue opens with both doorbells and both internal indices at 0. -/
def execQueueOpen (fn : Nat) (s : State) : Res :=
  if !s.pcieUp then .next s
  else
    let q := (s.fnBlock fn).qSelect
    let r := s.openResult fn q
    let t := s.updQRegs fn q (fun x => { x with result := r })
    if r = 0 then .next (t.updQueue q (fun x => x.openWith fn (s.qRegs fn q))) else .next t

/-- QUEUE_CLOSE (R293). -/
def execQueueClose (fn : Nat) (s : State) : Res :=
  let q := (s.fnBlock fn).qSelect
  if s.pcieUp && s.ownsQueue fn q then .next (s.closeQueue q) else .next s

/-- QUEUE_RESET (R293, R294). -/
def execQueueReset (fn : Nat) (s : State) : Res :=
  let q := (s.fnBlock fn).qSelect
  if s.pcieUp && s.ownsQueue fn q then .next (s.updQueue q Queue.closeNow) else .next s

/-- QUEUE_CLOSE_TIMEOUT (R293): a CLOSE has waited 100 ms. -/
def execQueueCloseTimeout (queue : Nat) (s : State) : Res :=
  let x := s.queue queue
  if x.state == .closing && decide (x.closingAt + 100000 ≤ s.now) then .next (s.updQueue queue Queue.closeNow) else .next s

/-- FUNCTION_LEVEL_RESET (Table 8-19, R207). -/
def execFunctionLevelReset (fn : Nat) (s : State) : Res :=
  if !s.pcieUp then .next s
  else
    let s := (s.usedQueues.filter (fun q => s.usesQueue fn q || s.ownsQueue fn q)).foldl State.resetQueue s
    let s := s.closeContexts (fun c => c.fn == fn)
    .next { s.updFn fn (fun _ => {}) with cme := { (s.updFn fn (fun _ => {})).cme with accesses := s.cme.accesses.filter (fun a => a.fn != fn) } }

/-- The queues of a function: those granted to it, and those that it opened. -/
def State.queuesFor (s : State) (fn : Nat) : List Nat := (List.range 4096).filter (fun q => s.ownsQueue fn q || s.usesQueue fn q)

/-- BUS_MASTER_DISABLE (Table 8-19): with queues open, every queue of the function enters ERROR. -/
def execBusMasterDisable (fn : Nat) (s : State) : Res :=
  if !s.pcieUp then .next s
  else
    if !s.usedQueues.any (fun q => s.usesQueue fn q && ((s.queue q).state == .opened || (s.queue q).state == .closing)) then .next s
    else
      let s := (s.queuesFor fn).foldl (fun t q => t.queueError q 4) s
      .next (s.updFn fn (fun b => { b with bmeLost := true }))

/-- A PCIe reset (Table 2-1, Table 8-19, R207, R356): the queue contexts, every digest context, and the sessions on the
PCIe VDM binding. -/
def State.pcieReset (s : State) : State :=
  let s := s.usedQueues.foldl State.resetQueue s
  let s := s.closeContexts (fun _ => true)
  { s with cme := { s.cme with fns := [], accesses := [] },
           atr := { s.atr with sessions := s.atr.sessions.filter (fun x => x.binding != 0) },
           boot := { s.boot with linkTraining := false } }

/-- PERST_ASSERT (R45). -/
def execPerstAssert (s : State) : Res :=
  let s := { s with boot := { s.boot with perst := true } }
  if s.pcieUp then .next s.pcieReset else .next s

/-- The link trains at the highest of its rates and widths that the link partner has, given as in LINK_RATE and lanes (R279). -/
def Boot.train (b : Boot) (rate lanes : Nat) : Boot :=
  { b with linkTraining := true, linkRate := max 1 (min rate 4), linkLanes := if 4 ≤ lanes then 4 else if 2 ≤ lanes then 2 else 1 }

/-- PERST_DEASSERT (R52): link training begins once the Control Region has powered up. The operands are what the link partner
can do: its highest rate, 1 to 4 for 2.5 to 16 GT/s, and its lanes. -/
def execPerstDeassert (s : State) (rate lanes : Nat := 4) : Res :=
  .next { s with boot := { s.boot.train rate lanes with perst := false, linkTraining := s.pcieUp } }

/-- PCIE_HOT_RESET (R45): a hot reset or link disable received on the link; the link trains again. -/
def execPcieHotReset (s : State) (rate lanes : Nat := 4) : Res :=
  if s.pcieUp && !s.boot.perst then
    let s := s.pcieReset
    .next { s with boot := s.boot.train rate lanes }
  else .next s

/-! ### Fetching (R291, R295) -/

/-- Queue q may fetch an entry now. -/
def State.mayFetch (s : State) (q : Nat) : Bool :=
  let x := s.queue q
  x.state == .opened && decide (0 < x.unfetched) && x.roomToFetch

/-- The fetch turn of a class (R295). -/
def State.fetchTurn (s : State) (c : Nat) : Turn :=
  match c with
  | 0 => s.cme.express
  | 1 => s.cme.standard
  | _ => s.cme.bulk

/-- s with the fetch turn of a class set. -/
def State.setFetchTurn (s : State) (c : Nat) (t : Turn) : State :=
  match c with
  | 0 => { s with cme := { s.cme with express := t } }
  | 1 => { s with cme := { s.cme with standard := t } }
  | _ => { s with cme := { s.cme with bulk := t } }

/-- The queue from which the next entry is fetched, and the turn of its class after it (R295). -/
def State.nextFetch (s : State) : Option (Nat × Nat × Turn) :=
  let can := s.usedQueues.filter s.mayFetch
  match (can.map (fun q => (s.grant q).cls)).min? with
  | none => none
  | some c =>
    match (s.fetchTurn c).next (fun q => (s.grant q).weight) (can.filter (fun q => (s.grant q).cls == c)) with
    | some (q, t) => some (q, c, t)
    | none => none

/-- Where the next submission entry of queue q lies in the memory of its function (R290). -/
def State.fetchAddr (s : State) (q : Nat) : Nat × Nat := ((s.queue q).fn, (s.queue q).sqBase + 64 * (s.queue q).sqHead)

/-- SUBMISSION_FETCH (R289, R290, R291, R295): the entry read from host memory joins the commands in flight. -/
def execSubmissionFetch (queue : Nat) (entry : Bytes) (s : State) : Res :=
  if !s.ready || s.cme.draining then .next s
  else match s.nextFetch with
    | none => .next s
    | some (q, c, t) =>
      if q ≠ queue then .next s
      else
        let s := { s with io := { s.io with fetch := some (s.fetchAddr q) } }
        let s := (s.setFetchTurn c t).updQueue q (fun x => { x with sqHead := (x.sqHead + 1) % x.depth })
        .next (s.takeEntry (.pcie q) (fixLen 64 entry) [])

/-- The POLICY_STAGE that reads its image still runs (R160). -/
def State.stageLive (s : State) : Bool :=
  match s.pol.staging with
  | some (src, uid) => (s.flights src).any (fun f => decide (f.uid = uid))
  | none => false

/-- A POLICY_STAGE in flight begins to read its image, unless another one does (R160). -/
def State.noteStaging (s : State) (h : Hdr) : State :=
  match s.flightFor h with
  | some f => if !s.stageLive && !f.started && fld f.entry 0 2 == 0x0200 then { s with pol := { s.pol with staging := some (h.src, f.uid) } } else s
  | none => s

/-- The data of a read that a command in flight made (R311: nothing failed). -/
def execHostReadCompletion (queue cid : Nat) (data : Bytes) (s : State) : Res :=
  let h : Hdr := { src := .pcie queue, cid := cid }
  let n := s.uidFor h
  .next ((s.noteStaging h).updFlights (.pcie queue) (fun l => l.map (fun f =>
    if f.uid = n ∧ !f.started then { f with data := f.data ++ data } else f)))

/-- A failed read is recorded for its function (R311). -/
def State.readFaulted (s : State) (fn addr kind : Nat) : State :=
  s.updFn fn (fun b => { b with readFault := addr % 2 ^ 64, readFaultKind := kind % 4 })

/-- The context that a DIGEST_UPDATE in flight names. -/
def updateContext (f : Flight) : Option Nat := if fld f.entry 0 2 = 0x0311 then some (fld f.entry 16 2) else none

/-- Bytes fed to a context: a finished one restarts first (R211). -/
def Context.feed (c : Context) (b : Bytes) : Context :=
  if c.finished then { c with fed := b, finished := false } else { c with fed := c.fed ++ b }

/-- Host digest context n. -/
def State.context (s : State) (n : Nat) : Option Context := s.bde.contexts.get n none

/-- s with host digest context n set. -/
def State.setContext (s : State) (n : Nat) (c : Option Context) : State :=
  { s with bde := { s.bde with contexts := s.bde.contexts.set n none c } }

/-- A receipt command that is refused is counted (R331, R334). -/
def State.countRefused (s : State) (q : Nat) : State :=
  { s.updCount q (fun c => { c with refused := c.refused + 1 }) with
    rfg := { (s.updCount q (fun c => { c with refused := c.refused + 1 })).rfg with refused := satAdd 32 s.rfg.refused 1 } }

/-- A flight is a receipt command, whose digest or list is read from host memory (Table 9-7). -/
def readsReceipt (f : Flight) : Bool := fld f.entry 0 2 == 0x0400 || fld f.entry 0 2 == 0x0401

/-- HOST_READ_FAULT (R209, R311): without a command, the fetch of a submission entry failed; with one, the command stops,
and a DIGEST_UPDATE keeps the fragments that were fed before the failure. -/
def execHostReadFault (queue : Nat) (cmd : Option Hdr) (kind addr : Nat) (fed : Bytes) (s : State) : Res :=
  match cmd with
  | none =>
    if !s.mayFetch queue || !s.ready then .next s
    else
      let s := s.readFaulted (s.queue queue).fn addr kind
      .next ((s.queueError queue 1).queueErrorEntry queue 1)
  | some h =>
    match s.flightFor h with
    | none => .next s
    | some f =>
      if f.started then .next s
      else
        let h := s.stamp h
        let s := match s.fnOf h.src with
          | some fn => s.readFaulted fn addr kind
          | none => s
        match updateContext f with
        | some n =>
          match s.context n with
          | some c =>
            if s.fnOf h.src ≠ some c.fn then .next (complete h (err 0x0450) s)
            else
              let c' := c.feed fed
              let s := if fed.isEmpty then s else
                (s.setContext n (some c')).updCount (s.queueOf h.src) (fun k => { k with digestBytes := k.digestBytes + fed.length })
              .next (complete h { status := 0x0701, carriedOut := !fed.isEmpty,
                                  result := le 8 (if fed.isEmpty ∧ c.finished then 0 else c'.fed.length) } s)
          | none => .next (complete h (err 0x0450) s)
        | none => .next (complete h (err 0x0701) (if readsReceipt f then s.countRefused (s.queueOf h.src) else s))

/-! ### Completions and interrupts -/

/-- FLAGS of a completion entry (Table 8-10). -/
def Completion.flags (c : Completion) (phase : Bool) : Nat :=
  b2n phase + 2 * b2n c.isAsync + 4 * b2n c.carriedOut + 8 * b2n (decide (24 < c.result.length)) +
  put 4 3 (if c.status = 0x0801 then c.rung else 7)

/-- A completion entry's 32 bytes (Table 8-10). -/
def Completion.bytes (c : Completion) (sqHead : Nat) (phase : Bool) : Bytes :=
  le 2 c.cid ++ le 2 sqHead ++ le 2 c.status ++ le 1 (c.flags phase) ++ [0] ++ fixLen 24 c.result

/-- The writes to host memory of a completion, in order: the command's data, its long result, the entry (R288, R292). -/
def Completion.writes (c : Completion) (q : Queue) : List HostWrite :=
  c.out ++ (if 24 < c.result.length then [{ addr := c.resultAddr, data := c.result }] else []) ++
  [{ addr := q.cqBase + 32 * q.cqTail, data := c.bytes q.sqHead q.phase }]

/-- The queue after an entry has been posted on its completion ring (R290). -/
def Queue.postedOne (q : Queue) : Queue :=
  { q with cqTail := (q.cqTail + 1) % q.depth, phase := if q.cqTail + 1 = q.depth then !q.phase else q.phase }

/-- The queue's message is deferred by interrupt coalescing (R301). -/
def Queue.coalesces (q : Queue) (cls : Nat) : Bool := q.version == 0x12 && cls != 0 && q.coalUs != 0

/-- An MSI-X message of a function is sent, or is left pending where its vector or the function is masked (R300). -/
def State.raiseMsix (s : State) (fn vector : Nat) : State :=
  let m := (s.fnBlock fn).msix
  if !m.enable then s
  else if m.functionMask || !m.unmasked.contains vector then
    s.updFn fn (fun b => { b with msix := { b.msix with pending := vector :: b.msix.pending.filter (· != vector) } })
  else { s with io := { s.io with msix := some (fn, vector) } }

/-- The pending messages of a function that nothing masks any more are sent, lowest vector first, and their bits clear (R300). -/
def State.sendUnmasked (s : State) (fn : Nat) : State :=
  let m := (s.fnBlock fn).msix
  let free := if !m.enable || m.functionMask then [] else (List.range 2048).filter (fun v => m.pending.contains v && m.unmasked.contains v)
  let s := s.updFn fn (fun b => { b with msix := { b.msix with pending := b.msix.pending.filter (fun v => !free.contains v) } })
  free.foldl (fun t v => t.raiseMsix fn v) s

/-- A word of a function's MSI-X table or pending bits, in BAR2 (Table 8-2): four words a vector, the last its mask bit. -/
def State.msixWord (s : State) (fn off : Nat) : Nat :=
  let c := fnCaps fn
  let m := (s.fnBlock fn).msix
  let i := off / 4
  if off < 16 * c.vectors then (if i % 4 = 3 then b2n (!m.unmasked.contains (i / 4)) else m.words.get i 0)
  else if c.msixPba ≤ off ∧ off < c.msixPba + c.vectors / 8 then
    (List.range 32).foldl (fun a j => a + put j 1 (b2n (m.pending.contains (8 * (off - c.msixPba) + j)))) 0
  else 0

/-- A write to a function's MSI-X table: its pending bits are read only (R300). -/
def State.msixWrite (s : State) (fn off v : Nat) : State :=
  let i := off / 4
  if 16 * (fnCaps fn).vectors ≤ off then s
  else
    (s.updFn fn (fun b => { b with msix :=
      if i % 4 = 3 then { b.msix with unmasked := (if v.testBit 0 then [] else [i / 4]) ++ b.msix.unmasked.filter (· != i / 4) }
      else { b.msix with words := b.msix.words.set i 0 v } })).sendUnmasked fn

/-- The low or high word of a 64-bit value replaced. -/
def setLow (x v : Nat) : Nat := x / 2 ^ 32 * 2 ^ 32 + v % 2 ^ 32
/-- The high word of a 64-bit value replaced. -/
def setHigh (x v : Nat) : Nat := v % 2 ^ 32 * 2 ^ 32 + x % 2 ^ 32
/-- A base address, whose bits below the size of its BAR are 0 (Table 8-2). -/
def barValue (size v : Nat) : Nat := v / size * size

/-- A write to a function's configuration space: its BARs, and the enable and mask bits of MSI-X. -/
def State.configWrite (s : State) (fn off v : Nat) : State :=
  let c := fnCaps fn
  match off with
  | 0x10 => s.updFn fn (fun b => { b with bar0 := barValue c.bar0 (setLow b.bar0 v) })
  | 0x14 => s.updFn fn (fun b => { b with bar0 := setHigh b.bar0 v })
  | 0x18 => s.updFn fn (fun b => { b with bar2 := barValue c.bar2 (setLow b.bar2 v) })
  | 0x1C => s.updFn fn (fun b => { b with bar2 := setHigh b.bar2 v })
  | 0x40 => (s.updFn fn (fun b => { b with msix := { b.msix with functionMask := v.testBit 30, enable := v.testBit 31 } })).sendUnmasked fn
  | _ => s

/-- The message that a written completion entry causes (R300, R301). -/
def State.signal (s : State) (q : Nat) (c : Completion) : State :=
  let x := s.queue q
  if !x.intEnable then s
  else if c.isAsync then
    (s.updQueue q (fun x => { x with coalDue := none })).raiseMsix x.fn x.vector
  else if c.noInt then s
  else if x.coalesces (s.grant q).cls then
    s.updQueue q (fun x => { x with coalDue := some (x.coalDue.getD (s.now + x.coalUs)) })
  else s.raiseMsix x.fn x.vector

/-- A completion is written on queue q's ring, in the memory of the function that opened it (R285, R290). -/
def State.writeEntry (s : State) (q : Nat) (c : Completion) : State :=
  let fn := (s.queue q).fn
  let s := { s with io := { s.io with dma := (c.writes (s.queue q)).map (fun w => (fn, w)) } }
  (s.updQueue q Queue.postedOne).signal q c

/-- A queue that was CLOSING and has no command left is CLOSED (R293). -/
def State.closeDone (s : State) (q : Nat) : State :=
  let x := s.queue q
  if x.state == .closing && decide (x.inFlight = 0) then s.updQueue q Queue.closeNow else s

/-- INTERRUPT_COALESCE_EXPIRY (R301). -/
def execInterruptCoalesceExpiry (queue : Nat) (s : State) : Res :=
  let x := s.queue queue
  match x.coalDue with
  | some t =>
    if t ≤ s.now ∧ s.boot.controlUp then
      .next ((s.updQueue queue (fun x => { x with coalDue := none })).raiseMsix x.fn x.vector)
    else .next s
  | none => .next s

/-! ### Asynchronous events (R304, R305) -/

/-- The queue that a group's event is delivered on: the lowest-numbered OPEN queue with ASYNC set, of privilege OPERATOR
or OWNER for a MANAGEMENT event. -/
def State.asyncQueue (s : State) (g : Nat) (e : AsyncEv) : Option Nat :=
  (List.range 64).findSome? (fun j =>
    let q := 64 * g + j
    let x := s.queue q
    if x.state == .opened && x.async && (s.grant q).async && (e.grouped || decide (2 ≤ (s.grant q).priv)) then some q else none)

/-- The RESULT of an asynchronous completion (Table 8-15), with the fields that version 1.0 has as 0 (Table 8-11). -/
def AsyncEv.result (e : AsyncEv) (version : Nat) : Bytes :=
  let v0 := version == 0x10
  le 2 e.code ++ le 2 e.count ++ le 1 e.rung ++ le 1 (if v0 then 0 else e.hintClass) ++ le 2 (if v0 then 0 else e.hintIndex) ++
  le 8 (if v0 then 0 else e.mask) ++ le 8 e.logSeq

/-- The record of a group's event still waits to be written: its LOG_SEQ is not known yet (Table 8-15). -/
def State.unrecorded (s : State) (g : Nat) (e : AsyncEv) : Bool :=
  e.logSeq == 0 && s.lgb.staging.any (fun x => e.reports g x)

/-- ASYNC_EVENT_DELIVERY (R305): the oldest pending event of a group whose delivery queue has room, once its first occurrence has
its record (log entry 100). -/
def execAsyncEventDelivery (group : Nat) (s : State) : Res :=
  if !s.boot.controlUp then .next s
  else
    let l := s.cme.asyncs.get group []
    let can (e : AsyncEv) : Bool := !s.unrecorded group e && match s.asyncQueue group e with
      | some q => decide ((s.queue q).posted + (s.queue q).inFlight + 1 ≤ (s.queue q).depth - 1)
      | none => false
    match l.find? can with
    | none => .next s
    | some e =>
      match s.asyncQueue group e with
      | none => .next s
      | some q =>
        let s := { s with cme := { s.cme with asyncs := s.cme.asyncs.set group [] (l.erase e) } }
        .next (s.writeEntry q { src := .pcie q, cid := 0xFFFF, isAsync := true, rung := 7, result := e.result (s.queue q).version })

/-! ### Grants (R285) -/

/-- The commit of new grants: open queues whose function or privilege changes close, and each function whose grants
change is told. -/
def State.applyGrants (old s : State) : State :=
  let changed := (List.range 4096).filter (fun q => decide (old.grant q ≠ s.grant q))
  let s := changed.foldl (fun t q =>
    let a := old.grant q
    let b := t.grant q
    if (a.fn ≠ b.fn ∨ a.priv ≠ b.priv) ∧ ((t.queue q).state == .opened) then
      let t := (t.closeQueue q).updQueue q (fun x => { x with lastCause := 5 })
      let t := t.log .control 0x0001 5 5 q { cause := 5 }
      t.tellGroup 0x0001 5 q
    else t) s
  ((changed.flatMap (fun q => [(old.grant q).fn, (s.grant q).fn])).eraseDups.filter (fun n => decide (n < 64))).foldl
    (fun t n => t.updFn n (fun b => { b with grantsChanged := true })) s

/-! ### The outbox (R308) -/

/-- The wait before retry n of an unacknowledged transaction (R111), in µs. -/
def retryWait (n : Nat) : Nat := 50 * 2 ^ (n - 1)

/-- Messages held in the outbox: those whose last retry has failed. -/
def State.outboxHeld (s : State) : List OutMsg := s.cme.outbox.filter (fun m => decide (9 ≤ m.tries))

/-- OUTBOX_WM in force (Table 8-6, R284). -/
def State.outboxWm (s : State) : Nat := if s.boot.phase = .noPolicy ∨ s.image.isNone then 48 else fld (s.sec 0x20) 12 1

/-- Which message a full outbox drops: the oldest held one at rung 6, else the arriving one at rung 6, else the oldest
held one of the highest-numbered rung (R308). -/
def dropChoice (held : List OutMsg) (new : OutMsg) : OutMsg :=
  match held.find? (fun m => m.rung == 6) with
  | some m => m
  | none => if new.rung = 6 then new
    else
      let top := held.foldl (fun a m => max a m.rung) 0
      (held.find? (fun m => m.rung == top)).getD new

/-- A message whose last retry has failed is held (R308), with the outbox watermark (R302) and the drop of a full
outbox. -/
def State.holdMessage (s : State) (m : OutMsg) : State :=
  let held := s.outboxHeld
  let n := { m with tries := 9, dueAt := s.now + 1000000 }
  if held.length < 64 then
    let s := { s with cme := { s.cme with outbox := s.cme.outbox.map (fun x => if x = m then n else x) } }
    if held.length + 1 = s.outboxWm then
      { s with cme := { s.cme with outboxHit := true, outboxCrossings := satAdd 16 s.cme.outboxCrossings 1 } }
    else s
  else
    let d := dropChoice held n
    let l := s.cme.outbox.map (fun x => if x = m then n else x)
    let s := { s with cme := { s.cme with outbox := l.erase d, outboxDrops := satAdd 16 s.cme.outboxDrops 1 } }
    s.log .control 0x0002 6 0 0

/-- A message is sent as SMBus master or announced by an IBI; it stands in the outbox's list until it is acknowledged. While the
outbox holds messages they go ahead of it, and it is held behind them (R308). -/
def State.sendMaster (s : State) (bus : Target) (rung : Nat) (units : List Bytes) : State :=
  let m : OutMsg := { rung := rung, bus := bus, units := units, dueAt := s.now }
  let t := { s with cme := { s.cme with outbox := s.cme.outbox ++ [m] } }
  if s.outboxHeld.isEmpty then t else t.holdMessage m

/-! ### MCTP messages (R351) -/

/-- The baseline transmission units of a message of a type: 64 bytes each, the last one shorter. -/
def mctpUnits (type : Nat) (msg : Bytes) : List Bytes := chunks 64 (msg.length + 1) (byte type :: msg)

/-- The master or IBI path of a binding; none for PCIe VDM (Table 10-3). -/
def bindingBus (binding : Nat) : Option Target := ([none, some .sb0, some .sb1, some .mb0, some .mb1] : List (Option Target)).getD binding none

/-- A message of a type leaves on a binding: at once over PCIe, else as master or behind an IBI (R308, R351; log entry 134). -/
def State.answer (s : State) (binding type rung : Nat) (msg : Bytes) : State :=
  match bindingBus binding with
  | none => { s with io := { s.io with mctp := mctpUnits type msg } }
  | some bus => s.sendMaster bus rung (mctpUnits type msg)

end Sys2Proof.Machine
end

