-- ==== Sys2Proof/Machine/Receipts.lean ====
section
/-! DEFINITION. Chapter 9, receipts: the snapshot, the payload, batches, signing, voiding and the receipt commands. -/
namespace Sys2Proof.Machine

/-! ### Digest and receipt work on the shared lanes of Bellows (R205) -/

/-- The work classes of the commands that wait for a shared lane: those of a queue, and those of the framed targets. -/
def State.laneWaiters (s : State) : List WorkClass :=
  s.cme.queues.flatMap (fun p => (p.2.flights.filter (fun f => f.waits == .bellows)).map (fun _ => s.classOf p.1)) ++
  ([.mb0, .mb1, .sb0, .sb1, .uart0] : List Target).flatMap (fun t =>
    ((s.session t).flights.filter (fun f => f.waits == .bellows)).map (fun _ => s.classOf (s.queueOf (.framed t))))

/-- Digest or receipt work of a command finds a lane: one is shared, and no work of a higher class waits for it. Hashing takes no
time in this model, so a unit of 256 bytes sets no other work aside (log entry 85). -/
def State.laneFor (s : State) (h : Hdr) : Bool :=
  s.sharesLane && s.laneWaiters.all (fun c => decide ((s.classOf (s.queueOf h.src)).order ≤ c.order))

/-- Background work finds a lane: one is shared, and no digest or receipt work waits for it. -/
def State.backgroundLane (s : State) : Bool := s.sharesLane && s.laneWaiters.isEmpty

/-! ### Forms and keys (R317 to R319) -/

/-- The COSE algorithm of a form (Table 9-1). -/
def formAlg (alg : Nat) : Int :=
  match alg with
  | 1 => -35
  | 2 => -7
  | 3 => -8
  | _ => -65601

/-- The Hammer operations of a form. -/
def formOps (alg : Nat) : List Nat :=
  match alg with
  | 1 => [0x02]
  | 2 => [0x01]
  | 3 => [0x05]
  | _ => [0x02, 0x0A]

/-- The kid of a form (R319). -/
def State.formKid (s : State) (alg : Nat) : Bytes :=
  let p := s.cru.pubs
  match alg with
  | 1 => kidOf p.receipt384
  | 2 => kidOf p.receipt256
  | 3 => kidOf p.receiptEd
  | _ => kidOf (p.receipt384 ++ p.receiptPq)

/-- The receipt record of queue q: FORMAT, ALG, FLAGS (R318). -/
def State.receiptRec (s : State) (q : Nat) : Nat × Nat × Nat :=
  if (s.sec 0x21).isEmpty then (2, 1, 0)
  else
    let r := s.secRec 0x21 0 4 q
    (fld r 0 1, fld r 1 1, fld r 2 1)

/-! ### The Merkle tree of a batch (R323, R324) -/

/-- The largest power of two less than n. -/
def splitPoint (n : Nat) : Nat := 2 ^ Nat.log2 (n - 1)

/-- The Merkle tree hash of at most 2 ^ (fuel − 1) digests. -/
def mth : Nat → List Bytes → Bytes
  | 0, _ => []
  | fuel + 1, l =>
    match l with
    | [] => []
    | [d] => sha384 (0 :: d)
    | _ =>
      let k := splitPoint l.length
      sha384 (1 :: (mth fuel (l.take k) ++ mth fuel (l.drop k)))

/-- The siblings of digest m, leaf level first. -/
def mpath : Nat → Nat → List Bytes → List Bytes
  | 0, _, _ => []
  | fuel + 1, m, l =>
    if l.length ≤ 1 then []
    else
      let k := splitPoint l.length
      if m < k then mpath fuel m (l.take k) ++ [mth fuel (l.drop k)]
      else mpath fuel (m - k) (l.drop k) ++ [mth fuel (l.take k)]

/-- The inclusion record of digest m (Table 9-5). -/
def inclusion (l : List Bytes) (m : Nat) : Bytes :=
  let p := mpath 9 m l
  le 2 m ++ le 1 p.length ++ zeros 5 ++ fixLen 384 p.flatten

/-! ### The snapshot (R312 to R315, R325) -/

/-- The bound devices' entries of a preimage (Table 10-7). -/
def boundEntries (pre : Bytes) : List Bytes :=
  ((List.range 32).filter (fun d => (fld pre (0x85 + 8 * (d / 2) + d % 2) 1).testBit 0)).map (fun d => slice pre (0x200 + 80 * d) 80)

/-- The freshness summary of a preimage (R314). -/
def freshness (pre : Bytes) : Nat × Nat × Nat :=
  let l := boundEntries pre
  let ages := (l.map (fun e => fld e 72 8)).filter (· != 0)
  ((l.map (fun e => fld e 64 2)).foldl (· + ·) 0, (l.map (fun e => fld e 66 2)).foldl (· + ·) 0, (ages.min?).getD 0)

/-- Bits 4 to 6 of the payload flags, from a preimage (Table 9-4). -/
def preimageFlags (pre : Bytes) : Nat :=
  let bad := (boundEntries pre).any (fun e => !(fld e 70 1).testBit 0)
  let unwell := (slice pre 0x100 256).any (fun b => b.toNat % 8 == 4 || b.toNat % 8 == 5)
  16 * b2n bad + 32 * b2n unwell + 64 * b2n ((fld pre 6 2).testBit 2)

/-- The wall time of a receipt and its flags, with LAST_WALL brought up to it (R325, R327). -/
def State.receiptWall (s : State) : Int × Nat × State :=
  if !s.emb.wallSet then (0, 2, s)
  else if s.emb.epoch = s.rfg.lastEpoch ∧ s.wall < s.rfg.lastWall then (s.rfg.lastWall, 1, s)
  else (s.wall, 0, { s with rfg := { s.rfg with lastWall := s.wall, lastEpoch := s.emb.epoch } })

/-- What a receipt command asks for, with the queue's defaults put in. -/
structure Ask where
  queue : Nat := 0
  format : Nat := 2
  alg : Nat := 1
  outAddr : Nat := 0
  /-- The transaction digest, or the digests of a batch. -/
  digests : List Bytes := []
  isBatch : Bool := false
  deriving DecidableEq, Repr

/-- The payload of a receipt (Table 9-3): the entries' encodings after key 11 are those of format 2. -/
def State.receiptPayload (s : State) (a : Ask) (seq period flags : Nat) (wall : Int) : Bytes :=
  let pre := s.atr.preimage
  let f := freshness pre
  let head := if a.format = 1 then 11 else if a.isBatch then 15 else 14
  cborMap head ++ cborUint 1 ++ cborUint a.format ++
  (if a.isBatch then [] else cborUint 2 ++ cborBytes (a.digests.headD [])) ++
  cborUint 3 ++ cborBytes s.atr.psd ++ cborUint 4 ++ cborUint s.atr.gen ++ cborUint 5 ++ cborBytes (slice pre 0x10 48) ++
  cborUint 6 ++ cborUint a.queue ++ cborUint 7 ++ cborUint seq ++ cborUint 8 ++ cborUint s.now ++ cborUint 9 ++ cborUint s.emb.epoch ++
  cborUint 10 ++ cborInt wall ++ cborUint 11 ++ cborUint flags ++
  (if a.format = 1 then [] else
    cborUint 12 ++ cborUint (fld pre 0x60 4) ++ cborUint 13 ++ cborArray 3 ++ cborUint f.1 ++ cborUint f.2.1 ++ cborUint f.2.2 ++
    cborUint 14 ++ cborUint period) ++
  (if a.isBatch then cborUint 15 ++ cborBytes (mth 9 a.digests) ++ cborUint 16 ++ cborUint a.digests.length else [])

/-- The status of the checks before the snapshot (Table 9-7, R330, R421, R433, R437); 0 when all pass. -/
def State.receiptRefusal (s : State) (a : Ask) (outSize : Nat) : Nat :=
  let bound := (if a.alg = 4 then 4096 else 512) + (if a.isBatch then 392 * a.digests.length else 0)
  let flags := preimageFlags s.atr.preimage
  let rec_ := s.receiptRec a.queue
  if a.format = 1 ∧ a.alg = 4 then 0x0170
  else if outSize < bound then 0x0370
  else if s.hammerUnavailable then 0x0360
  else if s.quenched then 0x0470
  else if s.cru.awaitPowerCycle then 0x04B1
  else if s.cru.keysWithdrawn then 0x04B6
  else if s.cru.entropy = .failed then 0x0593
  else if rec_.2.2.testBit 0 ∧ bits flags 4 2 ≠ 0 then 0x0471
  else if rec_.2.2.testBit 1 ∧ !s.emb.wallSet then 0x0610
  else 0

/-! ### The end of a receipt -/

/-- The Logbook record of a voided receipt (R331). -/
def State.logVoid (s : State) (queue seq status : Nat) : State := s.log .forge 0x0401 2 5 queue { cause := status, detail := le 8 seq }

/-- A receipt that fails after its snapshot is voided (R331). -/
def State.voidReceipt (s : State) (b : Building) (status : Nat) : State :=
  let s := { s with rfg := { s.rfg with building := s.rfg.building.filter (fun x => x.id != b.id), voided := satAdd 32 s.rfg.voided 1 } }
  let s := s.countIn b.period b.queue (fun c => { c with voided := c.voided + 1 })
  let s := s.logVoid b.queue b.seq status
  complete b.hdr (err status (le 8 b.seq)) s

/-- The completion of a receipt whose write has not begun, voided by a quench (R331). -/
def Completion.voided (c : Completion) : Completion :=
  match c.issue with
  | none => c
  | some i => { c with status := 0x0470, carriedOut := false, rung := 7, result := le 8 i.seq, out := [], issue := none }

/-- A receipt that was counted as issued is counted as voided instead. -/
def State.unissue (s : State) (i : Issue) : State :=
  let s := { s with rfg := { s.rfg with issued := s.rfg.issued - 1, voided := satAdd 32 s.rfg.voided 1 } }
  let s := s.countIn i.period i.queue (fun c =>
    if i.digests = 0 then { c with issued := c.issued - 1, voided := c.voided + 1 }
    else { c with batches := c.batches - 1, batchDigests := c.batchDigests - i.digests, voided := c.voided + 1 })
  s.logVoid i.queue i.seq 0x0470

/-- A session whose receipts not yet written are voided. -/
def Session.voided (x : Session) : Session := { x with done := x.done.map Completion.voided }

/-- Every completion in line that carries a receipt is voided. -/
def Cme.voided (c : Cme) : Cme :=
  { c with queues := c.queues.map (fun p => (p.1, { p.2 with done := p.2.done.map Completion.voided }))
           mb0 := c.mb0.voided, mb1 := c.mb1.voided, sb0 := c.sb0.voided, sb1 := c.sb1.voided, uart0 := c.uart0.voided }

/-- Every receipt between its snapshot and the start of its write is voided by a quench (R331, R332): those whose signatures are
being made, and those whose completions are in line. -/
def State.voidAll (s : State) : State :=
  let s := s.rfg.building.foldl (fun t b => t.voidReceipt b 0x0470) s
  s.unwritten.foldl State.unissue { s with cme := s.cme.voided }

/-- The data that a finished receipt writes: the receipt, and a batch's inclusion records from the next multiple of 64. -/
def Building.out (b : Building) (receipt : Bytes) : List HostWrite :=
  if b.batch.isEmpty then [{ addr := b.outAddr, data := receipt }]
  else
    let recs := (List.range b.batch.length).flatMap (inclusion b.batch)
    let gap := padTo 64 receipt.length
    match b.hdr.src with
    | .pcie _ => [{ addr := b.outAddr, data := receipt }, { addr := b.outAddr + receipt.length + gap, data := recs }]
    | _ => [{ addr := b.outAddr, data := receipt ++ zeros gap ++ recs }]

/-- A receipt's last signature has been made: it is issued (R320, R332, R333, R334). One whose command was lost with a
Control Region restart is discarded (R265). -/
def State.issueReceipt (s : State) (b : Building) : State :=
  if (s.inFlight b.hdr).isNone then s.voidReceipt b 0x0413
  else
    let sig := b.sigEc.getD [] ++ b.sigPq.getD []
    let receipt := coseSign1 (coseProt (formAlg b.alg) (s.formKid b.alg)) b.payload sig
    let s := { s with rfg := { s.rfg with building := s.rfg.building.filter (fun x => x.id != b.id), issued := satAdd 32 s.rfg.issued 1,
                                          heldHit := s.rfg.heldHit || b.flags.testBit 0 } }
    let s := s.countIn b.period b.queue (fun c =>
      if b.batch.isEmpty then { c with issued := c.issued + 1 }
      else { c with batches := c.batches + 1, batchDigests := c.batchDigests + b.batch.length })
    let r : Reply :=
      { result := le 8 b.seq ++ le 8 b.psdGen ++ le 2 receipt.length ++ le 2 b.flags ++ le 1 b.format ++ le 1 b.alg ++ zeros 2, out := b.out receipt,
        issue := some { queue := b.queue, period := b.period, seq := b.seq, digests := b.batch.length } }
    complete b.hdr (if b.deprived then { r with status := 0x0801, rung := 3 } else r) s

/-- s with the receipt under construction id changed. -/
def State.updBuilding (s : State) (id : Nat) (f : Building → Building) : State :=
  { s with rfg := { s.rfg with building := s.rfg.building.map (fun b => if b.id = id then f b else b) } }

/-- One signature of receipt id by operation op has been made on a lane; the last one issues the receipt. -/
def State.receiptSigned (s : State) (id op : Nat) (deprived : Bool) : State :=
  match s.rfg.building.find? (fun b => b.id == id) with
  | none => s
  | some b =>
    let k := s.cru.store
    let tbs := sig1Input (coseProt (formAlg b.alg) (s.formKid b.alg)) b.payload
    let make (alg : Nat) (key : Bytes) (n : Nat) : Bytes := signature alg key s.cru.pubs.receiptPq tbs s.draws n
    let key := if op = 0x02 then k.receipt384 else if op = 0x01 then k.receipt256 else if op = 0x05 then k.receiptEd else k.receiptPq
    if key.isEmpty then s.voidReceipt b 0x04B6
    else
    let sig := if op = 0x02 then make algP384 k.receipt384 96 else if op = 0x01 then make algP256 k.receipt256 64
      else if op = 0x05 then make algEd k.receiptEd 64 else make algPq k.receiptPq 3309
    let b := { b with opsLeft := b.opsLeft - 1, deprived := b.deprived || deprived,
                      sigEc := if op = 0x0A then b.sigEc else some sig, sigPq := if op = 0x0A then some sig else b.sigPq }
    let s := s.drawn.updBuilding id (fun _ => b)
    if b.opsLeft = 0 then s.issueReceipt b else s

/-! ### The commands (Table 9-8) -/

/-- The snapshot of a receipt, and its signing operations (R312, R315, R317). -/
def State.snapshot (s : State) (h : Hdr) (a : Ask) : State :=
  let pending := s.psdPending
  let c := s.rfg.counts.get a.queue {}
  let seq := (s.rfg.base + c.nextSeq) % 2 ^ 64
  let period := (s.rfg.period.map Period.id).getD 0
  let (wall, wf, s) := s.receiptWall
  let flags := wf + 4 * b2n s.emb.dmtGap + 8 * b2n pending + (if a.format = 2 then preimageFlags s.atr.preimage else 0)
  let id := s.rfg.nextBuild
  let b : Building :=
    { id := id, hdr := h, queue := a.queue, seq := seq, psdGen := s.atr.gen, period := period, flags := flags, format := a.format,
      alg := a.alg, payload := s.receiptPayload a seq period flags wall, batch := if a.isBatch then a.digests else [], outAddr := a.outAddr,
      opsLeft := (formOps a.alg).length }
  let s := s.updCount a.queue (fun c =>
    { c with nextSeq := c.nextSeq + 1, span := some (match c.span with
        | none => (seq, seq)
        | some (lo, hi) => (min lo seq, max hi seq)) })
  let s := { s with rfg := { s.rfg with building := s.rfg.building ++ [b], nextBuild := id + 1 } }
  if !s.clusterDrbg && a.alg != 3 then s.voidReceipt b 0x0593
  else (formOps a.alg).foldl (fun t op => t.submitOp { op := op, cls := t.classOf a.queue, queue := a.queue, req := .receipt id }) s

/-- A receipt command runs: refused and counted, or its snapshot is taken once a lane is there for its hashes (R205). -/
def State.startReceipt (s : State) (h : Hdr) (a : Ask) (outSize : Nat) : Option Reply × State :=
  let st := s.receiptRefusal a outSize
  if st ≠ 0 then (some (err st), s.countRefused a.queue)
  else if !s.laneFor h then (none, s.waitLane h .bellows)
  else (none, s.snapshot h a)

/-- The digest lengths that receipts take. -/
def digestLenOk (n : Nat) : Bool := n == 32 || n == 48 || n == 64

/-- RECEIPT_SIGN. -/
def execReceiptSign (h : Hdr) (format alg digestLen outSize digestAddr outAddr : Nat) (data : Bytes) (s : State) : Res :=
  let data := s.inputOf h digestAddr digestLen data
  .next (command (opReceiptSign.on (le 1 format ++ le 1 alg ++ le 1 digestLen ++ zeros 1 ++ le 4 outSize ++ le 8 digestAddr ++ le 8 outAddr)) h
    (decide (format ≤ 2 ∧ alg ≤ 4) && digestLenOk digestLen && s.readAddrOk h digestAddr digestLen && s.writeAddrOk h outAddr) s fun h t =>
    let q := t.queueOf h.src
    let r := t.receiptRec q
    t.startReceipt h { queue := q, format := if format = 0 then r.1 else format, alg := if alg = 0 then r.2.1 else alg, outAddr := outAddr,
                       digests := [fixLen digestLen data] } outSize)

/-- RECEIPT_BATCH. -/
def execReceiptBatch (h : Hdr) (format alg digestLen count outSize listAddr outAddr : Nat) (data : Bytes) (s : State) : Res :=
  let data := s.inputOf h listAddr (digestLen * count) data
  .next (command (opReceiptBatch.on (le 1 format ++ le 1 alg ++ le 1 digestLen ++ zeros 1 ++ le 2 count ++ zeros 2 ++ le 4 outSize ++ zeros 4 ++ le 8 listAddr ++ le 8 outAddr)) h
    (decide ((format = 0 ∨ format = 2) ∧ alg ≤ 4 ∧ 1 ≤ count ∧ count ≤ 256) && digestLenOk digestLen && s.readAddrOk h listAddr (digestLen * count) &&
      s.writeAddrOk h outAddr) s fun h t =>
    let q := t.queueOf h.src
    let r := t.receiptRec q
    t.startReceipt h { queue := q, format := 2, alg := if alg = 0 then r.2.1 else alg, outAddr := outAddr, isBatch := true,
                       digests := (List.range count).map (fun i => slice data (digestLen * i) digestLen) } outSize)

/-- An entry of RECEIPT_KEYS: kid, code, key. -/
def keyEntry (kid : Bytes) (code : Nat) (key : Bytes) : Bytes :=
  fixLen 8 kid ++ le 1 code ++ [0] ++ le 2 key.length ++ zeros 4 ++ key ++ zeros (padTo 8 key.length)

/-- The six entries of RECEIPT_KEYS. -/
def State.receiptKeys (s : State) : Bytes :=
  let p := s.cru.pubs
  keyEntry (kidOf p.receipt384) 1 (fixLen 97 p.receipt384) ++ keyEntry (kidOf p.receipt256) 2 (fixLen 65 p.receipt256) ++
  keyEntry (kidOf p.receiptEd) 3 (fixLen 32 p.receiptEd) ++ keyEntry (kidOf p.receiptPq) 0 (fixLen 1952 p.receiptPq) ++
  keyEntry (s.formKid 4) 4 [] ++ keyEntry (kidOf p.metering) 5 (fixLen 97 p.metering)

/-- RECEIPT_KEYS. -/
def execReceiptKeys (h : Hdr) (hostAddr : Nat) (s : State) : Res :=
  .next (commandR (opReceiptKeys.on (le 8 hostAddr)) h (s.writeAddrOk h hostAddr) s fun _ t => okOut hostAddr t.receiptKeys (le 4 t.receiptKeys.length))

/-! ### Checkpoints (R316, R326, R363) -/

/-- The forge checkpoint is written to MRAM. -/
def State.writeCheckpoint (s : State) : State :=
  { s with rfg := { s.rfg with checkpointAt := s.now, checkpoint :=
      { counts := s.rfg.counts, base := s.rfg.base, lastWall := s.rfg.lastWall, lastEpoch := s.rfg.lastEpoch, psdGen := s.atr.gen + s.atr.skip } } }

/-- FORGE_CHECKPOINT: every 10 ms. -/
def execForgeCheckpoint (s : State) : Res :=
  if s.boot.forgeUp ∧ s.rfg.checkpointAt + 10000 ≤ s.now then .next s.writeCheckpoint else .next s

/-- The forge at a device start: it goes on from its checkpoint, past every number and wall time that it may have issued
(R316, R326, R342, R363): the first generation computed is the checkpointed one plus 65,536. -/
def State.forgeStart (s : State) : State :=
  let c := s.rfg.checkpoint
  { s with
    rfg := { s.rfg with period := s.rfg.period.map (fun p => { p with flags := p.flags ||| 4 ||| (if s.emb.dmtGap then 32 else 0) }),
                        counts := c.counts, base := c.base + 65536, lastWall := c.lastWall + 10000000, lastEpoch := c.lastEpoch, building := [],
                        issued := 0, voided := 0, refused := 0, extendHit := false, heldHit := false, checkpointAt := s.now }
    atr := { s.atr with gen := c.psdGen, skip := 65535, preimage := [], psd := [], history := [], oldestGen := 0 } }

end Sys2Proof.Machine
end

