-- ==== Sys2Proof/Machine/Hammer.lean ====
section
/-! DEFINITION. Chapter 7's rows: PK_OP and the Hammer commands, the end of operations, tests, promotions and refills; and
the reseeds of the DRBG instances that serve the lanes. -/
namespace Sys2Proof.Machine

/-! ### Registers (Tables 7-8 to 7-12) -/

/-- Lanes in a state. -/
def State.lanesIn (s : State) (st : LaneState) : Nat := ((List.range 18).filter (fun n => (s.lane n).state == st)).length

/-- HMA_STATUS. -/
def State.hmaStatus (s : State) : Nat :=
  let n := s.serviceLanes.length
  put 0 5 n + put 5 2 (s.lanesIn .spare) + put 7 5 (s.lanesIn .retired) + put 12 1 (b2n (s.boot.bundleIn && decide (n < 16))) +
  put 13 1 (b2n (n == 0)) + put 14 1 (b2n s.hma.retireHit) + put 15 1 (b2n s.hma.invariantHit)

/-- HMA_LOAD. -/
def State.hmaLoad (s : State) : Nat :=
  put 0 8 s.hma.utilPct + put 8 5 s.hma.budget + put 13 3 (s.runningCount (fun o => isLong o.op)) + put 16 8 (min s.hma.waitE 255)

/-- HMA_POOL. -/
def State.hmaPool (s : State) : Nat :=
  put 0 12 (s.poolTotal 1) + put 12 12 (s.poolTotal 0) + put 24 1 (b2n s.hma.p384EmptyHit) + put 25 1 (b2n s.hma.p256EmptyHit)

/-- The version word at offset 0x18. -/
def State.hmaVersion (s : State) : Nat := put 0 8 s.hma.bundleSvn + put 8 24 s.hma.mcBuild

/-- HMA_LANE_n. -/
def State.hmaLane (s : State) (n : Nat) : Nat :=
  let l := s.lane n
  put 0 3 l.state.code + put 3 2 l.fails + put 5 2 (clusterOf n) + put 7 5 l.standsFor + put 12 4 ((l.running.map HOp.op).getD 0)

/-! ### PK_OP (R246, R276, R277) -/

/-- Operations that answer VALID only. -/
def isVerify (op : Nat) : Bool :=
  op == 0x03 || op == 0x04 || op == 0x06 || op == 0x07 || op == 0x0B || op == 0x0D

/-- The output length of an operation (Table 7-2). -/
def pkOutLen (op : Nat) : Nat :=
  match op with
  | 0x01 => 64
  | 0x02 => 96
  | 0x05 => 64
  | 0x08 => 384
  | 0x09 => 145
  | 0x0A => 3309
  | 0x0C => 1120
  | _ => 0

/-- IN_LEN and the length fields are as the operation's layout has them (Table 7-2, R277). -/
def pkInLenOk (op inLen : Nat) (input : Bytes) : Bool :=
  match op with
  | 0x01 => inLen == 64
  | 0x02 => inLen == 96
  | 0x03 => inLen == 161
  | 0x04 => inLen == 241
  | 0x05 => decide (33 ≤ inLen ∧ inLen ≤ 4128)
  | 0x06 => decide (97 ≤ inLen ∧ inLen ≤ 4192)
  | 0x07 => inLen == 824
  | 0x08 => inLen == 1016
  | 0x09 => inLen == 145
  | 0x0A => inLen == 4096
  | 0x0B => inLen == 5325
  | 0x0C => inLen == 1184
  | 0x0D =>
    let sig := beNat (slice input 60 4)
    decide (sig ≤ 12288 ∧ 64 + sig + 1 ≤ inLen ∧ inLen ≤ 64 + sig + 4096)
  | _ => false

/-- What a PK_OP that ran ends with: its output, whether it verified, its attempts and its lane. -/
def State.pkReply (s : State) (op : Nat) (input : Bytes) (addr attempts lane : Nat) : Reply :=
  let raw := Config.pkResult op input s.draws
  let valid := if isVerify op then b2n (pkRangeOk op input && raw == [1]) else 0xFF
  let out := fixLen (pkOutLen op) raw
  { result := le 2 (pkOutLen op) ++ le 1 valid ++ le 1 attempts ++ le 1 lane,
    out := if out.isEmpty then [] else [{ addr := addr, data := out }] }

/-- LMS_VERIFY ends: it has taken no Hammer lane (R247). -/
def State.lmsReply (s : State) (h : Hdr) (input : Bytes) (outAt : Nat) : Reply × State :=
  (s.pkReply 0x0D input outAt 1 0xFF, s.updCount (s.queueOf h.src) (fun c => { c with pkOps := c.pkOps + 1 }))

/-- The LMS verifications that wait are carried out once a Bellows lane is shared (R205, R247). -/
def State.serveLms (s : State) : State :=
  if s.bde.lms.isEmpty || !s.backgroundLane then s
  else s.bde.lms.foldl (fun t j =>
    let r := t.lmsReply j.hdr j.input j.outAt
    complete j.hdr r.1 r.2) { s with bde := { s.bde with lms := [] } }

/-- PK_OP. -/
def execPkOp (h : Hdr) (operation inLen bufAddr : Nat) (data : Bytes) (s : State) : Res :=
  let data := s.inputOf h bufAddr inLen data
  .next (command (opPkOp.on (le 1 operation ++ zeros 3 ++ le 4 inLen ++ le 8 bufAddr)) h (s.readAddrOk h bufAddr inLen) s fun h t =>
    let input := fixLen inLen data
    let outAt := bufAddr + inLen + padTo 64 inLen
    if operation < 1 ∨ 0x0D < operation then (some (err 0x0161), t)
    else if !pkInLenOk operation inLen input || !pkInputOk operation input then (some (err 0x0160), t)
    else if operation = 0x0D then
      if t.backgroundLane then (some (t.lmsReply h input outAt).1, (t.lmsReply h input outAt).2)
      else (none, { t with bde := { t.bde with lms := t.bde.lms ++ [{ hdr := h, input := input, outAt := outAt }] } })
    else if t.hammerUnavailable then (some (err 0x0360), t)
    else if needsRandom operation && !t.clusterDrbg then (some (err 0x0593), t)
    else
      let q := t.queueOf h.src
      (none, t.submitOp { op := operation, cls := t.classOf q, queue := q, input := input, req := .pkOp h bufAddr outAt }))

/-- HAMMER_STATUS. -/
def execHammerStatus (h : Hdr) (hostAddr : Nat) (s : State) : Res :=
  .next (commandR (opHammerStatus.on (le 8 hostAddr)) h (s.writeAddrOk h hostAddr) s fun _ t =>
    okOut hostAddr (le 4 t.hmaStatus ++ le 4 t.hmaLoad ++ le 4 t.hmaPool ++ le 4 t.hmaVersion ++ le 4 0x3FFE ++ zeros 12 ++
      (List.range 18).flatMap (fun n =>
        le 4 (t.hmaLane n) ++ le 8 (t.lane n).opsDone ++ le 2 (t.lane n).lifetimeFails ++ zeros 2)))

/-- HAMMER_LANE_TEST: the extended test begins. -/
def execHammerLaneTest (h : Hdr) (lane : Nat) (s : State) : Res :=
  .next (command (opHammerLaneTest.on (le 1 lane)) h (decide (lane < 18)) s fun h t =>
    let l := t.lane lane
    if !(l.state == .retired || l.state == .spare) then (some (err 0x0460), t)
    else (none, t.updLane lane (fun l => { l with coming := if l.coming = 2 then 2 else 3, testHdr := l.testHdr ++ [h] })))

/-! ### The end of an operation (R258 to R265, R275) -/

/-- A requester learns that its operation cannot be carried out. -/
def State.opRefused (s : State) (o : HOp) (status : Nat) : State :=
  let s := s.endYield o
  match o.req with
  | .pkOp h _ _ => complete h (err status) s
  | .receipt b =>
    match s.rfg.building.find? (fun x => x.id == b) with
    | some x => s.voidReceipt x status
    | none => s
  | .refill _ => s
  | .period _ => s
  | .own => s
  | .lost => s

/-- With no lane in service every Hammer operation completes with HAMMER_UNAVAILABLE (R264). -/
def State.refuseAll (s : State) : State :=
  if s.hammerUnavailable then
    let ops := s.hma.waiting
    ops.foldl (fun t o => t.opRefused o 0x0360) { s with hma := { s.hma with waiting := [] } }
  else s

/-! ### Rows that need lanes for work of the device's own (R254 to R256, R264) -/

/-- The outcome t of a row whose own work tried its lanes: where it lacked some the row leaves the device as it was, and the work
waits; where it took some, and the last lane in service has retired, what waits is refused. A change of SERVICE_STATE is noted
(R506). -/
def State.ownDone (s t : State) : State :=
  match t.hma.ownWait with
  | .none => State.noteService s t.refuseAll.placeWork
  | .trying => State.noteService s { t with hma := { t.hma with ownWait := s.hma.ownWait } }
  | .bellows => s
  | w => ({ s with hma := { s.hma with ownWait := w } }).powerForWork

/-- A state in which the work of a row found no lane. -/
def State.waitsLane (t : State) : Bool := t.ownWaits || t.hma.ownWait == .bellows

/-- A row's outcome, its own work tried on the lanes. -/
def ownRow (s : State) (row : State → State) : State := s.ownDone (row s.tryOwn)

/-- A command's body, its own work tried on the lanes: one that finds none waits, and its row, sent again, carries it out. -/
def ownBody (body : Hdr → State → Option Reply × State) (h : Hdr) (t : State) : Option Reply × State :=
  let r := body h t.tryOwn
  if r.2.waitsLane then (none, (t.ownDone r.2).waitLane h r.2.hma.ownWait) else (r.1, t.ownDone r.2)

/-- The same of a body that always ends its command. -/
def ownBodyC (body : Hdr → State → Reply × State) : Hdr → State → Option Reply × State :=
  ownBody (fun h t => (some (body h t).1, (body h t).2))

/-- An operation's result leaves lane n for its requester (R265, R275, R276). -/
def State.deliverOp (s : State) (n : Nat) (o : HOp) : State :=
  let late := o.deprived.isSome
  let s := (if late then { s with hma := { s.hma with yields := satAdd 32 s.hma.yields 1 } } else s).endYield o
  match o.req with
  | .pkOp h _ outAt =>
    let r := s.pkReply o.op o.input outAt (o.tried.length + 1) n
    let s := if (s.inFlight h).isSome then s.updCount o.queue (fun c => { c with pkOps := c.pkOps + 1 }) else s
    complete h (if late then { r with status := 0x0801, rung := 3 } else r) s.drawn
  | .receipt b => s.receiptSigned b o.op late
  | .period id => s.finishPeriod id
  | .refill _ => s
  | .own => s
  | .lost => s


/-- An operation whose result failed its invariant is tried on another lane, at most three in all (R260). -/
def State.retryOp (s : State) (n : Nat) (o : HOp) : State :=
  let o := { o with retry := true, tried := o.tried ++ [n] }
  let other := s.serviceLanes.any (fun l => !o.tried.contains l)
  if s.hammerUnavailable then s.opRefused o 0x0360
  else if 3 ≤ o.tried.length || !other then (s.log .forge 0x0303 2 6 n { value := o.op }).opRefused o 0x0560
  else if needsRandom o.op && !s.clusterDrbg then s.opRefused o 0x0593
  else { s with hma := { s.hma with waiting := insertOp o s.hma.waiting } }

/-- The effect of HAMMER_OP_COMPLETE. -/
def State.opComplete (s : State) (lane : Nat) (holds : Bool) : State :=
  match (s.lane lane).running with
  | none => s
  | some o =>
    match o.req with
    | .refill _ => s
    | _ =>
      if holds then
        (((s.updLane lane (fun l => { l.good with running := none })).deliverOp lane o).placeWork)
      else
        let s := s.updLane lane (fun l => { l with running := none })
        ((((s.invariantFailed lane o.op).retryOp lane o).refuseAll).placeWork)

/-- HAMMER_OP_COMPLETE; a change of SERVICE_STATE is noted (R506). -/
def execHammerOpComplete (lane : Nat) (holds : Bool) (s : State) : Res := .next (State.noteService s (s.opComplete lane holds))

/-- The effect of POOL_REFILL_DONE (R250, R253). -/
def State.refillDone (s : State) (lane : Nat) (holds : Bool) : State :=
  match (s.lane lane).running with
  | none => s
  | some o =>
    match o.req with
    | .refill c =>
      let s := s.updLane lane (fun l => { l with running := none })
      if holds then
        let k := lotKey (clusterOf lane) c lane
        let s := if s.poolOf (clusterOf lane) c < 1024 then
            { s with hma := { s.hma with pairs := s.hma.pairs.upd k {} (fun x => { x with untested := x.untested + 1 }) } }
          else s
        s.placeWork
      else (((s.invariantFailed lane (c + 1)).refuseAll).placeWork)
    | _ => s

/-- POOL_REFILL_DONE; a change of SERVICE_STATE is noted (R506). -/
def execPoolRefillDone (lane : Nat) (holds : Bool) (s : State) : Res := .next (State.noteService s (s.refillDone lane holds))

/-- The effect of KNOWN_ANSWER_TEST_DONE: a TESTING lane's tests (R261), or the extended test of HAMMER_LANE_TEST (Table 7-13). -/
def State.testDone (s : State) (lane : Nat) (passed : Bool) : State :=
  let l := s.lane lane
  if l.state = .testing then
    if passed then (((s.updLane lane (fun l => { l with state := .active, testOp := 0 })).provePairs lane).placeWork)
    else (((s.laneFails lane).refuseAll).placeWork)
  else match l.testHdr with
    | [] => s
    | hs =>
      let s := s.updLane lane (fun l => { l with coming := if l.coming = 2 then 2 else 0, testHdr := [] })
      let s := s.log .forge 0x0304 3 6 lane { cause := 1, value := b2n passed }
      let s : State :=
        if passed then
          if l.state = .retired then s.updLane lane (fun l => { l with state := .spare, fails := 2 }) else if l.coming = 2 then s else s.fillPlace
        else if l.state = .retired then s
        else (s.laneFails lane).refuseAll
      completeAll hs (ok (le 1 (b2n passed))) s

/-- KNOWN_ANSWER_TEST_DONE; a change of SERVICE_STATE is noted (R506). -/
def execKnownAnswerTestDone (lane : Nat) (passed : Bool) (s : State) : Res := .next (State.noteService s (s.testDone lane passed))

/-- The effect of SPARE_PROMOTION_DONE (R245, R267). -/
def State.promotionDone (s : State) (lane : Nat) (passed : Bool) : State :=
  let l := s.lane lane
  if l.state ≠ .spare ∨ l.coming ≠ 2 then s
  else if passed then (s.updLane lane (fun l => { l with state := .active, coming := 0 })).placeWork
  else
    let s := s.laneFails lane
    if (s.lane lane).state = .retired then s
    else (s.updLane lane (fun l => { l with state := .notReleased, coming := 0, standsFor := 31 })).promoteSpare l.standsFor

/-- SPARE_PROMOTION_DONE; a change of SERVICE_STATE is noted (R506). -/
def execSparePromotionDone (lane : Nat) (passed : Bool) (s : State) : Res := .next (State.noteService s (s.promotionDone lane passed))

/-! ### Reseeds (R432, R433) -/

/-- When no instance serves the Hammer clusters any more, the operations that wait and draw from one complete with
ENTROPY_FAILED (R433). -/
def State.refuseRandom (s : State) : State :=
  if s.clusterDrbg then s
  else
    let ops := s.hma.waiting.filter (fun o => needsRandom o.op)
    let s := { s with hma := { s.hma with waiting := s.hma.waiting.filter (fun o => !needsRandom o.op) } }
    (ops.foldl (fun (t : State) o => t.opRefused o 0x0593) s).placeWork

/-- An instance after a passing reseed (R432). -/
def Drbg.reseeded (now : Nat) : Drbg := { generating := true, requests := 0, lastReseed := now }

/-- DRBG_RESEED (R432, R433): due after 65,536 requests or 100 ms; without a passing reseed the instance stops. -/
def execDrbgReseed (unit : Nat) (gathered : Bool) (s : State) : Res :=
  let d := s.cru.drbg unit
  if 4 ≤ unit ∨ !d.generating ∨ (d.requests < 65536 ∧ s.now < d.lastReseed + 100000) then .next s
  else if gathered then
    .next { s with cru := { s.cru.updDrbg unit (fun _ => Drbg.reseeded s.now) with reseeds := satAdd 32 s.cru.reseeds 1 } }
  else
    let c := s.cru.updDrbg unit (fun d => { d with generating := false, stoppedAt := s.now, lastReseed := s.now })
    let s : State := { s with cru := { c with entropy := if s.cru.entropy == .failed then .failed else .degraded, entropyHit := true } }
    .next s.refuseRandom

/-- The DMT at which the last instance stopped generating. -/
def Crucible.lastStop (c : Crucible) : Nat := max (max c.d0.stoppedAt c.d1.stoppedAt) (max c.d2.stoppedAt c.d3.stoppedAt)

/-- ENTROPY_RETRY (R433): a stopped instance retries every 100 ms; when none has generated for 1 s, ENTROPY reads FAILED
until the next device start. -/
def execEntropyRetry (unit : Nat) (gathered : Bool) (s : State) : Res :=
  let d := s.cru.drbg unit
  if 4 ≤ unit ∨ d.generating ∨ s.cru.entropy == .starting ∨ s.now < d.lastReseed + 100000 then .next s
  else if gathered then
    let c := { s.cru.updDrbg unit (fun _ => Drbg.reseeded s.now) with reseeds := satAdd 32 s.cru.reseeds 1 }
    let all := c.d0.generating && c.d1.generating && c.d2.generating && c.d3.generating
    let s : State := { s with cru := { c with entropy := if c.entropy == .degraded && all then .good else c.entropy } }
    .next s.placeWork
  else
    let s := { s with cru := s.cru.updDrbg unit (fun d => { d with lastReseed := s.now }) }
    if !s.anyDrbg ∧ s.cru.lastStop + 1000000 ≤ s.now ∧ s.cru.entropy != .failed then
      let s := { s with cru := { s.cru with entropy := .failed, entropyHit := true } }
      .next (s.log .control 0x0804 2 0 0)
    else .next s

/-! ### Lane power (R273) -/

/-- LANE_POWER_UP_READY (R273). -/
def execLanePowerUpReady (lane : Nat) (s : State) : Res :=
  let l := s.lane lane
  if l.state = .gated ∧ l.coming = 1 then .next (s.updLane lane (fun l => { l with state := .active, coming := 0 })).placeWork
  else .next s

end Sys2Proof.Machine
end

