-- ==== Sys2Proof/Machine/Frames.lean ====
section
/-! DEFINITION. Chapter 8: ZCP over I3C, SMBus, UART0 and the JTAG mailbox, the session commands, the outbox, and the
writing of completions. -/
namespace Sys2Proof.Machine

/-! ### Frames (Table 8-16A) -/

/-- One step of the reflected CRC-32C on its register. -/
def crcBit (r : Nat) : Nat := if r % 2 = 1 then (r / 2) ^^^ 0x82F63B78 else r / 2

/-- CRC-32C of bytes (R306): reflected, initial and final value all ones. -/
def crc32c (b : Bytes) : Nat :=
  (b.foldl (fun r x => (List.range 8).foldl (fun a _ => crcBit a) (r ^^^ x.toNat)) 0xFFFFFFFF) ^^^ 0xFFFFFFFF

/-- A frame: type, first and last flags, message number, fragment index, payload. -/
def frameBytes (type msgSeq frag : Nat) (first last : Bool) (payload : Bytes) : Bytes :=
  let b := le 1 type ++ le 1 (b2n first + 2 * b2n last) ++ le 1 msgSeq ++ [0] ++ le 2 frag ++ le 2 payload.length ++ payload
  b ++ le 4 (crc32c b)

/-- A NAK with a status (R307). -/
def nakFrame (msgSeq status : Nat) : Bytes := frameBytes 0x04 msgSeq 0 true true (le 2 status)

/-- The frames that carry a message in fragments of at most n bytes. -/
def framesOf (type msgSeq n : Nat) (msg : Bytes) : List Bytes :=
  let parts := chunks (max n 1) (msg.length + 1) msg
  (parts.zip (List.range parts.length)).map (fun p => frameBytes type msgSeq p.2 (p.2 == 0) (p.2 + 1 == parts.length) p.1)

/-- The response message of a completion: the entry, the long result if there is one, the output data (R306). -/
def Completion.response (c : Completion) : Bytes :=
  c.bytes 0 true ++ (if 24 < c.result.length then c.result else []) ++ c.out.flatMap HostWrite.data

/-! ### The message being assembled (R307) -/

/-- What a frame leads to: a session and an answer made ready, or a complete command message. -/
inductive FrameEffect where
  | answer (x : Session)
  | message (x : Session) (msgSeq : Nat) (entry data : Bytes)
  deriving DecidableEq, Repr

/-- A NAK is made ready and the message under assembly is discarded. -/
def Session.nak (x : Session) (msgSeq status : Nat) : Session :=
  { x with building := none, frames := x.frames ++ [nakFrame msgSeq status] }

/-- A response or NAK is announced by an IBI where the target has one (Table 8-17). -/
def Session.announced (x : Session) : Session := { x with ibi := true }

/-- A message whose last fragment has come. -/
def Session.finish (x : Session) (msgSeq : Nat) (msg : Bytes) : FrameEffect :=
  if x.lastSeq = some msgSeq then
    .answer { x with building := none, frames := x.frames ++ framesOf 0x02 msgSeq x.maxFragment x.lastResponse }
  else if msg.length < 64 ∨ 64 + 8388608 < msg.length then .answer (x.nak msgSeq 0x0105)
  else .message { x with building := none, running := some msgSeq } msgSeq (msg.take 64) (msg.drop 64)

/-- The fragment being waited for is more than 100 ms late (R307). -/
def Session.late (x : Session) (now : Nat) : Bool := x.building.isSome && decide (x.lastFragAt + 100000 < now)

/-- A frame arrives at a session (R307). -/
def Session.receive (x : Session) (now : Nat) (f : Bytes) : FrameEffect :=
  let len := fld f 6 2
  let seq := fld f 2 1
  let frag := fld f 4 2
  let flags := fld f 1 1
  if f.length ≠ 12 + len ∨ x.maxFragment < len ∨ fld f (8 + len) 4 ≠ crc32c (f.take (8 + len)) then .answer (x.nak seq 0x0104)
  else if fld f 0 1 ≠ 0x01 then .answer x
  else if x.running.isSome then .answer (x.nak seq 0x0106)
  else
    let payload := slice f 8 len
    let next : Option Bytes := match x.building with
      | none => if flags.testBit 0 && frag == 0 then some [] else none
      | some (m, n, b) => if m = seq ∧ n = frag ∧ !flags.testBit 0 ∧ !x.late now then some b else none
    match next with
    | none => .answer (x.nak seq 0x0105)
    | some b =>
      let msg := b ++ payload
      if flags.testBit 1 then x.finish seq msg
      else .answer { x with building := some (seq, frag + 1, msg), lastFragAt := now }

/-- One step of the SMBus PEC, the CRC-8 of polynomial x^8 + x^2 + x + 1, on its register. -/
def pecBit (r : Nat) : Nat := if 128 ≤ r then (2 * r) % 256 ^^^ 0x07 else 2 * r

/-- The PEC of an SMBus block write of a frame to an address: over the address byte, the command code, the count and the data
(Table 8-17). -/
def smbusPec (addr : Nat) (frame : Bytes) : Nat :=
  (le 1 (2 * addr) ++ le 1 0x5A ++ le 1 frame.length ++ frame).foldl (fun r x => (List.range 8).foldl (fun a _ => pecBit a) (r ^^^ x.toNat)) 0

/-- SMBUS_ZCP_ADDR in force (Table 8-6, R284). -/
def State.smbusAddr (s : State) : Nat := if s.boot.phase = .noPolicy ∨ s.image.isNone then 0x4C else fld (s.sec 0x20) 10 1

/-- The PEC byte that a master appended, if any, is right (Table 8-17). -/
def State.pecGood (s : State) (t : Target) (frame : Bytes) (pec : Option Nat) : Bool :=
  match pec with
  | some p => !(t == .sb0 || t == .sb1) || p == smbusPec s.smbusAddr frame
  | none => true

/-- Whether a frame passes its CRC. -/
def frameGood (f : Bytes) : Bool := decide (12 ≤ f.length) && fld f (f.length - 4) 4 == crc32c (f.take (f.length - 4))

/-- What UART0 has to send leaves at once: each frame behind its two start bytes (Table 8-17). -/
def State.sendUart (s : State) (t : Target) : State :=
  if t ≠ .uart0 ∨ s.cme.uart0.frames.isEmpty then s
  else { s.updSession .uart0 (fun x => { x with frames := [], ibi := false }) with
         io := { s.io with frame := s.cme.uart0.frames.flatMap (fun f => [0x5A, 0xA5] ++ f) } }

/-- FRAME_RECEIVED (R306, R307): a frame on a framed transport; on UART0 without its two start bytes, and a frame with a
bad CRC is not accepted there (Table 8-17) but answered under R307. A frame whose PEC is wrong is answered as one whose CRC is
(log entry 111). -/
def execFrameReceived (target : Target) (frame : Bytes) (s : State) (pec : Option Nat := none) : Res :=
  if !s.framedReady target then .next s
  else
    let s := if target = .uart0 ∧ frameGood frame then
        let s := s.updSession .uart0 (fun x => { x with revertAt := none })
        if s.boot.phase = .serialLoader then { s with boot := { s.boot with peerSeen := true } } else s
      else s
    if !s.pecGood target frame pec then .next (s.updSession target (fun x => (x.nak (fld frame 2 1) 0x0104).announced))
    else match (s.session target).receive s.now frame with
    | .answer x => .next ((s.updSession target (fun y => if x.frames = y.frames then x else x.announced)).sendUart target)
    | .message x _ entry data => .next ((s.updSession target (fun _ => x)).takeEntry (.framed target) entry data)


/-- The next response frame is taken from a target and appears on its bus. -/
def State.readFrame (s : State) (t : Target) : State :=
  let x := s.session t
  let s := s.updSession t (fun y => { y with frames := y.frames.drop 1, ibi := decide (1 < y.frames.length) })
  { s with io := { s.io with frame := (x.frames.head?).getD [] } }

/-- SMBUS_BLOCK_READ (Table 8-17): the next response frame, or a block of 0 bytes. -/
def execSmbusBlockRead (target : Target) (code : Nat) (s : State) : Res :=
  if (target = .sb0 ∨ target = .sb1) ∧ code = 0x5B ∧ s.boot.controlUp then .next (s.readFrame target) else .next s

/-- I3C_PRIVATE_READ (Table 8-17): the next response frame; the target NACKs, and nothing appears, when none is ready. -/
def execI3cPrivateRead (target : Target) (s : State) : Res :=
  if (target = .mb0 ∨ target = .mb1) ∧ s.boot.controlUp then .next (s.readFrame target) else .next s

/-- BAUD_REVERT (R299). -/
def execBaudRevert (s : State) : Res :=
  match s.cme.uart0.revertAt with
  | some t =>
    if t ≤ s.now ∧ s.boot.controlUp then
      .next (s.updSession .uart0 (fun x => { x with baud := x.oldBaud, revertAt := none })) else .next s
  | none => .next s

/-- JTAG_MAILBOX_FRAME (R438): a ZCP frame in the mailbox data register. -/
def execJtagMailboxFrame (frame : Bytes) (s : State) : Res :=
  if !s.boot.pwrOk then .next s
  else match s.cme.jtagSession.receive s.now frame with
    | .answer x => .next { s with cme := { s.cme with jtagSession := { x with frames := [] },
                                                      jtagResponse := if x.frames.isEmpty then s.cme.jtagResponse else x.frames.flatten } }
    | .message x _ entry data =>
      .next (({ s with cme := { s.cme with jtagSession := x } }).takeEntry .jtag entry data)

/-- FRAGMENT_TIMEOUT (R307, R438): a gap of more than 100 ms between fragments, of a framed target or the JTAG mailbox. -/
def execFragmentTimeout (src : Src) (s : State) : Res :=
  match src with
  | .pcie _ => .next s
  | .framed t =>
    let x := s.session t
    (match x.building with
     | some (m, _, _) =>
       if s.boot.controlUp && x.late s.now then .next ((s.updSession t (fun y => (y.nak m 0x0105).announced)).sendUart t) else .next s
     | none => .next s)
  | .jtag =>
    let x := s.cme.jtagSession
    (match x.building with
     | some (m, _, _) =>
       if s.boot.pwrOk && x.late s.now then
         .next { s with cme := { s.cme with jtagSession := { x with building := none }, jtagResponse := nakFrame m 0x0105 } }
       else .next s
     | none => .next s)

/-- DYNAMIC_ADDRESS_ASSIGNMENT (Table 8-17, Table 10-3): the controller assigns an address to the ZCP or MCTP target. -/
def execDynamicAddressAssignment (target : Target) (mctp : Bool) (address : Nat) (s : State) : Res :=
  if !s.boot.controlUp then .next s
  else
    let i : Option Nat := match target with
      | .mb0 => some 0
      | .mb1 => some 1
      | _ => none
    match i with
    | none => .next s
    | some i =>
      if mctp then .next { s with atr := { s.atr with mctpDyn := s.atr.mctpDyn.set i (address % 128) } }
      else .next (s.updSession target (fun x => { x with dynAddr := address % 128 }))

/-- SMBUS_CLOCK_LOW_TIMEOUT (Table 17-6): the target releases the bus, and the transfer under way is lost. -/
def execSmbusClockLowTimeout (target : Target) (s : State) : Res :=
  if (target = .sb0 ∨ target = .sb1) ∧ s.boot.controlUp then .next (s.updSession target (fun x => { x with busy := false })) else .next s

/-! ### Writing completions -/

/-- A session after it has sent the response of a completion (R307). -/
def Session.respond (x : Session) (c : Completion) (now : Nat) : Session :=
  let seq := x.running.getD 0
  let x := { x with running := none, lastSeq := some seq, lastResponse := c.response,
                    frames := x.frames ++ framesOf 0x02 seq x.maxFragment c.response, done := x.done.drop 1, ibi := true }
  if x.nextBaud = 0 then x
  else { x with oldBaud := x.baud, baud := x.nextBaud, nextBaud := 0, revertAt := some (now + 1000000) }

/-- COMPLETION_WRITE without what may follow it (R288, R292, R306): the oldest finished completion of a source is written. -/
def State.writeCompletion (s : State) (src : Src) : State :=
  match src with
  | .pcie q =>
    match (s.queue q).done with
    | c :: rest =>
      if s.boot.controlUp then ((s.updQueue q (fun x => { x with done := rest })).writeEntry q c).closeDone q else s
    | [] => s
  | .framed t =>
    match (s.session t).done with
    | c :: _ => if s.boot.controlUp then (s.updSession t (fun x => x.respond c s.now)).sendUart t else s
    | [] => s
  | .jtag =>
    match s.cme.jtagSession.done with
    | c :: _ =>
      let x := s.cme.jtagSession.respond c s.now
      { s with cme := { s.cme with jtagSession := { x with frames := [] }, jtagResponse := x.frames.flatten } }
    | [] => s

/-! ### Session commands (Table 8-12) -/

/-- The bus limit of MAX_FRAGMENT in a version (Table 8-17). -/
def fragmentLimit (t : Target) (version : Nat) : Nat :=
  match t with
  | .mb0 | .mb1 => if version = 0x12 then 1024 else 240
  | .sb0 | .sb1 => 240
  | .uart0 => 4096

/-- The highest version of Table 8-11 in a range. -/
def commonVersion (lo hi : Nat) : Option Nat := ([0x12, 0x11, 0x10] : List Nat).find? (fun v => decide (lo ≤ v ∧ v ≤ hi))

/-- UART0 reaches a rate within 1 % (R299): the rates from 115,200 to 3,000,000 baud. The spec gives no divider, so every
rate of that range counts as reachable (log entry 12). -/
def baudOk (b : Nat) : Bool := b == 0 || decide (115200 ≤ b ∧ b ≤ 3000000)

/-- SESSION_NEGOTIATE (R299). -/
def execSessionNegotiate (h : Hdr) (minVersion maxVersion baud maxFragment : Nat) (s : State) : Res :=
  .next (commandC (opSessionNegotiate.on (le 1 minVersion ++ le 1 maxVersion ++ zeros 2 ++ le 4 baud ++ le 2 maxFragment)) h (h.src != .framed .uart0 || baudOk baud) s fun h t =>
    match commonVersion minVersion maxVersion with
    | none => (err 0x0103, t)
    | some v =>
      match h.src with
      | .pcie q => (ok (le 1 (t.queue q).version), t)
      | .framed x =>
        let limit := fragmentLimit x v
        let n := if maxFragment = 0 then limit else min maxFragment limit
        let b := if x = .uart0 then baud else 0
        let t := t.updSession x (fun y => { y with version := v, maxFragment := n, nextBaud := b })
        let y := t.session x
        (ok (le 1 v ++ [0] ++ le 2 n ++ le 4 (if x = .uart0 then (if b = 0 then y.baud else b) else 0)), t)
      | .jtag =>
        let n := if maxFragment = 0 then 4096 else min maxFragment 4096
        let t := { t with cme := { t.cme with jtagSession := { t.cme.jtagSession with version := v, maxFragment := n } } }
        (ok (le 1 v ++ [0] ++ le 2 n ++ le 4 0), t))

/-- Queues granted to a function. -/
def State.grantedTo (s : State) (fn : Nat) : Nat := ((List.range 4096).filter (fun q => (s.grant q).fn == fn)).length

/-- The grant of a source's queue, and the queue (Table 8-16). -/
def State.sourceGrant (s : State) (src : Src) : Nat × Grant :=
  let q := s.queueOf src
  (q, if q = 0xFFFF then { fn := 0x40, priv := 0, weight := 0, maxDepth := 0 } else s.grant q)

/-- The CAPABILITIES data (Table 8-16). -/
def State.capabilities (s : State) (src : Src) : Bytes :=
  let (q, g) := s.sourceGrant src
  let framed := match src with
    | .pcie _ => false
    | _ => true
  let frag := match src with
    | .pcie _ => 0
    | .framed t => (s.session t).maxFragment
    | .jtag => s.cme.jtagSession.maxFragment
  [0x07] ++ le 1 (s.versionOf src) ++ le 1 g.fn ++ le 1 g.priv ++ le 2 q ++ le 1 g.cls ++ le 1 g.weight ++
  le 2 (if q = 0xFFFF then 0 else s.grantedTo g.fn) ++ le 2 (if q = 0xFFFF then 0 else 2 ^ g.maxDepth) ++
  le 2 (if framed then 0 else (fnCaps g.fn).vectors) ++ [0x03, 0x03, 0x01, 0x07] ++ le 2 frag ++ le 4 0x3FFE ++
  le 4 s.boot.fwVersion ++ zeros 36

/-- CAPABILITIES (R298). -/
def execCapabilities (h : Hdr) (hostAddr : Nat) (s : State) : Res :=
  .next (commandR (opCapabilities.on (le 8 hostAddr)) h (s.writeAddrOk h hostAddr) s fun h t => okOut hostAddr (t.capabilities h.src))

/-- ECHO (R298). -/
def execEcho (h : Hdr) (payload : Nat) (s : State) : Res :=
  .next (commandR (opEcho.on (le 8 payload)) h true s fun _ _ => ok (le 8 payload))

/-! ### The outbox's retries (R308) -/

/-- The message that OUTBOX_RETRY tries: while messages are held the oldest of them, once a second; else the first that is due
(R308). -/
def State.nextOut (s : State) : Option OutMsg :=
  match s.outboxHeld with
  | m :: _ => if m.dueAt ≤ s.now then some m else none
  | [] => s.cme.outbox.find? (fun m => decide (m.dueAt ≤ s.now))

/-- OUTBOX_RETRY (R308): the next unit of a message is tried, held messages ahead of new ones, and is acknowledged or not. -/
def execOutboxRetry (accepted : Bool) (s : State) : Res :=
  if !s.boot.controlUp then .next s
  else
    match s.nextOut with
    | none => .next s
    | some m =>
      if accepted then
        let l := if m.units.length ≤ 1 then s.cme.outbox.erase m
          else s.cme.outbox.map (fun x => if x = m then { m with units := m.units.drop 1, tries := if 9 ≤ m.tries then 9 else 0, dueAt := s.now } else x)
        .next { s with cme := { s.cme with outbox := l }, io := { s.io with mctp := m.units.take 1 } }
      else if m.tries < 8 then
        let n := { m with tries := m.tries + 1, dueAt := s.now + retryWait (m.tries + 1) }
        .next { s with cme := { s.cme with outbox := s.cme.outbox.map (fun x => if x = m then n else x) } }
      else if m.tries = 8 then .next (s.holdMessage m)
      else
        let n := { m with dueAt := s.now + 1000000 }
        .next { s with cme := { s.cme with outbox := s.cme.outbox.map (fun x => if x = m then n else x) } }

end Sys2Proof.Machine
end

