-- ==== Sys2Proof/Machine/Windup.lean ====
section
/-! DEFINITION. Chapter 14: the wind-up channels and the internal watchdog. -/
namespace Sys2Proof.Machine

/-- The value of a channel state (Table 14-1). -/
def ChState.code : ChState → Nat
  | .idle => 0
  | .first => 1
  | .running => 2
  | .sleep => 3
  | .reacquire => 4
  | .paused => 5

/-- Channel n. -/
def State.chan (s : State) (n : Nat) : Channel := s.wwu.channels.get n {}

/-- s with channel n changed by f. -/
def State.updChan (s : State) (n : Nat) (f : Channel → Channel) : State :=
  { s with wwu := { s.wwu with channels := s.wwu.channels.upd n {} f } }

/-- Channel n is a hardware channel (R467). -/
def State.hwChan (s : State) (n : Nat) : Bool := decide (n < 8) && (s.otpWord 113).testBit n

/-- FRACTION_n (Table 14-3). -/
def State.fraction (s : State) (n : Nat) : Nat := bits (s.otpWord (114 + n / 32)) (2 * (n % 32)) 2

/-- The length of the closed part of a period of p µs for an open-fraction code (R465). -/
def closedPart (code p : Nat) : Nat :=
  match code with
  | 0 => 0
  | 1 => p - p / 8
  | 2 => p - p / 4
  | _ => p - p / 2

/-- FLAGS of a channel record: bit 0 SLEEP_AWARE, 1 CLOCK_EMBER, 2 REGISTER_WIND (Table 14-2). -/
def recFlags (r : Bytes) : Nat := fld r 0 1

/-- The channel record of the policy in force (R466). -/
def State.chanRec (s : State) (n : Nat) : Bytes := slice (s.sec 0x31) (16 * n) 16

/-- The period of channel n in µs under record r (R466, R467). -/
def State.chanPeriod (s : State) (n : Nat) (r : Bytes) : Nat :=
  if s.hwChan n then 2 ^ bits (s.otpWord 113) (20 + 4 * n) 4 * 1000000
  else if allZero r then 1000000 else fld r 4 4 * 1000

/-- The first period of channel n in µs: FIRST_MS, or the period where FIRST_MS is 0. -/
def State.chanFirst (s : State) (n : Nat) (r : Bytes) : Nat :=
  if fld r 8 4 = 0 then s.chanPeriod n r else fld r 8 4 * 1000

/-- The channel's selected clock is the Ember time base (R467, Table 14-2; R473 in SLEEP). -/
def State.chanEmber (s : State) (n : Nat) (c : Channel) : Bool :=
  if c.state == .sleep || c.state == .reacquire then true
  else if s.hwChan n then (s.otpWord 113).testBit (8 + n)
  else (recFlags (if c.record.isEmpty then s.chanRec n else c.record)).testBit 1

/-- Whether the selected clock of channel n has stopped. -/
def State.chanStopped (s : State) (n : Nat) (c : Channel) : Bool :=
  if s.chanEmber n c then s.wwu.emberStopped else s.wwu.refStopped

/-- The channel is armed: not IDLE. -/
def Channel.armed (c : Channel) : Bool := c.state != .idle

/-- The clock at a period start: the channel returns to its selected clock once that runs again (R469). -/
def State.backup (s : State) (n : Nat) (c : Channel) : Bool := c.onBackup && s.chanStopped n c

/-- The stop monitor of channel n: where its selected clock has stopped, the channel counts on the other clock (R469). -/
def State.watchClock (s : State) (n : Nat) : State :=
  let c := s.chan n
  if s.chanStopped n c && !c.onBackup then
    let s := s.updChan n (fun c => { c with onBackup := true })
    let s := { s with wwu := { s.wwu with stopHit := true } }
    s.log .control 0x0903 3 9 n
  else s

/-- Channel n is armed: FIRST, TURN 0, under the record now in force (R463, R464). -/
def State.armChan (s : State) (n : Nat) : State :=
  let r := s.chanRec n
  (s.updChan n (fun c =>
    { c with state := .first, turn := 0, start := s.now, openAt := s.now, deadline := s.now + s.chanFirst n r, record := r,
             warned := false, afterExpiry := false, onBackup := false })).watchClock n

/-- A normal period of channel n starts: whole when open throughout, else with its closed part first (R465). -/
def State.startPeriod (s : State) (n : Nat) (whole : Bool) : State :=
  let c := s.chan n
  let p := s.chanPeriod n c.record
  (s.updChan n (fun c =>
    { c with state := .running, start := s.now, openAt := if whole then s.now else s.now + closedPart (s.fraction n) p,
             deadline := s.now + p, warned := false, afterExpiry := false,
             onBackup := s.backup n { c with state := .running } })).watchClock n

/-- ACTION of channel n under a record. -/
def recAction (r : Bytes) : Nat := fld r 1 1

/-- Channel n expires with a cause (R471). -/
def State.expire (s : State) (n cause : Nat) : State :=
  let c := s.chan n
  let s := { s with wwu := { s.wwu with expiryHit := true, expiries := satAdd 32 s.wwu.expiries 1 } }
  let s := s.updChan n (fun c => { c with expiries := min (c.expiries + 1) 255, lastCause := cause })
  let s := s.log .control 0x0901 3 9 n { cause := cause, value := c.turn }
  match recAction c.record with
  | 0 => (s.startPeriod n true).updChan n (fun c => { c with afterExpiry := true })
  | 1 =>
    let s := (s.startPeriod n true).updChan n (fun c => { c with afterExpiry := true })
    s.tellManagers 0x0901 3 4 n
  | _ => (s.recoverHeld n .watchdog).disarm n

/-- GUARD_MS of a record, in µs. -/
def guardUs (r : Bytes) : Nat := fld r 14 2 * 1000

/-- The drift of a wake wind in ms, as a 32-bit two's complement number. -/
def driftMs (now w : Nat) : Nat := ofSigned 32 (((now : Int) - (w : Int)) / 1000)

/-- An accepted wind (R464, R465, R473): its status, whether it was early, and the state it leaves. -/
def State.acceptWind (s : State) (n : Nat) (sleep : Bool) (sleepMs : Nat) : Nat × State :=
  let c := s.chan n
  let g := guardUs c.record
  let late := c.afterExpiry
  let s1 := s.updChan n (fun c => { c with turn := (c.turn + 1) % 65536, lastWind := s.now })
  if c.state == .running && decide (s.now < c.openAt) then (0x0620, s1.expire n 2)
  else
    let waking := c.state == .sleep || c.state == .reacquire
    let w := if c.state == .reacquire then c.deadline - 4 * g else c.deadline
    let missed := waking && decide (w + g < s.now)
    let early := waking && decide (s.now + g < w)
    let s2 := if missed || early then s1.log .control 0x0902 6 9 n { value := driftMs s.now w } else s1
    let s3 := if missed then { s2 with wwu := { s2.wwu with reacquireHit := true } } else s2
    let s4 :=
      if sleep then s3.updChan n (fun c => { c with state := .sleep, start := s.now, openAt := s.now,
                                                    deadline := s.now + sleepMs * 1000, warned := false, afterExpiry := false,
                                                    onBackup := s.backup n { c with state := .sleep } }) |>.watchClock n
      else s3.startPeriod n false
    (if late then 0x0621 else 0, s4)

/-- A wind that is refused is counted (R464, R483). -/
def State.badWind (s : State) : State := { s with wwu := { s.wwu with badKeys := satAdd 32 s.wwu.badKeys 1 } }

/-- Time to the deadline in ms (Table 14-9). -/
def State.remainingMs (s : State) (n : Nat) : Nat :=
  let c := s.chan n
  if c.state == .idle || c.state == .paused then 0 else min ((c.deadline - s.now) / 1000) (2 ^ 27 - 1)

/-- The first word of WWU_CH_n (Table 14-9). -/
def State.chanWord0 (s : State) (n : Nat) : Nat :=
  let c := s.chan n
  c.state.code + put 3 1 (b2n (s.hwChan n)) + put 4 2 (s.fraction n) + put 6 1 (b2n (s.chanEmber n { c with state := .idle })) +
  put 7 1 (b2n c.onBackup) + put 8 8 c.expiries + put 16 16 c.turn

/-- The second word of WWU_CH_n (Table 14-9). -/
def State.chanWord1 (s : State) (n : Nat) : Nat := put 0 27 (s.remainingMs n) + put 27 3 (s.chan n).lastCause

/-- Channels that are not IDLE. -/
def State.armedChannels (s : State) : List Nat := (s.wwu.channels.filter (fun p => p.2.armed)).map Prod.fst

/-- A Control Region restart pauses every armed channel (R472). -/
def State.pauseChannels (s : State) : State :=
  s.armedChannels.foldl (fun t n => t.updChan n (fun c => { c with state := .paused })) s

/-- Each PAUSED channel starts a new period, open throughout, with its TURN kept (R472). -/
def State.resumeChannels (s : State) : State :=
  s.armedChannels.foldl (fun t n => if (t.chan n).state == .paused then t.startPeriod n true else t) s

/-- The IWD expires: the trap and its record, and the hard timer of 2 ms starts (R474). -/
def State.iwdExpires (s : State) : State :=
  if s.wwu.iwd.running && s.wwu.iwd.hardTimer.isNone then
    let s := { s with wwu := { s.wwu with iwd := { s.wwu.iwd with expiries := min (s.wwu.iwd.expiries + 1) 255,
                                                                  hardTimer := some (s.now + 2000) } } }
    s.log .control 0x0904 3 0 0 { value := s.wwu.iwd.expiries }
  else s

/-- WIND (R464, R465, R473, R484). -/
def execWind (h : Hdr) (channel flags key sleepMs : Nat) (s : State) : Res :=
  .next (commandC (opWind.on (le 1 channel ++ le 1 flags ++ le 2 key ++ le 4 sleepMs)) h (decide (flags < 2) && (!flags.testBit 0 || decide (1 ≤ sleepMs ∧ sleepMs ≤ 86400000))) s fun h t =>
    let c := t.chan channel
    let r := if c.armed then c.record else t.chanRec channel
    if flags.testBit 0 ∧ !(recFlags r).testBit 0 then (err 0x0102, t)
    else if t.queueOf h.src ≠ fld r 2 2 ∨ t.queueOf h.src = 0xFFFF then (err 0x0202, t.badWind)
    else if c.state == .idle || c.state == .paused then (err 0x04D0, t.badWind)
    else if key ≠ c.turn then (err 0x0622, t.badWind)
    else
      let x := t.acceptWind channel (flags.testBit 0) sleepMs
      let c' := x.2.chan channel
      if x.1 = 0 then (ok (le 2 c'.turn ++ le 1 c'.state.code ++ [0] ++ le 4 (x.2.remainingMs channel)), x.2)
      else ({ status := x.1 }, x.2))

/-- WWU_WIND_WRITE (R483): a register wind. -/
def execWwuWindWrite (channel key : Nat) (s : State) : Res :=
  if !s.boot.controlUp then .next s
  else
    let c := s.chan (channel % 256)
    if c.state == .idle || c.state == .paused || !(recFlags c.record).testBit 2 || key % 65536 != c.turn then .next s.badWind
    else .next (s.acceptWind (channel % 256) false 0).2

/-- WATCHDOG_STATUS (R484). -/
def execWatchdogStatus (h : Hdr) (first count hostAddr : Nat) (s : State) : Res :=
  let n := if count = 0 then 256 else count
  .next (commandR (opWatchdogStatus.on (le 1 first ++ le 1 count ++ zeros 2 ++ le 8 hostAddr)) h (rangeOk first n 256 && s.writeAddrOk h hostAddr) s fun _ t =>
    okOut hostAddr ((List.range n).flatMap (fun i =>
      le 4 (t.chanWord0 (first + i)) ++ le 4 (t.chanWord1 (first + i)) ++ le 8 (t.chan (first + i)).lastWind)))

/-- WATCHDOG_ARM (R463, R467, R484). -/
def execWatchdogArm (h : Hdr) (channel action : Nat) (s : State) : Res :=
  .next (commandC (opWatchdogArm.on (le 1 channel ++ le 1 action)) h (decide (action < 2)) s fun _ t =>
    if !t.isReleased channel then (err 0x0421, t)
    else if action = 0 ∧ t.hwChan channel then (err 0x04D1, t)
    else
      let t := if action = 1 then t.armChan channel else t.disarm channel
      (ok (le 1 (t.chan channel).state.code), t))

/-- CHANNEL_EXPIRY (R471, R473): a deadline or a re-acquisition window passes without a wind. -/
def execChannelExpiry (channel : Nat) (s : State) : Res :=
  let c := s.chan channel
  if !s.boot.controlUp || decide (s.now < c.deadline) then .next s
  else if c.state == .first || c.state == .running then .next (s.expire channel 1)
  else if c.state == .reacquire then .next (s.expire channel 3)
  else .next s

/-- PRE_EXPIRY_WARNING (R470). -/
def execPreExpiryWarning (channel : Nat) (s : State) : Res :=
  let c := s.chan channel
  let pre := fld c.record 12 2 * 1000
  if s.boot.controlUp && c.state == .running && decide (0 < pre) && !c.warned && decide (c.deadline ≤ s.now + pre) && decide (s.now < c.deadline) then
    let s := s.updChan channel (fun c => { c with warned := true })
    let s := { s with wwu := { s.wwu with preHit := true } }
    let s := s.log .control 0x0902 6 9 channel { value := s.remainingMs channel }
    .next (s.tellManagers 0x0902 6 4 channel)
  else .next s

/-- SLEEP_GUARD_PASS (R473): at W + G without a wake wind the channel enters REACQUIRE until W + 4G. -/
def execSleepGuardPass (channel : Nat) (s : State) : Res :=
  let c := s.chan channel
  let g := guardUs c.record
  if s.boot.controlUp && c.state == .sleep && decide (c.deadline + g ≤ s.now) then
    .next (s.updChan channel (fun c => { c with state := .reacquire, deadline := c.deadline + 4 * g }))
  else .next s

/-- The IWD's clock is the Ember time base (Table 14-3). -/
def State.iwdEmber (s : State) : Bool := (s.otpWord 113).testBit 18

/-- CLOCK_STOP_DETECT (R469). -/
def execClockStopDetect (ember : Bool) (s : State) : Res :=
  if !s.boot.pwrOk then .next s
  else
    let s := if ember then { s with wwu := { s.wwu with emberStopped := true } } else { s with wwu := { s.wwu with refStopped := true } }
    let s := s.armedChannels.foldl State.watchClock s
    let s := if s.iwdEmber == ember && s.wwu.iwd.running && !s.wwu.iwd.onBackup then
        let s := { s with wwu := { s.wwu with iwd := { s.wwu.iwd with onBackup := true, stopHit := true } } }
        s.log .control 0x0903 3 0 0
      else s
    if s.wwu.emberStopped && s.wwu.refStopped then
      let s := s.armedChannels.foldl (fun t n => if (t.chan n).state == .paused || (t.chan n).state == .idle then t else t.expire n 4) s
      .next s.iwdExpires
    else .next s

/-- CLOCK_RETURN (R469): a clock has run for 10 ms again; each watchdog that it serves returns to it at its next period
start, the IWD with its next winding. -/
def execClockReturn (ember : Bool) (s : State) : Res :=
  if !s.boot.pwrOk then .next s
  else
    let s := if ember then { s with wwu := { s.wwu with emberStopped := false } } else { s with wwu := { s.wwu with refStopped := false } }
    if s.iwdEmber == ember then .next { s with wwu := { s.wwu with iwd := { s.wwu.iwd with onBackup := false } } }
    else .next s

/-- IWD_EXPIRY (R474). -/
def execIwdExpiry (s : State) : Res :=
  if s.wardenRuns then .next s.iwdExpires else .next s

end Sys2Proof.Machine
end

