-- ==== Sys2Proof/Machine/Restart.lean ====
section
/-! DEFINITION. The Control Region restart (R16, R45, R510) as one operation, and the drain that comes before a restart
that a command asked for (R81). -/
namespace Sys2Proof.Machine

/-- The slots whose string sequences a restart cuts short (R108): scheduled changes stop. -/
def State.stopStrings (s : State) : State :=
  let cut := (s.strs.slots.filter (fun p => p.2.seq != .none)).map (fun p => (p.1, p.2.seq == .releasing))
  { s with strs := { s.strs with
      strs := s.strs.strs.map (fun p => (p.1, { p.2 with due := none })),
                     slots := s.strs.slots.map (fun p => (p.1, { p.2 with seq := .none, gateWait := false, waiters := [] })),
                     bus0 := { s.strs.bus0 with waiters := [] }, bus1 := { s.strs.bus1 with waiters := [] },
                     bus2 := { s.strs.bus2 with waiters := [] }, bus3 := { s.strs.bus3 with waiters := [] },
                     cutShort := s.strs.cutShort ++ cut } }

/-- The Command Engine after a restart of its region: every queue CLOSED, the sessions and pending events gone. -/
def Cme.restarted (c : Cme) : Cme :=
  { queues := (c.queues.filter (fun p => p.2.retired)).map (fun p => (p.1, { retired := true })), nextUid := c.nextUid }

/-- A debug grant ends (R437): DEBUG_GRANTED clears and the level at start returns. -/
def State.endGrant (s : State) : State :=
  if s.cru.granted then
    let s := { s with cru := { s.cru with granted := false, grantId := 0, debugLevel := s.boot.debugAtStart, attached := false } }
    (s.stirPsd 0x040).log .control 0x0803 2 0 0 { cause := 1, value := s.boot.debugAtStart }
  else s

/-- The Logbook's part of a restart: what is held and staged stays; its window and hit bits are reset. -/
def Lgb.restarted (g : Lgb) : Lgb :=
  { g with running := false, fillHit := false, evictHit := false, dropHit := false, cursorLow := 0, cursorHigh := 0, window := [],
           windowSkipped := false, dropped := 0, evicted := 0, storms := 0, fillCount := 0 }

/-- The Cartridge Bay's part: no operation reads a cartridge now. -/
def CartBay.restarted (c : CartBay) : CartBay :=
  { c with slots := c.slots.map (fun p => (p.1, { p.2 with state := if p.2.state == .inUse then .ready else p.2.state, waiters := [] })),
           crcErrors := 0, removedHit := false, insertedHit := false, errorHit := false }

/-- An operation of PK_OP whose command is lost goes on without a requester (R265). -/
def HOp.loseRequester (o : HOp) : HOp :=
  match o.req with
  | .pkOp _ _ _ => { o with req := .lost }
  | _ => o

/-- The array goes on through a Control Region restart; its operations' results are discarded where their requesters are
lost (R265). -/
def Hammer.restarted (a : Hammer) : Hammer :=
  { a with ownWait := .none, waiting := a.waiting.map HOp.loseRequester,
           lanes := a.lanes.map (fun p => (p.1, { p.2 with running := p.2.running.map HOp.loseRequester })) }

/-- Each queue in use is CLOSED by a Control Region restart, which is logged for it (R311, Table 8-19). -/
def State.noteClosed (s : State) : State :=
  (s.usedQueues.filter (fun q => (s.queue q).state != .closed)).foldl (fun t q => t.log .control 0x0001 5 5 q) s

/-- The Control Region restarts: everything in it that is not retained goes back to its reset value, while the Guard and
Forge Regions go on (R16, R207, R265, R294, R356, R423, R437, R472). -/
def State.controlRestart (s : State) : State :=
  let s := s.endGrant.noteClosed.yieldEnd .control 0 0
  let s := s.closeContexts (fun _ => true)
  let s := s.stopStrings.pauseChannels
  { s with
    boot := { s.boot with phase := .controlRestart, controlUp := false, imageUp := false, imageOp := false, restartAt := s.now, linkTraining := !s.boot.perst, forgeAsked := false,
                          drainUntil := none, update := none, peerSeen := false }
    cme := s.cme.restarted
    hma := s.hma.restarted
    bde := { s.bde with lms := [] }
    spn := { s.spn with temper := .startup, avsFault := false, avsRetryAt := 0, standbyReady := false, takeoverTo := none }
    atr := { s.atr with sessions := [], connections := [], eids := [0, 0, 0, 0, 0], mctpDyn := [0, 0], nextSession := 1, limitHit := false, lostHit := false, spdmErrors := 0 }
    rfu := { s.rfu with ops := [], failHit := false, commitHit := false, blocksWritten := 0, failed := 0 }
    cby := s.cby.restarted
    cru := { s.cru with challenges := [], d0 := {}, reseeds := 0, authFails := 0, lcHit := false, entropyHit := false, grantHit := false }
    pol := { s.pol with staging := none, writing := none, waiter := none }
    wwu := { s.wwu with iwd := { s.wwu.iwd with running := false, hardTimer := none, stopHit := false },
                        preHit := false, expiryHit := false, reacquireHit := false, stopHit := false, expiries := 0, badKeys := 0 }
    lgb := s.lgb.restarted }

/-- The failure causes of Table 2-9. -/
inductive BootCause where
  | none | format | rollback | digest | makerEcdsa | makerLms | ownerEcdsa | restartLimit | bundleCrc | manifest | incompatible | ecc
  deriving DecidableEq, Repr

/-- The value of a failure cause. -/
def BootCause.code : BootCause → Nat
  | .none => 0
  | .format => 1
  | .rollback => 2
  | .digest => 3
  | .makerEcdsa => 4
  | .makerLms => 5
  | .ownerEcdsa => 6
  | .restartLimit => 7
  | .bundleCrc => 8
  | .manifest => 9
  | .incompatible => 10
  | .ecc => 11

/-- The copies of a failure record: 0 and 1 Warden A and B, 2 and 3 bundle A and B. -/
def State.bootFailure (s : State) (copy : Nat) (c : BootCause) : State :=
  let s := { s with boot := { s.boot with cause := if s.boot.cause = 0 then c.code else s.boot.cause } }
  if s.boot.controlUp then s.log .control 0x0F04 3 0 0 { cause := c.code, index2 := copy }
  else { s with boot := { s.boot with failures := s.boot.failures ++ [(copy, c.code)] } }

/-- Warden copy c (0 A, 1 B). -/
def State.warden (s : State) (c : Nat) : WardenCopy := if c = 0 then s.boot.copyA else s.boot.copyB

/-- s with Warden copy c changed by f. -/
def State.updWarden (s : State) (c : Nat) (f : WardenCopy → WardenCopy) : State :=
  if c = 0 then { s with boot := { s.boot with copyA := f s.boot.copyA } } else { s with boot := { s.boot with copyB := f s.boot.copyB } }

/-- A restart before OPERATIONAL raises the running copy's count; at 3 the copy is FAILED (R61). -/
def State.countRestart (s : State) : State :=
  let c := s.boot.runCopy
  if s.boot.imageOp || !s.boot.imageUp then s
  else
    let n := (s.warden c).restarts + 1
    let s := s.updWarden c (fun w => { w with restarts := n })
    if n = 3 then (s.updWarden c (fun w => { w with state := .failed })).bootFailure c .restartLimit else s

/-- A Control Region restart asked for by a command (R81). -/
def State.plannedRestart (s : State) : State := s.countRestart.controlRestart

/-- A restart made as a last resort: at the ninth after OPERATIONAL the Control Region is switched off and stays off
(R510). -/
def State.lastResort (s : State) : State :=
  if !s.boot.pwrOk || s.boot.absent then s
  else
    let old := s
    let s := s.countRestart.controlRestart
    let s := if s.boot.opReached then { s with spn := { s.spn with restarts := min (s.spn.restarts + 1) 9 } } else s
    let s := if 9 ≤ s.spn.restarts then { s.setService 6 true with boot := { s.boot with absent := true, linkTraining := false } } else s
    State.noteService old s

/-- Every source with commands in flight or completions to write. -/
def State.busySources (s : State) : List Src :=
  ((s.usedQueues.filter (fun q => (s.queue q).inFlight != 0)).map Src.pcie) ++
  (([.mb0, .mb1, .sb0, .sb1, .uart0] : List Target).filter (fun t => !(s.session t).flights.isEmpty || !(s.session t).done.isEmpty)).map Src.framed ++
  (if s.cme.jtagFlights.isEmpty && s.cme.jtagSession.done.isEmpty then [] else [.jtag])

/-- The commands of a source in flight complete with CONTROL_RESTART, and their completions are written (R81). -/
def State.cutOff (s : State) (src : Src) : State :=
  let hs := ((s.flights src).filter (fun f => !f.orphan)).map (fun f => ({ src := src, cid := f.cid, uid := f.uid, noInt := f.noInt } : Hdr))
  let s := completeAll hs (err 0x0413) s
  let n := match src with
    | .pcie q => (s.queue q).done.length
    | .framed t => (s.session t).done.length
    | .jtag => s.cme.jtagSession.done.length
  (List.range n).foldl (fun t _ => t.writeCompletion src) s

/-- What the commands that are cut off have asked for and that has not begun is undone: they had no effect (R81). A
SLOT_RELEASE's clearance, a scan that is queued, a window that is not open and an attempt to restore a bus are given up (log entry
133). -/
def State.undoWaiting (s : State) : State :=
  { s with
    strs := { s.strs with
      slots := s.strs.slots.map (fun p => (p.1, if p.2.waiters.isEmpty then p.2 else { p.2 with cleared := false, waiters := [] }))
      bus0 := { s.strs.bus0 with waiters := [] }, bus1 := { s.strs.bus1 with waiters := [] }
      bus2 := { s.strs.bus2 with waiters := [] }, bus3 := { s.strs.bus3 with waiters := [] } }
    fit := { s.fit with scans := (s.fit.scans.filter (fun x => x.running || x.waiters.isEmpty)).map (fun x => { x with waiters := [] }) }
    apa := { s.apa with ports := s.apa.ports.map (fun p => (p.1, { p.2 with window := p.2.window.filter (fun w => w.isOpen) })) } }

/-- PENDING_PORTS: the ports that have not swapped (R169). -/
def State.pendingPorts (s : State) : Nat :=
  (List.range 16).foldl (fun a p => if (s.port p).swapPending then setBit a p else a) 0

/-- The result of POLICY_COMMIT. -/
def State.commitResult (s : State) : Bytes := le 4 s.pol.epoch ++ le 2 s.pendingPorts

/-- A POLICY_COMMIT that waits for its ports is past its commit point, so it completes as R169 gives and its image stays
committed (R162). -/
def State.endCommit (s : State) : State :=
  match s.pol.waiter with
  | some h => complete h { err 0x0442 s.commitResult with carriedOut := true } { s with pol := { s.pol with waiter := none } }
  | none => s

/-- The drain before a restart ends when nothing is left in flight, or after 100 ms with the rest cut off (R81). -/
def State.drainStep (s : State) : State :=
  match s.boot.drainUntil with
  | none => s
  | some t =>
    if s.busySources.isEmpty then s.plannedRestart
    else if t ≤ s.now then (s.busySources.foldl State.cutOff s.endCommit).undoWaiting.plannedRestart
    else s

/-- A restart follows once what is in flight has completed, or after 100 ms. A life-cycle restart stops no submissions, so that
POLICY_STAGE and POLICY_COMMIT still find the transition pending (R418, log entry 131). -/
def State.restartSoon (s : State) : State := { s with boot := { s.boot with drainUntil := some (s.now + 100000) } }

/-- A restart is asked for: nothing new is accepted, and the drain begins (R81). -/
def State.askRestart (s : State) : State := { s.restartSoon with cme := { s.cme with draining := true } }

/-- COMPLETION_WRITE (R288, R292, R306; R81 when it is the last before a restart). -/
def execCompletionWrite (src : Src) (s : State) : Res := .next (s.writeCompletion src).drainStep

/-- IWD_HARD_TIMER_EXPIRY (R474, R510). -/
def execIwdHardTimerExpiry (s : State) : Res :=
  match s.wwu.iwd.hardTimer with
  | some t => if t ≤ s.now ∧ s.wardenRuns then .next s.lastResort else .next s
  | none => .next s

end Sys2Proof.Machine
end

