-- ==== Sys2Proof/Machine/Crucible.lean ====
section
/-! DEFINITION. Chapter 12: the life-cycle, key and debug commands, challenges, random numbers and the OTP readout. -/
namespace Sys2Proof.Machine

/-! ### Registers that commands return -/

/-- CRU_LC_STATUS (Table 12-12). -/
def State.lcStatusWord (s : State) : Nat :=
  put 0 3 s.cru.lcState + put 3 7 s.recordsUsed + put 10 6 s.ownershipCount + put 16 1 (b2n s.transitionPending) +
  put 17 1 (b2n s.cru.awaitPowerCycle) + put 18 1 (b2n s.cru.cosignInForce) + put 19 1 (b2n s.cru.lcHit)

/-- CRU_DEBUG (Table 12-14). -/
def State.debugWord (s : State) : Nat :=
  put 0 3 s.cru.debugLevel + put 3 1 (b2n s.cru.granted) + put 4 1 (b2n s.cru.grantHit) + put 5 1 (b2n s.cru.attached)

/-! ### Debug access (R435) -/

/-- What a debugger may want to reach (Table 12-11). -/
inductive DebugAccess where
  /-- Boundary scan and the JTAG mailbox. -/
  | scan
  /-- Reading the Warden's trace and Control Region SRAM outside the key store. -/
  | trace
  /-- Halting and stepping the Warden, and its memory. -/
  | halt
  /-- Writing Control Region SRAM and registers. -/
  | controlWrite
  /-- The register blocks of every region. -/
  | registers
  /-- Reading and writing the tables of the Guard and Forge Regions. -/
  | tableRead | tableWrite
  /-- Lane test modes. -/
  | laneTest
  /-- A factory transition, and a write of the FSP. -/
  | transition | fspWrite
  /-- The UDS and the key store. -/
  | keys
  deriving DecidableEq, Repr

/-- Whether the debug level in force reaches an access (Table 12-11). -/
def State.debugReaches (s : State) (a : DebugAccess) : Bool :=
  match a with
  | .scan => true
  | .keys => false
  | .fspWrite => s.cru.debugLevel == 1 && s.cru.lcState == 1
  | .transition => s.cru.debugLevel == 1
  | .trace => s.cru.debugLevel != 0
  | .halt => s.cru.debugLevel != 0 && s.cru.debugLevel != 3
  | .registers => s.cru.debugLevel == 1 || s.cru.debugLevel == 2
  | .controlWrite => s.cru.debugLevel == 1 || decide (4 ≤ s.cru.debugLevel)
  | .tableRead => s.cru.debugLevel == 1 || decide (4 ≤ s.cru.debugLevel)
  | .tableWrite => s.cru.debugLevel == 1 || s.cru.debugLevel == 5
  | .laneTest => s.cru.debugLevel == 1 || s.cru.debugLevel == 5

/-! ### Commands -/

/-- LC_STATUS (R439). -/
def execLcStatus (h : Hdr) (s : State) : Res :=
  .next (commandR opLcStatus h true s fun _ t =>
    ok (le 4 t.lcStatusWord ++ le 4 t.debugWord ++ le 1 (t.arb 0) ++ le 1 (t.arb 1) ++ le 1 (t.arb 2) ++ le 1 (t.arb 3)))

/-- CRU_CHALLENGE (R423). -/
def execCruChallenge (h : Hdr) (purpose : Nat) (s : State) : Res :=
  .next (commandC (opCruChallenge.on (le 1 purpose)) h (decide (1 ≤ purpose ∧ purpose ≤ 8)) s fun _ t =>
    if !t.cru.d0.generating then (err 0x0593, t)
    else
      let c : Challenge := { nonce := t.random 32, expires := t.now + 600000000 }
      let t := t.useD0.drawn
      (ok (c.nonce ++ le 8 c.expires), { t with cru := { t.cru with challenges := t.cru.challenges.set purpose {} c } }))

/-- A slot that stands in the way of a transition (R417). -/
def SlotState.unsettled : SlotState → Bool
  | .checking | .released | .recovering => true
  | _ => false

/-- The checks of R417; 0 when none refuses. -/
def State.transitionRefusal (s : State) (target : Nat) : Nat :=
  if target ≠ 6 ∧ s.strs.slots.any (fun p => p.2.state.unsettled) then 0x0421
  else if s.boot.update.isSome then 0x0410
  else if s.transitionPending then 0x04B1
  else if (s.nextRecord target).isNone then 0x04B2
  else 0

/-- The purposes that LC_TRANSITION to a target takes (Table 12-4). -/
def targetPurpose (target purpose : Nat) : Bool :=
  match purpose with
  | 1 | 2 => target == 4
  | 3 => target == 5
  | 4 => target == 6
  | _ => false

/-- LC_TRANSITION (R416 to R418). -/
def execLcTransition (h : Hdr) (target length hostAddr : Nat) (data : Bytes) (s : State) (verdicts : Nat := 0) : Res :=
  let data := s.inputOf h hostAddr length data
  .next (command (opLcTransition.on (le 1 target ++ zeros 3 ++ le 4 length ++ le 8 hostAddr)) h (s.readAddrOk h hostAddr length) s (ownBodyC fun _ t =>
    let r := t.transitionRefusal target
    if r ≠ 0 then (err r, t)
    else
      let (st, x, t) := t.present (data.take length) verdicts (fun x => targetPurpose target x.purpose)
      if st ≠ 0 then (err st, t)
      else match t.nextRecord target with
        | none => (err 0x04B2, t)
        | some i =>
          let t := t.blowIntent target i
          let t := { t with cru := { t.cru with lcHit := true, newKey := x.newKey } }
          let t := (t.blowCodeword target i).restartSoon
          (ok (le 1 i ++ le 1 t.ownershipCount), t)))

/-- JTAG_LC_TRANSITION (Table 12-4): a factory transition by test equipment in FULL debug; the intent, the codeword and
CODEWORD_DONE are blown, and the next first stage does the rest. -/
def execJtagLcTransition (lcTarget : Nat) (s : State) : Res :=
  let from_ := s.cru.lcState
  let allowed := (lcTarget == from_ + 1 && decide (lcTarget ≤ 3)) || (lcTarget == 6 && decide (from_ ≤ 2))
  if !s.boot.pwrOk || !s.debugReaches .transition || !allowed || s.transitionPending then .next s
  else match s.nextRecord lcTarget with
    | none => .next s
    | some i =>
      let s := s.blowIntent lcTarget i
      let s := { s with cru := { s.cru with lcHit := true } }
      .next (s.blowCodeword lcTarget i)

/-- OWNER_KEYS_READ (R439). -/
def execOwnerKeysRead (h : Hdr) (hostAddr : Nat) (s : State) : Res :=
  .next (commandR (opOwnerKeysRead.on (le 8 hostAddr)) h (s.writeAddrOk h hostAddr) s fun _ t =>
    let active := ((List.range 16).filter (fun i => (t.cru.table.slot i).state == 1)).length
    okOut hostAddr t.cru.table.bytes (le 1 (b2n t.cru.table.cosign) ++ le 1 active))

/-- The owner slot that a one-byte kid names. -/
def kidSlot (kid : Bytes) : Option Nat :=
  match kid with
  | [b] => some b.toNat
  | _ => none

/-- The owner slots that signed an image of the policy store (R155). -/
def Image.signers (i : Image) : List Nat :=
  match readCoseSign1 i.raw, readCoseSign i.raw with
  | some (_, g), _ => (kidSlot g.kid).toList
  | none, some (_, _, sigs) => sigs.filterMap (fun g => kidSlot g.kid)
  | none, none => []

/-- The committed image, whether or not it is loaded. -/
def State.committedImage (s : State) : Option Image :=
  match s.pol.committed with
  | some 0 => s.pol.slot0
  | some _ => s.pol.slot1
  | none => none

/-- A Warden image's owner co-signature verifies under an owner slot (check 6 of R58). -/
def State.cosignedBy (s : State) (image : Bytes) (i : Nat) : Bool :=
  s.cru.table.activeWith i 2 && (fld image 6 2).testBit 0 &&
  verifies algP384 (s.cru.table.slot i).key (slice image 0 0xB0) (slice image 0xB0 96)

/-- The owner slots under which a Warden image's co-signature verifies. -/
def State.cosigners (s : State) (image : Bytes) : List Nat := (List.range 16).filter (s.cosignedBy image)

/-- The Warden copies that are VALID. -/
def State.validWardens (s : State) : List WardenCopy := [s.boot.copyA, s.boot.copyB].filter (fun c => c.state == .valid)

/-- A slot is relied on by an image (R429). -/
def State.slotReliedOn (s : State) (i : Nat) : Bool :=
  (match s.committedImage with
   | some m => m.signers.contains i ||
     (m.format == 2 && (s.cru.table.slot i).alg == 2 &&
      ((s.cru.table.slotsWith 0).filter (fun j => (s.cru.table.slot j).alg == 2)) == [i])
   | none => false) ||
  (s.cru.table.cosign && s.validWardens.any (fun c => s.cosigners c.image == [i]))

/-- A KEY_ADD, KEY_REVOKE or OPTIONS statement that has passed its checks is applied: a status, and the table (R428 to
R430). -/
def State.keyChange (s : State) (x : Statement) : Nat × OwnerTable :=
  let t := s.cru.table
  match x.purpose with
  | 6 =>
    if (t.slot x.slot).state ≠ 0 then (0x0592, t)
    else (0, { t with keys := t.keys.set x.slot {} { state := 1, alg := if x.newKey.length = 97 then 1 else 2, uses := x.uses, key := x.newKey } })
  | 7 =>
    let t' := { t with keys := t.keys.set x.slot {} { t.slot x.slot with state := 2 } }
    if (t.slot x.slot).state ≠ 1 then (0x0592, t)
    else if (t'.slotsWith 5).isEmpty ∨ (t'.slotsWith 4).isEmpty then (0x04B3, t)
    else if !x.flags.testBit 0 ∧ s.slotReliedOn x.slot then (0x04B4, t)
    else (0, t')
  | _ =>
    if x.options.testBit 0 ∧ !s.validWardens.all (fun c => !(s.cosigners c.image).isEmpty) then (0x04B4, t)
    else (0, { t with cosign := x.options.testBit 0 })

/-- OWNER_KEY_CHANGE (R428 to R430). -/
def execOwnerKeyChange (h : Hdr) (length hostAddr : Nat) (data : Bytes) (s : State) (verdicts : Nat := 0) : Res :=
  let data := s.inputOf h hostAddr length data
  .next (command (opOwnerKeyChange.on (zeros 4 ++ le 4 length ++ le 8 hostAddr)) h (s.readAddrOk h hostAddr length) s (ownBodyC fun _ t =>
    let (st, x, t) := t.present (data.take length) verdicts (fun x => decide (6 ≤ x.purpose))
    if st ≠ 0 then (err st, t)
    else
      let (st, tab) := t.keyChange x
      if st ≠ 0 then (err st, t) else (ok (le 1 x.slot), (t.writeTable tab).refreshCed)))

/-- DEBUG_GRANT (R436). -/
def execDebugGrant (h : Hdr) (length hostAddr : Nat) (data : Bytes) (s : State) (verdicts : Nat := 0) : Res :=
  let data := s.inputOf h hostAddr length data
  .next (command (opDebugGrant.on (zeros 4 ++ le 4 length ++ le 8 hostAddr)) h (s.readAddrOk h hostAddr length) s (ownBodyC fun _ t =>
    if t.cru.granted then (err 0x04B5, t)
    else
      let b := data.take length
      let (st, x, t) := t.present b verdicts (fun x => x.purpose == 5)
      if st ≠ 0 then (err st, t)
      else
        let t := if 4 ≤ x.level then { t.eraseSigningKeys with cru := { t.eraseSigningKeys.cru with keysWithdrawn := true } } else t
        let id := leNat (slice (sha384 b) 0 8)
        let t := { t with cru := { t.cru with debugLevel := x.level, granted := true, grantId := id, grantHit := true } }
        let t := t.recompute
        let t := t.log .control 0x0803 2 0 0 { value := x.level, detail := le 8 id }
        (ok (le 1 x.level ++ zeros 3 ++ le 8 id), t)))

/-- DEBUG_END (R437). -/
def execDebugEnd (h : Hdr) (s : State) : Res :=
  .next (commandC opDebugEnd h true s fun _ t => (ok, t.endGrant))

/-- RNG_READ (R432, R433). -/
def execRngRead (h : Hdr) (length hostAddr : Nat) (s : State) : Res :=
  .next (commandC (opRngRead.on (le 4 length ++ zeros 4 ++ le 8 hostAddr)) h (decide (1 ≤ length ∧ length ≤ 4096) && s.writeAddrOk h hostAddr) s fun _ t =>
    if !t.cru.d0.generating then (err 0x0593, t) else (okOut hostAddr (t.random length), t.useD0.drawn))

/-- OTP_READ may read a word (Table 12-2). -/
def otpReadable (w : Nat) : Bool := decide (w < 68) || decide (74 ≤ w ∧ w < 128)

/-- OTP_READ (R439). -/
def execOtpRead (h : Hdr) (first count hostAddr : Nat) (s : State) : Res :=
  .next (commandR (opOtpRead.on (le 2 first ++ le 2 count ++ zeros 4 ++ le 8 hostAddr)) h (rangeOk first count 1024 && s.writeAddrOk h hostAddr) s fun _ t =>
    let ws := (List.range count).map (· + first)
    okOut hostAddr (ws.flatMap (fun w => le 8 (if otpReadable w then t.otpWord w else 0)))
      (le 2 (ws.filter (fun w => !otpReadable w)).length))

/-! ### Challenges -/

/-- CHALLENGE_EXPIRY (R423). -/
def execChallengeExpiry (purpose : Nat) (s : State) : Res :=
  let c := s.cru.challenges.get purpose {}
  if !c.nonce.isEmpty ∧ c.expires ≤ s.now then .next { s with cru := { s.cru with challenges := s.cru.challenges.del purpose } } else .next s

end Sys2Proof.Machine
end

