-- ==== Sys2Proof/Machine/BootChecks.lean ====
section
/-! DEFINITION. Chapter 2: the checks of Warden images and lane bundles, and the copies that hold them. -/
namespace Sys2Proof.Machine

/-! ### Warden images (R57, R58) -/

/-- BODY_LEN of a Warden image. -/
def bodyLen (image : Bytes) : Nat := fld image 0xC 4

/-- SVN of a Warden image. -/
def wardenSvn (image : Bytes) : Nat := fld image 8 2

/-- FLAGS bit 0 of a Warden image. -/
def ownerCosigned (image : Bytes) : Bool := (fld image 6 2).testBit 0

/-- FLAGS bit 1 of a Warden image. -/
def autoAdvance (image : Bytes) : Bool := (fld image 6 2).testBit 1

/-- The maker ECDSA key that the digest in OTP names. -/
def State.makerKey (s : State) : Bytes := Config.keyOfDigest (s.otpDigest 74)

/-- The maker LMS key that the digest in OTP names. -/
def State.makerLmsKey (s : State) : Bytes := Config.keyOfDigest (s.otpDigest 80)

/-- The checks of R58, in order: the first that fails. -/
def State.checkWarden (s : State) (image : Bytes) : Option BootCause :=
  let body := bodyLen image
  let lms := fld image 0x18 4
  if slice image 0 4 ≠ ascii "VWIM" ∨ fld image 4 2 ≠ 1 ∨ body % 4 ≠ 0 ∨ 4185600 < body ∨ 8192 < lms then some .format
  else if wardenSvn image < s.arb 0 then some .rollback
  else if sha384 (slice image 0x200 body) ≠ slice image 0x20 48 then some .digest
  else if !verifies algP384 s.makerKey (slice image 0 0x50) (slice image 0x50 96) then some .makerEcdsa
  else if !verifies algLms s.makerLmsKey (slice image 0 0x50) (slice image (0x200 + body) lms) then some .makerLms
  else if (ownerCosigned image || s.cru.cosignInForce) && (s.cosigners image).isEmpty then some .ownerEcdsa
  else none

/-! ### The boot memory (R64, R65) -/

/-- A CRC block as read: 4,092 bytes of payload and their CRC-32C in its last 4 bytes (R64). -/
def crcBlockOk (b : Bytes) : Bool := decide (b.length = 4096) && fld b 4092 4 == crc32c (b.take 4092)

/-- The payload of a block that was read at most four times: that of the first read whose CRC holds (R64). -/
def readBlock (reads : List Bytes) : Option Bytes := ((reads.take 4).find? crcBlockOk).map (fun b => b.take 4092)

/-- The payloads of consecutive blocks, one after the other; none when a block failed its four reads (R64). -/
def readBlocks : List (List Bytes) → Option Bytes
  | [] => some []
  | b :: bs =>
    match readBlock b, readBlocks bs with
    | some p, some rest => some (p ++ rest)
    | _, _ => none

/-- What the boot header's block says (Table 2-6), read like any other block (R64). A header that fails its CRC or has the wrong MAGIC selects READ (R65);
copy A is then tried first, at the length of the blocks that are read (log entry 80). -/
def readHeader (reads : List Bytes) : BootHeader :=
  let b := (readBlock reads).getD []
  if !b.isEmpty && slice b 0 4 == ascii "VBMH" then
    { read := true, good := true, quad := (fld b 6 2).testBit 0, fullSpeed := (fld b 6 2).testBit 1,
      blocksA := min (fld b 8 2) 768, blocksB := min (fld b 10 2) 768, preferred := fld b 12 1 % 2 }
  else { read := true, blocksA := 768, blocksB := 768 }

/-- The read command and the clock in MHz of the bundle load (R65). -/
def BootHeader.readMode (h : BootHeader) : Nat × Nat :=
  if h.good && h.quad then (0x6B, if h.fullSpeed then 100 else 50) else (0x03, 25)

/-- The length in CRC blocks of bundle copy c. -/
def BootHeader.blocks (h : BootHeader) (c : Nat) : Nat := if c = 0 then h.blocksA else h.blocksB

/-- The header with the length of bundle copy c set. -/
def BootHeader.setBlocks (h : BootHeader) (c n : Nat) : BootHeader := if c = 0 then { h with blocksA := n } else { h with blocksB := n }

/-- The blocks that hold a bundle of a number of payload bytes. -/
def bundleBlocks (b : Bytes) : Nat := ceilDiv b.length 4092

/-! ### Lane bundles (R66, R67) -/

/-- Security version of a lane bundle. -/
def bundleSvn (b : Bytes) : Nat := Config.bundleNumber 1 b

/-- Lowest Warden security version that a lane bundle works with. -/
def bundleMinWarden (b : Bytes) : Nat := Config.bundleNumber 2 b

/-- The entries of a bundle's manifest that hold Hammer microcode. -/
def microcode (es : List BundleEntry) : List BundleEntry := es.filter (fun e => e.kind == 1)

/-- The entries of a manifest are well formed: at most 64, each of a component type and inside the bundle, and no two
different Hammer microcode payloads (R66, R266). -/
def entriesOk (b : Bytes) (es : List BundleEntry) : Bool :=
  decide (es.length ≤ 64) &&
  es.all (fun e => decide (1 ≤ e.kind ∧ e.kind ≤ 3 ∧ e.offset + e.length ≤ b.length) && e.digest.length == 48) &&
  (microcode es).all (fun e => (microcode es).all (fun f => e.digest == f.digest))

/-- The digest of each payload, as a Bellows lane finds it, is the one of its entry (R66, R67). -/
def payloadsMatch (b : Bytes) (es : List BundleEntry) : Bool := es.all (fun e => sha384 (slice b e.offset e.length) == e.digest)

/-- A maker signature of a bundle, which lies at an offset of the manifest, verifies over the manifest bytes before it
(R66). -/
def bundleSigned (alg : Nat) (key b : Bytes) (offset length : Nat) : Bool :=
  verifies alg key (b.take offset) (slice b offset length)

/-- The manifest has an entry of a component type for a lane or a port. -/
def entryFor (es : List BundleEntry) (kind n : Nat) : Bool := es.any (fun e => e.kind == kind && e.target.testBit n)

/-- The entries of a bundle; none listed where its manifest has another form. -/
def bundleEntries (b : Bytes) : List BundleEntry := (Config.bundleEntries b).getD []

/-- The checks of R67 on a bundle that was read without error: the first that fails. The running Warden's header supplies
its SVN and MIN_BUNDLE_SVN. -/
def State.checkBundle (s : State) (b : Bytes) : Option BootCause :=
  match Config.bundleEntries b with
  | none => some .manifest
  | some es =>
    if Config.bundleNumber 0 b ≠ 1 ∨ 128 < bundleSvn b ∨ !entriesOk b es then some .manifest
    else if !bundleSigned algP384 s.makerKey b (Config.bundleNumber 5 b) 96 then some .makerEcdsa
    else if !bundleSigned algLms s.makerLmsKey b (Config.bundleNumber 6 b) (Config.bundleNumber 7 b) then some .makerLms
    else if !payloadsMatch b es then some .digest
    else if bundleSvn b < s.arb 1 then some .rollback
    else if wardenSvn s.boot.runHeader < bundleMinWarden b ∨ bundleSvn b < fld s.boot.runHeader 0xA 2 then some .incompatible
    else none

/-- Bundle copy c (0 A, 1 B). -/
def State.bundle (s : State) (c : Nat) : BundleCopy := if c = 0 then s.boot.bundleA else s.boot.bundleB

/-- s with bundle copy c set. -/
def State.setBundle (s : State) (c : Nat) (x : BundleCopy) : State :=
  if c = 0 then { s with boot := { s.boot with bundleA := x } } else { s with boot := { s.boot with bundleB := x } }

/-- A bundle that has passed R67 is written into copy c of the boot memory, and its header gives the length. -/
def State.writeBundle (s : State) (c : Nat) (b : Bytes) : State :=
  let s := s.setBundle c { state := .valid, svn := bundleSvn b, minWarden := bundleMinWarden b }
  { s with boot := { s.boot with header := s.boot.header.setBlocks c (bundleBlocks b) } }

/-- Bundle copy c may be tried: it is not empty, no staging was cut short, and it has not failed in this start (R67, R79). -/
def State.mayTry (s : State) (c : Nat) : Bool :=
  decide (s.boot.header.blocks c ≠ 0) && !(s.bundle c).staging && !s.boot.bundleTried.contains c

/-- The bundle copy to try next: the one that PREFERRED names first (R67). -/
def State.nextBundle (s : State) : Option Nat :=
  let p := s.boot.header.preferred
  if s.mayTry p then some p else if s.mayTry (1 - p) then some (1 - p) else none

/-- The copy that a search writes (R73, R74): the FAILED one if exactly one is, else the EMPTY one if exactly one is,
else copy A. -/
def searchCopy (a b : CopyState) : Nat :=
  if (a == .failed) != (b == .failed) then (if a == .failed then 0 else 1)
  else if (a == .empty) != (b == .empty) then (if a == .empty then 0 else 1)
  else 0

/-! ### Anti-rollback (R71, R72, R434) -/

/-- Every position below the highest blown one of a counter of n positions from OTP word w is blown. -/
def State.fillCounter (s : State) (w n : Nat) : State :=
  let top := topPosition s w n
  (List.range top).foldl (fun t p => if (t.otpWord (w + p / 64)).testBit (p % 64) then t else t.blowPosition w p) s

/-- The automatic advances when the running image reaches OPERATIONAL (R71). -/
def State.autoAdvances (s : State) : State :=
  if !autoAdvance s.boot.runHeader then s
  else
    let svn := wardenSvn s.boot.runHeader
    let other := s.warden (1 - s.boot.runCopy)
    let s := if other.state == .valid && decide (svn ≤ wardenSvn other.image) && decide (s.arb 0 < svn) then s.advanceArb 0 svn else s
    let me := s.bundle s.boot.bundleCopy
    let b := s.bundle (1 - s.boot.bundleCopy)
    if b.state == .valid && decide (me.svn ≤ b.svn) && decide (s.arb 1 < me.svn) then s.advanceArb 1 me.svn else s

/-- The image that runs reaches OPERATIONAL: its restart count returns to 0, the counters advance on their own, and the
standby pair starts the same copy (R60, R61, R68, R71). -/
def State.imageOperational (s : State) : State :=
  let s := { s with boot := { s.boot with imageOp := true, opReached := true } }
  let s := (s.updWarden s.boot.runCopy (fun w => { w with restarts := 0 })).autoAdvances
  let ready := s.spn.pairOff.all (fun b => !b) && s.spn.testingPair.isNone
  { s with spn := { s.spn with standbyReady := ready } }.setService 3 (!ready)

end Sys2Proof.Machine
end

