-- ==== Sys2Proof/Machine/FlashPath.lean ====
section
/-! DEFINITION. Chapters 4 and 5 on a host command: the decoder, its verdicts, the blocking methods, read blinding, and the
shadow effects at the end of the command. -/
namespace Sys2Proof.Machine

/-! ### Region tables (R177 to R181) -/

/-- A decoded region entry (Table 5-8). -/
structure RegionRec where
  idx : Nat := 0
  scope : Nat := 0
  attr : Nat := 0
  fill : Nat := 0
  first : Nat := 0
  last : Nat := 0
  deriving DecidableEq, Repr

/-- The VALID entries of a bank's region table for a chip select and a space, in index order. -/
def Bank.regionsOf (b : Bank) (k space : Nat) : List RegionRec :=
  ((List.range 64).map (fun i =>
    let r := slice b.regions (16 * i) 16
    ({ idx := i, scope := fld r 0 1, attr := fld r 1 1, fill := fld r 2 1, first := fld r 4 4, last := fld r 8 4 } : RegionRec))).filter
    (fun r => r.scope.testBit 7 && bits r.scope 0 1 == k && bits r.scope 1 2 == space)

/-- The entry that gives an ARRAY address its attributes. -/
def Bank.arrayAt (b : Bank) (k addr : Nat) : Option RegionRec :=
  (b.regionsOf k 0).find? (fun r => decide (r.first ≤ addr ∧ addr ≤ r.last))

/-- The entry that gives the DEVICE attributes. -/
def Bank.deviceAt (b : Bank) (k : Nat) : Option RegionRec := (b.regionsOf k 1).head?

/-- An attribute bit of an entry; none has no attribute. -/
def hasAttr (r : Option RegionRec) (bit : Nat) : Bool :=
  match r with
  | some x => x.attr.testBit bit
  | none => false

/-- The region index of a record: 0xFF for none. -/
def regionIdx (r : Option RegionRec) : Nat :=
  match r with
  | some x => x.idx
  | none => 0xFF

/-- The first 4 KiB granule of n from an address that lacks an attribute: the entry that covers it (R179). -/
def Bank.lacking (b : Bank) (k addr n bit : Nat) : Option (Option RegionRec) :=
  ((List.range n).find? (fun g => !hasAttr (b.arrayAt k (addr + 4096 * g)) bit)).map (fun g => b.arrayAt k (addr + 4096 * g))

/-- Some ARRAY address of the device lacks READ (R133). -/
def Bank.lacksRead (b : Bank) (k : Nat) : Bool := (b.lacking k 0 (b.size / 4096) 0).isSome


/-! ### Phases of a command (R119, Table 4-9) -/

/-- The lines that carry bits in the address and data phases, with the rate on both edges in the DDR interfaces. -/
def lineCount (i : Iface) (quad : Bool) : Nat :=
  match i with
  | .spi => if quad then 4 else 1
  | .qpi => 4
  | _ => 8

/-- Address and data run on both edges. -/
def Iface.ddr (i : Iface) : Bool := i == .qpi || i == .opiDtr

/-- The value on some lines; a single line is DQ0 from the host and DQ1 from the flash. -/
def onLines (lines : Nat) (fromFlash : Bool) (dq : Nat) : Nat :=
  if lines = 1 then (if fromFlash then bits dq 1 1 else bits dq 0 1) else bits dq 0 lines

/-- Address bits of the command. -/
def HostCmd.addrWidth (c : HostCmd) (b : Bank) (x : Shadow) : Nat := 8 * (b.entry c.opcode).addrBytes c.iface x.addr4

/-- The phase of the next sampled edge. -/
inductive CmdPhase where
  | opcode | ext | addr | mode | dummy | data | ended
  deriving DecidableEq, Repr

/-- The phase that a command is in. -/
def HostCmd.phase (c : HostCmd) (b : Bank) (x : Shadow) : CmdPhase :=
  let e := b.entry c.opcode
  if c.opBits < 8 then .opcode
  else if b.twoByte c.iface ∧ c.extBits < 8 then .ext
  else if c.stopped then .ended
  else if c.addrBits < c.addrWidth b x then .addr
  else if e.modeByte ∧ c.modeBits < 8 then .mode
  else if e.data ≠ 0 ∧ c.dummies < e.dummies x.dummy then .dummy
  else .data

/-- Bits that the phase has taken so far: a phase other than the extension begins on an SCK rise. -/
def HostCmd.phaseBits (c : HostCmd) (p : CmdPhase) : Nat :=
  match p with
  | .opcode => c.opBits
  | .ext => 1
  | .addr => c.addrBits
  | .mode => c.modeBits
  | .dummy => 0
  | .data => 8 * c.dataCount + c.accBits
  | .ended => 0

/-- The edge carries a sample in the phase. -/
def HostCmd.samples (c : HostCmd) (p : CmdPhase) (rise : Bool) : Bool :=
  match p with
  | .opcode | .dummy => rise
  | .ext => if c.iface == .opiDtr then !rise else rise
  | .ended => false
  | _ => if rise then true else c.iface.ddr && decide (0 < c.phaseBits p)

/-! ### Cut points (Table 5-11) -/

/-- The opcode cut point. -/
def HostCmd.opcodeCut (c : HostCmd) : Nat × Bool :=
  match c.iface with
  | .spi => (9, false)
  | .qpi => (2, false)
  | .opiStr => (1, false)
  | .opiDtr => (1, true)

/-- Address bits after which the address verdict forms. -/
def HostCmd.verdictBits (c : HostCmd) (width : Nat) : Nat :=
  match c.iface with
  | .opiDtr => 16
  | .opiStr => 24
  | _ => width - 12

/-- The address cut point. -/
def HostCmd.addrCut (c : HostCmd) (b : Bank) (width : Nat) : Nat × Bool :=
  match c.iface with
  | .spi => if (b.entry c.opcode).addrQuad then (if width = 24 then (13, false) else (15, false))
            else (if width = 24 then (21, false) else (29, false))
  | .qpi => if width = 24 then (4, false) else (5, false)
  | .opiStr => if b.oneByte8s then (4, false) else (5, false)
  | .opiDtr => (3, true)

/-- The edges so far have reached a cut point. -/
def HostCmd.reached (c : HostCmd) (pt : Nat × Bool) : Bool := if pt.2 then decide (pt.1 ≤ c.rises) else decide (pt.1 ≤ c.falls)

/-- The next point at which a cut can be made. -/
def HostCmd.nextCut (c : HostCmd) : Nat × Bool := if c.iface == .opiDtr then (c.rises + 1, true) else (c.falls + 1, false)

/-! ### Verdicts (R153, R173, R178, R182 to R189, R194) -/

/-- The opcode byte after the closing substitution (R189). -/
def substituted (i : Iface) (op sub : Nat) : Nat :=
  match i with
  | .spi => op / 2 * 2 + sub % 2
  | .qpi => op / 16 * 16 + sub % 16
  | _ => sub

/-- The command is denied with a kind and a region. -/
def HostCmd.deny (c : HostCmd) (m kind region : Nat) : HostCmd := { c with verdict := .denied m, kind := kind, region := region }

/-- The closing substitution of a command that the chip-select method denies at its opcode: where it has neither address nor
data (R183, R189). -/
def HostCmd.closed (c : HostCmd) (b : Bank) : HostCmd :=
  let e := b.entry c.opcode
  if e.addrMode = 0 ∧ e.data = 0 ∧ !b.twoByte c.iface then { c with sentOpcode := substituted c.iface c.opcode e.sub } else c

/-- A denial on the opcode verdict (R183). -/
def HostCmd.denyOpcode (c : HostCmd) (b : Bank) (kind region : Nat) : HostCmd :=
  let e := b.entry c.opcode
  let two := b.twoByte c.iface
  let m := if e.method = 0 then (if two then 3 else 1) else e.method
  let c := c.deny m kind region
  if m = 2 then { c with sentOpcode := substituted c.iface c.opcode e.sub }
  else if m = 3 then c
  else
    ({ c with cutAt := some c.opcodeCut }).closed b

/-- A denial by the freeze gate (R133, R142): always by the chip-select method. -/
def HostCmd.denyGate (c : HostCmd) (b : Bank) (kind : Nat) (pt : Nat × Bool) : HostCmd :=
  ({ c.deny 1 kind 0xFF with cutAt := some pt }).closed b

/-- The kind of a gate denial: FROZEN before RESYNC (R182). -/
def gateKind (frozen : Bool) : Nat := if frozen then 7 else 8

/-- An unknown command (R194). -/
def HostCmd.denyUnknown (c : HostCmd) (b : Bank) (kind : Nat) : HostCmd :=
  if b.twoByte c.iface then { c.deny 3 kind 0xFF with stopped := true }
  else { c.deny 1 kind 0xFF with stopped := true, cutAt := some c.opcodeCut,
                                 sentOpcode := substituted c.iface c.opcode (b.entry c.opcode).sub }

/-- The suspension rules apply to erases, register writes and configuration writes at their opcode (R139). -/
def suspRefuses (x : Shadow) (e : OpEntry) : Bool :=
  (x.susp == .erase || x.susp == .both) && (e.cls == 3 || e.effect == 5 || e.effect == 12)

/-- The command is denied already, by a disagreement of the decoders. -/
def HostCmd.isDenied (c : HostCmd) : Bool :=
  match c.verdict with
  | .denied _ => true
  | _ => false

/-- The opcode verdict (R153), as the last opcode bit is captured. An UNKNOWN entry is recorded as UNKNOWN_OPCODE whatever its
IFACE_MASK: a DESIGN CHOICE, for R194 names WRONG_INTERFACE for an entry that exists (log entry 121). -/
def HostCmd.opcodeVerdict (c : HostCmd) (b : Bank) (x : Shadow) (frozen : Bool) : HostCmd :=
  let e := b.entry c.opcode
  let c := { c with sentOpcode := c.opcode }
  if c.isDenied then c.closed b
  else if c.gated then
    if gateAllows c.iface c.opcode then { c with verdict := if b.twoByte c.iface then .pending else .allowed }
    else c.denyGate b (gateKind frozen) c.opcodeCut
  else if e.cls = 0 then c.denyUnknown b 1
  else if !e.allows c.iface then c.denyUnknown b 2
  else if suspRefuses x e then c.denyOpcode b 6 0xFF
  else if e.cls = 4 ∧ !hasAttr (b.deviceAt c.cs) 4 then c.denyOpcode b 3 (regionIdx (b.deviceAt c.cs))
  else if e.cls = 6 ∧ !hasAttr (b.deviceAt c.cs) 5 then c.denyOpcode b 3 (regionIdx (b.deviceAt c.cs))
  else if e.cls = 3 ∧ e.eraseSize = 4 then
    match b.lacking c.cs 0 (b.size / 4096) 3 with
    | some r => c.denyOpcode b 3 (regionIdx r)
    | none => { c with verdict := .allowed }
  else if e.cls = 7 ∧ !hasAttr (b.deviceAt c.cs) 0 ∧ !hasAttr (b.deviceAt c.cs) 1 then c.deny 0 5 (regionIdx (b.deviceAt c.cs))
  else if e.cls = 2 ∨ e.cls = 3 then
    if e.addrMode = 0 then c.denyOpcode b 4 0xFF else c
  else { c with verdict := .allowed }

/-- The extension is captured (R133, R173, R184, R194). -/
def HostCmd.extVerdict (c : HostCmd) (b : Bank) (frozen : Bool) : HostCmd :=
  let want := 0xFF - c.opcode
  let right := c.ext == want
  let c :=
    if right then c
    else if c.gated then (if c.verdict == .pending then c.denyGate b (gateKind frozen) c.nextCut else c)
    else c.denyUnknown b 1
  let c := if c.gated && c.verdict == .pending then { c with verdict := .allowed } else c
  { c with sentExt := if c.verdict == .denied 3 then want ^^^ 1 else c.ext }

/-- The length of a sized erase. -/
def eraseLen (size : Nat) : Nat := if size = 1 then 4096 else if size = 2 then 32768 else 65536

/-- The address verdict of a program or a sized erase (R178, R179, R181, R139). -/
def HostCmd.addrVerdict (c : HostCmd) (b : Bank) (x : Shadow) (width : Nat) : HostCmd :=
  let e := b.entry c.opcode
  let a := c.addr * 2 ^ (width - c.addrBits) % b.size
  let cut (kind region : Nat) : HostCmd := { c.deny 1 kind region with cutAt := some (c.addrCut b width) }
  if e.cls = 2 then
    if (x.susp == .erase || x.susp == .both) && a / 65536 == x.suspAddr / 65536 then cut 6 0xFF
    else if hasAttr (b.arrayAt c.cs a) 2 then { c with verdict := .allowed }
    else cut 4 (regionIdx (b.arrayAt c.cs a))
  else
    let n := eraseLen e.eraseSize
    match b.lacking c.cs (a / n * n) (n / 4096) 3 with
    | some r => cut 4 (regionIdx r)
    | none => { c with verdict := .allowed }

/-! ### Read data (R180, R191) -/

/-- What the host receives of one flash byte at an address, and the region of a denial: the freeze gate blinds in full, and
once the decoders differ each byte is blinded that either of them or the gate would blind (R132, R133, R142). -/
def HostCmd.readByte (c : HostCmd) (b : Bank) (addr v : Nat) : Nat × Option Nat :=
  let e := b.entry c.opcode
  if c.differ = 4 ∨ (c.gated ∧ !gateIdents.contains c.opcode ∧ b.lacksRead c.cs) then (b.defaultFill, none)
  else if c.gated ∧ c.differ = 0 then (v, none)
  else
    let r := if e.cls = 1 then b.arrayAt c.cs addr else b.deviceAt c.cs
    if e.cls ≠ 1 ∧ e.cls ≠ 7 then (v, none)
    else if hasAttr r 0 then (v, none)
    else match r with
      | some x => if x.attr.testBit 1 then (x.fill, none) else (b.defaultFill, some x.idx)
      | none => (b.defaultFill, some 0xFF)

/-- The command reaches the flash with its data. -/
def HostCmd.passes (c : HostCmd) : Bool :=
  c.blocked == 0 && (match c.verdict with
    | .denied m => m == 0
    | _ => true)

/-- A byte of the data phase is complete. -/
def HostCmd.takeByte (c : HostCmd) (b : Bank) (v : Nat) : HostCmd :=
  let e := b.entry c.opcode
  let c' := { c with acc := 0, accBits := 0, dataCount := c.dataCount + 1, data := c.data ++ [byte v] }
  if e.data ≠ 2 ∨ !c.passes then c'
  else
    let (rx, bad) := c.readByte b ((c.addr + c.dataCount) % b.size) v
    let c' := { c' with hostRx := c'.hostRx ++ [byte rx] }
    match bad with
    | some r => if c.verdict == .allowed then c'.deny 0 5 r else c'
    | none => c'

/-! ### One edge of the host's SCK -/

/-- The sample of an edge enters the command. -/
def HostCmd.sample (c : HostCmd) (b : Bank) (x : Shadow) (frozen : Bool) (hostDq flashDq : Nat) : HostCmd :=
  let e := b.entry c.opcode
  match c.phase b x with
  | .opcode =>
    let n := if c.iface == .spi then 1 else if c.iface == .qpi then 4 else 8
    let c := { c with opcode := c.opcode * 2 ^ n + onLines n false hostDq, opBits := c.opBits + n }
    if c.opBits < 8 then c else c.opcodeVerdict b x frozen
  | .ext => ({ c with ext := hostDq % 256, extBits := 8 }).extVerdict b frozen
  | .addr =>
    let n := lineCount c.iface e.addrQuad
    let c := { c with addr := c.addr * 2 ^ n + onLines n false hostDq, addrBits := c.addrBits + n }
    let w := c.addrWidth b x
    if c.verdict == .pending && !c.gated && decide (c.verdictBits w ≤ c.addrBits) then c.addrVerdict b x w else c
  | .mode =>
    let n := lineCount c.iface e.addrQuad
    let c := { c with modeByte := c.modeByte * 2 ^ n + onLines n false hostDq, modeBits := c.modeBits + n }
    { c with sentMode := b.xipOff / 2 ^ (8 - c.modeBits) }
  | .dummy => { c with dummies := c.dummies + 1 }
  | .data =>
    let read := e.data == 2
    let n := if e.data = 0 then lineCount c.iface false else lineCount c.iface e.dataQuad
    let c := { c with acc := c.acc * 2 ^ n + onLines n read (if read then flashDq else hostDq), accBits := c.accBits + n }
    if c.accBits < 8 then c else c.takeByte b c.acc
  | .ended => c

/-- A cut that has reached its point is made; one in a high phase holds SCK from then on. There the fall of the clock wins only
against a host clock out of its limits: that fall reaches the flash, and in the low phase that follows the hold gives the flash
one rise of the port's own, after which F_CS# rises (R185 to R188). -/
def HostCmd.makeCut (c : HostCmd) (late rise : Bool) : HostCmd :=
  match c.cutAt with
  | none => c
  | some pt =>
    if c.cut || !c.reached pt then c
    else if c.lateCut then (if rise then c else { c with cut := true, sckHeld := true })
    else if pt.2 && late then { c with lateCut := true, hostClock := true }
    else { c with cut := true, sckHeld := pt.2 }

/-- The lines turn from flash to host at the first SCK fall after the last address or mode bit of a read (R119). -/
def HostCmd.turn (c : HostCmd) (b : Bank) (x : Shadow) (rise : Bool) : HostCmd :=
  let e := b.entry c.opcode
  if !rise && e.data == 2 && !c.stopped && (c.phase b x == .dummy || c.phase b x == .data) then { c with turned := true } else c

/-- One edge of SCK while the command runs. A fall before the first rise belongs to no clock of Table 4-9 (DEDUCED, log
entry 115). -/
def HostCmd.edge (c : HostCmd) (b : Bank) (x : Shadow) (frozen rise : Bool) (hostDq flashDq : Nat) (late : Bool) (now : Nat) : HostCmd :=
  let p := c.phase b x
  let c := { c with rises := if rise then c.rises + 1 else c.rises, falls := if rise || c.rises == 0 then c.falls else c.falls + 1,
                    edged := true, lastEdge := now, stalled := false }
  let c := if p == .dummy || p == .data then c.turn b x rise else c
  let c := if c.samples p rise then c.sample b x frozen hostDq flashDq else c
  c.makeCut late rise

/-- The two decoders differ before the command's last cut point (R132): the more restrictive verdict, and the freeze gate,
decide. differ: 1 decoder B denies, 2 it allows, 4 it blinds the data. A command that decoder A only blinds is one that it
lets reach the flash. A denial at the opcode of a command with neither address nor data makes the closing substitution (R183). -/
def HostCmd.disagree (c : HostCmd) (b : Bank) (x : Shadow) (differ : Nat) : HostCmd :=
  let c' := { c with gated := true, differ := differ }
  let denied : Bool := match c.verdict with
    | .denied m => m != 0
    | _ => false
  if denied then c'
  else
    if differ ≠ 1 ∧ (c.opBits < 8 ∨ gateAllows c.iface c.opcode) then c'
    else if b.twoByte c.iface ∧ c.opBits = 8 ∧ c.extBits < 8 then c'.deny 3 7 0xFF
    else
      let pt := if c.addrBits = 0 then c.opcodeCut else c.addrCut b (c.addrWidth b x)
      let c' := { c'.deny 1 7 0xFF with cutAt := some (if c.reached pt then c.nextCut else pt) }
      if c.opBits < 8 then c' else c'.closed b

/-! ### The end of a command (R135, R193) -/

/-- Whole bytes (words in 8D) were sent, and every byte that the profile requires (R135, Table 5-7). -/
def HostCmd.complete (c : HostCmd) (b : Bank) (x : Shadow) : Bool :=
  let e := b.entry c.opcode
  let bytes := 1 + (if b.twoByte c.iface then 1 else 0) + c.addrBits / 8 + c.modeBits / 8 + c.dataCount
  decide (c.opBits = 8) && !c.stopped && (!b.twoByte c.iface || c.extBits == 8) && decide (c.addrBits = c.addrWidth b x) &&
  (!e.modeByte || c.modeBits == 8) && c.accBits == 0 && (c.iface != .opiDtr || bytes % 2 == 0) &&
  (e.data == 0 || decide ((if c.iface = .opiDtr then 2 else 1) ≤ c.dataCount))

/-- FLAGS of the command's violation record (Table 5-13). -/
def HostCmd.violFlags (c : HostCmd) : Nat := b2n (c.cutAt.isSome && !c.cut) + 4 * b2n c.hostClock

/-- What a record says of the command as the host sent it (Table 5-13). -/
def HostCmd.asSent (c : HostCmd) (port : Nat) (b : Bank) (x : Shadow) : Viol :=
  let addr := if 0 < c.addrWidth b x ∧ c.addrBits = c.addrWidth b x ∧ !c.stopped then c.addr else 0xFFFFFFFF
  { port := port, cs := c.cs, opcode := c.opcode, ext := c.ext, iface := c.iface.code, addr := addr }

/-- The command's violation (Table 5-13); none for a command without one. -/
def HostCmd.violation (c : HostCmd) (port : Nat) (b : Bank) (x : Shadow) : Option Viol :=
  let v := c.asSent port b x
  if c.blocked = 1 then (if c.edged then some { v with kind := 0 } else none)
  else if c.blocked ≠ 0 then none
  else match c.verdict with
    | .denied m => some { v with kind := c.kind, method := m, region := c.region, flags := c.violFlags }
    | _ => none

/-! ### Shadow effects (Table 4-8, R136, R138, R140, R558) -/

/-- The effect of a completed command on the shadow of its device: the shadow, whether WEL was adopted, and a cause of
RESYNC (0 none). Of a status read of several bytes the first one counts (log entry 86). -/
def HostCmd.effect (c : HostCmd) (b : Bank) (x : Shadow) : Shadow × Bool × Nat :=
  let e := b.entry c.opcode
  let armed := x.rstEn
  let x := if e.effect = 15 then x else { x with rstEn := false }
  let addr := if c.addrBits = 0 then none else some c.addr
  if 6 ≤ e.effect ∧ e.effect ≤ 12 ∧ x.busy != .none ∧ !e.acceptBusy then (x, false, 5)
  else match e.effect with
    | 1 => ({ x with wel := true }, false, 0)
    | 2 => ({ x with wel := false }, false, 0)
    | 3 => ({ x with busy := .program }, false, 0)
    | 4 => ({ x with busy := .erase, eraseAddr := c.addr % b.size / 65536 * 65536 }, false, 0)
    | 5 => ({ x with busy := .register }, false, 0)
    | 6 => ({ x with addr4 := true }, false, 0)
    | 7 => ({ x with addr4 := false }, false, 0)
    | 8 => ({ x with iface := .qpi }, false, 0)
    | 9 => ({ x with iface := .opiStr }, false, 0)
    | 10 => ({ x with iface := .opiDtr }, false, 0)
    | 11 => ({ x with iface := .spi }, false, 0)
    | 12 =>
      let r := x.configWrite b e.nonvolatile addr c.data
      (r.1, false, if r.2 then 1 else 0)
    | 13 => (if x.busy == .erase || x.busy == .program then { x with suspPending := true } else x, false, 0)
    | 14 => (x.resumed, false, 0)
    | 15 => ({ x with rstEn := true }, false, 0)
    | 16 => (if armed then Shadow.reset b x else x, false, 0)
    | 17 => match c.data with
      | v :: _ => x.takeStatus b v.toNat
      | [] => (x, false, 0)
    | 18 => (x, false, 1)
    | _ => (x, false, 0)

/-- A register read that shows the 4-byte mode disagrees with the shadow (R136). -/
def HostCmd.addr4Differs (c : HostCmd) (b : Bank) (x : Shadow) : Bool :=
  b.addr4Readable && c.opcode == fld b.profile 0x0E 1 &&
  (match c.data with
   | v :: _ => v.toNat.testBit (fld b.profile 0x0F 1) != x.addr4
   | [] => false)

/-! ### The three host events -/

/-- The command of chip select k of a port. -/
def Port.cmdOf (x : Port) (k : Nat) : Option HostCmd := ([x.cmd, x.other].filterMap id).find? (fun c => c.cs == k)

/-- A command begins on a port, beside the one that runs; a chip select has one at a time. -/
def Port.beginCmd (x : Port) (c : HostCmd) : Port :=
  if (x.cmdOf c.cs).isSome then x
  else if x.cmd.isNone then { x with cmd := some c } else { x with other := some c }

/-- The command of chip select k ends: the other one, where there is one, goes on. -/
def Port.dropCmd (x : Port) (k : Nat) : Port :=
  match x.cmd with
  | some c => if c.cs = k then { x with cmd := x.other, other := none } else { x with other := none }
  | none => x

/-- A CS# fall of port p inside a window or a reset pulse is not passed, and is counted (R144, R150, Table 4-18). -/
def State.intrusion (s : State) (p : Nat) (inWindow : Bool) : State :=
  let s := s.updPort p (fun x => { x with intrusions := min (x.intrusions + 1) 0xFFFF })
  if inWindow then
    (s.updPort p (fun x => { x with window := x.window.map (fun w => { w with intrusions := min (w.intrusions + 1) 0xFFFF }) })).log
      .guard 0x0204 6 1 p { cause := 2 }
  else s.yieldBegin .guard 1 5 1 p

/-- HOST_CS_FALL (R125, R126, R144, R150, R166): a command begins under the tables in force. The chip select's gate is judged
here, once for the whole command, and a device in RESYNC is decoded in its shadow's interface (log entry 86). A chip select that
falls while the other's command runs has a command of its own, which the same clock and lines feed (log entry 42). -/
def execHostCsFall (port cs : Nat) (s : State) : Res :=
  let x := s.port port
  if 16 ≤ port ∨ 2 ≤ cs ∨ !s.boot.guardUp ∨ !x.hVddioOk then .next s
  else
    let s := s.updPort port (fun x => if cs = 0 then { x with csLow0 := true } else { x with csLow1 := true })
    let inWindow := match x.window with
      | some w => w.isOpen
      | none => false
    let blocked :=
      if x.mode == .own then 3
      else if inWindow || x.pulseUntil.isSome then 2
      else if !s.csReleased port cs then 1
      else 0
    let s := if blocked = 2 then s.intrusion port inWindow else s
    let sh := x.dev cs
    let c : HostCmd := { cs := cs, bank := x.active, iface := sh.iface, blocked := blocked, gated := x.mode == .frozen || sh.resync,
                         startedAt := s.now, lastEdge := s.now }
    .next (s.updPort port (fun x => x.beginCmd c))

/-- An edge of SCK on one of the port's commands. One that is not passed for a window, a pulse or OWN is not decoded. -/
def Port.edgeCmd (x : Port) (rise : Bool) (hostDq flashDq : Nat) (late : Bool) (now : Nat) (c : HostCmd) : HostCmd :=
  if 2 ≤ c.blocked then { c with edged := true, lastEdge := now, stalled := false }
  else c.edge x.bank (x.dev c.cs) (x.mode == .frozen) rise hostDq flashDq late now

/-- HOST_SCK_EDGE (R119, R132, R153, R173 to R191). -/
def execHostSckEdge (port : Nat) (rise : Bool) (hostDq flashDq : Nat) (late : Bool) (differ : Nat) (s : State) : Res :=
  let x := s.port port
  match x.cmd with
  | none => .next s
  | some c =>
    if !x.hVddioOk then .next s
    else
      let c := x.edgeCmd rise hostDq flashDq late s.now c
      let o := x.other.map (x.edgeCmd rise hostDq flashDq late s.now)
      let s := s.updPort port (fun x => { x with sckHigh := rise, cmd := some c, other := o })
      if (differ = 1 ∨ differ = 2 ∨ differ = 4) ∧ c.blocked = 0 then
        let out := le 1 c.opcode ++ le 1 c.ext ++ le 1 differ ++ le 1 (b2n c.passes)
        let c := (c.disagree x.bank (x.dev c.cs) differ).makeCut late rise
        .next ((s.updPort port (fun x => { x with cmd := some c })).freezePort port out).settle
      else .next s

/-- A program or erase of the host has completed at the flash side: its leaves are marked and worn, and its assemblies
discarded, whatever became of its shadow effect (R132, R141, R221, R226, R238). -/
def State.flashDone (s : State) (p : Nat) (c : HostCmd) : State :=
  let d := 2 * p + c.cs
  let b := (s.port p).bank
  let e := b.entry c.opcode
  let (seq, s) := s.nextPortSeq p
  if e.cls = 2 then s.noteProgram d (c.addr % b.size) seq
  else if e.cls = 3 then s.noteErase d e.eraseSize (c.addr % b.size) seq
  else s

/-- The shadow effect of a completed command (R135 to R140). -/
def State.commandDone (s : State) (p : Nat) (c : HostCmd) : State :=
  let d := 2 * p + c.cs
  let b := (s.port p).bank
  let x := s.shadow d
  let (x', adopted, cause) := c.effect b x
  let cause := if cause = 0 ∧ c.addr4Differs b x' then 4 else cause
  let s := s.updShadow d (fun _ => x')
  let s := if adopted then s.updPort p (fun y => { y with welAdopt := min (y.welAdopt + 1) 255 }) else s
  if cause = 0 then s else s.enterResync d cause (some (c.asSent p b x))

/-- A command ends at its CS# rise: counts, violation, shadow effect and snooped data (R135, R193, R195, R213). A rise that
the loss of the host's supply makes is quiet: it records no violation (R529). -/
def State.endCommand (s : State) (port : Nat) (c : HostCmd) (differ : Nat) (quiet : Bool) : State :=
  let b := (s.port port).bank
  let sh := (s.port port).dev c.cs
  let d := 2 * port + c.cs
  let s := s.updPort port (fun x => { x.dropCmd c.cs with lastRx := if c.hostRx.isEmpty then x.lastRx else c.hostRx, lineIface := c.iface })
  if 2 ≤ c.blocked ∨ !c.edged then s
  else
    let done := c.complete b sh
    let counted := c.passes && done
    let s := s.updPort port (fun x => { x with cmdCount := if counted then satAdd 32 x.cmdCount 1 else x.cmdCount,
                                               truncCount := if counted then x.truncCount else satAdd 32 x.truncCount 1 })
    let s := if differ = 3 ∧ c.blocked = 0 then s.freezePort port (le 1 c.opcode ++ le 1 c.ext ++ le 1 differ ++ [1]) else s
    let s := match c.violation port b sh with
      | some v => if quiet then s else s.violate b v
      | none => s
    let e := b.entry c.opcode
    let silent := c.gated || (s.port port).mode == .frozen || (s.shadow d).resync || c.blocked != 0
    let s := if counted then s.flashDone port c else s
    let s :=
      if silent ∨ !c.passes then s
      else if done then s.commandDone port c
      else if e.effect = 12 ∧ (0 < c.dataCount ∨ 0 < c.accBits) then s.enterResync d 2 (some (c.asSent port b sh))
      else s
    let s := if !silent && c.passes && e.cls == 1 && c.opBits == 8 && !c.data.isEmpty then
        s.snoop d (c.addr % b.size) (s.fit.seqs.get port 0) c.data
      else s
    s.planPulse port

/-- HOST_CS_RISE (R135, R193, R195, R213): a command ends. -/
def execHostCsRise (port cs differ : Nat) (s : State) : Res :=
  let x := s.port port
  if 16 ≤ port ∨ 2 ≤ cs ∨ !x.hVddioOk then .next s
  else
    let s := s.updPort port (fun x => if cs = 0 then { x with csLow0 := false, csHighSince := s.now }
                                      else { x with csLow1 := false, csHighSince := s.now })
    match x.cmdOf cs with
    | none => .next s
    | some c => .next (s.endCommand port c differ false).settle

/-- The chip select of a command has been low for 1 s with no SCK edge, which is not recorded yet (R152). -/
def HostCmd.stallDue (c : HostCmd) (now : Nat) : Bool := !c.stalled && decide (c.lastEdge + 1000000 ≤ now)

/-- HOST_CLOCK_STALL (R152): CS# low with no SCK edge for 1 s, recorded once for each chip select that is. -/
def execHostClockStall (port : Nat) (s : State) : Res :=
  let x := s.port port
  let due := ([x.cmd, x.other].filterMap id).filter (fun c => c.stallDue s.now)
  let mark (c : HostCmd) : HostCmd := if c.stallDue s.now then { c with stalled := true } else c
  if due.isEmpty then .next s
  else
  .next (due.foldl (fun t _ => (t.updPort port (fun x => { x with stalls := min (x.stalls + 1) 255 })).log .guard 0x0204 6 1 port { cause := 3 })
    (s.updPort port (fun x => { x with cmd := x.cmd.map mark, other := x.other.map mark })))

end Sys2Proof.Machine
end

