-- ==== Sys2Proof/Machine/PolicyRules.lean ====
section
/-! DEFINITION. Check 6 of R159: the section rules of a policy image (R98, R171, R175, R177, R181, R197, R235, R236, R283,
R318, R335, R352, R378, R450, R466, R482, R502, R521), and the section and record that a broken one names (R557). -/
namespace Sys2Proof.Machine

/-- The sections of an image under check. -/
abbrev Sections := Tab Bytes

/-- A section's body; empty where it is absent. -/
def Sections.sec (x : Sections) (id : Nat) : Bytes := x.get id []

/-- A section is present. -/
def Sections.has (x : Sections) (id : Nat) : Bool := x.any (fun e => e.1 == id)

/-- A value between two bounds, both included. -/
def within (lo v hi : Nat) : Bool := decide (lo ≤ v ∧ v ≤ hi)

/-- The lowest of n records that breaks its rules. -/
def firstBad (n : Nat) (good : Nat → Bool) : Option Nat := (List.range n).find? (fun i => !good i)

/-- A rule's finding: the section and record at fault, none where the rule holds. -/
abbrev Finding := Option (Nat × Nat)

/-- A finding about the records of a section. -/
def inSection (id : Nat) (bad : Option Nat) : Finding := bad.map (fun r => (id, r))

/-- A finding about one thing that holds or not. -/
def mustHold (id record : Nat) (good : Bool) : Finding := if good then none else some (id, record)

/-- The record of a header or of a section of one block (R557). -/
def headRec : Nat := 0xFFFE
/-- The record of a section as a whole (R557). -/
def wholeRec : Nat := 0xFFFF

/-- Bytes a to b (b excluded) of a record are 0. -/
def zeroAt (r : Bytes) (a b : Nat) : Bool := allZero (slice r a (b - a))

/-! ### Presence and lengths (R157) -/

/-- The sections that an image must carry (Table 5-3). -/
def requiredSections : List Nat := [0x01, 0x02, 0x03, 0x05, 0x10, 0x11, 0x20]

/-- The optional sections of Table 5-3. -/
def optionalSections : List Nat := [0x04, 0x12, 0x13, 0x21, 0x22, 0x30, 0x31, 0x32, 0x33, 0x34, 0x40]

/-- The length of a section is right. -/
def sectionLenOk (id len : Nat) : Bool :=
  if id = 2 then within 1 len (16 * 2176) && len % 2176 == 0
  else if id = 0x13 then decide (len ≤ 12288) && len % 12 == 0
  else match ([(1, 128), (3, 16384), (4, 2056), (5, 3072), (0x10, 4096), (0x11, 2048), (0x12, 128), (0x20, 32832), (0x21, 16384), (0x22, 8),
      (0x30, 4128), (0x31, 4096), (0x32, 272), (0x33, 8), (0x34, 8), (0x40, 8)] : List (Nat × Nat)).find? (fun e => e.1 == id) with
    | some e => len == e.2
    | none => true

/-- Every required section is there, and every section has its length. -/
def checkLengths (x : Sections) : Finding :=
  match requiredSections.find? (fun id => !x.has id) with
  | some id => some (id, wholeRec)
  | none => (x.find? (fun e => !sectionLenOk e.1 e.2.length)).map (fun e => (e.1, wholeRec))

/-! ### Records that several rules read -/

/-- Port record p. -/
def Sections.portRec (x : Sections) (p : Nat) : Bytes := slice (x.sec 1) (8 * p) 8
/-- Port p is guarded. -/
def Sections.guarded (x : Sections) (p : Nat) : Bool := (fld (x.portRec p) 0 1).testBit 0
/-- The number of profiles. -/
def Sections.profiles (x : Sections) : Nat := (x.sec 2).length / 2176
/-- Profile i. -/
def Sections.profile (x : Sections) (i : Nat) : Bytes := slice (x.sec 2) (2176 * i) 2176
/-- The tables of port p as one bank. -/
def Sections.bank (x : Sections) (p : Nat) : Bank :=
  { record := x.portRec p, profile := x.profile (fld (x.portRec p) 1 1), regions := slice (x.sec 3) (1024 * p) 1024 }
/-- Device record d. -/
def Sections.devRec (x : Sections) (d : Nat) : Bytes := slice (x.sec 5) (96 * d) 96
/-- Device record d is VALID. -/
def Sections.devValid (x : Sections) (d : Nat) : Bool := (fld (x.devRec d) 0 1).testBit 0
/-- Slot record n. -/
def Sections.slotRec (x : Sections) (n : Nat) : Bytes := slice (x.sec 0x11) (8 * n) 8
/-- Slot n is DEFINED. -/
def Sections.defined (x : Sections) (n : Nat) : Bool := (fld (x.slotRec n) 0 1).testBit 0
/-- The devices that slot n binds. -/
def Sections.devicesOf (x : Sections) (n : Nat) : List Nat := if x.defined n then devicesOfRec (x.slotRec n) else []
/-- The slots that bind device d. -/
def Sections.binders (x : Sections) (d : Nat) : List Nat := (List.range 256).filter (fun n => (x.devicesOf n).contains d)

/-- The interface of a SCAN_MODE (R175). -/
def scanIface (mode : Nat) : Iface :=
  match mode with
  | 0 | 1 | 2 => .spi
  | 3 => .qpi
  | 4 => .opiStr
  | _ => .opiDtr

/-- The clock limit in MHz of a SCAN_MODE at a VDDIO level (Table 4-2). -/
def modeLimit (mode : Nat) (v33 : Bool) : Nat :=
  if mode = 3 then 100 else if mode = 5 then (if v33 then 0 else 200) else if v33 then 133 else 166

/-- The clock limit of a SCAN_MODE on a port: the lower of its two sides' (R117). -/
def Sections.clockLimit (x : Sections) (p mode : Nat) : Nat :=
  let f := fld (x.portRec p) 0 1
  min (modeLimit mode (f.testBit 1)) (modeLimit mode (f.testBit 2))

/-! ### PORT_CONFIG (R171) -/

/-- Port record p is good. -/
def Sections.portOk (x : Sections) (p : Nat) : Bool :=
  let r := x.portRec p
  decide (fld r 0 1 < 8) && zeroAt r 3 4 && decide (fld r 4 2 ≤ 60000) && zeroAt r 6 8 &&
  (!x.guarded p || decide (fld r 1 1 < x.profiles)) &&
  (x.guarded p || ((x.binders (2 * p)).isEmpty && (x.binders (2 * p + 1)).isEmpty))

/-! ### PROFILES (R172, R175, R189) -/

/-- The 128-byte header of a profile is good. -/
def profileHeadOk (b : Bytes) : Bool :=
  within 20 (fld b 3 1) 29 && decide (fld b 4 1 < 16 ∧ fld b 5 1 < 4 ∧ fld b 6 1 < 64) && within 1 (fld b 8 2) 1000 &&
  within 1 (fld b 0x0A 2) 10000 && decide (fld b 0x0C 1 < 8 ∧ fld b 0x0D 1 < 8 ∧ fld b 0x0F 1 < 8) &&
  ([256, 512, 1024, 2048, 4096] : List Nat).contains (fld b 0x60 2) && zeroAt b 0x62 0x80

/-- The configuration fields that a CONFIG_WRITE entry uses lie in their ranges. A field lies inside its byte: CFG_ADDR4's bit
below 8, and each other field's lowest bit and width together at most 8: a DESIGN CHOICE (log entry 99). -/
def configFieldsOk (b : Bytes) : Bool :=
  decide (fld b 0x11 1 < 8) && decide (0 < fld b 0x16 1 ∧ fld b 0x15 1 + fld b 0x16 1 ≤ 8) &&
  decide (0 < fld b 0x1E 1 ∧ fld b 0x1E 1 ≤ 5 ∧ fld b 0x1D 1 + fld b 0x1E 1 ≤ 8)

/-- The entries of a profile with an effect. -/
def entriesWith (b : Bytes) (effect : Nat) : List Nat := (List.range 256).filter (fun i => (profileEntry b i).effect == effect)

/-- The effects that start a write or set the configuration (R175). -/
def writeEffect (e : Nat) : Bool := e == 3 || e == 4 || e == 5 || e == 12

/-- CLASS and EFFECT agree both ways (R175). -/
def classEffectOk (e : OpEntry) : Bool :=
  if e.cls = 2 then e.effect == 3
  else if e.cls = 3 then e.effect == 4
  else if e.cls = 4 ∨ e.cls = 6 then e.effect == 5 || e.effect == 12
  else !writeEffect e.effect

/-- Entry i's SUB_OPCODE satisfies R189 in an SDR interface. In OPI_STR no opcode bit is sent before the one that the substitution
replaces, with or without an extension byte (DEDUCED, log entry 95). Of the lines only those of the two data phases are compared:
a DESIGN CHOICE, for R189 does not say whether the original's address phase counts (log entry 118). -/
def subOk (b : Bytes) (i : Nat) (e : OpEntry) (f : Iface) : Bool :=
  let u := profileEntry b e.sub
  let shared := match f with
    | .spi => e.sub / 2 == i / 2
    | .qpi => e.sub / 16 == i / 16
    | _ => true
  let clsOk := u.cls == 0 || u.cls == 1 || u.cls == 5 || u.cls == 7 || u.cls == 9 || (u.cls == 8 && u.effect == 2)
  let clash := e.data == 1 && u.data == 2 && (f != .spi || e.dataQuad || u.dataQuad)
  shared && clsOk && !clash

/-- Opcode entry i of a profile is good. The SUB_OPCODE of an entry of class UNKNOWN is checked in every SDR interface, whatever its
IFACE_MASK: a DESIGN CHOICE, for R175 does not say which count there (log entry 120). -/
def opEntryOk (b : Bytes) (i : Nat) : Bool :=
  let e := profileEntry b i
  let one := (fld b 4 1).testBit 3
  let sdr : List Iface := [.spi, .qpi, .opiStr]
  let isWrite := e.cls == 2 || e.cls == 3 || e.cls == 4 || e.cls == 6
  decide (e.cls ≤ 9 ∧ e.effect ≤ 18 ∧ e.ifaceMask < 16 ∧ e.data < 3 ∧ e.dummy < 128 ∧ e.eraseSize ≤ 4) &&
  fld b (128 + 8 * i + 7) 1 == 0 && classEffectOk e && (e.eraseSize != 0) == (e.cls == 3) && (e.eraseSize != 4 || e.addrMode == 0) &&
  (e.method != 3 || (e.ifaceMask == 8 || (!one && (e.ifaceMask == 4 || e.ifaceMask == 12)))) && (e.method != 2 || !e.allows .opiDtr) &&
  !(one && e.allows .opiStr && e.addrMode == 0 && e.data == 0 && isWrite) &&
  sdr.all (fun f => !(e.cls == 0 || e.allows f) || subOk b i e f)

/-- The interfaces in which a profile's RESET ENABLE and RESET entries are sent: its reset interface, and every interface
that SCAN_MODE names on a port using it. -/
def Sections.resetIfaces (x : Sections) (i : Nat) : List Iface :=
  ifaceOf (fld (x.profile i) 5 1) ::
  ((List.range 32).filter (fun d => x.devValid d && x.guarded (d / 2) && fld (x.portRec (d / 2)) 1 1 == i)).map
    (fun d => scanIface (fld (x.devRec d) 1 1))

/-- The record at fault in profile i: bits 15:12 the profile, bits 11:0 the entry or 0xFFF (R557). -/
def Sections.profileBad (x : Sections) (i : Nat) : Option Nat :=
  let b := x.profile i
  let need := x.resetIfaces i
  let sent := [15, 16].map (fun eff => (entriesWith b eff).head?)
  if !profileHeadOk b || (!(entriesWith b 12).isEmpty && !configFieldsOk b) || sent.any Option.isNone then some (4096 * i + 0xFFF)
  else
    let fits (k : Nat) : Bool := opEntryOk b k && (!sent.contains (some k) || need.all (fun f => (profileEntry b k).allows f))
    (firstBad 256 fits).map (fun k => 4096 * i + k)

/-! ### REGION_TABLES (R175, R177, R181) -/

/-- The profile of port p allows a PROGRAM or ERASE entry in OPI_DTR (R181). -/
def Bank.writes8d (b : Bank) : Bool :=
  (List.range 256).any (fun i => ((b.entry i).cls == 2 || (b.entry i).cls == 3) && (b.entry i).allows .opiDtr)

/-- The PROGRAM and ERASE attributes of an ARRAY address. -/
def Bank.writeAttrs (b : Bank) (k addr : Nat) : Bool × Bool := (hasAttr (b.arrayAt k addr) 2, hasAttr (b.arrayAt k addr) 3)

/-- Region entry e of table p is good. -/
def Sections.regionOk (x : Sections) (p e : Nat) : Bool :=
  let r := slice (x.sec 3) (1024 * p + 16 * e) 16
  let scope := fld r 0 1
  let first := fld r 4 4
  let last := fld r 8 4
  let b := x.bank p
  if !scope.testBit 7 then true
  else
    let common := bits scope 3 4 == 0 && decide (bits scope 1 2 < 2 ∧ fld r 1 1 < 64) && zeroAt r 3 4 && zeroAt r 12 16
    if bits scope 1 2 = 1 then common && first == 0 && last == 0
    else
      common && first % 4096 == 0 && (last + 1) % 4096 == 0 && decide (first ≤ last) && (!x.guarded p || decide (last < b.size)) &&
      (!x.guarded p || !b.writes8d || [first, last + 1].all (fun a =>
        a % 65536 == 0 || decide (b.size ≤ a) || b.writeAttrs (bits scope 0 1) (a - 1) == b.writeAttrs (bits scope 0 1) a))

/-! ### VIOLATION_RULES (R197, R199) -/

/-- Rule record n is good. -/
def Sections.ruleOk (x : Sections) (n : Nat) : Bool :=
  let r := slice (x.sec 4) (8 * n) 8
  decide (ruleKinds r < 1024 ∧ ruleAction r ≤ 2) && zeroAt r 7 8 && (ruleThreshold r == 0 || within 16 (ruleWindow r) 60000) &&
  !(n == 256 && ruleAction r == 2)

/-! ### EXPECTED_ROOTS (R235, R236, R175 on SCAN_MODE) -/

/-- An opcode entry and its data byte set an interface, judged under R558 (R175). -/
def setsIface (b rec_ : Bytes) (f : Iface) : Bool :=
  let op := fld rec_ 4 1
  let e := profileEntry b op
  let addr := fld rec_ 8 4
  let none_ := addr == 0xFFFFFFFF
  let reg := fld b 0x17 1
  op != 0 && e.effect == 12 && none_ == (e.addrMode == 0) && fld b 0x14 1 == 0 && (reg == 0xFF || (!none_ && reg == addr % 256)) &&
  bits (fld rec_ 5 1) (fld b 0x15 1) (fld b 0x16 1) == fld b (0x18 + f.code) 1

/-- The exclusions of a device record as start and count, those in use. -/
def exclusionsOf (r : Bytes) : List (Nat × Nat) :=
  (List.range (fld r 7 1)).map (fun i => (fld r (64 + 4 * i) 2, fld r (66 + 4 * i) 2))

/-- Exclusions lie in a device of n blocks and do not overlap; the unused entries are 0. -/
def exclusionsOk (r : Bytes) (n : Nat) : Bool :=
  let l := exclusionsOf r
  l.all (fun e => decide (e.1 + e.2 ≤ n)) &&
  (List.range l.length).all (fun i => (List.range i).all (fun j =>
    let a := l.getD i (0, 0)
    let b := l.getD j (0, 0)
    decide (a.1 + a.2 ≤ b.1 ∨ b.1 + b.2 ≤ a.1))) &&
  zeroAt r (64 + 4 * fld r 7 1) 96

/-- Device record d is good. -/
def Sections.devOk (x : Sections) (d : Nat) : Bool :=
  let r := x.devRec d
  if x.devValid d != !(x.binders d).isEmpty then false
  else if !x.devValid d then true
  else
    let b := (x.bank (d / 2)).profile
    let mode := fld r 1 1
    let f := scanIface mode
    let e := profileEntry b (fld r 3 1)
    fld r 0 1 == 1 && decide (mode ≤ 5 ∧ fld r 6 1 ≤ 2 ∧ fld r 7 1 ≤ 8 ∧ fld r 12 4 ≤ 604800) && within 1 (fld r 2 1) 200 &&
    (fld r 16 4 == 0 || within 3600 (fld r 16 4) 31536000) && within 1000 (fld r 20 4) 10000000 && within 50 (fld r 24 1) 99 &&
    zeroAt r 25 32 && e.cls == 1 && e.allows f && decide (fld r 2 1 ≤ x.clockLimit (d / 2) mode) &&
    (ifaceOf (fld b 5 1) == f || setsIface b r f) && exclusionsOk r (2 ^ fld b 3 1 / 65536)

/-! ### The Strings sections (R94 to R98) -/

/-- String entry i alone is good. -/
def strFieldsOk (r : Bytes) (i : Nat) : Bool :=
  let e := decodeStr r
  let direct := decide (i < 128)
  decide (e.role ≤ 4 ∧ fld r 1 1 < 8) && zeroAt r 5 8 && (e.role != 4 || (direct && decide (e.target < 4))) &&
  (if direct then fld r 3 1 == 0 else bits (fld r 3 1) 3 1 == 0 && decide (fld r 3 1 < 64 ∧ e.line < 16)) &&
  (!e.openDrain || (e.high && direct && e.isOutput)) && (!e.gate || e.role == 3) &&
  (if e.isOutput then decide (e.offsetA ≤ 10000000 ∧ e.offsetB ≤ 10000000)
   else if e.role = 3 then within 1 e.offsetA 10000000 && decide (e.offsetB ≤ 1000000)
   else e.offsetA == 0 && e.offsetB == 0)

/-- Expander entry k is good (Table 3-7). -/
def expanderOk (r : Bytes) : Bool :=
  decide (fld r 0 1 ≤ 2 ∧ fld r 1 1 < 128) && zeroAt r 3 4 &&
  (if fld r 0 1 = 1 then within 8 (fld r 2 1) 0x3D else fld r 0 1 != 2 || fld r 2 1 == 0)

/-- String entry i keeps the rules that involve other records: at most four strings a slot, one string a line, a fitted
expander on a bus with a BUS_RESET string. -/
def Sections.strOk (x : Sections) (i : Nat) : Bool :=
  let es := strEntriesOf (x.sec 0x10)
  let e := decodeStr (slice (x.sec 0x10) (16 * i) 16)
  let ext := decide (128 ≤ i) && e.role != 0
  strFieldsOk (slice (x.sec 0x10) (16 * i) 16) i &&
  (!(e.isOutput || e.role == 3) || decide ((es.filter (fun p => p.2.namesSlot e.target)).length ≤ 4)) &&
  (!ext || (
    !es.any (fun p => decide (128 ≤ p.1 ∧ p.1 ≠ i) && p.2.role != 0 && p.2.bus == e.bus && p.2.expander == e.expander && p.2.line == e.line) &&
    fld (x.sec 0x12) (4 * (8 * e.bus + e.expander)) 1 != 0 && es.any (fun p => p.2.role == 4 && p.2.target == e.bus)))

/-- Slot record n is good, and no other slot binds its devices. -/
def Sections.slotOk (x : Sections) (n : Nat) : Bool :=
  let r := x.slotRec n
  decide (fld r 0 1 < 16 ∧ fld r 3 1 ≤ 2) && bits (fld r 1 1) 5 2 == 0 && bits (fld r 2 1) 5 2 == 0 && zeroAt r 4 8 &&
  (x.devicesOf n).all (fun d => x.binders d == [n])

/-- The slots that a slot reaches along edges, in at most fuel rounds. -/
def reachable (l : List (Nat × Nat)) : Nat → List Nat → List Nat
  | 0, seen => seen
  | fuel + 1, seen =>
    let more := (l.filter (fun e => seen.contains e.1 && !seen.contains e.2)).map Prod.snd
    if more.isEmpty then seen else reachable l fuel (seen ++ more.eraseDups)

/-- Edge k is good: its fields, its ends, no repetition, no cycle through it. -/
def Sections.edgeOk (x : Sections) (k : Nat) : Bool :=
  let es := edgesOf (x.sec 0x13)
  let r := slice (x.sec 0x13) (12 * k) 12
  let e := decodeEdge r
  decide (fld r 2 1 < 16) && e.maxAction != 3 && zeroAt r 3 4 && decide (e.minDelay ≤ 10000000 ∧ e.minDelay ≤ e.maxDelay) &&
  x.defined e.src && x.defined e.dst && e.src != e.dst &&
  !es.any (fun p => p.1 != k && p.2.src == e.src && p.2.dst == e.dst) &&
  !(reachable (es.map (fun p => (p.2.src, p.2.dst))) 256 [e.dst]).contains e.src

/-! ### QUEUE_GRANTS (R282, R283, R352) -/

/-- The queues that MGMT_QUEUE names. -/
def Sections.mgmtNamed (x : Sections) : List Nat := ((List.range 5).map (fun k => fld (x.sec 0x20) (2 * k) 2)).filter (· != 0xFFFF)

/-- The decoded record of queue q. -/
def Sections.grantRec (x : Sections) (q : Nat) : Grant := decodeGrant (slice (x.sec 0x20) (64 + 8 * q) 8)

/-- The header is good. -/
def Sections.grantHeadOk (x : Sections) : Bool :=
  let h := x.sec 0x20
  let a := fld h 10 1
  let c := fld h 11 1
  x.mgmtNamed.all (fun q => decide (q < 4096) && (x.grantRec q).fn == 0x40) && within 8 a 0x77 && within 8 c 0x77 &&
  decide (a ≠ c ∧ a ≠ 0x1D ∧ c ≠ 0x1D) && within 1 (fld h 12 1) 64 && zeroAt h 13 64

/-- Queue record q is good: every field is within its range, of a queue that is not granted too; MAX_DEPTH_LOG2 is ignored for
management queues only (R283, Table 8-7). -/
def Sections.grantOk (x : Sections) (named : List Nat) (q : Nat) : Bool :=
  let r := slice (x.sec 0x20) (64 + 8 * q) 8
  let g := decodeGrant r
  decide ((g.fn ≤ 0x40 ∨ g.fn = 0xFF) ∧ g.priv ≤ 3 ∧ g.cls ≤ 2 ∧ 1 ≤ g.weight ∧ fld r 5 1 < 2) && zeroAt r 6 8 &&
  (if g.fn = 0x40 then (named.filter (· == q)).length == 1 && !g.async
   else within 4 g.maxDepth 12 && (g.fn == 0xFF || ((g.fn == 0 || decide (g.priv ≤ 1)) &&
     (List.range 64).all (fun j =>
       let o := (x.grantRec (q / 64 * 64 + j)).fn
       o == 0xFF || o == 0x40 || o == g.fn))))

/-- The rules of QUEUE_GRANTS. -/
def Sections.checkGrants (x : Sections) : Finding :=
  let named := x.mgmtNamed
  (mustHold 0x20 headRec x.grantHeadOk).or
  ((inSection 0x20 (firstBad 4096 (x.grantOk named))).or
  (mustHold 0x20 wholeRec ((List.range 4096).any (fun q =>
    let g := x.grantRec q
    g.priv == 3 && (g.fn == 0 || g.fn == 0x40)))))

/-! ### The other sections -/

/-- RECEIPTS record q is good (R318). -/
def receiptRecOk (r : Bytes) : Bool :=
  within 1 (fld r 0 1) 2 && within 1 (fld r 1 1) 4 && !(fld r 0 1 == 1 && fld r 1 1 == 4) && decide (fld r 2 1 < 4) && zeroAt r 3 4

/-- METERING is good (Table 9-10). -/
def meteringOk (r : Bytes) : Bool :=
  decide (fld r 0 1 ≤ 2) && zeroAt r 1 2 && (fld r 0 1 != 2 || (within 5 (fld r 2 2) 1440 && 1440 % fld r 2 2 == 0)) &&
  (fld r 0 1 != 1 || decide (fld r 4 2 ≤ 1439)) && zeroAt r 6 8

/-- The RECOVERY header is good (Table 11-2). -/
def recoveryHeadOk (h : Bytes) : Bool :=
  decide (fld h 0 2 ≤ 3600 ∧ 1 ≤ fld h 2 2 ∧ fld h 4 1 < 2) && zeroAt h 5 32

/-- Slot recovery record n is good, but for its devices' images (R378). -/
def recoverySlotOk (sec : Bytes) (n : Nat) : Bool :=
  let r := slice sec (32 + 8 * n) 8
  let f := fld r 0 1
  let v := fld r 2 1
  decide (f < 32) && zeroAt r 3 8 && (v == 0xFF || (decide (v < 16) && fld sec (3104 + 64 * v) 1 != 0)) &&
  (!f.testBit 0 || (within 1 (fld r 1 1) 8 && f / 4 != 0))

/-- Device image record d is good (R378): an ENABLED slot's device has an IMAGE_ID, and a record that is not 0 keeps the
rules. -/
def Sections.imageRecOk (x : Sections) (d : Nat) : Bool :=
  let sec := x.sec 0x30
  let r := slice sec (2080 + 32 * d) 32
  let b := (x.bank (d / 2)).profile
  let dev := x.devRec d
  let f := scanIface (fld dev 1 1)
  let er := profileEntry b (fld r 16 1)
  let pg := profileEntry b (fld r 17 1)
  (!(x.binders d).any (fun n => (fld sec (32 + 8 * n) 1).testBit 0) || !zeroAt r 0 16) &&
  (allZero r || (x.devValid d && er.cls == 3 && er.eraseSize == 3 && pg.cls == 2 && er.allows f && pg.allows f &&
    within 1 (fld r 18 1) (x.clockLimit (d / 2) (fld dev 1 1)) && zeroAt r 19 32))

/-- Vendor key entry e is good (Table 11-5). -/
def vendorOk (sec : Bytes) (e : Nat) : Bool := decide (fld sec (3104 + 64 * e) 1 ≤ 3) && zeroAt sec (3104 + 64 * e + 1) (3104 + 64 * e + 16)

/-- The rules of RECOVERY. -/
def Sections.checkRecovery (x : Sections) : Finding :=
  let sec := x.sec 0x30
  (mustHold 0x30 headRec (recoveryHeadOk sec)).or
  ((inSection 0x30 (firstBad 256 (recoverySlotOk sec))).or
  ((inSection 0x30 ((firstBad 32 x.imageRecOk).map (256 + ·))).or
  (inSection 0x30 ((firstBad 16 (vendorOk sec)).map (288 + ·)))))

/-- Channel record n is good (R466): an all-zero record of a software channel stands for its defaults. -/
def Sections.channelOk (x : Sections) (s : State) (n : Nat) : Bool :=
  let r := slice (x.sec 0x31) (16 * n) 16
  let q := fld r 2 2
  let aware := (recFlags r).testBit 0
  if !s.hwChan n && allZero r then true
  else
    decide (recFlags r < 8 ∧ recAction r ≤ 2 ∧ fld r 8 4 ≤ 1024000) && (q == 0xFFFF || (decide (q < 4096) && (x.grantRec q).fn != 0xFF)) &&
    (if s.hwChan n then fld r 4 4 == 0 && recAction r == 2 else within 1 (fld r 4 4) 1024000) &&
    (fld r 12 2 == 0 || decide (fld r 12 2 * 1000 < s.chanPeriod n r)) && (if aware then within 1 (fld r 14 2) 60000 else fld r 14 2 == 0)

/-- Tamper source record i is good (R450). -/
def Sections.tamperOk (x : Sections) (s : State) (i : Nat) : Bool :=
  let r := slice (x.sec 0x32) (16 + 8 * i) 8
  let mode := fld r 0 1
  decide (mode ≤ 2 ∧ fld r 1 1 < 16 ∧ fld r 3 1 < 2 ∧ 1 ≤ fld r 4 2) && within 1 (fld r 2 1) 16 && zeroAt r 6 8 &&
  (mode != 1 || (fld r 1 1).testBit 0) && !((i == 14 || i == 15) && mode == 0) && (!s.sourceFixed i || (mode == 2 && fld r 2 1 == 1))

/-- The TAMPER header is good (Table 13-3). -/
def tamperHeadOk (r : Bytes) : Bool := (fld r 0 4 == 0 || within 60 (fld r 0 4) 86400) && zeroAt r 4 16

/-- TIME is good (Table 14-5). -/
def timeOk (r : Bytes) : Bool := within 1 (fld r 0 2) 500 && zeroAt r 2 4

/-- LOGBOOK is good (Table 15-7). -/
def logbookOk (r : Bytes) : Bool := within 1024 (fld r 0 4) 65536 && within 10 (fld r 4 2) 60000 && decide (fld r 6 1 < 2) && zeroAt r 7 8

/-- DEVICE is good (Table 16-7). -/
def deviceOk (r : Bytes) : Bool := within 64 (fld r 0 1) 152 && decide (fld r 1 1 < 2) && zeroAt r 2 8

/-- The rules of one section, once every section has its length. -/
def Sections.checkSection (x : Sections) (s : State) (id : Nat) : Finding :=
  let sec := x.sec id
  if !x.has id then none
  else if id = 1 then inSection 1 (firstBad 16 x.portOk)
  else if id = 2 then inSection 2 ((List.range x.profiles).findSome? x.profileBad)
  else if id = 3 then inSection 3 (firstBad 1024 (fun e => x.regionOk (e / 64) (e % 64)))
  else if id = 4 then inSection 4 (firstBad 257 x.ruleOk)
  else if id = 5 then inSection 5 (firstBad 32 x.devOk)
  else if id = 0x10 then inSection 0x10 (firstBad 256 x.strOk)
  else if id = 0x11 then inSection 0x11 (firstBad 256 x.slotOk)
  else if id = 0x12 then inSection 0x12 (firstBad 32 (fun k => expanderOk (slice sec (4 * k) 4)))
  else if id = 0x13 then inSection 0x13 (firstBad (sec.length / 12) x.edgeOk)
  else if id = 0x20 then x.checkGrants
  else if id = 0x21 then inSection 0x21 (firstBad 4096 (fun q => receiptRecOk (slice sec (4 * q) 4)))
  else if id = 0x22 then mustHold 0x22 headRec (meteringOk sec)
  else if id = 0x30 then x.checkRecovery
  else if id = 0x31 then inSection 0x31 (firstBad 256 (x.channelOk s))
  else if id = 0x32 then (mustHold 0x32 headRec (tamperHeadOk sec)).or (inSection 0x32 (firstBad 32 (x.tamperOk s)))
  else if id = 0x33 then mustHold 0x33 headRec (timeOk sec)
  else if id = 0x34 then mustHold 0x34 headRec (logbookOk sec)
  else if id = 0x40 then mustHold 0x40 headRec (deviceOk sec)
  else none

/-- The first broken rule of an image's sections: lengths first, then section by section in ascending identifier. -/
def checkRules (s : State) (x : Sections) : Finding :=
  (checkLengths x).or ((x.map Prod.fst).findSome? (x.checkSection s))

end Sys2Proof.Machine
end

