-- ==== Sys2Proof/Machine/ReforgeOps.lean ====
section
/-! DEFINITION. Chapter 11's shared operations: the RECOVERY section, manifests, the journal, rewrite sets, and how an
operation goes on, fails and commits. -/
namespace Sys2Proof.Machine

/-! ### The RECOVERY section (R377; an absent section reads 0) -/

/-- Slot recovery record n (Table 11-3). -/
def State.recoveryRec (s : State) (n : Nat) : Bytes := slice (s.sec 0x30) (32 + 8 * n) 8
/-- FLAGS of slot recovery record n. -/
def State.recoveryFlags (s : State) (n : Nat) : Nat := fld (s.recoveryRec n) 0 1
/-- MAX_ATTEMPTS. -/
def State.maxAttempts (s : State) (n : Nat) : Nat := fld (s.recoveryRec n) 1 1
/-- VENDOR_KEY. -/
def State.vendorKey (s : State) (n : Nat) : Nat := fld (s.recoveryRec n) 2 1
/-- Device image record d (Table 11-4). -/
def State.imageRec (s : State) (d : Nat) : Bytes := slice (s.sec 0x30) (2080 + 32 * d) 32
/-- Vendor key entry e (Table 11-5). -/
def State.vendorRec (s : State) (e : Nat) : Bytes := slice (s.sec 0x30) (3104 + 64 * e) 64
/-- CARTRIDGE_WAIT_S in µs. -/
def State.cartWait (s : State) : Nat := fld (s.sec 0x30) 0 2 * 1000000
/-- SOURCE_WAIT_S in µs. -/
def State.sourceWait (s : State) : Nat := fld (s.sec 0x30) 2 2 * 1000000
/-- ARB3_CHECK. -/
def State.arb3Check (s : State) : Bool := (fld (s.sec 0x30) 4 1).testBit 0

/-- Recovery is enabled for slot n (R371). -/
def State.canRecover (s : State) (n : Nat) : Bool := s.recoveryEnabled n (s.recoveryFlags n)

/-! ### Manifests (R379 to R382) -/

/-- A manifest as its bytes spell it, with its signers and its length. -/
structure RawManifest where
  man : Manifest := {}
  bodyProt : Bytes := []
  payload : Bytes := []
  owner : CoseSig := {}
  vendor : Option CoseSig := none
  vendorKey : Bytes := []
  len : Nat := 0
  deriving DecidableEq, Repr

/-- The protected header of a vendor's signature: an alg, and a kid or none. -/
def readVendorProt (b : Bytes) : Option Int := do
  let m ← (← readCbor b).asMap
  let ks ← mapKeys m
  if ks != [1] && ks != [1, 4] then none else (← mapGet m 1).asInt

/-- A vendor's COSE_Signature. -/
def readVendor (c : Cbor) : Option CoseSig := do
  match ← c.asArray with
  | [p, .map [], g] =>
    let pb ← p.asBytes
    some { prot := pb, alg := ← readVendorProt pb, sig := ← g.asBytes }
  | _ => none

/-- The length of VENDOR_KEY for a vendor's alg (Table 11-6); 0 for an alg that R381 does not name. -/
def vendorKeyLen (alg : Int) : Nat := if alg = -35 then 97 else if alg = -38 then 388 else if alg = -46 then 60 else 0

/-- The manifest at the front of an image for a device of N blocks; none when check 1 of R382 fails. -/
def readManifest (b : Bytes) (density : Nat) : Option RawManifest := do
  let (c, rest) ← readItem 8 b
  let len := b.length - rest.length
  let n := 2 ^ (density - 16)
  if 327680 < len then none
  match c with
  | .tag 98 (.array [p, .map [], pay, .array sigs]) =>
    let payload ← pay.asBytes
    let bodyProt ← p.asBytes
    if !bodyProtOk bodyProt then none
    let m ← (← readCbor payload).asMap
    let keys ← mapKeys m
    let (own, ven) ← match sigs with
      | [a] => some (a, none)
      | [a, v] => some (a, some v)
      | _ => none
    let owner ← readSigner own
    let vendor ← match ven with
      | none => some none
      | some v => (readVendor v).map some
    let want := [1, 2, 3, 4, 5, 6, 7] ++ (if vendor.isSome then [8] else [])
    if !(keys.all (9 :: want).contains && want.all keys.contains) then none
    let fmt ← mapUint m 1
    let man : Manifest :=
      { digest := sha384 (b.take len), imageId := ← mapBytes m 2, svn := ← mapUint m 3, density := ← mapUint m 4,
        checkRoot := ← mapBytes m 5, leaves := ← mapBytes m 6, blockMap := ← mapBytes m 7 }
    let vk ← mapBytes m 8
    let wallOk : Bool := match mapGet m 9 with
      | none => true
      | some t => t.asInt.isSome
    let vendorOk : Bool := match vendor with
      | none => true
      | some v => decide (vendorKeyLen v.alg ≠ 0 ∧ vk.length = vendorKeyLen v.alg)
    if fmt == 1 && man.imageId.length == 16 && decide (man.svn ≤ 128) && man.density == density && man.checkRoot.length == 32 &&
        man.leaves.length == 32 * n && man.blockMap.length == n / 8 && owner.alg == -35 && owner.kid.length == 1 && vendorOk &&
        wallOk then
      some { man := man, bodyProt := bodyProt, payload := payload, owner := owner, vendor := vendor, vendorKey := vk, len := len }
    else none
  | _ => none

/-- The check root computed from LEAVES for device d (check 4 of R382). -/
def State.manifestRoot (s : State) (d : Nat) (m : Manifest) : Bytes :=
  treeRoot 13 ((List.range (s.deviceBlocks d)).map (fun i => if s.blockExcluded d i then marker 0x58 else m.leafAt i))

/-- The owner's signature verifies under an ACTIVE slot with use RECOVERY (R381). -/
def State.ownerSigned (s : State) (x : RawManifest) : Bool :=
  match x.owner.kid with
  | [k] =>
    s.cru.table.activeWith k.toNat 1 && (s.cru.table.slot k.toNat).alg == 1 &&
    verifies algP384 (s.cru.table.slot k.toNat).key (sigInput x.bodyProt x.owner.prot x.payload) x.owner.sig
  | _ => false

/-- The vendor's signature, where slot n requires one (R381, check 5 of R382). -/
def State.vendorSigned (s : State) (n : Nat) (x : RawManifest) : Bool :=
  if s.vendorKey n = 0xFF then true
  else
    let e := s.vendorRec (s.vendorKey n)
    let alg := fld e 0 1
    match x.vendor with
    | none => false
    | some v =>
      let input := sigInput x.bodyProt v.prot x.payload
      decide (v.alg = (if alg = 1 then -35 else if alg = 2 then -38 else -46)) && decide (alg ≠ 0) &&
      sha384 x.vendorKey == slice e 16 48 &&
      (if alg = 1 then verifies algP384 x.vendorKey input v.sig
       else if alg = 2 then verifies algRsa x.vendorKey input v.sig
       else verifies algLms x.vendorKey (sha384 input) v.sig)

/-- The density that the profile of device d's port gives. -/
def State.density (s : State) (d : Nat) : Nat := fld (s.port (d / 2)).bank.profile 3 1

/-- The status of the checks of R382 on a manifest for device d of slot n, 0 when all pass, and the manifest. -/
def State.checkManifest (s : State) (n d : Nat) (b : Bytes) : Nat × Option RawManifest :=
  match readManifest b (s.density d) with
  | none => (0x0584, none)
  | some x =>
    let m := x.man
    if m.imageId ≠ slice (s.imageRec d) 0 16 then (0x0581, none)
    else if s.arb3Check ∧ m.svn < s.arb 3 then (0x0582, none)
    else if !(List.range (s.deviceBlocks d)).all (fun i => m.stored i || m.leafAt i == erasedLeaf) ∨
        s.manifestRoot d m ≠ m.checkRoot ∨ m.checkRoot ≠ expectedRoot (s.deviceRec d) then (0x0581, none)
    else if s.hammerUnavailable then (0x0360, none)
    else if !s.ownerSigned x || !s.vendorSigned n x then (0x0580, none)
    else (0, some x)

/-- The signatures of a manifest that lanes verify, with their operations: the owner's, and the vendor's unless it is of
LMS, which is Bellows work (R246, R259, R381). -/
def State.manifestSigs (s : State) (n : Nat) (x : RawManifest) : List (Nat × Bool) :=
  (0x04, s.ownerSigned x) ::
  (match x.vendor with
   | some v => if s.vendorKey n = 0xFF ∨ v.alg = -46 then [] else [(if v.alg = -35 then 0x04 else 0x07, s.vendorSigned n x)]
   | none => [])

/-- The manifest's vendor signature is required and of LMS: Bellows verifies it on a shared lane (R205, R246). -/
def State.vendorLms (s : State) (n : Nat) (x : RawManifest) : Bool :=
  s.vendorKey n != 0xFF && (match x.vendor with
    | some v => v.alg == -46
    | none => false)

/-- The checks of R382 with the signatures verified on lanes, where the checks before them let it come to that (R259). -/
def State.judgeManifest (s : State) (n d : Nat) (b : Bytes) (verdicts : Nat) : (Nat × Option RawManifest) × State :=
  let c := s.checkManifest n d b
  match readManifest b (s.density d) with
  | none => (c, s)
  | some x =>
    if c.1 = 0 ∨ c.1 = 0x0580 then
      let r := s.decideAll verdicts 0 (s.manifestSigs n x)
      if r.1 && s.vendorLms n x && !s.sharesLane then ((0x0580, none), r.2.lacks .bellows)
      else (if r.1 then c else (0x0580, none), r.2)
    else (c, s)

/-! ### Operations -/

/-- The operation of device d. -/
def State.rfuOp (s : State) (d : Nat) : Option RfuOp := s.rfu.ops.find? (fun o => o.device == d)

/-- s with the operation of device d changed by f. -/
def State.updOp (s : State) (d : Nat) (f : RfuOp → RfuOp) : State :=
  { s with rfu := { s.rfu with ops := s.rfu.ops.map (fun o => if o.device = d then f o else o) } }

/-- s with the journal record of device d changed by f. -/
def State.updJournal (s : State) (d : Nat) (f : Journal → Journal) : State :=
  { s with rfu := { s.rfu with journal := s.rfu.journal.upd d {} f } }

/-- A record that recovery resumes: OPEN or REMEASURE. -/
def Journal.open_ (j : Journal) : Bool := j.state == .opened || j.state == .remeasure

/-- RESUMING clears for the slots whose last such record has left OPEN and REMEASURE (R395). -/
def State.trimResuming (s : State) : State :=
  { s with rfu := { s.rfu with resuming := s.rfu.resuming.filter (fun n => (s.slotDevices n).any (fun d => (s.journal d).open_)) } }

/-- Free staging buffers of the 16 (R386). -/
def State.stageRoom (s : State) : Nat := 16 - s.rfu.ops.foldl (fun a o => a + o.staged.length) 0

/-- The operation of device d may use OWN: it is in the middle of a block, or its turn has come (R373). -/
def State.ownsTurn (s : State) (d : Nat) : Bool :=
  match s.rfuOp d with
  | some o => o.writing.isSome || s.ownTurn (d / 2) o.portSince
  | none => false

/-- The port lets Reforge use the flash now, in OWN in its turn; or inside a window when the device is not busy and both
opcodes allow its interface (R149, R373, R388). -/
def State.portUsable (s : State) (d : Nat) : Bool :=
  let x := s.port (d / 2)
  let sh := s.shadow d
  let b := x.bank
  if x.mode == .own then s.ownsTurn d && !x.confirming
  else if x.mode == .gap then
    (match x.window with
     | some w => w.isOpen
     | none => false) && sh.busy == .none && sh.susp == .none && !sh.resync &&
    (b.entry (fld (s.imageRec d) 16 1)).allows sh.iface && (b.entry (fld (s.imageRec d) 17 1)).allows sh.iface
  else false

/-- An operation of a time index fits in what is left of the window; in OWN every one does (R149). -/
def State.fitsWindow (s : State) (d opcode : Nat) : Bool :=
  let x := s.port (d / 2)
  match x.window with
  | some w => if x.mode == .own then true
              else decide (s.now + x.bank.maxTime (x.bank.entry opcode).time + 2 ≤ w.openedAt + w.durationUs)
  | none => true

/-- The operation of device d is gone; in OWN the port resets the device (R129). -/
def State.removeOp (s : State) (d : Nat) : State :=
  let drove := match s.rfuOp d with
    | some o => o.phase == .write || o.phase == .remeasure || o.writing.isSome
    | none => false
  let s := { s with rfu := { s.rfu with ops := s.rfu.ops.filter (fun o => o.device != d) },
                    fit := { s.fit with scans := s.fit.scans.filter (fun x => !decide (x.device = d ∧ x.kind = .remeasure)) } }
  if drove && (s.port (d / 2)).mode == .own then s.ownReset (d / 2) [d] else s

/-- The RECOVER_DATA commands of an operation that wait end. -/
def State.endData (s : State) (o : RfuOp) : State := completeAll (o.dataWait.map DataWait.hdr) (err 0x04A0) s

/-- The operation of device d ends with its record in a state. A record that is not OPEN or REMEASURE is left when the
operation stops only because its sibling failed (R376); RECOVER_ABORT leaves an ABORTED one in its place (Table 11-17). -/
def State.endOp (s : State) (d : Nat) (st : JState) (always : Bool := false) : State :=
  match s.rfuOp d with
  | none => s
  | some o =>
    let s := s.endData o
    let s := if always || st == .failed || (s.journal d).open_ then
        s.updJournal d (fun j => if j.open_ then { j with state := st } else { state := st, full := o.full, slot := o.slot })
      else s
    (s.removeOp d).trimResuming

/-- The other operations of a slot stop after their current block (R376, R410). -/
def State.stopOps (s : State) (n : Nat) (always : Bool := false) : State :=
  (s.rfu.ops.filter (fun o => o.slot == n)).foldl (fun t o =>
    if o.writing.isSome then t.updOp o.device (fun o => { o with stopping := true }) else t.endOp o.device .aborted always) s

/-- An operation fails (R376). -/
def State.failOp (s : State) (d : Nat) : State :=
  match s.rfuOp d with
  | none => s
  | some o =>
    let n := o.slot
    let s := s.endOp d .failed
    let s := { s with rfu := { s.rfu with failHit := true, failed := satAdd 32 s.rfu.failed 1 } }
    let s := s.stopOps n
    if (s.slot n).state == .recovering then
      let s := s.quarantine n .recoveryFailed
      let s := s.log .control 0x0601 3 3 n {}
      s.tellManagers 0x0601 3 4 n
    else s

/-- An attempt fails: the next one returns to SEARCH, or the operation fails at MAX_ATTEMPTS (R376, R389). One that is to
stop after its current block ends here. -/
def State.failAttempt (s : State) (d : Nat) : State :=
  match s.rfuOp d with
  | none => s
  | some o =>
    if o.stopping then s.endOp d .aborted else
    let drove := o.phase == .write || o.phase == .remeasure
    let s := if drove && (s.port (d / 2)).mode == .own then s.ownReset (d / 2) [d] else s
    if s.maxAttempts o.slot ≤ o.attempt then s.failOp d
    else (s.endData o).updOp d (fun o => { o with phase := .search, manifest := none, staged := [], reread := none, writing := none, pages := 0,
                                                  blockDone := false, sentAt := none, entered := false, entryAt := none,
                                                  resume := false, wantDigest := [], anySource := false, dataWait := [] })

/-- A source is skipped or abandoned, which is logged (R383, R386). -/
def State.skipSource (s : State) (d status : Nat) : State := s.log .control 0x0604 3 2 d { cause := status }

/-- The operation of device d has committed; with the slot's last one the slot is HELD with CHECKED 1 (R390, R393). -/
def State.commitOp (s : State) (d : Nat) : State :=
  match s.rfuOp d with
  | none => s
  | some o =>
    let n := o.slot
    let s := s.updJournal d (fun j => { j with state := .committed, commitDmt := s.now })
    let s := { s with rfu := { s.rfu with commitHit := true } }
    let s := (s.endData o).removeOp d
    let s := s.trimResuming
    if s.rfu.ops.any (fun x => x.slot == n) || (s.slot n).state != .recovering then s
    else
      let s := s.setSlot n .held (s.slot n).reason true
      let s := s.updSlot n (fun x => { x with readyAt := s.now })
      let s := s.log .control 0x0603 3 3 n
      s.tellManagers 0x0603 3 4 n

/-- The last done-mark has been written, or the rewrite set is empty: the record becomes REMEASURE (R389). -/
def State.beginRemeasure (s : State) (d : Nat) : State :=
  match s.rfuOp d with
  | none => s
  | some o =>
    let s := s.updJournal d (fun j => { j with state := .remeasure })
    let since := if o.needsPort then o.portSince else s.now
    let s := s.updOp d (fun o => { o with phase := .remeasure, portSince := since, writing := none, blockDone := false, staged := [] })
    s.queueScan { kind := .remeasure, device := d, whole := o.full || (s.recoveryFlags o.slot).testBit 1, askedAt := since }

/-- The intent of an attempt (R392). -/
def State.writeIntent (s : State) (d : Nat) : State :=
  match s.rfuOp d with
  | none => s
  | some o =>
    let set := s.rewriteSet o
    if (!set.isEmpty && !s.canRecover o.slot) || decide (0 < o.attempt ∧ s.maxAttempts o.slot ≤ o.attempt) then s.failOp d
    else
      let a := o.attempt + 1
      let dig := match o.manifest with
        | some m => m.digest
        | none => []
      let cid := if o.source = 0 ∧ o.manifest.isSome then (s.cby.slots.get o.cartSlot {}).cid else []
      let s := s.updJournal d (fun _ =>
        { state := .opened, full := o.full, slot := o.slot, source := o.source, attempt := a, manifestDigest := dig, cartCid := cid,
          epoch := (s.port (d / 2)).bank.epoch, intentDmt := s.now, set := set })
      let s := s.updOp d (fun o => { o with phase := .write, attempt := a, resume := false, wantDigest := [], anySource := false, writing := none, pages := 0, entered := false, entryAt := none,
                                            staged := o.staged.filter (fun x => set.contains x.block) })
      if set.isEmpty then s.beginRemeasure d else s

/-- The blocks that an operation has still to write. -/
def State.toWrite (s : State) (d : Nat) : List Nat := (s.journal d).set.filter (fun i => !(s.journal d).done.contains i)

/-- The pages of a staged block that are programmed: those with a byte other than 0xFF, ascending (R388). -/
def RfuOp.pageList (o : RfuOp) (page i : Nat) : List Nat :=
  match o.staged.find? (fun x => x.block == i) with
  | some x => if page = 0 then [] else (List.range (65536 / page)).filter (fun k => !(slice x.data (page * k) page).all (· == 0xFF))
  | none => []

/-- ERASE_OPCODE and PROGRAM_OPCODE of device d. -/
def State.eraseOp (s : State) (d : Nat) : Nat := fld (s.imageRec d) 16 1
/-- PROGRAM_OPCODE. -/
def State.programOp (s : State) (d : Nat) : Nat := fld (s.imageRec d) 17 1
/-- WRITE_MHZ. -/
def State.writeMhz (s : State) (d : Nat) : Nat := fld (s.imageRec d) 18 1

/-- Reforge's erase of block i is sent after WRITE ENABLE: it completes at the flash side as its CS# rises (R135, R221, R238,
R388), and the shadow follows it (Table 4-8). -/
def State.sentErase (s : State) (d i : Nat) : State :=
  let s := s.sendFlash (s.writeXfers d (s.eraseOp d) (s.writeMhz d) (65536 * i) [])
  let s := s.updShadow d (fun x => { x with wel := true, busy := .erase, eraseAddr := 65536 * i })
  let (seq, s) := s.nextPortSeq (d / 2)
  s.noteErase d 3 (65536 * i) seq

/-- Reforge's program at an address is sent after its own WRITE ENABLE: it completes at the flash side as its CS# rises (R135,
R221, R388), and the shadow follows it (Table 4-8). -/
def State.sentProgram (s : State) (d addr : Nat) (data : Bytes) : State :=
  let s := s.sendFlash (s.writeXfers d (s.programOp d) (s.writeMhz d) addr data)
  let s := s.updShadow d (fun x => { x with wel := true, busy := .program })
  let (seq, s) := s.nextPortSeq (d / 2)
  s.noteProgram d addr seq

/-- The bytes of page k of staged block i. -/
def RfuOp.pageData (o : RfuOp) (page i k : Nat) : Bytes :=
  match o.staged.find? (fun x => x.block == i) with
  | some x => slice x.data (page * k) page
  | none => []

/-- The next page of the block being written is sent, or the block is complete (R388). cut says that the decoders disagree on
what is sent (R132). -/
def State.nextPage (s : State) (d i : Nat) (o : RfuOp) (cut : Bool := false) : State :=
  let page := (s.port (d / 2)).bank.pageSize
  match (o.pageList page i)[o.pages]? with
  | some k =>
    if !s.fitsWindow d (s.programOp d) then s
    else if cut then s.ownDisagreement (d / 2) (s.programOp d)
    else (s.updOp d (fun o => { o with pages := o.pages + 1, sentAt := some s.now })).sentProgram d (65536 * i + page * k) (o.pageData page i k)
  | none => s.updOp d (fun o => { o with blockDone := true })

/-- The erase of the operation's next block is sent, when its data are there (R387, R388); a CS1 device waits between two blocks
while the CS0 device of its port has an operation (R374). cut says that the decoders disagree on what is sent (R132). -/
def State.nextErase (s : State) (d : Nat) (o : RfuOp) (cut : Bool := false) : State :=
  if o.stopping then s.endOp d .aborted
  else if s.givesWay o then s
  else match s.toWrite d, o.manifest with
    | [], _ => s.beginRemeasure d
    | i :: _, some m =>
      let ready := !m.stored i || o.staged.any (fun x => x.block == i)
      let entry := fld (s.deviceRec d) 4 1
      if (s.port (d / 2)).mode == .own && entry != 0 && !o.entered then
        if o.entryAt.isSome then s
        else if cut then s.ownDisagreement (d / 2) entry
        else (s.enterScanMode d).updOp d (fun o => { o with entryAt := some s.now })
      else if ready && s.fitsWindow d (s.eraseOp d) then
        if cut then s.ownDisagreement (d / 2) (s.eraseOp d) else
        (s.updOp d (fun o => { o with writing := some i, pages := 0, blockDone := false, sentAt := some s.now })).sentErase d i
      else s
    | _, none => s

/-- What the writing of device d can do now. -/
def State.nextBlock (s : State) (d : Nat) (cut : Bool := false) : State :=
  match s.rfuOp d with
  | none => s
  | some o =>
    if !s.portUsable d || o.sentAt.isSome || o.blockDone then s
    else match o.writing with
      | some i => s.nextPage d i o cut
      | none => s.nextErase d o cut

/-- The operation of device d has the port, and no work of the port goes before it: the CS0 device's operation goes before the
CS1 device's, after the block that this one is writing (R374). -/
def State.hasPort (s : State) (d : Nat) : Bool :=
  s.portUsable d && !(d % 2 == 1 && (s.rfuOp (d - 1)).isSome) &&
  !(d % 2 == 0 && s.rfu.ops.any (fun o => o.device == d + 1 && o.writing.isSome)) &&
  !s.fit.scans.any (fun x => x.device / 2 == d / 2 && x.running)

/-- The operation of device d has its port: a record that it resumes goes on, and otherwise it writes its intent
(R394, R406). -/
def State.takePort (s : State) (d : Nat) : State :=
  match s.rfuOp d with
  | none => s
  | some o =>
    if o.resume && (s.journal d).state == .opened then
      s.updOp d (fun o => { o with phase := .write, resume := false, wantDigest := [], entered := false, entryAt := none })
    else s.writeIntent d

/-- What the operation of device d can do now: one on a FROZEN port fails in whatever phase it is (R373, R376), and one whose
cartridge was removed goes on with what needs nothing from it (R406). -/
def State.advanceOp (s : State) (d : Nat) (cut : Bool := false) : State :=
  match s.rfuOp d with
  | none => s
  | some o =>
    if (s.port (d / 2)).mode == .frozen then s.failOp d
    else if o.phase == .waitPort && o.sentAt.isNone && !o.blockDone && s.hasPort d then
      let s := s.takePort d
      match s.rfuOp d with
      | some o => if o.phase == .write then s.nextBlock d cut else s
      | none => s
    else if o.phase == .write || ((o.phase == .search || o.phase == .waitSource) && o.resume && o.manifest.isSome) then s.nextBlock d cut
    else s

/-! ### Staging (R386) -/

/-- The source of an operation, as its abandonment names it: the CID of the cartridge, or none, and the manifest's digest. -/
def State.sourceId (s : State) (o : RfuOp) : Bytes × Bytes :=
  (if o.source = 0 then (s.cby.slots.get o.cartSlot {}).cid else [], (o.manifest.map Manifest.digest).getD [])

/-- The source of device d is abandoned: it is not tried again in this operation, and the attempt, where one has begun, fails
(R386). -/
def State.abandonSource (s : State) (d : Nat) : State :=
  match s.rfuOp d with
  | none => s
  | some o =>
    let s := s.skipSource d 0x0583
    let s := s.updOp d (fun x => { x with skipped := x.skipped ++ [s.sourceId o] })
    if o.phase == .write then s.failAttempt d
    else s.updOp d (fun o => { o with phase := .search, manifest := none, staged := [], reread := none, resume := false, wantDigest := [] })

/-- A read of block i for device d failed, or its leaf differs: it is read once more, and then the source is abandoned
(R386). -/
def State.readError (s : State) (d i : Nat) : State :=
  match s.rfuOp d with
  | none => s
  | some o => if o.reread = some i then s.abandonSource d else s.updOp d (fun o => { o with reread := some i })

/-- A block that passed its check is staged. -/
def State.stage (s : State) (d i : Nat) (data : Bytes) : State :=
  s.updOp d (fun o => { o with staged := o.staged ++ [{ block := i, data := data }], reread := none })

/-- What the blocks of a RECOVER_DATA come to: the state, the blocks accepted, and whether one failed R386. Blocks that
are not needed are accepted and dropped; one waits for a staging buffer, and for the lane that is to compute its leaf. -/
def State.takeBlocks (s : State) (d : Nat) (m : Manifest) : List (Nat × Bytes) → Nat → State × Nat × Bool
  | [], n => (s, n, false)
  | (i, b) :: rest, n =>
    match s.rfuOp d with
    | none => (s, n, false)
    | some o =>
      if !(s.toStage o).contains i then s.takeBlocks d m rest (n + 1)
      else if s.stageRoom = 0 || (s.streamLane d).isNone then (s, n, false)
      else if leafOf b = m.leafAt i then (s.stage d i b).takeBlocks d m rest (n + 1)
      else (s, n, true)

/-- The stored blocks from block first on, at most count of them. -/
def State.storedFrom (s : State) (d : Nat) (m : Manifest) (first count : Nat) : List Nat :=
  ((List.range (s.deviceBlocks d)).filter (fun i => decide (first ≤ i) && m.stored i)).take count

/-- RECOVER_DATA's effect: a reply, or none while no staging buffer has room. -/
def State.offerBlocks (s : State) (d : Nat) (m : Manifest) (w : DataWait) : Option Reply × State :=
  let is := s.storedFrom d m w.first w.count
  let blocks := is.zip ((List.range is.length).map (fun k => slice w.data (65536 * k) 65536))
  let (s, n, bad) := s.takeBlocks d m blocks 0
  let next := match s.rfuOp d with
    | some o => (s.toStage o).head?.getD 0xFFFF
    | none => 0xFFFF
  let result := le 2 n ++ le 2 next
  if bad then (some { status := 0x0583 }, s)
  else if n = 0 then (none, s)
  else (some (ok result), s)

/-- The RECOVER_DATA commands of device d that wait are offered again, the oldest first. -/
def State.serveData (s : State) (d : Nat) : State :=
  match s.rfuOp d with
  | none => s
  | some o =>
    match o.manifest, o.dataWait with
    | some m, w :: rest =>
      match s.offerBlocks d m w with
      | (some r, s) => complete w.hdr r (s.updOp d (fun o => { o with dataWait := rest }))
      | (none, s) => s
    | _, _ => s

/-! ### The Warden's round -/

/-- What every operation can do now: it takes the blocks that wait for a buffer, and goes on. -/
def State.advanceOps (s : State) (cut : Bool := false) : State :=
  if s.boot.controlUp then (s.rfu.ops.map RfuOp.device).foldl (fun t d => (t.serveData d).advanceOp d cut) s else s

/-- The Warden looks at every slot, port and operation. -/
def State.settleAll (s : State) : State := s.settle.advanceOps.planPorts

/-- The same, where the decoders disagree on what an operation sends (R132). -/
def State.settleCut (s : State) (cut : Bool) : State := if cut then (s.settle.advanceOps true).planPorts.settleAll else s.settleAll

/-! ### The check of a slot (Table 3-2, R395) -/

/-- A START or CHECK scan of slot n's devices is queued or runs. -/
def State.checksLeft (s : State) (n : Nat) : Bool :=
  s.fit.scans.any (fun x => (x.kind == .start || x.kind == .check) && (s.slotDevices n).contains x.device)

/-- The journal records of slot n when its check passes: COMMITTED where OPEN or REMEASURE, freed where FAILED or
ABORTED. -/
def State.passJournal (s : State) (n : Nat) : State :=
  ((s.slotDevices n).foldl (fun t d =>
    let j := t.journal d
    if j.open_ then
      let t := t.updJournal d (fun j => { j with state := .committed, commitDmt := t.now })
      { t with rfu := { t.rfu with commitHit := true } }
    else if j.state == .failed || j.state == .aborted then t.updJournal d (fun _ => {})
    else t) s).trimResuming

/-- Recovery is enabled for slot n's check: at a device start a FAILED or ABORTED record says no (R395). -/
def State.checkRecovers (s : State) (n : Nat) : Bool :=
  s.canRecover n && !((s.slot n).startCheck && !(s.slotDevices n).any (fun d => (s.journal d).open_) &&
    (s.slotDevices n).any (fun d => (s.journal d).state == .failed || (s.journal d).state == .aborted))

/-- The check of slot n is judged when the last scan of its devices has ended (R219, Table 3-2). -/
def State.judgeSlot (s : State) (n : Nat) : State :=
  let x := s.slot n
  if x.state != .checking || s.checksLeft n || !s.boot.controlUp then s
  else if s.slotMatches n then
    let s := s.passJournal n
    if x.quarantineDue then s.quarantine n .maxDelay
    else (s.setSlot n .held x.reason true).updSlot n (fun x => { x with readyAt := s.now })
  else if x.quarantineDue then s.quarantine n .maxDelay
  else if s.checkRecovers n then s.recoverSlot n .rootMismatch false
  else s.quarantine n .rootMismatch

end Sys2Proof.Machine
end

