-- ==== Sys2Proof/Machine/Ports.lean ====
section
/-! DEFINITION. Chapter 4 on modes: host-idle points, windows, reset pulses, supplies, and the port commands. -/
namespace Sys2Proof.Machine

/-! ### Windows (R148 to R150) -/

/-- A device in RESYNC that a software reset inside a window may resynchronise (R143). -/
def State.resyncWork (s : State) (d : Nat) : Bool :=
  (s.shadow d).resync && ((s.port (d / 2)).bank.resyncReset || !s.csReleased (d / 2) (d % 2))

/-- Port p has device work for a window. -/
def State.windowWork (s : State) (p : Nat) : Bool := s.portWork p || s.resyncWork (2 * p) || s.resyncWork (2 * p + 1)

/-- Some operation of the work of port p fits in what is left of its window, or one is under way (R149). -/
def State.windowFits (s : State) (p : Nat) : Bool :=
  s.resyncWork (2 * p) || s.resyncWork (2 * p + 1) ||
  s.fit.scans.any (fun x => x.device / 2 == p && s.fitsWindow x.device (s.scanOpcode x.device)) ||
  s.rfu.ops.any (fun o => o.device / 2 == p && o.needsPort &&
    (o.sentAt.isSome || o.blockDone || s.fitsWindow o.device (fld (s.imageRec o.device) (if o.writing.isSome then 17 else 16) 1)))

/-- The devices of port p whose WEL was 1 as the window opened get it back: WRITE ENABLE is the window's last command (R149). -/
def State.restoreWel (s : State) (p : Nat) (w : Window) : State :=
  let ks := w.wel.filter (fun k => !((s.port p).dev k).resync)
  if !w.isOpen || ks.isEmpty then s
  else
    (ks.foldl (fun t k => t.updPort p (fun x => x.updDev k (fun y => { y with wel := true }))) s).sendFlash
      (ks.map (fun k => bareXfer (2 * p + k) ((s.port p).dev k).iface 0x06))

/-- The window of port p ends, and its command completes (Table 4-19). Where the port's device work has ended in it, the port
passes from here on (Table 4-5). -/
def State.closeWindow (s : State) (p : Nat) : State :=
  match (s.port p).window with
  | none => s
  | some w =>
    let used := if w.isOpen then min (s.now - w.openedAt) w.durationUs else 0
    let s := (s.restoreWel p w).updPort p (fun x => { x with window := none })
    let s := if w.isOpen then s.pauseScans p else s
    let s := if w.isOpen && (s.port p).mode == .gap && !s.portWork p && s.boot.controlUp then (s.dropPending p).setMode p .pass else s
    complete w.hdr (ok (le 4 used ++ le 2 w.operations ++ le 2 w.intrusions)) s

/-- RESET ENABLE and RESET in each interface, in the order of R143, and the status read in SPI that confirms them. -/
def Bank.resyncXfers (b : Bank) (d : Nat) : List FlashXfer :=
  ([.opiDtr, .opiStr, .qpi, .spi] : List Iface).flatMap (b.resetXfers d) ++ [b.statusXfer d .spi]

/-- A device in RESYNC is sent the software reset of R143, inside a window. On a PASS or FROZEN port too, whose device traffic
Table 4-4 limits: a DESIGN CHOICE, for R143 names no mode (log entry 116). -/
def State.sendResync (s : State) (d : Nat) : State :=
  (s.updShadow d (fun x => { x with swReset := true })).sendFlash ((s.port (d / 2)).bank.resyncXfers d)

/-- A window of port p that waits opens (R148); one with no work left ends at once. A device in RESYNC that a software reset
may resynchronise is sent one (R143). -/
def State.openWindow (s : State) (p : Nat) : State :=
  match (s.port p).window with
  | some w =>
    if w.isOpen || (s.port p).mode == .own then s
    else if !s.windowWork p then s.closeWindow p
    else
      let wel := ([0, 1] : List Nat).filter (fun k => ((s.port p).dev k).wel)
      let s := s.updPort p (fun x => { x with window := some { w with isOpen := true, openedAt := s.now, wel := wel } })
      (([2 * p, 2 * p + 1] : List Nat).filter s.resyncWork).foldl State.sendResync s
  | none => s

/-! ### Host-idle points (R126 to R130, R143) -/

/-- The wait of a change that is committed ends; a wait that was logged is logged again (R130). -/
def State.waitEnds (s : State) (p : Nat) : State :=
  let x := s.port p
  let s := if x.waitLogged then
      s.log .guard 0x0204 6 1 p { cause := 1, index2 := x.pending.code, value := min (s.now - x.pendingSince) 0xFFFFFFFF }
    else s
  s.dropPending p

/-- Port p enters OWN at a host-idle point: from GAP with a bound slot RELEASED, as a yield (Table 4-5, R39, R43). -/
def State.enterOwn (s : State) (p : Nat) : State :=
  let takes := (s.port p).mode == .gap && s.portReleased p
  let s := (s.closeWindow p).setMode p .own
  if takes then (s.updPort p (fun x => { x with yielded := true })).yieldBegin .guard 3 5 1 p else s

/-- The pending change of port p is committed (R126). A change that needs the Warden waits while the Control Region is
down (Table 16-5). A port in GAP whose work ended outside a window passes here, at the host-idle point: a DESIGN CHOICE, for
Table 4-5 names the end of the window in which it ended (log entry 104). -/
def State.commitPending (s : State) (p : Nat) : State :=
  let x := s.port p
  match x.pending with
  | .none => s
  | .resetPulse =>
    if x.pulseAllowed x.pulseFor (s.csReleased p (1 - x.pulseFor)) then
      (s.waitEnds p).updPort p (fun x => { x with pulseUntil := some (s.now + x.bank.pulseUs + x.bank.recoveryUs) })
    else s.dropPending p
  | .own => if s.boot.controlUp then (s.waitEnds p).enterOwn p else s
  | .pass => if s.boot.controlUp then (s.waitEnds p).setMode p .pass else s
  | .gap => if s.boot.controlUp then (s.waitEnds p).setMode p .gap else s

/-- Both host chip selects of port p are high. -/
def Port.hostIdle (x : Port) : Bool := !x.csLow0 && !x.csLow1 && x.cmd.isNone && x.other.isNone

/-- HOST_IDLE_POINT (R126, R143, R148). disagree says that the decoders disagree on what an operation then sends (R132). -/
def execHostIdlePoint (port : Nat) (s : State) (disagree : Bool := false) : Res :=
  let x := s.port port
  if 16 ≤ port ∨ !s.boot.guardUp ∨ !x.hostIdle ∨ x.pulseUntil.isSome then .next s
  else
    let s := s.commitPending port
    let s := if (s.port port).pulseUntil.isSome then s else s.openWindow port
    .next ((s.planPulse port).settleCut disagree)

/-- RESYNC_PULSE_END (R143, R144): both devices are at their reset defaults. -/
def execResyncPulseEnd (port : Nat) (s : State) : Res :=
  match (s.port port).pulseUntil with
  | some t =>
    if t ≤ s.now then
      let b := (s.port port).bank
      let s := s.updPort port (fun x => { x with pulseUntil := none, dev0 := x.dev0.reset b, dev1 := x.dev1.reset b })
      .next (s.yieldEnd .guard 1 port).settle
    else .next s
  | none => .next s

/-- IDLE_WINDOW_END (R148, R149): the duration has passed, the work is done, or no further operation fits. -/
def execIdleWindowEnd (port : Nat) (s : State) : Res :=
  match (s.port port).window with
  | some w =>
    if w.isOpen && (decide (w.openedAt + w.durationUs ≤ s.now) || !s.windowWork port || !s.windowFits port) then .next (s.closeWindow port).settle
    else .next s
  | none => .next s

/-- IDLE_WAIT_LOG (R130). -/
def execIdleWaitLog (port : Nat) (s : State) : Res :=
  let x := s.port port
  if x.pending == .none || x.waitLogged || decide (s.now < x.pendingSince + 1000000) then .next s
  else
    let s := s.updPort port (fun x => { x with waitLogged := true })
    .next (s.log .guard 0x0204 6 1 port { cause := 1, index2 := x.pending.code, value := min (s.now - x.pendingSince) 0xFFFFFFFF })

/-- GAP_WAIT_EXPIRY (R373, Table 4-5): rung-3 work asks for OWN. -/
def execGapWaitExpiry (port : Nat) (s : State) : Res :=
  let x := s.port port
  if port < 16 ∧ x.mode == .gap ∧ s.urgentWork port ∧ s.gapExpired port ∧ s.boot.controlUp ∧ x.pending != .own then
    .next (s.setPending port .own)
  else .next s

/-! ### Supplies (R529) -/

/-- F_VDDIO_LOSS: each bound device enters RESYNC. -/
def execFVddioLoss (port : Nat) (s : State) : Res :=
  if 16 ≤ port ∨ !s.boot.guardUp then .next s
  else
    let s := s.updPort port (fun x => { x with fVddioLost := true, fVddioOk := false })
    .next ((s.portDevices port).foldl (fun t d => t.enterResync d 6) s).settle

/-- H_VDDIO_LOSS: the host's chip selects read high, so a command under way ends without a violation. -/
def execHVddioLoss (port : Nat) (s : State) : Res :=
  if 16 ≤ port ∨ !s.boot.guardUp then .next s
  else
    let x := s.port port
    let s := s.updPort port (fun x => { x with hVddioOk := false, csLow0 := false, csLow1 := false, csHighSince := s.now })
    match ([x.cmd, x.other].filterMap id) with
    | [] => .next s
    | cs => .next (cs.foldl (fun t c => t.endCommand port c 0 true) s).settle

/-- VDDIO_IN_RANGE. -/
def execVddioInRange (port : Nat) (flashSide : Bool) (s : State) : Res :=
  if 16 ≤ port ∨ !s.boot.guardUp then .next s
  else if flashSide then .next ((s.updPort port (fun x => { x with fVddioOk := true })).planPulse port).settle
  else .next (s.updPort port (fun x => { x with hVddioOk := true }))

/-! ### Pins (R49, R50, R116, R119, R125, R143, R174, R185 to R189, Table 4-12) -/

/-- What a port drives on an output pin. -/
inductive Pin where
  | z | low | high
  deriving DecidableEq, Repr

/-- The pin level of a Bool. -/
def Pin.of (b : Bool) : Pin := if b then .high else .low

/-- Which way a line of DQ or DQS runs (R119); z while neither side is driven from the other. -/
inductive LineDir where
  | z | toFlash | toHost
  deriving DecidableEq, Repr

/-- What the pins of a port do. -/
structure PortPins where
  fCs0 : Pin := .z
  fCs1 : Pin := .z
  fSck : Pin := .z
  fReset : Pin := .z
  /-- DQ0 to DQ7, and DQS. -/
  dq : List LineDir := List.replicate 8 .z
  dqs : LineDir := .z
  deriving DecidableEq, Repr

/-- The host's command reaches the flash side: its chip select is open and not cut. -/
def HostCmd.selects (c : HostCmd) : Bool := c.blocked == 0 && !c.cut

/-- The direction of line i of DQ in a command (R119). In SPI, DQ1 runs to the host and the others to the flash, except in
the data phase of a quad read; in the other interfaces every line runs to the flash until the command turns it. While the port
has stopped decoding, the host side is not driven (R194). DQ1 runs to the host in SPI while the host sends an address or data on
four lines too: a DESIGN CHOICE, for R119 says both (log entry 114). -/
def HostCmd.lineDir (c : HostCmd) (b : Bank) (i : Nat) : LineDir :=
  if c.iface == .spi then
    if i = 1 then (if c.stopped then .z else .toHost) else if c.turned && (b.entry c.opcode).dataQuad && decide (i < 4) then .toHost else .toFlash
  else if c.turned then .toHost else .toFlash

/-- Chip select k of the flash side is low: the host's command on it reaches the flash. -/
def Port.selects (x : Port) (k : Nat) : Bool :=
  match x.cmdOf k with
  | some c => c.selects
  | none => false

/-- The pins of port p. The lines between commands keep to the interface of the last one (R119), and with both chip selects low
they follow the command that began first (log entry 42). Before the built-in default of R50 every one is high-impedance (R49). While the port's own sequencer
has the flash side and sends nothing, CS# is high, SCK low and DQ high-impedance; otherwise the flash side follows the host
through the filter. -/
def State.portPins (s : State) (p : Nat) : PortPins :=
  let x := s.port p
  if !s.boot.guardUp then {}
  else
    let pulse := match x.pulseUntil with
      | some t => decide (s.now + x.bank.recoveryUs < t)
      | none => false
    let reset := Pin.of !(x.resetLow || pulse || decide (s.now < x.pulseLowUntil))
    let own := x.mode == .own || x.pulseUntil.isSome || (match x.window with
      | some w => w.isOpen
      | none => false)
    if own then { fCs0 := .high, fCs1 := .high, fSck := .low, fReset := reset }
    else match x.cmd with
      | none => { fCs0 := .high, fCs1 := .high, fSck := Pin.of x.sckHigh, fReset := reset,
                  dq := (List.range 8).map (fun i => if i = 1 ∧ x.lineIface = .spi then .toHost else .toFlash), dqs := .toFlash }
      | some c => { fCs0 := Pin.of (!x.selects 0), fCs1 := Pin.of (!x.selects 1), fSck := Pin.of (x.sckHigh || c.sckHeld), fReset := reset,
                    dq := (List.range 8).map (c.lineDir x.bank), dqs := if c.turned then .toHost else .toFlash }

/-! ### Registers and commands (Tables 4-15 to 4-19) -/

/-- APn_MODE. -/
def State.portModeWord (s : State) (p : Nat) : Nat :=
  let x := s.port p
  let flags := fld x.bank.record 0 1
  let gate (k : Nat) : Bool := x.mode == .own || !s.csReleased p k
  let inWindow := match x.window with
    | some w => w.isOpen
    | none => false
  put 0 2 x.mode.code + put 2 3 x.pending.code + put 5 1 (b2n (gate 0)) + put 6 1 (b2n (gate 1)) + put 7 1 (b2n inWindow) +
  put 8 1 (b2n x.frozenHit) + put 9 1 (bits flags 1 1) + put 10 1 (bits flags 2 1) + put 11 1 (b2n x.fVddioLost)

/-- The value of BUSY. -/
def Busy.code : Busy → Nat
  | .none => 0
  | .program => 1
  | .erase => 2
  | .register => 3

/-- The value of SUSP. -/
def Susp.code : Susp → Nat
  | .none => 0
  | .erase => 1
  | .program => 2
  | .both => 3

/-- APn_DEV_k. -/
def State.portDevWord (s : State) (d : Nat) : Nat :=
  let x := s.shadow d
  put 0 1 (b2n (s.deviceSlot d).isSome) + put 1 1 (b2n x.resync) + put 2 1 (b2n x.addr4) + put 3 2 x.iface.code +
  put 5 5 x.dummy + put 10 1 (b2n x.wel) + put 11 2 x.busy.code + put 13 2 x.susp.code + put 15 2 x.sfdp.code +
  put 17 4 x.resyncCause + put 21 1 (b2n x.resyncHit)

/-- APn_IDLE_WAIT. -/
def State.portIdleWait (s : State) (p : Nat) : Nat :=
  let x := s.port p
  if x.pending == .none then 0 else min (s.now - x.pendingSince) 0xFFFFFFFF

/-- PORT_STATUS (R154). -/
def execPortStatus (h : Hdr) (port hostAddr : Nat) (s : State) : Res :=
  .next (commandR (opPortStatus.on (le 1 port ++ zeros 3 ++ le 8 hostAddr)) h (decide (port < 16) && s.writeAddrOk h hostAddr) s fun _ t =>
    if (t.portDevices port).isEmpty then err 0x0430
    else okOut hostAddr (le 4 (t.portModeWord port) ++ le 4 (t.portDevWord (2 * port)) ++ le 4 (t.portDevWord (2 * port + 1)) ++
      le 4 (t.shadow (2 * port)).suspAddr ++ le 4 (t.shadow (2 * port + 1)).suspAddr ++ le 4 (t.portIdleWait port) ++ zeros 8))

/-- PORT_IDLE_WINDOW (R148, R154): it ends with its window. -/
def execPortIdleWindow (h : Hdr) (port durationUs : Nat) (s : State) : Res :=
  .next (command (opPortIdleWindow.on (le 1 port ++ zeros 3 ++ le 4 durationUs)) h (decide (port < 16 ∧ 100 ≤ durationUs ∧ durationUs ≤ 1000000)) s fun h t =>
    let x := t.port port
    if (t.portDevices port).isEmpty then (some (err 0x0430), t)
    else if x.window.isSome then (some (err 0x0431), t)
    else if x.mode == .own then (some (err 0x0432), t)
    else if !t.windowWork port then (some (ok (zeros 8)), t)
    else (none, t.updPort port (fun x => { x with window := some { hdr := h, durationUs := durationUs } })))

end Sys2Proof.Machine
end

