-- ==== Sys2Proof/Machine/Slots.lean ====
section
/-! DEFINITION. Chapter 3: releases and their sequences, strings and expanders, power-good, and the slot commands. -/
namespace Sys2Proof.Machine

/-! ### Release (R100, R105, R128, R446) -/

/-- An edge lets its dependant go now (R105). -/
def State.edgeMet (s : State) (e : EdgeRec) : Bool :=
  let x := s.slot e.src
  if e.soft && x.state == .quarantined then true
  else x.state == .released && x.completed && decide (x.lastDone + e.minDelay ≤ s.now)

/-- Every edge to slot n lets it go. -/
def State.edgesMet (s : State) (n : Nat) : Bool := s.edges.all (fun p => p.2.dst != n || s.edgeMet p.2)

/-- A prerequisite that HOLD_PREREQ held still waits for its dependant's checks (R106). -/
def State.prereqWaits (s : State) (n : Nat) : Bool :=
  s.edges.any (fun p => p.2.src == n && (s.edgeMem p.1).holdsPrereq && !(s.slot p.2.dst).checked)

/-- Slot n is HELD, cleared, checked and matching: only the rules of R105, R128 and R446 still hold it. -/
def State.readySlot (s : State) (n : Nat) : Bool :=
  let x := s.slot n
  s.boot.controlUp && s.image.isSome && x.state == .held && s.slotCleared n && x.checked && s.slotMatches n && !s.slotIsolated n

/-- A request held slot n in this instant: HELD ranks above RELEASED, so no release takes effect in it (R87). -/
def State.heldNow (s : State) (n : Nat) : Bool := (s.slot n).heldAt == some s.now

/-- The release trigger of slot n is due: never while no Warden image runs (R76). -/
def State.triggerDue (s : State) (n : Nat) : Bool :=
  s.boot.imageUp && s.readySlot n && !s.platformHeld && s.edgesMet n && !s.prereqWaits n && (s.slotPorts n).all s.canPass

/-- The release trigger of slot n is due and takes effect: not in the instant in which a request held the slot (R87). -/
def State.mayRelease (s : State) (n : Nat) : Bool := s.triggerDue n && !s.heldNow n

/-- A release trigger due in the instant in which slot n was held is superseded, and logged once (R87): readyAt marks it. -/
def State.triggerSuperseded (s : State) (n : Nat) : State :=
  if s.triggerDue n && (s.slot n).readyAt != s.now then
    (s.logSuperseded n (if (s.slot n).cleared then .command else .none)).updSlot n (fun x => { x with readyAt := s.now })
  else s

/-- Channel n is to be armed at the slot's release completion (R463, R467). -/
def State.armsAtRelease (s : State) (n : Nat) : Bool := s.slotWinds n || s.hwChan n

/-- The release completion of slot n (R100). A dependant that is RELEASED already has its release trigger behind it: its
edge's window is met (R106, log entry 89). -/
def State.releaseDone (s : State) (n : Nat) : State :=
  let s := s.updSlot n (fun x => { x with seq := .none, completed := true, lastDone := s.now })
  let s := s.edges.foldl (fun t p =>
    if p.2.src == n && t.isReleased p.2.dst then t.updEdge p.1 (fun e => { e with met := some t.now }) else t) s
  if s.armsAtRelease n && s.boot.controlUp then s.armChan n else s

/-- The release sequence of slot n ends when its last output string is slack; a hold sequence when none is (R100). -/
def State.sequenceEnd (s : State) (n : Nat) : State :=
  let x := s.slot n
  match x.seq with
  | .releasing => if !x.gateWait && (s.slotOutputs n).all (fun p => (s.str p.1).slack) then s.releaseDone n else s
  | .holding => if (s.slotOutputs n).all (fun p => !(s.str p.1).slack) then s.updSlot n (fun x => { x with seq := .none }) else s
  | .none => s

/-- A dependant that was held with its prerequisite and has not been released or quarantined since: it is HELD, or on its way
there through CHECKING or RECOVERING (R86, R107). -/
def SlotState.awaitsRestore (st : SlotState) : Bool := st == .held || st == .checking || st == .recovering

/-- The dependants that were held with slot n on COUPLED edges are cleared by AUTO_RESTORE, the prerequisites that were held
for its checks count their edges anew, the windows that slot n's own release trigger meets are marked, and slot n itself is no
longer held through any edge (R106, R107). -/
def State.releaseEdges (s : State) (n : Nat) : State :=
  s.edges.foldl (fun t p =>
    if p.2.src == n then
      let m := t.edgeMem p.1
      let t := t.updEdge p.1 (fun e => { e with holdsPrereq := false, heldDep := false })
      if m.heldDep && t.autoRestore p.2.dst && (t.slot p.2.dst).state.awaitsRestore then t.updSlot p.2.dst (fun x => { x with restore := true }) else t
    else if p.2.dst == n && (t.slot p.2.src).completed then t.updEdge p.1 (fun e => { e with met := some (t.slot p.2.src).lastDone })
    else t) (s.dropHeldDep n)

/-- The release trigger of slot n (R100, R127). REASON is COMMAND where a SLOT_RELEASE cleared the slot for it (Table 3-13). -/
def State.releaseSlot (s : State) (n : Nat) : State :=
  let s := (s.slotPorts n).foldl State.portRelease s
  let s := s.setSlot n .released (if (s.slot n).cleared then .command else .none) true
  let s := s.updSlot n (fun x => { x with cleared := false, restore := false, readyAt := 0, trigAt := s.now, seq := .releasing,
                                          completed := false, heldByBus := false, heldByTamper := false, needsRelease := false })
  let s := (s.slotPg n).foldl (fun t p => t.updStr p.1 (fun x => { x with pgSeen := x.accepted, pgTimedOut := false })) s
  let s := s.scheduleRelease n
  let s := s.releaseEdges n
  (s.answerRelease n ok).sequenceEnd n

/-- RELEASE_TRIGGER (R105, R128): the trigger, or the REASON that a slot which waits shows: TAMPER_HOLD while a platform hold
stands, else WAITING_DEPENDENCY, for MIN_DELAY, a HOLD_PREREQ dependant's checks and a port that cannot pass too: a DESIGN
CHOICE, for R105 names it only for a prerequisite that is not RELEASED (log entry 113). A trigger due in the instant in which
the slot was held is superseded (R87). -/
def execReleaseTrigger (slot : Nat) (s : State) : Res :=
  let s := if s.boot.controlUp && s.image.isSome then s.considerSlot slot else s
  if s.mayRelease slot then .next (s.releaseSlot slot).settle
  else if s.readySlot slot && s.heldNow slot then .next (s.triggerSuperseded slot)
  else if s.readySlot slot then
    .next (s.updSlot slot (fun x => { x with reason := if s.platformHeld then .tamperHold else .waitingDependency }))
  else .next s.planPorts

/-! ### Strings (R100 to R103) -/

/-- String i takes its scheduled level. -/
def State.applyDue (s : State) (i : Nat) : State :=
  match (s.str i).due with
  | some (t, slack) => if t ≤ s.now then s.updStr i (fun x => { x with driven := true, slack := slack, due := none }) else s
  | none => s

/-- The slot that string i names. -/
def State.strSlot (s : State) (i : Nat) : Option Nat :=
  let e := s.strEntry i
  if e.role == 1 || e.role == 2 || e.role == 3 then some e.target else none

/-- String i takes its scheduled level, and its slot's sequence ends where this was the last change. -/
def State.moveString (s : State) (i : Nat) : State :=
  let s := s.applyDue i
  match s.strSlot i with
  | some n => s.sequenceEnd n
  | none => s

/-- STRING_SCHEDULED_CHANGE (R101): a direct string. -/
def execStringScheduledChange (string : Nat) (s : State) : Res :=
  if string < 128 ∧ s.boot.guardUp then .next (s.moveString string).settle else .next s

/-- The extension strings of bus b on expander e that are bound. -/
def State.busStrings (s : State) (b : Nat) (e : Option Nat) : List Nat :=
  (s.strEntries.filter (fun p => decide (128 ≤ p.1) && p.2.role != 0 && p.2.bus == b &&
    (match e with
     | some x => p.2.expander == x
     | none => true))).map Prod.fst

/-- Expander e of a bus is being retried. -/
def XBus.retrying (x : XBus) (e : Nat) : Bool := x.retry.any (fun r => r.1 == e)

/-- A POWER_GOOD input is sampled: a level that differs from the last one sampled starts its debounce (R109). -/
def State.samplePg (s : State) (i : Nat) : State :=
  if (s.strEntry i).role = 3 ∧ (s.str i).sampled ≠ (s.str i).input then
    s.updStr i (fun x => { x with sampled := x.input, since := s.now })
  else s

/-- One expander's part of a tick: its pending changes in one write, and its POWER_GOOD inputs read (R102, R109). -/
def State.serveExpander (s : State) (b e : Nat) : State :=
  let l := s.busStrings b (some e)
  l.foldl State.samplePg (l.foldl State.moveString s)

/-- EXTENSION_TICK (R101, R102, R109): the bus serves its expanders in ascending index, but for those that are being
retried. -/
def execExtensionTick (bus : Nat) (s : State) : Res :=
  let x := s.xbus bus
  if bus < 4 ∧ s.boot.guardUp ∧ s.now % s.busTick bus = 0 ∧ (x.state == .up || x.state == .retrying) then
    .next (((List.range 8).filter (fun e => !x.retrying e)).foldl (fun t e => t.serveExpander bus e) s).settle
  else .next s

/-! ### Expanders that do not answer (R111 to R114) -/

/-- The wait before retry k (from 0) in µs (R111). -/
def retryGap (k : Nat) : Nat := 50 * 2 ^ k

/-- EXPANDER_NAK (R111): a transaction of an extension tick is not acknowledged. The bus goes on serving the others. -/
def execExpanderNak (bus expander : Nat) (s : State) : Res :=
  let x := s.xbus bus
  if bus < 4 ∧ (x.state == .up || x.state == .retrying) ∧ !x.retrying expander ∧ s.boot.guardUp ∧ s.expProtocol bus expander ≠ 0 then
    .next (s.updBus bus (fun x => { x with state := .retrying, retry := x.retry ++ [(expander, 0, s.now + retryGap 0)] }))
  else .next s

/-- The lines of a bus with its expanders in reset: BUS_RESET is taut, and every line with it (R92, R112). -/
def State.resetBus (s : State) (b : Nat) : State :=
  let s := match s.busReset b with
    | some i => s.updStr i (fun x => { x with driven := true, slack := false, due := none })
    | none => s
  (s.busStrings b none).foldl (fun t i => t.updStr i (fun x => { x with slack := false, due := none })) s

/-- The bus is isolated (R112): BUS_RESET goes taut, every line on the bus with it, and the RELEASED slots with a string on
it are held with REASON BUS_ISOLATED before the cascade of R107. -/
def State.isolateBus (s : State) (b : Nat) : State :=
  let s := s.resetBus b
  let s := s.updBus b (fun x => { x with state := .isolated, isolatedHit := true, retry := [], comingUp := false, lastRestore := s.now })
  let s := s.log .guard 0x0103 3 4 b
  let on := (List.range 256).filter (fun n => s.slotOnBus n b)
  let l := on.filter s.isReleased
  let s := (on.filter (fun n => !s.isReleased n)).foldl (fun t n => t.superseded n .held .busIsolated) s
  l.foldl (fun t n => t.updSlot n (fun x => { x with heldByBus := true })) (s.holdSlots l .busIsolated)

/-- The slots whose changes on an expander were late, and by how much (R111): one DEPENDENCY_MAX record for each, with CAUSE 1,
the bus in INDEX2 and the greatest lateness in µs in VALUE: a DESIGN CHOICE, for R111 gives no layout (log entry 90). -/
def State.logLate (s : State) (b e : Nat) : State :=
  let late := (s.busStrings b (some e)).filterMap (fun i =>
    match (s.str i).due, s.strSlot i with
    | some (t, _), some n => if t < s.now then some (n, s.now - t) else none
    | _, _ => none)
  (late.map Prod.fst).eraseDups.foldl (fun t n =>
    t.log .guard 0x0104 3 3 n { cause := 1, index2 := b, value := ((late.filter (fun p => p.1 == n)).map Prod.snd).foldl max 0 }) s

/-- The retry of the bus that is due first. -/
def XBus.nextRetry (x : XBus) : Option (Nat × Nat × Nat) :=
  x.retry.foldl (fun a r => match a with
    | some b => if r.2.2 < b.2.2 then some r else a
    | none => some r) none

/-- EXPANDER_RETRY (R111, R112). -/
def execExpanderRetry (bus : Nat) (ack : Bool) (s : State) : Res :=
  let x := s.xbus bus
  match x.nextRetry with
  | some (e, k, due) =>
    if 4 ≤ bus ∨ x.state != .retrying ∨ s.now < due ∨ !s.boot.guardUp then .next s
    else
      let s := s.updBus bus (fun x => { x with retries := min (x.retries + 1) 255 })
      let rest := x.retry.filter (fun r => r.1 != e)
      if ack then
        let s := s.logLate bus e
        let s := s.updBus bus (fun x => { x with state := if rest.isEmpty then .up else .retrying, retry := rest })
        .next (s.serveExpander bus e).settle
      else if k = 7 then .next (s.isolateBus bus).settle
      else .next (s.updBus bus (fun x => { x with retry := rest ++ [(e, k + 1, s.now + retryGap (k + 1))] }))
  | none => .next s

/-- The BUS_RESET string of bus b, where it has one, goes slack. -/
def State.slackReset (s : State) (b : Nat) : State :=
  match s.busReset b with
  | some i => s.updStr i (fun x => { x with driven := true, slack := true, due := none })
  | none => s

/-- Slot n once bus b is back up: a hold that the isolation set ends, and a check that waited for it begins. -/
def State.endIsolation (t : State) (n b : Nat) : State :=
  if t.slotOnBus n b && !t.slotIsolated n then
    let t := if (t.slot n).heldByBus then t.updSlot n (t.restoreHeld n) else t
    if (t.slot n).checkDue && (t.slot n).state == .held then t.enterChecking n .check else t
  else t

/-- The bus is UP: each slot that its isolation held, on no other isolated bus, is cleared by AUTO_RESTORE, or waits for a
SLOT_RELEASE without it (R113, R114). -/
def State.busUp (s : State) (b : Nat) : State :=
  (List.range 256).foldl (fun t n => t.endIsolation n b)
    ((s.slackReset b).updBus b (fun x => { x with state := .up, retry := [], comingUp := false }))

/-- The bring-up of bus b begins (R113): BUS_RESET goes slack, for at least 1 ms before its expanders are addressed. -/
def State.bringUp (s : State) (b : Nat) : State :=
  (s.slackReset b).updBus b (fun x => { x with comingUp := true, lastRestore := s.now })

/-- An attempt on bus b is due (R113): the end of its bring-up, the attempt of each second while it is ISOLATED, or that of a
BUS_RESTORE. -/
def State.attemptDue (s : State) (b : Nat) : Bool :=
  let x := s.xbus b
  s.boot.controlUp &&
  ((x.comingUp && decide (x.lastRestore + 1000 ≤ s.now)) ||
   (x.state == .isolated && (decide (x.lastRestore + 1000000 ≤ s.now) || !x.waiters.isEmpty)))

/-- BUS_RESTORE_ATTEMPT (R113): the bus is UP, or its lines stay in reset and it is ISOLATED. -/
def execBusRestoreAttempt (bus : Nat) (ack : Bool) (s : State) : Res :=
  if bus < 4 ∧ s.attemptDue bus then
    let hs := (s.xbus bus).waiters
    let s := s.updBus bus (fun x => { x with waiters := [], lastRestore := s.now })
    if ack then .next (completeAll hs ok (s.busUp bus)).settle
    else if (s.xbus bus).comingUp then .next (s.isolateBus bus).settle
    else .next (completeAll hs (err 0x0422) s)
  else .next s

/-! ### Power-good (R109, R110) -/

/-- Power-good of slot n is lost (R110). Its request is logged as superseded where the slot has left RELEASED in the same
instant for a state that ranks higher (R87). -/
def State.powerGoodLost (s : State) (n string : Nat) : State :=
  if !s.isReleased n then
    (if s.pgAction n = 1 then s.superseded n .held .pgLoss else if s.pgAction n = 2 then s.superseded n .recovering .pgLoss else s)
  else
    let s := s.log .guard 0x0105 3 3 n { index2 := string, value := s.pgAction n }
    if s.pgAction n = 0 then s
    else if !s.boot.controlUp then { s with strs := { s.strs with latched := s.strs.latched ++ [.pgLoss n] } }
    else if s.pgAction n = 1 then s.holdSlot n .pgLoss
    else s.recoverSlot n .pgLoss false

/-- POWER_GOOD_CHANGE (R109): the level from outside changes. A direct string is sampled each µs, and an extension string by
its bus's ticks. -/
def execPowerGoodChange (string : Nat) (level : Bool) (s : State) : Res :=
  if string < 256 ∧ s.boot.guardUp ∧ (s.str string).input ≠ level then
    .next (s.updStr string (fun x =>
      if string < 128 then { x with input := level, sampled := level, since := s.now } else { x with input := level }))
  else .next s

/-- A gated RESET string of slot n counts its release offset from the acceptance of the GATE input (R100). -/
def State.gateAccepted (s : State) (n : Nat) : State :=
  let s := (s.slotOutputs n).foldl (fun t p =>
    if p.2.role == 1 then t.updStr p.1 (fun x => { x with due := if x.slack then none else some (t.now + p.2.offsetA, true) }) else t) s
  (s.updSlot n (fun x => { x with gateWait := false })).sequenceEnd n

/-- POWER_GOOD_DEBOUNCE (R109, R110): a level that has lasted the string's debounce counts. -/
def execPowerGoodDebounce (string : Nat) (s : State) : Res :=
  let e := s.strEntry string
  let x := s.str string
  let good := x.sampled == e.high
  if string < 256 ∧ e.role = 3 ∧ s.boot.guardUp ∧ good ≠ x.accepted ∧ x.since + e.offsetB ≤ s.now then
    let s := s.updStr string (fun x => { x with accepted := good })
    let n := e.target
    if good then
      let s := s.updStr string (fun y => { y with pgSeen := y.pgSeen || s.isReleased n })
      .next (if e.gate && (s.slot n).state == .released && (s.slot n).gateWait then s.gateAccepted n else s).settle
    else .next (s.powerGoodLost n string).settle
  else .next s

/-- The first POWER_GOOD input of slot n whose timeout has passed with no acceptance since the release trigger, and has not
been acted on (R109). -/
def State.pgLate (s : State) (n : Nat) : Option Nat :=
  ((s.slotPg n).find? (fun p =>
    !(s.str p.1).pgSeen && !(s.str p.1).pgTimedOut && decide ((s.slot n).trigAt + p.2.offsetA ≤ s.now))).map Prod.fst

/-- POWER_GOOD_TIMEOUT (R109): a power-good input was not accepted within its timeout of the release trigger. -/
def execPowerGoodTimeout (slot : Nat) (s : State) : Res :=
  match s.pgLate slot with
  | some i =>
    if s.isReleased slot && s.boot.guardUp then
      .next ((s.updStr i (fun y => { y with pgTimedOut := true })).powerGoodLost slot i).settle
    else .next s
  | none => .next s

/-! ### Maximum delays (R106) -/

/-- MAX_DELAY_EXPIRY: a dependant's release trigger has not occurred within its edge's window. -/
def execMaxDelayExpiry (edge : Nat) (s : State) : Res :=
  match s.edges.find? (fun p => p.1 == edge) with
  | none => .next s
  | some (_, e) =>
    let p := s.slot e.src
    let d := s.slot e.dst
    let m := s.edgeMem edge
    if !s.boot.controlUp || e.maxDelay == 0xFFFFFFFF || p.state != .released || !p.completed || m.met == some p.lastDone ||
        m.acted == some p.lastDone || decide (s.now < p.lastDone + e.maxDelay) then .next s
    else
      let k := m.misses + 1
      let action := if e.maxAction = 1 ∧ 4 ≤ k then 0 else e.maxAction
      let s := s.updEdge edge (fun x => { x with misses := k, acted := some p.lastDone })
      let s := s.log .guard 0x0104 3 3 e.dst { index2 := e.src, value := action }
      if action = 1 then
        let s := s.updEdge edge (fun x => { x with holdsPrereq := true })
        let s := s.holdSlot e.src .maxDelay
        .next (s.updSlot e.src (fun x => { x with restore := true })).settle
      else if action = 2 then
        match d.state with
        | .held => if s.slotIsolated e.dst then .next s else .next (s.quarantine e.dst .maxDelay).settle
        | .checking => .next (s.updSlot e.dst (fun x => { x with quarantineDue := true }))
        | _ => .next s
      else .next s

/-! ### Slot commands (Table 3-14) -/

/-- LEVELS of STR_SLOT_n (Table 3-13). -/
def State.slotLevels (s : State) (n : Nat) : Nat :=
  (((List.range 4).zip (s.slotStrings n)).foldl (fun a q =>
    let x := s.str q.2.1
    if (if q.2.2.role == 3 then x.accepted else x.slack) then setBit a q.1 else a) 0)

/-- STR_SLOT_n (Table 3-13). -/
def State.slotWord (s : State) (n : Nat) : Nat :=
  let x := s.slot n
  put 0 3 x.state.code + put 3 1 (b2n x.checked) + put 4 5 x.reason.code + put 9 4 (s.slotLevels n) + put 13 8 x.holds

/-- SLOT_STATUS (R115). -/
def execSlotStatus (h : Hdr) (first count hostAddr : Nat) (s : State) : Res :=
  let n := if count = 0 then 256 else count
  .next (commandR (opSlotStatus.on (le 1 first ++ le 1 count ++ zeros 2 ++ le 8 hostAddr)) h (rangeOk first n 256 && s.writeAddrOk h hostAddr) s fun _ t =>
    okOut hostAddr ((List.range n).flatMap (fun i =>
      le 4 (t.slotWord (first + i)) ++ zeros 4 ++ le 8 (t.slot (first + i)).lastDone)))

/-- The status of a slot command that needs one of some states (R115); with no policy in force every slot is HELD and no
slot command applies. -/
def State.slotCommand (s : State) (n : Nat) (states : List SlotState) : Nat :=
  if s.image.isSome && (s.slot n).state == .absent then 0x0420
  else if s.image.isNone || !states.contains (s.slot n).state then 0x0421
  else 0

/-- SLOT_HOLD (R104, R115). -/
def execSlotHold (h : Hdr) (slot : Nat) (s : State) : Res :=
  .next (commandC (opSlotHold.on (le 1 slot)) h true s fun _ t =>
    let st := t.slotCommand slot [.released]
    if st ≠ 0 then (err st, t.superseded slot .held .command) else (ok, (t.holdSlot slot .command).settle))

/-- A prerequisite that is not SOFT is not RELEASED (Table 3-14). -/
def State.dependencyUnmet (s : State) (n : Nat) : Bool :=
  s.edges.any (fun p => p.2.dst == n && !p.2.soft && !s.isReleased p.2.src)

/-- SLOT_RELEASE (R86, R115): it completes at the release trigger, or at once while a prerequisite is not RELEASED. -/
def execSlotRelease (h : Hdr) (slot : Nat) (s : State) : Res :=
  .next (command (opSlotRelease.on (le 1 slot)) h true s fun h t =>
    let st := t.slotCommand slot [.held]
    if st ≠ 0 then (some (err st), t.superseded slot .released .command)
    else
      let u := t.updSlot slot (fun x => { x with cleared := true, needsRelease := false })
      if t.dependencyUnmet slot then (some { status := 0x0423 }, u.settle)
      else (none, (u.updSlot slot (fun x => { x with waiters := x.waiters ++ [h] })).settle))

/-- SLOT_RECOVER (R104, R115, R375). A HELD slot with a string on an isolated bus stays HELD (R112): the command does not
apply to it. -/
def execSlotRecover (h : Hdr) (slot : Nat) (s : State) : Res :=
  .next (commandC (opSlotRecover.on (le 1 slot)) h true s fun _ t =>
    let st := t.slotCommand slot [.released, .held]
    if (t.slot slot).state == .recovering then (err 0x0421, t.logSuperseded slot .command)
    else if st ≠ 0 then (err st, t.superseded slot .recovering .command)
    else if (t.slot slot).state == .held && t.slotIsolated slot then (err 0x0421, t)
    else (ok, (t.recoverSlot slot .command false).settle))

/-- SLOT_UNQUARANTINE (R115, Table 3-2): a slot with a string on an isolated bus stays HELD until the bus is restored, and is
checked then (R112). One that entered QUARANTINED in this instant stays there (R87). -/
def execSlotUnquarantine (h : Hdr) (slot : Nat) (s : State) : Res :=
  .next (commandC (opSlotUnquarantine.on (le 1 slot)) h true s fun _ t =>
    let st := t.slotCommand slot [.quarantined]
    if st ≠ 0 then (err st, t)
    else if (t.slot slot).changedAt == some t.now then (err 0x0421, t.superseded slot .held .command)
    else
      let t := t.setSlot slot .held .command false
      (ok, (if t.slotIsolated slot then t.updSlot slot (fun x => { x with checkDue := true }) else t.enterChecking slot .check).settle))

/-- BUS_RESTORE (R113, R115): it ends with the attempt. On a bus that is not ISOLATED it completes with OK at once and does
nothing: a DESIGN CHOICE, for the spec gives no status there (log entry 91). -/
def execBusRestore (h : Hdr) (bus : Nat) (s : State) : Res :=
  .next (command (opBusRestore.on (le 1 bus)) h (decide (bus < 4)) s fun h t =>
    if (t.xbus bus).state == .isolated then (none, t.updBus bus (fun x => { x with waiters := x.waiters ++ [h] }))
    else (some ok, t))

end Sys2Proof.Machine
end

