-- ==== Sys2Proof/Machine/Policy.lean ====
section
/-! DEFINITION. Chapter 5: reading and checking a policy image, the policy store, the commit, the epoch switch of the ports
and the policy and violation commands. -/
namespace Sys2Proof.Machine

/-! ### Reading an image (R155 to R158) -/

/-- An image as read: what the store keeps, its signatures with the bytes each one signs, and the digests of key 8. -/
structure RawImage where
  img : Image := {}
  sigs : List (CoseSig × Bytes) := []
  digests : List (Nat × Bytes) := []
  deriving DecidableEq, Repr

/-- The entries of a map whose keys are unsigned and whose values are byte strings. -/
def bytesMap (l : List (Cbor × Cbor)) : Option (List (Nat × Bytes)) :=
  l.mapM (fun p => match p.1, p.2 with
    | .uint n, .bytes b => some (n, b)
    | _, _ => none)

/-- A section identifier may stand in an image of a format (R157). -/
def sectionIdOk (format id : Nat) : Bool :=
  (requiredSections ++ optionalSections).contains id || (format == 2 && within 0x80 id 0xFF)

/-- The payload map with keys 7 and 8 removed, encoded again (Table 10-10). -/
def imageHeader (format svn : Nat) (id : Bytes) (serial : Nat) (binding : Option Bytes) (wall : Option Int) : Bytes :=
  let tail := (match binding with
    | some b => [cborUint 5 ++ cborBytes b]
    | none => []) ++ (match wall with
    | some w => [cborUint 6 ++ cborInt w]
    | none => [])
  cborMap (4 + tail.length) ++ cborUint 1 ++ cborUint format ++ cborUint 2 ++ cborUint svn ++ cborUint 3 ++ cborBytes id ++
    cborUint 4 ++ cborUint serial ++ tail.flatten

/-- An optional item under a key: absent, or of the shape that f reads. -/
def optItem {α : Type} (m : List (Cbor × Cbor)) (k : Nat) (f : Cbor → Option α) : Option (Option α) :=
  match mapGet m k with
  | none => some none
  | some c => (f c).map some

/-- The payload of an image of a format (Table 5-2): the image and its digests. An identifier that R157 does not allow is a fault
of form, POLICY_FORMAT: a DESIGN CHOICE (log entry 98). -/
def readPayload (raw : Bytes) (format : Nat) (payload : Bytes) : Option (Image × List (Nat × Bytes)) := do
  let m ← (← readCbor payload).asMap
  let keys ← mapKeys m
  if !(keys.all (fun k => within 1 k 8) && ([1, 2, 3, 4, 7] : List Nat).all keys.contains) then none
  let fmt ← (← mapGet m 1).asUint
  let svn ← (← mapGet m 2).asUint
  let id ← (← mapGet m 3).asBytes
  let serial ← (← mapGet m 4).asUint
  let binding ← optItem m 5 Cbor.asBytes
  let wall ← optItem m 6 Cbor.asInt
  let secs ← bytesMap (← (← mapGet m 7).asMap)
  let digs ← optItem m 8 Cbor.asMap
  let digests ← match digs with
    | none => some []
    | some l => bytesMap l
  let bindOk : Bool := match binding with
    | none => true
    | some b => b.length == 48
  if fmt == format && decide (svn ≤ 128) && id.length == 16 && bindOk && digs.isSome == (format == 2) &&
      digests.all (fun p => p.2.length == 48) && secs.all (fun p => sectionIdOk format p.1) then
    some ({ raw := raw, format := format, svn := svn, id := id, serial := serial, binding := binding,
            header := imageHeader format svn id serial binding wall, sections := secs }, digests)
  else none

/-- The image that bytes spell; none when check 1 of R159 fails. A format 2 image names its signers in the order of Table 5-1,
ES384 first: a DESIGN CHOICE, for R155 names no order (log entry 97). -/
def readImage (raw : Bytes) : Option RawImage :=
  if 524288 < raw.length then none
  else match readCoseSign1 raw, readCoseSign raw with
    | some (payload, g), _ =>
      if g.alg == -35 && g.kid.length == 1 then
        (readPayload raw 1 payload).map (fun r => { img := r.1, sigs := [(g, sig1Input g.prot payload)], digests := r.2 })
      else none
    | none, some (prot, payload, gs) =>
      if gs.map CoseSig.alg == [-35, -49] && gs.all (fun g => g.kid.length == 1) then
        (readPayload raw 2 payload).map (fun r =>
          { img := r.1, sigs := gs.map (fun g => (g, sigInput prot g.prot payload)), digests := r.2 })
      else none
    | none, none => none

/-! ### The checks of R159 -/

/-- A signer's slot is ACTIVE and carries POLICY and its algorithm (R155). -/
def State.policySigner (s : State) (g : CoseSig) : Bool :=
  match kidSlot g.kid with
  | none => false
  | some i => s.cru.table.activeWith i 0 && (s.cru.table.slot i).alg == (if g.alg = -35 then 1 else 2)

/-- A signature verifies under its signer's key (R155). -/
def State.policyVerified (s : State) (g : CoseSig) (input : Bytes) : Bool :=
  match kidSlot g.kid with
  | none => false
  | some i => verifies (if g.alg = -35 then algP384 else algPq) (s.cru.table.slot i).key input g.sig

/-- A signer's slot is ACTIVE, carries POLICY and its algorithm, and its signature verifies (R155). -/
def State.policySigned (s : State) (g : CoseSig) (input : Bytes) : Bool := s.policySigner g && s.policyVerified g input

/-- The digests of key 8 are those of the sections, one for each. -/
def RawImage.digestsOk (x : RawImage) : Bool :=
  x.img.format == 1 ||
  (x.img.sections.map Prod.fst == x.digests.map Prod.fst && x.digests.all (fun p => sha384 (x.img.sec p.1) == p.2))

/-- The status of the checks of R159 and its result bytes; 0 with the image when all pass. A device start leaves out the
serial number (R164). -/
def State.checkImage (s : State) (start : Bool) (raw : Bytes) : Nat × Bytes × Image :=
  match readImage raw with
  | none => (0x0541, [], {})
  | some x =>
    let newer : Bool := match s.committedImage with
      | some c => start || decide (c.serial < x.img.serial)
      | none => true
    if s.hammerUnavailable then (0x0360, [], {})
    else if !x.sigs.all (fun g => s.policySigned g.1 g.2) then (0x0540, [], {})
    else if x.img.svn < s.arb 2 ∨ !newer then (0x0542, [], {})
    else if x.img.binding.isSome ∧ x.img.binding ≠ some s.deviceName then (0x0543, [], {})
    else if !x.digestsOk then (0x0541, [], {})
    else match checkRules s x.img.sections with
      | some (sec, record) => (0x0544, le 1 sec ++ le 2 record, {})
      | none => (0, [], x.img)

/-- The checks of R159 with the signatures verified on lanes, where the checks before them let it come to that (R259). -/
def State.judgeImage (s : State) (start : Bool) (raw : Bytes) (verdicts : Nat) : (Nat × Bytes × Image) × State :=
  let c := s.checkImage start raw
  match readImage raw with
  | none => (c, s)
  | some x =>
    if s.hammerUnavailable || !x.sigs.all (fun g => s.policySigner g.1) then (c, s)
    else
      let r := s.decideAll verdicts 0 (x.sigs.map (fun g => (if g.1.alg = -35 then 0x04 else 0x0B, s.policyVerified g.1 g.2)))
      (if r.1 then c else (0x0540, [], {}), r.2)

/-! ### What a policy brings into force -/

/-- The bank of port p under an image (R165); empty for a port that the image does not guard. -/
def Image.bankFor (i : Image) (epoch p : Nat) : Bank :=
  let x : Sections := i.sections
  if x.guarded p then
    { x.bank p with epoch := epoch, rules := i.sec 0x04, dev0 := x.devRec (2 * p), dev1 := x.devRec (2 * p + 1) }
  else {}

/-- The output strings of the policy in force that an earlier one did not bind alike are driven taut (R51, R99). -/
def State.driveStrings (s : State) (old : List (Nat × StrEntry)) : State :=
  let keep (p : Nat × StrEntry) : Bool := old.any (fun q => q.1 == p.1 && q.2.isOutput && q.2.high == p.2.high && q.2.openDrain == p.2.openDrain)
  s.strEntries.foldl (fun t p =>
    if p.2.isOutput then
      (if keep p ∧ (t.str p.1).driven then t else t.updStr p.1 (fun x => { x with driven := true, slack := false, due := none }))
    else if p.2.role = 4 ∨ p.2.role = 3 then
      (if (old.find? (fun q => q.1 == p.1)).map (fun q => q.2.role) = some p.2.role then t
       else t.updStr p.1 (fun x => { x with driven := false, slack := false, due := none, accepted := false }))
    else t.updStr p.1 (fun x => { x with driven := false, slack := false, due := none, accepted := false })) s

/-- Each XB bus with a fitted expander is brought up, and one without is unused (R113, Table 3-10). -/
def State.setBuses (s : State) : State :=
  (List.range 4).foldl (fun t b =>
    if t.busUsed b then
      (if (t.xbus b).state == .unused then t.bringUp b
       else match t.busReset b with
         | some i => if (t.xbus b).state == .isolated then t else t.updStr i (fun x => { x with driven := true, slack := true, due := none })
         | none => t)
    else t.updBus b (fun x => { x with state := .unused, retry := [], comingUp := false })) s

/-- A slot becomes ABSENT: a SLOT_RELEASE that waits completes with SLOT_BUSY, and its clearance ends (R86). -/
def State.removeSlot (s : State) (n : Nat) : State :=
  let s := s.setSlot n .absent .none false
  let s := s.updSlot n (fun x => { x with cleared := false, restore := false, quarantineDue := false, readyAt := 0, heldByBus := false,
                                          heldByTamper := false, needsRelease := false })
  s.answerRelease n (err 0x0421)

/-- Table 3-2's last rows: the slots that a commit defines or defines no longer. -/
def State.defineSlots (s : State) : State :=
  (List.range 256).foldl (fun t n =>
    let st := (t.slot n).state
    if !t.slotDefined n then (if st == .held || st == .quarantined then t.removeSlot n else t)
    else if st == .absent then t.setSlot n .held .none false
    else t) s

/-- The edges of a commit keep what is remembered of an edge between the same two slots. A new edge counts for the releases
begun after the commit: the window of a completion before it is met (R99). -/
def State.keepEdges (s old : State) : Tab Edge :=
  s.edges.foldl (fun a p =>
    match old.edges.find? (fun q => q.2.src == p.2.src && q.2.dst == p.2.dst) with
    | some q => a.set p.1 {} (s.edgeMem q.1)
    | none => a.set p.1 {} { met := if (s.slot p.2.src).completed then some (s.slot p.2.src).lastDone else none }) []

/-- A change of address ends the framed session on its buses (R285). -/
def State.readdress (s : State) (old : State) : State :=
  let addr (t : State) (off : Nat) : Nat := if t.image.isNone then 0x4C else fld (t.sec 0x20) off 1
  let s := if addr old 10 = addr s 10 then s else (s.updSession .sb0 (fun _ => {})).updSession .sb1 (fun _ => {})
  if addr old 11 = addr s 11 then s
  else (s.updSession .mb0 (fun x => { dynAddr := x.dynAddr })).updSession .mb1 (fun x => { dynAddr := x.dynAddr })

/-- The sections that take effect at once: grants, tamper, the cap (R168, R285, R450, R521). -/
def State.applySections (s old : State) : State :=
  let cap := (s.image.map Image.cap).getD 152
  let s := { s with spn := { s.spn with capSetting := cap, byCommand := false },
                    emb := { s.emb with tamperCopy := s.sec 0x32 } }
  (State.applyGrants old s).readdress old

/-! ### POLICY_STAGE (R159, R160) -/

/-- s with a slot of the policy store changed. -/
def State.putSlot (s : State) (k : Nat) (i : Option Image) : State :=
  if k = 0 then { s with pol := { s.pol with slot0 := i } } else { s with pol := { s.pol with slot1 := i } }

/-- The write of a checked image begins: its slot holds none until it is complete (R160). -/
def State.beginWrite (s : State) (h : Hdr) (img : Image) : State :=
  let s := s.putSlot s.otherSlot none
  { s with pol := { s.pol with staging := some (h.src, h.uid), writing := some (h, { img with wasCommitted := false }) } }

/-- The write is complete, and its command ends (R160). -/
def State.serveStage (s : State) : State :=
  match s.pol.writing with
  | some (h, img) =>
    let s := s.putSlot s.otherSlot (some img)
    complete h (ok (le 8 img.serial)) { s with pol := { s.pol with staging := none, writing := none } }
  | none => s

/-- POLICY_STAGE. The image is checked whole before the slot is touched, and written after that: the command ends when time has
passed (State.serveStage, log entry 96). -/
def execPolicyStage (h : Hdr) (length hostAddr : Nat) (data : Bytes) (s : State) (verdicts : Nat := 0) : Res :=
  let data := s.inputOf h hostAddr length data
  .next (command (opPolicyStage.on (zeros 4 ++ le 4 length ++ le 8 hostAddr)) h (s.readAddrOk h hostAddr length) s (ownBody fun h t =>
    let other := t.stageLive && t.pol.staging != some (h.src, h.uid)
    let t := if other then t else { t with pol := { t.pol with staging := none } }
    if other then (some (err 0x0410), t)
    else if t.swapping then (some (err 0x0441), t)
    else if t.transitionPending then (some (err 0x04B1), t)
    else
      let ((st, res, img), t) := t.judgeImage false (data.take length) verdicts
      if st ≠ 0 then (some (err st res), t) else (none, t.beginWrite h img)))

/-! ### POLICY_COMMIT (R99, R161 to R169) -/

/-- The strings that name slot n, as an image's table spells them. -/
def Image.slotNames (i : Image) (n : Nat) : List (Nat × Bytes) :=
  ((List.range 256).zip (chunks 16 256 (i.sec 0x10))).filter (fun p => (decodeStr p.2).namesSlot n)

/-- An image changes the DEFINED flag, the flash bindings or the strings of slot n (R99). A string entry that differs only in
OFFSET_A or OFFSET_B counts as a change of the strings: a DESIGN CHOICE (log entry 92). -/
def slotChanges (old new : Image) (n : Nat) : Bool :=
  let a := slice (old.sec 0x11) (8 * n) 8
  let b := slice (new.sec 0x11) (8 * n) 8
  (fld a 0 1).testBit 0 != (fld b 0 1).testBit 0 || slice a 1 2 != slice b 1 2 || old.slotNames n != new.slotNames n

/-- An image changes GUARDED, a VDDIO setting, the profile index or the profile of port p (R161). -/
def portChanges (old new : Image) (p : Nat) : Bool :=
  let a : Sections := old.sections
  let b : Sections := new.sections
  bits (fld (a.portRec p) 0 1) 0 3 != bits (fld (b.portRec p) 0 1) 0 3 || fld (a.portRec p) 1 1 != fld (b.portRec p) 1 1 ||
  a.profile (fld (a.portRec p) 1 1) != b.profile (fld (b.portRec p) 1 1)

/-- A commit of an image has to wait for a slot (R99, R161). -/
def State.commitBusy (s : State) (new : Image) : Bool :=
  match s.image with
  | none => false
  | some old =>
    (List.range 256).any (fun n =>
      let st := (s.slot n).state
      (st == .released || st == .recovering || st == .checking) && slotChanges old new n) ||
    (List.range 16).any (fun p =>
      (s.portSlots p).any (fun n => (s.slot n).state == .released || (s.slot n).state == .recovering) && portChanges old new p)

/-- Each port's inactive bank takes the new tables, and the switch is requested (R165). -/
def State.requestSwitch (s : State) (new : Image) : State :=
  (List.range 16).foldl (fun t p =>
    let b := new.bankFor t.pol.epoch p
    let x := t.port p
    if b.guarded || x.bank.guarded then
      t.updPort p (fun x => if x.active = 0 then { x with bank1 := b, swapPending := true } else { x with bank0 := b, swapPending := true })
    else t) s

/-- The commit point (R162): slot k of the store is committed under a new epoch. -/
def State.commitRecord (s : State) (k : Nat) (fallback : Bool) : State :=
  let s := { s with pol := { s.pol with committed := some k, epoch := (s.pol.epoch + 1) % 2 ^ 32, commitDmt := s.now, loaded := true, fallback := fallback } }
  s.putSlot k ((s.polSlot k).map (fun i => { i with wasCommitted := true }))

/-- The Strings sections take effect (R99, R168). -/
def State.applyStrings (s old : State) : State :=
  let s := { s with strs := { s.strs with edges := s.keepEdges old } }
  ((s.driveStrings old.strEntries).setBuses).defineSlots

/-- The commit of the staged image at its commit point. -/
def State.commitStaged (s : State) (img : Image) (advance : Bool) : State :=
  let old := s
  let s := s.commitRecord s.otherSlot false
  let s := if advance then s.advanceArb 2 img.svn else s
  let s := if s.boot.phase == .noPolicy then State.noteService s { s with boot := { s.boot with phase := .operational } }.imageOperational else s
  let s := (s.applySections old).applyStrings old
  let s := (if old.platformHeld then s.endPlatformHold else s).requestSwitch img
  s.refreshCed

/-- POLICY_COMMIT. -/
def execPolicyCommit (h : Hdr) (flags serial : Nat) (s : State) : Res :=
  .next (command (opPolicyCommit.on (le 1 flags ++ zeros 3 ++ le 8 serial)) h (decide (flags < 2)) s fun h t =>
    match t.staged with
    | none => (some (err 0x0440), t)
    | some img =>
      if img.serial ≠ serial then (some (err 0x0440), t)
      else if t.commitBusy img then (some (err 0x0421), t)
      else if t.swapping then (some (err 0x0441), t)
      else if t.transitionPending then (some (err 0x04B1), t)
      else
        let u := (t.commitStaged img (flags.testBit 0)).settleAll
        if u.swapping then (none, { u with pol := { u.pol with waiter := some h, waitUntil := u.now + 1000000 } })
        else (some (ok u.commitResult), u))

/-! ### The epoch switch of a port (R165 to R170) -/

/-- The leaves of device d at its port's switch (R220), and its record under the new device record (R232, R237). -/
def State.switchDevice (s old : State) (d : Nat) : State :=
  let bound := (s.deviceSlot d).isSome
  let s := if !bound || old.deviceBlocks d != s.deviceBlocks d then
      { s with fit := ({ s.fit with leaves := s.fit.leaves.filter (fun e => decide (e.1 / 8192 ≠ d)) }).noteStale d s.now }
    else s
  if !bound then { s with fit := { s.fit with dirty := s.fit.dirty.del d } }.updRec d (fun _ => {})
  else
    let s := s.updateRecord d
    let released := match s.deviceSlot d with
      | some n => s.isReleased n
      | none => false
    if released && (old.flashRec d).checkMatch && !(s.flashRec d).checkMatch then s.log .guard 0x0501 2 0 0 { index2 := d } else s

/-- Port p swaps its banks (R134, R165, R226). -/
def State.swapPort (s : State) (p : Nat) : State :=
  let old := s
  let b := (s.port p).otherBank
  let changed := (s.port p).bank.profile != b.profile
  let s := s.updPort p (fun x => { x with active := 1 - x.active, swapPending := false })
  let s := if changed then
      ((s.updPort p (fun x => { x with dev0 := { x.dev0.reset b with sfdp := .notChecked }, dev1 := { x.dev1.reset b with sfdp := .notChecked } })).dropAssemblies
        (2 * p)).dropAssemblies (2 * p + 1)
    else s
  let s := if b.guarded || (s.port p).mode == .frozen then s else ((s.dropPending p).setMode p .own)
  (s.switchDevice old (2 * p)).switchDevice old (2 * p + 1)

/-- When the last port has swapped, the new epoch is current for attestation, and POLICY_COMMIT completes (R169, R170). -/
def State.switchDone (s : State) : State :=
  if s.swapping then s
  else
    let s := s.refreshCed
    match s.pol.waiter with
    | some h => complete h (ok s.commitResult) { s with pol := { s.pol with waiter := none } }
    | none => s

/-- PORT_EPOCH_SWAP (R165 to R167): both host chip selects are high, or the port is in OWN or in an open window. -/
def execPortEpochSwap (port : Nat) (s : State) : Res :=
  let x := s.port port
  let own := x.mode == .own || (match x.window with
    | some w => w.isOpen
    | none => false)
  if port < 16 ∧ x.swapPending ∧ s.boot.guardUp ∧ (own || x.hostIdle) then .next ((s.swapPort port).switchDone).settleAll
  else .next s

/-- POLICY_COMMIT_TIMEOUT (R169): 1 s after the commit point. -/
def execPolicyCommitTimeout (s : State) : Res :=
  match s.pol.waiter with
  | some h =>
    if s.pol.waitUntil ≤ s.now then
      .next (complete h { err 0x0442 s.commitResult with carriedOut := true } { s with pol := { s.pol with waiter := none } })
    else .next s
  | none => .next s

/-! ### The other commands (Table 5-15) -/

/-- POLICY_DISCARD. -/
def execPolicyDiscard (h : Hdr) (serial : Nat) (s : State) : Res :=
  .next (commandC (opPolicyDiscard.on (le 8 serial)) h true s fun _ t =>
    if (t.staged.map Image.serial) = some serial then (ok, t.putSlot t.otherSlot none) else (err 0x0440, t))

/-- POLICY_STATUS data (Table 5-16). -/
def State.policyStatus (s : State) : Bytes :=
  let c := s.image.getD {}
  let st := if s.image.isNone then 0 else if s.pol.fallback then 2 else 1
  let g := s.staged.getD {}
  le 1 3 ++ le 1 st ++ le 1 (b2n s.staged.isSome) ++ le 1 (s.arb 2) ++ le 4 (if s.image.isNone then 0 else s.pol.epoch) ++ le 8 c.serial ++ le 2 c.svn ++
  le 1 (if s.image.isNone then 0 else c.format) ++ le 1 0 ++ le 2 s.pendingPorts ++ le 2 0 ++ le 8 g.serial ++ le 2 g.svn ++ zeros 6 ++
  le 8 (if s.image.isNone then 0 else s.pol.commitDmt) ++ fixLen 16 c.id

/-- POLICY_STATUS. -/
def execPolicyStatus (h : Hdr) (hostAddr : Nat) (s : State) : Res :=
  .next (commandR (opPolicyStatus.on (le 8 hostAddr)) h (s.writeAddrOk h hostAddr) s fun _ t => okOut hostAddr t.policyStatus)

/-- The 8 bytes of VIOLATION_COUNTS for rule n. -/
def State.ruleBytes (s : State) (n : Nat) : Bytes :=
  let c := s.pol.rules.get n {}
  let rule := s.secRec 0x04 0 8 n
  let w := if ruleThreshold rule = 0 then 0 else (c.advance s.now (ruleWindow rule)).count
  le 2 (min w 0xFFFF) ++ le 2 (min c.trips 0xFFFF) ++ le 4 (min c.total 0xFFFFFFFF)

/-- VIOLATION_COUNTS. -/
def execViolationCounts (h : Hdr) (first count hostAddr : Nat) (s : State) : Res :=
  .next (commandR (opViolationCounts.on (le 2 first ++ le 2 count ++ le 8 hostAddr)) h (rangeOk first count 257 && s.writeAddrOk h hostAddr) s fun _ t =>
    okOut hostAddr ((List.range count).flatMap (fun i => t.ruleBytes (first + i))))

/-- VIOLATION_RESET. -/
def execViolationReset (h : Hdr) (rule : Nat) (s : State) : Res :=
  .next (commandC (opViolationReset.on (le 2 rule)) h (decide (rule ≤ 256)) s fun _ t =>
    (ok, { t with pol := { t.pol with rules := t.pol.rules.upd rule {} RuleCount.cleared } }))

end Sys2Proof.Machine
end

