-- ==== Sys2Proof/Machine/Cartridge.lean ====
section
/-! DEFINITION. Chapter 11: the Cartridge Bay, its catalogues and life table, and the cartridge commands. -/
namespace Sys2Proof.Machine

/-! ### Slots of the bay -/

/-- Cartridge slot k. -/
def State.cart (s : State) (k : Nat) : Cart := s.cby.slots.get k {}

/-- s with cartridge slot k changed by f. -/
def State.updCart (s : State) (k : Nat) (f : Cart → Cart) : State :=
  { s with cby := { s.cby with slots := s.cby.slots.upd k {} f } }

/-- An operation reads from cartridge slot k. -/
def State.cartInUse (s : State) (k : Nat) : Bool :=
  s.rfu.ops.any (fun o => decide (o.source = 0 ∧ o.cartSlot = k) && o.manifest.isSome && (o.phase == .waitPort || o.phase == .write))

/-- The cartridge of slot k is identified: it is in stand-by or asleep. -/
def Cart.usable (x : Cart) : Bool := x.state == .ready || x.state == .asleep

/-- A data command may go to the cartridge: it is in stand-by, and has answered CMD13 and CMD10 (R400). -/
def Cart.answers (x : Cart) : Bool := x.state == .ready && x.checked

/-- STATE of CBY_SLOT_k (Table 11-15). -/
def State.cartCode (s : State) (k : Nat) : Nat :=
  let x := s.cart k
  if x.usable && s.cartInUse k then 4
  else match x.state with
    | .empty => 0
    | .identifying => 1
    | .ready => 2
    | .asleep => 3
    | .inUse => 4
    | .failed => 5
    | .ejected => 6

/-- CBY_SLOT_k (Table 11-15). -/
def State.cartWord (s : State) (k : Nat) : Nat :=
  let x := s.cart k
  put 0 3 (s.cartCode k) + put 3 1 (b2n x.present) + put 4 1 (b2n x.powered) + put 5 2 x.life + put 7 2 x.catalogue +
  put 9 2 x.preEol + put 11 4 x.lifeA + put 15 4 x.lifeB

/-- CART_RESCAN commands that wait for slot k end with a reply. -/
def State.answerCart (s : State) (k : Nat) (r : Reply) : State :=
  completeAll (s.cart k).waiters r (s.updCart k (fun x => { x with waiters := [] }))

/-- Some cartridge is being identified: the others wait (R398). -/
def State.identifying (s : State) : Bool := (List.range 4).any (fun k => (s.cart k).state == .identifying)

/-- The lowest present cartridge that is not identified yet is powered, when none is being identified, and the bus runs at
400 kHz for it (R398 steps 1 and 2). -/
def State.startIdentify (s : State) : State :=
  if s.identifying then s
  else match (List.range 4).find? (fun k => (s.cart k).present && (s.cart k).state == .empty) with
    | some k =>
      let s := s.updCart k (fun x => { x with state := .identifying, powered := true, ocrSince := s.now + 2000, lastPoll := 0, retries := 0 })
      { s with cby := { s.cby with clockMhz := 0 } }
    | none => s

/-- The identification of slot k failed: it is powered off and logged, and the next one starts (R398). -/
def State.cartFailed (s : State) (k : Nat) : State :=
  let s := s.updCart k (fun x => { x with state := .failed, powered := false, catalogue := 0, entries := [], raw := [], reacquire := none })
  let s := s.log .control 0x0701 5 10 k
  (s.answerCart k (ok (le 1 (s.cartCode k)))).startIdentify

/-! ### The catalogue (R403 to R405) -/

/-- One entry of a catalogue (R404). -/
def readEntry (c : Cbor) : Option CatEntry := do
  match ← c.asArray with
  | [k, i, v, l, n, g] =>
    let e : CatEntry := { kind := ← k.asUint, imageId := ← i.asBytes, svn := ← v.asUint, startLba := ← l.asUint,
                          sectors := ← n.asUint, digest := ← g.asBytes }
    if e.imageId.length = 16 ∧ e.digest.length = 48 then some e else none
  | _ => none

/-- A catalogue: its signature, payload, CID, RPMB_COUNTER and entries (R404). -/
structure Catalogue where
  sig : CoseSig := {}
  payload : Bytes := []
  cid : Bytes := []
  counter : Nat := 0
  entries : List CatEntry := []
  deriving DecidableEq, Repr

/-- The catalogue that bytes spell. -/
def readCatalogue (b : Bytes) : Option Catalogue := do
  let (payload, sig) ← readCoseSign1 b
  let m ← (← readCbor payload).asMap
  let keys ← mapKeys m
  if !(keys.all ([1, 2, 3, 4, 5] : List Nat).contains && ([1, 2, 3, 5] : List Nat).all keys.contains) then none
  else
    let layout ← mapUint m 1
    let items ← (← mapGet m 5).asArray
    let entries ← items.mapM readEntry
    let c : Catalogue := { sig := sig, payload := payload, cid := ← mapBytes m 2, counter := ← mapUint m 3, entries := entries }
    if layout = 1 ∧ c.cid.length = 16 ∧ entries.length ≤ 64 then some c else none

/-- The header of sector 0 is good (Table 11-10). -/
def cartHeaderOk (h : Bytes) : Bool :=
  decide (h.length = 512) && slice h 0 4 == ascii "VCRT" && fld h 4 2 == 1 && decide (fld h 12 4 ≤ 65536) &&
  fld h 508 4 == crc32c (h.take 508)

/-- The signature of a catalogue verifies under an ACTIVE owner key slot with use RECOVERY (R404). -/
def State.catalogueSigned (s : State) (c : Catalogue) : Bool :=
  match c.sig.kid with
  | [k] =>
    decide (c.sig.alg = -35) && s.cru.table.activeWith k.toNat 1 && (s.cru.table.slot k.toNat).alg == 1 &&
    verifies algP384 (s.cru.table.slot k.toNat).key (sig1Input c.sig.prot c.payload) c.sig.sig
  | _ => false

/-! ### The life table (R408, R409) -/

/-- LIFE of the three EXT_CSD bytes (R409). -/
def lifeOf (preEol a b : Nat) : Nat :=
  if preEol = 3 ∨ 0x0B ≤ a ∨ 0x0B ≤ b then 2 else if preEol = 2 ∨ 9 ≤ a ∨ 9 ≤ b then 1 else 0

/-- The life entry of a CID. -/
def State.lifeEntry (s : State) (cid : Bytes) : Option LifeEntry := s.cby.lifeTable.find? (fun e => e.cid == cid)

/-- s with the life entry of a CID changed by f. -/
def State.updLife (s : State) (cid : Bytes) (f : LifeEntry → LifeEntry) : State :=
  { s with cby := { s.cby with lifeTable := s.cby.lifeTable.map (fun e => if e.cid = cid then f e else e) } }

/-- The table without its entry of the oldest LAST_SEEN, where it holds 64 (R408). -/
def lifeRoom (l : List LifeEntry) : List LifeEntry :=
  if l.length < 64 then l
  else match l.foldl (fun (a : Option LifeEntry) e => match a with
      | some o => if e.lastSeen < o.lastSeen then some e else a
      | none => some e) none with
    | some o => l.filter (fun e => e.cid != o.cid)
    | none => l

/-- An entry for a CID: its own, or a new one. -/
def State.seenCid (s : State) (cid : Bytes) : State :=
  match s.lifeEntry cid with
  | some _ => s
  | none =>
    { s with cby := { s.cby with lifeTable := lifeRoom s.cby.lifeTable ++ [{ cid := cid, firstSeen := s.emb.opSeconds, lastSeen := s.emb.opSeconds }] } }

/-- The EXT_CSD life bytes of the cartridge in slot k, as just read: LIFE and its rise (R409). -/
def State.readLife (s : State) (k preEol a b : Nat) : State :=
  let cid := (s.cart k).cid
  let old := ((s.lifeEntry cid).map LifeEntry.life).getD 0
  let life := lifeOf preEol a b
  let s := s.updCart k (fun x => { x with preEol := preEol, lifeA := a, lifeB := b, life := life, lastLifeRead := s.emb.opSeconds })
  let s := s.updLife cid (fun e => { e with preEol := preEol, lifeA := a, lifeB := b, life := life, lastSeen := s.emb.opSeconds })
  if old < life then (s.log .control 0x0702 5 10 k { value := life }).tellManagers 0x0702 5 else s

/-- The 64 bytes of a life entry (R408). -/
def LifeEntry.bytes (e : LifeEntry) : Bytes :=
  fixLen 16 e.cid ++ le 4 e.firstSeen ++ le 4 e.lastSeen ++ le 4 e.maxRpmb ++ le 4 e.mibRead ++ le 4 e.wakes ++ le 2 e.insertions ++
  le 2 e.crcErrors ++ le 1 e.preEol ++ le 1 e.lifeA ++ le 1 e.lifeB ++ le 1 e.life ++ zeros 20

/-- The cartridge of slot k is addressed for a transfer of n data bytes at 52 MHz; one that sleeps is woken (R398, R400, R408). -/
def State.useCart (s : State) (k n : Nat) : State :=
  let x := s.cart k
  let got := x.readBytes + n
  let s := s.updCart k (fun x => { x with state := .ready, lastUsed := s.now, readBytes := got % 1048576 })
  let s := { s with cby := { s.cby with addressed := k, clockMhz := 52 } }
  s.updLife x.cid (fun e => { e with wakes := satAdd 32 e.wakes (b2n (x.state == .asleep)), mibRead := satAdd 32 e.mibRead (got / 1048576) })

/-! ### Insertion and removal (R398, R406, R407) -/

/-- The operations that have blocks to read from cartridge slot k return to SEARCH; what is staged and verified is still written
(R406). -/
def State.dropReaders (s : State) (k : Nat) : State :=
  { s with rfu := { s.rfu with ops := s.rfu.ops.map (fun o =>
      if decide (o.source = 0 ∧ o.cartSlot = k) && s.staging o then
        match o.manifest with
        | some m => { o with phase := .search, resume := o.phase == .write || o.resume, wantDigest := m.digest, waitSince := s.now, reread := none }
        | none => o
      else o) } }

/-- Every cartridge but slot k's is to be revalidated before its next data command (R400). -/
def State.recheckCarts (s : State) (k : Nat) : State :=
  (List.range 4).foldl (fun t j => if j = k then t else t.updCart j (fun x => { x with checked := false })) s

/-- What a removal does to slot k (R406). -/
def State.removeCart (s : State) (k : Nat) : State :=
  let s := (s.updCart k (fun x => { waiters := x.waiters })).recheckCarts k
  { s with cby := { s.cby with removedHit := true } }.dropReaders k

/-- CARTRIDGE_INSERTION (R398): CBY_DET k# has been low for 10 ms. -/
def execCartridgeInsertion (slot : Nat) (s : State) : Res :=
  if 4 ≤ slot ∨ !s.boot.pwrOk ∨ (s.cart slot).present then .next s
  else
    let s := s.updCart slot (fun x => { x with present := true, detLow := true, detSince := s.now })
    .next { s with cby := { s.cby with insertedHit := true } }.startIdentify

/-- CARTRIDGE_REMOVAL (R406). -/
def execCartridgeRemoval (slot : Nat) (s : State) : Res :=
  if 4 ≤ slot ∨ !s.boot.pwrOk ∨ !(s.cart slot).present then .next s
  else .next ((s.removeCart slot).answerCart slot (err 0x04A2)).startIdentify.settleAll

/-! ### Identification (R398, R402, R405) -/

/-- The bytes that the RPMB response's MAC covers: data, nonce, counter, address, block count, result 0, type 0x0200. -/
def rpmbCovered (nonce : Bytes) (counter : Nat) : Bytes := zeros 256 ++ nonce ++ be 4 counter ++ zeros 6 ++ be 2 0x0200

/-- The identification steps but the catalogue pass: nothing failed, sector mode, EXT_CSD_REV at least 8, at least 1 GiB, and the
RPMB response is good (Table 11-9, R402). -/
def State.identGood (s : State) (i : CartIdent) : Bool :=
  !i.failed && i.sectorMode && decide (8 ≤ i.extCsdRev) && i.cid.length == 16 && decide (2097152 ≤ i.sectors) && s.cru.d0.generating &&
  i.rpmbMac == hmac256 (hmac256 (ascii "VG-CART-RPMB") i.cid) (rpmbCovered (s.random 16) i.rpmbCounter)

/-- The catalogue of an identified cartridge, where it can be read. -/
def readCat (i : CartIdent) : Option Catalogue :=
  let h := i.catalogue.take 512
  if cartHeaderOk h then readCatalogue (slice i.catalogue 512 (fld h 12 4)) else none

/-- CATALOGUE of an identified cartridge whose catalogue's signature was accepted or not (R405). -/
def State.judgeCatalogue (s : State) (i : CartIdent) (signed : Bool) : Nat :=
  match readCat i with
  | none => 2
  | some c =>
    let top := ((s.lifeEntry i.cid).map LifeEntry.maxRpmb).getD 0
    if !signed || c.cid != i.cid then 2 else if c.counter = i.rpmbCounter ∧ top ≤ c.counter then 1 else 3

/-- The signature of an identified cartridge's catalogue is verified on lanes; whether it is accepted (R259, R404). -/
def State.decideCatalogue (s : State) (i : CartIdent) (verdicts : Nat) : Bool × State :=
  match readCat i with
  | none => (false, s)
  | some c => s.verdict 0x04 (s.catalogueSigned c) (verdictCode verdicts 0)

/-- The cartridge of slot k has been identified: its catalogue, its life bytes, and the commands that waited. -/
def State.identified (s : State) (k : Nat) (i : CartIdent) (verdicts : Nat) : State :=
  let old := (s.cart k).cid
  let changed := decide (old ≠ [] ∧ old ≠ i.cid)
  let s := if changed then
      let s := (s.dropReaders k).recheckCarts k
      { s with cby := { s.cby with removedHit := true, insertedHit := true } }
    else s
  let (signed, s) := s.decideCatalogue i verdicts
  let cat := s.judgeCatalogue i signed
  let h := i.catalogue.take 512
  let s := s.seenCid i.cid
  let s := s.updLife i.cid (fun e => { e with maxRpmb := max e.maxRpmb i.rpmbCounter, lastSeen := s.emb.opSeconds,
                                              insertions := if old = i.cid then e.insertions else satAdd 16 e.insertions 1 })
  let s := s.updCart k (fun x => { x with
    state := .ready, checked := true, cid := i.cid, catalogue := cat, entries := ((readCat i).map Catalogue.entries).getD [],
                                   raw := if cartHeaderOk h then slice i.catalogue 512 (fld h 12 4) else [], rpmb := i.rpmbCounter, capacity := i.sectors,
                                   guardMs := max 10 (2 * i.sleepMs), lastUsed := s.now, identAt := s.now, reacquire := none, retries := 0 })
  let s := { s with cby := { s.cby with clockMhz := 52 } }.readLife k i.preEol i.lifeA i.lifeB
  (s.answerCart k (ok (le 1 (s.cartCode k)))).startIdentify

/-- OCR_POLL (R398): CMD1 every 10 ms for at most 1 s; a cartridge that is ready goes through the other steps. -/
def execOcrPoll (slot : Nat) (ready : Bool) (ident : CartIdent) (s : State) (verdicts : Nat := 0) : Res :=
  let x := s.cart slot
  if 4 ≤ slot ∨ !s.boot.pwrOk ∨ x.state != .identifying ∨ s.now < x.ocrSince ∨ (x.ocrSince ≤ x.lastPoll ∧ s.now < x.lastPoll + 10000) then .next s
  else if ready then
    let good := s.identGood ident
    .next (ownRow s fun s => (if good then s.useD0.drawn.identified slot ident verdicts else s.useD0.drawn.cartFailed slot).settleAll)
  else if x.ocrSince + 1000000 ≤ s.now then .next (s.cartFailed slot).settleAll
  else
    let s := s.updCart slot (fun x => { x with lastPoll := s.now })
    .next { s with cby := { s.cby with clockMhz := 0 } }

/-! ### Transfers, sleep and life (R399 to R401, R409) -/

/-- The operation that a transfer of cartridge slot k serves, and the block: the one of the lowest position that has blocks to
read there (log entry 125). -/
def State.reader (s : State) (k : Nat) : Option (Nat × Nat) :=
  let os := s.rfu.ops.filter (fun o => decide (o.source = 0 ∧ o.cartSlot = k) && s.staging o)
  (([0, 1, 2, 3] : List Nat).findSome? (fun p => os.find? (fun o => o.position == some p))).bind
    (fun o => (s.toStage o).head?.map (fun i => (o.device, i)))

/-- CARTRIDGE_TRANSFER_DONE (R399): a failure is retried at most three times, and then counted; it ends with a read error to the
operation that read (R386). -/
def execCartridgeTransferDone (slot : Nat) (good : Bool) (s : State) : Res :=
  let x := s.cart slot
  if 4 ≤ slot ∨ !s.boot.pwrOk ∨ !(x.usable || x.state == .identifying) then .next s
  else if good then .next (s.updCart slot (fun x => { x with retries := 0, lastUsed := s.now }))
  else if x.retries < 3 then .next (s.updCart slot (fun x => { x with retries := x.retries + 1, lastUsed := s.now }))
  else
    let s := s.updCart slot (fun x => { x with retries := 0, lastUsed := s.now })
    let s := { s with cby := { s.cby with errorHit := true, crcErrors := satAdd 32 s.cby.crcErrors 1 } }
    let s := s.updLife x.cid (fun e => { e with crcErrors := satAdd 16 e.crcErrors 1 })
    .next (if x.state == .identifying then (s.cartFailed slot).settleAll
      else match s.reader slot with
        | some (d, i) => (s.readError d i).settleAll
        | none => s)

/-- CARTRIDGE_SLEEP (R400). -/
def execCartridgeSleep (slot : Nat) (s : State) : Res :=
  if slot < 4 ∧ s.boot.pwrOk ∧ (s.cart slot).state == .ready ∧ (s.cart slot).lastUsed + 2000000 ≤ s.now then
    .next (s.updCart slot (fun x => { x with state := .asleep, reacquire := none, checked := false }))
  else .next s

/-- The cartridge of slot k is power-cycled to be identified again. -/
def State.cycleCart (s : State) (k : Nat) : State :=
  (s.updCart k (fun x => { x with state := .empty, powered := false, reacquire := none, catalogue := 0, entries := [], raw := [] })).startIdentify

/-- CARTRIDGE_REACQUIRE (R400, R401): the answer to CMD13 after a wake or a removal elsewhere, and the CID that CMD10 returns. One
that differs from the CID recorded at identification is a removal and an insertion. -/
def execCartridgeReacquire (slot : Nat) (ready : Bool) (s : State) (cid : Bytes := []) : Res :=
  let x := s.cart slot
  if 4 ≤ slot ∨ !s.boot.pwrOk ∨ !x.usable then .next s
  else if ready then
    if cid = x.cid then .next ((s.useCart slot 0).updCart slot (fun x => { x with reacquire := none, reidentified := false, checked := true }))
    else
      let s := (s.removeCart slot).updCart slot (fun x => { x with present := true, detLow := true, detSince := s.now })
      .next { s with cby := { s.cby with insertedHit := true } }.startIdentify.settleAll
  else match x.reacquire with
    | none => .next (s.updCart slot (fun x => { x with reacquire := some s.now }))
    | some t =>
      if s.now < t + 3000 * x.guardMs then .next s
      else
        let s := s.dropReaders slot
        if x.reidentified then .next (s.cartFailed slot).settleAll
        else .next ((s.updCart slot (fun x => { x with reidentified := true })).cycleCart slot).settleAll

/-- CARTRIDGE_LIFE_READ (R409). -/
def execCartridgeLifeRead (slot preEol lifeA lifeB : Nat) (s : State) : Res :=
  if slot < 4 ∧ s.boot.pwrOk ∧ (s.cart slot).answers ∧ (s.cart slot).lastLifeRead + 86400 ≤ s.emb.opSeconds then
    .next ((s.useCart slot 0).readLife slot preEol lifeA lifeB)
  else .next s

/-! ### Commands (Table 11-18, R411) -/

/-- CART_STATUS. -/
def execCartStatus (h : Hdr) (hostAddr : Nat) (s : State) : Res :=
  .next (commandR (opCartStatus.on (le 8 hostAddr)) h (s.writeAddrOk h hostAddr) s fun _ t =>
    okOut hostAddr ((List.range 4).flatMap (fun k =>
      let x := t.cart k
      le 4 (t.cartWord k) ++ le 2 (if x.usable then 0x10 + k else 0) ++ zeros 2 ++ fixLen 16 x.cid ++ le 4 x.rpmb ++ le 4 x.capacity ++
      le 1 x.entries.length ++ zeros 31)))

/-- CART_CATALOGUE. -/
def execCartCatalogue (h : Hdr) (slot outSize hostAddr : Nat) (s : State) : Res :=
  .next (commandR (opCartCatalogue.on (le 1 slot ++ zeros 3 ++ le 4 outSize ++ le 8 hostAddr)) h (decide (slot < 4) && s.writeAddrOk h hostAddr) s fun _ t =>
    let x := t.cart slot
    if outSize < x.raw.length then err 0x0370
    else if !x.present then err 0x04A2
    else okOut hostAddr x.raw (le 4 x.raw.length))

/-- CART_LIFE. -/
def execCartLife (h : Hdr) (hostAddr : Nat) (s : State) : Res :=
  .next (commandR (opCartLife.on (le 8 hostAddr)) h (s.writeAddrOk h hostAddr) s fun _ t =>
    okOut hostAddr (fixLen 4096 (t.cby.lifeTable.flatMap LifeEntry.bytes)) (le 1 t.cby.lifeTable.length))

/-- CART_EJECT. -/
def execCartEject (h : Hdr) (slot : Nat) (s : State) : Res :=
  .next (commandC (opCartEject.on (le 1 slot)) h (decide (slot < 4)) s fun _ t =>
    if !(t.cart slot).present then (err 0x04A2, t)
    else if t.cartInUse slot then (err 0x04A3, t)
    else
      let t := t.updCart slot (fun x => { x with state := .ejected, powered := false, reacquire := none, catalogue := 0, entries := [], raw := [] })
      (ok, (t.answerCart slot (ok (le 1 6))).startIdentify))

/-- CART_RESCAN: it ends when the identification does. -/
def execCartRescan (h : Hdr) (slot : Nat) (s : State) : Res :=
  .next (command (opCartRescan.on (le 1 slot)) h (decide (slot < 4)) s fun h t =>
    if !(t.cart slot).present then (some (err 0x04A2), t)
    else if t.cartInUse slot then (some (err 0x04A3), t)
    else (none, (t.updCart slot (fun x => { x with waiters := x.waiters ++ [h], reidentified := false })).cycleCart slot))

end Sys2Proof.Machine
end

