-- ==== Sys2Proof/Machine/Scans.lean ====
section
/-! DEFINITION. Chapter 6: device scans, the events that FIT applies, flash state records and the wear ring. -/
namespace Sys2Proof.Machine

/-! ### Scans (R145 to R147, R227 to R230, R559) -/

/-- The port's sequencer drives the flash side as in OWN. -/
def State.drivesOwn (s : State) (p : Nat) : Bool :=
  (s.port p).mode == .own || ((s.port p).mode == .frozen && !s.portReleased p)

/-- The port's mode lets a scan begin (Table 6-5, R149, R559). -/
def State.scanAllowed (s : State) (x : Scan) : Bool :=
  let p := x.device / 2
  let sh := s.shadow x.device
  if 4 ≤ s.spn.capStep ∧ !x.kind.urgent then false
  else match (s.port p).mode with
  | .own => !s.portReleased p || (x.kind.urgent && s.waitOver p x.askedAt)
  | .gap => s.inWindow p && (x.kind == .remeasure || x.kind == .refresh || x.kind == .verify) && sh.busy == .none && sh.susp == .none &&
      !sh.resync && s.fitsWindow x.device (s.scanOpcode x.device)
  | .pass => false
  | .frozen => !s.portReleased p ||
      (s.inWindow p && sh.busy == .none && sh.susp == .none && s.fitsWindow x.device (s.scanOpcode x.device))

/-- A scan of device d may begin on its port: nothing of the port runs, and CS0 goes first, its recovery before that of CS1
(R228, R374). -/
def State.scanTurn (s : State) (x : Scan) : Bool :=
  let p := x.device / 2
  !s.workRuns p && !(x.device % 2 == 1 && x.kind == .remeasure && (s.rfuOp (x.device - 1)).isSome) &&
  !(x.device % 2 == 1 && s.fit.scans.any (fun y => y.device == x.device - 1 && y.kind.urgent == x.kind.urgent && s.scanAllowed y))

/-- The scan of device d that begins next: rung 3 before background. -/
def State.nextScan (s : State) (d : Nat) : Option Scan :=
  let can := s.fit.scans.filter (fun x => x.device == d && !x.running && s.scanAllowed x && s.scanTurn x)
  match can.find? (fun x => x.kind.urgent) with
  | some x => some x
  | none => can.head?

/-- s with the scan of a kind and device changed by f. -/
def State.updScan (s : State) (x : Scan) (f : Scan → Scan) : State :=
  { s with fit := { s.fit with scans := s.fit.scans.map (fun y => if y.kind = x.kind ∧ y.device = x.device then f y else y) } }

/-- Where a scan's yield to the power cap is logged: its device, one party for each kind. -/
def Scan.yieldTag (x : Scan) : Nat := if x.kind == .refresh then 1 else 2

/-- The scan of a kind and device leaves the list, and the commands that wait for it end with its counts: with
PRECEDENCE_YIELD and the winning rung where the power cap had paused it (R42). -/
def State.dropScan (s : State) (x : Scan) : State :=
  let s := { s with fit := { s.fit with scans := s.fit.scans.filter (fun y => !decide (y.kind = x.kind ∧ y.device = x.device)) } }
  let s := if x.yielded then s.yieldEnd .forge 2 x.device x.yieldTag else s
  let r := ok (le 2 x.blocksRead ++ le 2 x.mismatches)
  completeAll x.waiters (if x.yielded then { r with status := 0x0801, rung := 3 } else r) s

/-- The background scans that step 4 of Table 16-8 holds off yield to the cap, at rung 3 over rung 5: one that a command asked
for says so in its completion (R42), and any other is also reported to the queue groups (R43). -/
def State.pauseForCap (s : State) : State :=
  let bg := s.fit.scans.filter (fun x => !x.kind.urgent)
  if s.spn.capStep < 4 then bg.foldl (fun t x => t.yieldEnd .forge 2 x.device x.yieldTag) s
  else (bg.filter (fun x => !s.spn.yields.any (fun y => decide (y.cls = 2 ∧ y.idx = x.device ∧ y.tag = x.yieldTag)))).foldl (fun t x =>
    let t := t.updScan x (fun y => { y with yielded := true, running := false, entryAt := none, resetAt := none })
    let t := t.startYield .forge 3 5 2 x.device x.yieldTag
    if x.waiters.isEmpty then t.tellManagers 0x0F01 3 7 x.device else t) s

/-- The result of the SFDP check (R146, R147). -/
def sfdpResult (b : Bank) (jedec sfdp : Bytes) : Sfdp :=
  let id := slice jedec 0 3
  if allZero id || id.all (· == 0xFF) then .noResponse
  else if id == slice b.profile 0 3 && (b.profileFlags.testBit 0 || sha256 (slice sfdp 0 256) == slice b.profile 0x40 32) then .matches
  else .mismatch

/-- REMEASURE has ended: a match commits, a mismatch ends the attempt (R389). -/
def State.judgeRemeasure (s : State) (d : Nat) : State :=
  match s.rfuOp d with
  | some o =>
    if o.phase != .remeasure then s
    else if o.stopping then s.endOp d .aborted
    else if (s.flashRec d).checkMatch then s.commitOp d
    else s.failAttempt d
  | none => s

/-- A scan ends (R228): the flash state record is current, the devices that the port drove are reset, and the result is
judged. -/
def State.endScan (s : State) (x : Scan) : State :=
  let d := x.device
  let s := (s.dropScan x).updateRecord d
  let s := if s.drivesOwn (d / 2) then s.ownReset (d / 2) [d] else s
  let s := if x.kind == .remeasure then s.judgeRemeasure d else s
  let s : State := match s.deviceSlot d with
    | some n => if x.kind == .start || x.kind == .check then s.judgeSlot n else s
    | none => s
  s.settleAll

/-- The SFDP check of device d failed before a scan: its slot is QUARANTINED from CHECKING, and its operation fails
(R147, R376). The port resets the device, unless other work of the port goes on, whose end will (R129). -/
def State.wrongPart (s : State) (x : Scan) : State :=
  let s := s.dropScan x
  let s := if s.drivesOwn (x.device / 2) && !s.urgentWork (x.device / 2) then s.ownReset (x.device / 2) [x.device] else s
  let s : State := match s.deviceSlot x.device with
    | some n =>
      if (s.slot n).state != .checking then s
      else if s.boot.controlUp then s.quarantine n .rootMismatch
      else { s with strs := { s.strs with latched := s.strs.latched ++ [.wrongPart n] } }
    | none => s
  let s := if x.kind == .remeasure then s.failOp x.device else s
  s.settleAll

/-- F_RESET# of port p is released for its START scans, and the recovery time begins (R145). -/
def State.releaseReset (s : State) (p : Nat) : State :=
  let b := (s.port p).bank
  let s := s.updPort p (fun x => { x with dev0 := x.dev0.reset b, dev1 := x.dev1.reset b, resetLow := false })
  { s with fit := { s.fit with scans := s.fit.scans.map (fun y =>
      if y.kind = .start ∧ y.device / 2 = p then { y with resetAt := some (s.now + b.recoveryUs) } else y) } }

/-- The reset with which a scan of device d begins in OWN is made, and its recovery time begins: the release of F_RESET# for the
START scans of the port, and the reset of R129 for every later one (R145, R228). -/
def State.beginReset (s : State) (x : Scan) : State :=
  let p := x.device / 2
  if x.kind == .start && (s.port p).resetLow then s.releaseReset p
  else
    let b := (s.port p).bank
    let wait := if s.portReleased p then b.recoveryUs else b.pulseUs + b.recoveryUs
    (s.updScan x (fun y => { y with resetAt := some (s.now + wait) })).ownReset p [x.device]

/-- A scan whose device has been checked begins: the entry step of R228 is sent where the port is in OWN and the device record
gives one. -/
def State.beginScan (s : State) (x : Scan) : State :=
  let waits := fld (s.deviceRec x.device) 4 1 != 0 && (s.port (x.device / 2)).mode == .own
  (if waits then s.enterScanMode x.device else s).updScan x
    (fun y => { y with running := true, resetAt := none, entryAt := if waits then some s.now else none })

/-- The START scans of port p, whose identification and SFDP reads all come before the first of them reads blocks (R145). -/
def State.startScans (s : State) (p : Nat) : List Scan := s.fit.scans.filter (fun y => y.kind == .start && y.device / 2 == p)

/-- The first START scan of port p begins once every one of them has been checked. -/
def State.beginStarts (s : State) (p : Nat) : State :=
  let l := s.startScans p
  if l.any (fun y => !y.identified) || s.workRuns p then s
  else match l.find? (fun y => y.device % 2 == 0 || l.length == 1) with
    | some y => s.beginScan y
    | none => s

/-- The identification and SFDP reads of a scan have come back (R145 to R147): a part that is not the profile's ends it;
otherwise the scan begins, a START scan once the port's other device has been checked too. -/
def State.scanIdentified (s : State) (x : Scan) (jedec sfdp : Bytes) : State :=
  let d := x.device
  let b := (s.port (d / 2)).bank
  let r := sfdpResult b jedec sfdp
  let s := (s.updShadow d (fun y => { y with sfdp := r })).sendFlash (identXfers d b.resetIface)
  if r != .matches then (s.wrongPart x).beginStarts (d / 2)
  else if x.kind == .start then (s.updScan x (fun y => { y with identified := true })).beginStarts (d / 2)
  else s.beginScan x

/-- The START scan of device d whose identification and SFDP reads come next, on a port that is driven as in OWN: CS0's first. -/
def State.nextIdent (s : State) (d : Nat) : Option Scan :=
  if !s.drivesOwn (d / 2) || s.workRuns (d / 2) then none
  else (s.fit.scans.find? (fun x => x.kind == .start && x.device == d && !x.identified && s.scanAllowed x)).filter
    (fun _ => !(d % 2 == 1 && (s.startScans (d / 2)).any (fun y => y.device == d - 1 && !y.identified)))

/-- A scan that is due makes its reset, or takes what the identification and SFDP reads returned once the recovery time is over
and a software reset is confirmed. -/
def State.identStep (s : State) (x : Scan) (jedec sfdp : Bytes) : State :=
  match x.resetAt with
  | none => s.beginReset x
  | some t => if s.now < t || (s.shadow x.device).confirm then s else s.scanIdentified x jedec sfdp

/-- DEVICE_SCAN_START (R145, R146, R228, R229, R559). In OWN its first run makes the reset, and one after the recovery time,
and after the status read that confirms a software reset, takes what the identification and SFDP reads returned. A START scan
that has been checked begins when its turn comes. A scan whose device that reset left in RESYNC ends with no block read.
disagree says that the decoders disagree on the port's own traffic (R132). -/
def execDeviceScanStart (device : Nat) (jedec sfdp : Bytes) (s : State) (disagree : Bool := false) : Res :=
  let p := device / 2
  if !s.boot.guardUp || 32 ≤ device || ((s.port p).swapPending && (s.port p).mode == .own) || (s.port p).pulseUntil.isSome then .next s
  else match s.nextIdent device, s.nextScan device with
    | some x, _ => if disagree then .next (s.ownDisagreement p 0x9F).settleAll else .next (s.identStep x jedec sfdp)
    | none, none => .next s
    | none, some x =>
      if disagree then .next (s.ownDisagreement p (if s.drivesOwn p && !x.identified then 0x9F else s.scanOpcode device)).settleAll
      else if !s.drivesOwn p then .next (s.updScan x (fun y => { y with running := true, entryAt := none }))
      else if x.kind != .start then .next (s.identStep x jedec sfdp)
      else if x.identified then .next (s.beginScan x)
      else .next s

/-- The blocks that a scan has still to read (Table 6-5, R389), in the order in which it reads them: ascending where the port
drives the flash as in OWN, and otherwise the STALE ones, the UNKNOWN ones, and then the rest (R229). -/
def State.scanBlocks (s : State) (x : Scan) : List Nat :=
  let all := List.range (s.deviceBlocks x.device)
  let range := if x.count = 0 then all else all.filter (fun i => decide (x.first ≤ i ∧ i < x.first + x.count))
  let inState (st : LeafState) (l : List Nat) : List Nat := l.filter (fun i => (s.leaf x.device i).state == st)
  let known (l : List Nat) : List Nat := l.filter (fun i => (s.leaf x.device i).state != .stale && (s.leaf x.device i).state != .unknown)
  let left :=
    if x.kind == .start || x.kind == .verify || x.whole then range.filter (fun i => !x.done.contains i)
    else range.filter (fun i => (s.leaf x.device i).state == .stale || (s.leaf x.device i).state == .unknown)
  if s.drivesOwn (x.device / 2) then left else inState .stale left ++ inState .unknown left ++ known left

/-- One block that a scan read. -/
def State.scanBlock (s : State) (x : Scan) (i : Nat) (data : Bytes) : State × Scan :=
  let v := leafOf (fixLen 65536 data)
  let bad := ((s.leaf x.device i).completed v).2
  (s.applyCompletion x.device i v, { x with done := x.done ++ [i], blocksRead := x.blocksRead + 1, mismatches := x.mismatches + b2n bad })

/-- The blocks of a scan that were read: each is the one that its order puts next. -/
def State.scanRead (s : State) (x : Scan) : List (Nat × Bytes) → State × Scan
  | [] => (s, x)
  | (i, b) :: rest =>
    if (s.scanBlocks x).head? = some i then
      let r := s.scanBlock x i b
      r.1.scanRead r.2 rest
    else s.scanRead x rest

/-- A running scan has a lane: a stream of rung 3 the dedicated one that serves it, a background scan a shared one. One that
has none paces its port (R205, R206). -/
def State.scanServed (s : State) (x : Scan) : Bool := if x.kind.urgent then (s.streamLane x.device).isSome else s.sharesLane

/-- The read transactions that a scan's blocks came in: runs of consecutive blocks in OWN, and one block each in windows. -/
def State.scanXfers (s : State) (x : Scan) (blocks : List Nat) : List FlashXfer :=
  (if s.drivesOwn (x.device / 2) then runsOf blocks else blocks.map (fun i => (i, 1))).map (fun r => s.scanXfer x.device r.1 r.2)

/-- DEVICE_SCAN_END (R228 to R230): the leaves take the values read; the scan ends when none of its blocks is left, and
goes on otherwise, inside a window only while the next block read fits in what is left of it (R149). disagree says that the
decoders disagree on the read (R132). -/
def execDeviceScanEnd (device : Nat) (read : List (Nat × Bytes)) (s : State) (disagree : Bool := false) : Res :=
  match s.fit.scans.find? (fun x => x.device == device && x.running) with
  | none => .next s
  | some x =>
    if x.entryAt.isSome || !s.scanServed x then .next s
    else if disagree then .next (s.ownDisagreement (device / 2) (s.scanOpcode device)).settleAll
    else
      let r := (s.flushFit device).scanRead x read
      let new := r.2.done.drop x.done.length
      let t := (r.1.updPort (device / 2) (fun p => { p with window := p.window.map (fun w =>
        { w with operations := w.operations + new.length }) })).sendFlash (s.scanXfers x new)
      if (t.scanBlocks r.2).isEmpty then .next (t.endScan r.2).drainTaps
      else .next (t.updScan x (fun _ => { r.2 with running := t.drivesOwn (device / 2) || t.fitsWindow device (t.scanOpcode device) }))

/-- REFRESH_REQUEST (R230). -/
def execRefreshRequest (device : Nat) (s : State) : Res :=
  let r := s.flashRec device
  let iv := fld (s.deviceRec device) 12 4
  if s.boot.forgeUp && s.deviceValid device && iv != 0 && r.staleCount != 0 && decide (r.oldestStale + iv * 1000000 < s.now) then
    .next ((s.queueScan { kind := .refresh, device := device }).pauseForCap.planPort (device / 2))
  else .next s

/-- VERIFY_REQUEST (R230). -/
def execVerifyRequest (device : Nat) (s : State) : Res :=
  let iv := fld (s.deviceRec device) 16 4
  if s.boot.forgeUp && s.deviceValid device && iv != 0 && decide (s.fit.verifyAt.get device 0 + iv ≤ s.emb.opSeconds) then
    let s := { s with fit := { s.fit with verifyAt := s.fit.verifyAt.set device 0 s.emb.opSeconds } }
    .next ((s.queueScan { kind := .verify, device := device }).pauseForCap.planPort (device / 2))
  else .next s

/-! ### FIT (R220 to R222, R232, R240) -/

/-- FIT_LEAF_EVENT (R222): the oldest event is applied, after the lanes have taken what the taps hold. -/
def execFitLeafEvent (s : State) : Res :=
  let s := s.drainTaps
  match s.fit.events with
  | e :: rest => .next (({ s with fit := { s.fit with events := rest } }).applyFit e)
  | [] => .next s

/-- FLASH_STATE_RECORD_UPDATE (R232). -/
def execFlashStateRecordUpdate (device : Nat) (s : State) : Res :=
  if s.fit.dirty.any (fun e => e.1 == device) then .next (s.updateRecord device).settle else .next s

/-- WEAR_DAILY_RECORD (R240). -/
def execWearDailyRecord (s : State) : Res :=
  if s.boot.forgeUp ∧ s.fit.lastDaily + 86400 ≤ s.emb.opSeconds then
    let ds := (List.range 32).filter (fun d => (s.deviceSlot d).isSome)
    let rings := ds.foldl (fun r d => r.ins d (((s.emb.opSeconds, (s.wearMax d).1) :: r.get d []).take 32)) s.fit.rings
    .next { s with fit := { s.fit with rings := rings, lastDaily := s.emb.opSeconds } }
  else .next s

end Sys2Proof.Machine
end

