-- ==== Sys2Proof/Machine/Reforge.lean ====
section
/-! DEFINITION. Chapter 11: positions, the search for a source, staging, the writing of blocks, and the recovery
commands. -/
namespace Sys2Proof.Machine

/-! ### SEARCH (R374, R382, R383, R394, R406) -/

/-- DATA_OFFSET of a manifest's length (R379). -/
def dataOffset (len : Nat) : Nat := len + padTo 65536 len

/-- An operation has found its source and waits for its port. -/
def State.chooseSource (s : State) (d source cartSlot hostBase : Nat) (x : RawManifest) : State :=
  s.updOp d (fun o => { o with phase := .waitPort, portSince := if o.needsPort then o.portSince else s.now,
                               source := source, cartSlot := cartSlot, hostBase := hostBase, manifest := some x.man,
                               staged := if x.man.digest == o.wantDigest then o.staged else [],
                               resume := o.resume && x.man.digest == o.wantDigest, wantDigest := [], anySource := false, reread := none })

/-- The entries of a cartridge that serve device d, in descending SVN. -/
def State.cartEntries (s : State) (d k : Nat) : List CatEntry :=
  ((s.cart k).entries.filter (fun e => e.kind == 3 && e.imageId == slice (s.imageRec d) 0 16)).mergeSort (fun a b => decide (b.svn ≤ a.svn))

/-- The cartridge sources of device d in the order of R383. -/
def State.cartSources (s : State) (d : Nat) : List (Nat × CatEntry) :=
  let valid := (List.range 4).filter (fun k => (s.cart k).usable && (s.cart k).catalogue == 1)
  (valid.filter (fun k => (s.cart k).life != 2) ++ valid.filter (fun k => (s.cart k).life == 2)).flatMap
    (fun k => (s.cartEntries d k).map (fun e => (k, e)))

/-- Cartridge sources are tried one after the other: the first whose manifest passes R382 is chosen, and each other one
is skipped. A cartridge that has not answered CMD13 and CMD10 since it was last asleep or another was removed gives no manifest
(R400). Each manifest's signatures take four bits of the verdicts. The second part says whether one was found. -/
def State.trySources (s : State) (d : Nat) (manifests : List (Nat × Bytes)) : Nat → List (Nat × CatEntry) → State × Bool
  | _, [] => (s, false)
  | verdicts, (k, e) :: rest =>
    let n := ((s.rfuOp d).map RfuOp.slot).getD 0
    match manifests.find? (fun m => m.1 == k && sha384 m.2 == e.digest && (s.cart k).checked) with
    | none => (s.skipSource d 0x0584).trySources d manifests verdicts rest
    | some m =>
      let s := s.useCart k m.2.length
      match s.judgeManifest n d m.2 verdicts with
      | ((_, some x), t) => (t.chooseSource d 0 k (512 * e.startLba + dataOffset x.len) x, true)
      | ((st, none), t) => (t.skipSource d st).trySources d manifests (verdicts / 16) rest

/-- The operation of device d waits for a host or UART0 source (R383). -/
def State.wantSource (s : State) (d : Nat) : State :=
  let s := s.updOp d (fun o => { o with phase := .waitSource, waitSince := s.now })
  let s := s.log .control 0x0602 3 2 d
  s.tellManagers 0x0602 3 7 d

/-- The rest of R383 when no cartridge serves: a host or UART0 source, or failure (R376). -/
def State.searchHost (s : State) (d n : Nat) : State :=
  if s.recoveryFlags n / 8 % 4 ≠ 0 then s.wantSource d else s.failOp d

/-- The search of device d for its source. -/
def State.search (s : State) (d : Nat) (manifests : List (Nat × Bytes)) (verdicts : Nat) : State :=
  match s.rfuOp d with
  | none => s
  | some o =>
    let carts := if (s.recoveryFlags o.slot).testBit 2 then
        (s.cartSources d).filter (fun e => !o.skipped.contains ((s.cart e.1).cid, e.2.digest)) else []
    if o.wantDigest.isEmpty then
      let r := s.trySources d manifests verdicts carts
      if r.2 then r.1 else r.1.searchHost d o.slot
    else if o.anySource then
      let r := s.trySources d manifests verdicts carts
      if r.2 then r.1 else r.1.searchHost d o.slot
    else if (s.journal d).source = 0 ∨ !(s.journal d).open_ then
      let r := s.trySources d manifests verdicts (carts.filter (fun e => e.2.digest == o.wantDigest))
      if r.2 then r.1 else r.1.updOp d (fun o => { o with waitSince := if o.waitSince = 0 then s.now else o.waitSince })
    else s.wantSource d

/-- The first position of the four that no operation holds (R374). -/
def State.freePosition (s : State) : Option Nat :=
  (List.range 4).find? (fun p => !s.rfu.ops.any (fun o => o.position == some p))

/-- The operation whose turn for a position it is: ascending slot, then ascending device. -/
def State.nextOp (s : State) : Option RfuOp :=
  (s.rfu.ops.filter (fun o => o.phase == .idle)).foldl (fun (a : Option RfuOp) o => match a with
    | some b => if o.slot < b.slot ∨ (o.slot = b.slot ∧ o.device < b.device) then some o else a
    | none => some o) none

/-- An operation takes a position, and takes up its journal record (R394, R395): an OPEN record goes on with the same
manifest; a REMEASURE record goes on after a Control Region restart, and counts its attempt as failed at a device start. -/
def State.beginOp (s : State) (d position : Nat) (manifests : List (Nat × Bytes)) (verdicts : Nat) : State :=
  match s.rfuOp d with
  | none => s
  | some o =>
    let j := s.journal d
    let s := s.updOp d (fun o => { o with position := some position, phase := .search, attempt := if j.open_ then j.attempt else 0,
                                          full := if j.open_ then j.full else o.full })
    if j.state == .opened then
      (s.updOp d (fun o => { o with resume := true, wantDigest := j.manifestDigest })).search d manifests verdicts
    else if j.state == .remeasure then
      if o.resume then
        let s := s.updOp d (fun o => { o with phase := .remeasure, portSince := s.now, resume := false })
        s.queueScan { kind := .remeasure, device := d, whole := j.full || (s.recoveryFlags o.slot).testBit 1 }
      else if s.maxAttempts o.slot ≤ j.attempt then s.failOp d
      else s.search d manifests verdicts
    else s.search d manifests verdicts

/-- OPERATION_POSITION_GRANT (R374, R383): an operation takes a position, or one in SEARCH reads the cartridges again. -/
def execOperationPositionGrant (device : Nat) (manifests : List (Nat × Bytes)) (s : State) (verdicts : Nat := 0) : Res :=
  match s.rfuOp device with
  | none => .next s
  | some o =>
    if !s.boot.controlUp then .next s
    else if o.phase == .search then .next (ownRow s fun s => (s.search device manifests verdicts).settleAll)
    else match s.nextOp, s.freePosition with
      | some x, some p =>
        if x.device = device ∧ o.phase == .idle then .next (ownRow s fun s => (s.beginOp device p manifests verdicts).settleAll) else .next s
      | _, _ => .next s

/-- After a Control Region restart each device of a RECOVERING slot has its operation again (R394). -/
def State.resumeOps (s : State) : State :=
  let ns := (List.range 256).filter (fun n => (s.slot n).state == .recovering)
  let ops := ns.flatMap (fun n => (s.slotDevices n).map (fun d =>
    let j := s.journal d
    ({ device := d, slot := n, full := j.open_ && j.full, resume := j.open_ } : RfuOp)))
  { s with rfu := { s.rfu with ops := ops } }

/-- SOURCE_WAIT_TIMEOUT (R376, R383). -/
def execSourceWaitTimeout (device : Nat) (s : State) : Res :=
  match s.rfuOp device with
  | some o =>
    if o.phase == .waitSource ∧ s.boot.controlUp ∧ o.waitSince + s.sourceWait ≤ s.now then .next (s.failOp device).settleAll else .next s
  | none => .next s

/-- CARTRIDGE_WAIT_TIMEOUT (R406): the rest of R383 begins, and what is staged and verified is still written meanwhile. -/
def execCartridgeWaitTimeout (device : Nat) (s : State) : Res :=
  match s.rfuOp device with
  | some o =>
    if o.phase == .search ∧ !o.wantDigest.isEmpty ∧ !o.anySource ∧ s.boot.controlUp ∧ o.waitSince + s.cartWait ≤ s.now then
      .next (s.updOp device (fun o => { o with anySource := true, waitSince := 0 }))
    else .next s
  | none => .next s

/-! ### Staging (R386) -/

/-- The byte address of stored block i in an operation's source: DATA_OFFSET and 64 KiB for each stored block below it (R379). -/
def RfuOp.blockAddr (o : RfuOp) (m : Manifest) (i : Nat) : Nat := o.hostBase + 65536 * ((List.range i).filter m.stored).length

/-- BLOCK_STAGED (R379, R384, R386): a stored block has been read from a cartridge that answers, or from host memory, at its
address there; a Bellows lane computes its leaf. Data that is not one block long is a read error. disagree says that the
decoders disagree on what the operation then sends (R132). -/
def execBlockStaged (device block : Nat) (data : Bytes) (s : State) (disagree : Bool := false) : Res :=
  match s.rfuOp device with
  | none => .next s
  | some o =>
    match o.manifest with
    | none => .next s
    | some m =>
      if !s.boot.controlUp ∨ !s.staging o ∨ o.source = 2 ∨ !(s.toStage o).contains block ∨ s.stageRoom = 0 ∨
          (s.streamLane device).isNone ∨ (o.source = 0 ∧ !(s.cart o.cartSlot).answers) then .next s
      else
        let s := { s with io := { s.io with stagedFrom := some (if o.source = 0 then o.cartSlot else 4, o.blockAddr m block) } }
        let s := if o.source = 0 then s.useCart o.cartSlot data.length else s
        if data.length = 65536 ∧ leafOf data = m.leafAt block then .next ((s.stage device block data).settleCut disagree)
        else .next (s.readError device block).settleAll

/-! ### Writing (R388, R393) -/

/-- BLOCK_DONE_MARK (R393). disagree says that the decoders disagree on what is sent next (R132). -/
def execBlockDoneMark (device : Nat) (s : State) (disagree : Bool := false) : Res :=
  match s.rfuOp device with
  | none => .next s
  | some o =>
    match o.writing with
    | none => .next s
    | some i =>
      if !o.blockDone || !s.boot.controlUp then .next s
      else
        let s := s.updJournal device (fun j => { j with done := j.set.filter (fun x => j.done.contains x || x == i), doneCount := j.doneCount + 1 })
        let s := { s with rfu := { s.rfu with blocksWritten := satAdd 32 s.rfu.blocksWritten 1 } }
        let s := s.updOp device (fun o => { o with writing := none, pages := 0, blockDone := false, staged := o.staged.filter (fun x => x.block != i) })
        let s := if o.stopping then s.endOp device .aborted else s
        .next (s.settleCut disagree)

/-- Write-in-progress of a status byte of port p. -/
def State.wip (s : State) (p status : Nat) : Bool := status.testBit (fld (s.port p).bank.profile 0x0C 1)

/-- A status read returned a valid status: a byte. A row gives a larger number for one that did not (log entry 87). -/
def statusValid (status : Nat) : Bool := decide (status < 256)

/-- The time allowed for an opcode of port p, in µs. -/
def State.opcodeTime (s : State) (p opcode : Nat) : Nat := (s.port p).bank.maxTime ((s.port p).bank.entry opcode).time

/-- An operation sent inside a window counts in it. -/
def State.countOperation (s : State) (p : Nat) : State :=
  s.updPort p (fun x => { x with window := x.window.map (fun w => if w.isOpen then { w with operations := w.operations + 1 } else w) })

/-- The erase or program of device d in progress has ended: the next one may be sent (R388). -/
def State.writeCompleted (s : State) (d : Nat) : State :=
  (s.updOp d (fun o => { o with sentAt := none })).countOperation (d / 2)

/-- What a status read of the port itself does to the shadow of device d (R136): its status bits, and the 4-byte-mode bit where
the profile has it in the status register. -/
def State.shadowStatus (s : State) (d status : Nat) : State :=
  let b := (s.port (d / 2)).bank
  let r := (s.shadow d).takeStatus b status
  let s := s.updShadow d (fun _ => r.1)
  let s := if r.2.1 then s.updPort (d / 2) (fun x => { x with welAdopt := min (x.welAdopt + 1) 255 }) else s
  if r.2.2 ≠ 0 then s.enterResync d r.2.2
  else if b.addr4Readable && fld b.profile 0x0E 1 == b.opcodeOf 17 && status.testBit (fld b.profile 0x0F 1) != (s.shadow d).addr4 then
    s.enterResync d 4
  else s

/-- A status read while Reforge's erase or program runs (R388). -/
def State.pollWrite (s : State) (d status t : Nat) (o : RfuOp) : State :=
  let op := if o.pages = 0 then s.eraseOp d else s.programOp d
  let s := if statusValid status then s.shadowStatus d status else s
  if statusValid status && !s.wip (d / 2) status then s.writeCompleted d
  else if t + s.opcodeTime (d / 2) op < s.now then
    (if (s.port (d / 2)).mode == .gap then s.ownReset (d / 2) [d] else s).failAttempt d
  else s

/-- A status read while the entry step of Reforge's work in OWN runs (R228 step 2, R388). -/
def State.pollEntry (s : State) (d status t : Nat) : State :=
  if statusValid status && !s.wip (d / 2) status then (s.shadowStatus d status).updOp d (fun o => { o with entered := true, entryAt := none })
  else if !statusValid status ∨ t + s.opcodeTime (d / 2) (fld (s.deviceRec d) 4 1) + 2 ≤ s.now then (s.enterResync d 1).failAttempt d
  else s

/-- A status read while the entry step of a scan runs (R228 step 2). -/
def State.pollScan (s : State) (x : Scan) (status t : Nat) : State :=
  let d := x.device
  if statusValid status && !s.wip (d / 2) status then (s.shadowStatus d status).updScan x (fun y => { y with entryAt := none })
  else if !statusValid status ∨ t + s.opcodeTime (d / 2) (fld (s.deviceRec d) 4 1) + 2 ≤ s.now then
    (s.enterResync d 1).endScan { x with entryAt := none }
  else s

/-- The status read that confirms a software reset in OWN (R129): write-in-progress, or no valid status, leaves the device in
RESYNC, and a scan of it that has begun ends with no block read (R228 step 1). -/
def State.pollConfirm (s : State) (d status : Nat) : State :=
  let s := s.updShadow d (fun x => { x with confirm := false })
  if statusValid status && !s.wip (d / 2) status then s
  else
    let s := s.enterResync d 1
    match s.fit.scans.find? (fun x => x.device == d && (x.running || x.resetAt.isSome)) with
    | some x => s.endScan x
    | none => s

/-- A status read inside an open window: a read of R149, or R143 way 2, whose software reset it sends first to a device that
entered RESYNC inside the window and confirms afterwards. -/
def State.pollWindow (s : State) (d status : Nat) : State :=
  if (s.shadow d).resync then
    if !s.resyncWork d then s
    else if !(s.shadow d).swReset then s.sendResync d
    else if !statusValid status || s.wip (d / 2) status then s
    else s.updShadow d (Shadow.reset (s.port (d / 2)).bank)
  else if statusValid status then s.shadowStatus d status
  else s

/-- The port's own status read of device d, in an interface. -/
def State.readStatus (s : State) (d : Nat) (i : Iface) : State := s.sendFlash [(s.port (d / 2)).bank.statusXfer d i]

/-- What a status byte that the port reads from device d means, by what the port is doing: the confirmation of R129 in the
profile's reset interface once the recovery time is over, a poll in the interface of the work that runs, or a read inside a
window in the shadow's. -/
def State.pollStatus (s : State) (d status : Nat) : State :=
  let p := d / 2
  let op := s.rfuOp d
  if (s.shadow d).confirm then
    if s.now < (s.shadow d).confirmFrom then s else (s.readStatus d (s.port p).bank.resetIface).pollConfirm d status
  else match op.bind (fun o => o.sentAt.map (fun t => (o, t))), op.bind RfuOp.entryAt,
      s.fit.scans.find? (fun x => x.device == d && x.entryAt.isSome) with
  | some (o, t), _, _ => (s.readStatus d (s.scanIface d)).pollWrite d status t o
  | none, some t, _ => (s.readStatus d (s.scanIface d)).pollEntry d status t
  | none, none, some x => (s.readStatus d (s.scanIface d)).pollScan x status (x.entryAt.getD 0)
  | none, none, none =>
    if !s.inWindow p then s
    else (s.readStatus d (if (s.shadow d).resync then .spi else (s.shadow d).iface)).pollWindow d status

/-- FLASH_STATUS_POLL (R129, R143, R149, R228, R388). disagree says that the decoders disagree on the port's own traffic
(R132). -/
def execFlashStatusPoll (device status : Nat) (s : State) (disagree : Bool := false) : Res :=
  if 32 ≤ device ∨ !s.boot.guardUp then .next s
  else if disagree then .next (s.ownDisagreement (device / 2) ((s.port (device / 2)).bank.opcodeOf 17)).settleAll
  else .next (s.pollStatus device status).settleAll

/-! ### Commands (Table 11-17, R411) -/

/-- A set of block indices as a bitmap of n bytes. -/
def blockMap (n : Nat) (l : List Nat) : Bytes :=
  (List.range n).map (fun k => byte ((List.range 8).foldl (fun a b => if l.contains (8 * k + b) then a + 2 ^ b else a) 0))

/-- STATE of a journal record (Table 11-7). -/
def JState.code : JState → Nat
  | .free => 0
  | .opened => 1
  | .remeasure => 2
  | .committed => 3
  | .failed => 4
  | .aborted => 5

/-- The first 256 bytes of a journal record (Table 11-7). -/
def Journal.head (j : Journal) : Bytes :=
  le 1 j.state.code ++ le 1 (b2n j.full) ++ le 1 j.slot ++ le 1 j.source ++ le 1 j.attempt ++ zeros 3 ++ fixLen 48 j.manifestDigest ++
  fixLen 16 j.cartCid ++ le 2 j.set.length ++ le 2 j.doneCount ++ le 4 j.epoch ++ le 8 j.intentDmt ++ le 8 j.commitDmt ++ zeros 160

/-- RECOVER_STATUS. -/
def execRecoverStatus (h : Hdr) (hostAddr : Nat) (s : State) : Res :=
  .next (commandR (opRecoverStatus.on (le 8 hostAddr)) h (s.writeAddrOk h hostAddr) s fun _ t =>
    let l := (List.range 32).filter (fun d => (t.journal d).state != .free)
    okOut hostAddr (l.flatMap (fun d => (t.journal d).head)) (le 1 l.length))

/-- The transport of a source is admitted for slot n (R385). -/
def State.transportOk (s : State) (src : Src) (n : Nat) : Bool :=
  match src with
  | .framed .uart0 => (s.recoveryFlags n).testBit 4
  | .jtag => false
  | _ => (s.recoveryFlags n).testBit 3

/-- RECOVER_STAGE's effect on an operation that may take a source (R382 to R385, R394). -/
def State.stageManifest (s : State) (d n source hostAddr : Nat) (data : Bytes) (verdicts : Nat) : Reply × State :=
  match s.judgeManifest n d data verdicts with
  | ((st, none), t) => (err st, t.skipSource d st)
  | ((_, some x), s) =>
    let s := s.chooseSource d source 0 (hostAddr + dataOffset x.len) x
    match s.rfuOp d with
    | some o => (ok (le 2 (if o.resume then (s.journal d).set else s.rewriteSet o).length ++ le 1 (if o.resume then o.attempt else o.attempt + 1)), s.settleAll)
    | none => (ok, s)

/-- RECOVER_STAGE: its FRAMED flag is of version 1.2. -/
def execRecoverStage (h : Hdr) (device flags length hostAddr : Nat) (data : Bytes) (s : State) (verdicts : Nat := 0) : Res :=
  let framed := flags.testBit 0
  let isPcie := match h.src with
    | .pcie _ => true
    | _ => false
  let op : Op := (if framed then { opRecoverStage with version := 0x12 } else opRecoverStage).on (le 1 device ++ le 1 flags ++ zeros 2 ++ le 4 length ++ le 8 hostAddr)
  let data := s.inputOf h hostAddr length data
  .next (command op h (decide (device < 32 ∧ flags ≤ 1 ∧ 0 < length) && (framed || isPcie) && s.readAddrOk h hostAddr length) s (ownBodyC fun h t =>
    match t.rfuOp device with
    | none => (err 0x04A0, t)
    | some o =>
      if !t.transportOk h.src o.slot || o.phase == .idle then (err 0x04A0, t)
      else if o.phase != .search && o.phase != .waitSource then (err 0x04A1, t)
      else t.stageManifest device o.slot (if framed then 2 else 1) hostAddr (data.take length) verdicts))

/-- RECOVER_DATA: it waits while no staging buffer is free. -/
def execRecoverData (h : Hdr) (device first count hostAddr : Nat) (data : Bytes) (s : State) : Res :=
  let data := s.inputOf h hostAddr (65536 * count) data
  .next (command (opRecoverData.on (le 1 device ++ zeros 1 ++ le 2 first ++ le 2 count ++ zeros 2 ++ le 8 hostAddr)) h (decide (device < 32 ∧ 0 < count ∧ count ≤ 64) && s.readAddrOk h hostAddr (65536 * count)) s fun h t =>
    match t.rfuOp device with
    | none => (some (err 0x04A0), t)
    | some o =>
      match o.manifest with
      | none => (some (err 0x04A0), t)
      | some m =>
        if o.source ≠ 2 ∨ !(o.phase == .waitPort || o.phase == .write) then (some (err 0x04A0), t)
        else if (t.storedFrom device m first count).length ≠ count then (some (err 0x0102), t)
        else
          let w : DataWait := { hdr := h, first := first, count := count, data := data }
          match if o.dataWait.isEmpty then t.offerBlocks device m w else (none, t) with
          | (some r, t) => (some r, t.settleAll)
          | (none, t) => (none, t.updOp device (fun o => { o with dataWait := o.dataWait ++ [w] })))

/-- RECOVER_FULL (Table 11-17, R411). A HELD slot with a string on an isolated bus stays HELD (R112), and answers SLOT_BUSY. -/
def execRecoverFull (h : Hdr) (slot : Nat) (s : State) : Res :=
  .next (commandC (opRecoverFull.on (le 1 slot)) h true s fun _ t =>
    let st := t.slotCommand slot [.released, .held]
    if (t.slot slot).state == .recovering then (err 0x0421, t.logSuperseded slot .command)
    else if st ≠ 0 then (err 0x0421, t)
    else if (t.slot slot).state == .held && t.slotIsolated slot then (err 0x0421, t)
    else (ok, (t.recoverSlot slot .command true).settleAll))

/-- RECOVER_ABORT. -/
def execRecoverAbort (h : Hdr) (slot : Nat) (s : State) : Res :=
  .next (commandC (opRecoverAbort.on (le 1 slot)) h true s fun _ t =>
    if !t.rfu.ops.any (fun o => o.slot == slot) then (err 0x04A0, t)
    else
      let t := t.stopOps slot true
      (ok, (if (t.slot slot).state == .recovering then t.quarantine slot .recoveryFailed else t).settleAll))

/-- RECOVER_ARB_ADVANCE. -/
def execRecoverArbAdvance (h : Hdr) (targetSvn : Nat) (s : State) : Res :=
  .next (commandC (opRecoverArbAdvance.on (le 1 targetSvn)) h (decide (targetSvn ≤ 128)) s fun _ t => (ok, t.advanceArb 3 targetSvn))

end Sys2Proof.Machine
end

