-- ==== Sys2Proof/Machine/Tamper.lean ====
section
/-! DEFINITION. Chapter 13: tamper events and trips, the responses, quench, tests and the tamper commands. -/
namespace Sys2Proof.Machine

/-! ### Quench (R457, R458) -/

/-- A DRBG instance that a quench clears instantiates again from fresh entropy. -/
def Drbg.again (now : Nat) (d : Drbg) : Drbg := if d.generating then Drbg.reseeded now else d

/-- What a quench erases with main power present, in the order of R457, and what the forge then does (R331, R344). -/
def State.quenchMain (s : State) : State :=
  let s := s.eraseSigningKeys
  let s := { s with atr := { s.atr with sessions := [] }, cru := { s.cru with challenges := [] } }
  let s := s.closeContexts (fun c => c.alg == 6 || c.alg == 7)
  let s := s.erasePools
  let c := s.cru
  let s := { s with cru := { c with d0 := c.d0.again s.now, d1 := c.d1.again s.now, d2 := c.d2.again s.now, d3 := c.d3.again s.now } }
  let s := s.voidAll
  if s.boot.forgeUp then s.closeQuenched else s

/-- A quench: without main power only the SECRET area is erased, and the mirror waits for the next rise of PWR_OK. Trips of one
instant perform it once (R447). -/
def State.quench (s : State) : State :=
  if s.quenched ∧ s.emb.quenchAt = some s.now then s
  else
    let s := { s with emb := { s.emb with secret := [], latch := true, latchCopy := true, quenchHit := true, quenchAt := some s.now },
                      rfg := { s.rfg with quenchDue := true } }
    if s.boot.pwrOk then { s with emb := { s.emb with mirror := true } }.quenchMain else s

/-! ### Trips (R444 to R447, R452, R453) -/

/-- The lowest evidence position that is not blown. -/
def State.evidenceNext (s : State) : Option Nat :=
  (List.range 512).find? (fun p => !(s.otpWord (104 + p / 64)).testBit (p % 64))

/-- A trip counts one evidence position. -/
def State.countEvidence (s : State) : State :=
  if s.boot.pwrOk then
    match s.evidenceNext with
    | some p => s.blowPosition 104 p
    | none => s
  else if s.emb.evPending < 255 then { s with emb := { s.emb with evPending := s.emb.evPending + 1 } }
  else { s with emb := { s.emb with pendingSat := true } }

/-- The TAMPER_TRIP record: to the Logbook, or held in battery RAM while main power is absent (R445). -/
def State.recordTrip (s : State) (i count response : Nat) : State :=
  if s.boot.pwrOk then s.log .guard 0x0A01 0 8 i { cause := response, value := count }
  else
    let h : HeldTrip := { source := i, count := count, response := response, dmt := s.now }
    if s.emb.held.length < 16 then { s with emb := { s.emb with held := s.emb.held ++ [h] } }
    else { s with emb := { s.emb with held := s.emb.held.drop 1 ++ [h], pendingSat := true } }

/-- Every RELEASED slot is held with REASON TAMPER_HOLD; while the Control Region restarts the step is latched (R446,
R511). -/
def State.holdPlatform (s : State) : State :=
  if !s.boot.pwrOk then s
  else if !s.boot.controlUp then { s with strs := { s.strs with latched := s.strs.latched ++ [.tamperHold] } }
  else
    let l := (List.range 256).filter s.isReleased
    (l.foldl (fun t n => t.updSlot n (fun x => { x with heldByTamper := true })) (s.holdSlots l .tamperHold)).settleAll

/-- The alert of a trip: posted, or kept until the next OPERATIONAL. -/
def State.alertTrip (s : State) : State :=
  if s.boot.pwrOk ∧ (s.boot.phase = .operational ∨ s.boot.phase = .noPolicy) then s.tellManagers 0x0A01 0
  else { s with emb := { s.emb with lateAlert := s.emb.lateAlert + 1 } }

/-- Source i trips with a number of events in its window (Table 13-2). -/
def State.trip (s : State) (i count : Nat) : State :=
  let r := s.sourceResponse i
  let s := (s.updSource i (fun x => { x with tripped := true, trips := min (x.trips + 1) 255 })).stirPsd 0x040
  let s := { s with emb := { s.emb with tripHit := true } }
  let s := if r.testBit 3 then s.quench else s
  let s := if s.boot.forgeUp then s.recompute else s
  let s := s.countEvidence
  let s := if r.testBit 0 then s.recordTrip i count r else s
  let s := if r.testBit 2 then s.holdPlatform else s
  if r.testBit 1 then s.alertTrip else s

/-- An event is counted on source i; it trips the source when it brings the events in the window up to COUNT (R441, R443).
A DISABLED source counts none. -/
def State.tamperEvent (s : State) (i : Nat) : State :=
  if s.sourceMode i = 0 then s
  else
    let s := s.updSource i (fun x => { x with ring := (s.now :: x.ring).take 16, events := min (x.events + 1) 65535,
                                              eventsStart := min (x.eventsStart + 1) 65535 })
    let s := if i = 9 ∧ !s.boot.pwrOk then { s with emb := { s.emb with xtalEvent := true } } else s
    let n := ((s.source i).ring.filter (fun t => decide (s.now ≤ t + 1000 * s.sourceWindow i))).length
    if !(s.source i).tripped && decide (s.sourceCount i ≤ n) then s.trip i n else s

/-! ### Detectors and samples (R440 to R442) -/

/-- On VBAT below 2.0 V, battery RAM and the time base are lost (R461). -/
def Ember.starve (e : Ember) (battery : Bool) : Ember := { e with ramBad := e.ramBad || (battery && decide (e.vbatMv < 2000)) }

/-- Sources that are sampled: the shield, the meshes and the switches. -/
def isSampled (i : Nat) : Bool := i == 12 || decide (16 ≤ i)

/-- Sources watched from VBAT as well (Table 13-1). -/
def watchedAlways (i : Nat) : Bool := (decide (4 ≤ i ∧ i ≤ 9)) || isSampled i

/-- The source under test in an open window. -/
def State.underTest (s : State) (i : Nat) : Bool :=
  match s.emb.test with
  | some w => w.source == i
  | none => false

/-- s with the open test window changed. -/
def State.updTest (s : State) (f : TestWindow → TestWindow) : State := { s with emb := { s.emb with test := s.emb.test.map f } }

/-- TAMPER_DETECTOR_ASSERT: an event when the detector has been deasserted for 1 µs; in a test window of the source, its
detection. -/
def execTamperDetectorAssert (source : Nat) (s : State) : Res :=
  if 32 ≤ source ∨ source = 14 ∨ source = 15 ∨ isSampled source ∨ (!s.boot.pwrOk ∧ !watchedAlways source) then .next s
  else if s.underTest source then
    .next ((s.updSource source (fun x => { x with active := true })).updTest (fun w =>
      { w with detected := some (w.detected.getD (s.now - w.openedAt)), released := false }))
  else if s.sourceMode source = 0 then .next s
  else
    let x := s.source source
    let fresh := !x.active && (match x.deassertAt with
      | some t => decide (t + 1 ≤ s.now)
      | none => true)
    let s := s.updSource source (fun x => { x with active := true })
    .next (if fresh then s.tamperEvent source else s)

/-- TAMPER_DETECTOR_DEASSERT. -/
def execTamperDetectorDeassert (source : Nat) (s : State) : Res :=
  if 32 ≤ source ∨ !(s.source source).active ∨ isSampled source then .next s
  else
    let s := s.updSource source (fun x => { x with active := false, deassertAt := some s.now })
    .next (if s.underTest source then s.updTest (fun w => { w with released := w.detected.isSome }) else s)

/-- The sampled sources that a sample judges: each enabled one that is not under test. -/
def State.sampledNow (s : State) : List Nat := (List.range 32).filter (fun i => isSampled i && s.sourceMode i != 0 && !s.underTest i)

/-- What EMESH_DRV carries in the sample that is due: the pattern of the key, or the fixed pattern while the SECRET area is
empty (R442, R456). -/
def State.meshDriven (s : State) : Nat :=
  (if s.emb.secret.isEmpty then Config.meshPattern [] 0 else Config.meshPattern s.emb.secret (s.now / 32000)) % 2 ^ 24

/-- The sample of source i fails (R442): the shield is broken or shorted, a phase of a mesh returns another bit than was
driven, or a switch reads its unsafe level. A closed switch ties TAMP_IN to VSS against the weak pull. -/
def State.sampleFails (s : State) (meshReturn switches : Nat) (shieldBroken : Bool) (i : Nat) : Bool :=
  if i = 12 then shieldBroken
  else if i < 24 then meshReturn / 8 ^ (i - 16) % 8 != s.meshDriven / 8 ^ (i - 16) % 8
  else switches.testBit (i - 24) == (fld (s.tamperRec i) 3 1).testBit 0

/-- The extra sample of a test of source i detects: against the pattern or the safe level inverted, the sample fails (Table
13-5). -/
def State.testFails (s : State) (meshReturn switches : Nat) (shieldBroken : Bool) (i : Nat) : Bool :=
  if i = 12 then !shieldBroken
  else if i < 24 then meshReturn / 8 ^ (i - 16) % 8 != 7 - s.meshDriven / 8 ^ (i - 16) % 8
  else switches.testBit (i - 24) != (fld (s.tamperRec i) 3 1).testBit 0

/-- A sample in the open test window of a sampled source: the first is the extra one of the test, whose detection ends with it;
a later one finds how the source stands under its real conditions (R454, R455). -/
def State.testSample (s : State) (meshReturn switches : Nat) (shieldBroken : Bool) : State :=
  match s.emb.test with
  | none => s
  | some w =>
    if !isSampled w.source then s
    else
      let s := { s with emb := { s.emb with meshDrive := s.meshDriven } }
      if w.sampled then s.updSource w.source (fun x => { x with active := s.sampleFails meshReturn switches shieldBroken w.source })
      else
        let hit := s.testFails meshReturn switches shieldBroken w.source
        s.updTest (fun w => { w with sampled := true, released := hit, detected := if hit then some (s.now - w.openedAt) else none })

/-- TAMPER_SAMPLE: every 32 ms of DMT, with what EMESH_RTN returns at the end of each phase (bit 3k + j for mesh k in phase
j), the levels of TAMP_IN, the shield's sense and VBAT in mV as it stands; before the next is due, a sample of the open test
window (log entry 128). -/
def execTamperSample (meshReturn : Nat) (s : State) (switches : Nat := 0) (shieldBroken : Bool := false) (vbat : Nat := 3000) : Res :=
  let s := { s with emb := { s.emb with vbatMv := vbat }.starve (!s.boot.pwrOk) }
  if s.now < s.emb.lastSample + 32000 then .next (s.testSample meshReturn switches shieldBroken)
  else
    let bad := s.sampleFails meshReturn switches shieldBroken
    let s := { s with emb := { s.emb with lastSample := s.now - s.now % 32000, meshDrive := s.meshDriven } }
    let watched := s.sampledNow
    let s := watched.foldl (fun t i => t.updSource i (fun x => { x with active := bad i })) s
    .next ((watched.filter bad).foldl State.tamperEvent s)

/-! ### Tests (R454, R455) -/

/-- A source that has a test. -/
def isTestable (i : Nat) : Bool := decide (i ≤ 13) || decide (16 ≤ i ∧ i ≤ 31)

/-- A test window opens. -/
def State.openTest (s : State) (source : Nat) (h : Option Hdr) : State :=
  { s with emb := { s.emb with test := some { source := source, openedAt := s.now, hdr := h } } }

/-- TAMPER_TEST. -/
def execTamperTest (h : Hdr) (source : Nat) (s : State) : Res :=
  .next (command (opTamperTest.on (le 1 source)) h (isTestable source) s fun h t =>
    if t.emb.test.isSome then (some (err 0x04C1), t) else (none, t.openTest source (some h)))

/-- TAMPER_TEST_WINDOW_END. DETECT_US of a test that detects nothing is not stated: a free value (log entry 3). -/
def execTamperTestWindowEnd (s : State) : Res :=
  match s.emb.test with
  | none => .next s
  | some w =>
    let passed := w.detected.isSome && w.released
    let us := w.detected.getD (Config.freeValue s.draws % 65536)
    let s := if w.detected.isSome then s else s.drawn
    let s := { s with emb := { s.emb with test := none } }
    let s := s.updSource w.source (fun x => { x with lastTest := if passed then 1 else 2 })
    let s := s.log .guard 0x0A02 0 8 w.source { cause := if passed then 1 else 2, value := us }
    let s := if passed then s else s.tamperEvent 15
    let s := if (s.source w.source).active then s.tamperEvent w.source else s
    .next (match w.hdr with
      | some h => complete h (ok (le 1 (b2n passed) ++ [0] ++ le 2 us)) s
      | none => s)

/-- TAMPER_SCHEDULED_TEST: each enabled source in ascending index, one per second, once in every TEST_INTERVAL_S. -/
def execTamperScheduledTest (s : State) : Res :=
  let iv := fld s.emb.tamperCopy 0 4
  let op := s.emb.opSeconds
  if !s.boot.pwrOk ∨ iv = 0 ∨ s.emb.test.isSome ∨ op < s.emb.testAt + 1 then .next s
  else
    let s := if s.emb.testPeriod + iv ≤ op then { s with emb := { s.emb with testPeriod := op, testNext := 0 } } else s
    match (List.range 32).find? (fun i => decide (s.emb.testNext ≤ i) && isTestable i && s.sourceMode i != 0) with
    | none => .next s
    | some i => .next ({ s with emb := { s.emb with testNext := i + 1, testAt := op } }.openTest i none)

/-! ### Registers (Tables 13-8 to 13-10) -/

/-- EMB_TAMPER_STATUS. -/
def State.tamperStatusWord (s : State) : Nat :=
  put 0 1 (b2n s.quenched) + put 1 1 (b2n s.emb.quenchHit) + put 2 1 (b2n s.emb.mirror) + put 3 1 (b2n s.emb.batteryLossSeen) +
  put 4 1 (b2n s.emb.test.isSome) + put 5 5 ((s.emb.test.map TestWindow.source).getD 0) + put 10 1 (b2n s.emb.tripHit) +
  put 11 1 (b2n s.emb.pendingSat)

/-- A word with bit i set where p holds of source i. -/
def State.sourceMask (s : State) (p : Source → Bool) : Nat :=
  (List.range 32).foldl (fun a i => a + put i 1 (b2n (p (s.source i)))) 0

/-- EMB_EVIDENCE. -/
def State.evidenceWord (s : State) : Nat :=
  put 0 10 s.evidence + put 10 1 (b2n (s.evidence == 512)) + put 11 8 s.emb.evPending

/-- The registers at offsets 0x100 to 0x114, in order. -/
def State.tamperWords (s : State) : List Nat :=
  [s.tamperStatusWord, s.sourceMask Source.tripped, s.sourceMask Source.active, s.otpWord 112 % 2 ^ 32, s.evidenceWord,
   put 0 12 s.emb.vbatMv]

/-- EMB_TAMPER_SRC_i. -/
def State.tamperSrcWord (s : State) (i : Nat) : Nat :=
  let x := s.source i
  put 0 16 x.events + put 16 8 x.trips + put 24 2 x.lastTest + put 26 2 (s.sourceMode i)

/-! ### Commands (Table 13-11) -/

/-- TAMPER_STATUS. -/
def execTamperStatus (h : Hdr) (hostAddr : Nat) (s : State) : Res :=
  .next (commandR (opTamperStatus.on (le 8 hostAddr)) h (s.writeAddrOk h hostAddr) s fun _ t =>
    okOut hostAddr (t.tamperWords.flatMap (le 4) ++ zeros 8 ++ (List.range 32).flatMap (fun i =>
      let x := t.source i
      le 2 x.trips ++ le 2 x.eventsStart ++ le 1 x.lastTest ++ le 1 (t.sourceMode i) ++ zeros 2)))

/-- TAMPER_CLEAR. -/
def execTamperClear (h : Hdr) (mask : Nat) (s : State) : Res :=
  .next (commandC (opTamperClear.on (le 4 mask)) h true s fun _ t =>
    let named := (List.range 32).filter (fun i => mask.testBit i)
    let good := named.filter (fun i => !(t.source i).active)
    let u := good.foldl (fun t i => t.updSource i (fun x => { x with tripped := false, ring := [] })) t
    let u := if good.any (fun i => (t.source i).tripped) then u.stirPsd 0x040 else u
    let u := if t.platformHeld then u.endPlatformHold.settleAll else u
    let cleared := le 4 (good.foldl (fun a i => a + 2 ^ i) 0)
    if good.length = named.length then (ok cleared, u) else ({ status := 0x04C0, result := cleared }, u))

/-- The committed policy places source i in HARDWARE_QUENCH with COUNT 1 (R451). -/
def State.committedQuench (s : State) (i : Nat) : Bool :=
  let r := slice (s.sec 0x32) (16 + 8 * i) 8
  s.image.isSome && fld r 0 1 == 2 && fld r 2 1 == 1

/-- TAMPER_FIX. -/
def execTamperFix (h : Hdr) (mask : Nat) (s : State) : Res :=
  .next (commandC (opTamperFix.on (le 4 mask)) h true s fun _ t =>
    let named := (List.range 32).filter (fun i => mask.testBit i)
    if t.cru.lcState ≠ 4 ∨ !named.all t.committedQuench then (err 0x04C2, t)
    else
      let t := t.blow 112 (mask % 2 ^ 32)
      let t := t.log .control 0x0A03 0 0 0 { value := t.otpWord 112 % 2 ^ 32 }
      (ok (le 4 (t.otpWord 112 % 2 ^ 32)), t.refreshCed))

end Sys2Proof.Machine
end

