-- ==== Sys2Proof/Machine/Logbook.lean ====
section
/-! DEFINITION. Chapter 15: the Logbook. -/
namespace Sys2Proof.Machine

/-- FLAGS of a record (Table 15-4). -/
def LogRec.flags (r : LogRec) : Nat :=
  b2n r.isOpen + 2 * b2n r.storm + 4 * b2n r.stormHead + 8 * b2n r.merged + 16 * b2n r.held + 32 * b2n r.gap +
  64 * b2n r.spanSat + put 13 3 r.hint

/-- A record's 64 bytes (Table 15-1). -/
def LogRec.bytes (r : LogRec) : Bytes :=
  le 8 r.seq ++ le 4 r.opSeconds ++ le 3 r.powerCycles ++ le 1 r.rung ++ le 4 r.dmt ++ le 2 (put 12 4 r.cls + put 0 12 r.idx) ++
  le 2 r.code ++ le 2 r.repeats ++ le 2 r.flags ++ fixLen 32 r.params ++ le 4 r.lastDelta

/-- FILL_WM of the LOGBOOK section (R502). -/
def State.fillWm (s : State) : Nat := if (s.sec 0x34).isEmpty then 49152 else fld (s.sec 0x34) 0 4

/-- REPEAT_WINDOW_MS of the LOGBOOK section (R502). -/
def State.repeatWindow (s : State) : Nat := if (s.sec 0x34).isEmpty then 1000 else fld (s.sec 0x34) 4 2

/-- Records held whose SEQ is above ACKED_SEQ (R503). -/
def Lgb.unacked (g : Lgb) : Nat := (g.records.filter (fun r => decide (g.ackedSeq < r.seq))).length

/-- The SEQ of the newest record that was written. -/
def Lgb.newest (g : Lgb) : Nat := g.nextSeq - 1

/-- The SEQ of the oldest record held; 0 when none is. -/
def Lgb.oldest (g : Lgb) : Nat := (g.records.head?.map LogRec.seq).getD 0

/-- One record evicted: EVICTED and EVICT_HIT when it was not acknowledged (R496). -/
def Lgb.evict (g : Lgb) (seq : Nat) : Lgb :=
  let g' := { g with records := g.records.filter (fun r => decide (r.seq ≠ seq)) }
  if g.ackedSeq < seq then
    { g' with evicted := satAdd 32 g.evicted 1, evictedStart := satAdd 32 g.evictedStart 1, evictHit := true }
  else g'

/-- The rungs whose oldest record a new record may take, in order (R496). -/
def evictionOrder (rung : Nat) (storm : Bool) : List Nat :=
  [6, 5, 4, 3] ++ (if storm ∨ 3 ≤ rung then [] else ([2, 1, 0] : List Nat).filter (fun r => decide (rung ≤ r)))

/-- Room for a new record: g with a place free, or none when it finds none (R496). -/
def Lgb.room (g : Lgb) (rung : Nat) (storm : Bool) : Option Lgb :=
  if g.records.length < g.places then some g
  else
    match (evictionOrder rung storm).findSome? (fun r => g.records.find? (fun x => decide (x.rung = r))) with
    | some x => some (g.evict x.seq)
    | none => none

/-- s with the measure of R503 looked at after a record was added: an upward crossing of FILL_WM. -/
def State.fillCrossing (s : State) (before : Nat) : State :=
  if before < s.fillWm ∧ s.fillWm ≤ s.lgb.unacked then
    let s := { s with lgb := { s.lgb with fillHit := true, fillCount := satAdd 16 s.lgb.fillCount 1 } }
    s.tellManagers 0x0B03 6
  else s

/-- The LOG_SEQ of the pending asynchronous events whose first occurrence has just been recorded (Table 8-15). -/
def State.stampAsync (s : State) (x : LogEv) (seq : Nat) : State :=
  { s with cme := { s.cme with asyncs := s.cme.asyncs.map (fun p =>
      (p.1, p.2.map (fun e => if e.reports p.1 x && e.logSeq == 0 then { e with logSeq := seq } else e))) } }

/-- A record of an event gets its sequence number and its place (R486, R496); one that finds no place is dropped. -/
def State.appendRecord (s : State) (e : LogEv) (r : LogRec) : State :=
  match s.lgb.room r.rung r.storm with
  | none => { s with lgb := s.lgb.drop }
  | some g =>
    let before := s.lgb.unacked
    let r := { r with seq := g.nextSeq, opSeconds := s.emb.opSeconds, powerCycles := s.emb.powerCycles }
    let s := { s with lgb := { g with records := g.records ++ [r], nextSeq := g.nextSeq + 1 } }
    (s.stampAsync e r.seq).fillCrossing before

/-- s with the record of a sequence number changed by f. -/
def State.updRecord (s : State) (seq : Nat) (f : LogRec → LogRec) : State :=
  { s with lgb := { s.lgb with records := s.lgb.records.map (fun r => if r.seq = seq then f r else r) } }

/-- The time from a record's first occurrence to an event, and whether it saturates (Table 15-1). -/
def LogRec.folded (r : LogRec) (dmt : Nat) : LogRec :=
  let d := dmt - r.dmt
  { r with lastDelta := min d 0xFFFFFFFF, spanSat := r.spanSat || decide (0xFFFFFFFF < d), repeats := min (r.repeats + 1) 0xFFFF }

/-- Bit i of a 256-bit bitmap set (R494). -/
def bitmapSet (b : Bytes) (i : Nat) : Bytes :=
  patch (fixLen 32 b) (i / 8) [byte (setBit (fld b (i / 8) 1) (i % 8))]

/-- An event joins an OPEN storm record (R494). -/
def LogRec.join (r : LogRec) (e : LogEv) : LogRec :=
  { (r.folded e.dmt) with params := bitmapSet r.params (e.idx % 256), merged := r.merged || decide (256 ≤ e.idx),
                          joined := r.joined ++ [(e.idx, e.island)] }

/-- The identifying bytes of the parameters (R492 case 3). -/
def identifyingBytes (own : Bool) (params : Bytes) : Bytes := if own then slice params 0 16 else slice params 8 8

/-- The ordinary record that an event writes (R492 case 4, R493). -/
def LogEv.record (e : LogEv) (windowMs : Nat) : LogRec :=
  { rung := e.rung, dmt := e.dmt, cls := e.cls, idx := e.idx, code := e.code, isOpen := decide (1 ≤ e.rung), held := e.held,
    gap := e.gap, own := e.own, params := fixLen 32 e.params, windowMs := windowMs, joined := [(e.idx, e.island)] }

/-- The storm record that an event opens under a head (R494). -/
def LogRec.storms (head : LogRec) (e : LogEv) : LogRec :=
  let r : LogRec := { rung := head.rung, dmt := head.dmt, cls := head.cls, idx := 0, code := head.code, isOpen := true, storm := true,
                      held := e.held, gap := head.gap, own := true, params := bitmapSet [] (head.idx % 256), merged := decide (256 ≤ head.idx),
                      joined := head.joined.take 1 }
  r.join e

/-- Among records, the one with the earliest first occurrence. -/
def earliest (l : List LogRec) : Option LogRec :=
  l.foldl (fun a r => match a with
    | some b => if r.dmt < b.dmt then some r else some b
    | none => some r) none

/-- A record is still OPEN for an event of a DMT: no window of R493 has passed before it. -/
def LogRec.openAt (r : LogRec) (dmt : Nat) : Bool :=
  r.isOpen && (if r.storm then decide (dmt < r.dmt + 1000)
               else decide (dmt < r.dmt + r.lastDelta + 1000 * r.windowMs ∧ dmt < r.dmt + 60000000))

/-- The Logbook records one event by the first case of R492 that fits. -/
def State.recordEvent (s : State) (e : LogEv) : State :=
  if e.rung = 0 then s.appendRecord e (e.record s.repeatWindow)
  else
    let opens := s.lgb.records.filter (fun r => r.openAt e.dmt && decide (r.code = e.code ∧ r.cls = e.cls))
    match opens.find? (fun r => r.storm) with
    | some st => (s.updRecord st.seq (fun r => r.join e)).stampAsync e st.seq
    | none =>
      match earliest (opens.filter (fun r => decide (r.idx ≠ e.idx ∧ e.dmt ≤ r.dmt + 1000))) with
      | some head =>
        if (s.lgb.room head.rung true).isNone then { s with lgb := s.lgb.drop }
        else
          let s := s.updRecord head.seq (fun r => { r with stormHead := true })
          let s := s.appendRecord e (head.storms e)
          { s with lgb := { s.lgb with storms := satAdd 32 s.lgb.storms 1 } }
      | none =>
        match opens.find? (fun r => decide (r.idx = e.idx) && identifyingBytes r.own r.params == identifyingBytes e.own e.params) with
        | some x =>
          let f (r : LogRec) : LogRec :=
            let r := r.folded e.dmt
            { r with params := slice r.params 0 16 ++ slice e.params 16 16, isOpen := decide (r.repeats < 0xFFFF) }
          (s.updRecord x.seq f).stampAsync e x.seq
        | none => s.appendRecord e (e.record s.repeatWindow)

/-- The parameters of a TIME_MARK (R491). -/
def State.timeMarkParams (s : State) : Bytes := le 8 s.now ++ le 8 (ofSigned 64 s.wall) ++ le 2 s.emb.epoch

/-- A TIME_MARK reaches the Logbook (R491). -/
def State.timeMark (s : State) : State :=
  let s := s.logOwn .control 0x0B01 2 0 0 s.timeMarkParams
  { s with lgb := { s.lgb with lastMark := s.now } }

/-- What the regions held while the Control Region was down enters the staging buffer (R490). -/
def State.releaseHeld (s : State) : State :=
  let g := s.lgb
  let s := { s with lgb := { g with heldGuard := [], heldForge := [], overGuard := 0, overForge := 0 } }
  let stage (t : State) (e : LogEv) : State := { t with lgb := t.lgb.stage e }
  let s := (g.heldGuard ++ g.heldForge).foldl stage s
  let s := if g.overGuard = 0 then s else s.log .control 0x0B04 3 0 0 { index2 := 1, value := g.overGuard }
  if g.overForge = 0 then s else s.log .control 0x0B04 3 0 0 { index2 := 2, value := g.overForge }

/-- A storm record closes and names the shared resource (R495). -/
def State.closeStorm (s : State) (r : LogRec) : LogRec :=
  if r.storm && r.isOpen then
    let h := s.sharedResource r.cls (r.joined.map Prod.fst) (r.joined.map Prod.snd)
    { r with isOpen := false, hint := h.1, idx := h.2 }
  else r

/-- At a device start every record still OPEN is closed, and what was not yet written is lost (R490, R493, R497). -/
def Lgb.deviceStart (g : Lgb) : Lgb :=
  { g with records := g.records.map (fun r => { r with isOpen := false }), staging := [], heldGuard := [], overGuard := 0,
           heldForge := [], overForge := 0, running := false, fillHit := false, evictHit := false, dropHit := false,
           cursorLow := 0, cursorHigh := 0, window := [], windowSkipped := false, dropped := 0, evicted := 0, storms := 0,
           fillCount := 0, droppedStart := 0, evictedStart := 0 }

/-- LOG_RECORD_WRITE (R490): the oldest staged event is recorded. -/
def execLogRecordWrite (s : State) : Res :=
  match s.lgb.staging with
  | e :: rest =>
    if s.boot.controlUp then .next (({ s with lgb := { s.lgb with staging := rest, running := true } }).recordEvent e)
    else .next s
  | [] => .next s

/-- RECORD_CLOSE (R493): an OPEN ordinary record closes when its window or 60 s have passed. -/
def execRecordClose (seq : Nat) (s : State) : Res :=
  .next (s.updRecord seq (fun r =>
    if !r.storm && (decide (r.dmt + r.lastDelta + 1000 * r.windowMs ≤ s.now) || decide (r.dmt + 60000000 ≤ s.now)) then
      { r with isOpen := false } else r))

/-- STORM_CLOSE (R493, R495): a storm record closes 1,000 µs after its head and names the shared resource. -/
def execStormClose (seq : Nat) (s : State) : Res :=
  .next (s.updRecord seq (fun r =>
    if r.dmt + 1000 ≤ s.now then s.closeStorm r else r))

/-- TIME_MARK (R491): written when 2^31 µs of DMT have passed since the last one. -/
def execTimeMark (s : State) : Res :=
  if s.boot.controlUp ∧ s.lgb.lastMark + 2 ^ 31 ≤ s.now then .next s.timeMark else .next s

/-- LGB_CURSOR_WRITE (R498): the write of the high word loads the window. -/
def execLgbCursorWrite (high : Nat) (s : State) : Res :=
  if !s.pcieUp then .next s
  else
    let from_ := high % 2 ^ 32 * 2 ^ 32 + s.lgb.cursorLow
    let w := (s.lgb.records.filter (fun r => decide (from_ ≤ r.seq))).take 64
    .next { s with lgb := { s.lgb with cursorHigh := high % 2 ^ 32, window := w,
                                       windowSkipped := match w with
                | r :: _ => decide (from_ < r.seq)
                | [] => false } }

/-- LOG_STATUS (R500). -/
def execLogStatus (h : Hdr) (hostAddr : Nat) (s : State) : Res :=
  .next (commandR (opLogStatus.on (le 8 hostAddr)) h (s.writeAddrOk h hostAddr) s fun _ t =>
    okOut hostAddr (le 8 t.lgb.newest ++ le 8 t.lgb.oldest ++ le 8 t.lgb.ackedSeq ++ le 4 t.lgb.records.length ++
      le 4 t.lgb.unacked ++ le 4 t.lgb.droppedStart ++ le 4 t.lgb.evictedStart ++ le 4 t.fillWm ++ zeros 20))

/-- LOG_READ (R500): records in the order and with the content of the window. -/
def execLogRead (h : Hdr) (fromSeq max flags hostAddr : Nat) (s : State) : Res :=
  .next (commandR (opLogRead.on (le 8 fromSeq ++ le 2 max ++ le 1 flags ++ zeros 5 ++ le 8 hostAddr)) h (decide (1 ≤ max ∧ max ≤ 4096 ∧ flags < 2) && s.writeAddrOk h hostAddr) s fun _ t =>
    let l := (t.lgb.records.filter (fun r => decide (fromSeq ≤ r.seq))).take max
    let l := if flags.testBit 0 then l.takeWhile (fun r => !r.isOpen) else l
    let next := match l.getLast? with
      | some r => r.seq + 1
      | none => fromSeq
    okOut hostAddr (l.flatMap LogRec.bytes) (le 2 l.length ++ zeros 6 ++ le 8 next ++ le 8 t.lgb.oldest))

/-- LOG_ACK (R500). -/
def execLogAck (h : Hdr) (uptoSeq : Nat) (s : State) : Res :=
  .next (commandC (opLogAck.on (le 8 uptoSeq)) h true s fun _ t =>
    if t.lgb.newest < uptoSeq then (err 0x0102, t)
    else
      let t := { t with lgb := { t.lgb with ackedSeq := max t.lgb.ackedSeq uptoSeq } }
      (ok (le 8 t.lgb.ackedSeq), t))

/-- LOG_CLEAR (R500, R501). -/
def execLogClear (h : Hdr) (uptoSeq : Nat) (s : State) : Res :=
  .next (commandC (opLogClear.on (le 8 uptoSeq)) h true s fun _ t =>
    if t.lgb.ackedSeq < uptoSeq then (err 0x04E0, t)
    else
      let n := (t.lgb.records.filter (fun r => decide (r.seq ≤ uptoSeq))).length
      let t := { t with lgb := { t.lgb with records := t.lgb.records.filter (fun r => decide (uptoSeq < r.seq)) } }
      let t := if n = 0 then t else t.log .control 0x0B02 2 0 0 { value := n, detail := le 8 uptoSeq }
      (ok (le 4 n), t))

end Sys2Proof.Machine
end

