-- ==== Sys2Proof/Machine/Time.lean ====
section
/-! DEFINITION. Chapter 14, device time: reading, stepping and slewing the wall time, and the MRAM copy of DMT. -/
namespace Sys2Proof.Machine

/-- The source has OWNER privilege (R482). -/
def State.ownerSource (s : State) (src : Src) : Bool :=
  match src with
  | .pcie q => (s.grant q).priv == 3
  | .framed t => match s.mgmtQueue t with
    | some q => (s.grant q).priv == 3
    | none => false
  | .jtag => false

/-- SLEW_PPM (R482). -/
def State.slewPpm (s : State) : Nat := if (s.sec 0x33).isEmpty then 100 else fld (s.sec 0x33) 0 2

/-- STEP_LIMIT_S; 0 for no limit (R482). -/
def State.stepLimit (s : State) : Nat := if (s.sec 0x33).isEmpty then 0 else fld (s.sec 0x33) 4 4

/-- The FLAGS of TIME_READ. -/
def State.timeFlags (s : State) : Nat := put 0 1 (b2n s.emb.wallSet) + put 1 1 (b2n s.emb.dmtGap) + put 2 1 (b2n s.emb.slew.isSome)

/-- TIME_READ. -/
def execTimeRead (h : Hdr) (s : State) : Res :=
  .next (commandR opTimeRead h true s fun _ t =>
    ok (le 8 t.now ++ le 8 (ofSigned 64 t.wall) ++ le 4 t.emb.opSeconds ++ le 2 t.emb.epoch ++ le 1 t.timeFlags ++ [0]))

/-- The OFFSET that a step to w at DMT d gives (R479). A difference outside the signed 64 bits is not stated: a free
value (log entry 3). -/
def State.stepOffset (s : State) (w : Int) (d : Nat) : Int :=
  let x := w - (d : Int) * 1000
  if -(2 ^ 63) ≤ x ∧ x < 2 ^ 63 then x else toSigned 64 (Config.freeValue s.draws)

/-- The reference value R of R479; none while nothing is below it to compare with. -/
def State.stepReference (s : State) : Int :=
  if !s.emb.wallSet then s.rfg.lastWall
  else if s.rfg.lastEpoch = s.emb.epoch then max s.wall s.rfg.lastWall else s.wall

/-- A step of the wall time to the offset x (R479): the size of the step, whether it is backward, and the state after. -/
def State.stepWall (s : State) (x : Int) : Int × Bool × State :=
  let old := s.wall
  let new := (s.now : Int) * 1000 + x
  let back := decide (new < s.stepReference)
  let size : Int := if s.emb.wallSet then new - old else 0
  let t := { s with emb := { s.emb with offset := x, wallSet := true, slew := none, stepHit := true } }
  let t := if back then
      (({ t with emb := { t.emb with epoch := t.emb.epoch + 1, epochHit := true } }).log .control 0x0905 2 0 0
        { detail := le 8 (ofSigned 64 old) ++ le 8 (ofSigned 64 new) }).timeMark
    else t
  (size, back, t.meterStep back)

/-- The status of a STEP that is refused; 0 when it is accepted (R480, R482). -/
def State.stepRefusal (s : State) (x : Int) (force : Bool) : Nat :=
  let new := (s.now : Int) * 1000 + x
  let lim := s.stepLimit
  if new < s.stepReference ∧ s.emb.epoch = 65535 then 0x0611
  else if lim ≠ 0 ∧ s.emb.wallSet ∧ !force ∧ lim * 1000000000 < (new - s.wall).natAbs then 0x0612
  else 0

/-- TIME_SET. -/
def execTimeSet (h : Hdr) (wallNs atDmt mode flags : Nat) (s : State) : Res :=
  .next (commandC (opTimeSet.on (le 8 wallNs ++ le 8 atDmt ++ le 1 mode ++ le 1 flags)) h (decide (mode ≤ 1 ∧ flags ≤ 3)) s fun h t =>
    let w := toSigned 64 wallNs
    let d := if atDmt = 0 then t.now else atDmt
    let c : Int := w - ((d : Int) * 1000 + t.offsetNow)
    if t.now < d ∨ (mode = 1 ∧ (!t.emb.wallSet ∨ 1000000000 < c.natAbs)) then (err 0x0102, t)
    else if flags ≠ 0 ∧ !t.ownerSource h.src then (err 0x0201, t)
    else
      let ack (u : State) : State := if flags.testBit 1 then { u with emb := { u.emb with dmtGap := false } } else u
      let answer (n : Int) (u : State) : Reply := ok (le 8 (ofSigned 64 n) ++ le 2 u.emb.epoch ++ zeros 6)
      if mode = 1 then
        let u := ack { t with emb := { t.emb with offset := t.offsetNow, slew := some { begun := t.now, base := t.offsetNow, total := c, ppm := t.slewPpm } } }
        (answer 0 u, u)
      else
        let x := t.stepOffset w d
        let st := t.stepRefusal x (flags.testBit 0)
        if st ≠ 0 then (err st, t)
        else
          let (size, _, u) := t.drawn.stepWall x
          (answer size u, ack u))

/-- TIME_SLEW_END: the whole correction has been applied (R481). -/
def execTimeSlewEnd (s : State) : Res :=
  match s.emb.slew with
  | none => .next s
  | some w =>
    if w.applied s.now = w.total then .next { s with emb := { s.emb with offset := w.base + w.total, slew := none } } else .next s

/-- DMT and OpSeconds are written to MRAM (R476, R477). -/
def State.writeDmt (s : State) : State :=
  { s with emb := { s.emb with mramDmt := s.now, mramOp := s.emb.opSeconds, mramAt := s.now } }

/-- DMT_CHECKPOINT. -/
def execDmtCheckpoint (s : State) : Res :=
  if s.boot.pwrOk ∧ s.emb.mramAt + 1000000 ≤ s.now then .next s.writeDmt else .next s

end Sys2Proof.Machine
end

