-- ==== Sys2Proof/Machine/Boot.lean ====
section
/-! DEFINITION. Chapter 2's rows: power, domains, the first stage, fallback, the lane bundle, the policy load and the end
of a Control Region restart. -/
namespace Sys2Proof.Machine

/-! ### Power (R46, R48, R456, R476, R477, R539) -/

/-- What a lane keeps in MRAM (R244). -/
def Lane.kept (l : Lane) : Lane :=
  { state := if l.state == .retired then .retired else .notReleased, fails := l.fails, lifetimeFails := l.lifetimeFails }

/-- The state with main power gone: what MRAM, OTP and the Ember Region hold, and everything else at its reset value
(R46). -/
def State.dark (s : State) : State :=
  { otp := s.otp, draws := s.draws, pending := s.pending
    emb := { s.emb with test := none, onMain := false, opSeconds := s.emb.mramOp, opUs := 0, batteryLossSeen := false,
                        stepHit := false, epochHit := false, quenchHit := false, tripHit := false, quenchAt := none, offset := s.offsetNow, slew := none,
                        sources := s.emb.sources.map (fun p => (p.1, { p.2 with events := 0, eventsStart := 0, lastTest := 0,
                                                                                active := p.2.active && watchedAlways p.1 })) }
    boot := { preferred := s.boot.preferred, copyA := s.boot.copyA, copyB := s.boot.copyB, grantEnded := s.boot.grantEnded || s.cru.granted, bundlePreferred := s.boot.bundlePreferred,
              headerPreferred := s.boot.headerPreferred, bundleA := s.boot.bundleA, bundleB := s.boot.bundleB, perst := s.boot.perst, fallAt := s.boot.fallAt }
    cru := { tableA := s.cru.tableA, tableB := s.cru.tableB, table := s.cru.table, cosignInForce := s.cru.cosignInForce, newKey := s.cru.newKey,
             lcState := s.cru.lcState, lcRecord := s.cru.lcRecord }
    pol := { slot0 := s.pol.slot0, slot1 := s.pol.slot1, committed := s.pol.committed, epoch := s.pol.epoch, commitDmt := s.pol.commitDmt,
             fallback := s.pol.fallback }
    fit := { wear := s.fit.wear, rings := s.fit.rings, wearLevel := s.fit.wearLevel, lastDaily := s.fit.lastDaily, verifyAt := s.fit.verifyAt }
    hma := { lanes := (List.range 18).foldl (fun t n => t.set n {} (s.lane n).kept) [] }
    rfg := { period := s.rfg.period, records := s.rfg.records, newestClosed := s.rfg.newestClosed, acked := s.rfg.acked, prev := s.rfg.prev,
             checkpoint := s.rfg.checkpoint, quenchDue := s.rfg.quenchDue }
    atr := { deviceCerts := s.atr.deviceCerts, slot1 := s.atr.slot1 }
    rfu := { journal := s.rfu.journal }
    cby := { lifeTable := s.cby.lifeTable }
    wwu := { iwd := { expiries := s.wwu.iwd.expiries } }
    spn := { mramSpare := s.spn.mramSpare, mramDegraded := s.spn.mramDegraded, service := putBit 0 5 s.spn.mramDegraded }
    lgb := { s.lgb with records := s.lgb.records.map s.closeStorm }.deviceStart }

/-- Battery RAM at its initial values (R456). -/
def Ember.ramInitial (e : Ember) : Ember :=
  { e with sources := e.sources.map (fun p => (p.1, { p.2 with ring := [] })), held := [], evPending := 0, pendingSat := false, latchCopy := false,
           offset := 0, wallSet := false, slew := none, tamperCopy := [], secret := [], ramBad := false, batteryLossSeen := true }

/-- The TAMPER section of the committed image in MRAM; empty where there is none. -/
def State.committedTamper (s : State) : Bytes :=
  match s.pol.committed with
  | some k => ((s.polSlot k).map (fun i => i.sec 0x32)).getD []
  | none => []

/-- DMT at a rise of PWR_OK: it carries on, or resumes past the last value in MRAM with DMT_GAP (R476, R478). Where battery RAM
is lost, the OWNER area takes the committed section again, and that section judges the event on TS14 (R450, log entry 127). -/
def State.settleDmt (s : State) : State :=
  let lost := s.emb.ramBad
  let s := if lost then { s with emb := { s.emb.ramInitial with tamperCopy := s.committedTamper } } else s
  let s := if lost || s.emb.xtalEvent then
      { s with emb := { s.emb with dmt := s.emb.mramDmt + 1000000, frac := 0, dmtGap := true, wallSet := false, slew := none,
                                   epoch := s.rfg.checkpoint.lastEpoch, xtalEvent := false } }
    else s
  let s := s.writeDmt
  if lost then s.tamperEvent 14 else s

/-- A device start begins (R45, R48, R476, R477, R458). -/
def State.startDevice (s : State) : State :=
  let s := s.dark
  let s := { s with boot := { s.boot with pwrOk := true, riseAt := s.now } }
  let s := s.settleDmt
  let s := { s with
    boot := { s.boot with riseAt := s.now }
    rfu := { s.rfu with resuming := (List.range 256).filter (fun n => s.rfu.journal.any (fun e => e.2.open_ && e.2.slot == n)) }
    wwu := { s.wwu with iwd := { s.wwu.iwd with running := true } }
    emb := { s.emb with onMain := true, powerCycles := satAdd 24 s.emb.powerCycles 1, mirror := s.emb.mirror || s.emb.latch || s.emb.latchCopy }
    spn := { s.spn with domains := 2, domainAt := s.now, clockRunning := 2 ^ 5, inReset := 0x7E - 2 ^ 5 } }
  s.forgeStart

/-- PWR_OK_RISE: the device start, once 50 µs have passed since the last fall (R539). -/
def execPwrOkRise (s : State) (ramFails : Bool := false) : Res :=
  if s.boot.pwrOk then .next s
  else
  let s := { s with emb := { s.emb with ramBad := s.emb.ramBad || ramFails } }
  match s.boot.fallAt with
    | none => .next s.startDevice
    | some t => if t + 50 ≤ s.now then .next s.startDevice else .next { s with boot := { s.boot with risePending := true } }

/-- Main power goes: every region but Ember is dark. -/
def State.losePower (s : State) : State :=
  { s with boot := { s.boot with fallAt := some s.now }, emb := s.emb.starve true }.dark

/-- PWR_OK_FALL (R46, R538). -/
def execPwrOkFall (s : State) : Res :=
  if s.boot.pwrOk then .next s.losePower else .next { s with boot := { s.boot with risePending := false } }

/-- BROWN_OUT (R539): a fall of PWR_OK at that instant, and an event on TS0 or TS3, whichever supply it was: a free value
(log entry 3). -/
def execBrownOut (s : State) : Res :=
  if s.boot.pwrOk then .next (s.losePower.drawn.tamperEvent (if Config.freeValue s.draws % 2 = 0 then 0 else 3)) else .next s

/-- The next domain may be switched on (R48, R519): those of the Control Region once the built-in default is applied, and
those of the Forge Region once the first stage requests it (Table 2-2). -/
def State.mayPower (s : State) : Bool :=
  s.boot.pwrOk && decide (s.spn.domains < 80 ∧ s.spn.domainAt + 20 ≤ s.now) &&
  (decide (s.spn.domains < 36) || (s.boot.guardUp && (decide (s.spn.domains < 54) || s.boot.forgeAsked)))

/-- GUARD_DEFAULT_APPLIED (R50): every slot, port and string holds its reset value. -/
def execGuardDefaultApplied (s : State) : Res :=
  if s.boot.pwrOk ∧ !s.boot.guardUp ∧ 36 ≤ s.spn.domains then
    .next { s with boot := { s.boot with guardUp := true }, spn := { s.spn with clockRunning := s.spn.clockRunning ||| 16, inReset := s.spn.inReset &&& (0x7E - 16) } }
  else .next s

/-! ### The Logbook at a start (R76, R445, R491) -/

/-- The TAMPER_TRIP records that battery RAM holds reach the Logbook, in order (R445). -/
def State.recordHeldTrips (s : State) : State :=
  let stage (g : Lgb) (h : HeldTrip) : Lgb :=
    g.stage { code := 0x0A01, rung := 0, cls := 8, idx := h.source, dmt := h.dmt, gap := s.emb.dmtGap, held := true,
              params := Quantities.layout { cause := h.response, value := h.count } h.dmt }
  { s with lgb := s.emb.held.foldl stage s.lgb, emb := { s.emb with held := [] } }

/-- The LC_TRANSITION record of a finished wipe, where it is still owed (Table 12-5). -/
def State.recordTransition (s : State) : State :=
  match s.cru.lcRecord with
  | some (old, new, r) =>
    ({ s with cru := { s.cru with lcRecord := none } }).log .control 0x0801 2 0 0 { index2 := r, value := old + 256 * new }
  | none => s

/-- The wipe that the owed LC_TRANSITION record tells of erased the Logbook: that record comes first (R501, Table 12-6; log
entry 107). -/
def State.logErased (s : State) : Bool :=
  match s.cru.lcRecord with
  | some (old, new, _) => decide (4 ≤ new) && !(old == 3 && new == 4)
  | none => false

/-- What the Logbook still owes of failed copies, of a finished wipe and of a debug grant that the device start ended (R76, R437,
Table 12-5). -/
def State.recordOwed (s : State) : State :=
  let fs := s.boot.failures
  let s := { s with boot := { s.boot with failures := [] } }
  let s := (fs.foldl (fun t f => t.log .control 0x0F04 3 0 0 { cause := f.2, index2 := f.1 }) s).recordTransition
  if s.boot.grantEnded then
    ({ s with boot := { s.boot with grantEnded := false } }).log .control 0x0803 2 0 0 { cause := 1, value := s.boot.debugAtStart }
  else s

/-- The Control Region and its Logbook run: the TIME_MARK of a device start comes first (R491). -/
def State.controlRuns (s : State) : State :=
  let s := { s with boot := { s.boot with controlUp := true }, lgb := { s.lgb with running := true } }
  let s := if s.logErased then s.recordTransition else s
  let s := if s.boot.timeMarked then s else { s.timeMark with boot := { s.timeMark.boot with timeMarked := true } }
  s.recordHeldTrips.releaseHeld.recordOwed

/-! ### The built-in default once more (R50, R421) -/

/-- Every slot is HELD with CHECKED 0, each change with its record; the wind-up channel of one that was RELEASED returns to
IDLE (R86, R88, R463). -/
def State.holdAll (s : State) (why : Reason) : State :=
  (List.range 256).foldl (fun t n => (if t.isReleased n then t.disarm n else t).setSlot n .held why false) s

/-- No policy is in force: every slot HELD, no string driven, every port in OWN with no tables but one that is FROZEN, and no
scan under way. -/
def State.builtIn (s : State) (why : Reason) : State :=
  let s := s.holdAll why
  { s with
    pol := { s.pol with loaded := false }
    strs := { s.strs with
      slots := s.strs.slots.map (fun p => (p.1, { state := p.2.state, checked := p.2.checked, reason := p.2.reason, changedAt := p.2.changedAt, holds := p.2.holds })), edges := [],
              strs := s.strs.strs.map (fun p => (p.1, { p.2 with driven := false, slack := false, due := none })),
              bus0 := {}, bus1 := {}, bus2 := {}, bus3 := {}, cutShort := [], latched := [] }
    apa := { s.apa with ports := s.apa.ports.map (fun p => (p.1, { p.2 with mode := if p.2.mode == .frozen then .frozen else .own, pending := .none, bank0 := {}, bank1 := {}, swapPending := false,
                                                                            window := none, resetLow := true })) }
    fit := { s.fit with scans := [] } }

/-! ### The first stage (R53 to R59) -/

/-- The debug state at start (Table 2-3). -/
def debugAtStart (lc : Nat) : Nat := if lc ≤ 2 then 1 else if lc = 5 then 2 else 0

/-- The life-cycle state is decoded, a codeword finished and a pending wipe completed (R54, R55, R413). -/
def State.firstLc (s : State) : State :=
  let (lc, fix) := s.decodeLc
  let s := match fix with
    | some i => s.blowCodeword lc i
    | none => s
  let s := { s with cru := { s.cru with lcState := lc, debugLevel := debugAtStart lc }, boot := { s.boot with debugAtStart := debugAtStart lc } }
  match s.newestRecord with
  | some i =>
    let r := s.otpWord (4 + i)
    match recordTarget r with
    | some t => if !twoBits r 62 && t == lc then s.wipe t i else s
    | none => s
  | none => s

/-- Unfinished counters are completed, and pending evidence positions blown (R72, R434, R452). -/
def State.firstCounters (s : State) : State :=
  let s := ([0, 1, 2, 3] : List Nat).foldl (fun t c => t.fillCounter (96 + 2 * c) 128) s
  let s := s.fillCounter 104 512
  let s := (List.range s.emb.evPending).foldl (fun t _ => t.countEvidence) s
  { s with emb := { s.emb with evPending := 0 } }

/-- A DRBG instance starts: it generates from fresh entropy, or has stopped. -/
def Drbg.begin (now : Nat) (good : Bool) : Drbg :=
  if good then Drbg.reseeded now else { stoppedAt := now, lastReseed := now }

/-- The entropy source starts, with D0 alone in a Control Region restart (R432, R433). -/
def State.startEntropy (s : State) (all good : Bool) : State :=
  let c := { s.cru with d0 := Drbg.begin s.now good }
  let c := if all then { c with d1 := Drbg.begin s.now good, d2 := Drbg.begin s.now good, d3 := Drbg.begin s.now good } else c
  let gen := c.d0.generating && c.d1.generating && c.d2.generating && c.d3.generating
  { s with cru := { c with entropy := if c.entropy == .failed then .failed else if gen then .good else .degraded,
                           entropyHit := c.entropyHit || !good } }

/-- The owner table in force: the first copy whose MAC verifies (R427). A table that no MAC covers yet gets its MAC. -/
def State.openTable (s : State) : State :=
  if s.cru.awaitPowerCycle then s
  else if s.cru.tableA.mac.isEmpty then s.writeTable s.cru.tableA
  else if s.cru.tableA.mac = s.tableMac s.cru.tableA then { s with cru := { s.cru with table := s.cru.tableA } }
  else if s.cru.tableB.mac = s.tableMac s.cru.tableB then { s with cru := { s.cru with table := s.cru.tableB } }
  else ({ s with cru := { s.cru with table := {} } }).log .guard 0x0805 2 0 0

/-- The keys of a device start, while the UDS is not locked (R346, R347, R459): none that the owner secret gives while a power
cycle is awaited, and only the owner table MAC key while quenched. -/
def State.firstKeys (s : State) (fsp : Bytes) : State :=
  if s.cru.udsLocked then s
  else
  let s := { s with atr := { s.atr with fspDigest := sha384 fsp } }
  let s := s.deriveDeviceId.openLadder
  let s := if s.cru.awaitPowerCycle then s else s.deriveOwnerKeys
  if s.quenched then s.eraseSigningKeys else s

/-- A Warden image starts from a copy (R60), the UDS locked before (R346): where it came from is WARDEN_SRC. After a restart the start goes on where it
was; once OPERATIONAL has been reached, the restart ends with CONTROL_RESTART_COMPLETE, and the lane bundle stays in force
(R47). -/
def State.startWarden (s : State) (c src : Nat) : State :=
  let image := (s.warden c).image
  let first := !s.boot.bundleIn
  let s := { s with
    boot := { s.boot with imageUp := true, wardenSrc := src, runCopy := c, runHeader := image.take 512, fwVersion := fld image 0x10 4,
                          cosigned := ownerCosigned image && !(s.cosigners image).isEmpty,
                          phase := if first then .bundleLoad else if s.boot.reached then .controlRestart else .policyLoad, bundleTried := [] }
    atr := { s.atr with wardenMeas := sha384 (slice image 0 0x50) }
    cru := { s.cru with udsLocked := true }
    wwu := { s.wwu with iwd := { s.wwu.iwd with running := true } }
    spn := if s.spn.temper == .startup then
        { s.spn with temper := .tracking, vcoreMv := if s.spn.vcoreMv = 0 then 800 else s.spn.vcoreMv, calmSince := s.now } else s.spn }
  if s.boot.reached then s else s.controlRuns

/-- The copies are tried in the order of R59; a copy that fails is marked FAILED with its cause. -/
def State.tryCopies (s : State) (cs : List Nat) : State × Option Nat :=
  cs.foldl (fun r c =>
    match r.2 with
    | some _ => r
    | none =>
      let w := r.1.warden c
      if w.state != .valid then r
      else match r.1.checkWarden w.image with
        | none => (r.1, some c)
        | some f => ((r.1.updWarden c (fun w => { w with state := .failed })).bootFailure c f, none)) (s, none)

/-- The search of the recovery cartridges begins at slot 0 (R73, R74). -/
def State.beginSearch (s : State) : State := { s with boot := { s.boot with phase := .cartridgeSearch, searched := 0, searchAt := s.now } }

/-- The copies are verified once the Forge Region's digest lanes are up (R58, R59, R73). -/
def State.verifyCopies (s : State) : State :=
  match s.tryCopies [s.boot.preferred, 1 - s.boot.preferred] with
  | (t, some c) => t.startWarden c (if t.boot.serialCopy = some c then 3 else c)
  | (t, none) => t.controlRuns.beginSearch

/-- The first-stage copy that the active pair runs: the second one after an uncorrectable ECC error in the first, which is
then a failure of this start (R53; log entry 80). -/
def State.startFsp (s : State) (eccError : Bool) : State :=
  if eccError then { s with boot := { s.boot with fspVector := 0x20000, cause := if s.boot.cause = 0 then BootCause.ecc.code else s.boot.cause } }
  else { s with boot := { s.boot with fspVector := 0 } }

/-- FIRST_STAGE, at a device start once the Control Region is up, or in a Control Region restart. It requests the Forge
Region, unless the part is SCRAPPED (R56, Table 2-2), and goes on to the Warden copies when that region is up. -/
def execFirstStage (fsp : Bytes) (entropyGood : Bool) (s : State) (eccError : Bool := false) : Res :=
  let fresh := s.boot.phase == .firstStage
  if !s.boot.pwrOk || s.boot.imageUp || s.boot.absent || !(fresh || s.boot.phase == .controlRestart) then .next s
  else
    let s := (s.startFsp eccError).firstLc
    if s.cru.lcState = 6 then
      .next { s.builtIn .powerOn with boot := { s.boot with phase := .scrapped, controlUp := false } }
    else
      let s := s.firstCounters
      let s := s.startEntropy (!s.cru.udsLocked) entropyGood
      let s := if s.cru.udsLocked then s else (s.firstKeys fsp).openTable
      let s := { s with cru := { s.cru with cosignInForce := s.cru.table.cosign } }
      let s := { s with boot := { s.boot with forgeAsked := true, phase := if fresh then .lcComplete else .controlRestart } }
      .next (if s.boot.forgeUp then s.verifyCopies else s)

/-- The digest lanes of the last domain switched on that fail their self-test are not released (R68, Table 16-2). -/
def State.releaseDigest (s : State) (d digestFails : Nat) : State :=
  if 72 ≤ d ∧ d < 76 then
    ([2 * (d - 72), 2 * (d - 72) + 1] : List Nat).foldl (fun t l =>
      if digestFails.testBit l then { t with bde := { t.bde with lanes := t.bde.lanes.set l {} { outOfService := true } } } else t) s
  else s

/-- DOMAIN_SWITCH_ON (R519), with the digest lanes that fail the self-test at their domain's power-up. -/
def execDomainSwitchOn (s : State) (digestFails : Nat := 0) : Res :=
  if s.mayPower then
    let n := s.spn.domains + 1
    let s := { s with spn := { s.spn with domains := n, domainAt := s.now } }
    if n = 54 then
      .next { s with boot := { s.boot with phase := .firstStage, linkTraining := !s.boot.perst },
                     spn := { s.spn with clockRunning := s.spn.clockRunning ||| (2 + 4 + 8 + 64), inReset := s.spn.inReset &&& 16 } }
    else if n = 80 then
      let s := { s with boot := { s.boot with forgeUp := true } }.closeQuenched
      .next (if s.boot.forgeAsked ∧ !s.boot.imageUp then s.verifyCopies else s)
    else .next (s.releaseDigest (n - 1) digestFails)
  else .next s

/-! ### When every copy fails (R73 to R75) -/

/-- Nothing further is found in a cartridge slot: the next one, or the serial loader after the last. -/
def State.nextCartridge (s : State) : State :=
  let n := s.boot.searched + 1
  if n < 4 then { s with boot := { s.boot with searched := n, searchAt := s.now } }
  else { s with boot := { s.boot with searched := n, phase := .serialLoader, peerSeen := false, lastStatusFrame := s.now } }

/-- The device-firmware set of a cartridge slot holds these bytes as an entry of the given kind (1 Warden image, 2 lane
bundle): its catalogue lists one with their digest (R73, R404). -/
def State.cartHolds (s : State) (slot kind : Nat) (image : Bytes) : Bool :=
  ((s.cby.slots.get slot {}).entries).any (fun e => e.kind == kind && e.digest == sha384 image)

/-- The 2 s that a cartridge is allowed from its identification to a result have passed (R73). They run from the start of its
search where it had been identified before; a cartridge not yet identified is waited for. -/
def State.searchOver (s : State) (slot : Nat) : Bool :=
  let x := s.cby.slots.get slot {}
  (x.state == .ready || x.state == .asleep || x.state == .inUse) && decide (max x.identAt s.boot.searchAt + 2000000 < s.now)

/-- CARTRIDGE_SEARCH: the next image that the slot's device-firmware set holds, or no bytes when it holds no more. A slot
whose 2 s are over has no result (R73, R74). -/
def execCartridgeSearch (slot : Nat) (image : Bytes) (s : State) : Res :=
  if s.boot.phase ≠ .cartridgeSearch ∨ slot ≠ s.boot.searched then .next s
  else if image.isEmpty || s.searchOver slot then .next s.nextCartridge
  else if !s.boot.imageUp then
    if !s.cartHolds slot 1 image || (s.checkWarden image).isSome then .next s
    else
      let c := searchCopy s.boot.copyA.state s.boot.copyB.state
      .next ((s.updWarden c (fun _ => { state := .valid, image := image })).startWarden c 2)
  else if !s.cartHolds slot 2 image || (s.checkBundle image).isSome then .next s
  else
    let c := searchCopy s.boot.bundleA.state s.boot.bundleB.state
    let s := s.writeBundle c image
    .next { s with boot := { s.boot with phase := .bundleLoad, bundleTried := [1 - c], header := { s.boot.header with preferred := c } } }

/-- SERIAL_STATUS_FRAME: once a second until a peer answers (R75). -/
def execSerialStatusFrame (s : State) : Res :=
  if s.boot.phase = .serialLoader ∧ !s.boot.peerSeen ∧ s.boot.lastStatusFrame + 1000000 ≤ s.now then
    .next { s.drawn with boot := { s.boot with lastStatusFrame := s.now }, io := { s.io with frame := Config.statusFrame s.draws } }
  else .next s

/-! ### The lane bundle (R63 to R69) -/

/-- The lanes after their microcode self-test: HL11 and HL17 spares, a lane that the manifest names no microcode for or
that failed NOT_RELEASED, the latter with a failure counted, and spares promoted in place of the lanes that stay out (R68,
R69, R243, R245, R267). -/
def State.releaseLanes (s : State) (es : List BundleEntry) (fails : Nat) : State :=
  let out (n : Nat) : Bool := fails.testBit n || !entryFor es 1 n
  let s := (List.range 18).foldl (fun t n => t.updLane n (fun l =>
    if l.state == .retired then l
    else { l with state := if out n then .notReleased else if n = 11 ∨ n = 17 then .spare else .active,
                  standsFor := 31, opsDone := 0, sinceFail := 0 })) s
  let s := (List.range 18).foldl (fun t n => if entryFor es 1 n && fails.testBit n && (t.lane n).state != .retired then t.laneFails n else t) s
  let s := (List.range 18).foldl (fun t n =>
    if ((t.lane n).state == .retired || out n) && n != 11 && n != 17 && !t.replaced n then t.promoteSpare n else t) s
  s.placeWork

/-- The decoder pair of port p after the load of its tables, of which bits p and 16 + p of diff say that they differed at the
first and at the second comparison: released where the bundle holds a table and both decoders hold it; FROZEN where they differ
after the reload; else in OWN under the built-in default (R68, R69). -/
def State.loadDecoders (s : State) (es : List BundleEntry) (diff p : Nat) : State :=
  if !entryFor es 2 p then s
  else if diff.testBit p && diff.testBit (16 + p) then s.freezePort p (zeros 16)
  else s.updPort p (fun x => { x with decoders := true })

/-- A bundle copy has been accepted: it is in force until the next device start (R68, R69). -/
def State.takeBundle (s : State) (image : Bytes) (laneFails portFails : Nat) : State :=
  let s := { s.writeBundle s.boot.bundleCopy image with
    hma := { s.hma with bundleSvn := bundleSvn image, mcBuild := Config.bundleNumber 4 image }
    atr := { s.atr with bundleMeas := sha384 (Config.bundleManifest image) } }
  let s := { s with boot := { s.boot with bundleIn := true, phase := .policyLoad } }
  let s := s.deriveAttKey
  let s := s.releaseLanes (bundleEntries image) laneFails
  (List.range 16).foldl (fun t p => t.loadDecoders (bundleEntries image) portFails p) s

/-- The loader reads the boot header once in a device start, and takes its read command and clock from it (R64, R65). PREFERRED
is what FW_ACTIVATE last wrote there (R81). -/
def State.takeHeader (s : State) (reads : List Bytes) : State :=
  if s.boot.header.read then s
  else
    let h := readHeader reads
    let h := if h.good then { h with preferred := s.boot.headerPreferred.getD h.preferred } else h
    { s with boot := { s.boot with header := h, loadOpcode := h.readMode.1, loadMhz := h.readMode.2, bundlePreferred := h.preferred
                                   bundleA := if h.good && h.blocksA == 0 then {} else s.boot.bundleA
                                   bundleB := if h.good && h.blocksB == 0 then {} else s.boot.bundleB } }

/-- The blocks of the copy that is loaded: as many as the header gives, and all that were read when it is not good. -/
def State.blocksRead (s : State) (c : Nat) (blocks : List (List Bytes)) : List (List Bytes) :=
  if s.boot.header.good then (List.range (s.boot.header.blocks c)).map (fun i => blocks.getD i []) else blocks.take 768

/-- No bundle copy is left to try: the cartridges are searched (R74). -/
def State.searchBundle (s : State) : State := s.beginSearch

/-- A bundle copy fails with a cause; the next one is tried, or the cartridges are searched (R67, R74). -/
def State.bundleFails (s : State) (c : Nat) (f : BootCause) : State :=
  let s := (s.setBundle c { s.bundle c with state := .failed }).bootFailure (2 + c) f
  let s := { s with boot := { s.boot with bundleTried := s.boot.bundleTried ++ [c] } }
  if s.nextBundle.isNone then s.searchBundle else s

/-- BUNDLE_LOAD_COMPLETE: the reads made of the boot header's block, the blocks of the copy tried next, each with the reads made of it,
the Hammer lanes whose self-test failed, and the ports whose tables differed at the first (bits 15:0) and at the second
comparison (bits 31:16). -/
def execBundleLoadComplete (header : List Bytes) (blocks : List (List Bytes)) (laneFails portFails : Nat) (s : State) : Res :=
  if s.boot.phase ≠ .bundleLoad ∨ !s.boot.imageUp then .next s
  else
    let old := s
    let s := s.takeHeader header
    match s.nextBundle with
    | none => .next s.searchBundle
    | some c =>
      let s := { s with boot := { s.boot with bundleCopy := c } }
      match readBlocks (s.blocksRead c blocks) with
      | none => .next (s.bundleFails c .bundleCrc)
      | some b =>
        match s.checkBundle b with
        | some f => .next (s.bundleFails c f)
        | none => .next (State.noteService old (s.takeBundle b laneFails portFails))

/-! ### The policy load (R164) -/

/-- The committed image, or the one that R164 falls back to, with the slot; each refusal is logged. -/
def State.chooseImage (s : State) (verdicts : Nat) : State × Option (Nat × Bool) :=
  let refuse (t : State) (k st : Nat) : State := t.log .control 0x0203 1 0 0 { cause := st, index2 := k }
  match s.pol.committed with
  | none => (s, none)
  | some k =>
    let (first, s) := match s.polSlot k with
      | some i => let r := s.judgeImage true i.raw verdicts; (r.1.1, r.2)
      | none => (0x0541, s)
    if first = 0 then (s, some (k, false))
    else
      let s := refuse s k first
      match s.polSlot (1 - k) with
      | none => (s, none)
      | some i =>
        if !i.wasCommitted then (s, none)
        else
          let r := s.judgeImage true i.raw (verdicts / 16)
          if r.1.1 = 0 then (r.2, some (1 - k, true)) else (refuse r.2 (1 - k) r.1.1, none)

/-- The tables of an image are loaded into every port (R165), and each device's shadow holds its reset defaults (R134). -/
def State.loadPorts (s : State) (i : Image) : State :=
  (List.range 16).foldl (fun t p =>
    let b := i.bankFor t.pol.epoch p
    t.updPort p (fun x => { x with bank0 := b, active := 0, dev0 := x.dev0.reset b, dev1 := x.dev1.reset b })) s

/-- The flash state record of every bound device, as its leaves stand (R220, R232). -/
def State.recordDevices (s : State) : State :=
  (List.range 32).foldl (fun t d => if (t.deviceSlot d).isSome then t.updateRecord d else t) s

/-- The slots at a start under a policy: undefined ones ABSENT, the others CHECKING, and those with an OPEN or REMEASURE
record RESUMING (R395, Table 3-2); and the records of their devices. -/
def State.loadSlots (s : State) : State :=
  let s := { s.recordDevices with rfu := { s.rfu with resuming := (List.range 256).filter (fun n => (s.slotDevices n).any (fun d => (s.journal d).open_)) } }
  (List.range 256).foldl (fun t n => if t.slotDefined n then t.enterChecking n .start else t.setSlot n .absent .none false) s

/-- What follows OPERATIONAL or NO_POLICY at the end of a start or restart: pattern keys and alerts that waited (R456, Table
13-2), and NO_STANDBY as the pairs stand (Table 16-3). -/
def State.reachOperational (s : State) : State :=
  let s := if s.emb.secret.isEmpty ∧ s.cru.d0.generating then { s.useD0.drawn with emb := { s.emb with secret := s.random 512 } } else s
  let n := s.emb.lateAlert
  let s := (List.range n).foldl (fun t _ => t.tellManagers 0x0A01 0) { s with emb := { s.emb with lateAlert := 0 } }
  s.setService 3 (!s.spn.standbyReady)

/-- OPERATIONAL or NO_POLICY is reached at a device start. -/
def State.finishStart (s : State) (ph : Phase) : State :=
  let s := { s with boot := { s.boot with phase := ph, reached := true, elapsedUs := s.now - s.boot.riseAt } }
  let s := if ph = .operational then s.imageOperational else s
  let s := s.reachOperational
  let s := s.refreshCed
  let s := s.startPeriod_
  s.recompute.settleAll

/-- POLICY_LOAD: it waits for the lanes that verify the image (R254, R259). -/
def execPolicyLoad (s : State) (verdicts : Nat := 0) : Res :=
  if s.boot.phase ≠ .policyLoad then .next s
  else
    .next (ownRow s fun s =>
    let old := s
    match s.chooseImage verdicts with
    | (t, none) => (t.builtIn .noPolicy).finishStart .noPolicy
    | (t, some (k, fb)) =>
      let t := if fb then t.commitRecord k true else { t with pol := { t.pol with loaded := true } }
      let i := t.image.getD {}
      let t := t.loadPorts i
      let t := (t.applySections old).applyStrings old
      t.loadSlots.finishStart .operational)

/-- WARDEN_COPY_REPAIR (R62). -/
def execWardenCopyRepair (s : State) : Res :=
  let o := 1 - s.boot.runCopy
  if s.boot.imageOp ∧ s.boot.controlUp ∧ (s.warden o).state = .failed then
    let s := s.updWarden o (fun _ => { state := .valid, image := (s.warden s.boot.runCopy).image })
    let s := { s with boot := { s.boot with repaired := true } }
    .next (s.log .control 0x0F05 5 0 0 { index2 := o })
  else .next s

/-! ### Certificates (R348, R349, R459) -/

/-- The hexadecimal digits of bytes, in ASCII. -/
def hexDigits (b : Bytes) : Bytes :=
  let digit (n : Nat) : Byte := byte (if n < 10 then 48 + n else 87 + n)
  b.flatMap (fun x => [digit (x.toNat / 16), digit (x.toNat % 16)])

/-- The common name of a role whose public key is given (R349). -/
def commonName (role : String) (key : Bytes) : Bytes := ascii ("VG2560 " ++ role ++ " ") ++ hexDigits (kidOf key)

/-- The serial number of a subject's certificate (R349). -/
def serialOf (key : Bytes) : Bytes :=
  match slice (sha384 key) 0 19 with
  | b :: bs => byte (b.toNat % 128) :: bs
  | [] => []

/-- The Alias certificate's body (Table 10-2). -/
def State.attBody (s : State) : CertBody :=
  { serial := serialOf s.cru.pubs.attKey, issuer := commonName "DeviceID" s.cru.pubs.deviceId,
    subject := commonName "Alias" s.cru.pubs.attKey, isCa := true, pathLen := some 0, keyCertSign := true,
    keyAlgorithm := "id-ecPublicKey", key := s.cru.pubs.attKey, fwids := [s.atr.wardenMeas, s.atr.bundleMeas],
    svn := some (wardenSvn s.boot.runHeader), debugFlag := s.boot.debugAtStart != 0 }

/-- A receipt or metering key's certificate body (Table 10-2). -/
def State.leafBody (s : State) (role algorithm : String) (key : Bytes) : CertBody :=
  { serial := serialOf key, issuer := commonName "Alias" s.cru.pubs.attKey, subject := commonName role key,
    keyAlgorithm := algorithm, key := key }

/-- The five leaf certificates' bodies. -/
def State.leafBodies (s : State) : List CertBody :=
  let p := s.cru.pubs
  if s.cru.store.receipt384.isEmpty then [] else
    [s.leafBody "ES384" "id-ecPublicKey" p.receipt384, s.leafBody "ES256" "id-ecPublicKey" p.receipt256,
     s.leafBody "EdDSA" "1.3.101.112" p.receiptEd, s.leafBody "ML-DSA-65" "2.16.840.1.101.3.4.3.18" p.receiptPq,
     s.leafBody "METER" "id-ecPublicKey" p.metering]

/-- A certificate: its body and the issuer's signature over it, drawn as draw k. -/
def certificate (b : CertBody) (issuer : Bytes) (k : Nat) : Bytes :=
  Config.derCert (Config.derTbs b) (signature algP384 issuer [] (Config.derTbs b) k 96)

/-- The Crucible signs this body with the DeviceID key: it holds the Alias public key and the measurements that the first
stage latched (R348). -/
def State.deviceIdSigns (s : State) (b : CertBody) : Bool :=
  !s.cru.store.deviceId.isEmpty && b.key == s.cru.pubs.attKey && b.fwids == [s.atr.wardenMeas, s.atr.bundleMeas]

/-- n signatures of the device's own run on the Hammer array; digit i of tries in base 4 gives the lanes that fail signature
i. Whether all succeeded (R348, R260). -/
def State.signRun (s : State) : Nat → Nat → Bool × State
  | 0, _ => (true, s)
  | n + 1, tries =>
    let r := s.runOwn 0x02 3 [] (tries % 4)
    if r.1 then r.2.signRun n (tries / 4) else r

/-- CERTIFICATE_BUILD. -/
def execCertificateBuild (s : State) (attempts : Nat := 0) : Res :=
  if !s.boot.reached ∨ !s.boot.controlUp ∨ s.atr.certsReady ∨ !s.deviceIdSigns s.attBody then .next s
  else if s.hammerUnavailable || !s.clusterDrbg then .next s
  else
    .next (ownRow s fun s =>
    match s.signRun (1 + s.leafBodies.length) attempts with
    | (false, t) => t
    | (true, t) =>
      let st := t.cru.store
      let cert := certificate t.attBody st.deviceId t.draws
      let t := { t.drawn with cru := { t.cru with store := { st with deviceId := [] } } }
      let leaves := t.leafBodies.map (fun b => certificate b st.attKey t.draws)
      let t := { t.drawn with atr := { t.atr with attCert := cert, leafCerts := leaves, certsReady := true } }
      if t.quenched then t.eraseSigningKeys else t)

/-! ### The end of a Control Region restart (R16, R108, R472, R511) -/

/-- An action latched during the restart is carried out (Table 16-5). -/
def State.actOn (s : State) (l : Latched) : State :=
  match l with
  | .pgLoss n => if !s.isReleased n then s else if s.pgAction n = 1 then s.holdSlot n .pgLoss else s.recoverSlot n .pgLoss false
  | .violations n => s.recoverHeld n .violations
  | .leafMismatch n => s.recoverHeld n .leafMismatch
  | .tamperHold => s.holdPlatform
  | .coupledHold n => s.holdCoupled n
  | .wrongPart n => if (s.slot n).state = .checking then s.quarantine n .rootMismatch else s

/-- The slots whose sequences the restart cut short (R108). -/
def State.resumeStrings (s : State) : State :=
  let cut := s.strs.cutShort
  let s := { s with strs := { s.strs with cutShort := [] } }
  cut.foldl (fun t c =>
    if c.2 then
      if t.isReleased c.1 then (t.holdSlot c.1 .controlRestart).updSlot c.1 (fun x => { x with restore := true }) else t
    else t.holdTrigger c.1) s

/-- CONTROL_RESTART_COMPLETE. -/
def execControlRestartComplete (s : State) : Res :=
  if s.boot.phase ≠ .controlRestart ∨ !s.boot.imageUp then .next s
  else
    let old := s
    let s := s.controlRuns
    let has := s.image.isSome
    let s := if has then s else s.builtIn .noPolicy
    let s := { s with boot := { s.boot with phase := if has then .operational else .noPolicy } }
    let s := (if has then s.imageOperational else s).resumeStrings
    let acts := s.strs.latched
    let s := acts.foldl State.actOn { s with strs := { s.strs with latched := [] } }
    let s := s.resumeChannels.resumeOps
    let s := (List.range 256).foldl (fun t n => t.judgeSlot n) s
    let s := s.reachOperational.refreshCed
    let s := s.startPeriod_
    .next (State.noteService old s.settleAll)

end Sys2Proof.Machine
end

