-- ==== Sys2Proof/Machine/Firmware.lean ====
section
/-! DEFINITION. Chapter 2's firmware updates: the ZCP commands of Table 2-13 and the PLDM Type 5 device of R82. The PLDM
completion codes and field orders are those of DSP0267 (PRESUMED, log entry 25). -/
namespace Sys2Proof.Machine

/-! ### Copies (R79) -/

/-- The copy of a component (1 Warden image, 2 lane bundle) that is running; none while none does. -/
def State.copyRunning (s : State) (component : Nat) : Option Nat :=
  if component = 1 then (if s.boot.imageUp then some s.boot.runCopy else none)
  else if s.boot.bundleIn then some s.boot.bundleCopy else none

/-- The copy (0 A, 1 B) that TARGET names (R79); none when it may not be written. While no copy of the component runs, TARGET 0
names the copy that the searches of R73 and R74 would write: a DESIGN CHOICE (log entry 112). -/
def State.stageTarget (s : State) (component target : Nat) : Option Nat :=
  match target with
  | 0 =>
    match s.copyRunning component with
    | some c => some (1 - c)
    | none => some (if component = 1 then searchCopy s.boot.copyA.state s.boot.copyB.state else searchCopy s.boot.bundleA.state s.boot.bundleB.state)
  | t => if s.copyRunning component = some (t - 1) then none else some (t - 1)

/-- A copy is emptied while it is written (R79). -/
def State.emptyCopy (s : State) (component c : Nat) : State :=
  if component = 1 then s.updWarden c (fun _ => {})
  else
    let s := s.setBundle c { staging := true }
    { s with boot := { s.boot with header := s.boot.header.setBlocks c 0 } }

/-- A copy that has been written and verified (Table 2-13). -/
def State.writeCopy (s : State) (component c : Nat) (image : Bytes) : State :=
  if component = 1 then
    let s := s.updWarden c (fun _ => { state := .valid, image := image })
    if s.boot.phase = .serialLoader then { s with boot := { s.boot with serialCopy := some c } } else s
  else s.writeBundle c image

/-- The checks that a component's image has to pass (R78). -/
def State.checkComponent (s : State) (component : Nat) (image : Bytes) : Option BootCause :=
  if component = 1 then s.checkWarden image else s.checkBundle image

/-- The checks of R78 with the P-384 signatures verified on lanes, as far as the checks before them let it come to that: the
maker's, and the owner's co-signature after the maker's LMS signature, which a shared Bellows lane verifies (R58, R246, R259). -/
def State.judgeComponent (s : State) (component : Nat) (image : Bytes) (verdicts : Nat) : Option BootCause × State :=
  let c := s.checkComponent component image
  if c = some .format ∨ c = some .manifest ∨ (component = 1 ∧ (c = some .rollback ∨ c = some .digest)) then (c, s)
  else
    let r := s.verdict 0x04 (c != some .makerEcdsa) (verdictCode verdicts 0)
    if !r.1 then (some .makerEcdsa, r.2)
    else if component = 1 && s.boot.bundleIn && !s.sharesLane then (some .makerLms, r.2.lacks .bellows)
    else if c = some .makerLms ∨ component ≠ 1 ∨ !(ownerCosigned image || s.cru.cosignInForce) then (c, r.2)
    else
      let q := r.2.verdict 0x04 (c != some .ownerEcdsa) (verdictCode verdicts 1)
      (if q.1 then c else some .ownerEcdsa, q.2)

/-- The state of a copy. -/
def State.copyState (s : State) (component c : Nat) : CopyState := if component = 1 then (s.warden c).state else (s.bundle c).state

/-- The security version of a copy. -/
def State.copySvn (s : State) (component c : Nat) : Nat := if component = 1 then wardenSvn (s.warden c).image else (s.bundle c).svn

/-- A copy is made preferred. -/
def State.prefer (s : State) (component c : Nat) : State :=
  if component = 1 then { s with boot := { s.boot with preferred := c } } else { s with boot := { s.boot with bundlePreferred := c, headerPreferred := some c } }

/-- The preferred copy of a component. -/
def State.preferredCopy (s : State) (component : Nat) : Nat := if component = 1 then s.boot.preferred else s.boot.bundlePreferred

/-- s with the update in progress set. -/
def State.setUpdate (s : State) (u : Option Update) : State := { s with boot := { s.boot with update := u } }

/-- The update in progress ends, and with it a yield that it makes (R44, R83). -/
def State.endUpdate (s : State) : State := (s.setUpdate none).yieldEnd .control 0 0

/-- An operation of a recovery needs the Cartridge Bay, to search cartridges or to read blocks from one, or MRAM write
bandwidth, for the marks of its journal record (R84, R383, R386, R393). -/
def State.recoveryNeeds (s : State) (o : RfuOp) : Bool :=
  o.position.isSome &&
  ((o.phase == .search && (s.recoveryFlags o.slot).testBit 2) || o.phase == .write ||
   (o.phase == .waitPort && decide (o.source = 0) && !(s.toStage o).isEmpty))

/-- A firmware update yields to a recovery (R84). -/
def State.updateYields (s : State) : Bool := s.rfu.ops.any s.recoveryNeeds

/-! ### ZCP commands (Table 2-13) -/

/-- The reply of an update's command that has yielded to a recovery and was carried out late (R42, R84). -/
def Reply.yielded (r : Reply) : Reply := if r.status = 0 then { r with status := 0x0801, rung := 3 } else r

/-- What FW_STAGE does with an image once it need not yield: the copy is emptied, the image checked, and the copy written. A
refused image leaves the copy EMPTY and ends the update. -/
def State.stageImage (s : State) (u : Update) : Reply × State :=
  let s := s.emptyCopy u.component (u.copy - 1)
  if s.boot.bundleIn ∧ s.hammerUnavailable then (err 0x0360, s.endUpdate)
  else match s.judgeComponent u.component u.image u.verdicts with
  | (some f, s) => (err (Config.imageStatus f.code), s.endUpdate)
  | (none, s) => (ok, (s.writeCopy u.component (u.copy - 1) u.image).setUpdate (some { u with image := [], waiter := none, lastProgress := s.now }))

/-- What FW_ACTIVATE does: the copy is preferred, and a Warden image restarts the Control Region. -/
def State.activateCopy (s : State) (component copy : Nat) : Reply × State :=
  if s.copyState component (copy - 1) ≠ .valid then (err (Config.imageStatus 12), s.endUpdate)
  else
    let s := (s.prefer component (copy - 1)).endUpdate
    (ok, if component = 1 then s.askRestart else s)

/-- FW_STAGE. It waits while a recovery needs what it needs (R84). The yield names DEVICE 0 as its resource, for Table 15-2 has
no class for MRAM write bandwidth: a DESIGN CHOICE (log entry 94). -/
def execFwStage (h : Hdr) (component target length hostAddr : Nat) (data : Bytes) (s : State) (verdicts : Nat := 0) : Res :=
  let data := s.inputOf h (if s.boot.phase == .serialLoader then 0 else hostAddr) length data
  .next (command (opFwStage.on (le 1 component ++ le 1 target ++ zeros 2 ++ le 4 length ++ le 8 hostAddr)) h (decide (1 ≤ component ∧ component ≤ 2 ∧ target ≤ 2) && (s.boot.phase == .serialLoader || s.readAddrOk h hostAddr length)) s (ownBody fun h t =>
    if component = 2 ∧ t.islandStopped 2 then (none, t.waitIsland h 2)
    else if t.boot.update.isSome then (some (err 0x0410), t)
    else match t.stageTarget component target with
      | none => (some (err 0x0411), t)
      | some c =>
        let via : UpdateVia := if t.boot.phase = .serialLoader then .serial else .zcp
        let u : Update := { via := via, component := component, copy := c + 1, lastProgress := t.now, image := fixLen length data, verdicts := verdicts }
        if t.updateYields then (none, (t.setUpdate (some { u with waiter := some (h, false) })).startYield .control 3 5 0 0)
        else (some (t.stageImage u).1, (t.stageImage u).2)))

/-- FW_ACTIVATE: of the staged copy while an update is in progress, else of any VALID copy. It waits as FW_STAGE does. -/
def execFwActivate (h : Hdr) (component copy : Nat) (s : State) : Res :=
  .next (command (opFwActivate.on (le 1 component ++ le 1 copy)) h (decide (1 ≤ component ∧ component ≤ 2 ∧ 1 ≤ copy ∧ copy ≤ 2)) s fun h t =>
    let mine : Bool := match t.boot.update with
      | none => true
      | some u => u.via != .pldm && u.component == component && u.copy == copy && u.waiter.isNone
    if component = 2 ∧ t.islandStopped 2 then (none, t.waitIsland h 2)
    else if !mine then (some (err 0x0410), t)
    else if t.copyState component (copy - 1) ≠ .valid then (some (err (Config.imageStatus 12)), t)
    else if t.updateYields then
      (none, (t.setUpdate (some { component := component, copy := copy, lastProgress := t.now, waiter := some (h, true) })).startYield .control 3 5 0 0)
    else (some (t.activateCopy component copy).1, (t.activateCopy component copy).2))

/-- The recovery that an update yields to needs nothing of it any more: the yield ends, and a command that waits is carried
out late (R42, R44, R84). -/
def State.serveUpdate (s : State) : State :=
  if s.updateYields then s
  else
    let s := s.yieldEnd .control 0 0
    match s.boot.update with
    | some u =>
      (match u.waiter with
       | some (h, activate) =>
         let r := if activate then s.activateCopy u.component u.copy else s.tryOwn.stageImage u
         if r.2.waitsLane then s.ownDone r.2
         else complete h r.1.yielded (if activate then r.2 else s.ownDone r.2)
       | none => s)
    | none => s

/-- The values that FW_STATUS reports. -/
def State.fwValues (s : State) : List Nat :=
  let st (c : CopyState) : Nat := match c with
    | .empty => 0
    | .valid => 1
    | .failed => 2
  [st s.boot.copyA.state, wardenSvn s.boot.copyA.image, fld s.boot.copyA.image 0x10 4,
   st s.boot.copyB.state, wardenSvn s.boot.copyB.image, fld s.boot.copyB.image 0x10 4,
   st s.boot.bundleA.state, s.boot.bundleA.svn, st s.boot.bundleB.state, s.boot.bundleB.svn, s.arb 0, s.arb 1] ++
  (match s.boot.update with
   | none => [0]
   | some u => [1, u.component, u.copy])

/-- FW_STATUS. -/
def execFwStatus (h : Hdr) (s : State) : Res :=
  .next (commandR opFwStatus h true s fun _ t => ok (fixLen 24 (Config.fwStatus t.fwValues)))

/-- A VALID copy that an advance to a target would strand (R80). -/
def State.stranded (s : State) (component target c : Nat) : Bool :=
  s.copyState component c == .valid && decide (s.copySvn component c < target)

/-- A copy is marked FAILED with cause ROLLBACK (R80). -/
def State.strand (s : State) (component c : Nat) : State :=
  let s := if component = 1 then s.updWarden c (fun w => { w with state := .failed }) else s.setBundle c { s.bundle c with state := .failed }
  s.bootFailure (2 * (component - 1) + c) .rollback

/-- FW_ARB_ADVANCE. -/
def execFwArbAdvance (h : Hdr) (counter targetSvn flags : Nat) (s : State) : Res :=
  .next (commandC (opFwArbAdvance.on (le 1 counter ++ le 1 targetSvn ++ le 1 flags)) h (decide (counter ≤ 1 ∧ targetSvn ≤ 128 ∧ flags ≤ 1)) s fun _ t =>
    let comp := counter + 1
    let bad := ([0, 1] : List Nat).filter (t.stranded comp targetSvn)
    if t.boot.update.isSome then (err 0x0410, t)
    else if bad.any (fun c => c == t.preferredCopy comp || flags == 0) then (err 0x0412, t)
    else (ok, (bad.foldl (fun u c => u.strand comp c) t).advanceArb counter targetSvn))

/-! ### PLDM Type 5 (R82, R83) -/

/-- A PLDM response on a binding: completion code and body (Table 1-11: outbox messages are rung 6). -/
def State.pldm (s : State) (binding cc : Nat) (body : Bytes := []) : State := s.answer binding 1 6 (byte cc :: body)

/-- The PLDM firmware device answers: the Control Region runs a Warden image. -/
def State.pldmUp (s : State) : Bool := s.boot.pwrOk && s.boot.controlUp && s.boot.imageUp

/-- The PLDM update in progress. -/
def State.pldmUpdate (s : State) : Option Update := s.boot.update.filter (fun u => u.via == .pldm)

/-- The value of a PLDM state. -/
def PldmState.code : PldmState → Nat
  | .idle => 0
  | .learn => 1
  | .ready => 2
  | .download => 3
  | .verify => 4
  | .apply => 5
  | .activate => 6

/-- The most that one RequestFirmwareData asks for on a binding (R82). -/
def bindingLimit (binding : Nat) : Nat := if binding = 0 then 4096 else 1024

/-- QUERY_DEVICE_IDENTIFIERS. -/
def execQueryDeviceIdentifiers (peer : Peer) (s : State) : Res :=
  if s.pldmUp then .next (s.pldm peer.binding 0 Config.pldmIdentifiers) else .next s

/-- GET_FIRMWARE_PARAMETERS: both components, with the version running, the version that is preferred, and the ways in
which each is activated: a Warden image self-contained, a lane bundle by a device start, which is a power cycle (R82). -/
def execGetFirmwareParameters (peer : Peer) (s : State) : Res :=
  if !s.pldmUp then .next s
  else
    let pref := (s.warden s.boot.preferred).image
    .next (s.pldm peer.binding 0 (le 4 0 ++ le 2 2 ++
      le 2 0xFFFF ++ le 2 1 ++ le 4 s.boot.fwVersion ++ le 4 (fld pref 0x10 4) ++ le 2 0x0002 ++
      le 2 0xFFFF ++ le 2 2 ++ le 4 s.hma.bundleSvn ++ le 4 (s.bundle s.boot.bundlePreferred).svn ++ le 2 0x0010))

/-- REQUEST_UPDATE. -/
def execRequestUpdate (peer : Peer) (maxTransfer components : Nat) (s : State) : Res :=
  if !s.pldmUp then .next s
  else if s.boot.update.isSome then .next (s.pldm peer.binding 0x81)
  else .next ((s.setUpdate (some { via := .pldm, binding := peer.binding, component := 0, copy := 0, lastProgress := s.now, maxTransfer := min (bindingLimit peer.binding) maxTransfer,
                                   pldm := .learn, left := components })).pldm peer.binding 0 (le 2 0 ++ [0]))

/-- PASS_COMPONENT_TABLE: the last component ends the table. -/
def execPassComponentTable (peer : Peer) (component _stamp : Nat) (s : State) : Res :=
  if !s.pldmUp then .next s
  else match s.pldmUpdate with
    | none => .next (s.pldm peer.binding 0x80)
    | some u =>
      if u.pldm ≠ .learn then .next (s.pldm peer.binding 0x84)
      else
        let n := u.left - 1
        let known := component == 1 || component == 2
        .next ((s.setUpdate (some { u with left := n, pldm := if n = 0 then .ready else .learn, lastProgress := s.now })).pldm peer.binding 0
          [byte (b2n (!known)), byte (if known then 0 else 6)])

/-- UPDATE_COMPONENT: the copy not in use is emptied, and its download begins. -/
def execUpdateComponent (peer : Peer) (component size : Nat) (s : State) : Res :=
  if !s.pldmUp then .next s
  else match s.pldmUpdate with
    | none => .next (s.pldm peer.binding 0x80)
    | some u =>
      if u.pldm ≠ .ready then .next (s.pldm peer.binding 0x84)
      else
        let limit := if component = 1 then 4194304 else 3145728
        match (if (component = 1 ∨ component = 2) ∧ 1 ≤ size ∧ size ≤ limit then s.stageTarget component 0 else none) with
        | none => .next (s.pldm peer.binding 0 [1, 6])
        | some c =>
          let u := { u with component := component, copy := c + 1, size := size, image := [], verified := false, pldm := .download, lastProgress := s.now }
          .next (((s.emptyCopy component c).setUpdate (some u)).pldm peer.binding 0 [0, 0])

/-- A PLDM update yields to a recovery: none of its requests is made until the recovery needs nothing of it (R43, R84). -/
def State.pldmYields (s : State) : State := s.yieldBegin .control 3 5 0 0

/-- REQUEST_FIRMWARE_DATA: the data of one request that the device makes. -/
def execRequestFirmwareData (data : Bytes) (s : State) : Res :=
  match s.pldmUpdate with
  | some u =>
    if s.pldmUp && u.pldm == .download && s.updateYields then .next s.pldmYields else
    let n := min u.maxTransfer (u.size - u.image.length)
    if s.pldmUp ∧ u.pldm = .download ∧ 0 < n then
      .next (s.setUpdate (some { u with image := u.image ++ fixLen n data, lastProgress := s.now }))
    else .next s
  | none => .next s

/-- TRANSFER_COMPLETE. -/
def execTransferComplete (s : State) : Res :=
  match s.pldmUpdate with
  | some u =>
    if s.pldmUp ∧ u.pldm = .download ∧ u.image.length = u.size then
      .next ((s.setUpdate (some { u with pldm := .verify, lastProgress := s.now })).pldm u.binding 0)
    else .next s
  | none => .next s

/-- VERIFY_COMPLETE: the checks of R58 or R67; a failure is reported, and the copy stays EMPTY until the update agent cancels. -/
def execVerifyComplete (s : State) (verdicts : Nat := 0) : Res :=
  match s.pldmUpdate with
  | some u =>
    if s.pldmUp ∧ u.pldm = .verify then
      .next (ownRow s fun s => match s.judgeComponent u.component u.image verdicts with
        | (none, s) => (s.setUpdate (some { u with verified := true, pldm := .apply, lastProgress := s.now })).pldm u.binding 0
        | (some f, s) => s.pldm u.binding (max f.code 1))
    else .next s
  | none => .next s

/-- APPLY_COMPLETE: the copy is written and marked VALID. -/
def execApplyComplete (s : State) : Res :=
  match s.pldmUpdate with
  | some u =>
    if s.pldmUp && u.pldm == .apply && s.updateYields then .next s.pldmYields
    else if s.pldmUp ∧ u.pldm = .apply then
      .next (((s.writeCopy u.component (u.copy - 1) u.image).setUpdate
        (some { u with pldm := .ready, image := [], applied := u.applied ++ [(u.component, u.copy)], lastProgress := s.now })).pldm u.binding 0)
    else .next s
  | none => .next s

/-- ACTIVATE_FIRMWARE: every applied copy becomes preferred; self-contained activation applies R81 to a Warden image, and a
lane bundle needs a device start. -/
def execActivateFirmware (peer : Peer) (selfContained : Bool) (s : State) : Res :=
  if !s.pldmUp then .next s
  else match s.pldmUpdate with
    | none => .next (s.pldm peer.binding 0x80)
    | some u =>
      let warden := u.applied.any (fun a => a.1 == 1)
      if u.pldm ≠ .ready then .next (s.pldm peer.binding 0x84)
      else if u.applied.isEmpty then .next (s.pldm peer.binding 0x85)
      else if selfContained && !warden then .next (s.pldm peer.binding 0x8C)
      else
        let s := ((u.applied.foldl (fun t a => t.prefer a.1 (a.2 - 1)) s).endUpdate).pldm peer.binding 0 (le 2 0)
        .next (if selfContained then s.askRestart else s)

/-- GET_STATUS. -/
def execGetStatus (peer : Peer) (s : State) : Res :=
  if !s.pldmUp then .next s
  else
    let st := (s.pldmUpdate.map (fun u => u.pldm.code)).getD 0
    .next (s.pldm peer.binding 0 [byte st])

/-- CANCEL_UPDATE_COMPONENT. -/
def execCancelUpdateComponent (peer : Peer) (s : State) : Res :=
  if !s.pldmUp then .next s
  else match s.pldmUpdate with
    | none => .next (s.pldm peer.binding 0x80)
    | some u =>
      if u.pldm = .download ∨ u.pldm = .verify ∨ u.pldm = .apply then
        .next ((s.setUpdate (some { u with pldm := .ready, image := [], verified := false, lastProgress := s.now })).pldm peer.binding 0)
      else .next (s.pldm peer.binding 0x84)

/-- CANCEL_UPDATE. -/
def execCancelUpdate (peer : Peer) (s : State) : Res :=
  if !s.pldmUp then .next s
  else match s.pldmUpdate with
    | none => .next (s.pldm peer.binding 0x80)
    | some _ => .next ((s.endUpdate).pldm peer.binding 0)

/-- FW_UPDATE_TIMEOUT: 600 s without progress (R83). -/
def execFwUpdateTimeout (s : State) : Res :=
  match s.boot.update with
  | some u =>
    if u.lastProgress + 600000000 ≤ s.now then
      let s := s.endUpdate
      .next (match u.waiter with
        | some (h, _) => complete h { status := 0x0801, rung := 3, carriedOut := false } s
        | none => s)
    else .next s
  | none => .next s

end Sys2Proof.Machine
end

