-- ==== Sys2Proof/Machine/Clock.lean ====
section
/-! DEFINITION. What passes when no command waits: one tick of the time base (R475, R477), the end of a drain that
it reaches (R81), a device start that it reaches (R539), an update that has yielded and goes on (R84), the end of the write
of a staged image (R160), and LMS verification once a Bellows lane is shared (R247). -/
namespace Sys2Proof.Machine

/-- One microsecond with main power: DMT and the OpSeconds interval advance (R475, R477). -/
def Ember.mainTick (e : Ember) : Ember :=
  if 999999 ≤ e.opUs then { e with dmt := e.dmt + 1, opUs := 0, opSeconds := satAdd 32 e.opSeconds 1 }
  else { e with dmt := e.dmt + 1, opUs := e.opUs + 1 }

/-- One tick of the 32.768 kHz time base on VBAT: 15,625/512 µs, the fraction in a 9-bit accumulator (R475). -/
def Ember.batteryTick (e : Ember) : Ember :=
  if 512 ≤ e.frac + 265 then { e with dmt := e.dmt + 31, frac := e.frac + 265 - 512 }
  else { e with dmt := e.dmt + 30, frac := e.frac + 265 }

/-- A rise of PWR_OK within 50 µs of its fall begins the device start once they have passed (R539). -/
def State.riseStep (s : State) : State :=
  match s.boot.fallAt with
  | some t => if s.boot.risePending ∧ t + 50 ≤ s.now then s.startDevice else s
  | none => s

/-- The time that passes at a step with no command waiting. -/
def tick (s : State) : State :=
  if s.boot.pwrOk then { s with emb := s.emb.mainTick }.drainStep.serveUpdate.serveStage.serveLms else { s with emb := s.emb.batteryTick }.riseStep

end Sys2Proof.Machine
end

