-- ==== Sys2Proof/Machine/Faults.lean ====
section
/-! DEFINITION. Chapter 16, and the temper loop of chapter 1: faults at each level, the standby takeover, the islands, the
power cap, and the words of the Spine's fault, island, domain and power registers. -/
namespace Sys2Proof.Machine

/-! ### The Spine's words (Tables 1-4, 1-5, 16-9 and 16-10) -/

/-- The floor of the loop in mV (R24). -/
def State.floorMv (s : State) : Nat := if s.floorSel = 1 then 680 else 720

/-- The value of STATE of SPN_TEMPER_STATUS. -/
def TemperState.code : TemperState → Nat
  | .startup => 0
  | .tracking => 1
  | .capLimited => 2
  | .atFloor => 3
  | .avsHold => 4

/-- The junction temperature lies in the ordered grade's range (Table 0-1). -/
def gradeHolds (tj : Int) : Bool := decide ((if Config.extendedGrade then (-40 : Int) else 0) ≤ tj ∧ tj ≤ 105)

/-- VCORE_MV: 0 until the temper loop has taken control (R23, Table 1-4). -/
def State.vcoreShown (s : State) : Nat := if s.spn.temper == .startup then 0 else s.spn.vcoreMv

/-- SPN_TEMPER_STATUS. -/
def State.temperWord (s : State) : Nat :=
  put 0 10 s.vcoreShown + put 10 2 s.floorSel + put 12 3 s.spn.temper.code +
  put 15 1 (b2n (decide (720 ≤ s.vcoreShown) && gradeHolds s.spn.tj)) + put 16 8 (ofSigned 8 s.spn.tj) + put 24 1 (b2n s.spn.avsFault)

/-- The effective cap (R522). -/
def State.effectiveCap (s : State) : Nat := min s.spn.capSetting s.spn.thermalCap

/-- SPN_POWER_STATUS. -/
def State.powerWord (s : State) : Nat :=
  put 0 8 s.effectiveCap + put 8 8 (min s.spn.power 255) + put 16 2 s.gateLevel + put 18 5 (min s.gatedLanes 16) +
  put 23 1 (b2n s.spn.capHit)

/-- SPN_POWER_CFG. -/
def State.powerCfgWord (s : State) : Nat :=
  put 0 8 s.spn.capSetting + put 8 8 s.spn.thermalCap + put 16 1 (b2n s.spn.byCommand) + put 17 3 s.spn.capStep

/-- SPN_SERVICE. -/
def State.serviceWord (s : State) : Nat :=
  put 0 8 s.serviceState + put 8 1 (b2n s.spn.changeHit) + put 9 1 s.spn.activePair + put 10 1 (b2n s.spn.standbyReady) +
  put 11 8 s.spn.takeovers + put 19 4 s.spn.restarts

/-- The word at offset 0x24: REMAPPED and REINIT. -/
def State.remapWord (s : State) : Nat := put 0 16 s.spn.remapped + put 16 16 s.spn.reinit

/-- SPN_ISLAND_STATUS. -/
def State.islandWord (s : State) : Nat :=
  ([1, 2, 3, 4, 5, 6] : List Nat).foldl (fun a i =>
    a + put (i - 1) 1 (b2n (s.spn.clockRunning.testBit i)) + put (7 + i) 1 (b2n (s.spn.inReset.testBit i))) 0

/-- SPN_CROSS_SAT_i. -/
def State.crossSat (s : State) (i : Nat) : Nat := s.spn.crossSat.getD i 0

/-- The word at offset 0x2C. -/
def State.crossWord (s : State) : Nat := put 0 8 (s.crossSat 1) + put 8 8 (s.crossSat 2) + put 16 8 (s.crossSat 3) + put 24 8 (s.crossSat 4)

/-- The word at offset 0x40. -/
def State.crossWord2 (s : State) : Nat := put 0 8 (s.crossSat 5) + put 8 8 (s.crossSat 6)

/-- Domain d is on: switched on in this device start, and not off for one of the reasons of Table 16-6. -/
def State.domainOn (s : State) (d : Nat) : Bool :=
  decide (d < s.spn.domains) &&
  (if d = 36 ∨ d = 37 then !s.spn.pairOff.getD (d - 36) false && !s.boot.absent
   else if 38 ≤ d ∧ d ≤ 53 ∧ s.boot.absent then d == 40
   else if d = 46 then (List.range 4).any (fun k => (s.cby.slots.get k {}).present)
   else if d = 50 then s.boot.phase == .bundleLoad || s.boot.phase == .bundleVerify || (s.boot.update.map Update.component) == some 2
   else if d = 51 ∨ d = 53 then decide (0 < s.cru.debugLevel)
   else if 54 ≤ d ∧ d < 72 then
     let l := s.lane (d - 54)
     l.coming != 4 && (l.state == .active || l.state == .testing || l.coming != 0)
   else if 72 ≤ d ∧ d < 76 then
     let p := d - 72
     !s.gatedPairs.contains p && (s.digestLanes.contains (2 * p) || s.digestLanes.contains (2 * p + 1))
   else true)

/-- SPN_DOMAIN_ON_k. -/
def State.domainWord (s : State) (k : Nat) : Nat :=
  (List.range 32).foldl (fun a i => a + put i 1 (b2n (s.domainOn (32 * k + i)))) 0

/-! ### Commands (Table 16-11) -/

/-- FAULT_STATUS. -/
def execFaultStatus (h : Hdr) (hostAddr : Nat) (s : State) : Res :=
  .next (commandR (opFaultStatus.on (le 8 hostAddr)) h (s.writeAddrOk h hostAddr) s fun _ t =>
    okOut hostAddr (le 4 t.serviceWord ++ le 4 t.spn.corrected ++ le 4 t.remapWord ++ le 4 t.islandWord ++ le 4 t.crossWord ++
      le 4 (t.domainWord 0) ++ le 4 (t.domainWord 1) ++ le 4 (t.domainWord 2) ++ le 4 t.crossWord2))

/-- The Hammer lane budget at an effective cap (R523); 0.125 W is a unit of the cap, 0.36 W the power of a lane. -/
def laneBudget (cap : Nat) : Nat := if 120 ≤ cap then 16 else max 2 (16 - (120 - cap) * 125 / 360)

/-- POWER_CAP_SET (R521, R524). -/
def execPowerCapSet (h : Hdr) (cap : Nat) (s : State) : Res :=
  .next (commandC (opPowerCapSet.on (le 1 cap)) h (decide (64 ≤ cap ∧ cap ≤ 152)) s fun _ t =>
    let t := { t with spn := { t.spn with capSetting := cap, byCommand := true } }
    let t := t.refreshCed
    (ok (le 1 t.effectiveCap ++ le 1 (laneBudget t.effectiveCap) ++ [0, 0]), t))

/-- POWER_STATUS. -/
def execPowerStatus (h : Hdr) (s : State) : Res :=
  .next (commandR opPowerStatus h true s fun _ t =>
    ok (le 4 t.temperWord ++ le 4 t.powerWord ++ le 4 t.powerCfgWord ++ le 2 t.spn.currentTenMa ++ [0, 0]))

/-! ### The temper loop (R23 to R27) -/

/-- s with the command v in force, and STATE and the time at the floor brought up to it. -/
def State.setVcore (s : State) (v : Nat) : State :=
  let floor := s.floorMv
  { s with spn := { s.spn with
      vcoreMv := v
      temper := if s.spn.ceilingMv < 900 then .capLimited else if v = floor then .atFloor else .tracking
      floorSince := if v = floor then some (s.spn.floorSince.getD s.now) else none } }

/-- The regulator did not acknowledge: the last command is held (R27). -/
def State.avsHold (s : State) : State :=
  let s := { s with spn := { s.spn with temper := .avsHold, avsFault := true, avsRetryAt := s.now + 10000 } }
  s.log .control 0x0F03 3 11 6 { island := 6 }

/-- The command that an evaluation asks for: at most 10 mV from the present one, between the floor and the ceiling (R24,
R26). -/
def State.nextVcore (s : State) (raise lower : Bool) : Nat :=
  let v := s.spn.vcoreMv
  let floor := s.floorMv
  let want := if raise then max floor (min (v + 10) s.spn.ceilingMv) else if lower then max floor (v - 10) else v
  let want := max floor (min want (max floor s.spn.ceilingMv))
  if v + 10 < want then v + 10 else if want + 10 < v then v - 10 else want

/-- TEMPER_EVALUATION: what the sensors and the regulator show, and the change of the command (R26, R27). waitE is the
longest EXPRESS wait in units of 0.25 µs; half of its allocation of 12 µs is 24 units. -/
def execTemperEvaluation (tj : Int) (current utilPct waitE : Nat) (scanLate ack : Bool) (s : State) (bellowsPct : Nat := 0) : Res :=
  if !s.boot.controlUp || s.spn.temper == .startup || decide (s.now < s.spn.temperAt + 100) then .next s
  else
    let raise := decide (24 < waitE ∨ 70 < utilPct ∨ 70 < bellowsPct) || scanLate
    let busy := decide (12 < waitE ∨ 35 < utilPct ∨ 35 < bellowsPct) || scanLate
    let calm := if busy then s.now else s.spn.calmSince
    let s := { s with spn := { s.spn with tj := tj, currentTenMa := current % 65536, temperAt := s.now, calmSince := calm,
                                          bellowsPct := min bellowsPct 100 },
                      hma := { s.hma with utilPct := min utilPct 100, waitE := min waitE 255 } }
    if s.spn.temper = .avsHold then .next s
    else
      if ack then .next (s.setVcore (s.nextVcore raise (!busy && decide (calm + 10000 ≤ s.now))))
      else .next s.avsHold

/-- AVS_RETRY: one attempt every 10 ms (R27). -/
def execAvsRetry (ack : Bool) (s : State) : Res :=
  if !s.boot.controlUp || s.spn.temper != .avsHold || decide (s.now < s.spn.avsRetryAt) then .next s
  else if ack then .next (s.setVcore s.spn.vcoreMv)
  else .next { s with spn := { s.spn with avsRetryAt := s.now + 10000 } }

/-! ### The power cap (R521 to R524) -/

/-- The thermal cap at a junction temperature (R522). -/
def thermalCapAt (tj : Int) : Nat := if tj ≤ 105 then 152 else max 64 (152 - 16 * (tj - 105).toNat)

/-- The digest lane pairs that step 3 may gate: in service, all of their lanes shared, not gated; ascending. -/
def State.gateablePairs (s : State) : List Nat :=
  (List.range 4).filter (fun p => s.sharedLanes.any (fun l => l / 2 == p) && !s.dedicatedLanes.any (fun l => l / 2 == p))

/-- VDD_CORE has been at the floor for 1 ms. -/
def State.longAtFloor (s : State) : Bool :=
  match s.spn.floorSince with
  | some t => decide (t + 1000 ≤ s.now)
  | none => false

/-- The budget that the steps in force give (R523). -/
def State.budgetNow (s : State) : Nat := if 2 ≤ s.spn.capStep then laneBudget s.effectiveCap else 16

/-- The step that POWER above the effective cap asks for next (Table 16-8). -/
def State.capStepUp (s : State) : State :=
  let floor := s.floorMv
  let at_ (n : Nat) (t : State) : State := { t with spn := { t.spn with capStep := max t.spn.capStep n } }
  if floor < s.spn.ceilingMv then
    let c := max floor (s.spn.ceilingMv - 10)
    let s := { s with spn := { s.spn with ceilingMv := c } }
    at_ 1 { s with spn := { s.spn with temper := if s.spn.temper == .tracking || s.spn.temper == .atFloor then .capLimited else s.spn.temper } }
  else if s.spn.capStep < 2 then at_ 2 s
  else if !s.longAtFloor then s
  else match s.gateablePairs.getLast?, decide (2 ≤ s.gateablePairs.length) with
    | some p, true => at_ 3 { s with spn := { s.spn with pairsGated := p :: s.spn.pairsGated } }
    | _, _ =>
      if s.spn.capStep < 4 then at_ 4 s
      else
        let s := at_ 5 s
        if s.spn.overrunAt = 0 ∨ s.spn.overrunAt + 1000000 ≤ s.now then
          ({ s with spn := { s.spn with overrunAt := s.now } }).log .control 0x0F07 3 0 0 { value := s.spn.power, index2 := s.effectiveCap }
        else s

/-- The highest step in force is undone (R522). -/
def State.capStepDown (s : State) : State :=
  match s.spn.capStep with
  | 0 => s
  | 1 => { s with spn := { s.spn with capStep := 0, ceilingMv := 900,
                                      temper := if s.spn.temper = .capLimited then .tracking else s.spn.temper } }
  | 3 => { s with spn := { s.spn with capStep := 2, pairsGated := [] } }
  | 5 => { s with spn := { s.spn with capStep := 4, overrunAt := 0 } }
  | n + 1 => { s with spn := { s.spn with capStep := n } }

/-- POWER_CAP_EVALUATION (R522, R523): power is the 1 ms average in units of 0.125 W. -/
def execPowerCapEvaluation (power : Nat) (s : State) : Res :=
  if !s.boot.controlUp || decide (s.now < s.spn.capAt + 100) then .next s
  else
    let s := { s with spn := { s.spn with power := power, capAt := s.now, thermalCap := thermalCapAt s.spn.tj } }
    let cap := s.effectiveCap
    let s := if cap ≤ power then { s with spn := { s.spn with capHit := true } } else s
    let below : Option Nat := if power + 4 ≤ cap then some (s.spn.belowSince.getD s.now) else none
    let s := { s with spn := { s.spn with belowSince := below } }
    let s : State :=
      if cap < power then s.capStepUp
      else match below with
        | some t =>
          if t + 10000 ≤ s.now ∧ 0 < s.spn.capStep then { s.capStepDown with spn := { s.capStepDown.spn with belowSince := some s.now } } else s
        | none => s
    .next (s.setBudget s.budgetNow).placeWork.pauseForCap

/-! ### Faults of blocks (R504 to R506) -/

/-- The block of Table 1-6 that a faulty cell lies in: a Hammer cluster, the digest cluster, an Anvil port, or another unit. -/
def blockOf (kind index : Nat) : Nat :=
  match kind with
  | 1 => clusterOf index
  | 2 => 3
  | 7 => 16 + index
  | k => 32 + k

/-- A block is re-initialised at region level: its work moves to sibling blocks (R504). -/
def State.beginReinit (s : State) (b : Nat) : State :=
  if s.spn.reinitBlocks.contains b then s
  else
    let s := ({ s with spn := { s.spn with reinitBlocks := s.spn.reinitBlocks ++ [b], reinit := satAdd 16 s.spn.reinit 1 } }).setService 4 true
    if b < 3 then
      let ls := s.serviceLanes.filter (fun n => clusterOf n == b && (s.lane n).coming == 0)
      ls.foldl (fun t n =>
        let work := match (t.lane n).running with
          | some o => (match o.req with
            | .refill _ => []
            | _ => [o])
          | none => []
        let t := { t with hma := { t.hma with waiting := work.foldl (fun w o => insertOp o w) t.hma.waiting } }
        t.updLane n (fun l => { l with running := none, coming := 4 })) s
    else s

/-- A Hammer lane faults: its work goes to another lane and it tests itself (R258, R260). -/
def State.laneFault (s : State) (n : Nat) : State :=
  let l := s.lane n
  if l.state != .active then s
  else
    let s := s.updLane n (fun l => { l with running := none })
    match l.running with
    | some o =>
      (match o.req with
       | .refill c => s.invariantFailed n (c + 1)
       | _ => (s.invariantFailed n o.op).retryOp n o)
    | none => s.invariantFailed n 0

/-- s with one more block-level remap. -/
def State.remapped (s : State) : State := { s with spn := { s.spn with remapped := satAdd 16 s.spn.remapped 1 } }

/-- A faulty cell is isolated, and its work moves to a spare or acts as Table 16-2 gives when none remains. Kinds: 1 Hammer
lane, 2 digest lane, 3 wind-up channel, 4 queue context, 5 SRAM row (its group of 512 rows), 6 MRAM word (its area), 7 Anvil
lane group. -/
def State.cellFault (s : State) (kind index : Nat) : State :=
  match kind with
  | 1 => if (s.lane index).state = .active then (((s.laneFault index).remapped).refuseAll).placeWork else s
  | 2 => if index < 8 then { s with bde := { s.bde with lanes := s.bde.lanes.set index {} { outOfService := true } } } else s
  | 3 =>
    if 256 ≤ index then s
    else if 0 < s.spn.windSpares then ({ s with spn := { s.spn with windSpares := s.spn.windSpares - 1 } }).remapped
    else if (s.chan index).armed then s.expire index 1
    else s
  | 4 =>
    if 4096 ≤ index then s
    else if 0 < s.spn.queueSpares then ({ s with spn := { s.spn with queueSpares := s.spn.queueSpares - 1 } }).remapped
    else (s.updQueue index (fun x => { x.closeNow with retired := true })).log .control 0x0004 5 5 index
  | 5 =>
    if s.spn.rowsUsed.contains index then s.beginReinit (blockOf 5 index)
    else ({ s with spn := { s.spn with rowsUsed := index :: s.spn.rowsUsed } }).remapped
  | 6 =>
    if 8 ≤ s.spn.mramSpare then
      let n := s.spn.mramSpare - 8
      let s := ({ s with spn := { s.spn with mramSpare := n, mramDegraded := s.spn.mramDegraded || n == 0 } }).remapped
      if n = 0 then s.setService 5 true else s
    else match index with
      | 0 => (s.updWarden 0 (fun w => { w with state := .failed })).bootFailure 0 .ecc
      | 1 => (s.updWarden 1 (fun w => { w with state := .failed })).bootFailure 1 .ecc
      | 2 => { s with lgb := { s.lgb with places := s.lgb.places - 1 } }
      | _ => s
  | 7 => if index < 16 then s.freezePort index (zeros 16) else s
  | _ => s

/-- s after n cell-level corrections and resends (Tables 16-1, 16-10). -/
def State.corrected (s : State) (n : Nat) : State := { s with spn := { s.spn with corrected := satAdd 32 s.spn.corrected n } }

/-- BLOCK_FAULT: the corrections and resends that were made at cell level, and with a kind other than 0 a fault that they did
not handle. Its cell is isolated; a block that faults twice within 1 s is re-initialised at region level (R28, R504). -/
def execBlockFault (kind index : Nat) (s : State) (resends : Nat := 0) : Res :=
  if !s.boot.pwrOk || 7 < kind then .next s
  else if kind = 0 then .next (s.corrected resends)
  else
    let old := s
    let s := s.corrected resends
    let b := blockOf kind index
    let last := s.spn.lastFault.get b 0
    let again := s.spn.lastFault.keys.contains b && decide (s.now ≤ last + 1000000)
    let s := { s with spn := { s.spn with lastFault := s.spn.lastFault.ins b s.now } }
    let s := s.cellFault kind index
    let s := if again then (s.beginReinit b).placeWork else s
    .next (State.noteService old s).settleAll

/-- REGION_REINIT_DONE: the block's domains are on again and reloaded (R504). -/
def execRegionReinitDone (s : State) : Res :=
  match s.spn.reinitBlocks with
  | [] => .next s
  | b :: rest =>
    let old := s
    let s := ({ s with spn := { s.spn with reinitBlocks := rest } }).setService 4 (!rest.isEmpty)
    let s := if b < 3 then
        (List.range 18).foldl (fun t n => t.updLane n (fun l => if clusterOf n = b ∧ l.coming = 4 then { l with coming := 0 } else l)) s
      else s
    .next (State.noteService old s.placeWork)

/-! ### The Warden pairs (R508 to R510) -/

/-- A pair that fails its third check is switched off; the Control Region then restarts on the other one, where that is not off
(R509, R510). -/
def State.retirePair (s : State) (a : Nat) (third : Bool) : State :=
  if third then
    let off := s.spn.pairOff.set a true
    { s with spn := { s.spn with pairOff := off, activePair := if off.getD (1 - a) false then a else 1 - a } }
  else s

/-- LOCKSTEP_MISMATCH: the active pair is halted; the standby takes over, or the Control Region restarts. -/
def execLockstepMismatch (s : State) : Res :=
  if !s.wardenRuns || s.spn.takeoverTo.isSome then .next s
  else
    let a := s.spn.activePair
    let n := s.spn.lockFails.getD a 0 + 1
    let s := { s with spn := { s.spn with lockFails := s.spn.lockFails.set a n } }
    if s.spn.standbyReady then
      .next { s with spn := { s.spn with
        standbyReady := false
        takeoverTo := some (1 - a)
        testingPair := if n < 3 then some a else s.spn.testingPair
        pairOff := if n < 3 then s.spn.pairOff else s.spn.pairOff.set a true } }
    else .next (s.retirePair a (decide (3 ≤ n))).lastResort

/-- WARDEN_TAKEOVER_DONE: the standby is active from the last checkpoint (R508). -/
def execWardenTakeoverDone (good : Bool) (s : State) : Res :=
  match s.spn.takeoverTo with
  | none => .next s
  | some p =>
    let old := s
    let s := { s with spn := { s.spn with takeoverTo := none } }
    if good then
      let s := { s with spn := { s.spn with activePair := p, takeovers := min (s.spn.takeovers + 1) 255, standbyReady := false } }
      .next (State.noteService old (s.setService 3 true))
    else .next s.lastResort

/-- WARDEN_SELF_TEST_DONE: the halted pair becomes the standby, once the active one is OPERATIONAL, or is switched off (R60,
R509). -/
def execWardenSelfTestDone (passed : Bool) (s : State) : Res :=
  match s.spn.testingPair with
  | none => .next s
  | some p =>
    let old := s
    let s := { s with spn := { s.spn with testingPair := none } }
    if passed then
      .next (State.noteService old (if s.boot.imageOp then ({ s with spn := { s.spn with standbyReady := true } }).setService 3 false else s))
    else .next (State.noteService old (({ s with spn := { s.spn with pairOff := s.spn.pairOff.set p true } }).setService 3 true))

/-! ### Island crossings (R309, R512 to R515) -/

/-- The crossing into an island. -/
def State.crossing (s : State) (i : Nat) : Crossing := s.spn.crossings.get i {}

/-- What crosses into an island that has stopped is acknowledged as its clock returns: one activation with the count of what
merged into it, and SPN_CROSS_SAT counts it when more came than the count holds (R512, R513). -/
def State.deliverCrossing (s : State) (i : Nat) : State :=
  let n := if (s.crossing i).saturated then min (s.crossSat i + 1) 255 else s.crossSat i
  { s with spn := { s.spn with crossSat := s.spn.crossSat.set i n, crossings := s.spn.crossings.set i {} {} } }

/-- What had merged into the crossing of an island is discarded by a flush (R514). -/
def State.flushCrossing (s : State) (i : Nat) : State := { s with spn := { s.spn with crossings := s.spn.crossings.set i {} {} } }

/-- A crossing into an island was not acknowledged in time: what function fn can see of it (R309). -/
def State.countTimeout (s : State) (fn : Option Nat) (island : Nat) : State :=
  let s := { s with cme := { s.cme with islandTimeouts := satAdd 32 s.cme.islandTimeouts 1 } }
  match fn with
  | some n => if n < 64 then s.updFn n (fun b => { b with islandHit := true, lastIsland := island }) else s
  | none => s

/-- A command that waits on an island ends with ISLAND_TIMEOUT (R309). -/
def State.timeOut (s : State) (h : Hdr) (island : Nat) : State :=
  complete h (err 0x0704 (le 1 island)) (s.countTimeout (s.fnOf h.src) island)

/-- The commands that wait on a crossing into an island. -/
def State.waitersOn (s : State) (island : Nat) : List Hdr :=
  let pick (src : Src) : List Hdr :=
    ((s.flights src).filter (fun f => f.island == island)).map (fun f => ({ src := src, cid := f.cid, uid := f.uid, noInt := f.noInt } : Hdr))
  (s.usedQueues.flatMap (fun q => pick (.pcie q))) ++ (([.mb0, .mb1, .sb0, .sb1, .uart0] : List Target).flatMap (fun t => pick (.framed t))) ++
  pick .jtag

end Sys2Proof.Machine
end

