-- ==== Sys2Proof/Machine/Measure.lean ====
section
/-! DEFINITION. Chapter 6: the measurement, wear and digest commands (Table 6-14). -/
namespace Sys2Proof.Machine

/-! ### Measurement -/

/-- The flash state record that MEASURE_STATUS writes, with SCAN_ACTIVE and SCAN_PENDING (Table 6-7). -/
def State.statusRecord (s : State) (d : Nat) : Bytes :=
  fixLen 96 ((s.flashRec d).bytes d (4 * b2n (s.scanActive d) + 8 * b2n (s.scanPending d)))

/-- MEASURE_STATUS (R242). -/
def execMeasureStatus (h : Hdr) (first count hostAddr : Nat) (s : State) : Res :=
  .next (commandR (opMeasureStatus.on (le 1 first ++ le 1 count ++ zeros 2 ++ le 8 hostAddr)) h (rangeOk first count 32 && s.writeAddrOk h hostAddr) s fun _ t =>
    okOut hostAddr ((((List.range count).map (· + first)).filter (fun d => (t.deviceSlot d).isSome)).flatMap t.statusRecord))

/-- The value of a leaf state (Table 6-14). -/
def LeafState.code : LeafState → Nat
  | .unknown => 0
  | .fresh => 1
  | .stale => 2
  | .erased => 3

/-- The 36 bytes of leaf i of device d. -/
def State.leafEntry (s : State) (d i : Nat) : Bytes :=
  (s.leaf d i).contribution ++ le 1 (s.leaf d i).state.code ++ zeros 3

/-- The status of a command on a device, and of its range of blocks (R242). -/
def State.deviceStatus (s : State) (d first count : Nat) : Nat :=
  if s.deviceBlocks d ≠ 0 ∧ s.deviceBlocks d < first + count then 0x0102 else if !s.deviceValid d then 0x0430 else 0

/-- LEAF_READ (R242): in this model no leaf changes during the copy. -/
def execLeafRead (h : Hdr) (device first count hostAddr : Nat) (s : State) : Res :=
  .next (commandR (opLeafRead.on (le 1 device ++ zeros 1 ++ le 2 first ++ le 2 count ++ zeros 2 ++ le 8 hostAddr)) h (decide (device < 32 ∧ 1 ≤ count ∧ count ≤ 8192) && s.writeAddrOk h hostAddr) s fun _ t =>
    let st := t.deviceStatus device first count
    if st ≠ 0 then err st
    else okOut hostAddr ((List.range count).flatMap (fun i => t.leafEntry device (first + i))) (t.flashRoot device ++ [0, 0]))

/-- MEASURE_SCAN (R242): it ends with its scan. -/
def execMeasureScan (h : Hdr) (device kind first count : Nat) (s : State) : Res :=
  .next (command (opMeasureScan.on (le 1 device ++ le 1 kind ++ le 2 first ++ le 2 count)) h (decide (device < 32 ∧ kind < 2 ∧ count ≤ 8192)) s fun h t =>
    let k : ScanKind := if kind = 0 then .refresh else .verify
    let st := t.deviceStatus device first (if count = 0 then t.deviceBlocks device else count)
    if st ≠ 0 then (some (err st), t)
    else if t.fit.scans.any (fun x => x.kind == k && x.device == device) then (some (err 0x0451), t)
    else (none, (t.queueScan { kind := k, device := device, first := first, count := count, waiters := [h] }).pauseForCap.planPort (device / 2)))

/-! ### Wear -/

/-- WEAR_READ (R242). -/
def execWearRead (h : Hdr) (device first count hostAddr : Nat) (s : State) : Res :=
  .next (commandR (opWearRead.on (le 1 device ++ zeros 1 ++ le 2 first ++ le 2 count ++ zeros 2 ++ le 8 hostAddr)) h (decide (device < 32 ∧ 1 ≤ count ∧ count ≤ 8192) && s.writeAddrOk h hostAddr) s fun _ t =>
    let st := t.deviceStatus device first count
    if st ≠ 0 then err st else okOut hostAddr ((List.range count).flatMap (fun i => le 4 (t.wearOf device (first + i)))))

/-- RATE of a ring of at least two entries, newest first (R240). -/
def wearRate (ring : List (Nat × Nat)) : Nat :=
  match ring, ring.getLast? with
  | (t1, m1) :: _, some (t0, m0) => (m1 - m0) / ((t1 - t0) / 86400)
  | _, _ => 0

/-- A DAYS field: from a level times 100, MAX, RATE and the entries of the ring (R240). -/
def daysTo (level100 mx rate n : Nat) : Nat :=
  if n < 2 then 0xFFFFFFFF else if rate = 0 then 0xFFFFFFFE else (level100 - 100 * mx) / (100 * rate)

/-- WEAR_FORECAST (R240): RATE of a ring of fewer than two entries, and the time of its newest entry when it has none,
are free values (log entry 3). -/
def execWearForecast (h : Hdr) (device hostAddr : Nat) (s : State) : Res :=
  .next (commandC (opWearForecast.on (le 1 device ++ zeros 3 ++ le 8 hostAddr)) h (decide (device < 32) && s.writeAddrOk h hostAddr) s fun _ t =>
    if !t.deviceValid device then (err 0x0430, t)
    else
      let ring := t.fit.rings.get device []
      let mx := t.wearMax device
      let n := ring.length
      let rated := t.ratedCycles device
      let free := Config.freeValue t.draws % 2 ^ 32
      let rate := if n < 2 then free else wearRate ring
      let last := match ring with
        | e :: _ => e.1
        | [] => free
      (okOut hostAddr (le 4 mx.1 ++ le 2 mx.2 ++ zeros 2 ++ le 4 rate ++ le 4 (daysTo (rated * t.wearPct device) mx.1 rate n) ++
        le 4 (daysTo (rated * 100) mx.1 rate n) ++ le 4 n ++ le 4 last ++ zeros 4), if n < 2 then t.drawn else t))

/-- WEAR_RESET (R242): logged at rung 2 with WEAR_ALERT's code and cause 3 (log entry 20). -/
def execWearReset (h : Hdr) (device : Nat) (s : State) : Res :=
  .next (commandC (opWearReset.on (le 1 device)) h (decide (device < 32)) s fun _ t =>
    if !t.deviceValid device then (err 0x0430, t)
    else
      let mx := (t.wearMax device).1
      let t := { t with fit := { t.fit with wear := t.fit.wear.filter (fun e => e.1 / 8192 != device), rings := t.fit.rings.del device,
                                            wearLevel := t.fit.wearLevel.del device } }
      (ok, t.log .forge 0x0302 2 2 device { cause := 3, value := mx }))

/-! ### Host digest contexts (R207 to R211) -/

/-- Who owns the contexts that a source opens: its function, or a number above the functions for each framed target. -/
def State.ctxOwner (s : State) (src : Src) : Nat :=
  match src with
  | .pcie q => (s.queue q).fn
  | .framed .mb0 => 64
  | .framed .mb1 => 65
  | .framed .sb0 => 66
  | .framed .sb1 => 67
  | .framed .uart0 => 68
  | .jtag => 69

/-- The contexts that are open. -/
def State.openContexts (s : State) : List Context := s.bde.contexts.filterMap Prod.snd

/-- The lowest free context; none when all 256 are open or the owner holds 16 (R207). -/
def State.freeContext (s : State) (owner : Nat) : Option Nat :=
  if 16 ≤ (s.openContexts.filter (fun c => c.fn == owner)).length then none
  else (List.range 256).find? (fun n => (s.context n).isNone)

/-- The context that a command names, when its source owns it. -/
def State.ownContext (s : State) (src : Src) (n : Nat) : Option Context :=
  match s.context n with
  | some c => if c.fn = s.ctxOwner src then some c else none
  | none => none

/-- HMAC algorithms of Table 6-14. -/
def isHmac (alg : Nat) : Bool := alg == 6 || alg == 7

/-- The parameters of DIGEST_OPEN are in range. -/
def digestOpenOk (alg keyLen outLen : Nat) : Bool :=
  decide (alg < 8) && (if isHmac alg then decide (keyLen ≤ 128) else keyLen == 0) &&
  (if alg = 5 then decide (32 ≤ outLen ∧ outLen ≤ 256) else outLen == 0)

/-- DIGEST_OPEN (R207). -/
def execDigestOpen (h : Hdr) (alg keyLen outLen keyAddr : Nat) (data : Bytes) (s : State) : Res :=
  let data := s.inputOf h keyAddr keyLen data
  .next (commandC (opDigestOpen.on (le 1 alg ++ le 1 keyLen ++ le 2 outLen ++ le 8 keyAddr)) h (digestOpenOk alg keyLen outLen && (keyLen == 0 || s.readAddrOk h keyAddr keyLen)) s fun h t =>
    match t.freeContext (t.ctxOwner h.src) with
    | none => (err 0x0350, t)
    | some n => (ok (le 2 n), t.setContext n (some { fn := t.ctxOwner h.src, alg := alg, key := fixLen keyLen data, outLen := outLen })))

/-- The descriptors of a list (Table 6-2): address, length, reserved. -/
def descriptors (n : Nat) (list : Bytes) : List (Nat × Nat × Nat) :=
  (List.range n).map (fun i => (fld list (16 * i) 8, fld list (16 * i + 8) 4, fld list (16 * i + 12) 4))

/-- A descriptor list keeps the limits of R208. -/
def descListOk (l : List (Nat × Nat × Nat)) : Bool :=
  l.all (fun d => decide (1 ≤ d.2.1 ∧ d.2.1 ≤ 16777216 ∧ d.2.2 = 0)) && decide (l.foldl (fun a d => a + d.2.1) 0 ≤ 0xFFFFFFFF)

/-- The bytes that the fragments of a descriptor list name: what the host memory holds, or the parts of the inline data (R306). -/
def State.fragments (s : State) (h : Hdr) (ds : List (Nat × Nat × Nat)) (host : Bytes) : Bytes :=
  match h.src with
  | .pcie _ => host
  | _ => ds.flatMap (fun d => s.inputOf h d.1 d.2.1 [])

/-- The fragments of a framed command lie inside its inline data (R306). -/
def State.fragmentsOk (s : State) (h : Hdr) (ds : List (Nat × Nat × Nat)) : Bool :=
  match h.src with
  | .pcie _ => true
  | _ => ds.all (fun d => s.readAddrOk h d.1 d.2.1)

/-- DIGEST_UPDATE (R208, R211): a finished context restarts. It waits for a shared lane (R205). -/
def execDigestUpdate (h : Hdr) (context descCount listAddr : Nat) (list data : Bytes) (s : State) : Res :=
  let size := if 4096 < descCount then 0 else 16 * descCount
  let ds := descriptors descCount (s.inputOf h listAddr size list)
  let data := s.fragments h ds data
  let inside := s.fragmentsOk h ds
  .next (command (opDigestUpdate.on (le 2 context ++ le 2 descCount ++ zeros 4 ++ le 8 listAddr)) h (decide (1 ≤ descCount) && s.readAddrOk h listAddr size) s fun h t =>
    if 4096 < descCount ∨ !descListOk ds then (some (err 0x0150), t)
    else if !inside then (some (err 0x0102), t)
    else match t.ownContext h.src context with
      | none => (some (err 0x0450), t)
      | some c =>
        if !t.laneFor h then (none, t.waitLane h .bellows)
        else
        let n := ds.foldl (fun a d => a + d.2.1) 0
        let c' := c.feed (fixLen n data)
        let t := t.updCount (t.queueOf h.src) (fun k => { k with digestBytes := k.digestBytes + n })
        (some (ok (le 8 c'.fed.length)), t.setContext context (some c')))

/-- The length of a context's digest (Table 6-1). -/
def Context.length (c : Context) : Nat :=
  match c.alg with
  | 0 => 32
  | 1 => 48
  | 2 => 64
  | 3 => 32
  | 4 => 48
  | 5 => c.outLen
  | 6 => 32
  | _ => 48

/-- A context's digest. -/
def Context.digest (c : Context) : Bytes :=
  if isHmac c.alg then fixLen c.length (Config.hmac (c.alg - 6) c.key c.fed) else fixLen c.length (Config.hash c.alg c.fed c.length)

/-- DIGEST_FINISH (R210). It waits for a shared lane (R205). -/
def execDigestFinish (h : Hdr) (context flags hostAddr : Nat) (s : State) : Res :=
  .next (command (opDigestFinish.on (le 2 context ++ le 1 flags ++ zeros 5 ++ le 8 hostAddr)) h (decide (flags < 2) && s.writeAddrOk h hostAddr) s fun h t =>
    match t.ownContext h.src context with
    | none => (some (err 0x0450), t)
    | some c =>
      if !t.laneFor h then (none, t.waitLane h .bellows)
      else (some (okOut hostAddr c.digest (le 2 c.length)),
       t.setContext context (if flags.testBit 0 then none else some { c with finished := true })))

/-- DIGEST_CLOSE (R242). -/
def execDigestClose (h : Hdr) (context : Nat) (s : State) : Res :=
  .next (commandC (opDigestClose.on (le 2 context)) h true s fun h t =>
    match t.ownContext h.src context with
    | none => (err 0x0450, t)
    | some _ => (ok, t.setContext context none))

end Sys2Proof.Machine
end

