-- ==== Sys2Proof/Machine/Spdm.lean ====
section
/-! DEFINITION. Chapter 10's rows: MCTP control, the SPDM responder and the identity certificates. The message layouts and
codes are those of DSP0236, DSP0274 and DSP0277, which the spec names (PRESUMED, log entry 27). -/
namespace Sys2Proof.Machine

/-! ### MCTP control (R351, R353) -/

/-- The Attestation Responder answers on a binding: the Control Region runs, and the binding is one of Table 10-3. -/
def State.mctpUp (s : State) (binding : Nat) : Bool := s.boot.controlUp && decide (binding < 5)

/-- A response to an MCTP control request (Table 1-11: outbox messages are rung 6). -/
def State.control (s : State) (binding : Nat) (msg : Bytes) : State := s.answer binding 0 6 msg

/-- An SPDM response leaves in the clear: attestation is rung 2. -/
def State.clear (s : State) (p : Peer) (msg : Bytes) : State := s.answer p.binding 5 2 msg

/-- The endpoint identifier of a binding. -/
def State.eid (s : State) (binding : Nat) : Nat := s.atr.eids.getD binding 0

/-- SET_ENDPOINT_ID: operations 0 set and 1 force assign the identifier; the others are not supported by an endpoint
without a static identifier (DSP0236). -/
def execSetEndpointId (binding op eid : Nat) (s : State) : Res :=
  if !s.mctpUp binding then .next s
  else if op ≤ 1 ∧ eid ≠ 0 ∧ eid < 255 then
    .next (({ s with atr := { s.atr with eids := s.atr.eids.set binding eid } }).control binding [0, 0, byte eid, 0])
  else .next (s.control binding [2])

/-- GET_ENDPOINT_ID: a simple endpoint with a dynamic identifier. -/
def execGetEndpointId (binding : Nat) (s : State) : Res :=
  if s.mctpUp binding then .next (s.control binding [0, byte (s.eid binding), 0, 0]) else .next s

/-- 16 bytes formatted as a version 8 UUID (RFC 9562). -/
def uuid8 (b : Bytes) : Bytes :=
  let b := fixLen 16 b
  b.take 6 ++ [byte (128 + (b.getD 6 0).toNat % 16)] ++ [b.getD 7 0] ++ [byte (128 + (b.getD 8 0).toNat % 64)] ++ b.drop 9

/-- GET_ENDPOINT_UUID (R353). -/
def execGetEndpointUuid (binding : Nat) (s : State) : Res :=
  if s.mctpUp binding then .next (s.control binding (0 :: uuid8 s.deviceName)) else .next s

/-- The message types of R351. -/
def mctpTypes : List Nat := [0, 1, 5, 6]

/-- GET_MCTP_VERSION_SUPPORT; 0xFF asks for the base specification. -/
def execGetMctpVersionSupport (binding msgType : Nat) (s : State) : Res :=
  if !s.mctpUp binding then .next s
  else if msgType = 0xFF ∨ mctpTypes.contains msgType then
    let v := Config.mctpVersions msgType
    .next (s.control binding (0 :: byte (v.length / 4) :: v))
  else .next (s.control binding [0x80])

/-- GET_MESSAGE_TYPE_SUPPORT. -/
def execGetMessageTypeSupport (binding : Nat) (s : State) : Res :=
  if s.mctpUp binding then .next (s.control binding (0 :: byte mctpTypes.length :: mctpTypes.map byte)) else .next s

/-- MCTP_UNSUPPORTED_CMD: completion code ERROR_UNSUPPORTED_CMD. -/
def execMctpUnsupportedCmd (binding _code : Nat) (s : State) : Res :=
  if s.mctpUp binding then .next (s.control binding [5]) else .next s

/-! ### Connections and sessions (R355, R356) -/

/-- The connection of a peer. -/
def State.connOf (s : State) (p : Peer) : Option Connection :=
  s.atr.connections.find? (fun c => c.binding == p.binding && c.eid == p.eid)

/-- s with the connection of a peer changed by f. -/
def State.updConn (s : State) (p : Peer) (f : Connection → Connection) : State :=
  { s with atr := { s.atr with connections := s.atr.connections.map (fun c => if c.binding = p.binding ∧ c.eid = p.eid then f c else c) } }

/-- The session that a peer's message came in. -/
def State.sessOf (s : State) (p : Peer) : Option SpdmSession :=
  match p.session with
  | some n => s.atr.sessions.find? (fun x => x.id == n && x.binding == p.binding && x.eid == p.eid)
  | none => none

/-- s with a session changed by f. -/
def State.updSess (s : State) (n : Nat) (f : SpdmSession → SpdmSession) : State :=
  { s with atr := { s.atr with sessions := s.atr.sessions.map (fun x => if x.id = n then f x else x) } }

/-- A response leaves: sealed in the session that the request came in, else in the clear; its connection has been used (R355). -/
def State.respond (s : State) (p : Peer) (msg : Bytes) : State :=
  let s := s.updConn p (fun c => { c with lastUsed := s.now })
  match s.sessOf p with
  | none => s.clear p msg
  | some x =>
    let key := Config.keySchedule x.secret (ascii "response") (le 4 x.rspUpdates) 32
    (s.updSess x.id (fun y => { y with sent := y.sent + 1, lastMsg := s.now })).answer p.binding 6 2 (le 4 x.id ++ Config.sealMessage key msg x.sent)

/-- An ERROR response, which ATR_SPDM_ERRORS counts. -/
def State.spdmError (s : State) (p : Peer) (version code : Nat) (data : Nat := 0) (ext : Bytes := []) : State :=
  ({ s with atr := { s.atr with spdmErrors := satAdd 32 s.atr.spdmErrors 1 } }).respond p ([byte version, 0x7F, byte code, byte data] ++ ext)

/-- ERROR ResponseNotReady with RDTExponent 14 and RDTM 2 (R357). -/
def State.notReady (s : State) (p : Peer) (version reqCode : Nat) : State := s.spdmError p version 0x42 0 [14, byte reqCode, 0, 2]

/-- The version byte of a request. -/
def reqVersion (req : Bytes) : Nat := fld req 0 1

/-- What a request finds before its own checks: an ERROR code, or its connection. A request inside a session comes in one
that exists and, but for FINISH, is established. -/
def State.gate (s : State) (p : Peer) (req : Bytes) (stage : Nat) : Nat × Connection :=
  match s.connOf p with
  | none => (0x04, {})
  | some c =>
    if p.session.isSome ∧ (s.sessOf p).isNone then (0x02, c)
    else if c.stage ≠ stage then (0x04, c)
    else if reqVersion req ≠ c.version then (0x41, c)
    else (0, c)

/-- What a request of the connected stage finds: inside says whether it may, and outside whether it may, come in a
session. -/
def State.gateBody (s : State) (p : Peer) (req : Bytes) (inside outside : Bool) : Nat × Connection :=
  let g := s.gate p req 2
  if g.1 ≠ 0 then g
  else match s.sessOf p with
    | some x => if x.established && inside then g else (0x04, g.2)
    | none => if outside then g else (0x0B, g.2)

/-- The version that an ERROR response carries. -/
def Connection.replyVersion (c : Connection) : Nat := if c.version = 0 then 0x10 else c.version

/-- The connection is discarded that has been idle longest among those with no session (R355). -/
def State.evictConn (s : State) : Option State :=
  let idle := s.atr.connections.filter (fun c => !s.atr.sessions.any (fun x => x.binding == c.binding && x.eid == c.eid))
  match idle with
  | [] => none
  | c :: cs =>
    let old := cs.foldl (fun a b => if b.lastUsed < a.lastUsed then b else a) c
    some { s with atr := { s.atr with connections := s.atr.connections.erase old } }

/-- Room for the connection of a peer: its own, a free place, or the place of another (R355). -/
def State.connRoom (s : State) (p : Peer) : Option State :=
  let s := { s with atr := { s.atr with connections := s.atr.connections.filter (fun c => !(c.binding == p.binding && c.eid == p.eid)) } }
  if s.atr.connections.length < 16 then some s else s.evictConn

/-- GET_VERSION. -/
def execGetVersion (peer : Peer) (req : Bytes) (s : State) : Res :=
  if !s.mctpUp peer.binding then .next s
  else if peer.session.isSome then .next (s.spdmError peer 0x10 0x04)
  else if reqVersion req ≠ 0x10 then .next (s.spdmError peer 0x10 0x41)
  else match s.connRoom peer with
    | none => .next (s.spdmError peer 0x10 0x03)
    | some t =>
      let rsp := [0x10, 0x04, 0, 0, 0, 3] ++ le 2 0x1100 ++ le 2 0x1200 ++ le 2 0x1300
      let c : Connection := { binding := peer.binding, eid := peer.eid, lastUsed := s.now, transcript := req ++ rsp }
      .next (({ t with atr := { t.atr with connections := t.atr.connections ++ [c] } }).clear peer rsp)

/-- The capability flags of Table 10-4 for a version. -/
def capFlags (version : Nat) : Nat := 0x62F6 + (if 0x12 ≤ version then 0x40000 else 0)

/-- GET_CAPABILITIES. -/
def execGetCapabilities (peer : Peer) (req : Bytes) (s : State) : Res :=
  let v := reqVersion req
  let g := s.gate peer req 0
  if !s.mctpUp peer.binding then .next s
  else if peer.session.isSome then .next (s.spdmError peer g.2.replyVersion 0x04)
  else if g.1 = 0x41 ∧ (v = 0x11 ∨ v = 0x12 ∨ v = 0x13) then
    let rsp := [byte v, 0x61, 0, 0, 0, 14, 0, 0] ++ le 4 (capFlags v) ++ (if 0x12 ≤ v then le 4 4096 ++ le 4 4096 else [])
    .next ((s.updConn peer (fun c => { c with stage := 1, version := v, lastUsed := s.now, transcript := c.transcript ++ req ++ rsp })).clear peer rsp)
  else .next (s.spdmError peer g.2.replyVersion (if g.1 = 0 then 0x41 else g.1))

/-- The selection that an algorithm structure of a type offers, over the structures of a request; 0 when none does. -/
def algOffer (req : Bytes) (start type : Nat) (n : Nat) : Nat :=
  ((List.range n).foldl (fun (a : Nat × Nat) _ =>
    let off := a.1
    let ext := fld req (off + 1) 1 % 16
    (off + 4 + 4 * ext, if fld req off 1 = type then fld req (off + 2) 2 else a.2)) (start, 0)).2

/-- Every category of Table 10-5 is offered by NEGOTIATE_ALGORITHMS. -/
def algsOffered (req : Bytes) (version : Nat) : Bool :=
  let start := 32 + 4 * fld req 28 1 + 4 * fld req 29 1
  let n := fld req 2 1
  (fld req 6 1).testBit 0 && (decide (version < 0x12) || (fld req 7 1).testBit 1) && (fld req 8 4).testBit 7 && (fld req 12 4).testBit 1 &&
  (algOffer req start 2 n).testBit 4 && (algOffer req start 3 n).testBit 1 && (algOffer req start 5 n).testBit 0

/-- NEGOTIATE_ALGORITHMS (Table 10-5). -/
def execNegotiateAlgorithms (peer : Peer) (req : Bytes) (s : State) : Res :=
  let g := s.gate peer req 1
  let v := g.2.replyVersion
  if !s.mctpUp peer.binding then .next s
  else if peer.session.isSome then .next (s.spdmError peer v 0x04)
  else if g.1 ≠ 0 then .next (s.spdmError peer v g.1)
  else if !algsOffered req v then .next (s.spdmError peer v 0x01)
  else
    let rsp := [byte v, 0x63, 3, 0] ++ le 2 48 ++ [1, if 0x12 ≤ v then 2 else 0] ++ le 4 4 ++ le 4 128 ++ le 4 2 ++ zeros 16 ++
      [2, 0x20] ++ le 2 16 ++ [3, 0x20] ++ le 2 2 ++ [5, 0x20] ++ le 2 1
    .next ((s.updConn peer (fun c => { c with stage := 2, lastUsed := s.now, transcript := c.transcript ++ req ++ rsp })).clear peer rsp)

/-! ### Certificate chains (R350) -/

/-- The certificates of an SPDM slot, root first; empty where the slot is. -/
def State.slotCerts (s : State) (slot : Nat) : List Bytes :=
  match slot with
  | 0 => s.atr.deviceCerts ++ [s.atr.attCert]
  | 1 => if s.atr.slot1.isEmpty then [] else s.atr.slot1 ++ [s.atr.attCert]
  | _ => []

/-- The certificate chain of a slot as DSP0274 lays it out. -/
def State.certChain (s : State) (slot : Nat) : Bytes :=
  let cs := s.slotCerts slot
  let body := cs.flatMap id
  le 2 (52 + body.length) ++ [0, 0] ++ sha384 ((cs.head?).getD []) ++ body

/-- Bit k for a filled slot k. -/
def State.slotMask (s : State) : Nat := if s.atr.slot1.isEmpty then 1 else 3

/-- No signature is made: after a quench, or while AWAIT_POWER_CYCLE is set (R358, R421). -/
def State.noSigning (s : State) : Bool := s.quenched || s.cru.awaitPowerCycle

/-- A response that needs a signature or a key exchange cannot be made yet: the Alias key or a certificate is not there, no lane
is in service, or no DRBG feeds the array (R348, R357). -/
def State.signsLater (s : State) : Bool :=
  !s.atr.certsReady || s.cru.store.attKey.isEmpty || s.hammerUnavailable || !s.clusterDrbg

/-- An operation of the responder runs on the Hammer array as SYSTEM work, where tries gives the lanes that fail it; whether
it succeeded. The failure of three lanes is logged (R246, R256, R260, R357). -/
def State.spdmOp (s : State) (op tries : Nat) : Bool × State :=
  let r := s.runOwn op 3 [] (tries % 4)
  if r.1 then r else (false, r.2.log .control 0x0501 2 0 0)

/-- The lane work of a message that is signed or not. -/
def State.signedOp (s : State) (signed : Bool) (tries : Nat) : Bool × State :=
  if signed then s.spdmOp 0x02 tries else (true, s)

/-- The lane work of KEY_EXCHANGE: the key agreement, then the signature. -/
def State.keyOps (s : State) (tries : Nat) : Bool × State :=
  match s.useD0.spdmOp 0x09 (tries / 4) with
  | (false, t) => (false, t)
  | (true, t) => t.spdmOp 0x02 tries

/-- What a signature is made over: the message itself, from version 1.2 behind the context prefix of DSP0274. -/
def spdmInput (version : Nat) (context : String) (m : Bytes) : Bytes :=
  if version < 0x12 then m
  else
    let p := ascii (if version = 0x12 then "dmtf-spdm-v1.2.*" else "dmtf-spdm-v1.3.*")
    let c := ascii context
    p ++ p ++ p ++ p ++ zeros (36 - c.length) ++ c ++ sha384 m

/-- A signature with the Alias key. -/
def State.spdmSign (s : State) (version : Nat) (context : String) (m : Bytes) : Bytes :=
  signature algP384 s.cru.store.attKey [] (spdmInput version context m) s.draws 96

/-- GET_DIGESTS. -/
def execGetDigests (peer : Peer) (req : Bytes) (s : State) : Res :=
  let g := s.gateBody peer req true true
  let v := g.2.replyVersion
  if !s.mctpUp peer.binding then .next s
  else if g.1 ≠ 0 then .next (s.spdmError peer v g.1)
  else if !s.atr.certsReady then .next (s.notReady peer v 0x81)
  else
    let rsp := [byte v, 0x01, if v = 0x13 then 3 else 0, byte s.slotMask] ++ sha384 (s.certChain 0) ++
      (if s.slotMask = 3 then sha384 (s.certChain 1) else [])
    .next ((s.updConn peer (fun c => { c with lastUsed := s.now, certMsgs := c.certMsgs ++ req ++ rsp })).respond peer rsp)

/-- GET_CERTIFICATE: at most 1,024 bytes of the chain. -/
def execGetCertificate (peer : Peer) (req : Bytes) (s : State) : Res :=
  let g := s.gateBody peer req true true
  let v := g.2.replyVersion
  let slot := fld req 2 1 % 16
  let off := fld req 4 2
  if !s.mctpUp peer.binding then .next s
  else if g.1 ≠ 0 then .next (s.spdmError peer v g.1)
  else if !s.atr.certsReady then .next (s.notReady peer v 0x82)
  else if !s.slotMask.testBit slot || decide ((s.certChain slot).length ≤ off) then .next (s.spdmError peer v 0x01)
  else
    let left := (s.certChain slot).drop off
    let part := left.take (min 1024 (fld req 6 2))
    let rsp := [byte v, 0x02, byte slot, 0] ++ le 2 part.length ++ le 2 (left.length - part.length) ++ part
    .next ((s.updConn peer (fun c => { c with lastUsed := s.now, certMsgs := c.certMsgs ++ req ++ rsp })).respond peer rsp)

/-! ### Measurement blocks (R359, R360) -/

/-- Device d has an entry in the preimage of the last generation: its port entry shows it bound. -/
def State.boundThen (s : State) (d : Nat) : Bool := (fld s.atr.preimage (0x80 + 8 * (d / 2) + 5 + d % 2) 1).testBit 0

/-- The type, form (true for raw) and value of a measurement block; none where it is not present (Table 10-6). -/
def State.measurement (s : State) (i : Nat) : Option (Nat × Bool × Bytes) :=
  let pre := s.atr.preimage
  match i with
  | 1 => some (0, false, fixLen 48 s.atr.fspDigest)
  | 2 => some (1, false, fixLen 48 s.atr.wardenMeas)
  | 3 => some (7, true, le 8 (wardenSvn s.boot.runHeader))
  | 4 => some (1, false, fixLen 48 s.atr.bundleMeas)
  | 5 => some (3, false, slice pre 0x10 48)
  | 6 => some (9, true, le 8 s.atr.gen ++ slice pre 6 2 ++ fixLen 48 s.atr.psd)
  | 7 => some (9, true, slice pre 0x40 64)
  | 8 => some (9, true, slice pre 0x80 128)
  | 9 => some (9, true, slice pre 0x100 256)
  | i => if 16 ≤ i ∧ i < 48 ∧ s.boundThen (i - 16) then some (9, true, slice pre (0x200 + 80 * (i - 16)) 80) else none

/-- A measurement block as DSP0274 lays it out. -/
def blockBytes (i : Nat) (m : Nat × Bool × Bytes) : Bytes :=
  [byte i, 1] ++ le 2 (m.2.2.length + 3) ++ [byte (m.1 + (if m.2.1 then 128 else 0))] ++ le 2 m.2.2.length ++ m.2.2

/-- The blocks present, ascending. -/
def State.blocksPresent (s : State) : List Bytes :=
  (List.range 48).filterMap (fun i => (s.measurement i).map (blockBytes i))

/-- MeasurementSummaryHash of a type: 0 none, 1 the TCB (blocks 1 to 4), 0xFF all; none for another type. -/
def State.summary (s : State) (t : Nat) : Option Bytes :=
  if t = 0 then some []
  else if t = 1 then some (sha384 (([1, 2, 3, 4] : List Nat).flatMap (fun i => ((s.measurement i).map (blockBytes i)).getD [])))
  else if t = 0xFF then some (sha384 (s.blocksPresent.flatMap id))
  else none

/-- The requester's context that a response of version 1.3 returns. -/
def reqContext (version : Nat) (req : Bytes) (off : Nat) : Bytes := if version = 0x13 then slice req off 8 else []

/-- The effect of GET_MEASUREMENTS. -/
def State.getMeasurements (s : State) (peer : Peer) (req : Bytes) (attempts : Nat) : State :=
  let g := s.gateBody peer req true true
  let v := g.2.replyVersion
  let signed := (fld req 2 1).testBit 0
  let op := fld req 3 1
  let blocks : Option (List Bytes) :=
    if op = 0 then some [] else if op = 0xFF then some s.blocksPresent else (s.measurement op).map (fun m => [blockBytes op m])
  if !s.mctpUp peer.binding then s
  else if g.1 ≠ 0 then (s.spdmError peer v g.1)
  else match blocks with
    | none => (s.spdmError peer v 0x01)
    | some bs =>
      let slot := if signed then fld req 36 1 % 16 else 0
      if signed ∧ !s.slotMask.testBit slot then (s.spdmError peer v 0x01)
      else if signed ∧ s.noSigning then (s.spdmError peer v 0x05)
      else if signed ∧ s.signsLater then (s.notReady peer v 0xE0)
      else match s.signedOp signed attempts with
        | (false, t) => (t.spdmError peer v 0x05)
        | (true, s) =>
          let rec_ := bs.flatMap id
          let head := [byte v, 0x60, byte (if op = 0 then s.blocksPresent.length else 0), byte slot, byte bs.length] ++ le 3 rec_.length ++
            rec_ ++ s.random 32 ++ [0, 0] ++ reqContext v req (if signed then 37 else 4)
          let msgs := g.2.measMsgs ++ req ++ head
          let t := s.drawn
          let rsp := if signed then head ++ t.spdmSign v "responder-measurements signing" ((if 0x12 ≤ v then g.2.transcript else []) ++ msgs) else head
          (((if signed then t.drawn else t).updConn peer
            (fun c => { c with lastUsed := s.now, measMsgs := if signed then [] else msgs })).respond peer rsp)

/-- GET_MEASUREMENTS. -/
def execGetMeasurements (peer : Peer) (req : Bytes) (attempts : Nat) (s : State) : Res :=
  .next (ownRow s fun s => s.getMeasurements peer req attempts)

/-- The effect of CHALLENGE. -/
def State.challengeAuth (s : State) (peer : Peer) (req : Bytes) (attempts : Nat) : State :=
  let g := s.gateBody peer req false true
  let v := g.2.replyVersion
  let slot := fld req 2 1 % 16
  if !s.mctpUp peer.binding then s
  else if g.1 ≠ 0 then (s.spdmError peer v g.1)
  else if s.noSigning then (s.spdmError peer v 0x05)
  else if s.signsLater then (s.notReady peer v 0x83)
  else match s.summary (fld req 3 1), s.slotMask.testBit slot with
    | some sum, true =>
      (match s.spdmOp 0x02 attempts with
       | (false, t) => (t.spdmError peer v 0x05)
       | (true, s) =>
         let head := [byte v, 0x03, byte slot, byte s.slotMask] ++ sha384 (s.certChain slot) ++ s.random 32 ++ sum ++ [0, 0] ++ reqContext v req 36
         let t := s.drawn
         let rsp := head ++ t.spdmSign v "responder-challenge_auth signing" (g.2.transcript ++ g.2.certMsgs ++ req ++ head)
         ((t.drawn.updConn peer (fun c => { c with lastUsed := s.now, certMsgs := [], measMsgs := [] })).respond peer rsp))
    | _, _ => (s.spdmError peer v 0x01)

/-- CHALLENGE. -/
def execChallenge (peer : Peer) (req : Bytes) (attempts : Nat) (s : State) : Res :=
  .next (ownRow s fun s => s.challengeAuth peer req attempts)

/-! ### Sessions (R356) -/

/-- The verification data of one side over a transcript. -/
def verifyData (secret : Bytes) (side : String) (m : Bytes) : Bytes := hmac384 secret (ascii side ++ sha384 m)

/-- The effect of KEY_EXCHANGE. A peer's point that fails the input check of ECDH_P384 is an InvalidRequest (R258, log entry
129). -/
def State.keyExchange (s : State) (peer : Peer) (req : Bytes) (attempts : Nat) : State :=
  let g := s.gateBody peer req false true
  let v := g.2.replyVersion
  let slot := fld req 3 1 % 16
  if !s.mctpUp peer.binding then s
  else if g.1 ≠ 0 then (s.spdmError peer v g.1)
  else if s.noSigning then (s.spdmError peer v 0x05)
  else if s.signsLater then (s.notReady peer v 0xE4)
  else match s.summary (fld req 2 1), s.slotMask.testBit slot with
    | some sum, true =>
      if !pointOk p384 48 (0x04 :: slice req 40 96) then (s.spdmError peer v 0x01)
      else if 8 ≤ s.atr.sessions.length then (({ s with atr := { s.atr with limitHit := true } }).spdmError peer v 0x0A)
      else
        (match s.keyOps attempts with
         | (false, t) => (t.spdmError peer v 0x05)
         | (true, s) =>
           let random := s.random 32
           let eph := s.drawn.random 48
           let t := s.drawn.drawn
           let n := t.atr.nextSession
           let head := [byte v, 0x64, 60, 0] ++ le 2 n ++ [0, 0] ++ random ++ fixLen 96 (Config.publicKey algP384 eph) ++ sum ++ [0, 0]
           let th := g.2.transcript ++ sha384 (t.certChain slot) ++ req ++ head
           let sig := t.spdmSign v "responder-key_exchange_rsp signing" th
           let secret := Config.keySchedule (Config.ecdh eph (slice req 40 96)) (ascii "spdm") (sha384 (th ++ sig)) 48
           let proof := verifyData secret "responder" (th ++ sig)
           let x : SpdmSession := { id := fld req 4 2 + 65536 * n, binding := peer.binding, eid := peer.eid, lastMsg := s.now,
                                    secret := secret, transcript := th ++ sig ++ proof }
           let t := { t.drawn with atr := { t.atr with sessions := t.atr.sessions ++ [x], nextSession := n % 65535 + 1 } }
           ((t.updConn peer (fun c => { c with lastUsed := s.now, measMsgs := [] })).clear peer (head ++ sig ++ proof)))
    | _, _ => (s.spdmError peer v 0x01)

/-- KEY_EXCHANGE. -/
def execKeyExchange (peer : Peer) (req : Bytes) (attempts : Nat) (s : State) : Res :=
  .next (ownRow s fun s => s.keyExchange peer req attempts)

/-- A session ends. -/
def State.endSession (s : State) (n : Nat) : State := { s with atr := { s.atr with sessions := s.atr.sessions.filter (fun x => x.id != n) } }

/-- FINISH: in the session that it establishes. -/
def execFinish (peer : Peer) (req : Bytes) (s : State) : Res :=
  let g := s.gate peer req 2
  let v := g.2.replyVersion
  if !s.mctpUp peer.binding then .next s
  else if g.1 ≠ 0 then .next (s.spdmError peer v g.1)
  else match s.sessOf peer with
    | none => .next (s.spdmError peer v 0x0B)
    | some x =>
      if x.established then .next (s.spdmError peer v 0x04)
      else if (fld req 2 1).testBit 0 then .next (s.spdmError peer v 0x01)
      else if slice req 4 48 ≠ verifyData x.secret "requester" (x.transcript ++ req.take 4) then
        .next ((s.spdmError peer v 0x06).endSession x.id)
      else
        .next ((s.respond peer [byte v, 0x65, 0, 0]).updSess x.id (fun y => { y with established := true }))

/-- HEARTBEAT. -/
def execHeartbeat (peer : Peer) (req : Bytes) (s : State) : Res :=
  let g := s.gateBody peer req true false
  let v := g.2.replyVersion
  if !s.mctpUp peer.binding then .next s
  else if g.1 ≠ 0 then .next (s.spdmError peer v g.1)
  else .next (s.respond peer [byte v, 0x68, 0, 0])

/-- KEY_UPDATE: 1 the requester's key, 2 both keys, 3 the check of the new key. -/
def execKeyUpdate (peer : Peer) (req : Bytes) (s : State) : Res :=
  let g := s.gateBody peer req true false
  let v := g.2.replyVersion
  let op := fld req 2 1
  if !s.mctpUp peer.binding then .next s
  else if g.1 ≠ 0 then .next (s.spdmError peer v g.1)
  else if op = 0 ∨ 3 < op then .next (s.spdmError peer v 0x01)
  else
    let s := match peer.session with
      | some n => s.updSess n (fun y =>
          { y with updates := y.updates + (if op ≤ 2 then 1 else 0), rspUpdates := y.rspUpdates + (if op = 2 then 1 else 0) })
      | none => s
    .next (s.respond peer [byte v, 0x69, byte op, byte (fld req 3 1)])

/-- END_SESSION. -/
def execEndSession (peer : Peer) (req : Bytes) (s : State) : Res :=
  let g := s.gateBody peer req true false
  let v := g.2.replyVersion
  if !s.mctpUp peer.binding then .next s
  else if g.1 ≠ 0 then .next (s.spdmError peer v g.1)
  else .next ((s.respond peer [byte v, 0x6C, 0, 0]).endSession (peer.session.getD 0))

/-- SPDM_UNSUPPORTED_REQUEST: a request code outside Table 10-4. -/
def execSpdmUnsupportedRequest (peer : Peer) (req : Bytes) (s : State) : Res :=
  if !s.mctpUp peer.binding then .next s
  else .next (s.spdmError peer (((s.connOf peer).map Connection.replyVersion).getD 0x10) 0x07 (fld req 1 1))

/-- SPDM_SESSION_IDLE_TIMEOUT: 120 s with no message in the session. -/
def execSpdmSessionIdleTimeout (session : Nat) (s : State) : Res :=
  if s.atr.sessions.any (fun x => x.id == session && decide (x.lastMsg + 120000000 ≤ s.now)) then .next (s.endSession session) else .next s

/-! ### Identity certificates (R350, R370) -/

/-- IDENTITY_CERTS. -/
def execIdentityCerts (h : Hdr) (select outSize hostAddr : Nat) (s : State) : Res :=
  .next (commandR (opIdentityCerts.on (le 1 select ++ zeros 3 ++ le 4 outSize ++ le 8 hostAddr)) h (decide (select < 3) && s.writeAddrOk h hostAddr) s fun _ t =>
    let cs := (if select = 2 then t.atr.leafCerts else t.slotCerts select).filter (fun c => !c.isEmpty)
    let out := cs.flatMap (fun c => le 2 c.length ++ c)
    if outSize < out.length then err 0x0370 else okOut hostAddr out (le 4 out.length ++ le 1 cs.length))

/-- The length of the DER value at the start of bytes, its header included; none where there is no such value. -/
def derLength (b : Bytes) : Option Nat :=
  let n := fld b 1 1
  let total := if n < 0x80 then 2 + n else if n = 0x81 then 3 + fld b 2 1 else if n = 0x82 then 4 + beNat (slice b 2 2) else 0
  if 2 ≤ total ∧ total ≤ b.length then some total else none

/-- The DER certificates that bytes spell one after another, at most fuel of them. -/
def splitDer : Nat → Bytes → Option (List Bytes)
  | 0, _ => none
  | fuel + 1, b =>
    if b.isEmpty then some []
    else match derLength b with
      | none => none
      | some n => (splitDer fuel (b.drop n)).map (fun l => b.take n :: l)

/-- The chain that may fill slot 1 (R350); none when a condition fails. -/
def State.ownerChain (s : State) (data : Bytes) : Option (List Bytes) :=
  match splitDer 64 data with
  | none => none
  | some cs => if Config.chainValid cs && Config.certKey (cs.getLast?.getD []) == s.cru.pubs.deviceId then some cs else none

/-- IDENTITY_CERT_INSTALL. -/
def execIdentityCertInstall (h : Hdr) (length hostAddr : Nat) (data : Bytes) (s : State) : Res :=
  let data := s.inputOf h hostAddr length data
  .next (commandC (opIdentityCertInstall.on (le 4 length ++ zeros 4 ++ le 8 hostAddr)) h (decide (length = 0 ∨ length ≤ 4096 ∧ s.readAddrOk h hostAddr length)) s fun _ t =>
    if t.cru.lcState ≠ 4 then (err 0x0491, t)
    else match (if length = 0 then some [] else t.ownerChain (fixLen length data)) with
      | none => (err 0x0570, t)
      | some cs => (ok, ({ t with atr := { t.atr with slot1 := cs } }).log .control 0x0501 2 0 0))

end Sys2Proof.Machine
end

