-- ==== Sys2Proof/Machine/Registers.lean ====
section
/-! DEFINITION. BAR0 (Tables 8-3 and 8-4): the word that each register reads, what a read clears (RC), what a write does (RW and
W1C), and the latch of 64-bit registers (R8 to R12, R280). -/
namespace Sys2Proof.Machine

/-! ### The Spine block -/

/-- The value of PHASE (Table 2-9). -/
def Phase.code : Phase → Nat
  | .guardDefault => 0
  | .firstStage => 1
  | .lcComplete => 2
  | .wardenVerify => 3
  | .bundleLoad => 4
  | .bundleVerify => 5
  | .policyLoad => 6
  | .operational => 7
  | .noPolicy => 8
  | .cartridgeSearch => 9
  | .serialLoader => 10
  | .scrapped => 11
  | .controlRestart => 12

/-- SPN_BOOT_STATUS. -/
def State.bootWord (s : State) : Nat :=
  put 0 4 s.boot.phase.code + put 4 2 s.boot.wardenSrc + put 6 1 s.boot.bundleCopy + put 7 1 (b2n s.boot.cosigned) + put 8 3 s.cru.lcState +
  put 11 2 s.boot.debugAtStart + put 16 4 s.boot.cause + put 20 1 (b2n s.boot.lcWipeDone) + put 21 1 (b2n s.boot.repaired)

/-- The Spine block. -/
def State.spineWord (s : State) (off : Nat) : Nat :=
  match off with
  | 0x00 => s.temperWord
  | 0x04 => s.powerWord
  | 0x08 => s.yieldActive
  | 0x0C => s.spn.yieldCount
  | 0x10 => s.bootWord
  | 0x14 => s.boot.elapsedUs
  | 0x18 => s.boot.fwVersion
  | 0x1C => s.serviceWord
  | 0x20 => s.spn.corrected
  | 0x24 => s.remapWord
  | 0x28 => s.islandWord
  | 0x2C => s.crossWord
  | 0x30 => s.domainWord 0
  | 0x34 => s.domainWord 1
  | 0x38 => s.domainWord 2
  | 0x3C => s.powerCfgWord
  | 0x40 => s.crossWord2
  | _ => 0

/-- What a read of the Spine block clears. -/
def State.spineClear (s : State) (off : Nat) : State :=
  let sat (k : Nat → Bool) : List Nat := (s.spn.crossSat.zip (List.range 7)).map (fun p => if k p.2 then 0 else p.1)
  match off with
  | 0x0C => { s with spn := { s.spn with yieldCount := 0 } }
  | 0x20 => { s with spn := { s.spn with corrected := 0 } }
  | 0x24 => { s with spn := { s.spn with remapped := 0, reinit := 0 } }
  | 0x2C => { s with spn := { s.spn with crossSat := sat (fun i => decide (1 ≤ i ∧ i ≤ 4)) } }
  | 0x40 => { s with spn := { s.spn with crossSat := sat (fun i => decide (5 ≤ i)) } }
  | _ => s

/-- A W1C bit after a write of v. -/
def w1cBit (hit : Bool) (v i : Nat) : Bool := hit && !v.testBit i

/-- A write to the Spine block. -/
def State.spineWrite (s : State) (off v : Nat) : State :=
  match off with
  | 0x00 => { s with spn := { s.spn with avsFault := w1cBit s.spn.avsFault v 24 } }
  | 0x04 => { s with spn := { s.spn with capHit := w1cBit s.spn.capHit v 23 } }
  | 0x10 => { s with boot := { s.boot with repaired := w1cBit s.boot.repaired v 21 } }
  | 0x1C => { s with spn := { s.spn with changeHit := w1cBit s.spn.changeHit v 8 } }
  | _ => s

/-! ### The Strings block -/

/-- STR_SUMMARY. -/
def State.strSummary (s : State) : Nat :=
  let all := List.range 256
  let defined := all.filter (fun n => (s.slot n).state != .absent)
  let released := defined.filter (fun n => (s.slot n).state == .released)
  put 0 9 released.length + put 9 9 defined.length +
  put 18 1 (b2n (defined.all (fun n => (s.slot n).state == .released && (s.slot n).completed))) +
  put 19 1 (b2n (defined.any (fun n => (s.slot n).state == .quarantined))) + put 20 1 (b2n s.strs.change)

/-- The value of a bus state. -/
def BusState.code : BusState → Nat
  | .unused => 0
  | .up => 1
  | .retrying => 2
  | .isolated => 3

/-- STR_BUS_STATUS. -/
def State.busStatus (s : State) : Nat :=
  ([0, 1, 2, 3] : List Nat).foldl (fun a b =>
    a + put (4 * b) 2 (s.xbus b).state.code + put (4 * b + 2) 1 (b2n ((List.range 8).any (fun e => s.expProtocol b e == 2))) +
    put (4 * b + 3) 1 (b2n (s.xbus b).isolatedHit)) 0

/-- STR_BUS_RETRIES. -/
def State.busRetries (s : State) : Nat := ([0, 1, 2, 3] : List Nat).foldl (fun a b => a + put (8 * b) 8 (s.xbus b).retries) 0

/-- The sampled level of direct string i: driven or pulled for an output, from outside for an input, undefined for a pin that
no policy describes (a free value, log entry 3). -/
def State.pinLevel (s : State) (i : Nat) : Bool :=
  let e := s.strEntry i
  if e.role = 0 then (Config.freeValue s.draws).testBit (i % 32)
  else if e.role = 3 then (s.str i).input
  else if (s.str i).slack then !e.high else e.high

/-- STR_PIN_LEVEL_k. -/
def State.pinWord (s : State) (k : Nat) : Nat := (List.range 32).foldl (fun a j => a + put j 1 (b2n (s.pinLevel (32 * k + j)))) 0

/-- The Strings block. -/
def State.stringsWord (s : State) (off : Nat) : Nat :=
  if off = 0 then s.strSummary
  else if off = 4 then s.busStatus
  else if off = 8 then s.busRetries
  else if 0x10 ≤ off ∧ off < 0x20 then s.pinWord ((off - 0x10) / 4)
  else if 0x100 ≤ off ∧ off < 0x500 then s.slotWord ((off - 0x100) / 4)
  else 0

/-- What a read of the Strings block clears; a pin level that is undefined is drawn anew at each read. -/
def State.stringsClear (s : State) (off : Nat) : State :=
  if off = 8 then ([0, 1, 2, 3] : List Nat).foldl (fun t b => t.updBus b (fun x => { x with retries := 0 })) s
  else if 0x10 ≤ off ∧ off < 0x20 then s.drawn
  else s

/-- A write to the Strings block. -/
def State.stringsWrite (s : State) (off v : Nat) : State :=
  if off = 0 then { s with strs := { s.strs with change := w1cBit s.strs.change v 20 } }
  else if off = 4 then
    ([0, 1, 2, 3] : List Nat).foldl (fun t b => t.updBus b (fun x => { x with isolatedHit := w1cBit x.isolatedHit v (4 * b + 3) })) s
  else s

/-! ### The Anvil port blocks -/

/-- The block of port p. -/
def State.portWord (s : State) (p off : Nat) : Nat :=
  let x := s.port p
  match off with
  | 0x00 => s.portModeWord p
  | 0x04 => s.portDevWord (2 * p)
  | 0x08 => s.portDevWord (2 * p + 1)
  | 0x0C => (s.shadow (2 * p)).suspAddr
  | 0x10 => (s.shadow (2 * p + 1)).suspAddr
  | 0x14 => x.cmdCount
  | 0x18 => x.truncCount
  | 0x1C => put 0 16 x.intrusions + put 16 8 x.stalls + put 24 8 x.welAdopt
  | 0x20 => s.portIdleWait p
  | 0x24 => x.bank.epoch % 2 ^ 32
  | 0x28 => x.violations
  | _ => 0

/-- What a read of the block of port p clears. -/
def State.portClear (s : State) (p off : Nat) : State :=
  match off with
  | 0x14 => s.updPort p (fun x => { x with cmdCount := 0 })
  | 0x18 => s.updPort p (fun x => { x with truncCount := 0 })
  | 0x1C => s.updPort p (fun x => { x with intrusions := 0, stalls := 0, welAdopt := 0 })
  | 0x28 => s.updPort p (fun x => { x with violations := 0 })
  | _ => s

/-- A write to the block of port p. -/
def State.portWrite (s : State) (p off v : Nat) : State :=
  match off with
  | 0x00 => s.updPort p (fun x => { x with frozenHit := w1cBit x.frozenHit v 8, fVddioLost := w1cBit x.fVddioLost v 11 })
  | 0x04 => s.updShadow (2 * p) (fun x => { x with resyncHit := w1cBit x.resyncHit v 21 })
  | 0x08 => s.updShadow (2 * p + 1) (fun x => { x with resyncHit := w1cBit x.resyncHit v 21 })
  | _ => s

/-! ### The Bellows and FIT blocks -/

/-- Work of a shared lane is under way: digest or receipt work of a queue, what the snoop taps hold, a background scan or an LMS
verification (R205). -/
def State.sharedBusy (s : State) : Bool :=
  s.digestWork || !s.bde.taps.isEmpty || !s.bde.lms.isEmpty || s.fit.scans.any (fun x => x.running && !x.kind.urgent)

/-- USE of digest lane l. -/
def State.laneUse (s : State) (l : Nat) : Nat :=
  if !s.digestLanes.contains l then 3
  else if s.dedicatedLanes.contains l then 2
  else if s.sharedLanes.contains l && s.sharedBusy then 1
  else 0

/-- The Bellows block. -/
def State.bellowsWord (s : State) (off : Nat) : Nat :=
  match off with
  | 0x00 => (List.range 8).foldl (fun a l => a + put (2 * l) 2 (s.laneUse l)) 0
  | 0x04 => s.bde.drops
  | 0x08 => s.bde.contexts.length
  | _ => 0

/-- The scans of rung 3 and background hold two reserved assemblies for each device (R224). -/
def State.scanAssemblies (s : State) : Nat := 2 * (s.fit.scans.filter (fun x => x.running)).length

/-- A word with bit d set where p holds of device d. -/
def deviceMask (p : Nat → Bool) : Nat := (List.range 32).foldl (fun a d => a + put d 1 (b2n (p d))) 0

/-- The FIT block. -/
def State.fitWord (s : State) (off : Nat) : Nat :=
  match off with
  | 0x00 => put 0 11 s.poolInUse + put 11 7 s.scanAssemblies + put 18 11 s.fit.highWater
  | 0x04 => s.fit.evictions
  | 0x08 => deviceMask s.scanPending
  | 0x0C => s.fit.mismatch
  | 0x10 => s.fit.wearAlert
  | 0x14 => deviceMask (fun d => (s.flashRec d).checkMatch)
  | _ => 0

/-! ### The Hammer and receipt forge blocks -/

/-- The Hammer block. -/
def State.hammerWord (s : State) (off : Nat) : Nat :=
  if 0x40 ≤ off ∧ off < 0x88 then s.hmaLane ((off - 0x40) / 4)
  else match off with
  | 0x00 => s.hmaStatus
  | 0x04 => s.hmaLoad
  | 0x08 => s.hmaPool
  | 0x0C => s.hma.noPair
  | 0x10 => s.hma.invariantFails
  | 0x14 => s.hma.yields
  | 0x18 => s.hmaVersion
  | _ => 0

/-- What a read of the Hammer block clears. -/
def State.hammerClear (s : State) (off : Nat) : State :=
  match off with
  | 0x0C => { s with hma := { s.hma with noPair := 0 } }
  | 0x10 => { s with hma := { s.hma with invariantFails := 0 } }
  | 0x14 => { s with hma := { s.hma with yields := 0 } }
  | _ => s

/-- A write to the Hammer block. -/
def State.hammerWrite (s : State) (off v : Nat) : State :=
  match off with
  | 0x00 => { s with hma := { s.hma with retireHit := w1cBit s.hma.retireHit v 14, invariantHit := w1cBit s.hma.invariantHit v 15 } }
  | 0x08 => { s with hma := { s.hma with p384EmptyHit := w1cBit s.hma.p384EmptyHit v 24, p256EmptyHit := w1cBit s.hma.p256EmptyHit v 25 } }
  | _ => s

/-- The wall time is below LAST_WALL in LAST_EPOCH. -/
def State.wallHeld (s : State) : Bool := s.emb.wallSet && decide (s.emb.epoch = s.rfg.lastEpoch ∧ s.wall < s.rfg.lastWall)

/-- A period is EXTENDED. -/
def State.ringFull (s : State) : Bool :=
  match s.rfg.period with
  | some p => p.flags.testBit 4
  | none => false

/-- RFG_STATUS. -/
def State.forgeWord (s : State) : Nat :=
  let st := if !s.boot.reached then 3 else if s.quenched then 1 else if s.hammerUnavailable then 2 else 0
  put 0 2 st + put 2 1 (b2n s.wallHeld) + put 3 1 (b2n (!s.emb.wallSet)) + put 4 1 (b2n s.psdPending) + put 5 1 (b2n s.ringFull) +
  put 6 1 (b2n s.rfg.extendHit) + put 7 1 (b2n s.rfg.heldHit)

/-- The receipt forge block, but for the high words of its 64-bit registers. -/
def State.rfgWord (s : State) (off : Nat) : Nat :=
  match off with
  | 0x00 => s.forgeWord
  | 0x04 => s.rfg.issued
  | 0x08 => s.rfg.voided
  | 0x0C => s.rfg.refused
  | 0x18 => (s.rfg.period.map Period.id).getD 0
  | 0x1C => put 0 16 s.rfg.records.length + put 16 16 (s.rfg.records.filter (fun r => decide (s.rfg.acked < r.id))).length
  | _ => 0

/-- What a read of the receipt forge block clears. -/
def State.rfgClear (s : State) (off : Nat) : State :=
  match off with
  | 0x04 => { s with rfg := { s.rfg with issued := 0 } }
  | 0x08 => { s with rfg := { s.rfg with voided := 0 } }
  | 0x0C => { s with rfg := { s.rfg with refused := 0 } }
  | _ => s

/-! ### The Command Engine's global block and the Attestation Responder's -/

/-- The Command Engine's global block. -/
def State.cmeWord (s : State) (off : Nat) : Nat :=
  match off with
  | 0x00 => put 0 7 s.outboxHeld.length + put 7 7 s.outboxWm + put 14 1 (b2n s.cme.outboxHit)
  | 0x04 => put 0 16 s.cme.outboxCrossings + put 16 16 s.cme.outboxDrops
  | 0x08 => s.cme.merged
  | 0x0C => s.cme.islandTimeouts
  | _ => 0

/-- What a read of the Command Engine's global block clears. -/
def State.cmeClear (s : State) (off : Nat) : State :=
  match off with
  | 0x04 => { s with cme := { s.cme with outboxCrossings := 0, outboxDrops := 0 } }
  | 0x08 => { s with cme := { s.cme with merged := 0 } }
  | 0x0C => { s with cme := { s.cme with islandTimeouts := 0 } }
  | _ => s

/-- ATR_STATUS. -/
def State.atrStatus (s : State) : Nat :=
  put 0 4 s.atr.sessions.length + put 4 5 s.atr.connections.length + put 9 1 (b2n s.atr.certsReady) + put 10 1 (b2n (!s.atr.slot1.isEmpty)) +
  put 11 1 (b2n s.quenched) + put 12 1 (b2n s.atr.limitHit) + put 13 1 (b2n s.atr.lostHit)

/-- The Attestation Responder's block, but for its 64-bit registers. -/
def State.atrWord (s : State) (off : Nat) : Nat :=
  match off with
  | 0x00 => s.atrStatus
  | 0x14 => s.atr.history.length
  | 0x18 => s.atr.spdmErrors
  | _ => 0

/-! ### The Reforge and Cartridge Bay blocks -/

/-- The value of a phase of RFU_OP_j. -/
def RfuPhase.code : RfuPhase → Nat
  | .idle => 0
  | .search => 1
  | .verify => 2
  | .waitPort => 3
  | .write => 4
  | .remeasure => 5
  | .waitSource => 6

/-- RFU_STATUS. -/
def State.rfuStatus (s : State) : Nat :=
  put 0 3 (s.rfu.ops.filter (fun o => o.position.isSome)).length + put 3 6 (s.rfu.ops.filter (fun o => o.position.isNone)).length +
  put 9 6 ((List.range 32).filter (fun d => (s.journal d).open_)).length + put 15 1 (b2n (!s.rfu.resuming.isEmpty)) +
  put 16 1 (b2n (s.rfu.ops.any (fun o => o.phase == .waitSource))) + put 17 1 (b2n s.rfu.failHit) + put 18 1 (b2n s.rfu.commitHit)

/-- The two words of RFU_OP_j. -/
def State.rfuOpWord (s : State) (j k : Nat) : Nat :=
  match s.rfu.ops.find? (fun o => o.position == some j) with
  | none => 0
  | some o =>
    if k = 0 then
      put 0 5 o.device + put 5 1 (b2n o.full) + put 6 3 o.phase.code + put 9 2 o.source + put 11 2 (if o.source = 0 then o.cartSlot else 0) +
      put 13 4 o.attempt + put 17 8 o.slot
    else put 0 14 (s.journal o.device).set.length + put 14 14 (s.journal o.device).doneCount

/-- The Reforge block. -/
def State.rfuWord (s : State) (off : Nat) : Nat :=
  if off = 0 then s.rfuStatus
  else if 0x10 ≤ off ∧ off < 0x30 then s.rfuOpWord ((off - 0x10) / 8) (off / 4 % 2)
  else if off = 0x30 then s.rfu.blocksWritten
  else if off = 0x34 then s.rfu.failed
  else 0

/-- CBY_STATUS. -/
def State.cbyStatus (s : State) : Nat :=
  let any (p : Cart → Bool) : Bool := (List.range 4).any (fun k => p (s.cart k))
  put 0 2 (if any (fun x => x.state == .identifying) then 1 else if any (fun x => x.usable || x.state == .inUse) then 2 else 0) +
  put 2 6 s.cby.clockMhz + put 8 2 s.cby.addressed + put 10 1 (b2n s.cby.removedHit) + put 11 1 (b2n s.cby.insertedHit) +
  put 12 1 (b2n s.cby.errorHit)

/-- The Cartridge Bay block. -/
def State.cbyWord (s : State) (off : Nat) : Nat :=
  if off = 0 then s.cbyStatus
  else if 0x10 ≤ off ∧ off < 0x20 then s.cartWord ((off - 0x10) / 4)
  else if off = 0x20 then s.cby.crcErrors
  else 0

/-! ### The Crucible, Ember, wind-up and Logbook blocks -/

/-- The value of ENTROPY. -/
def Entropy.code : Entropy → Nat
  | .starting => 0
  | .good => 1
  | .degraded => 2
  | .failed => 3

/-- Owner key slots in a state. -/
def State.keySlots (s : State) (st : Nat) : Nat := ((List.range 16).filter (fun i => (s.cru.table.slot i).state == st)).length

/-- CRU_STATUS. -/
def State.cruStatus (s : State) : Nat :=
  put 0 2 s.cru.entropy.code + put 2 1 (b2n s.cru.entropyHit) + put 3 1 (b2n (s.cru.keysWithdrawn || s.cru.awaitPowerCycle)) + put 4 5 (s.keySlots 1) + put 9 5 (s.keySlots 2)

/-- The Crucible block, but for its 64-bit register. -/
def State.cruWord (s : State) (off : Nat) : Nat :=
  match off with
  | 0x00 => s.lcStatusWord
  | 0x04 => s.cruStatus
  | 0x08 => s.debugWord
  | 0x14 => s.cru.reseeds
  | 0x18 => s.cru.authFails
  | _ => 0

/-- EMB_TIME_STATUS. -/
def State.timeWord (s : State) : Nat :=
  put 0 16 s.emb.epoch + put 16 1 (b2n s.emb.wallSet) + put 17 1 (b2n s.emb.dmtGap) + put 18 1 (b2n s.emb.slew.isSome) +
  put 19 1 (b2n s.emb.stepHit) + put 20 1 (b2n s.emb.epochHit)

/-- The Ember block, but for its 64-bit registers. -/
def State.emberWord (s : State) (off : Nat) : Nat :=
  if off = 0x10 then s.timeWord
  else if off = 0x14 then s.emb.opSeconds
  else if off = 0x18 then put 0 24 s.emb.powerCycles
  else if 0x100 ≤ off ∧ off < 0x118 then s.tamperWords.getD ((off - 0x100) / 4) 0
  else if 0x180 ≤ off ∧ off < 0x200 then s.tamperSrcWord ((off - 0x180) / 4)
  else 0

/-- A write to the Ember block. -/
def State.emberWrite (s : State) (off v : Nat) : State :=
  match off with
  | 0x10 => { s with emb := { s.emb with stepHit := w1cBit s.emb.stepHit v 19, epochHit := w1cBit s.emb.epochHit v 20 } }
  | 0x100 => { s with emb := { s.emb with quenchHit := w1cBit s.emb.quenchHit v 1, tripHit := w1cBit s.emb.tripHit v 10 } }
  | _ => s

/-- WWU_IWD. -/
def State.iwdWord (s : State) : Nat :=
  put 0 2 (bits (s.otpWord 113) 16 2) + put 2 1 (b2n s.iwdEmber) + put 3 1 (b2n s.wwu.iwd.onBackup) + put 4 1 (b2n s.wwu.iwd.stopHit) +
  put 5 8 s.wwu.iwd.expiries

/-- The wind-up watchdog block. -/
def State.wwuWord (s : State) (off : Nat) : Nat :=
  if 0x100 ≤ off ∧ off < 0x900 then
    (if off / 4 % 2 = 0 then s.chanWord0 ((off - 0x100) / 8) else s.chanWord1 ((off - 0x100) / 8))
  else match off with
  | 0x00 => s.iwdWord
  | 0x04 => put 0 9 s.armedChannels.length + put 9 1 (b2n s.wwu.preHit) + put 10 1 (b2n s.wwu.expiryHit) + put 11 1 (b2n s.wwu.reacquireHit) +
            put 12 1 (b2n s.wwu.stopHit)
  | 0x08 => s.wwu.expiries
  | 0x0C => s.wwu.badKeys
  | _ => 0

/-- A write to the wind-up watchdog block. -/
def State.wwuWrite (s : State) (off v : Nat) : State :=
  match off with
  | 0x00 => { s with wwu := { s.wwu with iwd := { s.wwu.iwd with stopHit := w1cBit s.wwu.iwd.stopHit v 4 } } }
  | 0x04 => { s with wwu := { s.wwu with preHit := w1cBit s.wwu.preHit v 9, expiryHit := w1cBit s.wwu.expiryHit v 10,
                                         reacquireHit := w1cBit s.wwu.reacquireHit v 11, stopHit := w1cBit s.wwu.stopHit v 12 } }
  | _ => s

/-- The Logbook block, but for the 64-bit registers that are RO. -/
def State.lgbWord (s : State) (off : Nat) : Nat :=
  if 0x1000 ≤ off ∧ off < 0x2000 then
    (match s.lgb.window[(off - 0x1000) / 64]? with
     | some r => fld r.bytes (off % 64) 4
     | none => 0)
  else match off with
  | 0x00 => put 0 1 (b2n s.lgb.running) + put 1 1 (b2n s.lgb.fillHit) + put 2 1 (b2n s.lgb.evictHit) + put 3 1 (b2n s.lgb.dropHit) +
            put 4 1 (b2n s.noRung6)
  | 0x04 => s.lgb.records.length
  | 0x08 => s.lgb.unacked
  | 0x2C => put 0 7 s.lgb.window.length + put 8 1 (b2n (s.lgb.window.any LogRec.isOpen)) + put 9 1 (b2n s.lgb.windowSkipped)
  | 0x30 => s.lgb.dropped
  | 0x34 => s.lgb.evicted
  | 0x38 => s.lgb.storms
  | 0x3C => s.lgb.fillCount
  | _ => 0

/-- What a read of the Logbook block clears. -/
def State.lgbClear (s : State) (off : Nat) : State :=
  match off with
  | 0x30 => { s with lgb := { s.lgb with dropped := 0 } }
  | 0x34 => { s with lgb := { s.lgb with evicted := 0 } }
  | 0x38 => { s with lgb := { s.lgb with storms := 0 } }
  | 0x3C => { s with lgb := { s.lgb with fillCount := 0 } }
  | _ => s

/-- A write to the Logbook block: W1C bits and the low word of the cursor. -/
def State.lgbWrite (s : State) (off v : Nat) : State :=
  match off with
  | 0x00 => { s with lgb := { s.lgb with fillHit := w1cBit s.lgb.fillHit v 1, evictHit := w1cBit s.lgb.evictHit v 2,
                                         dropHit := w1cBit s.lgb.dropHit v 3 } }
  | 0x24 => { s with lgb := { s.lgb with cursorLow := v % 2 ^ 32 } }
  | _ => s

/-! ### The function area (Tables 8-3, 8-5 and 8-13) -/

/-- The queues granted to a function. -/
def State.queuesOf (s : State) (fn : Nat) : Nat := ((List.range 4096).filter (s.ownsQueue fn)).length

/-- The registers of a function for the queue that it has selected. -/
def State.selectedRegs (s : State) (fn : Nat) : QRegs := s.qRegs fn (s.fnBlock fn).qSelect

/-- The queue that a function has selected, as CME_Q_STATE shows it: one that is not granted to the function and was not
opened by it reads CLOSED. -/
def State.selected (s : State) (fn : Nat) : Queue :=
  let q := (s.fnBlock fn).qSelect
  if s.ownsQueue fn q || s.usesQueue fn q then s.queue q else {}

/-- The value of a queue state. -/
def QState.code : QState → Nat
  | .closed => 0
  | .opened => 1
  | .closing => 2
  | .error => 3

/-- The function control block, but for its 64-bit registers. -/
def State.fnWord (s : State) (fn off : Nat) : Nat :=
  let b := s.fnBlock fn
  let x := s.selectedRegs fn
  let y := s.selected fn
  if 0x100 ≤ off ∧ off < 0x300 then
    let k := (off - 0x100) / 4
    (List.range 32).foldl (fun a j => a + put j 1 (b2n (s.ownsQueue fn (32 * k + j) && (s.queue (32 * k + j)).wmHit))) 0
  else if 0x4000 ≤ off ∧ off < 0x8000 then
    let q := (off - 0x4000) / 4
    if s.ownsQueue fn q then (s.queue q).wmCount else 0
  else match off with
  | 0x00 => 7 + put 3 6 fn + put 9 13 (s.queuesOf fn)
  | 0x04 => put 0 1 (b2n s.ready) + put 1 1 (b2n (s.boot.phase == .noPolicy)) + put 2 1 (b2n b.grantsChanged) + put 3 1 (b2n b.islandHit) +
            put 4 4 b.lastIsland + put 8 1 (b2n b.bmeLost)
  | 0x08 => b.stray
  | 0x0C => put 0 12 b.qSelect
  | 0x10 => put 0 4 x.depthLog2 + put 4 2 (x.version - 0x10) + put 6 1 (b2n x.async) + put 7 1 (b2n x.intEnable) + put 8 11 x.vector +
            put 19 4 x.wm + put 23 8 x.coalUs
  | 0x28 => put 0 2 y.state.code + put 3 4 x.result + put 7 4 y.lastCause + put 11 12 y.outstanding
  | 0x34 => put 0 2 b.readFaultKind
  | _ => 0

/-- What a read of the function control block clears. -/
def State.fnClear (s : State) (fn off : Nat) : State :=
  if off = 8 then s.updFn fn (fun b => { b with stray := 0 })
  else if 0x4000 ≤ off ∧ off < 0x8000 ∧ s.ownsQueue fn ((off - 0x4000) / 4) then
    s.updQueue ((off - 0x4000) / 4) (fun x => { x with wmCount := 0 })
  else s

/-- A write to the function control block. What it configures takes effect when the queue is opened. -/
def State.fnWrite (s : State) (fn off v : Nat) : State :=
  let cfg (f : QRegs → QRegs) : State := s.updQRegs fn (s.fnBlock fn).qSelect f
  if 0x100 ≤ off ∧ off < 0x300 then
    let k := (off - 0x100) / 4
    (List.range 32).foldl (fun t j =>
      if v.testBit j && t.ownsQueue fn (32 * k + j) then t.updQueue (32 * k + j) (fun x => { x with wmHit := false }) else t) s
  else match off with
  | 0x04 => s.updFn fn (fun b => { b with grantsChanged := w1cBit b.grantsChanged v 2, islandHit := w1cBit b.islandHit v 3,
                                          bmeLost := w1cBit b.bmeLost v 8 })
  | 0x0C => s.updFn fn (fun b => { b with qSelect := v % 4096 })
  | 0x10 => cfg (fun x => { x with depthLog2 := bits v 0 4, version := 0x10 + bits v 4 2, async := v.testBit 6, intEnable := v.testBit 7,
                                   vector := bits v 8 11, wm := bits v 19 4, coalUs := bits v 23 8 })
  | 0x14 => cfg (fun x => { x with sqBase := setLow x.sqBase v })
  | 0x18 => cfg (fun x => { x with sqBase := setHigh x.sqBase v })
  | 0x1C => cfg (fun x => { x with cqBase := setLow x.cqBase v })
  | 0x20 => cfg (fun x => { x with cqBase := setHigh x.cqBase v })
  | _ => s

/-- A doorbell's INDEX as last written: SQ_TAIL at 8q, CQ_HEAD at 8q + 4 (Table 8-5). -/
def State.doorbellWord (s : State) (fn off : Nat) : Nat :=
  let q := off / 8
  if !s.ownsQueue fn q then 0 else if off / 4 % 2 = 0 then (s.queue q).sqDoorbell else (s.queue q).cqDoorbell

/-! ### 64-bit registers (R12) -/

/-- The 64-bit register whose low word lies at an address of a function's BAR0. -/
def State.wide (s : State) (fn addr : Nat) : Option Nat :=
  let fnAt : Option Nat := match addr with
    | 0x8014 => some (s.selectedRegs fn).sqBase
    | 0x801C => some (s.selectedRegs fn).cqBase
    | 0x802C => some (s.fnBlock fn).readFault
    | _ => none
  if fnAt.isSome then fnAt
  else if fn ≠ 0 then none
  else match addr with
    | 0x16010 => some (ofSigned 64 s.rfg.lastWall)
    | 0x18004 => some s.atr.gen
    | 0x1800C => some (if s.atr.history.isEmpty then 0 else s.atr.oldestGen)
    | 0x1B00C => some (if s.cru.granted then s.cru.grantId else 0)
    | 0x1C000 => some s.now
    | 0x1C008 => some (ofSigned 64 s.wall)
    | 0x1E00C => some s.lgb.newest
    | 0x1E014 => some s.lgb.oldest
    | 0x1E01C => some s.lgb.ackedSeq
    | 0x1E024 => some (s.lgb.cursorLow + s.lgb.cursorHigh * 2 ^ 32)
    | _ => none

/-! ### BAR0 -/

/-- The island that a register is reached through (R309): the Cartridge Bay's and Ember's blocks. -/
def regIsland (addr : Nat) : Nat :=
  if addr / 0x1000 = 0x1A then 1 else if addr / 0x1000 = 0x1C then 5 else 0

/-- A function can reach an address once the Control Region has powered up (R52): its BAR0, its BAR2 or its configuration space;
the register blocks only from PF0 (R280). -/
def State.addresses (s : State) (fn addr : Nat) : Bool :=
  decide (fn < 64) && addr % 4 == 0 && s.pcieUp &&
  (decide (addr < (fnCaps fn).bar0) || decide (bar2Space ≤ addr ∧ addr < bar2Space + (fnCaps fn).bar2) ||
   decide (cfgSpace ≤ addr ∧ addr < cfgSpace + 4096))

/-- An access that a function makes ends at once: no island whose clock has stopped lies on its way (R309). -/
def State.reaches (s : State) (fn addr : Nat) : Bool := s.addresses fn addr && !s.islandStopped (regIsland addr)

/-- The word that an address of PF0's register blocks reads, but for 64-bit registers. -/
def State.blockWord (s : State) (addr : Nat) : Nat :=
  let off := addr % 0x1000
  match addr / 0x1000 with
  | 0x10 => s.spineWord off
  | 0x11 => s.stringsWord off
  | 0x12 => s.portWord (off / 0x100) (off % 0x100)
  | 0x13 => s.bellowsWord off
  | 0x14 => s.fitWord off
  | 0x15 => s.hammerWord off
  | 0x16 => s.rfgWord off
  | 0x17 => s.cmeWord off
  | 0x18 => s.atrWord off
  | 0x19 => s.rfuWord off
  | 0x1A => s.cbyWord off
  | 0x1B => s.cruWord off
  | 0x1C => s.emberWord off
  | 0x1D => s.wwuWord off
  | 0x1E => s.lgbWord off
  | 0x1F => s.lgbWord (0x1000 + off)
  | _ => 0

/-- The word that an address reads now. -/
def State.regWord (s : State) (fn addr : Nat) : Nat :=
  match s.wide fn addr, s.wide fn (addr - 4) with
  | some v, _ => v % 2 ^ 32
  | none, some v => v / 2 ^ 32
  | none, none =>
    if cfgSpace ≤ addr then s.configWord fn (addr - cfgSpace)
    else if bar2Space ≤ addr then s.msixWord fn (addr - bar2Space)
    else if addr < 0x8000 then s.doorbellWord fn addr
    else if addr < 0x10000 then s.fnWord fn (addr - 0x8000)
    else s.blockWord addr

/-- What a read of an address clears (RC). -/
def State.regClear (s : State) (fn addr : Nat) : State :=
  let off := addr % 0x1000
  if addr < 0x8000 ∨ bar2Space ≤ addr then s
  else if addr < 0x10000 then s.fnClear fn (addr - 0x8000)
  else match addr / 0x1000 with
  | 0x10 => s.spineClear off
  | 0x11 => s.stringsClear off
  | 0x12 => s.portClear (off / 0x100) (off % 0x100)
  | 0x13 => if off = 4 then { s with bde := { s.bde with drops := 0 } } else s
  | 0x14 => if off = 4 then { s with fit := { s.fit with evictions := 0 } } else s
  | 0x15 => s.hammerClear off
  | 0x16 => s.rfgClear off
  | 0x17 => s.cmeClear off
  | 0x18 => if off = 0x18 then { s with atr := { s.atr with spdmErrors := 0 } } else s
  | 0x19 =>
    if off = 0x30 then { s with rfu := { s.rfu with blocksWritten := 0 } }
    else if off = 0x34 then { s with rfu := { s.rfu with failed := 0 } } else s
  | 0x1A => if off = 0x20 then { s with cby := { s.cby with crcErrors := 0 } } else s
  | 0x1B =>
    if off = 0x14 then { s with cru := { s.cru with reseeds := 0 } }
    else if off = 0x18 then { s with cru := { s.cru with authFails := 0 } } else s
  | 0x1C => if 0x180 ≤ off ∧ off < 0x200 then s.updSource ((off - 0x180) / 4) (fun x => { x with events := 0 }) else s
  | 0x1D =>
    if off = 8 then { s with wwu := { s.wwu with expiries := 0 } }
    else if off = 0xC then { s with wwu := { s.wwu with badKeys := 0 } } else s
  | 0x1E => s.lgbClear off
  | _ => s

/-- What a write of v to an address does (Table 0-8). -/
def State.regWrite (s : State) (fn addr v : Nat) : State :=
  let off := addr % 0x1000
  if cfgSpace ≤ addr then s.configWrite fn (addr - cfgSpace) v
  else if bar2Space ≤ addr then s.msixWrite fn (addr - bar2Space) v
  else if addr < 0x8000 then s
  else if addr < 0x10000 then s.fnWrite fn (addr - 0x8000) v
  else match addr / 0x1000 with
  | 0x10 => s.spineWrite off v
  | 0x11 => s.stringsWrite off v
  | 0x12 => s.portWrite (off / 0x100) (off % 0x100) v
  | 0x14 =>
    if off = 0xC then { s with fit := { s.fit with mismatch := w1c 32 s.fit.mismatch v } }
    else if off = 0x10 then { s with fit := { s.fit with wearAlert := w1c 32 s.fit.wearAlert v } } else s
  | 0x15 => s.hammerWrite off v
  | 0x16 => if off = 0 then { s with rfg := { s.rfg with extendHit := w1cBit s.rfg.extendHit v 6, heldHit := w1cBit s.rfg.heldHit v 7 } } else s
  | 0x17 => if off = 0 then { s with cme := { s.cme with outboxHit := w1cBit s.cme.outboxHit v 14 } } else s
  | 0x18 => if off = 0 then { s with atr := { s.atr with limitHit := w1cBit s.atr.limitHit v 12, lostHit := w1cBit s.atr.lostHit v 13 } } else s
  | 0x19 => if off = 0 then { s with rfu := { s.rfu with failHit := w1cBit s.rfu.failHit v 17, commitHit := w1cBit s.rfu.commitHit v 18 } } else s
  | 0x1A =>
    if off = 0 then { s with cby := { s.cby with removedHit := w1cBit s.cby.removedHit v 10, insertedHit := w1cBit s.cby.insertedHit v 11,
                                                 errorHit := w1cBit s.cby.errorHit v 12 } } else s
  | 0x1B =>
    if off = 0 then { s with cru := { s.cru with lcHit := w1cBit s.cru.lcHit v 19 } }
    else if off = 4 then { s with cru := { s.cru with entropyHit := w1cBit s.cru.entropyHit v 2 } }
    else if off = 8 then { s with cru := { s.cru with grantHit := w1cBit s.cru.grantHit v 4 } } else s
  | 0x1C => s.emberWrite off v
  | 0x1D => s.wwuWrite off v
  | 0x1E => s.lgbWrite off v
  | _ => s

/-- A register read returns a value. -/
def State.returns (s : State) (v : Nat) : State := { s with io := { s.io with readData := some v } }

/-- The latch of a function for a read of an address, set or emptied (R12). -/
def State.latch (s : State) (fn addr : Nat) (v : Option Nat) : State :=
  s.updFn fn (fun b => { b with latches := b.latches.set addr none v })

/-- A read of the low word of a 64-bit register of value v latches its high word (R12). -/
def State.readLow (s : State) (fn addr v : Nat) : State := (s.latch fn (addr + 4) (some (v / 2 ^ 32))).returns (v % 2 ^ 32)

/-- A read of a register that can be reached: a latched high word is returned (R12), the low word of a 64-bit register latches its
high word, and a 32-bit register does what its type RC asks. -/
def State.readReg (s : State) (fn addr : Nat) : State :=
  match (s.fnBlock fn).latches.get addr none, s.wide fn addr with
  | some v, _ => (s.latch fn addr none).returns v
  | none, some v => s.readLow fn addr v
  | none, none => (s.regClear fn addr).returns (s.regWord fn addr)

/-- An access to a register behind an island whose clock has stopped begins its crossing and waits (R309). -/
def State.awaitAccess (s : State) (fn addr : Nat) (write : Option Nat) : State :=
  let s := s.crossInto (regIsland addr)
  { s with cme := { s.cme with accesses := s.cme.accesses ++ [{ fn := fn, addr := addr, write := write, at_ := s.now }] } }

/-- An access that has waited is carried out. -/
def State.carryOut (s : State) (a : RegAccess) : State :=
  match a.write with
  | some v => s.regWrite a.fn a.addr v
  | none => s.readReg a.fn a.addr

/-- RC_REGISTER_READ (R8, R10): a read of a 32-bit register returns its value and clears what is RC; a read of a latched high
word returns the latched value (R12). -/
def execRcRegisterRead (fn addr : Nat) (s : State) : Res :=
  if !s.addresses fn addr then .next s
  else if s.islandStopped (regIsland addr) then .next (s.awaitAccess fn addr none)
  else .next (s.readReg fn addr)

/-- REGISTER_LOW_WORD_READ (R12): the low word is returned, and the high word latched for the next read of it. -/
def execRegisterLowWordRead (fn addr : Nat) (s : State) : Res :=
  match s.wide fn addr with
  | none => .next s
  | some v =>
    if !s.addresses fn addr then .next s
    else if s.islandStopped (regIsland addr) then .next (s.awaitAccess fn addr none)
    else .next (s.readLow fn addr v)

/-- REGISTER_WRITE (R8, R9): a write to any register without a row of its own. -/
def execRegisterWrite (fn addr value : Nat) (s : State) : Res :=
  if !s.addresses fn addr then .next s
  else if s.islandStopped (regIsland addr) then .next (s.awaitAccess fn addr (some (value % 2 ^ 32)))
  else .next (s.regWrite fn addr (value % 2 ^ 32))

/-! ### Islands and the 64 µs timeout (R309) -/

/-- The oldest access of a function that has waited for an island for 64 µs. -/
def State.lateAccess (s : State) (fn island : Nat) : Option RegAccess :=
  s.cme.accesses.find? (fun a => a.fn == fn && regIsland a.addr == island && decide (a.at_ + 64 ≤ s.now))

/-- A register access ends without its island: a read returns all ones, and a write is discarded (R309). -/
def State.endAccess (s : State) (a : RegAccess) (island : Nat) : State :=
  let s := { s with cme := { s.cme with accesses := s.cme.accesses.erase a } }.countTimeout (some a.fn) island
  if a.write.isNone then s.returns 0xFFFFFFFF else s

/-- ISLAND_CROSSING_TIMEOUT (R309): a crossing that has waited 64 µs, of a command or of a register access. -/
def execIslandCrossingTimeout (fn island : Nat) (cmd : Option Hdr) (s : State) : Res :=
  if island = 0 ∨ 6 < island then .next s
  else match cmd with
    | some h =>
      (match s.flightFor h with
       | some f => if f.island = island ∧ f.islandAt + 64 ≤ s.now then .next (s.timeOut (s.stamp h) island) else .next s
       | none => .next s)
    | none =>
      (match s.lateAccess fn island with
       | some a => .next (s.endAccess a island)
       | none => .next s)

/-- ISLAND_RESET_REQUEST: a flush of both halves; while the clock is stopped the island stays in reset (R514). -/
def execIslandResetRequest (island : Nat) (s : State) : Res :=
  if island = 0 ∨ 6 < island then .next s
  else
    let s := ((s.waitersOn island).foldl (fun t h => t.timeOut h island) s).flushCrossing island
    let s := (s.cme.accesses.filter (fun a => regIsland a.addr == island)).foldl (fun t a => t.endAccess a island) s
    if s.islandStopped island then .next { s with spn := { s.spn with inReset := setBit s.spn.inReset island } } else .next s

/-- ISLAND_CLOCK_STOP (R515). -/
def execIslandClockStop (island : Nat) (s : State) : Res :=
  if island = 0 ∨ 6 < island then .next s
  else .next { s with spn := { s.spn with clockRunning := clrBit s.spn.clockRunning island } }

/-- ISLAND_CLOCK_RETURN: the island flushes its half and leaves reset; what waited goes on, each command with its row, and the
register accesses in their order (R514, R515). -/
def execIslandClockReturn (island : Nat) (s : State) : Res :=
  if island = 0 ∨ 6 < island ∨ !s.boot.pwrOk then .next s
  else
    let wait (l : List Flight) : List Flight := l.map (fun f => if f.island = island then { f with island := 0, started := false } else f)
    let s := if s.spn.inReset.testBit island then s.flushCrossing island else s.deliverCrossing island
    let s := { s with spn := { s.spn with clockRunning := setBit s.spn.clockRunning island, inReset := clrBit s.spn.inReset island } }
    let s := s.usedQueues.foldl (fun t q => t.updFlights (.pcie q) wait) s
    let s := ([.mb0, .mb1, .sb0, .sb1, .uart0] : List Target).foldl (fun t x => t.updFlights (.framed x) wait) s
    let s := s.updFlights .jtag wait
    let l := s.cme.accesses.filter (fun a => regIsland a.addr == island)
    let s := { s with cme := { s.cme with accesses := s.cme.accesses.filter (fun a => regIsland a.addr != island) } }
    .next (l.foldl State.carryOut s)

end Sys2Proof.Machine
end

