-- ==== Sys2Proof/Machine/Dispatch.lean ====
section
/-! DEFINITION. The dispatch: one arm for each constructor of Instr, each a call of that command's meaning. -/
namespace Sys2Proof.Machine

def exec (i : Instr) (s : State) : Host.Outcome State Fault Refusal :=
  match i with
  | .sessionNegotiate h minVersion maxVersion baud maxFragment => Sys2Proof.Machine.execSessionNegotiate h minVersion maxVersion baud maxFragment s
  | .capabilities h hostAddr => Sys2Proof.Machine.execCapabilities h hostAddr s
  | .echo h payload => Sys2Proof.Machine.execEcho h payload s
  | .slotStatus h first count hostAddr => Sys2Proof.Machine.execSlotStatus h first count hostAddr s
  | .slotHold h slot => Sys2Proof.Machine.execSlotHold h slot s
  | .slotRelease h slot => Sys2Proof.Machine.execSlotRelease h slot s
  | .slotRecover h slot => Sys2Proof.Machine.execSlotRecover h slot s
  | .slotUnquarantine h slot => Sys2Proof.Machine.execSlotUnquarantine h slot s
  | .busRestore h bus => Sys2Proof.Machine.execBusRestore h bus s
  | .policyStage h length hostAddr data verdicts => Sys2Proof.Machine.execPolicyStage h length hostAddr data s verdicts
  | .policyCommit h flags serial => Sys2Proof.Machine.execPolicyCommit h flags serial s
  | .policyDiscard h serial => Sys2Proof.Machine.execPolicyDiscard h serial s
  | .policyStatus h hostAddr => Sys2Proof.Machine.execPolicyStatus h hostAddr s
  | .violationCounts h first count hostAddr => Sys2Proof.Machine.execViolationCounts h first count hostAddr s
  | .violationReset h rule => Sys2Proof.Machine.execViolationReset h rule s
  | .portStatus h port hostAddr => Sys2Proof.Machine.execPortStatus h port hostAddr s
  | .portIdleWindow h port durationUs => Sys2Proof.Machine.execPortIdleWindow h port durationUs s
  | .measureStatus h first count hostAddr => Sys2Proof.Machine.execMeasureStatus h first count hostAddr s
  | .leafRead h device first count hostAddr => Sys2Proof.Machine.execLeafRead h device first count hostAddr s
  | .measureScan h device kind first count => Sys2Proof.Machine.execMeasureScan h device kind first count s
  | .wearRead h device first count hostAddr => Sys2Proof.Machine.execWearRead h device first count hostAddr s
  | .wearForecast h device hostAddr => Sys2Proof.Machine.execWearForecast h device hostAddr s
  | .wearReset h device => Sys2Proof.Machine.execWearReset h device s
  | .digestOpen h alg keyLen outLen keyAddr data => Sys2Proof.Machine.execDigestOpen h alg keyLen outLen keyAddr data s
  | .digestUpdate h context descCount listAddr list data => Sys2Proof.Machine.execDigestUpdate h context descCount listAddr list data s
  | .digestFinish h context flags hostAddr => Sys2Proof.Machine.execDigestFinish h context flags hostAddr s
  | .digestClose h context => Sys2Proof.Machine.execDigestClose h context s
  | .pkOp h operation inLen bufAddr data => Sys2Proof.Machine.execPkOp h operation inLen bufAddr data s
  | .hammerStatus h hostAddr => Sys2Proof.Machine.execHammerStatus h hostAddr s
  | .hammerLaneTest h lane => Sys2Proof.Machine.execHammerLaneTest h lane s
  | .receiptSign h format alg digestLen outSize digestAddr outAddr data => Sys2Proof.Machine.execReceiptSign h format alg digestLen outSize digestAddr outAddr data s
  | .receiptBatch h format alg digestLen count outSize listAddr outAddr data => Sys2Proof.Machine.execReceiptBatch h format alg digestLen count outSize listAddr outAddr data s
  | .receiptKeys h hostAddr => Sys2Proof.Machine.execReceiptKeys h hostAddr s
  | .psdRead h hostAddr => Sys2Proof.Machine.execPsdRead h hostAddr s
  | .psdChanges h fromGen max hostAddr => Sys2Proof.Machine.execPsdChanges h fromGen max hostAddr s
  | .configDigest h which outSize hostAddr => Sys2Proof.Machine.execConfigDigest h which outSize hostAddr s
  | .identityCerts h select outSize hostAddr => Sys2Proof.Machine.execIdentityCerts h select outSize hostAddr s
  | .identityCertInstall h length hostAddr data => Sys2Proof.Machine.execIdentityCertInstall h length hostAddr data s
  | .recoverStatus h hostAddr => Sys2Proof.Machine.execRecoverStatus h hostAddr s
  | .recoverStage h device flags length hostAddr data verdicts => Sys2Proof.Machine.execRecoverStage h device flags length hostAddr data s verdicts
  | .recoverData h device first count hostAddr data => Sys2Proof.Machine.execRecoverData h device first count hostAddr data s
  | .recoverFull h slot => Sys2Proof.Machine.execRecoverFull h slot s
  | .recoverAbort h slot => Sys2Proof.Machine.execRecoverAbort h slot s
  | .recoverArbAdvance h targetSvn => Sys2Proof.Machine.execRecoverArbAdvance h targetSvn s
  | .cartStatus h hostAddr => Sys2Proof.Machine.execCartStatus h hostAddr s
  | .cartCatalogue h slot outSize hostAddr => Sys2Proof.Machine.execCartCatalogue h slot outSize hostAddr s
  | .cartLife h hostAddr => Sys2Proof.Machine.execCartLife h hostAddr s
  | .cartEject h slot => Sys2Proof.Machine.execCartEject h slot s
  | .cartRescan h slot => Sys2Proof.Machine.execCartRescan h slot s
  | .lcStatus h => Sys2Proof.Machine.execLcStatus h s
  | .cruChallenge h purpose => Sys2Proof.Machine.execCruChallenge h purpose s
  | .lcTransition h target length hostAddr data verdicts => Sys2Proof.Machine.execLcTransition h target length hostAddr data s verdicts
  | .ownerKeysRead h hostAddr => Sys2Proof.Machine.execOwnerKeysRead h hostAddr s
  | .ownerKeyChange h length hostAddr data verdicts => Sys2Proof.Machine.execOwnerKeyChange h length hostAddr data s verdicts
  | .debugGrant h length hostAddr data verdicts => Sys2Proof.Machine.execDebugGrant h length hostAddr data s verdicts
  | .debugEnd h => Sys2Proof.Machine.execDebugEnd h s
  | .fwStage h component target length hostAddr data verdicts => Sys2Proof.Machine.execFwStage h component target length hostAddr data s verdicts
  | .fwActivate h component copy => Sys2Proof.Machine.execFwActivate h component copy s
  | .fwStatus h => Sys2Proof.Machine.execFwStatus h s
  | .fwArbAdvance h counter targetSvn flags => Sys2Proof.Machine.execFwArbAdvance h counter targetSvn flags s
  | .rngRead h length hostAddr => Sys2Proof.Machine.execRngRead h length hostAddr s
  | .otpRead h first count hostAddr => Sys2Proof.Machine.execOtpRead h first count hostAddr s
  | .timeRead h => Sys2Proof.Machine.execTimeRead h s
  | .timeSet h wallNs atDmt mode flags => Sys2Proof.Machine.execTimeSet h wallNs atDmt mode flags s
  | .wind h channel flags key sleepMs => Sys2Proof.Machine.execWind h channel flags key sleepMs s
  | .watchdogStatus h first count hostAddr => Sys2Proof.Machine.execWatchdogStatus h first count hostAddr s
  | .watchdogArm h channel action => Sys2Proof.Machine.execWatchdogArm h channel action s
  | .tamperStatus h hostAddr => Sys2Proof.Machine.execTamperStatus h hostAddr s
  | .tamperClear h mask => Sys2Proof.Machine.execTamperClear h mask s
  | .tamperTest h source => Sys2Proof.Machine.execTamperTest h source s
  | .tamperFix h mask => Sys2Proof.Machine.execTamperFix h mask s
  | .logStatus h hostAddr => Sys2Proof.Machine.execLogStatus h hostAddr s
  | .logRead h fromSeq max flags hostAddr => Sys2Proof.Machine.execLogRead h fromSeq max flags hostAddr s
  | .logAck h uptoSeq => Sys2Proof.Machine.execLogAck h uptoSeq s
  | .logClear h uptoSeq => Sys2Proof.Machine.execLogClear h uptoSeq s
  | .meterStatus h hostAddr => Sys2Proof.Machine.execMeterStatus h hostAddr s
  | .meterRecord h periodId outSize hostAddr => Sys2Proof.Machine.execMeterRecord h periodId outSize hostAddr s
  | .meterAck h periodId => Sys2Proof.Machine.execMeterAck h periodId s
  | .meterClose h => Sys2Proof.Machine.execMeterClose h s
  | .faultStatus h hostAddr => Sys2Proof.Machine.execFaultStatus h hostAddr s
  | .powerCapSet h cap => Sys2Proof.Machine.execPowerCapSet h cap s
  | .powerStatus h => Sys2Proof.Machine.execPowerStatus h s
  | .sqTailDoorbell fn queue value => Sys2Proof.Machine.execSqTailDoorbell fn queue value s
  | .cqHeadDoorbell fn queue value => Sys2Proof.Machine.execCqHeadDoorbell fn queue value s
  | .queueOpen fn => Sys2Proof.Machine.execQueueOpen fn s
  | .queueClose fn => Sys2Proof.Machine.execQueueClose fn s
  | .queueReset fn => Sys2Proof.Machine.execQueueReset fn s
  | .wwuWindWrite channel key => Sys2Proof.Machine.execWwuWindWrite channel key s
  | .lgbCursorWrite high => Sys2Proof.Machine.execLgbCursorWrite high s
  | .rcRegisterRead fn addr => Sys2Proof.Machine.execRcRegisterRead fn addr s
  | .registerLowWordRead fn addr => Sys2Proof.Machine.execRegisterLowWordRead fn addr s
  | .registerWrite fn addr value => Sys2Proof.Machine.execRegisterWrite fn addr value s
  | .islandCrossingTimeout fn island cmd => Sys2Proof.Machine.execIslandCrossingTimeout fn island cmd s
  | .pwrOkRise ramFails => Sys2Proof.Machine.execPwrOkRise s ramFails
  | .pwrOkFall => Sys2Proof.Machine.execPwrOkFall s
  | .brownOut => Sys2Proof.Machine.execBrownOut s
  | .domainSwitchOn digestFails => Sys2Proof.Machine.execDomainSwitchOn s digestFails
  | .guardDefaultApplied => Sys2Proof.Machine.execGuardDefaultApplied s
  | .firstStage fsp entropyGood eccError => Sys2Proof.Machine.execFirstStage fsp entropyGood s eccError
  | .cartridgeSearch slot image => Sys2Proof.Machine.execCartridgeSearch slot image s
  | .serialStatusFrame => Sys2Proof.Machine.execSerialStatusFrame s
  | .bundleLoadComplete header blocks laneFails portFails => Sys2Proof.Machine.execBundleLoadComplete header blocks laneFails portFails s
  | .policyLoad verdicts => Sys2Proof.Machine.execPolicyLoad s verdicts
  | .wardenCopyRepair => Sys2Proof.Machine.execWardenCopyRepair s
  | .certificateBuild attempts => Sys2Proof.Machine.execCertificateBuild s attempts
  | .controlRestartComplete => Sys2Proof.Machine.execControlRestartComplete s
  | .perstAssert => Sys2Proof.Machine.execPerstAssert s
  | .perstDeassert rate lanes => Sys2Proof.Machine.execPerstDeassert s rate lanes
  | .pcieHotReset rate lanes => Sys2Proof.Machine.execPcieHotReset s rate lanes
  | .functionLevelReset fn => Sys2Proof.Machine.execFunctionLevelReset fn s
  | .busMasterDisable fn => Sys2Proof.Machine.execBusMasterDisable fn s
  | .submissionFetch queue entry => Sys2Proof.Machine.execSubmissionFetch queue entry s
  | .hostReadFault queue cmd kind addr fed => Sys2Proof.Machine.execHostReadFault queue cmd kind addr fed s
  | .completionWrite src => Sys2Proof.Machine.execCompletionWrite src s
  | .interruptCoalesceExpiry queue => Sys2Proof.Machine.execInterruptCoalesceExpiry queue s
  | .asyncEventDelivery group => Sys2Proof.Machine.execAsyncEventDelivery group s
  | .queueCloseTimeout queue => Sys2Proof.Machine.execQueueCloseTimeout queue s
  | .frameReceived target frame pec => Sys2Proof.Machine.execFrameReceived target frame s pec
  | .fragmentTimeout src => Sys2Proof.Machine.execFragmentTimeout src s
  | .smbusBlockRead target code => Sys2Proof.Machine.execSmbusBlockRead target code s
  | .i3cPrivateRead target => Sys2Proof.Machine.execI3cPrivateRead target s
  | .baudRevert => Sys2Proof.Machine.execBaudRevert s
  | .outboxRetry accepted => Sys2Proof.Machine.execOutboxRetry accepted s
  | .jtagMailboxFrame frame => Sys2Proof.Machine.execJtagMailboxFrame frame s
  | .jtagLcTransition lcTarget => Sys2Proof.Machine.execJtagLcTransition lcTarget s
  | .setEndpointId binding op eid => Sys2Proof.Machine.execSetEndpointId binding op eid s
  | .getEndpointId binding => Sys2Proof.Machine.execGetEndpointId binding s
  | .getEndpointUuid binding => Sys2Proof.Machine.execGetEndpointUuid binding s
  | .getMctpVersionSupport binding msgType => Sys2Proof.Machine.execGetMctpVersionSupport binding msgType s
  | .getMessageTypeSupport binding => Sys2Proof.Machine.execGetMessageTypeSupport binding s
  | .mctpUnsupportedCmd binding code => Sys2Proof.Machine.execMctpUnsupportedCmd binding code s
  | .getVersion peer req => Sys2Proof.Machine.execGetVersion peer req s
  | .getCapabilities peer req => Sys2Proof.Machine.execGetCapabilities peer req s
  | .negotiateAlgorithms peer req => Sys2Proof.Machine.execNegotiateAlgorithms peer req s
  | .getDigests peer req => Sys2Proof.Machine.execGetDigests peer req s
  | .getCertificate peer req => Sys2Proof.Machine.execGetCertificate peer req s
  | .challenge peer req attempts => Sys2Proof.Machine.execChallenge peer req attempts s
  | .getMeasurements peer req attempts => Sys2Proof.Machine.execGetMeasurements peer req attempts s
  | .keyExchange peer req attempts => Sys2Proof.Machine.execKeyExchange peer req attempts s
  | .finish peer req => Sys2Proof.Machine.execFinish peer req s
  | .heartbeat peer req => Sys2Proof.Machine.execHeartbeat peer req s
  | .keyUpdate peer req => Sys2Proof.Machine.execKeyUpdate peer req s
  | .endSession peer req => Sys2Proof.Machine.execEndSession peer req s
  | .spdmUnsupportedRequest peer req => Sys2Proof.Machine.execSpdmUnsupportedRequest peer req s
  | .spdmSessionIdleTimeout session => Sys2Proof.Machine.execSpdmSessionIdleTimeout session s
  | .queryDeviceIdentifiers peer => Sys2Proof.Machine.execQueryDeviceIdentifiers peer s
  | .getFirmwareParameters peer => Sys2Proof.Machine.execGetFirmwareParameters peer s
  | .requestUpdate peer maxTransfer components => Sys2Proof.Machine.execRequestUpdate peer maxTransfer components s
  | .passComponentTable peer component stamp => Sys2Proof.Machine.execPassComponentTable peer component stamp s
  | .updateComponent peer component size => Sys2Proof.Machine.execUpdateComponent peer component size s
  | .requestFirmwareData data => Sys2Proof.Machine.execRequestFirmwareData data s
  | .transferComplete => Sys2Proof.Machine.execTransferComplete s
  | .verifyComplete verdicts => Sys2Proof.Machine.execVerifyComplete s verdicts
  | .applyComplete => Sys2Proof.Machine.execApplyComplete s
  | .activateFirmware peer selfContained => Sys2Proof.Machine.execActivateFirmware peer selfContained s
  | .getStatus peer => Sys2Proof.Machine.execGetStatus peer s
  | .cancelUpdateComponent peer => Sys2Proof.Machine.execCancelUpdateComponent peer s
  | .cancelUpdate peer => Sys2Proof.Machine.execCancelUpdate peer s
  | .fwUpdateTimeout => Sys2Proof.Machine.execFwUpdateTimeout s
  | .hostCsFall port cs => Sys2Proof.Machine.execHostCsFall port cs s
  | .hostCsRise port cs differ => Sys2Proof.Machine.execHostCsRise port cs differ s
  | .portEpochSwap port => Sys2Proof.Machine.execPortEpochSwap port s
  | .policyCommitTimeout => Sys2Proof.Machine.execPolicyCommitTimeout s
  | .hostIdlePoint port disagree => Sys2Proof.Machine.execHostIdlePoint port s disagree
  | .resyncPulseEnd port => Sys2Proof.Machine.execResyncPulseEnd port s
  | .idleWindowEnd port => Sys2Proof.Machine.execIdleWindowEnd port s
  | .idleWaitLog port => Sys2Proof.Machine.execIdleWaitLog port s
  | .hostClockStall port => Sys2Proof.Machine.execHostClockStall port s
  | .gapWaitExpiry port => Sys2Proof.Machine.execGapWaitExpiry port s
  | .fVddioLoss port => Sys2Proof.Machine.execFVddioLoss port s
  | .hVddioLoss port => Sys2Proof.Machine.execHVddioLoss port s
  | .deviceScanStart device jedec sfdp disagree => Sys2Proof.Machine.execDeviceScanStart device jedec sfdp s disagree
  | .flashStatusPoll device status disagree => Sys2Proof.Machine.execFlashStatusPoll device status s disagree
  | .deviceScanEnd device read disagree => Sys2Proof.Machine.execDeviceScanEnd device read s disagree
  | .refreshRequest device => Sys2Proof.Machine.execRefreshRequest device s
  | .verifyRequest device => Sys2Proof.Machine.execVerifyRequest device s
  | .fitLeafEvent => Sys2Proof.Machine.execFitLeafEvent s
  | .flashStateRecordUpdate device => Sys2Proof.Machine.execFlashStateRecordUpdate device s
  | .psdRecomputation => Sys2Proof.Machine.execPsdRecomputation s
  | .wearDailyRecord => Sys2Proof.Machine.execWearDailyRecord s
  | .releaseTrigger slot => Sys2Proof.Machine.execReleaseTrigger slot s
  | .stringScheduledChange string => Sys2Proof.Machine.execStringScheduledChange string s
  | .extensionTick bus => Sys2Proof.Machine.execExtensionTick bus s
  | .maxDelayExpiry edge => Sys2Proof.Machine.execMaxDelayExpiry edge s
  | .powerGoodChange string level => Sys2Proof.Machine.execPowerGoodChange string level s
  | .powerGoodDebounce string => Sys2Proof.Machine.execPowerGoodDebounce string s
  | .powerGoodTimeout slot => Sys2Proof.Machine.execPowerGoodTimeout slot s
  | .expanderNak bus expander => Sys2Proof.Machine.execExpanderNak bus expander s
  | .expanderRetry bus ack => Sys2Proof.Machine.execExpanderRetry bus ack s
  | .busRestoreAttempt bus ack => Sys2Proof.Machine.execBusRestoreAttempt bus ack s
  | .hammerOpComplete lane holds => Sys2Proof.Machine.execHammerOpComplete lane holds s
  | .knownAnswerTestDone lane passed => Sys2Proof.Machine.execKnownAnswerTestDone lane passed s
  | .sparePromotionDone lane passed => Sys2Proof.Machine.execSparePromotionDone lane passed s
  | .lanePowerUpReady lane => Sys2Proof.Machine.execLanePowerUpReady lane s
  | .poolRefillDone lane holds => Sys2Proof.Machine.execPoolRefillDone lane holds s
  | .forgeCheckpoint => Sys2Proof.Machine.execForgeCheckpoint s
  | .periodBoundary => Sys2Proof.Machine.execPeriodBoundary s
  | .periodRecordSign => Sys2Proof.Machine.execPeriodRecordSign s
  | .operationPositionGrant device manifests verdicts => Sys2Proof.Machine.execOperationPositionGrant device manifests s verdicts
  | .sourceWaitTimeout device => Sys2Proof.Machine.execSourceWaitTimeout device s
  | .cartridgeWaitTimeout device => Sys2Proof.Machine.execCartridgeWaitTimeout device s
  | .blockStaged device block data disagree => Sys2Proof.Machine.execBlockStaged device block data s disagree
  | .blockDoneMark device disagree => Sys2Proof.Machine.execBlockDoneMark device s disagree
  | .cartridgeInsertion slot => Sys2Proof.Machine.execCartridgeInsertion slot s
  | .ocrPoll slot ready ident verdicts => Sys2Proof.Machine.execOcrPoll slot ready ident s verdicts
  | .cartridgeTransferDone slot good => Sys2Proof.Machine.execCartridgeTransferDone slot good s
  | .cartridgeRemoval slot => Sys2Proof.Machine.execCartridgeRemoval slot s
  | .cartridgeSleep slot => Sys2Proof.Machine.execCartridgeSleep slot s
  | .cartridgeReacquire slot ready cid => Sys2Proof.Machine.execCartridgeReacquire slot ready s cid
  | .cartridgeLifeRead slot preEol lifeA lifeB => Sys2Proof.Machine.execCartridgeLifeRead slot preEol lifeA lifeB s
  | .tamperDetectorAssert source => Sys2Proof.Machine.execTamperDetectorAssert source s
  | .tamperSample meshReturn switches shieldBroken vbat => Sys2Proof.Machine.execTamperSample meshReturn s switches shieldBroken vbat
  | .tamperTestWindowEnd => Sys2Proof.Machine.execTamperTestWindowEnd s
  | .tamperScheduledTest => Sys2Proof.Machine.execTamperScheduledTest s
  | .channelExpiry channel => Sys2Proof.Machine.execChannelExpiry channel s
  | .preExpiryWarning channel => Sys2Proof.Machine.execPreExpiryWarning channel s
  | .sleepGuardPass channel => Sys2Proof.Machine.execSleepGuardPass channel s
  | .clockStopDetect ember => Sys2Proof.Machine.execClockStopDetect ember s
  | .clockReturn ember => Sys2Proof.Machine.execClockReturn ember s
  | .iwdExpiry => Sys2Proof.Machine.execIwdExpiry s
  | .iwdHardTimerExpiry => Sys2Proof.Machine.execIwdHardTimerExpiry s
  | .dmtCheckpoint => Sys2Proof.Machine.execDmtCheckpoint s
  | .timeMark => Sys2Proof.Machine.execTimeMark s
  | .logRecordWrite => Sys2Proof.Machine.execLogRecordWrite s
  | .recordClose seq => Sys2Proof.Machine.execRecordClose seq s
  | .stormClose seq => Sys2Proof.Machine.execStormClose seq s
  | .temperEvaluation tj current utilPct waitE scanLate ack bellowsPct => Sys2Proof.Machine.execTemperEvaluation tj current utilPct waitE scanLate ack s bellowsPct
  | .avsRetry ack => Sys2Proof.Machine.execAvsRetry ack s
  | .powerCapEvaluation power => Sys2Proof.Machine.execPowerCapEvaluation power s
  | .drbgReseed unit gathered => Sys2Proof.Machine.execDrbgReseed unit gathered s
  | .entropyRetry unit gathered => Sys2Proof.Machine.execEntropyRetry unit gathered s
  | .challengeExpiry purpose => Sys2Proof.Machine.execChallengeExpiry purpose s
  | .blockFault kind index resends => Sys2Proof.Machine.execBlockFault kind index s resends
  | .regionReinitDone => Sys2Proof.Machine.execRegionReinitDone s
  | .lockstepMismatch => Sys2Proof.Machine.execLockstepMismatch s
  | .wardenTakeoverDone good => Sys2Proof.Machine.execWardenTakeoverDone good s
  | .wardenSelfTestDone passed => Sys2Proof.Machine.execWardenSelfTestDone passed s
  | .islandResetRequest island => Sys2Proof.Machine.execIslandResetRequest island s
  | .islandClockStop island => Sys2Proof.Machine.execIslandClockStop island s
  | .hostSckEdge port rise hostDq flashDq late differ => Sys2Proof.Machine.execHostSckEdge port rise hostDq flashDq late differ s
  | .islandClockReturn island => Sys2Proof.Machine.execIslandClockReturn island s
  | .vddioInRange port flashSide => Sys2Proof.Machine.execVddioInRange port flashSide s
  | .tamperDetectorDeassert source => Sys2Proof.Machine.execTamperDetectorDeassert source s
  | .timeSlewEnd => Sys2Proof.Machine.execTimeSlewEnd s
  | .hostReadCompletion queue cid data => Sys2Proof.Machine.execHostReadCompletion queue cid data s
  | .dynamicAddressAssignment target mctp address => Sys2Proof.Machine.execDynamicAddressAssignment target mctp address s
  | .smbusClockLowTimeout target => Sys2Proof.Machine.execSmbusClockLowTimeout target s

end Sys2Proof.Machine
end

