-- ==== Sys2Proof/WellFormed.lean ====
section
/-! DEFINITION. Which commands are well formed: every operand is inside the field of the entry, the pin, the register or
the number of units that carries it. A command that is not cannot come from outside. -/
namespace Sys2Proof

/-- A source that exists: one of 4,096 queue pairs, a framed target, or the JTAG mailbox (R279, R306, R438). -/
def Src.wf : Src → Bool
  | .pcie q => decide (q < 4096)
  | .framed _ => true
  | .jtag => true

/-- A header that a submission entry can hold (Table 8-9): CID 2 bytes, RESULT_ADDR 8 bytes. -/
def Hdr.wf (h : Hdr) : Bool := h.src.wf && decide (h.cid < 65536) && decide (h.resultAddr < 2 ^ 64) && decide (h.uid = 0)

/-- A peer on one of the five MCTP bindings with an 8-bit endpoint identifier (R351). -/
def Peer.wf (p : Peer) : Bool := decide (p.binding < 5) && decide (p.eid < 256)

/-- What a cartridge can answer: each field in its width (R398, R402, R408). -/
def CartIdent.wf (i : CartIdent) : Bool :=
  decide (i.sectors < 2 ^ 32) && decide (i.preEol < 256) && decide (i.lifeA < 256) && decide (i.lifeB < 256) &&
    decide (i.rpmbCounter < 2 ^ 32)

/-- A command whose operands are in range. -/
def Instr.wf (i : Instr) : Bool :=
  match i with
  | .sessionNegotiate h minVersion maxVersion baud maxFragment =>
    h.wf && decide (minVersion < 256) && decide (maxVersion < 256) && decide (baud < 2 ^ 32) &&
      decide (maxFragment < 65536)
  | .capabilities h hostAddr => h.wf && decide (hostAddr < 2 ^ 64)
  | .echo h payload => h.wf && decide (payload < 2 ^ 64)
  | .slotStatus h first count hostAddr =>
    h.wf && decide (first < 256) && decide (count < 256) && decide (hostAddr < 2 ^ 64)
  | .slotHold h slot => h.wf && decide (slot < 256)
  | .slotRelease h slot => h.wf && decide (slot < 256)
  | .slotRecover h slot => h.wf && decide (slot < 256)
  | .slotUnquarantine h slot => h.wf && decide (slot < 256)
  | .busRestore h bus => h.wf && decide (bus < 256)
  | .policyStage h length hostAddr _ verdicts =>
    h.wf && decide (length < 2 ^ 32) && decide (hostAddr < 2 ^ 64) && decide (verdicts < 2 ^ 32)
  | .policyCommit h flags serial => h.wf && decide (flags < 256) && decide (serial < 2 ^ 64)
  | .policyDiscard h serial => h.wf && decide (serial < 2 ^ 64)
  | .policyStatus h hostAddr => h.wf && decide (hostAddr < 2 ^ 64)
  | .violationCounts h first count hostAddr =>
    h.wf && decide (first < 65536) && decide (count < 65536) && decide (hostAddr < 2 ^ 64)
  | .violationReset h rule => h.wf && decide (rule < 65536)
  | .portStatus h port hostAddr => h.wf && decide (port < 256) && decide (hostAddr < 2 ^ 64)
  | .portIdleWindow h port durationUs => h.wf && decide (port < 256) && decide (durationUs < 2 ^ 32)
  | .measureStatus h first count hostAddr =>
    h.wf && decide (first < 256) && decide (count < 256) && decide (hostAddr < 2 ^ 64)
  | .leafRead h device first count hostAddr =>
    h.wf && decide (device < 256) && decide (first < 65536) && decide (count < 65536) && decide (hostAddr < 2 ^ 64)
  | .measureScan h device kind first count =>
    h.wf && decide (device < 256) && decide (kind < 256) && decide (first < 65536) && decide (count < 65536)
  | .wearRead h device first count hostAddr =>
    h.wf && decide (device < 256) && decide (first < 65536) && decide (count < 65536) && decide (hostAddr < 2 ^ 64)
  | .wearForecast h device hostAddr => h.wf && decide (device < 256) && decide (hostAddr < 2 ^ 64)
  | .wearReset h device => h.wf && decide (device < 256)
  | .digestOpen h alg keyLen outLen keyAddr _ =>
    h.wf && decide (alg < 256) && decide (keyLen < 256) && decide (outLen < 65536) && decide (keyAddr < 2 ^ 64)
  | .digestUpdate h context descCount listAddr _ _ =>
    h.wf && decide (context < 65536) && decide (descCount < 65536) && decide (listAddr < 2 ^ 64)
  | .digestFinish h context flags hostAddr =>
    h.wf && decide (context < 65536) && decide (flags < 256) && decide (hostAddr < 2 ^ 64)
  | .digestClose h context => h.wf && decide (context < 65536)
  | .pkOp h operation inLen bufAddr _ =>
    h.wf && decide (operation < 256) && decide (inLen < 2 ^ 32) && decide (bufAddr < 2 ^ 64)
  | .hammerStatus h hostAddr => h.wf && decide (hostAddr < 2 ^ 64)
  | .hammerLaneTest h lane => h.wf && decide (lane < 256)
  | .receiptSign h format alg digestLen outSize digestAddr outAddr _ =>
    h.wf && decide (format < 256) && decide (alg < 256) && decide (digestLen < 256) && decide (outSize < 2 ^ 32) &&
      decide (digestAddr < 2 ^ 64) && decide (outAddr < 2 ^ 64)
  | .receiptBatch h format alg digestLen count outSize listAddr outAddr _ =>
    h.wf && decide (format < 256) && decide (alg < 256) && decide (digestLen < 256) && decide (count < 65536) &&
      decide (outSize < 2 ^ 32) && decide (listAddr < 2 ^ 64) && decide (outAddr < 2 ^ 64)
  | .receiptKeys h hostAddr => h.wf && decide (hostAddr < 2 ^ 64)
  | .psdRead h hostAddr => h.wf && decide (hostAddr < 2 ^ 64)
  | .psdChanges h fromGen max hostAddr =>
    h.wf && decide (fromGen < 2 ^ 64) && decide (max < 65536) && decide (hostAddr < 2 ^ 64)
  | .configDigest h which outSize hostAddr =>
    h.wf && decide (which < 256) && decide (outSize < 2 ^ 32) && decide (hostAddr < 2 ^ 64)
  | .identityCerts h select outSize hostAddr =>
    h.wf && decide (select < 256) && decide (outSize < 2 ^ 32) && decide (hostAddr < 2 ^ 64)
  | .identityCertInstall h length hostAddr _ => h.wf && decide (length < 2 ^ 32) && decide (hostAddr < 2 ^ 64)
  | .recoverStatus h hostAddr => h.wf && decide (hostAddr < 2 ^ 64)
  | .recoverStage h device flags length hostAddr _ verdicts =>
    h.wf && decide (device < 256) && decide (flags < 256) && decide (length < 2 ^ 32) && decide (hostAddr < 2 ^ 64) &&
      decide (verdicts < 2 ^ 32)
  | .recoverData h device first count hostAddr _ =>
    h.wf && decide (device < 256) && decide (first < 65536) && decide (count < 65536) && decide (hostAddr < 2 ^ 64)
  | .recoverFull h slot => h.wf && decide (slot < 256)
  | .recoverAbort h slot => h.wf && decide (slot < 256)
  | .recoverArbAdvance h targetSvn => h.wf && decide (targetSvn < 256)
  | .cartStatus h hostAddr => h.wf && decide (hostAddr < 2 ^ 64)
  | .cartCatalogue h slot outSize hostAddr =>
    h.wf && decide (slot < 256) && decide (outSize < 2 ^ 32) && decide (hostAddr < 2 ^ 64)
  | .cartLife h hostAddr => h.wf && decide (hostAddr < 2 ^ 64)
  | .cartEject h slot => h.wf && decide (slot < 256)
  | .cartRescan h slot => h.wf && decide (slot < 256)
  | .lcStatus h => h.wf
  | .cruChallenge h purpose => h.wf && decide (purpose < 256)
  | .lcTransition h target length hostAddr _ verdicts =>
    h.wf && decide (target < 256) && decide (length < 2 ^ 32) && decide (hostAddr < 2 ^ 64) &&
      decide (verdicts < 2 ^ 32)
  | .ownerKeysRead h hostAddr => h.wf && decide (hostAddr < 2 ^ 64)
  | .ownerKeyChange h length hostAddr _ verdicts =>
    h.wf && decide (length < 2 ^ 32) && decide (hostAddr < 2 ^ 64) && decide (verdicts < 2 ^ 32)
  | .debugGrant h length hostAddr _ verdicts =>
    h.wf && decide (length < 2 ^ 32) && decide (hostAddr < 2 ^ 64) && decide (verdicts < 2 ^ 32)
  | .debugEnd h => h.wf
  | .fwStage h component target length hostAddr _ verdicts =>
    h.wf && decide (component < 256) && decide (target < 256) && decide (length < 2 ^ 32) &&
      decide (hostAddr < 2 ^ 64) && decide (verdicts < 2 ^ 32)
  | .fwActivate h component copy => h.wf && decide (component < 256) && decide (copy < 256)
  | .fwStatus h => h.wf
  | .fwArbAdvance h counter targetSvn flags =>
    h.wf && decide (counter < 256) && decide (targetSvn < 256) && decide (flags < 256)
  | .rngRead h length hostAddr => h.wf && decide (length < 2 ^ 32) && decide (hostAddr < 2 ^ 64)
  | .otpRead h first count hostAddr =>
    h.wf && decide (first < 65536) && decide (count < 65536) && decide (hostAddr < 2 ^ 64)
  | .timeRead h => h.wf
  | .timeSet h wallNs atDmt mode flags =>
    h.wf && decide (wallNs < 2 ^ 64) && decide (atDmt < 2 ^ 64) && decide (mode < 256) && decide (flags < 256)
  | .wind h channel flags key sleepMs =>
    h.wf && decide (channel < 256) && decide (flags < 256) && decide (key < 65536) && decide (sleepMs < 2 ^ 32)
  | .watchdogStatus h first count hostAddr =>
    h.wf && decide (first < 256) && decide (count < 256) && decide (hostAddr < 2 ^ 64)
  | .watchdogArm h channel action => h.wf && decide (channel < 256) && decide (action < 256)
  | .tamperStatus h hostAddr => h.wf && decide (hostAddr < 2 ^ 64)
  | .tamperClear h mask => h.wf && decide (mask < 2 ^ 32)
  | .tamperTest h source => h.wf && decide (source < 256)
  | .tamperFix h mask => h.wf && decide (mask < 2 ^ 32)
  | .logStatus h hostAddr => h.wf && decide (hostAddr < 2 ^ 64)
  | .logRead h fromSeq max flags hostAddr =>
    h.wf && decide (fromSeq < 2 ^ 64) && decide (max < 65536) && decide (flags < 256) && decide (hostAddr < 2 ^ 64)
  | .logAck h uptoSeq => h.wf && decide (uptoSeq < 2 ^ 64)
  | .logClear h uptoSeq => h.wf && decide (uptoSeq < 2 ^ 64)
  | .meterStatus h hostAddr => h.wf && decide (hostAddr < 2 ^ 64)
  | .meterRecord h periodId outSize hostAddr =>
    h.wf && decide (periodId < 2 ^ 32) && decide (outSize < 2 ^ 32) && decide (hostAddr < 2 ^ 64)
  | .meterAck h periodId => h.wf && decide (periodId < 2 ^ 32)
  | .meterClose h => h.wf
  | .faultStatus h hostAddr => h.wf && decide (hostAddr < 2 ^ 64)
  | .powerCapSet h cap => h.wf && decide (cap < 256)
  | .powerStatus h => h.wf
  | .sqTailDoorbell fn queue value => decide (fn < 64) && decide (queue < 4096) && decide (value < 2 ^ 32)
  | .cqHeadDoorbell fn queue value => decide (fn < 64) && decide (queue < 4096) && decide (value < 2 ^ 32)
  | .queueOpen fn => decide (fn < 64)
  | .queueClose fn => decide (fn < 64)
  | .queueReset fn => decide (fn < 64)
  | .wwuWindWrite channel key => decide (channel < 256) && decide (key < 2 ^ 32)
  | .lgbCursorWrite high => decide (high < 2 ^ 32)
  | .rcRegisterRead fn addr => decide (fn < 64) && decide (addr < 2 ^ 33 + 4096)
  | .registerLowWordRead fn addr => decide (fn < 64) && decide (addr < 2 ^ 33 + 4096)
  | .registerWrite fn addr value => decide (fn < 64) && decide (addr < 2 ^ 33 + 4096) && decide (value < 2 ^ 32)
  | .islandCrossingTimeout fn island cmd => decide (fn < 64) && decide (1 ≤ island ∧ island < 7) && cmd.all Hdr.wf
  | .pwrOkRise _ => true
  | .pwrOkFall => true
  | .brownOut => true
  | .domainSwitchOn digestFails => decide (digestFails < 256)
  | .guardDefaultApplied => true
  | .firstStage _ _ _ => true
  | .cartridgeSearch slot _ => decide (slot < 4)
  | .serialStatusFrame => true
  | .bundleLoadComplete _ _ laneFails portFails => decide (laneFails < 2 ^ 18) && decide (portFails < 2 ^ 32)
  | .policyLoad verdicts => decide (verdicts < 2 ^ 32)
  | .wardenCopyRepair => true
  | .certificateBuild attempts => decide (attempts < 4096)
  | .controlRestartComplete => true
  | .perstAssert => true
  | .perstDeassert rate lanes => decide (rate < 16) && decide (lanes < 64)
  | .pcieHotReset rate lanes => decide (rate < 16) && decide (lanes < 64)
  | .functionLevelReset fn => decide (fn < 64)
  | .busMasterDisable fn => decide (fn < 64)
  | .submissionFetch queue _ => decide (queue < 4096)
  | .hostReadFault queue cmd kind addr _ =>
    decide (queue < 4096) && cmd.all Hdr.wf && decide (kind < 16) && decide (addr < 2 ^ 64)
  | .completionWrite src => src.wf
  | .interruptCoalesceExpiry queue => decide (queue < 4096)
  | .asyncEventDelivery group => decide (group < 64)
  | .queueCloseTimeout queue => decide (queue < 4096)
  | .frameReceived _ _ pec => pec.all (fun x => decide (x < 256))
  | .fragmentTimeout src => src.wf
  | .smbusBlockRead _ code => decide (code < 256)
  | .i3cPrivateRead _ => true
  | .baudRevert => true
  | .outboxRetry _ => true
  | .jtagMailboxFrame _ => true
  | .jtagLcTransition lcTarget => decide (lcTarget < 8)
  | .setEndpointId binding op eid => decide (binding < 5) && decide (op < 256) && decide (eid < 256)
  | .getEndpointId binding => decide (binding < 5)
  | .getEndpointUuid binding => decide (binding < 5)
  | .getMctpVersionSupport binding msgType => decide (binding < 5) && decide (msgType < 256)
  | .getMessageTypeSupport binding => decide (binding < 5)
  | .mctpUnsupportedCmd binding code => decide (binding < 5) && decide (code < 256)
  | .getVersion peer _ => peer.wf
  | .getCapabilities peer _ => peer.wf
  | .negotiateAlgorithms peer _ => peer.wf
  | .getDigests peer _ => peer.wf
  | .getCertificate peer _ => peer.wf
  | .challenge peer _ attempts => peer.wf && decide (attempts < 16)
  | .getMeasurements peer _ attempts => peer.wf && decide (attempts < 16)
  | .keyExchange peer _ attempts => peer.wf && decide (attempts < 16)
  | .finish peer _ => peer.wf
  | .heartbeat peer _ => peer.wf
  | .keyUpdate peer _ => peer.wf
  | .endSession peer _ => peer.wf
  | .spdmUnsupportedRequest peer _ => peer.wf
  | .spdmSessionIdleTimeout session => decide (session < 2 ^ 16)
  | .queryDeviceIdentifiers peer => peer.wf
  | .getFirmwareParameters peer => peer.wf
  | .requestUpdate peer maxTransfer components =>
    peer.wf && decide (maxTransfer < 2 ^ 32) && decide (components < 2 ^ 16)
  | .passComponentTable peer component stamp => peer.wf && decide (component < 2 ^ 16) && decide (stamp < 2 ^ 32)
  | .updateComponent peer component size => peer.wf && decide (component < 2 ^ 16) && decide (size < 2 ^ 32)
  | .requestFirmwareData _ => true
  | .transferComplete => true
  | .verifyComplete verdicts => decide (verdicts < 2 ^ 32)
  | .applyComplete => true
  | .activateFirmware peer _ => peer.wf
  | .getStatus peer => peer.wf
  | .cancelUpdateComponent peer => peer.wf
  | .cancelUpdate peer => peer.wf
  | .fwUpdateTimeout => true
  | .hostCsFall port cs => decide (port < 16) && decide (cs < 2)
  | .hostCsRise port cs differ => decide (port < 16) && decide (cs < 2) && decide (differ < 5)
  | .portEpochSwap port => decide (port < 16)
  | .policyCommitTimeout => true
  | .hostIdlePoint port _ => decide (port < 16)
  | .resyncPulseEnd port => decide (port < 16)
  | .idleWindowEnd port => decide (port < 16)
  | .idleWaitLog port => decide (port < 16)
  | .hostClockStall port => decide (port < 16)
  | .gapWaitExpiry port => decide (port < 16)
  | .fVddioLoss port => decide (port < 16)
  | .hVddioLoss port => decide (port < 16)
  | .deviceScanStart device _ _ _ => decide (device < 32)
  | .flashStatusPoll device status _ => decide (device < 32) && decide (status < 257)
  | .deviceScanEnd device read _ => decide (device < 32) && read.all (fun b => decide (b.1 < 8192))
  | .refreshRequest device => decide (device < 32)
  | .verifyRequest device => decide (device < 32)
  | .fitLeafEvent => true
  | .flashStateRecordUpdate device => decide (device < 32)
  | .psdRecomputation => true
  | .wearDailyRecord => true
  | .releaseTrigger slot => decide (slot < 256)
  | .stringScheduledChange string => decide (string < 256)
  | .extensionTick bus => decide (bus < 4)
  | .maxDelayExpiry edge => decide (edge < 1024)
  | .powerGoodChange string _ => decide (string < 256)
  | .powerGoodDebounce string => decide (string < 256)
  | .powerGoodTimeout slot => decide (slot < 256)
  | .expanderNak bus expander => decide (bus < 4) && decide (expander < 32)
  | .expanderRetry bus _ => decide (bus < 4)
  | .busRestoreAttempt bus _ => decide (bus < 4)
  | .hammerOpComplete lane _ => decide (lane < 18)
  | .knownAnswerTestDone lane _ => decide (lane < 18)
  | .sparePromotionDone lane _ => decide (lane < 18)
  | .lanePowerUpReady lane => decide (lane < 18)
  | .poolRefillDone lane _ => decide (lane < 18)
  | .forgeCheckpoint => true
  | .periodBoundary => true
  | .periodRecordSign => true
  | .operationPositionGrant device manifests verdicts =>
    decide (device < 32) && manifests.all (fun b => decide (b.1 < 4)) && decide (verdicts < 2 ^ 32)
  | .sourceWaitTimeout device => decide (device < 32)
  | .cartridgeWaitTimeout device => decide (device < 32)
  | .blockStaged device block _ _ => decide (device < 32) && decide (block < 8192)
  | .blockDoneMark device _ => decide (device < 32)
  | .cartridgeInsertion slot => decide (slot < 4)
  | .ocrPoll slot _ ident verdicts => decide (slot < 4) && ident.wf && decide (verdicts < 2 ^ 32)
  | .cartridgeTransferDone slot _ => decide (slot < 4)
  | .cartridgeRemoval slot => decide (slot < 4)
  | .cartridgeSleep slot => decide (slot < 4)
  | .cartridgeReacquire slot _ _ => decide (slot < 4)
  | .cartridgeLifeRead slot preEol lifeA lifeB =>
    decide (slot < 4) && decide (preEol < 256) && decide (lifeA < 256) && decide (lifeB < 256)
  | .tamperDetectorAssert source => decide (source < 32)
  | .tamperSample meshReturn switches _ vbat =>
    decide (meshReturn < 2 ^ 24) && decide (switches < 256) && decide (vbat < 4096)
  | .tamperTestWindowEnd => true
  | .tamperScheduledTest => true
  | .channelExpiry channel => decide (channel < 256)
  | .preExpiryWarning channel => decide (channel < 256)
  | .sleepGuardPass channel => decide (channel < 256)
  | .clockStopDetect _ => true
  | .clockReturn _ => true
  | .iwdExpiry => true
  | .iwdHardTimerExpiry => true
  | .dmtCheckpoint => true
  | .timeMark => true
  | .logRecordWrite => true
  | .recordClose seq => decide (seq < 2 ^ 64)
  | .stormClose seq => decide (seq < 2 ^ 64)
  | .temperEvaluation _ current utilPct waitE _ _ bellowsPct =>
    decide (current < 2 ^ 16) && decide (utilPct < 101) && decide (waitE < 2 ^ 16) && decide (bellowsPct < 101)
  | .avsRetry _ => true
  | .powerCapEvaluation power => decide (power < 2 ^ 16)
  | .drbgReseed unit _ => decide (unit < 4)
  | .entropyRetry unit _ => decide (unit < 4)
  | .challengeExpiry purpose => decide (purpose < 9)
  | .blockFault kind index resends => decide (kind < 8) && decide (index < 100000) && decide (resends < 256)
  | .regionReinitDone => true
  | .lockstepMismatch => true
  | .wardenTakeoverDone _ => true
  | .wardenSelfTestDone _ => true
  | .islandResetRequest island => decide (1 ≤ island ∧ island < 7)
  | .islandClockStop island => decide (1 ≤ island ∧ island < 7)
  | .hostSckEdge port _ hostDq flashDq _ differ =>
    decide (port < 16) && decide (hostDq < 256) && decide (flashDq < 256) && decide (differ < 5)
  | .islandClockReturn island => decide (1 ≤ island ∧ island < 7)
  | .vddioInRange port _ => decide (port < 16)
  | .tamperDetectorDeassert source => decide (source < 32)
  | .timeSlewEnd => true
  | .hostReadCompletion queue cid _ => decide (queue < 4096) && decide (cid < 65536)
  | .dynamicAddressAssignment _ _ address => decide (address < 128)
  | .smbusClockLowTimeout _ => true

end Sys2Proof
end

