-- ==== Sys2Proof/Safety.lean ====
section
/-! DEFINITION. The terms that the statements use: when a command is carried out and how it ends, what only grows, and
what holds in every run. -/
namespace Sys2Proof.Machine

/-- The header and the opcode of a ZCP command; none for a row that is not one. -/
def zcpOf (i : Instr) : Option (Hdr × Op) :=
  match i with
  | .sessionNegotiate h minVersion maxVersion baud maxFragment =>
    some (h, opSessionNegotiate.on (le 1 minVersion ++ le 1 maxVersion ++ zeros 2 ++ le 4 baud ++ le 2 maxFragment))
  | .capabilities h hostAddr => some (h, opCapabilities.on (le 8 hostAddr))
  | .echo h payload => some (h, opEcho.on (le 8 payload))
  | .slotStatus h first count hostAddr => some (h, opSlotStatus.on (le 1 first ++ le 1 count ++ zeros 2 ++ le 8 hostAddr))
  | .slotHold h slot => some (h, opSlotHold.on (le 1 slot))
  | .slotRelease h slot => some (h, opSlotRelease.on (le 1 slot))
  | .slotRecover h slot => some (h, opSlotRecover.on (le 1 slot))
  | .slotUnquarantine h slot => some (h, opSlotUnquarantine.on (le 1 slot))
  | .busRestore h bus => some (h, opBusRestore.on (le 1 bus))
  | .policyStage h length hostAddr _ _ => some (h, opPolicyStage.on (zeros 4 ++ le 4 length ++ le 8 hostAddr))
  | .policyCommit h flags serial => some (h, opPolicyCommit.on (le 1 flags ++ zeros 3 ++ le 8 serial))
  | .policyDiscard h serial => some (h, opPolicyDiscard.on (le 8 serial))
  | .policyStatus h hostAddr => some (h, opPolicyStatus.on (le 8 hostAddr))
  | .violationCounts h first count hostAddr => some (h, opViolationCounts.on (le 2 first ++ le 2 count ++ le 8 hostAddr))
  | .violationReset h rule => some (h, opViolationReset.on (le 2 rule))
  | .portStatus h port hostAddr => some (h, opPortStatus.on (le 1 port ++ zeros 3 ++ le 8 hostAddr))
  | .portIdleWindow h port durationUs => some (h, opPortIdleWindow.on (le 1 port ++ zeros 3 ++ le 4 durationUs))
  | .measureStatus h first count hostAddr => some (h, opMeasureStatus.on (le 1 first ++ le 1 count ++ zeros 2 ++ le 8 hostAddr))
  | .leafRead h device first count hostAddr =>
    some (h, opLeafRead.on (le 1 device ++ zeros 1 ++ le 2 first ++ le 2 count ++ zeros 2 ++ le 8 hostAddr))
  | .measureScan h device kind first count => some (h, opMeasureScan.on (le 1 device ++ le 1 kind ++ le 2 first ++ le 2 count))
  | .wearRead h device first count hostAddr =>
    some (h, opWearRead.on (le 1 device ++ zeros 1 ++ le 2 first ++ le 2 count ++ zeros 2 ++ le 8 hostAddr))
  | .wearForecast h device hostAddr => some (h, opWearForecast.on (le 1 device ++ zeros 3 ++ le 8 hostAddr))
  | .wearReset h device => some (h, opWearReset.on (le 1 device))
  | .digestOpen h alg keyLen outLen keyAddr _ => some (h, opDigestOpen.on (le 1 alg ++ le 1 keyLen ++ le 2 outLen ++ le 8 keyAddr))
  | .digestUpdate h context descCount listAddr _ _ =>
    some (h, opDigestUpdate.on (le 2 context ++ le 2 descCount ++ zeros 4 ++ le 8 listAddr))
  | .digestFinish h context flags hostAddr => some (h, opDigestFinish.on (le 2 context ++ le 1 flags ++ zeros 5 ++ le 8 hostAddr))
  | .digestClose h context => some (h, opDigestClose.on (le 2 context))
  | .pkOp h operation inLen bufAddr _ => some (h, opPkOp.on (le 1 operation ++ zeros 3 ++ le 4 inLen ++ le 8 bufAddr))
  | .hammerStatus h hostAddr => some (h, opHammerStatus.on (le 8 hostAddr))
  | .hammerLaneTest h lane => some (h, opHammerLaneTest.on (le 1 lane))
  | .receiptSign h format alg digestLen outSize digestAddr outAddr _ =>
    some (h, opReceiptSign.on (le 1 format ++ le 1 alg ++ le 1 digestLen ++ zeros 1 ++ le 4 outSize ++ le 8 digestAddr ++ le 8 outAddr))
  | .receiptBatch h format alg digestLen count outSize listAddr outAddr _ =>
    some (h, opReceiptBatch.on (le 1 format ++ le 1 alg ++ le 1 digestLen ++ zeros 1 ++ le 2 count ++ zeros 2 ++ le 4 outSize ++ zeros 4 ++ le 8 listAddr ++ le 8 outAddr))
  | .receiptKeys h hostAddr => some (h, opReceiptKeys.on (le 8 hostAddr))
  | .psdRead h hostAddr => some (h, opPsdRead.on (le 8 hostAddr))
  | .psdChanges h fromGen max hostAddr => some (h, opPsdChanges.on (le 8 fromGen ++ le 2 max ++ zeros 6 ++ le 8 hostAddr))
  | .configDigest h which outSize hostAddr => some (h, opConfigDigest.on (le 1 which ++ zeros 3 ++ le 4 outSize ++ le 8 hostAddr))
  | .identityCerts h select outSize hostAddr => some (h, opIdentityCerts.on (le 1 select ++ zeros 3 ++ le 4 outSize ++ le 8 hostAddr))
  | .identityCertInstall h length hostAddr _ => some (h, opIdentityCertInstall.on (le 4 length ++ zeros 4 ++ le 8 hostAddr))
  | .recoverStatus h hostAddr => some (h, opRecoverStatus.on (le 8 hostAddr))
  | .recoverStage h device flags length hostAddr _ _ =>
    some (h, (if flags.testBit 0 then { opRecoverStage with version := 0x12 } else opRecoverStage).on (le 1 device ++ le 1 flags ++ zeros 2 ++ le 4 length ++ le 8 hostAddr))
  | .recoverData h device first count hostAddr _ =>
    some (h, opRecoverData.on (le 1 device ++ zeros 1 ++ le 2 first ++ le 2 count ++ zeros 2 ++ le 8 hostAddr))
  | .recoverFull h slot => some (h, opRecoverFull.on (le 1 slot))
  | .recoverAbort h slot => some (h, opRecoverAbort.on (le 1 slot))
  | .recoverArbAdvance h targetSvn => some (h, opRecoverArbAdvance.on (le 1 targetSvn))
  | .cartStatus h hostAddr => some (h, opCartStatus.on (le 8 hostAddr))
  | .cartCatalogue h slot outSize hostAddr => some (h, opCartCatalogue.on (le 1 slot ++ zeros 3 ++ le 4 outSize ++ le 8 hostAddr))
  | .cartLife h hostAddr => some (h, opCartLife.on (le 8 hostAddr))
  | .cartEject h slot => some (h, opCartEject.on (le 1 slot))
  | .cartRescan h slot => some (h, opCartRescan.on (le 1 slot))
  | .lcStatus h => some (h, opLcStatus)
  | .cruChallenge h purpose => some (h, opCruChallenge.on (le 1 purpose))
  | .lcTransition h target length hostAddr _ _ => some (h, opLcTransition.on (le 1 target ++ zeros 3 ++ le 4 length ++ le 8 hostAddr))
  | .ownerKeysRead h hostAddr => some (h, opOwnerKeysRead.on (le 8 hostAddr))
  | .ownerKeyChange h length hostAddr _ _ => some (h, opOwnerKeyChange.on (zeros 4 ++ le 4 length ++ le 8 hostAddr))
  | .debugGrant h length hostAddr _ _ => some (h, opDebugGrant.on (zeros 4 ++ le 4 length ++ le 8 hostAddr))
  | .debugEnd h => some (h, opDebugEnd)
  | .fwStage h component target length hostAddr _ _ =>
    some (h, opFwStage.on (le 1 component ++ le 1 target ++ zeros 2 ++ le 4 length ++ le 8 hostAddr))
  | .fwActivate h component copy => some (h, opFwActivate.on (le 1 component ++ le 1 copy))
  | .fwStatus h => some (h, opFwStatus)
  | .fwArbAdvance h counter targetSvn flags => some (h, opFwArbAdvance.on (le 1 counter ++ le 1 targetSvn ++ le 1 flags))
  | .rngRead h length hostAddr => some (h, opRngRead.on (le 4 length ++ zeros 4 ++ le 8 hostAddr))
  | .otpRead h first count hostAddr => some (h, opOtpRead.on (le 2 first ++ le 2 count ++ zeros 4 ++ le 8 hostAddr))
  | .timeRead h => some (h, opTimeRead)
  | .timeSet h wallNs atDmt mode flags => some (h, opTimeSet.on (le 8 wallNs ++ le 8 atDmt ++ le 1 mode ++ le 1 flags))
  | .wind h channel flags key sleepMs => some (h, opWind.on (le 1 channel ++ le 1 flags ++ le 2 key ++ le 4 sleepMs))
  | .watchdogStatus h first count hostAddr => some (h, opWatchdogStatus.on (le 1 first ++ le 1 count ++ zeros 2 ++ le 8 hostAddr))
  | .watchdogArm h channel action => some (h, opWatchdogArm.on (le 1 channel ++ le 1 action))
  | .tamperStatus h hostAddr => some (h, opTamperStatus.on (le 8 hostAddr))
  | .tamperClear h mask => some (h, opTamperClear.on (le 4 mask))
  | .tamperTest h source => some (h, opTamperTest.on (le 1 source))
  | .tamperFix h mask => some (h, opTamperFix.on (le 4 mask))
  | .logStatus h hostAddr => some (h, opLogStatus.on (le 8 hostAddr))
  | .logRead h fromSeq max flags hostAddr => some (h, opLogRead.on (le 8 fromSeq ++ le 2 max ++ le 1 flags ++ zeros 5 ++ le 8 hostAddr))
  | .logAck h uptoSeq => some (h, opLogAck.on (le 8 uptoSeq))
  | .logClear h uptoSeq => some (h, opLogClear.on (le 8 uptoSeq))
  | .meterStatus h hostAddr => some (h, opMeterStatus.on (le 8 hostAddr))
  | .meterRecord h periodId outSize hostAddr => some (h, opMeterRecord.on (le 4 periodId ++ le 4 outSize ++ le 8 hostAddr))
  | .meterAck h periodId => some (h, opMeterAck.on (le 4 periodId))
  | .meterClose h => some (h, opMeterClose)
  | .faultStatus h hostAddr => some (h, opFaultStatus.on (le 8 hostAddr))
  | .powerCapSet h cap => some (h, opPowerCapSet.on (le 1 cap))
  | .powerStatus h => some (h, opPowerStatus)
  | .sqTailDoorbell _ _ _ => none
  | .cqHeadDoorbell _ _ _ => none
  | .queueOpen _ => none
  | .queueClose _ => none
  | .queueReset _ => none
  | .wwuWindWrite _ _ => none
  | .lgbCursorWrite _ => none
  | .rcRegisterRead _ _ => none
  | .registerLowWordRead _ _ => none
  | .registerWrite _ _ _ => none
  | .islandCrossingTimeout _ _ _ => none
  | .pwrOkRise _ => none
  | .pwrOkFall => none
  | .brownOut => none
  | .domainSwitchOn _ => none
  | .guardDefaultApplied => none
  | .firstStage _ _ _ => none
  | .cartridgeSearch _ _ => none
  | .serialStatusFrame => none
  | .bundleLoadComplete _ _ _ _ => none
  | .policyLoad _ => none
  | .wardenCopyRepair => none
  | .certificateBuild _ => none
  | .controlRestartComplete => none
  | .perstAssert => none
  | .perstDeassert _ _ => none
  | .pcieHotReset _ _ => none
  | .functionLevelReset _ => none
  | .busMasterDisable _ => none
  | .submissionFetch _ _ => none
  | .hostReadFault _ _ _ _ _ => none
  | .completionWrite _ => none
  | .interruptCoalesceExpiry _ => none
  | .asyncEventDelivery _ => none
  | .queueCloseTimeout _ => none
  | .frameReceived _ _ _ => none
  | .fragmentTimeout _ => none
  | .smbusBlockRead _ _ => none
  | .i3cPrivateRead _ => none
  | .baudRevert => none
  | .outboxRetry _ => none
  | .jtagMailboxFrame _ => none
  | .jtagLcTransition _ => none
  | .setEndpointId _ _ _ => none
  | .getEndpointId _ => none
  | .getEndpointUuid _ => none
  | .getMctpVersionSupport _ _ => none
  | .getMessageTypeSupport _ => none
  | .mctpUnsupportedCmd _ _ => none
  | .getVersion _ _ => none
  | .getCapabilities _ _ => none
  | .negotiateAlgorithms _ _ => none
  | .getDigests _ _ => none
  | .getCertificate _ _ => none
  | .challenge _ _ _ => none
  | .getMeasurements _ _ _ => none
  | .keyExchange _ _ _ => none
  | .finish _ _ => none
  | .heartbeat _ _ => none
  | .keyUpdate _ _ => none
  | .endSession _ _ => none
  | .spdmUnsupportedRequest _ _ => none
  | .spdmSessionIdleTimeout _ => none
  | .queryDeviceIdentifiers _ => none
  | .getFirmwareParameters _ => none
  | .requestUpdate _ _ _ => none
  | .passComponentTable _ _ _ => none
  | .updateComponent _ _ _ => none
  | .requestFirmwareData _ => none
  | .transferComplete => none
  | .verifyComplete _ => none
  | .applyComplete => none
  | .activateFirmware _ _ => none
  | .getStatus _ => none
  | .cancelUpdateComponent _ => none
  | .cancelUpdate _ => none
  | .fwUpdateTimeout => none
  | .hostCsFall _ _ => none
  | .hostCsRise _ _ _ => none
  | .portEpochSwap _ => none
  | .policyCommitTimeout => none
  | .hostIdlePoint _ _ => none
  | .resyncPulseEnd _ => none
  | .idleWindowEnd _ => none
  | .idleWaitLog _ => none
  | .hostClockStall _ => none
  | .gapWaitExpiry _ => none
  | .fVddioLoss _ => none
  | .hVddioLoss _ => none
  | .deviceScanStart _ _ _ _ => none
  | .flashStatusPoll _ _ _ => none
  | .deviceScanEnd _ _ _ => none
  | .refreshRequest _ => none
  | .verifyRequest _ => none
  | .fitLeafEvent => none
  | .flashStateRecordUpdate _ => none
  | .psdRecomputation => none
  | .wearDailyRecord => none
  | .releaseTrigger _ => none
  | .stringScheduledChange _ => none
  | .extensionTick _ => none
  | .maxDelayExpiry _ => none
  | .powerGoodChange _ _ => none
  | .powerGoodDebounce _ => none
  | .powerGoodTimeout _ => none
  | .expanderNak _ _ => none
  | .expanderRetry _ _ => none
  | .busRestoreAttempt _ _ => none
  | .hammerOpComplete _ _ => none
  | .knownAnswerTestDone _ _ => none
  | .sparePromotionDone _ _ => none
  | .lanePowerUpReady _ => none
  | .poolRefillDone _ _ => none
  | .forgeCheckpoint => none
  | .periodBoundary => none
  | .periodRecordSign => none
  | .operationPositionGrant _ _ _ => none
  | .sourceWaitTimeout _ => none
  | .cartridgeWaitTimeout _ => none
  | .blockStaged _ _ _ _ => none
  | .blockDoneMark _ _ => none
  | .cartridgeInsertion _ => none
  | .ocrPoll _ _ _ _ => none
  | .cartridgeTransferDone _ _ => none
  | .cartridgeRemoval _ => none
  | .cartridgeSleep _ => none
  | .cartridgeReacquire _ _ _ => none
  | .cartridgeLifeRead _ _ _ _ => none
  | .tamperDetectorAssert _ => none
  | .tamperSample _ _ _ _ => none
  | .tamperTestWindowEnd => none
  | .tamperScheduledTest => none
  | .channelExpiry _ => none
  | .preExpiryWarning _ => none
  | .sleepGuardPass _ => none
  | .clockStopDetect _ => none
  | .clockReturn _ => none
  | .iwdExpiry => none
  | .iwdHardTimerExpiry => none
  | .dmtCheckpoint => none
  | .timeMark => none
  | .logRecordWrite => none
  | .recordClose _ => none
  | .stormClose _ => none
  | .temperEvaluation _ _ _ _ _ _ _ => none
  | .avsRetry _ => none
  | .powerCapEvaluation _ => none
  | .drbgReseed _ _ => none
  | .entropyRetry _ _ => none
  | .challengeExpiry _ => none
  | .blockFault _ _ _ => none
  | .regionReinitDone => none
  | .lockstepMismatch => none
  | .wardenTakeoverDone _ => none
  | .wardenSelfTestDone _ => none
  | .islandResetRequest _ => none
  | .islandClockStop _ => none
  | .hostSckEdge _ _ _ _ _ _ => none
  | .islandClockReturn _ => none
  | .vddioInRange _ _ => none
  | .tamperDetectorDeassert _ => none
  | .timeSlewEnd => none
  | .hostReadCompletion _ _ _ => none
  | .dynamicAddressAssignment _ _ _ => none
  | .smbusClockLowTimeout _ => none

/-- The command of a row is carried out now: its entry is in flight or its source sends it, R292 lets it start, every check
of R289 passes, and the island that it crosses has a clock. -/
structure Ready (s : State) (h : Hdr) (op : Op) : Prop where
  takes : s.takes h op = true
  admitted : s.admission h op true = 0
  island : s.islandStopped op.island = false

/-- The command goes on to the next state t. -/
def Goes (c : Instr) (s t : State) : Prop := exec c s = .next t

/-- The command of a header is carried out, with t as its effect, and ends with a reply. -/
def Ends (c : Instr) (h : Hdr) (r : Reply) (s t : State) : Prop := exec c s = .next (complete (s.stamp h) r t)

/-- The command of a header ends with a reply and has no effect but its completion. -/
def Reads (c : Instr) (h : Hdr) (r : Reply) (s : State) : Prop := Ends c h r s (s.started h)


/-- The OTP array as R414 lays it out: 1,024 words of 64 bits, held in the one canonical form of a sparse table. -/
structure OtpSound (o : Tab Nat) : Prop where
  canonical : Tab.wf 0 o = true
  places : ∀ p ∈ o, p.1 < 1024 ∧ p.2 < 2 ^ 64

/-- Every bit blown in one array is blown in the other. -/
def OtpKept (a b : Tab Nat) : Prop := ∀ w i, (a.get w 0).testBit i = true → (b.get w 0).testBit i = true

end Sys2Proof.Machine
end

