-- ==== Sys2Proof/Certificates/Slice0/Obligations.lean ====
section
/-! DEFINITION. The statements about the model, for the provers. -/

open Sys2Proof Sys2Proof.Machine

/-- A fall of PWR_OK leaves what MRAM, OTP and Ember keep, and the next rise begins a device start. After a fall of
PWR_OK nothing of the transport, the strings, the ports, the digest engine, the sessions or the recoveries under way
is left; OTP, DMT, the policy slots, the journal, the wear counters, the closed periods, the owner table and the
Logbook's records are kept. A fall while main power is off ends a rise that waits. A rise with no fall in the 50 us
before begins a device start: with battery RAM and the crystal good, DMT and OTP go on as they were, PowerCycles
rises by 1, and the two Ember domains are on. A rise within 50 us of a fall waits. A brown-out is such a fall, with
an event on TS0 or TS3. -/
def Obligations.PowerLossKeepsWhatItMay : Prop :=
  (∀ s : State, s.boot.pwrOk = true → ∃ t : State, Goes .pwrOkFall s t ∧ t.boot.pwrOk = false ∧ t.boot.controlUp = false ∧
    t.boot.guardUp = false ∧ t.boot.fallAt = some s.now ∧ t.cme = {} ∧ t.strs = {} ∧ t.apa = {} ∧ t.bde = {} ∧ t.io = {} ∧
    t.rfu.ops = [] ∧ t.atr.sessions = [] ∧ t.spn.domains = 0 ∧ t.otp = s.otp ∧
    t.emb.dmt = s.emb.dmt ∧ t.pol.slot0 = s.pol.slot0 ∧ t.pol.slot1 = s.pol.slot1 ∧ t.pol.committed = s.pol.committed ∧
    t.rfu.journal = s.rfu.journal ∧ t.fit.wear = s.fit.wear ∧ t.rfg.records = s.rfg.records ∧ t.cru.tableA = s.cru.tableA ∧
    t.cru.tableB = s.cru.tableB ∧ t.lgb.records.map LogRec.seq = s.lgb.records.map LogRec.seq ∧ t.lgb.nextSeq = s.lgb.nextSeq) ∧
  (∀ s : State, s.boot.pwrOk = false → Goes .pwrOkFall s { s with boot := { s.boot with risePending := false } }) ∧
  (∀ s : State, s.boot.pwrOk = false → (s.boot.fallAt = none ∨ ∃ d, s.boot.fallAt = some d ∧ d + 50 ≤ s.now) →
    ∀ r, ∃ t : State, Goes (.pwrOkRise r) s t ∧ (s.emb.ramBad = false → r = false → s.emb.xtalEvent = false →
      t.boot.pwrOk = true ∧ t.boot.controlUp = false ∧ t.boot.guardUp = false ∧ t.spn.domains = 2 ∧ t.otp = s.otp ∧
      t.emb.dmt = s.emb.dmt ∧ t.emb.powerCycles = satAdd 24 s.emb.powerCycles 1)) ∧
  (∀ (s : State) d, s.boot.pwrOk = false → s.boot.fallAt = some d → s.now < d + 50 →
    ∀ r, Goes (.pwrOkRise r) s { s with boot := { s.boot with risePending := true }, emb := { s.emb with ramBad := s.emb.ramBad || r } }) ∧
  (∀ s : State, s.boot.pwrOk = true → ∃ i, (i = 0 ∨ i = 3) ∧ Goes .brownOut s (s.losePower.drawn.tamperEvent i))

/-- The rows of a device start, from the domains to OPERATIONAL or NO_POLICY, each go to the state their rules give.
Each domain is switched on at least 20 us after the one before; the built-in default follows the Guard Region's
last; the Control Region's last begins the first stage, and the Forge Region's last has the Warden copies tried. The
first stage, of a device start or of a Control Region restart, ends in SCRAPPED when the life cycle reads so;
otherwise it asks for the Forge Region. The first VALID copy that passes R58 starts, and with none the search of the
cartridges begins. An image found there that passes is written and started, and a bundle that passes is written and
loaded. The serial loader sends its frame once a second until a peer answers. A bundle copy that passes R67 is
taken; one that fails is marked and the next one tried; with none left the cartridges are searched. The policy load,
its verifications having found their lanes, ends under the image it chooses, or in NO_POLICY with none. A FAILED
Warden copy is repaired from the running one. The end of a Control Region restart takes up what was latched. -/
def Obligations.StartEventsComplete : Prop :=
  (∀ (s t : State) f, s.mayPower = true → t = { s with spn := { s.spn with domains := s.spn.domains + 1, domainAt := s.now } } →
    (s.spn.domains ≠ 53 → s.spn.domains ≠ 79 → Goes (.domainSwitchOn f) s (t.releaseDigest s.spn.domains f)) ∧
    (s.spn.domains = 53 → ∃ u : State, Goes (.domainSwitchOn f) s u ∧ u.boot.phase = .firstStage ∧ u.spn.domains = 54 ∧
      (∀ i ∈ [1, 2, 3, 6], u.spn.clockRunning.testBit i = true)) ∧
    (∀ u : State, s.spn.domains = 79 → u = ({ t with boot := { t.boot with forgeUp := true } } : State).closeQuenched →
      Goes (.domainSwitchOn f) s (if u.boot.forgeAsked = true ∧ u.boot.imageUp = false then u.verifyCopies else u))) ∧
  (∀ s : State, s.boot.pwrOk = true → s.boot.guardUp = false → 36 ≤ s.spn.domains →
    ∃ t : State, Goes .guardDefaultApplied s t ∧ t.boot.guardUp = true ∧ t.spn.clockRunning.testBit 4 = true ∧
      { t with boot := s.boot, spn := s.spn } = s) ∧
  (∀ (s u : State) f g e, s.boot.pwrOk = true → s.boot.imageUp = false → s.boot.absent = false →
    (s.boot.phase = .firstStage ∨ s.boot.phase = .controlRestart) → u = (s.startFsp e).firstLc →
    (u.cru.lcState = 6 → Goes (.firstStage f g e) s
      { u.builtIn .powerOn with boot := { u.boot with phase := .scrapped, controlUp := false } }) ∧
    (∀ v x : State, u.cru.lcState ≠ 6 →
      v = (if u.firstCounters.cru.udsLocked then u.firstCounters.startEntropy false g
        else ((u.firstCounters.startEntropy true g).firstKeys f).openTable) →
      x = { v with cru := { v.cru with cosignInForce := v.cru.table.cosign }, boot := { v.boot with
        forgeAsked := true, phase := if s.boot.phase = .firstStage then .lcComplete else .controlRestart } } →
      Goes (.firstStage f g e) s (if x.boot.forgeUp then x.verifyCopies else x))) ∧
  (∀ (s t : State) c, s.tryCopies [s.boot.preferred, 1 - s.boot.preferred] = (t, some c) →
    s.verifyCopies = t.startWarden c (if t.boot.serialCopy = some c then 3 else c)) ∧
  (∀ s t : State, s.tryCopies [s.boot.preferred, 1 - s.boot.preferred] = (t, none) →
    s.verifyCopies.boot.phase = .cartridgeSearch ∧ s.verifyCopies.boot.searched = 0) ∧
  (∀ (s : State) b c, s.boot.phase = .cartridgeSearch →
    (s.boot.searched < 3 → Goes (.cartridgeSearch s.boot.searched []) s { s with boot := { s.boot with searched := s.boot.searched + 1, searchAt := s.now } }) ∧
    (s.boot.searched = 3 → Goes (.cartridgeSearch 3 []) s
      { s with boot := { s.boot with searched := 4, phase := .serialLoader, peerSeen := false, lastStatusFrame := s.now } }) ∧
    (s.boot.imageUp = false → b ≠ [] → s.searchOver s.boot.searched = false → s.cartHolds s.boot.searched 1 b = true →
      s.checkWarden b = none → c = searchCopy s.boot.copyA.state s.boot.copyB.state →
      Goes (.cartridgeSearch s.boot.searched b) s ((s.updWarden c (fun _ => { state := .valid, image := b })).startWarden c 2)) ∧
    (s.boot.imageUp = true → b ≠ [] → s.searchOver s.boot.searched = false → s.cartHolds s.boot.searched 2 b = true →
      s.checkBundle b = none → c = searchCopy s.boot.bundleA.state s.boot.bundleB.state →
      ∃ t : State, Goes (.cartridgeSearch s.boot.searched b) s t ∧ t.boot.phase = .bundleLoad ∧ t.boot.header.preferred = c ∧
        (t.bundle c).state = .valid ∧ (t.bundle c).svn = bundleSvn b)) ∧
  (∀ s : State, s.boot.phase = .serialLoader → s.boot.peerSeen = false → s.boot.lastStatusFrame + 1000000 ≤ s.now →
    Goes .serialStatusFrame s
      { s.drawn with boot := { s.boot with lastStatusFrame := s.now }, io := { s.io with frame := Config.statusFrame s.draws } }) ∧
  (∀ (s u v : State) hd bs l p c, s.boot.phase = .bundleLoad → s.boot.imageUp = true → u = s.takeHeader hd →
    (u.nextBundle = none → Goes (.bundleLoadComplete hd bs l p) s u.searchBundle) ∧
    (u.nextBundle = some c → v = { u with boot := { u.boot with bundleCopy := c } } →
    (readBlocks (v.blocksRead c bs) = none → Goes (.bundleLoadComplete hd bs l p) s (v.bundleFails c .bundleCrc)) ∧
    (∀ b f, readBlocks (v.blocksRead c bs) = some b → v.checkBundle b = some f →
      Goes (.bundleLoadComplete hd bs l p) s (v.bundleFails c f)) ∧
    (∀ b, readBlocks (v.blocksRead c bs) = some b → v.checkBundle b = none →
      Goes (.bundleLoadComplete hd bs l p) s (State.noteService s (v.takeBundle b l p))))) ∧
  (∀ (s t v : State) w, s.boot.phase = .policyLoad → v.waitsLane = false →
    (s.tryOwn.chooseImage w = (t, none) → v = (t.builtIn .noPolicy).finishStart .noPolicy → Goes (.policyLoad w) s (s.ownDone v)) ∧
    (∀ k b u, s.tryOwn.chooseImage w = (t, some (k, b)) →
      u = (if b then t.commitRecord k true else { t with pol := { t.pol with loaded := true } }) →
      v = (((u.loadPorts (u.image.getD {})).applySections s.tryOwn).applyStrings s.tryOwn).loadSlots.finishStart .operational →
      Goes (.policyLoad w) s (s.ownDone v))) ∧
  (∀ s : State, s.boot.imageOp = true → s.boot.controlUp = true → s.boot.runCopy ≤ 1 → (s.warden (1 - s.boot.runCopy)).state = .failed →
    ∃ t : State, Goes .wardenCopyRepair s t ∧ (t.warden (1 - s.boot.runCopy)).state = .valid ∧
      (t.warden (1 - s.boot.runCopy)).image = (s.warden s.boot.runCopy).image ∧ t.warden s.boot.runCopy = s.warden s.boot.runCopy ∧
      t.boot.repaired = true) ∧
  (∀ s u v : State, s.boot.phase = .controlRestart → s.boot.imageUp = true →
    u = (if s.controlRuns.image.isSome then
        ({ s.controlRuns with boot := { s.controlRuns.boot with phase := .operational } } : State).imageOperational
      else { s.controlRuns.builtIn .noPolicy with boot := { s.controlRuns.boot with phase := .noPolicy } }) →
    v = u.resumeStrings.strs.latched.foldl State.actOn { u.resumeStrings with strs := { u.resumeStrings.strs with latched := [] } } →
    Goes .controlRestartComplete s (State.noteService s ((((List.range 256).foldl (fun t n => t.judgeSlot n)
      v.resumeChannels.resumeOps).reachOperational.refreshCed.startPeriod_).settleAll)))

/-- FW_STAGE, FW_ACTIVATE, FW_STATUS and FW_ARB_ADVANCE end with their status and leave the copies as stated.
FW_STAGE with no update in progress, a target that is not running and no recovery that it yields to writes an image
that passes its checks, its verifications having found their lanes, whose copy is then VALID, and leaves the
preferred copy; an image that fails leaves the copy EMPTY and no update. With an update in progress it ends with
0x0410, for a running copy with 0x0411. FW_ACTIVATE of a VALID copy makes it preferred, and for a Warden image
begins the drain of 100 ms. FW_STATUS returns the values of the copies and counters. FW_ARB_ADVANCE advances its
counter and marks FAILED the copy that it strands, and ends with 0x0412 when that is the preferred one or FLAGS bit
0 is clear. -/
def Obligations.FirmwareCommandsComplete : Prop :=
  (∀ s h c g n a d w k, Ready s h (opFwStage.on (le 1 c ++ le 1 g ++ zeros 2 ++ le 4 n ++ le 8 a)) → 1 ≤ c → c ≤ 2 → g ≤ 2 →
    (s.boot.phase = .serialLoader ∨ s.readAddrOk h a n = true) → s.islandStopped 2 = false →
    (s.boot.update.isSome = true → Reads (.fwStage h c g n a d w) h (err 0x0410) s) ∧
    (s.boot.update = none → s.stageTarget c g = none → Reads (.fwStage h c g n a d w) h (err 0x0411) s) ∧
    (s.boot.update = none → s.stageTarget c g = some k → s.updateYields = false → (s.boot.bundleIn = false ∨ s.hammerUnavailable = false) →
      ∀ v, ((s.started h).tryOwn.emptyCopy c k).judgeComponent c (fixLen n (s.inputOf h (if s.boot.phase = .serialLoader then 0 else a) n d)) w =
        (none, v) → v.waitsLane = false →
      ∃ t : State, Ends (.fwStage h c g n a d w) h ok s t ∧ t.copyState c k = .valid ∧
        (∃ u, t.boot.update = some u ∧ u.component = c ∧ u.copy = k + 1) ∧ t.preferredCopy c = s.preferredCopy c) ∧
    (∀ f v, s.boot.update = none → s.stageTarget c g = some k → s.updateYields = false →
      (s.boot.bundleIn = false ∨ s.hammerUnavailable = false) →
      ((s.started h).tryOwn.emptyCopy c k).judgeComponent c (fixLen n (s.inputOf h (if s.boot.phase = .serialLoader then 0 else a) n d)) w =
        (some f, v) → v.waitsLane = false →
      ∃ t : State, Ends (.fwStage h c g n a d w) h (err (Config.imageStatus f.code)) s t ∧ t.copyState c k = .empty ∧
        t.boot.update = none ∧ t.preferredCopy c = s.preferredCopy c)) ∧
  (∀ s h c k, Ready s h (opFwActivate.on (le 1 c ++ le 1 k)) → 1 ≤ c → c ≤ 2 → 1 ≤ k → k ≤ 2 → s.islandStopped 2 = false →
    s.boot.update = none → s.copyState c (k - 1) = .valid → s.updateYields = false →
    ∃ t : State, Ends (.fwActivate h c k) h ok s t ∧ t.preferredCopy c = k - 1 ∧ t.boot.update = none ∧
      (c = 1 → t.cme.draining = true ∧ t.boot.drainUntil = some (s.now + 100000)) ∧ (c = 2 → t.boot.drainUntil = s.boot.drainUntil)) ∧
  (∀ s h, Ready s h opFwStatus → Reads (.fwStatus h) h (ok (fixLen 24 (Config.fwStatus s.fwValues))) s) ∧
  (∀ s h c v f k, Ready s h (opFwArbAdvance.on (le 1 c ++ le 1 v ++ le 1 f)) → c ≤ 1 → v ≤ 128 → f ≤ 1 → s.boot.update = none →
    (s.stranded (c + 1) v 0 = false → s.stranded (c + 1) v 1 = false →
      Ends (.fwArbAdvance h c v f) h ok s ((s.started h).advanceArb c v)) ∧
    (k ≤ 1 → s.stranded (c + 1) v k = true → s.stranded (c + 1) v (1 - k) = false → k ≠ s.preferredCopy (c + 1) → f = 1 →
      Ends (.fwArbAdvance h c v f) h ok s (((s.started h).strand (c + 1) k).advanceArb c v)) ∧
    (k ≤ 1 → s.stranded (c + 1) v k = true → (k = s.preferredCopy (c + 1) ∨ f = 0) →
      Reads (.fwArbAdvance h c v f) h (err 0x0412) s))

/-- A PLDM update goes through its states, one component after another, and is cancelled or times out. While a
Warden image runs: the identifiers and the parameters of both components are answered. RequestUpdate with no update
in progress begins one in LEARN, with the smaller of the binding's and the agent's transfer size. The last
PassComponentTable makes it READY. UpdateComponent of a component in range empties the copy not in use and begins
its download, which takes at most that size a request. When it is complete the transfer, the verification, once it
finds its lanes, and the application follow, the last of which writes the copy; a request and the application wait
while a recovery needs what they need. ActivateFirmware makes the applied copies preferred and, self-contained with
a Warden image, begins the drain. GetStatus answers the state; a component or the whole update is cancelled; and 600
s without progress end it, and with it a yield that it makes and a command of it that waits. The layouts are
DSP0267's (log entry 25). -/
def Obligations.UpdateAgentIsServed : Prop :=
  (∀ s p, s.pldmUp = true →
    Goes (.queryDeviceIdentifiers p) s (s.pldm p.binding 0 Config.pldmIdentifiers) ∧
    Goes (.getFirmwareParameters p) s (s.pldm p.binding 0 (le 4 0 ++ le 2 2 ++
      le 2 0xFFFF ++ le 2 1 ++ le 4 s.boot.fwVersion ++ le 4 (fld (s.warden s.boot.preferred).image 0x10 4) ++ le 2 0x0002 ++
      le 2 0xFFFF ++ le 2 2 ++ le 4 s.hma.bundleSvn ++ le 4 (s.bundle s.boot.bundlePreferred).svn ++ le 2 0x0010)) ∧
    (∀ m c, s.boot.update = none → ∃ (t : State) (u : Update), Goes (.requestUpdate p m c) s t ∧ t.boot.update = some u ∧
      u.via = .pldm ∧ u.pldm = .learn ∧ u.left = c ∧ u.maxTransfer = min (bindingLimit p.binding) m) ∧
    (s.pldmUpdate = none → Goes (.getStatus p) s (s.pldm p.binding 0 [0]) ∧ Goes (.cancelUpdate p) s (s.pldm p.binding 0x80))) ∧
  (∀ s p u, s.pldmUp = true → s.pldmUpdate = some u →
    Goes (.getStatus p) s (s.pldm p.binding 0 [byte u.pldm.code]) ∧
    Goes (.cancelUpdate p) s (s.endUpdate.pldm p.binding 0) ∧
    (∀ c k, u.pldm = .learn → ∃ (t : State) (v : Update), Goes (.passComponentTable p c k) s t ∧ t.boot.update = some v ∧
      v.left = u.left - 1 ∧ v.pldm = (if u.left ≤ 1 then .ready else .learn)) ∧
    (∀ c n k, u.pldm = .ready → (c = 1 ∧ n ≤ 4194304 ∨ c = 2 ∧ n ≤ 3145728) → 1 ≤ n → s.stageTarget c 0 = some k →
      ∃ (t : State) (v : Update), Goes (.updateComponent p c n) s t ∧ t.boot.update = some v ∧ v.pldm = .download ∧ v.component = c ∧
        v.copy = k + 1 ∧ v.size = n ∧ v.image = [] ∧ t.copyState c k = .empty) ∧
    (∀ d, u.pldm = .download → 0 < min u.maxTransfer (u.size - u.image.length) → s.updateYields = false →
      Goes (.requestFirmwareData d) s (s.setUpdate (some { u with
        image := u.image ++ fixLen (min u.maxTransfer (u.size - u.image.length)) d, lastProgress := s.now }))) ∧
    (∀ d, u.pldm = .download → s.updateYields = true → Goes (.requestFirmwareData d) s s.pldmYields) ∧
    (u.pldm = .download → u.image.length = u.size →
      Goes .transferComplete s ((s.setUpdate (some { u with pldm := .verify, lastProgress := s.now })).pldm u.binding 0)) ∧
    (∀ w v, u.pldm = .verify → s.tryOwn.judgeComponent u.component u.image w = (none, v) → v.waitsLane = false →
      Goes (.verifyComplete w) s (s.ownDone ((v.setUpdate (some { u with verified := true, pldm := .apply, lastProgress := v.now })).pldm u.binding 0))) ∧
    (∀ w v f, u.pldm = .verify → s.tryOwn.judgeComponent u.component u.image w = (some f, v) → v.waitsLane = false →
      Goes (.verifyComplete w) s (s.ownDone (v.pldm u.binding (max f.code 1)))) ∧
    (u.pldm = .apply → s.updateYields = true → Goes .applyComplete s s.pldmYields) ∧
    (u.pldm = .apply → s.updateYields = false → ∃ (t : State) (v : Update), Goes .applyComplete s t ∧ t.boot.update = some v ∧
      v.pldm = .ready ∧ t.copyState u.component (u.copy - 1) = .valid ∧ v.applied = u.applied ++ [(u.component, u.copy)]) ∧
    (∀ k, u.pldm = .ready → u.applied = [(1, k)] → ∃ t : State, Goes (.activateFirmware p true) s t ∧ t.boot.update = none ∧
      t.boot.preferred = k - 1 ∧ t.cme.draining = true) ∧
    ((u.pldm = .download ∨ u.pldm = .verify ∨ u.pldm = .apply) → Goes (.cancelUpdateComponent p) s
      ((s.setUpdate (some { u with pldm := .ready, image := [], verified := false, lastProgress := s.now })).pldm p.binding 0))) ∧
  (∀ s u, s.boot.update = some u → u.lastProgress + 600000000 ≤ s.now → u.waiter = none →
    Goes .fwUpdateTimeout s s.endUpdate) ∧
  (∀ s u h a, s.boot.update = some u → u.lastProgress + 600000000 ≤ s.now → u.waiter = some (h, a) →
    Goes .fwUpdateTimeout s (complete h { status := 0x0801, rung := 3, carriedOut := false } s.endUpdate))

/-- The slot and bus commands end with their status and with the effect that is stated for each. SLOT_STATUS writes
16 bytes a slot: its STR_SLOT word and the DMT of its last release completion. SLOT_HOLD of a RELEASED slot makes
the hold trigger with REASON COMMAND before it ends. SLOT_RELEASE of a HELD slot clears it: with a prerequisite that
is not RELEASED it ends with DEPENDENCY_UNMET (0x0423), otherwise it waits for the release trigger. SLOT_RECOVER of
a RELEASED slot, or of a HELD one on no isolated bus, starts its recovery. SLOT_UNQUARANTINE makes a slot that is
QUARANTINED since an earlier instant HELD with CHECKED 0 and has it checked, at once or when its isolated bus is
restored (R112). BUS_RESTORE of a bus that is not ISOLATED ends at once (the model's choice, log entry 91), and of
one that is it waits for the attempt. A slot that is not defined answers 0x0420, one in another state 0x0421. -/
def Obligations.SlotCommandsComplete : Prop :=
  (∀ s h f n a m, Ready s h (opSlotStatus.on (le 1 f ++ le 1 n ++ zeros 2 ++ le 8 a)) → s.writeAddrOk h a = true →
    m = (if n = 0 then 256 else n) → rangeOk f m 256 = true →
    Reads (.slotStatus h f n a) h (okOut a ((List.range m).flatMap (fun i =>
      le 4 (s.slotWord (f + i)) ++ zeros 4 ++ le 8 (s.slot (f + i)).lastDone))) s) ∧
  (∀ s h n, Ready s h (opSlotHold.on (le 1 n)) → s.slotCommand n [.released] = 0 →
    Ends (.slotHold h n) h ok s (((s.started h).holdSlot n .command).settle)) ∧
  (∀ s h n, Ready s h (opSlotRelease.on (le 1 n)) → s.slotCommand n [.held] = 0 → s.dependencyUnmet n = true →
    Ends (.slotRelease h n) h { status := 0x0423 } s
      (((s.started h).updSlot n (fun x => { x with cleared := true, needsRelease := false })).settle)) ∧
  (∀ s h n, Ready s h (opSlotRelease.on (le 1 n)) → s.slotCommand n [.held] = 0 → s.dependencyUnmet n = false →
    Goes (.slotRelease h n) s ((((s.started h).updSlot n (fun x => { x with cleared := true, needsRelease := false })).updSlot n
      (fun x => { x with waiters := x.waiters ++ [s.stamp h] })).settle)) ∧
  (∀ s h n, Ready s h (opSlotRecover.on (le 1 n)) → s.slotCommand n [.released, .held] = 0 →
    ((s.slot n).state = .held → s.slotIsolated n = false) →
    Ends (.slotRecover h n) h ok s (((s.started h).recoverSlot n .command false).settle)) ∧
  (∀ s h n (t : State), Ready s h (opSlotUnquarantine.on (le 1 n)) → s.slotCommand n [.quarantined] = 0 →
    (s.slot n).changedAt ≠ some s.now → t = (s.started h).setSlot n .held .command false →
    Ends (.slotUnquarantine h n) h ok s
      (if s.slotIsolated n = true then t.updSlot n (fun x => { x with checkDue := true }) else t.enterChecking n .check).settle) ∧
  (∀ s h b, Ready s h (opBusRestore.on (le 1 b)) → b < 4 →
    ((s.xbus b).state ≠ .isolated → Reads (.busRestore h b) h ok s) ∧
    ((s.xbus b).state = .isolated → Goes (.busRestore h b) s
      ((s.started h).updBus b (fun x => { x with waiters := x.waiters ++ [s.stamp h] })))) ∧
  (∀ s h n, Ready s h (opSlotHold.on (le 1 n)) → s.image.isSome = true →
    ((s.slot n).state = .absent → Reads (.slotHold h n) h (err 0x0420) s) ∧
    ((s.slot n).state = .held → Reads (.slotHold h n) h (err 0x0421) s))

/-- A slot that leaves RELEASED is counted, disarmed and scheduled to go taut. When slot n alone leaves RELEASED for
another state with a REASON: it has that state and that REASON, its HOLDS count is one higher up to 255 and its
wind-up channel is IDLE. While the Control Region is up, every output string of it that is slack is due to go taut
at the trigger plus the string's hold offset while no other has a change due. While it is down, no string has a new
change due, and the hold sequence is kept for the end of the restart. Every other slot is unchanged. -/
def Obligations.HoldTriggerHoldsTheSlot : Prop :=
  ∀ (s : State) (n : Nat) (st : SlotState) (why : Reason), (s.slot n).state = .released → st ≠ .released →
    ((s.leaveReleased n st why).slot n).state = st ∧ ((s.leaveReleased n st why).slot n).reason = why ∧
    ((s.leaveReleased n st why).slot n).holds = min ((s.slot n).holds + 1) 255 ∧
    ((s.leaveReleased n st why).chan n).state = .idle ∧
    (∀ m, m ≠ n → (s.leaveReleased n st why).slot m = s.slot m ∧ (s.leaveReleased n st why).chan m = s.chan m) ∧
    (∀ p ∈ s.slotOutputs n, s.boot.controlUp = true → ∃ e, (p.1, e) ∈ s.slotOutputs n ∧ ((s.leaveReleased n st why).str p.1).due =
      (if (s.str p.1).slack then some (s.now + e.offsetB, false) else none)) ∧
    (s.boot.controlUp = false → (∀ i, (s.leaveReleased n st why).str i = s.str i) ∧
      (s.leaveReleased n st why).strs.cutShort = s.strs.cutShort ++ [(n, false)])

/-- A cause that names a slot already in RECOVERING changes nothing and is logged at rung 3. The one operation by
which every cause of Table 3-2 starts a recovery, applied to a slot in RECOVERING, does no more than report one
event, at rung 3. SLOT_RECOVER of such a slot ends with SLOT_BUSY (0x0421) and that event, and changes nothing else.
-/
def Obligations.RecoveringIsLeftAlone : Prop :=
  (∀ (s : State) (n : Nat) (why : Reason) (full : Bool), (s.slot n).state = .recovering →
    ∃ e : LogEv, e.rung = 3 ∧ s.recoverSlot n why full = s.report .control e) ∧
  (∀ s h n, Ready s h (opSlotRecover.on (le 1 n)) → (s.slot n).state = .recovering →
    ∃ e : LogEv, e.rung = 3 ∧ Ends (.slotRecover h n) h (err 0x0421) s ((s.started h).report .control e))

/-- The events of the slots and their strings each go to the state that their rules give. RELEASE_TRIGGER of a slot
that may be released makes the release trigger. A direct string takes its scheduled level when it is due, and its
slot's sequence ends with its last change. A tick serves the expanders of a bus that are not being retried. An
expander that does not acknowledge has its first retry due after 50 us; an acknowledged retry serves it and makes
the bus UP when it was the last, and the eighth that fails isolates the bus. An attempt to restore a bus that is due
ends the BUS_RESTORE commands that wait with OK and the bus UP, or with 0x0422. A power-good level counts once it
has lasted the debounce, and a loss or a timeout is acted on. A dependant that misses MAX_DELAY is counted, logged
and acted on. -/
def Obligations.ReleaseAndStringEventsComplete : Prop :=
  (∀ s n, (s.boot.controlUp && s.image.isSome) = true → (s.considerSlot n).mayRelease n = true →
    Goes (.releaseTrigger n) s (((s.considerSlot n).releaseSlot n).settle)) ∧
  (∀ s i d k t, i < 128 → s.boot.guardUp = true → (s.str i).due = some (d, k) → d ≤ s.now →
    t = s.updStr i (fun x => { x with driven := true, slack := k, due := none }) →
    (s.strSlot i = none → Goes (.stringScheduledChange i) s t.settle) ∧
    (∀ n, s.strSlot i = some n → Goes (.stringScheduledChange i) s (t.sequenceEnd n).settle)) ∧
  (∀ s b, b < 4 → s.boot.guardUp = true → s.now % s.busTick b = 0 → ((s.xbus b).state = .up ∨ (s.xbus b).state = .retrying) →
    Goes (.extensionTick b) s (((List.range 8).filter (fun e => !(s.xbus b).retrying e)).foldl (fun t e => t.serveExpander b e) s).settle) ∧
  (∀ s b e, b < 4 → ((s.xbus b).state = .up ∨ (s.xbus b).state = .retrying) → (s.xbus b).retrying e = false → s.boot.guardUp = true →
    s.expProtocol b e ≠ 0 →
    Goes (.expanderNak b e) s (s.updBus b (fun x => { x with state := .retrying, retry := x.retry ++ [(e, 0, s.now + 50)] }))) ∧
  (∀ s b e k d t, b < 4 → (s.xbus b).state = .retrying → s.boot.guardUp = true → (s.xbus b).nextRetry = some (e, k, d) → d ≤ s.now →
    t = s.updBus b (fun x => { x with retries := min (x.retries + 1) 255 }) →
    (k ≠ 7 → Goes (.expanderRetry b false) s (t.updBus b (fun x => { x with
      retry := (s.xbus b).retry.filter (fun r => r.1 != e) ++ [(e, k + 1, s.now + 50 * 2 ^ (k + 1))] }))) ∧
    (k = 7 → Goes (.expanderRetry b false) s (t.isolateBus b).settle) ∧
    Goes (.expanderRetry b true) s ((((t.logLate b e).updBus b (fun x => { x with
      state := if ((s.xbus b).retry.filter (fun r => r.1 != e)).isEmpty then .up else .retrying,
      retry := (s.xbus b).retry.filter (fun r => r.1 != e) })).serveExpander b e).settle)) ∧
  (∀ s b t, b < 4 → s.attemptDue b = true → t = s.updBus b (fun x => { x with waiters := [], lastRestore := s.now }) →
    Goes (.busRestoreAttempt b true) s (completeAll (s.xbus b).waiters ok (t.busUp b)).settle ∧
    ((s.xbus b).comingUp = false → Goes (.busRestoreAttempt b false) s (completeAll (s.xbus b).waiters (err 0x0422) t)) ∧
    ((s.xbus b).comingUp = true → Goes (.busRestoreAttempt b false) s (t.isolateBus b).settle)) ∧
  (∀ s i v, s.boot.guardUp = true → (s.str i).input ≠ v →
    (i < 128 → Goes (.powerGoodChange i v) s (s.updStr i (fun x => { x with input := v, sampled := v, since := s.now }))) ∧
    (128 ≤ i → i < 256 → Goes (.powerGoodChange i v) s (s.updStr i (fun x => { x with input := v })))) ∧
  (∀ s i e, i < 256 → e = s.strEntry i → e.role = 3 → s.boot.guardUp = true → (s.str i).since + e.offsetB ≤ s.now →
    (((s.str i).sampled == e.high) = false → (s.str i).accepted = true → Goes (.powerGoodDebounce i) s
      ((s.updStr i (fun x => { x with accepted := false })).powerGoodLost e.target i).settle) ∧
    (∀ t, ((s.str i).sampled == e.high) = true → (s.str i).accepted = false →
      t = (s.updStr i (fun x => { x with accepted := true })).updStr i (fun x => { x with pgSeen := x.pgSeen || s.isReleased e.target }) →
      Goes (.powerGoodDebounce i) s (if e.gate && (s.slot e.target).state == .released && (s.slot e.target).gateWait
        then t.gateAccepted e.target else t).settle)) ∧
  (∀ s n i, s.pgLate n = some i → s.isReleased n = true → s.boot.guardUp = true →
    Goes (.powerGoodTimeout n) s ((s.updStr i (fun y => { y with pgTimedOut := true })).powerGoodLost n i).settle) ∧
  (∀ s i j e t, s.edges.find? (fun p => p.1 == i) = some (j, e) → s.boot.controlUp = true → e.maxDelay ≠ 0xFFFFFFFF →
    (s.slot e.src).state = .released → (s.slot e.src).completed = true → (s.edgeMem i).met ≠ some (s.slot e.src).lastDone →
    (s.edgeMem i).acted ≠ some (s.slot e.src).lastDone → (s.slot e.src).lastDone + e.maxDelay ≤ s.now →
    t = s.updEdge i (fun x => { x with misses := (s.edgeMem i).misses + 1, acted := some (s.slot e.src).lastDone }) →
    (e.maxAction = 0 → Goes (.maxDelayExpiry i) s (t.log .guard 0x0104 3 3 e.dst { index2 := e.src, value := 0 })) ∧
    (e.maxAction = 1 → (s.edgeMem i).misses < 3 → Goes (.maxDelayExpiry i) s
      ((((t.log .guard 0x0104 3 3 e.dst { index2 := e.src, value := 1 }).updEdge i (fun x => { x with holdsPrereq := true })).holdSlot
        e.src .maxDelay).updSlot e.src (fun x => { x with restore := true })).settle))

/-- A port command that names a port with no bound device ends with PORT_NOT_GUARDED. Both commands of Table 4-19,
PORT_STATUS and PORT_IDLE_WINDOW, in range and admitted, on a port without a bound device end with 0x0430 and change
nothing else. -/
def Obligations.UnguardedPortsAreRefused : Prop :=
  (∀ s h p a, Ready s h (opPortStatus.on (le 1 p ++ zeros 3 ++ le 8 a)) → p < 16 → s.writeAddrOk h a = true → s.portDevices p = [] →
    Reads (.portStatus h p a) h (err 0x0430) s) ∧
  (∀ s h p d, Ready s h (opPortIdleWindow.on (le 1 p ++ zeros 3 ++ le 4 d)) → p < 16 → 100 ≤ d → d ≤ 1000000 → s.portDevices p = [] →
    Reads (.portIdleWindow h p d) h (err 0x0430) s)

/-- PORT_STATUS writes its 32 bytes; PORT_IDLE_WINDOW declares its window, or ends at once where there is no work.
On a guarded port PORT_STATUS ends with the six words of Table 4-19 and eight bytes of 0 written. PORT_IDLE_WINDOW
with a duration from 100 us to 1 s, no window declared and the port not in OWN: with no device work pending it ends
at once with OK and USED_US 0; otherwise the port holds the window with its duration, not yet open. With a window
declared it ends with 0x0431, in OWN with 0x0432. -/
def Obligations.PortCommandsComplete : Prop :=
  (∀ s h p a, Ready s h (opPortStatus.on (le 1 p ++ zeros 3 ++ le 8 a)) → p < 16 → s.writeAddrOk h a = true → s.portDevices p ≠ [] →
    Reads (.portStatus h p a) h (okOut a (le 4 (s.portModeWord p) ++ le 4 (s.portDevWord (2 * p)) ++ le 4 (s.portDevWord (2 * p + 1)) ++
      le 4 (s.shadow (2 * p)).suspAddr ++ le 4 (s.shadow (2 * p + 1)).suspAddr ++ le 4 (s.portIdleWait p) ++ zeros 8)) s) ∧
  (∀ s h p d, Ready s h (opPortIdleWindow.on (le 1 p ++ zeros 3 ++ le 4 d)) → p < 16 → 100 ≤ d → d ≤ 1000000 → s.portDevices p ≠ [] →
    ((s.port p).window ≠ none → Reads (.portIdleWindow h p d) h (err 0x0431) s) ∧
    ((s.port p).window = none → (s.port p).mode = .own → Reads (.portIdleWindow h p d) h (err 0x0432) s) ∧
    ((s.port p).window = none → (s.port p).mode ≠ .own → s.windowWork p = false → Reads (.portIdleWindow h p d) h (ok (zeros 8)) s) ∧
    ((s.port p).window = none → (s.port p).mode ≠ .own → s.windowWork p = true → Goes (.portIdleWindow h p d) s
      ((s.started h).updPort p (fun x => { x with window := some { hdr := s.stamp h, durationUs := d } }))))

/-- A fall of a host chip select begins a command, each edge carries it on, and the rise ends it. HOST_CS_FALL of a
chip select of a port whose host supply is in range always begins a command on it, unless it has one, beside a
command of the other chip select (the model's choice, log entry 42). In OWN it reaches no flash; in an open window
or a reset pulse it is not passed and is counted as an intrusion; otherwise it reaches the flash when the device's
slot is released and is gated when it is not. HOST_SCK_EDGE always gives each command under way its next sample, but
for those that are not passed for OWN, a window or a pulse; with no command it changes nothing. Where the two
decoders differ on a command that reaches the flash, the more restrictive verdict decides and the port is frozen.
HOST_CS_RISE always ends the command of its chip select, and with none only raises it. (The three rows complete in
every state of a guarded, supplied port.) -/
def Obligations.HostCommandsPassThroughPorts : Prop :=
  (∀ (s t : State) p k (c : HostCmd), p < 16 → k < 2 → s.boot.guardUp = true → (s.port p).hVddioOk = true →
    t = s.updPort p (fun x => if k = 0 then { x with csLow0 := true } else { x with csLow1 := true }) →
    c = { cs := k, bank := (s.port p).active, iface := ((s.port p).dev k).iface, blocked := 0,
          gated := (s.port p).mode == .frozen || ((s.port p).dev k).resync, startedAt := s.now, lastEdge := s.now } →
    ((s.port p).mode = .own → Goes (.hostCsFall p k) s (t.updPort p (fun x => x.beginCmd { c with blocked := 3 }))) ∧
    (∀ w, (s.port p).mode ≠ .own → (s.port p).window = some w → w.isOpen = true →
      Goes (.hostCsFall p k) s ((t.intrusion p true).updPort p (fun x => x.beginCmd { c with blocked := 2 }))) ∧
    (∀ u, (s.port p).mode ≠ .own → (∀ w, (s.port p).window = some w → w.isOpen = false) → (s.port p).pulseUntil = some u →
      Goes (.hostCsFall p k) s ((t.intrusion p false).updPort p (fun x => x.beginCmd { c with blocked := 2 }))) ∧
    ((s.port p).mode ≠ .own → (∀ w, (s.port p).window = some w → w.isOpen = false) → (s.port p).pulseUntil = none →
      Goes (.hostCsFall p k) s (t.updPort p (fun x => x.beginCmd { c with blocked := if t.csReleased p k then 0 else 1 })))) ∧
  (∀ (x : Port) (c : HostCmd), x.cmdOf c.cs = none → (x.cmd = none ∨ x.other = none) → (x.beginCmd c).cmdOf c.cs = some c) ∧
  (∀ s p r hd fd late m, (s.port p).hVddioOk = true →
    ((s.port p).cmd = none → Goes (.hostSckEdge p r hd fd late m) s s) ∧
    (∀ (c c' : HostCmd) (t : State), (s.port p).cmd = some c → c' = (s.port p).edgeCmd r hd fd late s.now c →
      t = s.updPort p (fun x => { x with sckHigh := r, cmd := some c', other := (s.port p).other.map ((s.port p).edgeCmd r hd fd late s.now) }) →
      (((m ≠ 1 ∧ m ≠ 2 ∧ m ≠ 4) ∨ c'.blocked ≠ 0) → Goes (.hostSckEdge p r hd fd late m) s t) ∧
      ((m = 1 ∨ m = 2 ∨ m = 4) → c'.blocked = 0 → Goes (.hostSckEdge p r hd fd late m) s
        ((t.updPort p (fun x => { x with cmd := some ((c'.disagree (s.port p).bank ((s.port p).dev c'.cs) m).makeCut late r) })).freezePort p
          (le 1 c'.opcode ++ le 1 c'.ext ++ le 1 m ++ le 1 (b2n c'.passes))).settle))) ∧
  (∀ (s t : State) p k n, p < 16 → k < 2 → (s.port p).hVddioOk = true →
    t = s.updPort p (fun x => if k = 0 then { x with csLow0 := false, csHighSince := s.now } else { x with csLow1 := false, csHighSince := s.now }) →
    ((s.port p).cmdOf k = none → Goes (.hostCsRise p k n) s t) ∧
    (∀ c, (s.port p).cmdOf k = some c → Goes (.hostCsRise p k n) s (t.endCommand p c n false).settle))

/-- A host clock stall is recorded once, at rung 6, and counted, and has no other effect. With a command under way
whose last edge lies 1 s back or more, HOST_CLOCK_STALL adds 1 to the port's STALLS (up to 255) and reports one
event at rung 6; nothing else changes but the mark that it has been recorded, and the same row again changes
nothing. It holds for the command that began first and for that of the other chip select alike. -/
def Obligations.ClockStallIsRecordedOnce : Prop :=
  (∀ s p c, (s.port p).cmd = some c → c.stalled = false → c.lastEdge + 1000000 ≤ s.now →
    (∀ o, (s.port p).other = some o → o.stallDue s.now = false) →
    ∃ (e : LogEv) (t : State), e.rung = 6 ∧ Goes (.hostClockStall p) s t ∧
      t = ((s.updPort p (fun x => { x with cmd := some { c with stalled := true } })).updPort p
        (fun x => { x with stalls := min (x.stalls + 1) 255 })).report .guard e ∧
      Goes (.hostClockStall p) t t) ∧
  (∀ s p o, (s.port p).other = some o → o.stalled = false → o.lastEdge + 1000000 ≤ s.now →
    (∀ c, (s.port p).cmd = some c → c.stallDue s.now = false) →
    ∃ (e : LogEv) (t : State), e.rung = 6 ∧ Goes (.hostClockStall p) s t ∧
      t = ((s.updPort p (fun x => { x with other := some { o with stalled := true } })).updPort p
        (fun x => { x with stalls := min (x.stalls + 1) 255 })).report .guard e ∧
      Goes (.hostClockStall p) t t)

/-- The events of a port's mode each go to the state that their rules give. A host-idle point commits the pending
change and opens a declared window, unless a reset pulse began. The end of a reset pulse returns both devices to the
profile's reset defaults and ends the yield. A window closes when its duration has passed, its work is done or
nothing more fits. A pending change that has waited 1 s is logged once at rung 6. Rung-3 work that has waited long
enough in GAP asks for OWN. The loss of the flash supply puts every bound device in RESYNC; the loss of the host
supply makes both chip selects read high and ends the commands under way; a supply that is back in range is taken as
such. -/
def Obligations.PortModeEventsComplete : Prop :=
  (∀ s p, p < 16 → s.boot.guardUp = true → (s.port p).hostIdle = true → (s.port p).pulseUntil = none →
    (∀ b, ((s.commitPending p).port p).pulseUntil = none →
      Goes (.hostIdlePoint p b) s ((((s.commitPending p).openWindow p).planPulse p).settleCut b)) ∧
    (∀ b, ((s.commitPending p).port p).pulseUntil ≠ none → Goes (.hostIdlePoint p b) s (((s.commitPending p).planPulse p).settleCut b))) ∧
  (∀ s p d, (s.port p).pulseUntil = some d → d ≤ s.now →
    Goes (.resyncPulseEnd p) s
      (((s.updPort p (fun x => { x with pulseUntil := none, dev0 := x.dev0.reset (s.port p).bank,
                                        dev1 := x.dev1.reset (s.port p).bank })).yieldEnd .guard 1 p).settle)) ∧
  (∀ s p w, (s.port p).window = some w → w.isOpen = true →
    (w.openedAt + w.durationUs ≤ s.now ∨ s.windowWork p = false ∨ s.windowFits p = false) →
    Goes (.idleWindowEnd p) s (s.closeWindow p).settle) ∧
  (∀ s p, (s.port p).pending ≠ .none → (s.port p).waitLogged = false → (s.port p).pendingSince + 1000000 ≤ s.now →
    ∃ (e : LogEv) (t : State), e.rung = 6 ∧ Goes (.idleWaitLog p) s t ∧
      t = (s.updPort p (fun x => { x with waitLogged := true })).report .guard e) ∧
  (∀ s p, p < 16 → (s.port p).mode = .gap → s.urgentWork p = true → s.gapExpired p = true → s.boot.controlUp = true →
    (s.port p).pending ≠ .own → Goes (.gapWaitExpiry p) s (s.setPending p .own)) ∧
  (∀ s t p, p < 16 → s.boot.guardUp = true → t = s.updPort p (fun x => { x with fVddioLost := true, fVddioOk := false }) →
    Goes (.fVddioLoss p) s ((t.portDevices p).foldl (fun t d => t.enterResync d 6) t).settle) ∧
  (∀ s t p, p < 16 → s.boot.guardUp = true →
    t = s.updPort p (fun x => { x with hVddioOk := false, csLow0 := false, csLow1 := false, csHighSince := s.now }) →
    ((s.port p).cmd = none → (s.port p).other = none → Goes (.hVddioLoss p) s t) ∧
    (∀ c, (s.port p).cmd = some c → (s.port p).other = none → Goes (.hVddioLoss p) s (t.endCommand p c 0 true).settle) ∧
    (∀ c o, (s.port p).cmd = some c → (s.port p).other = some o →
      Goes (.hVddioLoss p) s ((t.endCommand p c 0 true).endCommand p o 0 true).settle)) ∧
  (∀ s p, p < 16 → s.boot.guardUp = true →
    Goes (.vddioInRange p false) s (s.updPort p (fun x => { x with hVddioOk := true })) ∧
    Goes (.vddioInRange p true) s (((s.updPort p (fun x => { x with fVddioOk := true })).planPulse p).settle))

/-- A program is decided by its start address, a sized erase by every 4 KiB granule that it covers. For a host
command whose address has been captured, the address verdict allows a program exactly when the region entry that
covers its address has PROGRAM and no suspended erase covers its 64 KiB block; it allows a sized erase of n bytes
exactly when every 4 KiB granule of the aligned n bytes has ERASE, and denies it by the chip-select method
otherwise. -/
def Obligations.RegionVerdictsFollowTheGranules : Prop :=
  (∀ (c : HostCmd) (b : Bank) (x : Shadow) (w : Nat), (b.entry c.opcode).cls = 2 → c.verdict = .pending →
    ((c.addrVerdict b x w).verdict = .allowed ↔
      hasAttr (b.arrayAt c.cs (c.addr * 2 ^ (w - c.addrBits) % b.size)) 2 = true ∧
      ¬ ((x.susp = .erase ∨ x.susp = .both) ∧ (c.addr * 2 ^ (w - c.addrBits) % b.size) / 65536 = x.suspAddr / 65536))) ∧
  (∀ (c : HostCmd) (b : Bank) (x : Shadow) (w n : Nat), (b.entry c.opcode).cls ≠ 2 → n = eraseLen (b.entry c.opcode).eraseSize →
    c.verdict = .pending →
    ((c.addrVerdict b x w).verdict = .allowed ↔
      ∀ g, g < n / 4096 → hasAttr (b.arrayAt c.cs ((c.addr * 2 ^ (w - c.addrBits) % b.size) / n * n + 4096 * g)) 3 = true) ∧
    ((c.addrVerdict b x w).verdict ≠ .allowed → (c.addrVerdict b x w).verdict = .denied 1))

/-- The policy and violation commands end with OK and leave the policy slots and rule counts as stated.
POLICY_STAGE, its verifications having found their lanes, of an image that passes every check empties the slot that
is not committed and begins to write it; when the write is complete that slot holds the image and the command ends
with its serial number. An image that fails a check leaves that slot as it is. POLICY_COMMIT of the staged image
with its serial number commits it and ends, or waits for the ports to swap. POLICY_DISCARD of the staged image's
serial number empties that slot. POLICY_STATUS writes its 64 bytes. VIOLATION_COUNTS writes 8 bytes a rule, and
VIOLATION_RESET clears one rule's window count and keeps its TRIPS and TOTAL. -/
def Obligations.PolicyCommandsComplete : Prop :=
  (∀ s h n a d w st r img t u, Ready s h (opPolicyStage.on (zeros 4 ++ le 4 n ++ le 8 a)) → s.readAddrOk h a n = true →
    (s.started h).stageLive = false → s.swapping = false → s.transitionPending = false →
    u = ({ (s.started h).tryOwn with pol := { s.pol with staging := none } } : State) →
    u.judgeImage false ((s.inputOf h a n d).take n) w = ((st, r, img), t) → t.waitsLane = false →
    (st = 0 → Goes (.policyStage h n a d w) s ((s.started h).ownDone (t.beginWrite (s.stamp h) img))) ∧
    (st ≠ 0 → Ends (.policyStage h n a d w) h (err st r) s ((s.started h).ownDone t))) ∧
  (∀ (s : State) h img, (s.beginWrite h img).polSlot s.otherSlot = none ∧ (s.beginWrite h img).pol.committed = s.pol.committed ∧
    (s.beginWrite h img).pol.writing = some (h, { img with wasCommitted := false })) ∧
  (∀ (s : State) h img, s.pol.writing = some (h, img) → ∃ t : State, s.serveStage = complete h (ok (le 8 img.serial)) t ∧
    t.polSlot s.otherSlot = some img ∧ t.pol.committed = s.pol.committed ∧ t.pol.writing = none) ∧
  (∀ s h f n img u, Ready s h (opPolicyCommit.on (le 1 f ++ zeros 3 ++ le 8 n)) → f < 2 → s.staged = some img → img.serial = n →
    s.commitBusy img = false → s.swapping = false → s.transitionPending = false →
    u = ((s.started h).commitStaged img (f.testBit 0)).settleAll →
    (u.swapping = false → Ends (.policyCommit h f n) h (ok u.commitResult) s u) ∧
    (u.swapping = true → Goes (.policyCommit h f n) s
      { u with pol := { u.pol with waiter := some (s.stamp h), waitUntil := u.now + 1000000 } })) ∧
  (∀ s h n img, Ready s h (opPolicyDiscard.on (le 8 n)) → s.staged = some img → img.serial = n →
    Ends (.policyDiscard h n) h ok s ((s.started h).putSlot s.otherSlot none)) ∧
  (∀ s h a, Ready s h (opPolicyStatus.on (le 8 a)) → s.writeAddrOk h a = true →
    s.policyStatus.length = 64 ∧ Reads (.policyStatus h a) h (okOut a s.policyStatus) s) ∧
  (∀ s h f n a, Ready s h (opViolationCounts.on (le 2 f ++ le 2 n ++ le 8 a)) → rangeOk f n 257 = true → s.writeAddrOk h a = true →
    Reads (.violationCounts h f n a) h (okOut a ((List.range n).flatMap (fun i => s.ruleBytes (f + i)))) s) ∧
  (∀ s h n, Ready s h (opViolationReset.on (le 2 n)) → n ≤ 256 →
    ∃ t, Ends (.violationReset h n) h ok s t ∧ (t.pol.rules.get n {}).trips = (s.pol.rules.get n {}).trips ∧
      (t.pol.rules.get n {}).total = (s.pol.rules.get n {}).total ∧ (t.pol.rules.get n {}).subs = [] ∧
      (∀ m, m ≠ n → t.pol.rules.get m {} = s.pol.rules.get m {}))

/-- A port swaps its bank when it may, and a commit that waits too long ends with its effect. PORT_EPOCH_SWAP of a
port whose swap is pending, in OWN, in an open window or with both host chip selects high, swaps the port's bank,
and the commit ends with the last port. POLICY_COMMIT_TIMEOUT, 1 s after the commit point, ends the waiting commit
with 0x0442 and CARRIED_OUT 1, and the switch goes on. -/
def Obligations.EpochSwitchEventsComplete : Prop :=
  (∀ s p, p < 16 → (s.port p).swapPending = true → s.boot.guardUp = true →
    ((s.port p).mode = .own ∨ (s.port p).hostIdle = true ∨ ∃ w, (s.port p).window = some w ∧ w.isOpen = true) →
    Goes (.portEpochSwap p) s ((s.swapPort p).switchDone).settleAll) ∧
  (∀ s h, s.pol.waiter = some h → s.pol.waitUntil ≤ s.now →
    Goes .policyCommitTimeout s (complete h { err 0x0442 s.commitResult with carriedOut := true }
      { s with pol := { s.pol with waiter := none } }))

/-- A DIGEST_UPDATE of a finished context restarts it. An update of a finished context of the submitter, with a good
descriptor list and a shared lane for it (R205), ends with OK and TOTAL_BYTES equal to the bytes of that update
alone; the context keeps its algorithm, output length and key and holds exactly the new bytes, no longer finished.
-/
def Obligations.FinishedContextsRestart : Prop :=
  ∀ s h n k a l d c b e, Ready s h (opDigestUpdate.on (le 2 n ++ le 2 k ++ zeros 4 ++ le 8 a)) → 1 ≤ k → k ≤ 4096 → s.readAddrOk h a (16 * k) = true →
    e = descriptors k (s.inputOf h a (16 * k) l) → descListOk e = true → s.fragmentsOk h e = true →
    (s.started h).laneFor (s.stamp h) = true → (s.started h).ownContext h.src n = some c → c.finished = true →
    b = fixLen (e.foldl (fun a d => a + d.2.1) 0) (s.fragments h e d) →
    ∃ t, Ends (.digestUpdate h n k a l d) h (ok (le 8 b.length)) s t ∧ t.context n = some { c with fed := b, finished := false }

/-- DIGEST_FINISH writes the digest and leaves the context finished, or closes it. For an open context of the
submitter, with a shared lane for it (R205), DIGEST_FINISH ends with OK and writes the context's digest to
HOST_ADDR. With CLOSE clear the context stays open and finished; with CLOSE set it is closed, and with it any key is
gone. No other context changes. -/
def Obligations.DigestsAreFinished : Prop :=
  ∀ s h n a c, s.writeAddrOk h a = true → (s.started h).ownContext h.src n = some c → (s.started h).laneFor (s.stamp h) = true →
    (Ready s h (opDigestFinish.on (le 2 n ++ le 1 0 ++ zeros 5 ++ le 8 a)) → Ends (.digestFinish h n 0 a) h (okOut a c.digest (le 2 c.length)) s
      ((s.started h).setContext n (some { c with finished := true }))) ∧
    (Ready s h (opDigestFinish.on (le 2 n ++ le 1 1 ++ zeros 5 ++ le 8 a)) → Ends (.digestFinish h n 1 a) h (okOut a c.digest (le 2 c.length)) s
      ((s.started h).setContext n none))

/-- The measurement, wear and digest-context commands end with OK, with the data and the state that are given for
each. MEASURE_STATUS of a range writes the flash state record of each bound device in it. LEAF_READ writes 36 bytes
a block, with FLASH_ROOT and CHANGES 0 in its result; WEAR_READ 4 bytes a block. WEAR_FORECAST writes its 32 bytes:
the highest count, RATE and the two DAYS fields from a ring of two entries or more; with fewer RATE, and with none
the time of the newest entry, is a free value (log entry 3). MEASURE_SCAN queues a scan of its kind that its command
waits for. WEAR_RESET sets the counts and the ring of its device to 0 and re-arms its levels, and touches no other
device. DIGEST_OPEN opens the lowest free context for the submitter and returns its number; DIGEST_UPDATE of an open
context, with a shared lane for it, adds its bytes; DIGEST_CLOSE closes the context. -/
def Obligations.MeasurementCommandsComplete : Prop :=
  (∀ s h f n a, Ready s h (opMeasureStatus.on (le 1 f ++ le 1 n ++ zeros 2 ++ le 8 a)) → rangeOk f n 32 = true → s.writeAddrOk h a = true →
    Reads (.measureStatus h f n a) h (okOut a ((((List.range n).map (· + f)).filter (fun d => (s.deviceSlot d).isSome)).flatMap s.statusRecord)) s) ∧
  (∀ s h d f n a, Ready s h (opLeafRead.on (le 1 d ++ zeros 1 ++ le 2 f ++ le 2 n ++ zeros 2 ++ le 8 a)) → d < 32 → 1 ≤ n → n ≤ 8192 →
    s.writeAddrOk h a = true → s.deviceStatus d f n = 0 →
    Reads (.leafRead h d f n a) h
      (okOut a ((List.range n).flatMap (fun i => (s.leaf d (f + i)).contribution ++ le 1 (s.leaf d (f + i)).state.code ++ zeros 3))
        (s.flashRoot d ++ [0, 0])) s) ∧
  (∀ s h d f n a, Ready s h (opWearRead.on (le 1 d ++ zeros 1 ++ le 2 f ++ le 2 n ++ zeros 2 ++ le 8 a)) → d < 32 → 1 ≤ n → n ≤ 8192 →
    s.writeAddrOk h a = true → s.deviceStatus d f n = 0 →
    Reads (.wearRead h d f n a) h (okOut a ((List.range n).flatMap (fun i => le 4 (s.wearOf d (f + i))))) s) ∧
  (∀ s h d a (ring : List (Nat × Nat)) rate last, Ready s h (opWearForecast.on (le 1 d ++ zeros 3 ++ le 8 a)) → d < 32 → s.writeAddrOk h a = true →
    s.deviceValid d = true → ring = s.fit.rings.get d [] →
    rate = (if ring.length < 2 then Config.freeValue s.draws % 2 ^ 32 else wearRate ring) →
    last = ((ring.map Prod.fst).head?).getD (Config.freeValue s.draws % 2 ^ 32) →
    ∃ t, Ends (.wearForecast h d a) h (okOut a (le 4 (s.wearMax d).1 ++ le 2 (s.wearMax d).2 ++ zeros 2 ++ le 4 rate ++
        le 4 (daysTo (s.ratedCycles d * s.wearPct d) (s.wearMax d).1 rate ring.length) ++
        le 4 (daysTo (s.ratedCycles d * 100) (s.wearMax d).1 rate ring.length) ++ le 4 ring.length ++ le 4 last ++ zeros 4)) s t ∧
      t = (if ring.length < 2 then (s.started h).drawn else s.started h)) ∧
  (∀ s h d k f n, Ready s h (opMeasureScan.on (le 1 d ++ le 1 k ++ le 2 f ++ le 2 n)) → d < 32 → k < 2 → n ≤ 8192 →
    s.deviceStatus d f (if n = 0 then s.deviceBlocks d else n) = 0 →
    s.fit.scans.any (fun x => x.kind == (if k = 0 then ScanKind.refresh else .verify) && x.device == d) = false →
    Goes (.measureScan h d k f n) s (((s.started h).queueScan
      { kind := if k = 0 then .refresh else .verify, device := d, first := f, count := n, waiters := [s.stamp h] }).pauseForCap.planPort (d / 2))) ∧
  (∀ s h d, Ready s h (opWearReset.on (le 1 d)) → d < 32 → s.deviceValid d = true →
    ∃ t, Ends (.wearReset h d) h ok s t ∧ t.fit.wear = s.fit.wear.filter (fun e => e.1 / 8192 != d) ∧
      t.fit.rings.get d [] = [] ∧ t.fit.wearLevel.get d 0 = 0 ∧
      (∀ e, e ≠ d → t.fit.rings.get e [] = s.fit.rings.get e [] ∧ t.fit.wearLevel.get e 0 = s.fit.wearLevel.get e 0) ∧
      { t with fit := s.fit, lgb := s.lgb } = s.started h) ∧
  (∀ s h alg k o a d n, Ready s h (opDigestOpen.on (le 1 alg ++ le 1 k ++ le 2 o ++ le 8 a)) → digestOpenOk alg k o = true →
    (k = 0 ∨ s.readAddrOk h a k = true) → (s.started h).freeContext ((s.started h).ctxOwner h.src) = some n →
    Ends (.digestOpen h alg k o a d) h (ok (le 2 n)) s ((s.started h).setContext n
      (some { fn := (s.started h).ctxOwner h.src, alg := alg, key := fixLen k (s.inputOf h a k d), outLen := o }))) ∧
  (∀ s h n k a l d c b e, Ready s h (opDigestUpdate.on (le 2 n ++ le 2 k ++ zeros 4 ++ le 8 a)) → 1 ≤ k → k ≤ 4096 → s.readAddrOk h a (16 * k) = true →
    e = descriptors k (s.inputOf h a (16 * k) l) → descListOk e = true → s.fragmentsOk h e = true →
    (s.started h).laneFor (s.stamp h) = true → (s.started h).ownContext h.src n = some c → c.finished = false →
    b = fixLen (e.foldl (fun a d => a + d.2.1) 0) (s.fragments h e d) →
    ∃ t, Ends (.digestUpdate h n k a l d) h (ok (le 8 (c.fed ++ b).length)) s t ∧ t.context n = some { c with fed := c.fed ++ b } ∧
      (∀ m, m ≠ n → t.context m = s.context m)) ∧
  (∀ s h n c, Ready s h (opDigestClose.on (le 2 n)) → (s.started h).ownContext h.src n = some c →
    Ends (.digestClose h n) h ok s ((s.started h).setContext n none))

/-- The scans, the tracker and the wear record each go to the state that their rules give. DEVICE_SCAN_START of the
scan whose turn it is makes it run outside OWN; in OWN it first makes the reset, and after the recovery time takes
what the identification and SFDP reads returned: a part that is not the profile's ends the scan, and one that is
lets it run, a START scan once both devices have been checked. DEVICE_SCAN_END gives the leaves what was read, and
ends the scan when no block is left; inside a window it goes on while the next read fits. Where the decoders
disagree on the port's own traffic, it is cut and the port frozen. A REFRESH or VERIFY falls due and is queued. The
tracker applies its oldest event. The record of a device whose leaves changed is computed again. Once in 86,400
OpSeconds the highest wear count of each bound device enters its ring of at most 32. -/
def Obligations.MeasurementEventsComplete : Prop :=
  (∀ s d j f x, s.boot.guardUp = true → d < 32 → ((s.port (d / 2)).swapPending = false ∨ (s.port (d / 2)).mode ≠ .own) →
    (s.port (d / 2)).pulseUntil = none →
    (s.nextIdent d = some x → Goes (.deviceScanStart d j f false) s (s.identStep x j f) ∧
      Goes (.deviceScanStart d j f true) s (s.ownDisagreement (d / 2) 0x9F).settleAll) ∧
    (s.nextIdent d = none → s.nextScan d = some x →
      (s.drivesOwn (d / 2) = false →
        Goes (.deviceScanStart d j f false) s (s.updScan x (fun y => { y with running := true, entryAt := none }))) ∧
      (s.drivesOwn (d / 2) = true → x.kind ≠ .start → Goes (.deviceScanStart d j f false) s (s.identStep x j f)) ∧
      (s.drivesOwn (d / 2) = true → x.kind = .start → x.identified = true → Goes (.deviceScanStart d j f false) s (s.beginScan x)) ∧
      Goes (.deviceScanStart d j f true) s
        (s.ownDisagreement (d / 2) (if s.drivesOwn (d / 2) && !x.identified then 0x9F else s.scanOpcode d)).settleAll)) ∧
  (∀ (s : State) x j f, (x.resetAt = none → s.identStep x j f = s.beginReset x) ∧
    (∀ t, x.resetAt = some t → t ≤ s.now → (s.shadow x.device).confirm = false → s.identStep x j f = s.scanIdentified x j f)) ∧
  (∀ (s : State) x j f t, t = (s.updShadow x.device (fun y => { y with sfdp := sfdpResult (s.port (x.device / 2)).bank j f })).sendFlash
      (identXfers x.device (s.port (x.device / 2)).bank.resetIface) →
    (sfdpResult (s.port (x.device / 2)).bank j f ≠ .matches → s.scanIdentified x j f = (t.wrongPart x).beginStarts (x.device / 2)) ∧
    (sfdpResult (s.port (x.device / 2)).bank j f = .matches → x.kind = .start →
      s.scanIdentified x j f = (t.updScan x (fun y => { y with identified := true })).beginStarts (x.device / 2)) ∧
    (sfdpResult (s.port (x.device / 2)).bank j f = .matches → x.kind ≠ .start → s.scanIdentified x j f = t.beginScan x)) ∧
  (∀ s d r x u y new t, s.fit.scans.find? (fun x => x.device == d && x.running) = some x → x.entryAt = none → s.scanServed x = true →
    (s.flushFit d).scanRead x r = (u, y) → new = y.done.drop x.done.length →
    t = (u.updPort (d / 2) (fun p => { p with window := p.window.map (fun w =>
      { w with operations := w.operations + new.length }) })).sendFlash (s.scanXfers x new) →
    (t.scanBlocks y = [] → Goes (.deviceScanEnd d r false) s (t.endScan y).drainTaps) ∧
    (t.scanBlocks y ≠ [] → Goes (.deviceScanEnd d r false) s
      (t.updScan x (fun _ => { y with running := t.drivesOwn (d / 2) || t.fitsWindow d (t.scanOpcode d) }))) ∧
    Goes (.deviceScanEnd d r true) s (s.ownDisagreement (d / 2) (s.scanOpcode d)).settleAll) ∧
  (∀ s d, s.boot.forgeUp = true → s.deviceValid d = true → fld (s.deviceRec d) 12 4 ≠ 0 → (s.flashRec d).staleCount ≠ 0 →
    (s.flashRec d).oldestStale + fld (s.deviceRec d) 12 4 * 1000000 < s.now →
    Goes (.refreshRequest d) s ((s.queueScan { kind := .refresh, device := d }).pauseForCap.planPort (d / 2))) ∧
  (∀ s d, s.boot.forgeUp = true → s.deviceValid d = true → fld (s.deviceRec d) 16 4 ≠ 0 →
    s.fit.verifyAt.get d 0 + fld (s.deviceRec d) 16 4 ≤ s.emb.opSeconds →
    Goes (.verifyRequest d) s ((({ s with fit := { s.fit with verifyAt := s.fit.verifyAt.set d 0 s.emb.opSeconds } } : State).queueScan
      { kind := .verify, device := d }).pauseForCap.planPort (d / 2))) ∧
  (∀ s t e rest, t = s.drainTaps → t.fit.events = e :: rest →
    Goes .fitLeafEvent s (({ t with fit := { t.fit with events := rest } } : State).applyFit e)) ∧
  (∀ s d, s.fit.dirty.any (fun e => e.1 == d) = true → Goes (.flashStateRecordUpdate d) s (s.updateRecord d).settle) ∧
  (∀ s, s.boot.forgeUp = true → s.fit.lastDaily + 86400 ≤ s.emb.opSeconds →
    ∃ t, Goes .wearDailyRecord s t ∧ t.fit.lastDaily = s.emb.opSeconds ∧ { t with fit := s.fit } = s ∧
      (∀ d, d < 32 → (s.deviceSlot d).isSome = true →
        t.fit.rings.get d [] = ((s.emb.opSeconds, (s.wearMax d).1) :: s.fit.rings.get d []).take 32))

/-- The Hammer commands are carried out, and the events of the lanes each go to the state that their rules give. A
PK_OP whose code, input and randomness are good is submitted in its queue's class; LMS_VERIFY (0x0D) ends at once
where a Bellows lane is shared and no digest or receipt work waits for it, and waits for one otherwise; an input
that Table 7-4 refuses ends with 0x0160. HAMMER_STATUS writes its 320 bytes. HAMMER_LANE_TEST of a RETIRED or SPARE
lane begins the extended test, and the end of that test ends the commands that wait with its outcome, a RETIRED lane
that passes being SPARE with FAILS 2. The end of an operation that holds delivers its result and frees the lane; one
that fails its invariant is retried; a pair that holds enters its pool while that has room. A TESTING lane that
passes, a spare that is promoted and a lane that is powered up become ACTIVE. -/
def Obligations.HammerCommandsComplete : Prop :=
  (∀ s h o n a d b, Ready s h (opPkOp.on (le 1 o ++ zeros 3 ++ le 4 n ++ le 8 a)) → s.readAddrOk h a n = true → 1 ≤ o → o < 0x0D →
    b = fixLen n (s.inputOf h a n d) →
    ((pkInLenOk o n b && pkInputOk o b) = false → Reads (.pkOp h o n a d) h (err 0x0160) s) ∧
    (∀ q, pkInLenOk o n b = true → pkInputOk o b = true → s.hammerUnavailable = false →
      (needsRandom o = true → s.clusterDrbg = true) → q = (s.started h).queueOf h.src →
      Goes (.pkOp h o n a d) s ((s.started h).submitOp { op := o, cls := (s.started h).classOf q, queue := q, input := b,
                                                             req := .pkOp (s.stamp h) a (a + n + padTo 64 n) }))) ∧
  (∀ s h n a d b, Ready s h (opPkOp.on (le 1 0x0D ++ zeros 3 ++ le 4 n ++ le 8 a)) → s.readAddrOk h a n = true →
    b = fixLen n (s.inputOf h a n d) →
    pkInLenOk 0x0D n b = true → pkInputOk 0x0D b = true →
    ((s.started h).backgroundLane = true → ∃ t, Ends (.pkOp h 0x0D n a d) h ((s.started h).pkReply 0x0D b (a + n + padTo 64 n) 1 0xFF) s t ∧
      { t with rfg := s.rfg } = s.started h) ∧
    ((s.started h).backgroundLane = false → ∃ t, Goes (.pkOp h 0x0D n a d) s t ∧
      t.bde.lms = s.bde.lms ++ [{ hdr := s.stamp h, input := b, outAt := a + n + padTo 64 n }] ∧
      { t with bde := s.bde } = s.started h)) ∧
  (∀ s h a, Ready s h (opHammerStatus.on (le 8 a)) → s.writeAddrOk h a = true →
    Reads (.hammerStatus h a) h (okOut a (le 4 s.hmaStatus ++ le 4 s.hmaLoad ++ le 4 s.hmaPool ++ le 4 s.hmaVersion ++ le 4 0x3FFE ++ zeros 12 ++
      (List.range 18).flatMap (fun n => le 4 (s.hmaLane n) ++ le 8 (s.lane n).opsDone ++ le 2 (s.lane n).lifetimeFails ++ zeros 2))) s) ∧
  (∀ s h l, Ready s h (opHammerLaneTest.on (le 1 l)) → l < 18 →
    (((s.lane l).state = .retired ∨ (s.lane l).state = .spare) → Goes (.hammerLaneTest h l) s
      ((s.started h).updLane l (fun x => { x with coming := if x.coming = 2 then 2 else 3, testHdr := x.testHdr ++ [s.stamp h] }))) ∧
    ((s.lane l).state ≠ .retired → (s.lane l).state ≠ .spare → Reads (.hammerLaneTest h l) h (err 0x0460) s)) ∧
  (∀ s l, (s.lane l).state = .retired → (s.lane l).testHdr ≠ [] →
    ∃ t : State, Goes (.knownAnswerTestDone l true) s (State.noteService s (completeAll (s.lane l).testHdr (ok [1]) t)) ∧
      (t.lane l).state = .spare ∧ (t.lane l).fails = 2 ∧ (∀ m, m ≠ l → t.lane m = s.lane m)) ∧
  (∀ s l o, (s.lane l).running = some o → (∀ c, o.req ≠ .refill c) →
    Goes (.hammerOpComplete l true) s
      (State.noteService s (((s.updLane l (fun x => { x.good with running := none })).deliverOp l o).placeWork)) ∧
    Goes (.hammerOpComplete l false) s (State.noteService s
      (((((s.updLane l (fun x => { x with running := none })).invariantFailed l o.op).retryOp l o).refuseAll).placeWork))) ∧
  (∀ s l o c u, (s.lane l).running = some o → o.req = .refill c → u = s.updLane l (fun x => { x with running := none }) →
    Goes (.poolRefillDone l true) s (State.noteService s (State.placeWork (if u.poolOf (clusterOf l) c < 1024 then
      { u with hma := { u.hma with pairs := u.hma.pairs.upd (lotKey (clusterOf l) c l) {} (fun x => { x with untested := x.untested + 1 }) } }
      else u)))) ∧
  (∀ s l, (s.lane l).state = .testing →
    Goes (.knownAnswerTestDone l true) s
      (State.noteService s (((s.updLane l (fun x => { x with state := .active, testOp := 0 })).provePairs l).placeWork)) ∧
    Goes (.knownAnswerTestDone l false) s (State.noteService s (((s.laneFails l).refuseAll).placeWork))) ∧
  (∀ s l, (s.lane l).state = .spare → (s.lane l).coming = 2 →
    Goes (.sparePromotionDone l true) s
      (State.noteService s (s.updLane l (fun x => { x with state := .active, coming := 0 })).placeWork)) ∧
  (∀ s l, (s.lane l).state = .gated → (s.lane l).coming = 1 →
    Goes (.lanePowerUpReady l) s (s.updLane l (fun x => { x with state := .active, coming := 0 })).placeWork)

/-- A step takes the command at the front of the queue and runs it on the rest. For every command c and every state
whose queue begins with c, a step is exec of c on the state with the queue's rest; on an empty queue a step is one
tick of the time base. The queue and the tick are the model's own (log entries 1 and 2). -/
def Obligations.StepRunsTheFrontCommand : Prop :=
  (∀ (s : State) (c : Instr) (rest : List Instr), s.pending = c :: rest → step s = exec c { s with pending := rest }) ∧
  (∀ s : State, s.pending = [] → step s = .next (tick s))

/-- No command ever stops the device. Every command of the table has a next state in every state: exec never faults
and never refuses. This is what the model makes of the table, in which the spec gives every row an effect. -/
def Obligations.EveryCommandAnswers : Prop :=
  ∀ (c : Instr) (s : State), ∃ t, Goes c s t

/-- A ZCP command that no entry in flight spells, or that R292 does not let start, changes nothing. For every row of
the table that is a ZCP command: when no entry in flight spells it, or its source is down, or a command before it
has not started or has FENCE set, exec answers the same state. That such a row then has no effect is the model's
choice of how a sender meets R291 and R292 (log entry 6). -/
def Obligations.CommandsNeedAnOpenSource : Prop :=
  ∀ (c : Instr) (h : Hdr) (op : Op) (s : State), zcpOf c = some (h, op) → s.takes h op = false → Goes c s s

/-- A ZCP command that fails check 2, 3 or 4 of R289 ends with that check's status and CARRIED_OUT 0. For every ZCP
command that is taken up: below the version that introduced its opcode it ends with 0x0103, whatever else is wrong;
then without the privilege it needs with 0x0201; then with the reserved CID, a reserved bit or byte that is not 0,
or a RESULT_ADDR that is not as R288 and R553 want it, with 0x0102. In each case nothing but the list of commands in
flight and the completion changes. -/
def Obligations.AdmissionRefusesWithoutEffect : Prop :=
  ∀ (c : Instr) (h : Hdr) (op : Op) (s : State), zcpOf c = some (h, op) → s.takes h op = true →
    (s.versionOf h.src < op.version → Reads c h (err 0x0103) s) ∧
    (op.version ≤ s.versionOf h.src → s.mayRun h.src op = false → Reads c h (err 0x0201) s) ∧
    (op.version ≤ s.versionOf h.src → s.mayRun h.src op = true →
      (h.cid = 0xFFFF ∨ h.reserved ≠ 0 ∨ resultAddrOk h op = false) → Reads c h (err 0x0102) s)

/-- A PCIe queue admits exactly the commands at or below its privilege. For every queue and every opcode of Table
18-2: the privilege check passes exactly when the opcode's lowest privilege is at most the queue's, with OBSERVER 0,
TENANT 1, OPERATOR 2 and OWNER 3. So every command that an OBSERVER queue may run, every other queue may run. -/
def Obligations.PrivilegeOrdersTheQueues : Prop :=
  ∀ (s : State) (q : Nat) (op : Op), op ∈ allOps →
    (s.mayRun (.pcie q) op = true ↔ op.priv ≤ (s.grant q).priv) ∧ op.priv ≤ 3

/-- A command that ends leaves the commands in flight, and its completion joins the line of its source. For a
command in flight on a PCIe queue: when it ends, the queue's finished completions are as before with its own at the
end, carrying its CID, status and result, and unless its completion is never written no other queue changes, nor any
framed session, nor anything outside the Command Engine. An orphan's completion is not put in line (R294). -/
def Obligations.CompletionIsPutInLine : Prop :=
  ∀ (s : State) (h : Hdr) (r : Reply) (q : Nat) (f : Flight), h.src = .pcie q → s.inFlight h = some f →
    ((complete h r s).queue q).done = (s.queue q).done ++ (if f.orphan then [] else [r.completion h]) ∧
    ((complete h r s).queue q).flights = (s.queue q).flights.eraseP (fun f => decide (f.uid = h.uid)) ∧
    (r.completion h).cid = h.cid ∧ (r.completion h).status = r.status ∧ (r.completion h).result = r.result ∧
    (∀ p, p ≠ q → (complete h r s).queue p = s.queue p) ∧
    (∀ x, (complete h r s).session x = s.session x) ∧
    { complete h r s with cme := s.cme } = s

/-- ECHO, CAPABILITIES and SESSION_NEGOTIATE end with OK and their results. ECHO returns its 8 bytes. CAPABILITIES
writes the data of Table 8-16 for its source to its address. SESSION_NEGOTIATE on a PCIe queue returns the queue's
version; on a framed session and in the JTAG mailbox it sets the highest common version and the fragment size, at
most the bus limit, and returns both with the baud rate that UART0 will use; it ends with 0x0103 when no version is
common. The fragment limit of the mailbox, 4,096, is the model's choice (log entry 101). -/
def Obligations.TransportCommandsComplete : Prop :=
  (∀ s h p, Ready s h (opEcho.on (le 8 p)) → Reads (.echo h p) h (ok (le 8 p)) s) ∧
  (∀ s h a, Ready s h (opCapabilities.on (le 8 a)) → s.writeAddrOk h a = true →
    Reads (.capabilities h a) h (okOut a ((s.started h).capabilities h.src)) s) ∧
  (∀ s h lo hi b n v q, Ready s h (opSessionNegotiate.on (le 1 lo ++ le 1 hi ++ zeros 2 ++ le 4 b ++ le 2 n)) → h.src = .pcie q → commonVersion lo hi = some v →
    Reads (.sessionNegotiate h lo hi b n) h (ok (le 1 (s.queue q).version)) s) ∧
  (∀ s h lo hi b n v x m, Ready s h (opSessionNegotiate.on (le 1 lo ++ le 1 hi ++ zeros 2 ++ le 4 b ++ le 2 n)) → h.src = .framed x → (x = .uart0 → baudOk b = true) →
    commonVersion lo hi = some v → m = (if n = 0 then fragmentLimit x v else min n (fragmentLimit x v)) →
    Ends (.sessionNegotiate h lo hi b n) h
      (ok (le 1 v ++ [0] ++ le 2 m ++ le 4 (if x = .uart0 then (if b = 0 then (s.session x).baud else b) else 0))) s
      ((s.started h).updSession x (fun y => { y with version := v, maxFragment := m, nextBaud := if x = .uart0 then b else 0 }))) ∧
  (∀ s h lo hi b n v m, Ready s h (opSessionNegotiate.on (le 1 lo ++ le 1 hi ++ zeros 2 ++ le 4 b ++ le 2 n)) → h.src = .jtag → commonVersion lo hi = some v →
    m = (if n = 0 then 4096 else min n 4096) →
    ∃ t : State, Ends (.sessionNegotiate h lo hi b n) h (ok (le 1 v ++ [0] ++ le 2 m ++ le 4 0)) s t ∧
      t.cme.jtagSession = { (s.started h).cme.jtagSession with version := v, maxFragment := m } ∧
      { t with cme := (s.started h).cme } = s.started h) ∧
  (∀ s h lo hi b n, Ready s h (opSessionNegotiate.on (le 1 lo ++ le 1 hi ++ zeros 2 ++ le 4 b ++ le 2 n)) → (h.src = .framed .uart0 → baudOk b = true) →
    commonVersion lo hi = none → Reads (.sessionNegotiate h lo hi b n) h (err 0x0103) s)

/-- A doorbell of an open queue moves its index, a value out of range puts its queue in ERROR, and a stray one is
counted. A write of a tail within the depth to SQ_TAIL of an open queue of the function makes it the queue's tail,
with the depth watermark told of a crossing, and no other queue and no function's registers change; a tail outside
it puts the queue in ERROR with cause 2 and its completion entry. A write of a head that consumes no more than is
posted makes it the head of the completion ring; any other head puts the queue in ERROR with cause 3. In each case
the INDEX of the doorbell register is the value written (R8). A doorbell of a queue that is not open, or not the
function's, only counts in STRAY. -/
def Obligations.DoorbellsMoveTheirIndex : Prop :=
  (∀ s fn q v, s.pcieUp = true → s.ownsQueue fn q = true → (s.queue q).state = .opened →
    (v % 4096 < (s.queue q).depth → ∃ t, Goes (.sqTailDoorbell fn q v) s t ∧
      t = ((s.updQueue q (fun x => { x with sqDoorbell := v % 4096 })).updQueue q (fun x => { x with sqTail := v % 4096 })).depthCrossing
        q (s.queue q).outstanding ∧
      (t.queue q).sqTail = v % 4096 ∧ (t.queue q).sqDoorbell = v % 4096 ∧ (∀ p, p ≠ q → t.queue p = s.queue p) ∧
      (∀ n, t.fnBlock n = s.fnBlock n)) ∧
    ((s.queue q).depth ≤ v % 4096 → Goes (.sqTailDoorbell fn q v) s
      (((s.updQueue q (fun x => { x with sqDoorbell := v % 4096 })).queueError q 2).queueErrorEntry q 2))) ∧
  (∀ s fn q v, s.pcieUp = true → s.ownsQueue fn q = true → (s.queue q).state = .opened →
    ((v % 4096 < (s.queue q).depth → (v % 4096 + (s.queue q).depth - (s.queue q).cqHead) % (s.queue q).depth ≤ (s.queue q).posted →
      Goes (.cqHeadDoorbell fn q v) s
        ((s.updQueue q (fun x => { x with cqDoorbell := v % 4096 })).updQueue q (fun x => { x with cqHead := v % 4096 }))) ∧
    (((s.queue q).depth ≤ v % 4096 ∨ (s.queue q).posted < (v % 4096 + (s.queue q).depth - (s.queue q).cqHead) % (s.queue q).depth) →
      Goes (.cqHeadDoorbell fn q v) s ((s.updQueue q (fun x => { x with cqDoorbell := v % 4096 })).queueError q 3)))) ∧
  (∀ s fn q v, s.pcieUp = true → (s.ownsQueue fn q = false ∨ (s.queue q).state ≠ .opened) →
    Goes (.sqTailDoorbell fn q v) s (s.updFn fn (fun b => { b with stray := satAdd 32 b.stray 1 })) ∧
    Goes (.cqHeadDoorbell fn q v) s (s.updFn fn (fun b => { b with stray := satAdd 32 b.stray 1 })))

/-- OPEN, CLOSE, RESET and the CLOSE time limit move a queue between its states. OPEN of a queue that passes every
check of Table 8-13 leaves it OPEN with its configuration, both doorbells and both internal indices at 0 and RESULT
0; otherwise RESULT holds the first failed check and nothing else changes. CLOSE of an open queue leaves it CLOSED
when no command is in flight, and CLOSING otherwise. RESET leaves it CLOSED, and so does the end of the 100 ms that
a CLOSE may wait; a queue that is closed so has no completion to write and its commands in flight are orphans
(R294). -/
def Obligations.QueueControlChangesState : Prop :=
  (∀ s fn q r, s.pcieUp = true → q = (s.fnBlock fn).qSelect → r = s.openResult fn q →
    (r ≠ 0 → Goes (.queueOpen fn) s (s.updQRegs fn q (fun x => { x with result := r }))) ∧
    (r = 0 → Goes (.queueOpen fn) s ((s.updQRegs fn q (fun x => { x with result := r })).updQueue q
      (fun x => x.openWith fn (s.qRegs fn q))))) ∧
  (∀ (x : Queue) fn y, (x.openWith fn y).state = .opened ∧ (x.openWith fn y).fn = fn ∧ (x.openWith fn y).depthLog2 = y.depthLog2 ∧
    (x.openWith fn y).version = y.version ∧ (x.openWith fn y).sqTail = 0 ∧ (x.openWith fn y).cqHead = 0 ∧ (x.openWith fn y).sqHead = 0 ∧
    (x.openWith fn y).cqTail = 0) ∧
  (∀ s fn, s.pcieUp = true → s.ownsQueue fn (s.fnBlock fn).qSelect = true →
    Goes (.queueClose fn) s (s.closeQueue (s.fnBlock fn).qSelect) ∧
    Goes (.queueReset fn) s (s.updQueue (s.fnBlock fn).qSelect Queue.closeNow)) ∧
  (∀ (s : State) q, (s.queue q).state = .opened → ((s.closeQueue q).queue q).state =
    (if (s.queue q).inFlight = 0 then QState.closed else .closing)) ∧
  (∀ s q, (s.queue q).state = .closing → (s.queue q).closingAt + 100000 ≤ s.now →
    Goes (.queueCloseTimeout q) s (s.updQueue q Queue.closeNow)) ∧
  (∀ x : Queue, x.closeNow.state = .closed ∧ x.closeNow.done = [] ∧ (x.closeNow.flights.all (fun f => f.orphan)) = true)

/-- PERST#, a hot reset, a function-level reset and a cleared Bus Master Enable act on the queues as Table 8-19
gives. While the PCIe island has power: PERST# and a hot reset leave every queue CLOSED and every function control
block at its reset value, and close every digest context; a function-level reset does so for the queues and the
block of its function and leaves every other queue; clearing Bus Master Enable with a queue open puts every queue of
the function, those granted to it and those that it uses, in ERROR with cause 4, sets BME_LOST and leaves every
other queue. The rise of PERST# starts link training, and so does the end of a hot reset. -/
def Obligations.ResetsCloseTheQueues : Prop :=
  (∀ s : State, s.pcieUp = true → Goes .perstAssert s (({ s with boot := { s.boot with perst := true } } : State).pcieReset)) ∧
  (∀ s t : State, s.pcieUp = true → s.boot.perst = false → t = s.pcieReset →
    ∀ r l, Goes (.pcieHotReset r l) s { t with boot := t.boot.train r l }) ∧
  (∀ (b : Boot) r l, (b.train r l).linkTraining = true) ∧
  (∀ s : State, s.pcieReset.boot.linkTraining = false ∧ (∀ q, (s.pcieReset.queue q).state = .closed) ∧ (∀ n, s.pcieReset.fnBlock n = {}) ∧
    (∀ n, s.pcieReset.context n = none)) ∧
  (∀ (s : State) r l, Goes (.perstDeassert r l) s { s with boot := { s.boot.train r l with perst := false, linkTraining := s.pcieUp } }) ∧
  (∀ s fn, s.pcieUp = true → ∃ t, Goes (.functionLevelReset fn) s t ∧ t.fnBlock fn = {} ∧
    (∀ q, (s.usesQueue fn q || s.ownsQueue fn q) = true → (t.queue q).state = .closed) ∧
    (∀ q, (s.usesQueue fn q || s.ownsQueue fn q) = false → t.queue q = s.queue q)) ∧
  (∀ s fn p, s.pcieUp = true → s.usesQueue fn p = true → (s.queue p).state ≠ .error →
    ∃ t, Goes (.busMasterDisable fn) s t ∧ (t.fnBlock fn).bmeLost = true ∧
    (∀ q, q < 4096 → (s.ownsQueue fn q || s.usesQueue fn q) = true → (t.queue q).state = .error ∧ (t.queue q).lastCause = 4) ∧
    (∀ q, (s.ownsQueue fn q || s.usesQueue fn q) = false → t.queue q = s.queue q))

/-- A read of a low word latches the high word, and the next read of the high word returns it. For every 64-bit
register that a function reaches: a read of its low word, by either row, returns the low 32 bits of its value v and
latches bits 63:32 of v for the high word's address. A read of an address that has a latched word returns that word,
whatever the register holds by then, ends its latching and leaves every other latched word. An access that is not
naturally aligned reads and changes nothing. -/
def Obligations.WideRegistersLatch : Prop :=
  (∀ s fn a v, s.reaches fn a = true → s.wide fn a = some v →
    Goes (.registerLowWordRead fn a) s (s.readLow fn a v) ∧
    (s.readLow fn a v).io.readData = some (v % 2 ^ 32) ∧
    (fn < 64 → ((s.readLow fn a v).fnBlock fn).latches.get (a + 4) none = some (v / 2 ^ 32))) ∧
  (∀ s fn a v, s.reaches fn a = true → (s.fnBlock fn).latches.get a none = some v →
    Goes (.rcRegisterRead fn a) s ((s.latch fn a none).returns v) ∧
    ((s.latch fn a none).fnBlock fn).latches.get a none = none ∧
    (∀ b, b ≠ a → ((s.latch fn a none).fnBlock fn).latches.get b none = (s.fnBlock fn).latches.get b none)) ∧
  (∀ s fn a v, s.reaches fn a = true → (s.fnBlock fn).latches.get a none = none → s.wide fn a = some v →
    Goes (.rcRegisterRead fn a) s (s.readLow fn a v)) ∧
  (∀ s fn a v, a % 4 ≠ 0 →
    Goes (.registerLowWordRead fn a) s s ∧ Goes (.rcRegisterRead fn a) s s ∧ Goes (.registerWrite fn a v) s s)

/-- A register read returns the word and clears what clears on reading; a write of 1 clears a HIT bit and keeps its
count. A read of a 32-bit register that no read has latched returns its word and does what its type RC asks. The ten
counters named (BDE_SNOOP_DROPS, FIT_POOL_EVICTIONS, RFU_BLOCKS_WRITTEN, RFU_FAILED, CBY_CRC_ERRORS, CRU_RESEEDS,
CRU_AUTH_FAILS, WWU_EXPIRIES, WWU_BAD_KEYS, ATR_SPDM_ERRORS) read 0 after it. A write gives its low 32 bits to the
register: at the outbox register a 1 in the HIT bit clears it and a 0 keeps it, and nothing else changes, the
crossing count among it. An access behind an island whose clock has stopped waits (R309). -/
def Obligations.RegisterAccessesComplete : Prop :=
  (∀ s fn a, s.reaches fn a = true → (s.fnBlock fn).latches.get a none = none → s.wide fn a = none →
    Goes (.rcRegisterRead fn a) s ((s.regClear fn a).returns (s.regWord fn a))) ∧
  (∀ s : State, ∀ a ∈ [0x13004, 0x14004, 0x19030, 0x19034, 0x1A020, 0x1B014, 0x1B018, 0x1D008, 0x1D00C, 0x18018],
    (s.regClear 0 a).regWord 0 a = 0) ∧
  (∀ s fn a v, s.reaches fn a = true → Goes (.registerWrite fn a v) s (s.regWrite fn a (v % 2 ^ 32))) ∧
  (∀ s fn a v, s.addresses fn a = true → s.islandStopped (regIsland a) = true →
    Goes (.rcRegisterRead fn a) s (s.awaitAccess fn a none) ∧ Goes (.registerWrite fn a v) s (s.awaitAccess fn a (some (v % 2 ^ 32)))) ∧
  (∀ (s : State) v, s.regWrite 0 0x17000 v = { s with cme := { s.cme with outboxHit := s.cme.outboxHit && !v.testBit 14 } })

/-- A fetched entry joins the commands in flight, an unknown opcode ends at once, and a failed fetch puts its queue
in ERROR. SUBMISSION_FETCH of the queue whose turn it is reads the entry at SQ_BASE + 64i, moves the fetch index on
by one and takes the entry. An entry whose opcode is not in Table 18-2 ends with OPCODE_UNKNOWN (0x0101),
CARRIED_OUT 0. HOST_READ_COMPLETION gives its data to the command that waits for it. A fetch that fails puts the
queue in ERROR with cause 1 and records the address; a read that fails for a command other than DIGEST_UPDATE ends
it with 0x0701, and a receipt command so refused is counted. -/
def Obligations.FetchedEntriesAreTaken : Prop :=
  (∀ (s t : State) q c u e, s.ready = true → s.cme.draining = false → s.nextFetch = some (q, c, u) →
    t = { s with io := { s.io with fetch := some (s.fetchAddr q) } } →
    Goes (.submissionFetch q e) s
      (((t.setFetchTurn c u).updQueue q (fun x => { x with sqHead := (x.sqHead + 1) % x.depth })).takeEntry (.pcie q) (fixLen 64 e) [])) ∧
  (∀ (s : State) q e d, opOf (fld e 0 2) = none → (s.queue q).flights.all (fun f => decide (f.uid ≠ s.cme.nextUid)) = true →
    ∃ c : Completion, c.status = 0x0101 ∧ c.carriedOut = false ∧ c.cid = fld e 2 2 ∧
      ((s.takeEntry (.pcie q) e d).queue q).done = (s.queue q).done ++ [c]) ∧
  (∀ s q cid d h, h = ({ src := .pcie q, cid := cid } : Hdr) →
    Goes (.hostReadCompletion q cid d) s ((s.noteStaging h).updFlights (.pcie q) (fun l => l.map (fun f =>
      if f.uid = s.uidFor h ∧ !f.started then { f with data := f.data ++ d } else f)))) ∧
  (∀ s q k a fed, s.mayFetch q = true → s.ready = true → Goes (.hostReadFault q none k a fed) s
    (((s.readFaulted (s.queue q).fn a k).queueError q 1).queueErrorEntry q 1)) ∧
  (∀ s q p h k a fed f, h.src = .pcie p → s.flightFor h = some f → f.started = false → updateContext f = none →
    Ends (.hostReadFault q (some h) k a fed) h (err 0x0701) s
      (if readsReceipt f then (s.readFaulted (s.queue p).fn a k).countRefused p else s.readFaulted (s.queue p).fn a k))

/-- The oldest finished completion of a source is written: on its ring, in frames, or in the mailbox.
COMPLETION_WRITE of a queue writes, to the memory of the function that opened it, the command's data, its long
result and then the 32-byte entry at the ring's next place, and moves the place on; a queue left CLOSING with
nothing in flight then closes. On a framed session the response goes out in frames under the message's number and is
kept as the last response. What UART0 has to send leaves at once behind its start bytes. In the JTAG mailbox the
response's frames fill the response register. A coalesced interrupt that is due is sent where its vector is not
masked. An asynchronous event whose record is written goes out with CID 0xFFFF and leaves the group's list; that it
waits for its record is the model's choice (log entry 100). -/
def Obligations.CompletionsAreWritten : Prop :=
  (∀ s q c rest, s.boot.controlUp = true → s.boot.drainUntil = none → (s.queue q).done = c :: rest →
    Goes (.completionWrite (.pcie q)) s (((s.updQueue q (fun x => { x with done := rest })).writeEntry q c).closeDone q)) ∧
  (∀ (s : State) q c, (s.queue q).state = .opened →
    (s.writeEntry q c).io.dma = (c.writes (s.queue q)).map (fun w => ((s.queue q).fn, w)) ∧
    ((s.writeEntry q c).queue q).cqTail = ((s.queue q).cqTail + 1) % (s.queue q).depth ∧ (s.writeEntry q c).closeDone q = s.writeEntry q c) ∧
  (∀ s x c rest, s.boot.controlUp = true → s.boot.drainUntil = none → (s.session x).done = c :: rest →
    Goes (.completionWrite (.framed x)) s ((s.updSession x (fun y => y.respond c s.now)).sendUart x)) ∧
  (∀ s : State, s.cme.uart0.frames ≠ [] →
    (s.sendUart .uart0).io.frame = s.cme.uart0.frames.flatMap (fun f => [0x5A, 0xA5] ++ f) ∧ (s.sendUart .uart0).cme.uart0.frames = []) ∧
  (∀ (y : Session) c now, (y.respond c now).lastResponse = c.response ∧ (y.respond c now).done = y.done.drop 1 ∧
    (y.respond c now).frames = y.frames ++ framesOf 2 (y.running.getD 0) y.maxFragment c.response) ∧
  (∀ s c rest, s.boot.drainUntil = none → s.cme.jtagSession.done = c :: rest →
    Goes (.completionWrite .jtag) s { s with cme := { s.cme with
      jtagSession := { s.cme.jtagSession.respond c s.now with frames := [] }
      jtagResponse := (s.cme.jtagSession.respond c s.now).frames.flatten } }) ∧
  (∀ s q d, (s.queue q).coalDue = some d → d ≤ s.now → s.boot.controlUp = true →
    Goes (.interruptCoalesceExpiry q) s ((s.updQueue q (fun x => { x with coalDue := none })).raiseMsix (s.queue q).fn (s.queue q).vector)) ∧
  (∀ (s : State) fn v, (s.fnBlock fn).msix.enable = true → (s.fnBlock fn).msix.functionMask = false →
    (s.fnBlock fn).msix.unmasked.contains v = true → s.raiseMsix fn v = { s with io := { s.io with msix := some (fn, v) } }) ∧
  (∀ s g e rest q, s.boot.controlUp = true → s.cme.asyncs.get g [] = e :: rest → s.unrecorded g e = false → s.asyncQueue g e = some q →
    (s.queue q).posted + (s.queue q).inFlight + 1 ≤ (s.queue q).depth - 1 →
    Goes (.asyncEventDelivery g) s (({ s with cme := { s.cme with asyncs := s.cme.asyncs.set g [] rest } } : State).writeEntry q
      { src := .pcie q, cid := 0xFFFF, isAsync := true, rung := 7, result := e.result (s.queue q).version }))

/-- The framed targets and the mailbox answer each frame as R307 gives, and give their responses up in order. A
frame whose length does not match, or that is too long, or whose CRC fails is answered with a NAK of status 0x0104;
a frame that comes while a command runs with 0x0106; a frame whose SMBus PEC is wrong with 0x0104 (the model's
choice, log entry 111); a gap of more than 100 ms with 0x0105; the message under assembly is discarded, and the
answer announced. A complete command message is taken as an entry with its inline data. A block read or a private
read takes the oldest response frame, none when none is ready. An address assignment, a clock held low for too long
and the return of an unconfirmed baud rate act on their session alone. That a frame longer than the fragment limit
counts as a failed frame is the model's choice (log entry 101). -/
def Obligations.FramesAreAnswered : Prop :=
  (∀ (y : Session) now f, (f.length ≠ 12 + fld f 6 2 ∨ y.maxFragment < fld f 6 2 ∨ fld f (8 + fld f 6 2) 4 ≠ crc32c (f.take (8 + fld f 6 2))) →
    y.receive now f = .answer (y.nak (fld f 2 1) 0x0104)) ∧
  (∀ (y : Session) now f, f.length = 12 + fld f 6 2 → fld f 6 2 ≤ y.maxFragment → fld f (8 + fld f 6 2) 4 = crc32c (f.take (8 + fld f 6 2)) →
    fld f 0 1 = 1 →
    (y.running.isSome = true → y.receive now f = .answer (y.nak (fld f 2 1) 0x0106)) ∧
    (y.running = none → y.late now = true → y.receive now f = .answer (y.nak (fld f 2 1) 0x0105))) ∧
  (∀ (y : Session) m c, (y.nak m c).announced = { y with building := none, frames := y.frames ++ [nakFrame m c], ibi := true }) ∧
  (∀ (s u : State) x f p, s.framedReady x = true →
    u = (if x = .uart0 ∧ frameGood f = true then
        { s.updSession .uart0 (fun y => { y with revertAt := none }) with
          boot := { s.boot with peerSeen := s.boot.peerSeen || s.boot.phase == .serialLoader } }
      else s) →
    (u.pecGood x f p = false → Goes (.frameReceived x f p) s (u.updSession x (fun y => (y.nak (fld f 2 1) 0x0104).announced))) ∧
    (∀ y, u.pecGood x f p = true → (u.session x).receive u.now f = .answer y →
      Goes (.frameReceived x f p) s ((u.updSession x (fun z => if y.frames = z.frames then y else y.announced)).sendUart x)) ∧
    (∀ y m e d, u.pecGood x f p = true → (u.session x).receive u.now f = .message y m e d →
      Goes (.frameReceived x f p) s ((u.updSession x (fun _ => y)).takeEntry (.framed x) e d) ∧ y.running = some m ∧ e.length = 64)) ∧
  (∀ s x m n b, (s.session x).building = some (m, n, b) → s.boot.controlUp = true → (s.session x).lastFragAt + 100000 < s.now →
    Goes (.fragmentTimeout (.framed x)) s ((s.updSession x (fun y => (y.nak m 0x0105).announced)).sendUart x)) ∧
  (∀ s m n b, s.cme.jtagSession.building = some (m, n, b) → s.boot.pwrOk = true → s.cme.jtagSession.lastFragAt + 100000 < s.now →
    Goes (.fragmentTimeout .jtag) s { s with cme := { s.cme with
      jtagSession := { s.cme.jtagSession with building := none }, jtagResponse := nakFrame m 0x0105 } }) ∧
  (∀ s x, (x = .sb0 ∨ x = .sb1) → s.boot.controlUp = true → Goes (.smbusBlockRead x 0x5B) s (s.readFrame x)) ∧
  (∀ s x, (x = .mb0 ∨ x = .mb1) → s.boot.controlUp = true → Goes (.i3cPrivateRead x) s (s.readFrame x)) ∧
  (∀ (s : State) x, (s.readFrame x).io.frame = ((s.session x).frames.head?).getD [] ∧
    ((s.readFrame x).session x).frames = (s.session x).frames.drop 1) ∧
  (∀ s f y m e d, s.boot.pwrOk = true → s.cme.jtagSession.receive s.now f = .message y m e d →
    Goes (.jtagMailboxFrame f) s (({ s with cme := { s.cme with jtagSession := y } }).takeEntry .jtag e d)) ∧
  (∀ s f, s.boot.pwrOk = true → f.length ≠ 12 + fld f 6 2 →
    ∃ t, Goes (.jtagMailboxFrame f) s t ∧ t.cme.jtagResponse = nakFrame (fld f 2 1) 0x0104 ∧ { t with cme := s.cme } = s) ∧
  (∀ s d, s.cme.uart0.revertAt = some d → d ≤ s.now → s.boot.controlUp = true →
    Goes .baudRevert s (s.updSession .uart0 (fun x => { x with baud := x.oldBaud, revertAt := none }))) ∧
  (∀ s x a, (x = .mb0 ∨ x = .mb1) → s.boot.controlUp = true →
    Goes (.dynamicAddressAssignment x false a) s (s.updSession x (fun y => { y with dynAddr := a % 128 }))) ∧
  (∀ s x, (x = .sb0 ∨ x = .sb1) → s.boot.controlUp = true →
    Goes (.smbusClockLowTimeout x) s (s.updSession x (fun y => { y with busy := false })))

/-- The outbox sends or keeps the message whose turn it is, and a crossing that is not acknowledged in 64 us ends
what waited on it. OUTBOX_RETRY takes the message whose turn it is, a held one while there are any: when the
receiver accepts it its next unit is sent, and with the last one the message leaves the outbox; otherwise its count
of retries rises until the eighth, after which it is held and tried again each second. ISLAND_CROSSING_TIMEOUT, 64
us after the crossing began, ends a command that waits on the island with ISLAND_TIMEOUT (0x0704) and the island's
code, and ends a register access that waits, a read with all ones; either counts in CME_ISLAND_TIMEOUTS. -/
def Obligations.OutboxAndIslandLimits : Prop :=
  (∀ s m, s.boot.controlUp = true → s.nextOut = some m →
    (m.units.length ≤ 1 → Goes (.outboxRetry true) s
      { s with cme := { s.cme with outbox := s.cme.outbox.erase m }, io := { s.io with mctp := m.units.take 1 } }) ∧
    (1 < m.units.length → Goes (.outboxRetry true) s { s with
      cme := { s.cme with outbox := s.cme.outbox.map (fun x => if x = m then
        { m with units := m.units.drop 1, tries := if 9 ≤ m.tries then 9 else 0, dueAt := s.now } else x) },
      io := { s.io with mctp := m.units.take 1 } }) ∧
    (m.tries < 8 → Goes (.outboxRetry false) s { s with cme := { s.cme with
      outbox := s.cme.outbox.map (fun x => if x = m then { m with tries := m.tries + 1, dueAt := s.now + retryWait (m.tries + 1) } else x) } }) ∧
    (m.tries = 8 → Goes (.outboxRetry false) s (s.holdMessage m)) ∧
    (8 < m.tries → Goes (.outboxRetry false) s { s with cme := { s.cme with
      outbox := s.cme.outbox.map (fun x => if x = m then { m with dueAt := s.now + 1000000 } else x) } })) ∧
  (∀ s fn i h f, 1 ≤ i → i ≤ 6 → s.flightFor h = some f → f.island = i → f.islandAt + 64 ≤ s.now →
    Ends (.islandCrossingTimeout fn i (some h)) h (err 0x0704 (le 1 i)) s (s.countTimeout (s.fnOf h.src) i)) ∧
  (∀ (s : State) fn i, (s.countTimeout fn i).cme.islandTimeouts = satAdd 32 s.cme.islandTimeouts 1) ∧
  (∀ (s : State) fn i a, 1 ≤ i → i ≤ 6 → s.lateAccess fn i = some a →
    Goes (.islandCrossingTimeout fn i none) s (s.endAccess a i) ∧
    (a.write = none → (s.endAccess a i).io.readData = some 0xFFFFFFFF) ∧ (a.write ≠ none → (s.endAccess a i).io = s.io))

/-- A receipt command that passes every check takes one snapshot, which takes one sequence number of its queue.
RECEIPT_SIGN and RECEIPT_BATCH that no check of Table 9-7 refuses take their snapshot with the digests they name,
read from the address or the inline data that the command gives; where no shared lane of Bellows is free for their
hashes (R205) they wait for one first. A snapshot on a queue raises the queue's next number by exactly 1 and leaves
the next number of every other queue. One that a check refuses ends with that check's status and is counted as
REFUSED, with no number taken. RECEIPT_KEYS ends with the six key entries and their length. Every 10 ms the
checkpoint takes the counts, the base, LAST_WALL, LAST_EPOCH and the PSD generation last computed or skipped to. -/
def Obligations.ReceiptsTakeTheirNumbers : Prop :=
  (∀ s h f g n o da a d q x, Ready s h (opReceiptSign.on (le 1 f ++ le 1 g ++ le 1 n ++ zeros 1 ++ le 4 o ++ le 8 da ++ le 8 a)) → f ≤ 2 → g ≤ 4 → digestLenOk n = true → s.readAddrOk h da n = true →
    s.writeAddrOk h a = true → q = (s.started h).queueOf h.src →
    x = { queue := q, format := if f = 0 then ((s.started h).receiptRec q).1 else f,
          alg := if g = 0 then ((s.started h).receiptRec q).2.1 else g, outAddr := a, digests := [fixLen n (s.inputOf h da n d)] } →
    ((s.started h).receiptRefusal x o = 0 → Goes (.receiptSign h f g n o da a d) s
      (if (s.started h).laneFor (s.stamp h) = true then (s.started h).snapshot (s.stamp h) x else (s.started h).waitLane (s.stamp h) .bellows)) ∧
    ((s.started h).receiptRefusal x o ≠ 0 →
      Ends (.receiptSign h f g n o da a d) h (err ((s.started h).receiptRefusal x o)) s ((s.started h).countRefused q))) ∧
  (∀ s h f g n k o la a d q x, Ready s h (opReceiptBatch.on (le 1 f ++ le 1 g ++ le 1 n ++ zeros 1 ++ le 2 k ++ zeros 2 ++ le 4 o ++ zeros 4 ++ le 8 la ++ le 8 a)) → (f = 0 ∨ f = 2) → g ≤ 4 → 1 ≤ k → k ≤ 256 → digestLenOk n = true →
    s.readAddrOk h la (n * k) = true → s.writeAddrOk h a = true → q = (s.started h).queueOf h.src →
    x = { queue := q, format := 2, alg := if g = 0 then ((s.started h).receiptRec q).2.1 else g, outAddr := a, isBatch := true,
          digests := (List.range k).map (fun i => slice (s.inputOf h la (n * k) d) (n * i) n) } →
    ((s.started h).receiptRefusal x o = 0 → Goes (.receiptBatch h f g n k o la a d) s
      (if (s.started h).laneFor (s.stamp h) = true then (s.started h).snapshot (s.stamp h) x else (s.started h).waitLane (s.stamp h) .bellows)) ∧
    ((s.started h).receiptRefusal x o ≠ 0 →
      Ends (.receiptBatch h f g n k o la a d) h (err ((s.started h).receiptRefusal x o)) s ((s.started h).countRefused q))) ∧
  (∀ (s : State) (h : Hdr) (x : Ask), x.queue < 4096 →
    ((s.snapshot h x).rfg.counts.get x.queue {}).nextSeq = (s.rfg.counts.get x.queue {}).nextSeq + 1 ∧
    (∀ q, q ≠ x.queue → ((s.snapshot h x).rfg.counts.get q {}).nextSeq = (s.rfg.counts.get q {}).nextSeq) ∧
    (s.snapshot h x).rfg.base = s.rfg.base) ∧
  (∀ s h a, Ready s h (opReceiptKeys.on (le 8 a)) → s.writeAddrOk h a = true →
    Reads (.receiptKeys h a) h (okOut a (s.started h).receiptKeys (le 4 (s.started h).receiptKeys.length)) s) ∧
  (∀ s : State, s.boot.forgeUp = true → s.rfg.checkpointAt + 10000 ≤ s.now → Goes .forgeCheckpoint s
    { s with rfg := { s.rfg with checkpointAt := s.now, checkpoint :=
      { counts := s.rfg.counts, base := s.rfg.base, lastWall := s.rfg.lastWall, lastEpoch := s.rfg.lastEpoch, psdGen := s.atr.gen + s.atr.skip } } })

/-- The metering commands end with OK, and periods close and are signed. METER_STATUS ends with its header and one
entry for each queue of its source. METER_RECORD of a closed and finished period that fits writes its record, with
FORGE_QUENCHED (0x0470) when it is an unsigned payload after a quench; of the open period it ends with 0x0481, of
one that is not held with 0x0480. METER_ACK raises the acknowledged mark to a closed period and never lowers it; of
a period not closed it ends with 0x0480. METER_CLOSE closes the open period and returns its number, and ends with
0x0481 when the ring has no room for it. At END_WALL the period closes. A close with room in the ring appends the
period's record and makes it the newest closed. The oldest closed record whose receipts have all ended is submitted
for signing, or kept unsigned after a quench. -/
def Obligations.MeteringComplete : Prop :=
  (∀ s h a qs, Ready s h (opMeterStatus.on (le 8 a)) → s.writeAddrOk h a = true → qs = (s.started h).meteredQueues h.src →
    Reads (.meterStatus h a) h (okOut a ((s.started h).meterHeader ++ qs.flatMap (fun q => (s.rfg.counts.get q {}).entry q)) (le 2 qs.length)) s) ∧
  (∀ s h p o a r, Ready s h (opMeterRecord.on (le 4 p ++ le 4 o ++ le 8 a)) → s.writeAddrOk h a = true → s.rfg.period.map Period.id ≠ some p →
    s.rfg.records.find? (fun r => r.id == p && !r.record.isEmpty) = some r → r.record.length ≤ o →
    (¬ (r.unsigned = true ∧ (s.started h).quenched = true) →
      Reads (.meterRecord h p o a) h (okOut a r.record (le 4 r.record.length)) s) ∧
    (r.unsigned = true → (s.started h).quenched = true →
      Reads (.meterRecord h p o a) h { okOut a r.record (le 4 r.record.length) with status := 0x0470 } s)) ∧
  (∀ s h p o a, Ready s h (opMeterRecord.on (le 4 p ++ le 4 o ++ le 8 a)) → s.writeAddrOk h a = true →
    (s.rfg.period.map Period.id = some p → Reads (.meterRecord h p o a) h (err 0x0481) s) ∧
    (s.rfg.period.map Period.id ≠ some p → s.rfg.records.find? (fun r => r.id == p && !r.record.isEmpty) = none →
      Reads (.meterRecord h p o a) h (err 0x0480) s)) ∧
  (∀ s h p, Ready s h (opMeterAck.on (le 4 p)) →
    (p ≤ s.rfg.newestClosed → ∃ t : State, Ends (.meterAck h p) h ok s t ∧
      t.rfg = { s.rfg with acked := max s.rfg.acked p, period := t.rfg.period } ∧ { t with rfg := s.rfg } = s.started h) ∧
    (s.rfg.newestClosed < p → Reads (.meterAck h p) h (err 0x0480) s)) ∧
  (∀ s h t, Ready s h opMeterClose → t = (s.started h).closePeriod 8 →
    (t.rfg.newestClosed ≠ s.rfg.newestClosed → Ends (.meterClose h) h (ok (le 4 t.rfg.newestClosed)) s t) ∧
    (t.rfg.newestClosed = s.rfg.newestClosed → Ends (.meterClose h) h (err 0x0481) s t)) ∧
  (∀ s p, s.rfg.period = some p → s.boot.forgeUp = true → s.emb.wallSet = true → p.anchored = true → p.endWall ≤ s.wall →
    Goes .periodBoundary s (s.closePeriod 0)) ∧
  (∀ (s : State) p f, s.rfg.period = some p → s.ringRoom (s.periodRec p f (f.testBit 3)) = true →
    (s.closePeriod f).rfg.newestClosed = p.id ∧
    (s.closePeriod f).rfg.records = s.rfg.records ++ [s.periodRec p f (f.testBit 3)]) ∧
  (∀ s r, s.rfg.records.find? (fun r => r.record.isEmpty) = some r → s.boot.forgeUp = true →
    s.receiptsOpen r.id = false → s.signingPeriod r.id = false →
    (s.quenched = true → Goes .periodRecordSign s (s.finishPeriod r.id)) ∧
    (s.cru.store.metering ≠ [] → s.quenched = false → s.hammerUnavailable = false → s.clusterDrbg = true →
      Goes .periodRecordSign s (s.submitOp { op := 0x02, cls := .system, req := .period r.id })))

/-- The attestation commands end with their data, and a recomputation makes the next generation. PSD_READ writes the
preimage of the last generation and returns its number and the first 16 bytes of its PSD. PSD_CHANGES below the
lowest generation whose records are held whole ends with 0x0490 and sets the loss flag; otherwise it writes the
records from FROM_GEN on, at most MAX and cut back to the last one with LAST set, and returns their number and the
next generation to ask for. CONFIG_DIGEST writes the current, staged or live CED with its preimage and live block
when the buffer holds them, and ends with 0x0370 when it does not; with nothing staged WHICH 1 ends with 0x0440.
IDENTITY_CERTS writes the certificates of a chain. IDENTITY_CERT_INSTALL outside OWNED ends with 0x0491, and in
OWNED fills or clears slot 1 with a chain that R350 lets in. A recomputation that is due makes a generation one
higher, past the 65,535 that a device start skips (R363), whose PSD is the SHA-384 of its preimage. The certificates
are built once, each signature on a lane of the Hammer array, and the DeviceID key is then gone; that the row makes
them at once is the model's choice (log entry 108). -/
def Obligations.AttestationCommandsComplete : Prop :=
  (∀ s h a, Ready s h (opPsdRead.on (le 8 a)) → s.writeAddrOk h a = true →
    Reads (.psdRead h a) h (okOut a s.atr.preimage (le 8 s.atr.gen ++ s.atr.psd.take 16)) s) ∧
  (∀ s h g n a l, Ready s h (opPsdChanges.on (le 8 g ++ le 2 n ++ zeros 6 ++ le 8 a)) → 1 ≤ n → n ≤ 4096 → s.writeAddrOk h a = true →
    l = cutToLast ((s.atr.history.filter (fun r => decide (g ≤ r.gen))).take n) →
    (g < s.atr.oldestGen → Ends (.psdChanges h g n a) h (err 0x0490) s { s.started h with atr := { s.atr with lostHit := true } }) ∧
    (s.atr.oldestGen ≤ g → Reads (.psdChanges h g n a) h
      (okOut a (l.flatMap PsdChange.bytes) (le 2 l.length ++ zeros 6 ++ le 8 ((l.getLast?.map (fun r => r.gen + 1)).getD g))) s)) ∧
  (∀ s h w n a (i : Image) live pre, Ready s h (opConfigDigest.on (le 1 w ++ zeros 3 ++ le 4 n ++ le 8 a)) → w < 3 → s.writeAddrOk h a = true →
    (w = 1 → s.staged = some i) →
    live = (if w = 0 then s.atr.live else if w = 1 then (s.started h).liveBlockWith i.cap (fld (i.sec 0x40) 1 1) else (s.started h).liveBlock) →
    pre = (if w = 0 then s.atr.cedPre else if w = 1 then cedHead (some i) (s.pol.epoch + 1) ++ sha384 live
      else cedHead (s.started h).image s.pol.epoch ++ sha384 live) →
    ((sha384 pre ++ pre ++ live).length ≤ n → Reads (.configDigest h w n a) h
      (okOut a (sha384 pre ++ pre ++ live) (le 4 (sha384 pre ++ pre ++ live).length)) s) ∧
    (n < (sha384 pre ++ pre ++ live).length → Reads (.configDigest h w n a) h (err 0x0370) s)) ∧
  (∀ s h n a, Ready s h (opConfigDigest.on (le 1 1 ++ zeros 3 ++ le 4 n ++ le 8 a)) → s.writeAddrOk h a = true → s.staged = none →
    Reads (.configDigest h 1 n a) h (err 0x0440) s) ∧
  (∀ s h w n a (cs : List Bytes) out, Ready s h (opIdentityCerts.on (le 1 w ++ zeros 3 ++ le 4 n ++ le 8 a)) → w < 3 → s.writeAddrOk h a = true →
    cs = (if w = 2 then s.atr.leafCerts else (s.started h).slotCerts w).filter (fun c => !c.isEmpty) →
    out = cs.flatMap (fun c => le 2 c.length ++ c) →
    (out.length ≤ n → Reads (.identityCerts h w n a) h (okOut a out (le 4 out.length ++ le 1 cs.length)) s) ∧
    (n < out.length → Reads (.identityCerts h w n a) h (err 0x0370) s)) ∧
  (∀ s h n a d, Ready s h (opIdentityCertInstall.on (le 4 n ++ zeros 4 ++ le 8 a)) → n ≤ 4096 → (n = 0 ∨ s.readAddrOk h a n = true) →
    (s.cru.lcState ≠ 4 → Reads (.identityCertInstall h n a d) h (err 0x0491) s) ∧
    (s.cru.lcState = 4 → n ≠ 0 → (s.started h).ownerChain (fixLen n (s.inputOf h a n d)) = none → Reads (.identityCertInstall h n a d) h (err 0x0570) s) ∧
    (∀ cs, s.cru.lcState = 4 → (if n = 0 then some [] else (s.started h).ownerChain (fixLen n (s.inputOf h a n d))) = some cs →
      Ends (.identityCertInstall h n a d) h ok s
        (({ s.started h with atr := { s.atr with slot1 := cs } } : State).log .control 0x0501 2 0 0))) ∧
  (∀ s : State, s.boot.forgeUp = true → Goes .psdRecomputation s s.recompute) ∧
  (∀ s : State, s.psdPending = true → s.recompute.atr.gen = s.atr.gen + 1 + s.atr.skip ∧ s.recompute.atr.skip = 0 ∧
    s.recompute.atr.preimage = s.psdPreimage (s.atr.gen + 1 + s.atr.skip) ∧ s.recompute.atr.psd = sha384 s.recompute.atr.preimage ∧
    s.recompute.atr.history.length ≤ 4096) ∧
  (∀ (s t u v : State) k, s.boot.reached = true → s.boot.controlUp = true → s.atr.certsReady = false → s.deviceIdSigns s.attBody = true →
    s.hammerUnavailable = false → s.clusterDrbg = true → s.tryOwn.signRun (1 + s.leafBodies.length) k = (true, t) →
    u = { t.drawn with cru := { t.cru with store := { t.cru.store with deviceId := [] } } } →
    v = { u.drawn with atr := { u.atr with
      attCert := certificate t.attBody t.cru.store.deviceId t.draws,
      leafCerts := u.leafBodies.map (fun b => certificate b t.cru.store.attKey u.draws),
      certsReady := true } } →
    Goes (.certificateBuild k) s (s.ownDone (if v.quenched then v.eraseSigningKeys else v)))

/-- Each MCTP control command is answered on its binding. While the Control Region runs, on each binding of Table
10-3: SET_ENDPOINT_ID with operation 0 or 1 and an identifier from 1 to 254 assigns it, and GET_ENDPOINT_ID returns
the binding's; GET_ENDPOINT_UUID returns the device name as a version 8 UUID; GET_MCTP_VERSION_SUPPORT of a
supported type returns its versions and of another 0x80; GET_MESSAGE_TYPE_SUPPORT lists the four types of R351; any
other command is answered with ERROR_UNSUPPORTED_CMD (0x05). No more than the identifier and the answer changes. The
layouts are DSP0236's (log entry 27). -/
def Obligations.ControlMessagesAreAnswered : Prop :=
  ∀ (s : State) (b : Nat), s.boot.controlUp = true → b < 5 →
    (∀ op e, op ≤ 1 → e ≠ 0 → e < 255 → Goes (.setEndpointId b op e) s
      (({ s with atr := { s.atr with eids := s.atr.eids.set b e } } : State).control b [0, 0, byte e, 0])) ∧
    Goes (.getEndpointId b) s (s.control b [0, byte (s.eid b), 0, 0]) ∧
    Goes (.getEndpointUuid b) s (s.control b (0 :: uuid8 s.deviceName)) ∧
    (∀ m, m ∈ mctpTypes → Goes (.getMctpVersionSupport b m) s
      (s.control b (0 :: byte ((Config.mctpVersions m).length / 4) :: Config.mctpVersions m))) ∧
    (∀ m, m ∉ mctpTypes → m ≠ 0xFF → Goes (.getMctpVersionSupport b m) s (s.control b [0x80])) ∧
    Goes (.getMessageTypeSupport b) s (s.control b [0, 4, 0, 1, 5, 6]) ∧
    (∀ c, Goes (.mctpUnsupportedCmd b c) s (s.control b [5]))

/-- Each SPDM request of Table 10-4 is answered in its turn and with its fields. GET_VERSION starts a peer's
connection, in the 16 the responder holds. GET_CAPABILITIES and NEGOTIATE_ALGORITHMS move it on by one stage, at a
common version and with the algorithms of Table 10-5. On a connected peer outside a session: GET_DIGESTS and
GET_CERTIFICATE answer from the built certificates, a part of at most 1,024 bytes each; an unsigned GET_MEASUREMENTS
of operation 0 answers the number of blocks; CHALLENGE answers with a signature made on the Hammer array, and
KEY_EXCHANGE with a point on the curve, with room and with the array adds a session that is not yet established; a
signed answer that cannot be made yet is ResponseNotReady. In an established session HEARTBEAT and KEY_UPDATE answer
and END_SESSION ends it; FINISH with the right verification data establishes it. Any other request is answered
UnsupportedRequest, and a session idle for 120 s ends. An operation of the responder takes the first idle lane while
fewer than two run SYSTEM work. The layouts are DSP0274's (log entry 27). -/
def Obligations.RequestsAreAnswered : Prop :=
  (∀ (s t : State) p r rsp, s.mctpUp p.binding = true → p.session = none → reqVersion r = 0x10 → s.connRoom p = some t →
    rsp = ([0x10, 0x04, 0, 0, 0, 3] ++ le 2 0x1100 ++ le 2 0x1200 ++ le 2 0x1300 : Bytes) →
    Goes (.getVersion p r) s (({ t with atr := { t.atr with connections := t.atr.connections ++
      [{ binding := p.binding, eid := p.eid, lastUsed := s.now, transcript := r ++ rsp }] } } : State).clear p rsp)) ∧
  (∀ s p r c rsp, s.mctpUp p.binding = true → p.session = none → s.connOf p = some c → c.stage = 0 → c.version = 0 →
    (reqVersion r = 0x11 ∨ reqVersion r = 0x12 ∨ reqVersion r = 0x13) →
    rsp = ([byte (reqVersion r), 0x61, 0, 0, 0, 14, 0, 0] ++ le 4 (capFlags (reqVersion r)) ++
      (if 0x12 ≤ reqVersion r then le 4 4096 ++ le 4 4096 else []) : Bytes) →
    Goes (.getCapabilities p r) s ((s.updConn p (fun c =>
      { c with stage := 1, version := reqVersion r, lastUsed := s.now, transcript := c.transcript ++ r ++ rsp })).clear p rsp)) ∧
  (∀ s p r c rsp, s.mctpUp p.binding = true → p.session = none → s.connOf p = some c → c.stage = 1 → reqVersion r = c.version →
    algsOffered r c.replyVersion = true →
    rsp = ([byte c.replyVersion, 0x63, 3, 0] ++ le 2 48 ++ [1, if 0x12 ≤ c.replyVersion then 2 else 0] ++ le 4 4 ++ le 4 128 ++ le 4 2 ++
      zeros 16 ++ [2, 0x20] ++ le 2 16 ++ [3, 0x20] ++ le 2 2 ++ [5, 0x20] ++ le 2 1 : Bytes) →
    Goes (.negotiateAlgorithms p r) s ((s.updConn p (fun c =>
      { c with stage := 2, lastUsed := s.now, transcript := c.transcript ++ r ++ rsp })).clear p rsp)) ∧
  (∀ s p r c v, s.mctpUp p.binding = true → p.session = none → s.connOf p = some c → c.stage = 2 → reqVersion r = c.version →
    v = c.replyVersion →
    (∀ rsp, s.atr.certsReady = true → rsp = [byte v, 0x01, if v = 0x13 then 3 else 0, byte s.slotMask] ++ sha384 (s.certChain 0) ++
        (if s.slotMask = 3 then sha384 (s.certChain 1) else []) →
      Goes (.getDigests p r) s ((s.updConn p (fun c =>
        { c with lastUsed := s.now, certMsgs := c.certMsgs ++ r ++ rsp })).respond p rsp)) ∧
    (∀ k left part rsp, s.atr.certsReady = true → k = fld r 2 1 % 16 → s.slotMask.testBit k = true → fld r 4 2 < (s.certChain k).length →
      left = (s.certChain k).drop (fld r 4 2) → part = left.take (min 1024 (fld r 6 2)) →
      rsp = [byte v, 0x02, byte k, 0] ++ le 2 part.length ++ le 2 (left.length - part.length) ++ part →
      Goes (.getCertificate p r) s ((s.updConn p (fun c =>
        { c with lastUsed := s.now, certMsgs := c.certMsgs ++ r ++ rsp })).respond p rsp)) ∧
    (s.atr.certsReady = false → Goes (.getDigests p r) s (s.notReady p v 0x81)) ∧
    (∀ l rsp, (fld r 2 1).testBit 0 = false → fld r 3 1 = 0 →
      rsp = [byte v, 0x60, byte s.blocksPresent.length, 0, 0] ++ le 3 0 ++ s.random 32 ++ [0, 0] ++ reqContext v r 4 →
      Goes (.getMeasurements p r l) s (s.ownDone
        ((s.tryOwn.drawn.updConn p (fun y => { y with lastUsed := s.now, measMsgs := c.measMsgs ++ r ++ rsp })).respond p rsp))) ∧
    (∀ l, (fld r 2 1).testBit 0 = true → s.noSigning = true → fld r 3 1 = 0 → s.slotMask.testBit (fld r 36 1 % 16) = true →
      Goes (.getMeasurements p r l) s (s.ownDone (s.tryOwn.spdmError p v 0x05))) ∧
    (∀ l, (fld r 2 1).testBit 0 = true → s.noSigning = false → s.signsLater = true → fld r 3 1 = 0 → s.slotMask.testBit (fld r 36 1 % 16) = true →
      Goes (.getMeasurements p r l) s (s.ownDone (s.tryOwn.notReady p v 0xE0))) ∧
    (∀ l (u : State) sum k head sig, s.noSigning = false → s.signsLater = false → s.summary (fld r 3 1) = some sum → k = fld r 2 1 % 16 →
      s.slotMask.testBit k = true → s.tryOwn.spdmOp 0x02 l = (true, u) →
      head = [byte v, 0x03, byte k, byte u.slotMask] ++ sha384 (u.certChain k) ++ u.random 32 ++ sum ++ [0, 0] ++ reqContext v r 36 →
      sig = u.drawn.spdmSign v "responder-challenge_auth signing" (c.transcript ++ c.certMsgs ++ r ++ head) →
      Goes (.challenge p r l) s (s.ownDone ((u.drawn.drawn.updConn p (fun c =>
        { c with lastUsed := u.now, certMsgs := [], measMsgs := [] })).respond p (head ++ sig)))) ∧
    (∀ l sum, s.noSigning = false → s.signsLater = false → s.summary (fld r 2 1) = some sum →
      s.slotMask.testBit (fld r 3 1 % 16) = true →
      (pointOk p384 48 (0x04 :: slice r 40 96) = false → Goes (.keyExchange p r l) s (s.ownDone (s.tryOwn.spdmError p v 0x01))) ∧
      (pointOk p384 48 (0x04 :: slice r 40 96) = true → 8 ≤ s.atr.sessions.length →
        Goes (.keyExchange p r l) s (s.ownDone (({ s.tryOwn with atr := { s.atr with limitHit := true } } : State).spdmError p v 0x0A))) ∧
      (∀ w : State, pointOk p384 48 (0x04 :: slice r 40 96) = true → s.atr.sessions.length < 8 → s.tryOwn.keyOps l = (true, w) →
        w.waitsLane = false →
        ∃ (t : State) (x : SpdmSession), Goes (.keyExchange p r l) s t ∧ t.atr.sessions = w.atr.sessions ++ [x] ∧
          x.id = fld r 4 2 + 65536 * w.atr.nextSession ∧ x.established = false ∧ x.lastMsg = w.now ∧ x.binding = p.binding ∧ x.eid = p.eid))) ∧
  (∀ (s : State) op n, s.systemFull = false → s.ownLane [] = some n →
    s.spdmOp op 0 = (true, (s.beginWork n op []).tookLanes.updLane n Lane.good)) ∧
  (∀ s p r c n x, s.mctpUp p.binding = true → p.session = some n → s.connOf p = some c → c.stage = 2 →
    reqVersion r = c.version → s.sessOf p = some x →
    (x.established = true →
      Goes (.heartbeat p r) s (s.respond p [byte c.replyVersion, 0x68, 0, 0]) ∧
      (1 ≤ fld r 2 1 → fld r 2 1 ≤ 3 → Goes (.keyUpdate p r) s
        ((s.updSess n (fun y => { y with
          updates := y.updates + (if fld r 2 1 ≤ 2 then 1 else 0),
          rspUpdates := y.rspUpdates + (if fld r 2 1 = 2 then 1 else 0) })).respond p
          [byte c.replyVersion, 0x69, byte (fld r 2 1), byte (fld r 3 1)])) ∧
      Goes (.endSession p r) s ((s.respond p [byte c.replyVersion, 0x6C, 0, 0]).endSession n)) ∧
    (x.established = false → (fld r 2 1).testBit 0 = false →
      slice r 4 48 = verifyData x.secret "requester" (x.transcript ++ r.take 4) →
      Goes (.finish p r) s ((s.respond p [byte c.replyVersion, 0x65, 0, 0]).updSess x.id (fun y => { y with established := true })))) ∧
  (∀ s p r, s.mctpUp p.binding = true → p.session = none → s.connOf p = none →
    Goes (.spdmUnsupportedRequest p r) s (s.spdmError p 0x10 0x07 (fld r 1 1))) ∧
  (∀ s x, x ∈ s.atr.sessions → x.lastMsg + 120000000 ≤ s.now →
    Goes (.spdmSessionIdleTimeout x.id) s { s with atr := { s.atr with sessions := s.atr.sessions.filter (fun y => y.id != x.id) } })

/-- The recovery and cartridge commands end with the data and the state that are given for each. RECOVER_STATUS
writes 256 bytes a journal record that is not FREE. RECOVER_STAGE from an admitted transport, for an operation in
SEARCH or waiting for a source, makes the operation wait for its port when the manifest passes R382, and else ends
with the check's status; in a later phase it ends with 0x04A1. RECOVER_DATA's blocks are taken, or the command waits
in the operation's line. RECOVER_FULL starts a FULL recovery of a RELEASED or HELD slot, and of a RECOVERING one
ends with 0x0421. RECOVER_ABORT stops the slot's operations and quarantines a RECOVERING slot, and with no operation
ends with 0x04A0. RECOVER_ARB_ADVANCE advances ARB3. CART_STATUS writes 64 bytes a cartridge slot, CART_CATALOGUE
the raw catalogue, CART_LIFE 4,096 bytes. CART_EJECT of a present cartridge that is not in use powers it off and
answers the rescans that wait. CART_RESCAN of one power-cycles it and waits for its identification. An empty
cartridge slot answers 0x04A2 and one in use 0x04A3. -/
def Obligations.RecoveryCommandsComplete : Prop :=
  (∀ s h a l, Ready s h (opRecoverStatus.on (le 8 a)) → s.writeAddrOk h a = true →
    l = (List.range 32).filter (fun d => (s.journal d).state != .free) →
    Reads (.recoverStatus h a) h (okOut a (l.flatMap (fun d => (s.journal d).head)) (le 1 l.length)) s) ∧
  (∀ j : Journal, j.head.length = 256) ∧
  (∀ s h d k n a b v o op r, op = (if k = 1 then { opRecoverStage with version := 0x12 } else opRecoverStage).on
      (le 1 d ++ le 1 k ++ zeros 2 ++ le 4 n ++ le 8 a) → Ready s h op → k ≤ 1 → (k = 0 → ∃ q, h.src = .pcie q) → d < 32 → 0 < n →
    s.readAddrOk h a n = true → s.rfuOp d = some o → s.transportOk h.src o.slot = true →
    r = (s.started h).tryOwn.stageManifest d o.slot (if k = 1 then 2 else 1) a ((s.inputOf h a n b).take n) v →
    ((o.phase = .search ∨ o.phase = .waitSource) → r.2.waitsLane = false →
      Ends (.recoverStage h d k n a b v) h r.1 s ((s.started h).ownDone r.2)) ∧
    (o.phase ≠ .search → o.phase ≠ .waitSource → o.phase ≠ .idle → Reads (.recoverStage h d k n a b v) h (err 0x04A1) s)) ∧
  (∀ (s t : State) d n w a b v st,
    (∀ x o, s.judgeManifest n d b v = ((st, some x), t) → (t.chooseSource d w 0 (a + dataOffset x.len) x).rfuOp d = some o →
      (s.stageManifest d n w a b v).1.status = 0 ∧
      (s.stageManifest d n w a b v).2 = (t.chooseSource d w 0 (a + dataOffset x.len) x).settleAll) ∧
    (s.judgeManifest n d b v = ((st, none), t) → s.stageManifest d n w a b v = (err st, t.skipSource d st))) ∧
  (∀ s h d f n a b o m, Ready s h (opRecoverData.on (le 1 d ++ zeros 1 ++ le 2 f ++ le 2 n ++ zeros 2 ++ le 8 a)) → d < 32 → 0 < n → n ≤ 64 → s.readAddrOk h a (65536 * n) = true → s.rfuOp d = some o →
    o.manifest = some m → o.source = 2 → (o.phase = .waitPort ∨ o.phase = .write) → (s.storedFrom d m f n).length = n →
    (∀ r t, o.dataWait = [] → (s.started h).offerBlocks d m { hdr := s.stamp h, first := f, count := n, data := s.inputOf h a (65536 * n) b } = (some r, t) →
      Ends (.recoverData h d f n a b) h r s t.settleAll) ∧
    (o.dataWait ≠ [] → Goes (.recoverData h d f n a b) s ((s.started h).updOp d (fun o => { o with
      dataWait := o.dataWait ++ [{ hdr := s.stamp h, first := f, count := n, data := s.inputOf h a (65536 * n) b }] })))) ∧
  (∀ s h n, Ready s h (opRecoverFull.on (le 1 n)) →
    ((s.slot n).state = .held → (s.started h).slotIsolated n = true → Reads (.recoverFull h n) h (err 0x0421) s) ∧
    ((s.started h).slotCommand n [.released, .held] = 0 → (s.slot n).state ≠ .recovering →
      ¬ ((s.slot n).state = .held ∧ (s.started h).slotIsolated n = true) → Ends (.recoverFull h n) h ok s ((s.started h).recoverSlot n .command true).settleAll) ∧
    ((s.slot n).state = .recovering → Ends (.recoverFull h n) h (err 0x0421) s ((s.started h).logSuperseded n .command))) ∧
  (∀ s h n, Ready s h (opRecoverAbort.on (le 1 n)) →
    ((∀ o ∈ s.rfu.ops, o.slot ≠ n) → Reads (.recoverAbort h n) h (err 0x04A0) s) ∧
    (∀ o, o ∈ s.rfu.ops → o.slot = n → (((s.started h).stopOps n true).slot n).state = .recovering →
      Ends (.recoverAbort h n) h ok s (((s.started h).stopOps n true).quarantine n .recoveryFailed).settleAll) ∧
    (∀ o, o ∈ s.rfu.ops → o.slot = n → (((s.started h).stopOps n true).slot n).state ≠ .recovering →
      Ends (.recoverAbort h n) h ok s ((s.started h).stopOps n true).settleAll)) ∧
  (∀ s h v, Ready s h (opRecoverArbAdvance.on (le 1 v)) → v ≤ 128 → Ends (.recoverArbAdvance h v) h ok s ((s.started h).advanceArb 3 v)) ∧
  (∀ s h a, Ready s h (opCartStatus.on (le 8 a)) → s.writeAddrOk h a = true →
    Reads (.cartStatus h a) h (okOut a ((List.range 4).flatMap (fun k => le 4 ((s.started h).cartWord k) ++
      le 2 (if (s.cart k).usable then 0x10 + k else 0) ++ zeros 2 ++ fixLen 16 (s.cart k).cid ++ le 4 (s.cart k).rpmb ++
      le 4 (s.cart k).capacity ++ le 1 (s.cart k).entries.length ++ zeros 31))) s) ∧
  (∀ s h k n a, Ready s h (opCartCatalogue.on (le 1 k ++ zeros 3 ++ le 4 n ++ le 8 a)) → k < 4 → s.writeAddrOk h a = true → (s.cart k).raw.length ≤ n →
    ((s.cart k).present = true →
      Reads (.cartCatalogue h k n a) h (okOut a (s.cart k).raw (le 4 (s.cart k).raw.length)) s) ∧
    ((s.cart k).present = false → Reads (.cartCatalogue h k n a) h (err 0x04A2) s)) ∧
  (∀ s h a, Ready s h (opCartLife.on (le 8 a)) → s.writeAddrOk h a = true →
    Reads (.cartLife h a) h (okOut a (fixLen 4096 (s.cby.lifeTable.flatMap LifeEntry.bytes)) (le 1 s.cby.lifeTable.length)) s) ∧
  (∀ s h k, Ready s h (opCartEject.on (le 1 k)) → k < 4 →
    ((s.cart k).present = false → Reads (.cartEject h k) h (err 0x04A2) s) ∧
    ((s.cart k).present = true → s.cartInUse k = true → Reads (.cartEject h k) h (err 0x04A3) s) ∧
    ((s.cart k).present = true → s.cartInUse k = false → Ends (.cartEject h k) h ok s
      ((((s.started h).updCart k (fun x =>
        { x with state := .ejected, powered := false, reacquire := none, catalogue := 0, entries := [], raw := [] })).answerCart k (ok (le 1 6))).startIdentify))) ∧
  (∀ s h k, Ready s h (opCartRescan.on (le 1 k)) → k < 4 →
    ((s.cart k).present = false → Reads (.cartRescan h k) h (err 0x04A2) s) ∧
    ((s.cart k).present = true → s.cartInUse k = false → Goes (.cartRescan h k) s
      (((s.started h).updCart k (fun x => { x with waiters := x.waiters ++ [s.stamp h], reidentified := false })).cycleCart k)))

/-- The events of recovery take the step their rules give when they are due. A position grant lets the operation
whose turn it is begin when a position is free, and lets one in SEARCH look again. The wait for a source fails the
operation when it is over, and after the wait for a cartridge any source serves. A block read, from its address in a
cartridge that answers or in host memory, that matches its leaf is staged where the stream has a Bellows lane; one
that does not is read once more, and a second failure abandons the source. The done-mark of a written block is set,
and its data are dropped. A status byte is taken for what the port is doing: one with write-in-progress clear, after
the recovery time, confirms a software reset; where the decoders disagree on the read, R132 acts. -/
def Obligations.RecoveryEventsComplete : Prop :=
  (∀ s d o ms v, s.rfuOp d = some o → s.boot.controlUp = true →
    (o.phase = .search → Goes (.operationPositionGrant d ms v) s (s.ownDone (s.tryOwn.search d ms v).settleAll)) ∧
    (∀ x p, o.phase = .idle → s.nextOp = some x → x.device = d → s.freePosition = some p →
      Goes (.operationPositionGrant d ms v) s (s.ownDone (s.tryOwn.beginOp d p ms v).settleAll))) ∧
  (∀ s d o, s.rfuOp d = some o → s.boot.controlUp = true →
    (o.phase = .waitSource → o.waitSince + s.sourceWait ≤ s.now → Goes (.sourceWaitTimeout d) s (s.failOp d).settleAll) ∧
    (o.phase = .search → o.wantDigest ≠ [] → o.anySource = false → o.waitSince + s.cartWait ≤ s.now →
      Goes (.cartridgeWaitTimeout d) s (s.updOp d (fun o => { o with anySource := true, waitSince := 0 })))) ∧
  (∀ (s t u : State) d o m i b x, s.rfuOp d = some o → o.manifest = some m → s.boot.controlUp = true →
    (o.phase = .waitPort ∨ o.phase = .write) → o.source ≠ 2 → (o.source = 0 → (s.cart o.cartSlot).answers = true) → o.stopping = false →
    i ∈ s.toStage o → s.stageRoom ≠ 0 → s.streamLane d ≠ none →
    u = { s with io := { s.io with stagedFrom := some (if o.source = 0 then o.cartSlot else 4, o.blockAddr m i) } } →
    t = (if o.source = 0 then u.useCart o.cartSlot b.length else u) →
    (b.length = 65536 → leafOf b = m.leafAt i → Goes (.blockStaged d i b x) s ((t.stage d i b).settleCut x)) ∧
    (¬ (b.length = 65536 ∧ leafOf b = m.leafAt i) → o.reread = some i → Goes (.blockStaged d i b x) s (t.abandonSource d).settleAll) ∧
    (¬ (b.length = 65536 ∧ leafOf b = m.leafAt i) → o.reread ≠ some i →
      Goes (.blockStaged d i b x) s (t.updOp d (fun o => { o with reread := some i })).settleAll)) ∧
  (∀ (s t u : State) d o i x, s.rfuOp d = some o → o.writing = some i → o.blockDone = true → s.boot.controlUp = true →
    t = s.updJournal d (fun j => { j with done := j.set.filter (fun x => j.done.contains x || x == i), doneCount := j.doneCount + 1 }) →
    u = ({ t with rfu := { t.rfu with blocksWritten := satAdd 32 t.rfu.blocksWritten 1 } } : State).updOp d
      (fun o => { o with writing := none, pages := 0, blockDone := false, staged := o.staged.filter (fun x => x.block != i) }) →
    Goes (.blockDoneMark d x) s ((if o.stopping then u.endOp d .aborted else u).settleCut x)) ∧
  (∀ s d v, d < 32 → s.boot.guardUp = true → Goes (.flashStatusPoll d v false) s (s.pollStatus d v).settleAll ∧
    Goes (.flashStatusPoll d v true) s (s.ownDisagreement (d / 2) ((s.port (d / 2)).bank.opcodeOf 17)).settleAll) ∧
  (∀ (s : State) d v, (s.shadow d).confirm = true → (s.shadow d).confirmFrom ≤ s.now → statusValid v = true → s.wip (d / 2) v = false →
    s.pollStatus d v = (s.readStatus d (s.port (d / 2)).bank.resetIface).updShadow d (fun x => { x with confirm := false }))

/-- The events of the Cartridge Bay take the step their rules give when they are due. Insertion marks the slot
present and starts an identification when none runs. A cartridge that is not ready 1 s after its power-up fails, one
that is ready is identified or fails, and another poll leaves it waiting. A good transfer clears the retries, a bad
one is retried at most three times, then counted once and a read error of the operation that read. A removal clears
the slot and ends the rescans that wait with 0x04A2. A cartridge idle for 2 s goes to sleep; a wake that succeeds
with the recorded CID makes it ready, another CID is a removal and an insertion, and a first miss opens the
re-acquisition window. The life bytes are read once every 86,400 OpSeconds. -/
def Obligations.CartridgeEventsComplete : Prop :=
  ∀ (s : State) (k : Nat), k < 4 → s.boot.pwrOk = true →
    (∀ t, (s.cart k).present = false → t = s.updCart k (fun x => { x with present := true, detLow := true, detSince := s.now }) →
      Goes (.cartridgeInsertion k) s ({ t with cby := { t.cby with insertedHit := true } } : State).startIdentify) ∧
    ((s.cart k).state = .identifying → (s.cart k).ocrSince ≤ s.now →
      ((s.cart k).lastPoll < (s.cart k).ocrSince ∨ (s.cart k).lastPoll + 10000 ≤ s.now) →
      (∀ i v, s.identGood i = true → Goes (.ocrPoll k true i v) s (s.ownDone (s.tryOwn.useD0.drawn.identified k i v).settleAll)) ∧
      (∀ i v, s.identGood i = false → Goes (.ocrPoll k true i v) s (s.ownDone (s.tryOwn.useD0.drawn.cartFailed k).settleAll)) ∧
      (∀ i v, (s.cart k).ocrSince + 1000000 ≤ s.now → Goes (.ocrPoll k false i v) s (s.cartFailed k).settleAll) ∧
      (∀ i v t, s.now < (s.cart k).ocrSince + 1000000 → t = s.updCart k (fun x => { x with lastPoll := s.now }) →
        Goes (.ocrPoll k false i v) s { t with cby := { t.cby with clockMhz := 0 } })) ∧
    ((s.cart k).usable = true →
      Goes (.cartridgeTransferDone k true) s (s.updCart k (fun x => { x with retries := 0, lastUsed := s.now })) ∧
      ((s.cart k).retries < 3 → Goes (.cartridgeTransferDone k false) s
        (s.updCart k (fun x => { x with retries := x.retries + 1, lastUsed := s.now }))) ∧
      (∀ t u : State, 3 ≤ (s.cart k).retries → t = s.updCart k (fun x => { x with retries := 0, lastUsed := s.now }) →
        u = ({ t with cby := { t.cby with errorHit := true, crcErrors := satAdd 32 t.cby.crcErrors 1 } } : State).updLife (s.cart k).cid
          (fun e => { e with crcErrors := satAdd 16 e.crcErrors 1 }) →
        (u.reader k = none → Goes (.cartridgeTransferDone k false) s u) ∧
        (∀ d i, u.reader k = some (d, i) → Goes (.cartridgeTransferDone k false) s (u.readError d i).settleAll)) ∧
      Goes (.cartridgeReacquire k true (s.cart k).cid) s
        ((s.useCart k 0).updCart k (fun x => { x with reacquire := none, reidentified := false, checked := true })) ∧
      (∀ c t, c ≠ (s.cart k).cid → t = (s.removeCart k).updCart k (fun x => { x with present := true, detLow := true, detSince := s.now }) →
        Goes (.cartridgeReacquire k true c) s ({ t with cby := { t.cby with insertedHit := true } } : State).startIdentify.settleAll) ∧
      (∀ c, (s.cart k).reacquire = none → Goes (.cartridgeReacquire k false c) s (s.updCart k (fun x => { x with reacquire := some s.now }))) ∧
      (∀ p a b, (s.cart k).answers = true → (s.cart k).lastLifeRead + 86400 ≤ s.emb.opSeconds →
        Goes (.cartridgeLifeRead k p a b) s ((s.useCart k 0).readLife k p a b))) ∧
    ((s.cart k).present = true →
      Goes (.cartridgeRemoval k) s ((s.removeCart k).answerCart k (err 0x04A2)).startIdentify.settleAll) ∧
    ((s.cart k).state = .ready → (s.cart k).lastUsed + 2000000 ≤ s.now →
      Goes (.cartridgeSleep k) s (s.updCart k (fun x => { x with state := .asleep, reacquire := none, checked := false })))

/-- ARB0 to ARB3 read one more than their highest blown position, and an advance makes them read its target. For
each counter c: with no position blown it reads 0; with p the highest blown position it reads p + 1; so a position
at or above its value is never blown, and it reads at most 128. An advance to a version v of at most 128 leaves it
at the larger of v and its value before, and leaves every OTP word outside its two as it was. The first stage's
completion leaves the value and blows every position below it. -/
def Obligations.CountersReadTheirHighestPosition : Prop :=
  ∀ (s : State) (c : Nat), c < 4 →
    ((∀ p, p < 128 → (s.otpWord (96 + 2 * c + p / 64)).testBit (p % 64) = false) → s.arb c = 0) ∧
    (∀ p, p < 128 → (s.otpWord (96 + 2 * c + p / 64)).testBit (p % 64) = true →
      (∀ q, p < q → q < 128 → (s.otpWord (96 + 2 * c + q / 64)).testBit (q % 64) = false) → s.arb c = p + 1) ∧
    s.arb c ≤ 128 ∧
    (∀ v, v ≤ 128 → (s.advanceArb c v).arb c = max v (s.arb c)) ∧
    (∀ v w, w ≠ 96 + 2 * c → w ≠ 97 + 2 * c → (s.advanceArb c v).otpWord w = s.otpWord w) ∧
    (s.fillCounter (96 + 2 * c) 128).arb c = s.arb c ∧
    (∀ p, p < s.arb c → ((s.fillCounter (96 + 2 * c) 128).otpWord (96 + 2 * c + p / 64)).testBit (p % 64) = true)

/-- The life-cycle, key and debug commands end with the data and the state that are given for each. LC_STATUS
returns the status word, the debug word and the four counters. CRU_CHALLENGE returns a nonce of 32 bytes with its
expiry 600 s on, which becomes the purpose's outstanding challenge; with D0 stopped it ends with 0x0593. A
statement's signatures need lanes, and these rows are carried out once they are free. LC_TRANSITION with no refusal
of R417, a statement that passes and a free record blows the target into the record and its codeword into the three
copies, sets the hit bit and begins the 100 ms before the restart, in which submissions still come (log entry 131);
a refusal, or a statement that fails, ends it with its status. OWNER_KEYS_READ writes the table. OWNER_KEY_CHANGE
with a statement that passes writes the changed table, or ends with the status of R428 to R430. DEBUG_GRANT sets the
level and DEBUG_GRANTED, erases the signing keys from level 4 on, and while a grant is in force ends with 0x04B5.
DEBUG_END ends a grant, which brings no erased key back. RNG_READ writes its bytes; OTP_READ writes 8 bytes a word,
zeros for the words it may not read. A challenge is gone at its expiry. A factory transition over JTAG in FULL debug
blows the same. -/
def Obligations.LifeCycleCommandsComplete : Prop :=
  (∀ s h, Ready s h opLcStatus → Reads (.lcStatus h) h
    (ok (le 4 s.lcStatusWord ++ le 4 s.debugWord ++ le 1 (s.arb 0) ++ le 1 (s.arb 1) ++ le 1 (s.arb 2) ++ le 1 (s.arb 3))) s) ∧
  (∀ s h p (t : State), Ready s h (opCruChallenge.on (le 1 p)) → 1 ≤ p → p ≤ 8 → t = (s.started h).useD0.drawn →
    (s.cru.d0.generating = true → Ends (.cruChallenge h p) h (ok (s.random 32 ++ le 8 (s.now + 600000000))) s
      { t with cru := { t.cru with challenges := t.cru.challenges.set p {} { nonce := s.random 32, expires := s.now + 600000000 } } }) ∧
    (s.cru.d0.generating = false → Reads (.cruChallenge h p) h (err 0x0593) s)) ∧
  (∀ s h g n a d v, Ready s h (opLcTransition.on (le 1 g ++ zeros 3 ++ le 4 n ++ le 8 a)) → s.readAddrOk h a n = true →
    (∀ x (t u w : State) i, (s.started h).transitionRefusal g = 0 →
      (s.started h).tryOwn.present ((s.inputOf h a n d).take n) v (fun x => targetPurpose g x.purpose) = (0, x, t) → t.nextRecord g = some i → u = t.blowIntent g i →
      w = (({ u with cru := { u.cru with lcHit := true, newKey := x.newKey } } : State).blowCodeword g i).restartSoon → w.waitsLane = false →
      Ends (.lcTransition h g n a d v) h (ok (le 1 i ++ le 1 w.ownershipCount)) s ((s.started h).ownDone w)) ∧
    (∀ x t st, (s.started h).transitionRefusal g = 0 → st ≠ 0 →
      (s.started h).tryOwn.present ((s.inputOf h a n d).take n) v (fun x => targetPurpose g x.purpose) = (st, x, t) → t.waitsLane = false →
      Ends (.lcTransition h g n a d v) h (err st) s ((s.started h).ownDone t)) ∧
    ((s.started h).transitionRefusal g ≠ 0 → Reads (.lcTransition h g n a d v) h (err ((s.started h).transitionRefusal g)) s)) ∧
  (∀ s : State, s.restartSoon.cme = s.cme ∧ s.restartSoon.boot.drainUntil = some (s.now + 100000)) ∧
  (∀ s h a, Ready s h (opOwnerKeysRead.on (le 8 a)) → s.writeAddrOk h a = true →
    Reads (.ownerKeysRead h a) h (okOut a s.cru.table.bytes
      (le 1 (b2n s.cru.table.cosign) ++ le 1 ((List.range 16).filter (fun i => (s.cru.table.slot i).state == 1)).length)) s) ∧
  (∀ s h n a d v x t k, Ready s h (opOwnerKeyChange.on (zeros 4 ++ le 4 n ++ le 8 a)) → s.readAddrOk h a n = true →
    (s.started h).tryOwn.present ((s.inputOf h a n d).take n) v (fun x => decide (6 ≤ x.purpose)) = (0, x, t) →
    t.waitsLane = false →
    (t.keyChange x = (0, k) → Ends (.ownerKeyChange h n a d v) h (ok (le 1 x.slot)) s ((s.started h).ownDone (t.writeTable k).refreshCed)) ∧
    (∀ st, st ≠ 0 → t.keyChange x = (st, k) → Ends (.ownerKeyChange h n a d v) h (err st) s ((s.started h).ownDone t))) ∧
  (∀ s h n a d v, Ready s h (opDebugGrant.on (zeros 4 ++ le 4 n ++ le 8 a)) → s.readAddrOk h a n = true →
    (s.cru.granted = true → Reads (.debugGrant h n a d v) h (err 0x04B5) s) ∧
    (∀ x (t u w : State) g, s.cru.granted = false → (s.started h).tryOwn.present ((s.inputOf h a n d).take n) v (fun x => x.purpose == 5) = (0, x, t) →
      u = (if 4 ≤ x.level then { t.eraseSigningKeys with cru := { t.eraseSigningKeys.cru with keysWithdrawn := true } } else t) →
      g = leNat (slice (sha384 ((s.inputOf h a n d).take n)) 0 8) →
      w = { u with cru := { u.cru with debugLevel := x.level, granted := true, grantId := g, grantHit := true } } → t.waitsLane = false →
      Ends (.debugGrant h n a d v) h (ok (le 1 x.level ++ zeros 3 ++ le 8 g)) s
        ((s.started h).ownDone (w.recompute.log .control 0x0803 2 0 0 { value := x.level, detail := le 8 g })))) ∧
  (∀ s h, Ready s h opDebugEnd → Ends (.debugEnd h) h ok s (s.started h).endGrant) ∧
  (∀ s : State, s.endGrant.cru.granted = false ∧ s.endGrant.cru.store = s.cru.store ∧
    (s.cru.granted = true → s.endGrant.cru.debugLevel = s.boot.debugAtStart)) ∧
  (∀ s h n a, Ready s h (opRngRead.on (le 4 n ++ zeros 4 ++ le 8 a)) → 1 ≤ n → n ≤ 4096 → s.writeAddrOk h a = true →
    (s.cru.d0.generating = true → Ends (.rngRead h n a) h (okOut a (s.random n)) s (s.started h).useD0.drawn) ∧
    (s.cru.d0.generating = false → Reads (.rngRead h n a) h (err 0x0593) s)) ∧
  (∀ s h f n a ws, Ready s h (opOtpRead.on (le 2 f ++ le 2 n ++ zeros 4 ++ le 8 a)) → rangeOk f n 1024 = true → s.writeAddrOk h a = true →
    ws = (List.range n).map (· + f) →
    Reads (.otpRead h f n a) h (okOut a (ws.flatMap (fun w => le 8 (if otpReadable w then s.otpWord w else 0)))
      (le 2 (ws.filter (fun w => !otpReadable w)).length)) s) ∧
  (∀ (s : State) p, (s.cru.challenges.get p {}).nonce ≠ [] → (s.cru.challenges.get p {}).expires ≤ s.now →
    Goes (.challengeExpiry p) s { s with cru := { s.cru with challenges := s.cru.challenges.del p } }) ∧
  (∀ (s t : State) g i, s.boot.pwrOk = true → s.cru.debugLevel = 1 → s.transitionPending = false → s.nextRecord g = some i →
    (g = s.cru.lcState + 1 ∧ g ≤ 3 ∨ g = 6 ∧ s.cru.lcState ≤ 2) → t = s.blowIntent g i →
    Goes (.jtagLcTransition g) s (({ t with cru := { t.cru with lcHit := true } } : State).blowCodeword g i))

/-- A DRBG instance is reseeded or stops, and a stopped one is retried. A reseed is due after 65,536 requests or 100
ms. When it gathers enough entropy the instance is fresh and CRU_RESEEDS counts it; when it does not, the instance
stops, ENTROPY reads DEGRADED, and operations that draw from a stopped array are refused. A stopped instance retried
after 100 ms with success generates again, and ENTROPY reads GOOD again once all four do; a retry that fails leaves
it stopped and is retried 100 ms later, and after 1 s with none generating ENTROPY reads FAILED. -/
def Obligations.EntropyEventsComplete : Prop :=
  ∀ (s : State) (k : Nat) (a b : Crucible), k < 4 → a = s.cru.updDrbg k (fun _ => Drbg.reseeded s.now) →
    b = s.cru.updDrbg k (fun d => { d with lastReseed := s.now }) →
    a.drbg k = Drbg.reseeded s.now ∧
    ((s.cru.drbg k).generating = true → (65536 ≤ (s.cru.drbg k).requests ∨ (s.cru.drbg k).lastReseed + 100000 ≤ s.now) →
      Goes (.drbgReseed k true) s { s with cru := { a with reseeds := satAdd 32 s.cru.reseeds 1 } } ∧
      (∀ c : Crucible, c = s.cru.updDrbg k (fun d => { d with generating := false, stoppedAt := s.now, lastReseed := s.now }) →
        (c.drbg k).generating = false ∧
        Goes (.drbgReseed k false) s ({ s with cru := { c with
          entropy := if s.cru.entropy = .failed then .failed else .degraded, entropyHit := true } } : State).refuseRandom)) ∧
    ((s.cru.drbg k).generating = false → s.cru.entropy ≠ .starting → (s.cru.drbg k).lastReseed + 100000 ≤ s.now →
      Goes (.entropyRetry k true) s ({ s with cru := { a with
        reseeds := satAdd 32 s.cru.reseeds 1
        entropy := if s.cru.entropy = .degraded ∧ ([0, 1, 2, 3] : List Nat).all (fun j => (a.drbg j).generating) = true then .good else s.cru.entropy } } : State).placeWork ∧
      ((s.anyDrbg = true ∨ s.now < s.cru.lastStop + 1000000 ∨ s.cru.entropy = .failed) →
        Goes (.entropyRetry k false) s { s with cru := b }) ∧
      (s.anyDrbg = false → s.cru.lastStop + 1000000 ≤ s.now → s.cru.entropy ≠ .failed →
        Goes (.entropyRetry k false) s (({ s with cru := { b with entropy := .failed, entropyHit := true } } : State).log .control 0x0804 2 0 0)))

/-- The tamper commands end with the data and the state that are given for each. TAMPER_STATUS writes its words and
8 bytes a source. TAMPER_CLEAR clears TRIPPED and the window of the named sources that are not active, returns their
mask, and ends with OK when all of them were inactive and otherwise with 0x04C0; the slots that a platform hold kept
are released once no source holds the platform. TAMPER_TEST of a source that has a test opens its window, and while
one runs ends with 0x04C1. TAMPER_FIX in OWNED, of sources that the committed policy places in HARDWARE_QUENCH with
COUNT 1, blows their bits in OTP word 112 and returns the word; outside OWNED, or of another source, it ends with
0x04C2. -/
def Obligations.TamperCommandsComplete : Prop :=
  (∀ s h a, Ready s h (opTamperStatus.on (le 8 a)) → s.writeAddrOk h a = true →
    Reads (.tamperStatus h a) h (okOut a (s.tamperWords.flatMap (le 4) ++ zeros 8 ++ (List.range 32).flatMap (fun i =>
      le 2 (s.source i).trips ++ le 2 (s.source i).eventsStart ++ le 1 (s.source i).lastTest ++ le 1 (s.sourceMode i) ++ zeros 2))) s) ∧
  (∀ s h m named good (u v w : State) r, Ready s h (opTamperClear.on (le 4 m)) → named = (List.range 32).filter (fun i => m.testBit i) →
    good = named.filter (fun i => !(s.source i).active) →
    u = good.foldl (fun t i => t.updSource i (fun x => { x with tripped := false, ring := [] })) (s.started h) →
    v = (if good.any (fun i => (s.source i).tripped) then u.stirPsd 0x040 else u) →
    w = (if v.platformHeld then v.endPlatformHold.settleAll else v) → r = le 4 (good.foldl (fun a i => a + 2 ^ i) 0) →
    (∀ i, i < 32 → (u.source i).tripped = ((s.source i).tripped && !good.contains i)) ∧
    (good.length = named.length → Ends (.tamperClear h m) h (ok r) s w) ∧
    (good.length ≠ named.length → Ends (.tamperClear h m) h { status := 0x04C0, result := r } s w)) ∧
  (∀ s h i, Ready s h (opTamperTest.on (le 1 i)) → isTestable i = true →
    (s.emb.test.isSome = true → Reads (.tamperTest h i) h (err 0x04C1) s) ∧
    (s.emb.test = none → Goes (.tamperTest h i) s ((s.started h).openTest i (some (s.stamp h))))) ∧
  (∀ s h m, Ready s h (opTamperFix.on (le 4 m)) →
    (s.cru.lcState ≠ 4 → Reads (.tamperFix h m) h (err 0x04C2) s) ∧
    (∀ i, i < 32 → m.testBit i = true → s.committedQuench i = false → Reads (.tamperFix h m) h (err 0x04C2) s) ∧
    (∀ (t u : State), s.cru.lcState = 4 → (∀ i, i < 32 → m.testBit i = true → s.committedQuench i = true) →
      t = (s.started h).blow 112 (m % 2 ^ 32) → u = t.log .control 0x0A03 0 0 0 { value := t.otpWord 112 % 2 ^ 32 } →
      Ends (.tamperFix h m) h (ok (le 4 (u.otpWord 112 % 2 ^ 32))) s u.refreshCed)) ∧
  (∀ (s : State) m, (s.blow 112 (m % 2 ^ 32)).otpWord 112 = s.otpWord 112 ||| m % 2 ^ 32 ∧
    (∀ w, w ≠ 112 → (s.blow 112 (m % 2 ^ 32)).otpWord w = s.otpWord w))

/-- Detectors, samples and tests count the events that R441 and R455 give. A continuous detector that asserts after
at least 1 us deasserted counts an event on its source, and one that asserts again without that does not; in a test
window it is the test's detection; a deassertion is kept with its time. A sample every 32 ms keeps VBAT and counts
an event on each watched sampled source that fails: the shield's sense, a mesh phase that returns another bit than
was driven, a switch at its unsafe level; one before the next is due is the extra sample of an open test, against
the inverted pattern or level. The end of a test window records PASSED or FAILED and answers the command that asked;
a failed test counts an event on TS15, and a source still active counts one of its own. Scheduled tests take the
enabled sources in ascending index, one a second. The pattern of the key on a mesh and the time of a test that
detects nothing are free values (log entries 3 and 106). -/
def Obligations.TamperEventsComplete : Prop :=
  (∀ s i, i < 14 → i ≠ 12 → (s.boot.pwrOk = true ∨ watchedAlways i = true) → s.underTest i = false → s.sourceMode i ≠ 0 → (s.source i).active = false →
    ((s.source i).deassertAt = none ∨ ∃ t, (s.source i).deassertAt = some t ∧ t + 1 ≤ s.now) →
    Goes (.tamperDetectorAssert i) s ((s.updSource i (fun x => { x with active := true })).tamperEvent i)) ∧
  (∀ s i, i < 14 → i ≠ 12 → (s.boot.pwrOk = true ∨ watchedAlways i = true) → s.underTest i = false → s.sourceMode i ≠ 0 → (s.source i).active = true →
    Goes (.tamperDetectorAssert i) s (s.updSource i (fun x => { x with active := true }))) ∧
  (∀ s i, i < 14 → i ≠ 12 → (s.boot.pwrOk = true ∨ watchedAlways i = true) → s.underTest i = true →
    Goes (.tamperDetectorAssert i) s ((s.updSource i (fun x => { x with active := true })).updTest (fun w =>
      { w with detected := some (w.detected.getD (s.now - w.openedAt)), released := false }))) ∧
  (∀ s i, i < 14 → i ≠ 12 → (s.source i).active = true → s.underTest i = false →
    Goes (.tamperDetectorDeassert i) s (s.updSource i (fun x => { x with active := false, deassertAt := some s.now }))) ∧
  (∀ (s u t : State) m w b v, u = { s with emb := ({ s.emb with vbatMv := v } : Ember).starve (!s.boot.pwrOk) } →
    (s.emb.lastSample + 32000 ≤ s.now → t = { u with emb := { u.emb with lastSample := s.now - s.now % 32000, meshDrive := u.meshDriven } } →
      Goes (.tamperSample m w b v) s ((t.sampledNow.filter (u.sampleFails m w b)).foldl State.tamperEvent
        (t.sampledNow.foldl (fun t i => t.updSource i (fun x => { x with active := u.sampleFails m w b i })) t))) ∧
    (s.now < s.emb.lastSample + 32000 → Goes (.tamperSample m w b v) s (u.testSample m w b))) ∧
  (∀ (s : State) m w b x, s.emb.test = some x → isSampled x.source = true → x.sampled = false →
    (s.testSample m w b).emb.test = some { x with
      sampled := true
      released := s.testFails m w b x.source
      detected := if s.testFails m w b x.source = true then some (s.now - x.openedAt) else none }) ∧
  (∀ (s : State) m w b, s.sampleFails m w b 12 = b ∧
    (∀ i, 16 ≤ i → i < 24 → (s.sampleFails m w b i = true ↔ m / 8 ^ (i - 16) % 8 ≠ s.meshDriven / 8 ^ (i - 16) % 8)) ∧
    (∀ i, 24 ≤ i → i < 32 → (s.sampleFails m w b i = true ↔ w.testBit (i - 24) = (fld (s.tamperRec i) 3 1).testBit 0))) ∧
  (∀ (s a t u x : State) w p k, s.emb.test = some w → p = (w.detected.isSome && w.released) →
    k = w.detected.getD (Config.freeValue s.draws % 65536) → a = (if w.detected.isSome then s else s.drawn) →
    t = ((({ a with emb := { a.emb with test := none } } : State).updSource w.source (fun x => { x with lastTest := if p then 1 else 2 })).log
      .guard 0x0A02 0 8 w.source { cause := if p then 1 else 2, value := k }) →
    u = (if p then t else t.tamperEvent 15) → x = (if (u.source w.source).active then u.tamperEvent w.source else u) →
    (w.hdr = none → Goes .tamperTestWindowEnd s x) ∧
    (∀ h, w.hdr = some h → Goes .tamperTestWindowEnd s (complete h (ok (le 1 (b2n p) ++ [0] ++ le 2 k)) x))) ∧
  (∀ s i, s.boot.pwrOk = true → fld s.emb.tamperCopy 0 4 ≠ 0 → s.emb.test = none → s.emb.testAt + 1 ≤ s.emb.opSeconds →
    s.emb.opSeconds < s.emb.testPeriod + fld s.emb.tamperCopy 0 4 →
    (List.range 32).find? (fun i => decide (s.emb.testNext ≤ i) && isTestable i && s.sourceMode i != 0) = some i →
    Goes .tamperScheduledTest s
      (({ s with emb := { s.emb with testNext := i + 1, testAt := s.emb.opSeconds } } : State).openTest i none))

/-- At TimeEpoch 65,535 a backward step is refused, and forward steps and slews still work. With TimeEpoch at
65,535, a TIME_SET in STEP mode that would put the wall time below the reference R of R479 ends with 0x0611,
CARRIED_OUT 0, and nothing but the completion changes. A STEP that does not, and that STEP_LIMIT_S does not stop,
sets the new OFFSET and the wall time, and a SLEW that may run starts; both end with OK and leave the epoch at
65,535. -/
def Obligations.ExhaustedEpochRefusesBackwardSteps : Prop :=
  ∀ (s : State) (h : Hdr) (w a f d : Nat) (x : Int), s.emb.epoch = 65535 → f ≤ 3 → (f = 0 ∨ s.ownerSource h.src = true) →
    d = (if a = 0 then s.now else a) → d ≤ s.now → x = s.stepOffset (toSigned 64 w) d →
    (Ready s h (opTimeSet.on (le 8 w ++ le 8 a ++ le 1 0 ++ le 1 f)) →
      ((s.now : Int) * 1000 + x < s.stepReference → Reads (.timeSet h w a 0 f) h (err 0x0611) s) ∧
      (s.stepReference ≤ (s.now : Int) * 1000 + x →
        (s.stepLimit = 0 ∨ s.emb.wallSet = false ∨ f.testBit 0 = true ∨
          ((s.now : Int) * 1000 + x - s.wall).natAbs ≤ s.stepLimit * 1000000000) →
        ∃ t : State, Ends (.timeSet h w a 0 f) h
            (ok (le 8 (ofSigned 64 (if s.emb.wallSet then (s.now : Int) * 1000 + x - s.wall else 0)) ++ le 2 65535 ++ zeros 6)) s t ∧
          t.emb.epoch = 65535 ∧ t.emb.wallSet = true ∧ t.emb.offset = x)) ∧
    (Ready s h (opTimeSet.on (le 8 w ++ le 8 a ++ le 1 1 ++ le 1 f)) →
      s.emb.wallSet = true → (toSigned 64 w - ((d : Int) * 1000 + s.offsetNow)).natAbs ≤ 1000000000 →
      ∃ t : State, Ends (.timeSet h w a 1 f) h (ok (le 8 (ofSigned 64 0) ++ le 2 65535 ++ zeros 6)) s t ∧
        t.emb = { s.emb with
          offset := s.offsetNow
          dmtGap := s.emb.dmtGap && !f.testBit 1
          slew := some { begun := s.now, base := s.offsetNow, total := toSigned 64 w - ((d : Int) * 1000 + s.offsetNow), ppm := s.slewPpm } } ∧
        { t with emb := s.emb } = s.started h)

/-- The time and watchdog commands end with the data and the state that are given for each. TIME_READ returns DMT,
the wall time, OpSeconds, the epoch and its flags. TIME_SET in STEP mode that is not refused sets OFFSET, WALL_SET
and STEP_HIT, raises the epoch by 1 when the step is backward, and returns the size of the step; AT_DMT in the
future ends with 0x0102. A WIND from the channel's queue with the right KEY, in the open part, adds 1 to TURN and
starts the next period; with a wrong KEY it ends with 0x0622, from another queue with 0x0202, of a paused channel
with 0x04D0, each counted and with no other effect. WATCHDOG_STATUS writes 16 bytes a channel. WATCHDOG_ARM of a
RELEASED slot's channel arms or disarms it; of another slot it ends with 0x0421, and a hardware channel is not
disarmed (0x04D1). -/
def Obligations.TimeCommandsComplete : Prop :=
  (∀ s h, Ready s h opTimeRead → Reads (.timeRead h) h
    (ok (le 8 s.now ++ le 8 (ofSigned 64 s.wall) ++ le 4 s.emb.opSeconds ++ le 2 s.emb.epoch ++ le 1 s.timeFlags ++ [0])) s) ∧
  (∀ s h w a f, Ready s h (opTimeSet.on (le 8 w ++ le 8 a ++ le 1 0 ++ le 1 f)) → f ≤ 3 → (f = 0 ∨ s.ownerSource h.src = true) →
    (s.now < a → Reads (.timeSet h w a 0 f) h (err 0x0102) s) ∧
    (∀ x (u : State), a ≤ s.now → x = s.stepOffset (toSigned 64 w) (if a = 0 then s.now else a) → s.stepRefusal x (f.testBit 0) = 0 →
      u = ((s.started h).drawn.stepWall x).2.2 →
      Ends (.timeSet h w a 0 f) h
        (ok (le 8 (ofSigned 64 (if s.emb.wallSet then (s.now : Int) * 1000 + x - s.wall else 0)) ++ le 2 u.emb.epoch ++ zeros 6)) s
        (if f.testBit 1 then { u with emb := { u.emb with dmtGap := false } } else u))) ∧
  (∀ (s : State) x, (s.stepWall x).2.2.emb.offset = x ∧ (s.stepWall x).2.2.emb.wallSet = true ∧ (s.stepWall x).2.2.emb.stepHit = true ∧
    (s.stepWall x).2.2.emb.epoch = (if (s.now : Int) * 1000 + x < s.stepReference then s.emb.epoch + 1 else s.emb.epoch)) ∧
  (∀ s h n k, Ready s h (opWind.on (le 1 n ++ le 1 0 ++ le 2 k ++ le 4 0)) → n < 256 →
    (s.started h).queueOf h.src = fld (s.chan n).record 2 2 → (s.started h).queueOf h.src ≠ 0xFFFF → (s.chan n).armed = true →
    (∀ t, (s.chan n).state ≠ .paused → k = (s.chan n).turn → ((s.chan n).state = .first ∨ (s.chan n).openAt ≤ s.now) →
      (s.chan n).state ≠ .sleep → (s.chan n).state ≠ .reacquire → (s.chan n).afterExpiry = false →
      t = ((s.started h).acceptWind n false 0).2 →
      Ends (.wind h n 0 k 0) h (ok (le 2 ((k + 1) % 65536) ++ le 1 2 ++ [0] ++ le 4 (t.remainingMs n))) s t ∧
        (t.chan n).turn = (k + 1) % 65536 ∧ (t.chan n).state = .running ∧ (t.chan n).lastWind = s.now ∧ (t.chan n).start = s.now ∧
        (t.chan n).deadline = s.now + s.chanPeriod n (s.chan n).record ∧ (∀ m, m ≠ n → t.chan m = s.chan m)) ∧
    ((s.chan n).state ≠ .paused → k ≠ (s.chan n).turn → Ends (.wind h n 0 k 0) h (err 0x0622) s (s.started h).badWind) ∧
    ((s.chan n).state = .paused → Ends (.wind h n 0 k 0) h (err 0x04D0) s (s.started h).badWind)) ∧
  (∀ s h n k, Ready s h (opWind.on (le 1 n ++ le 1 0 ++ le 2 k ++ le 4 0)) → (s.chan n).armed = true →
    (s.started h).queueOf h.src ≠ fld (s.chan n).record 2 2 →
    Ends (.wind h n 0 k 0) h (err 0x0202) s (s.started h).badWind) ∧
  (∀ s h f n a, Ready s h (opWatchdogStatus.on (le 1 f ++ le 1 n ++ zeros 2 ++ le 8 a)) → rangeOk f (if n = 0 then 256 else n) 256 = true → s.writeAddrOk h a = true →
    Reads (.watchdogStatus h f n a) h (okOut a ((List.range (if n = 0 then 256 else n)).flatMap (fun i =>
      le 4 ((s.started h).chanWord0 (f + i)) ++ le 4 ((s.started h).chanWord1 (f + i)) ++ le 8 (s.chan (f + i)).lastWind))) s) ∧
  (∀ s h n b, Ready s h (opWatchdogArm.on (le 1 n ++ le 1 b)) → b < 2 → s.isReleased n = false → Reads (.watchdogArm h n b) h (err 0x0421) s) ∧
  (∀ s h n t, Ready s h (opWatchdogArm.on (le 1 n ++ le 1 1)) → s.isReleased n = true → t = (s.started h).armChan n →
    Ends (.watchdogArm h n 1) h (ok [1]) s t ∧ (t.chan n).state = .first ∧ (t.chan n).turn = 0 ∧
      (t.chan n).deadline = s.now + s.chanFirst n (s.chanRec n)) ∧
  (∀ s h n t, Ready s h (opWatchdogArm.on (le 1 n ++ le 1 0)) → s.isReleased n = true → t = (s.started h).disarm n →
    (s.hwChan n = false → Ends (.watchdogArm h n 0) h (ok [0]) s t ∧ (t.chan n).state = .idle) ∧
    (s.hwChan n = true → Reads (.watchdogArm h n 0) h (err 0x04D1) s))

/-- Winds, expiries, warnings and clock stops take the step that R469 to R474 give. A register wind with the right
KEY on a channel that allows it is accepted like any wind, and another is only counted. A channel in FIRST or
RUNNING past its deadline expires with cause TIMEOUT, and one in REACQUIRE with REACQUIRE_MISSED. The warning is
given once, before the deadline. A sleep that passes W + G opens the re-acquisition window to W + 4G. A stopped
clock moves what runs on it to the other clock, and two stopped clocks expire the IWD. An IWD expiry starts the hard
timer of 2 ms, whose end restarts the Control Region. DMT is written to MRAM every second, and a slew that has
applied its whole correction ends with it in OFFSET. -/
def Obligations.WatchdogEventsComplete : Prop :=
  (∀ s n k, n < 256 → s.boot.controlUp = true → (s.chan n).armed = true → (s.chan n).state ≠ .paused →
    (recFlags (s.chan n).record).testBit 2 = true →
    (k % 65536 = (s.chan n).turn → Goes (.wwuWindWrite n k) s (s.acceptWind n false 0).2) ∧
    (k % 65536 ≠ (s.chan n).turn → Goes (.wwuWindWrite n k) s s.badWind)) ∧
  (∀ s n, s.boot.controlUp = true → (s.chan n).deadline ≤ s.now →
    (((s.chan n).state = .first ∨ (s.chan n).state = .running) → Goes (.channelExpiry n) s (s.expire n 1)) ∧
    ((s.chan n).state = .reacquire → Goes (.channelExpiry n) s (s.expire n 3))) ∧
  (∀ (s : State) n c, recAction (s.chan n).record = 0 → (s.chan n).expiries < 255 →
    ((s.expire n c).chan n).expiries = (s.chan n).expiries + 1 ∧ ((s.expire n c).chan n).state = .running ∧
    ((s.expire n c).chan n).lastCause = c ∧ ((s.expire n c).chan n).turn = (s.chan n).turn) ∧
  (∀ (s t u : State) n, s.boot.controlUp = true → (s.chan n).state = .running → (s.chan n).warned = false → s.now < (s.chan n).deadline →
    0 < fld (s.chan n).record 12 2 → (s.chan n).deadline ≤ s.now + fld (s.chan n).record 12 2 * 1000 →
    t = s.updChan n (fun c => { c with warned := true }) → u = { t with wwu := { t.wwu with preHit := true } } →
    Goes (.preExpiryWarning n) s ((u.log .control 0x0902 6 9 n { value := u.remainingMs n }).tellManagers 0x0902 6 4 n)) ∧
  (∀ s n, s.boot.controlUp = true → (s.chan n).state = .sleep → (s.chan n).deadline + guardUs (s.chan n).record ≤ s.now →
    Goes (.sleepGuardPass n) s (s.updChan n (fun c =>
      { c with state := .reacquire, deadline := c.deadline + 4 * guardUs (s.chan n).record }))) ∧
  (∀ (s t : State) e, s.boot.pwrOk = true →
    t = (if e then { s with wwu := { s.wwu with emberStopped := false } } else { s with wwu := { s.wwu with refStopped := false } }) →
    Goes (.clockReturn e) s (if s.iwdEmber = e then { t with wwu := { t.wwu with iwd := { t.wwu.iwd with onBackup := false } } } else t)) ∧
  (∀ (s a b c : State) e, s.boot.pwrOk = true →
    a = (if e then { s with wwu := { s.wwu with emberStopped := true } } else { s with wwu := { s.wwu with refStopped := true } }) →
    b = a.armedChannels.foldl State.watchClock a →
    c = (if b.iwdEmber = e ∧ b.wwu.iwd.running = true ∧ b.wwu.iwd.onBackup = false then
        ({ b with wwu := { b.wwu with iwd := { b.wwu.iwd with onBackup := true, stopHit := true } } } : State).log .control 0x0903 3 0 0 else b) →
    ((c.wwu.emberStopped && c.wwu.refStopped) = false → Goes (.clockStopDetect e) s c) ∧
    ((c.wwu.emberStopped && c.wwu.refStopped) = true → Goes (.clockStopDetect e) s
      (c.armedChannels.foldl (fun t n => if (t.chan n).state == .paused || (t.chan n).state == .idle then t else t.expire n 4) c).iwdExpires)) ∧
  (∀ s, s.wardenRuns = true → Goes .iwdExpiry s s.iwdExpires) ∧
  (∀ s : State, s.wwu.iwd.running = true → s.wwu.iwd.hardTimer = none → s.wwu.iwd.expiries < 255 →
    s.iwdExpires.wwu.iwd.hardTimer = some (s.now + 2000) ∧ s.iwdExpires.wwu.iwd.expiries = s.wwu.iwd.expiries + 1) ∧
  (∀ s d, s.wwu.iwd.hardTimer = some d → d ≤ s.now → s.wardenRuns = true → Goes .iwdHardTimerExpiry s s.lastResort) ∧
  (∀ s, s.boot.pwrOk = true → s.emb.mramAt + 1000000 ≤ s.now →
    Goes .dmtCheckpoint s { s with emb := { s.emb with mramDmt := s.now, mramOp := s.emb.opSeconds, mramAt := s.now } }) ∧
  (∀ s w, s.emb.slew = some w → w.applied s.now = w.total →
    Goes .timeSlewEnd s { s with emb := { s.emb with offset := w.base + w.total, slew := none } })

/-- The Logbook commands end with their records and numbers, and the cursor's high word opens a window. LOG_STATUS
writes the numbers of the newest, oldest and acknowledged records, how many are held and not acknowledged, what this
start dropped and evicted, and FILL_WM. LOG_READ writes 64 bytes for each of at most MAX records from FROM_SEQ on,
ascending as held and with the flag up to the first open one, and returns their number and the next SEQ. LOG_ACK
raises ACKED_SEQ to its parameter, never lowers it, and above the newest record ends with 0x0102. LOG_CLEAR up to
ACKED_SEQ removes exactly the records at or below its parameter, records that it did, and returns their number, and
above it ends with 0x04E0. A write of the cursor's high word opens a window of at most 64 records from it on, and
shows whether the first of them was skipped to. -/
def Obligations.LogCommandsComplete : Prop :=
  (∀ s h a, Ready s h (opLogStatus.on (le 8 a)) → s.writeAddrOk h a = true →
    Reads (.logStatus h a) h (okOut a (le 8 s.lgb.newest ++ le 8 s.lgb.oldest ++ le 8 s.lgb.ackedSeq ++ le 4 s.lgb.records.length ++
      le 4 s.lgb.unacked ++ le 4 s.lgb.droppedStart ++ le 4 s.lgb.evictedStart ++ le 4 s.fillWm ++ zeros 20)) s) ∧
  (∀ s h f n g a l x, Ready s h (opLogRead.on (le 8 f ++ le 2 n ++ le 1 g ++ zeros 5 ++ le 8 a)) → 1 ≤ n → n ≤ 4096 → g < 2 → s.writeAddrOk h a = true →
    l = (s.lgb.records.filter (fun r => decide (f ≤ r.seq))).take n → x = (if g = 1 then l.takeWhile (fun r => !r.isOpen) else l) →
    Reads (.logRead h f n g a) h (okOut a (x.flatMap LogRec.bytes)
      (le 2 x.length ++ zeros 6 ++ le 8 ((x.getLast?.map (fun r => r.seq + 1)).getD f) ++ le 8 s.lgb.oldest)) s) ∧
  (∀ s h n, Ready s h (opLogAck.on (le 8 n)) →
    (s.lgb.newest < n → Reads (.logAck h n) h (err 0x0102) s) ∧
    (n ≤ s.lgb.newest → Ends (.logAck h n) h (ok (le 8 (max s.lgb.ackedSeq n))) s
      { s.started h with lgb := { s.lgb with ackedSeq := max s.lgb.ackedSeq n } })) ∧
  (∀ s h n k (t : State), Ready s h (opLogClear.on (le 8 n)) → k = (s.lgb.records.filter (fun r => decide (r.seq ≤ n))).length →
    t = { s.started h with lgb := { s.lgb with records := s.lgb.records.filter (fun r => decide (n < r.seq)) } } →
    (s.lgb.ackedSeq < n → Reads (.logClear h n) h (err 0x04E0) s) ∧
    (n ≤ s.lgb.ackedSeq → Ends (.logClear h n) h (ok (le 4 k)) s
      (if k = 0 then t else t.log .control 0x0B02 2 0 0 { value := k, detail := le 8 n }))) ∧
  (∀ s v k, s.pcieUp = true → k = v % 2 ^ 32 * 2 ^ 32 + s.lgb.cursorLow → ∃ t : State, Goes (.lgbCursorWrite v) s t ∧
    t.lgb = { s.lgb with
      cursorHigh := v % 2 ^ 32
      window := (s.lgb.records.filter (fun r => decide (k ≤ r.seq))).take 64
      windowSkipped := t.lgb.windowSkipped } ∧ { t with lgb := s.lgb } = s ∧
    (t.lgb.windowSkipped = true ↔ ∃ r, (s.lgb.records.find? (fun r => decide (k ≤ r.seq))) = some r ∧ k < r.seq))

/-- Each record gets the next sequence number, and records close when they are due. A staged event, with a place
free, at rung 0 becomes one record with the next SEQ and moves that number on by one; whatever its rung, the next
SEQ never falls. An ordinary record closes when its repeat window has passed since its last occurrence, and a storm
record 1 ms after its first. A TIME_MARK is written when 2^31 us have passed since the last. -/
def Obligations.RecordsAreNumbered : Prop :=
  (∀ s e l, s.lgb.staging = e :: l → s.boot.controlUp = true →
    Goes .logRecordWrite s (({ s with lgb := { s.lgb with staging := l, running := true } } : State).recordEvent e)) ∧
  (∀ (s : State) (e : LogEv), e.rung = 0 → s.lgb.records.length < s.lgb.places →
    (s.recordEvent e).lgb.nextSeq = s.lgb.nextSeq + 1 ∧ ∃ r : LogRec, (s.recordEvent e).lgb.records = s.lgb.records ++ [r] ∧
      r.seq = s.lgb.nextSeq ∧ r.code = e.code ∧ r.rung = 0 ∧ r.cls = e.cls ∧ r.idx = e.idx ∧ r.dmt = e.dmt ∧ r.params = fixLen 32 e.params ∧
      r.isOpen = false) ∧
  (∀ (s : State) (e : LogEv), s.lgb.nextSeq ≤ (s.recordEvent e).lgb.nextSeq ∧ (s.recordEvent e).lgb.nextSeq ≤ s.lgb.nextSeq + 1) ∧
  (∀ s r, r ∈ s.lgb.records → r.storm = false → r.dmt + r.lastDelta + 1000 * r.windowMs ≤ s.now →
    ∃ t : State, Goes (.recordClose r.seq) s t ∧ { r with isOpen := false } ∈ t.lgb.records ∧
      (∀ x ∈ s.lgb.records, x.seq ≠ r.seq → x ∈ t.lgb.records) ∧ t.lgb.records.length = s.lgb.records.length) ∧
  (∀ s r, r ∈ s.lgb.records → r.storm = true → r.isOpen = true → r.dmt + 1000 ≤ s.now →
    ∃ (t : State) (x : LogRec), Goes (.stormClose r.seq) s t ∧ x ∈ t.lgb.records ∧
      x = { r with isOpen := false, hint := x.hint, idx := x.idx } ∧
      (x.hint, x.idx) = s.sharedResource r.cls (r.joined.map Prod.fst) (r.joined.map Prod.snd)) ∧
  (∀ s, s.boot.controlUp = true → s.lgb.lastMark + 2 ^ 31 ≤ s.now → Goes .timeMark s s.timeMark) ∧
  (∀ s : State, s.timeMark.lgb.lastMark = s.now ∧ (∃ e : LogEv, e.code = 0x0B01 ∧ e.rung = 2 ∧ e.params = fixLen 32 s.timeMarkParams ∧
      { s.timeMark with lgb := { s.timeMark.lgb with lastMark := s.lgb.lastMark } } = s.report .control e))

/-- The power and fault commands end with their words, and each evaluation keeps the supply inside its bounds.
FAULT_STATUS writes the nine words of its 36 bytes. POWER_CAP_SET of a cap from 64 to 152 sets CAP_SETTING and its
command mark, and returns the effective cap, the lower of the setting and the thermal cap, with the lane budget.
POWER_STATUS returns its three words and the current. An evaluation of the temper loop that is due takes what the
sensors show; acknowledged, it moves the supply by at most 10 mV and never below the floor; not acknowledged, it
holds the last command and sets the fault flag, and a retry that is acknowledged ends the hold. An evaluation of the
cap takes the thermal cap of R522, and POWER at or above the effective cap sets CAP_HIT. -/
def Obligations.FaultCommandsComplete : Prop :=
  (∀ s h a, Ready s h (opFaultStatus.on (le 8 a)) → s.writeAddrOk h a = true →
    Reads (.faultStatus h a) h (okOut a (le 4 (s.started h).serviceWord ++ le 4 s.spn.corrected ++ le 4 s.remapWord ++ le 4 s.islandWord ++
      le 4 s.crossWord ++ le 4 ((s.started h).domainWord 0) ++ le 4 ((s.started h).domainWord 1) ++ le 4 ((s.started h).domainWord 2) ++
      le 4 s.crossWord2)) s) ∧
  (∀ s h c (t : State), Ready s h (opPowerCapSet.on (le 1 c)) → 64 ≤ c → c ≤ 152 →
    t = { s.started h with spn := { s.spn with capSetting := c, byCommand := true } } →
    Ends (.powerCapSet h c) h (ok (le 1 (min c s.spn.thermalCap) ++ le 1 (laneBudget (min c s.spn.thermalCap)) ++ [0, 0])) s t.refreshCed) ∧
  (∀ s h, Ready s h opPowerStatus → Reads (.powerStatus h) h
    (ok (le 4 s.temperWord ++ le 4 (s.started h).powerWord ++ le 4 s.powerCfgWord ++ le 2 s.spn.currentTenMa ++ [0, 0])) s) ∧
  (∀ (s t : State) j c u w l k raise busy calm, s.boot.controlUp = true → s.spn.temper ≠ .startup → s.spn.temperAt + 100 ≤ s.now →
    raise = (decide (24 < w ∨ 70 < u ∨ 70 < k) || l) → busy = (decide (12 < w ∨ 35 < u ∨ 35 < k) || l) →
    calm = (if busy then s.now else s.spn.calmSince) →
    t = { s with spn := { s.spn with tj := j, currentTenMa := c % 65536, temperAt := s.now, calmSince := calm, bellowsPct := min k 100 },
                 hma := { s.hma with utilPct := min u 100, waitE := min w 255 } } →
    (s.spn.temper = .avsHold → ∀ a, Goes (.temperEvaluation j c u w l a k) s t) ∧
    (s.spn.temper ≠ .avsHold →
      Goes (.temperEvaluation j c u w l true k) s (t.setVcore (t.nextVcore raise (!busy && decide (calm + 10000 ≤ s.now)))) ∧
      Goes (.temperEvaluation j c u w l false k) s t.avsHold)) ∧
  (∀ (s : State) r b, s.floorMv ≤ s.spn.vcoreMv → s.nextVcore r b ≤ s.spn.vcoreMv + 10 ∧ s.spn.vcoreMv ≤ s.nextVcore r b + 10 ∧
    s.floorMv ≤ s.nextVcore r b) ∧
  (∀ (s : State) v, (s.setVcore v).spn.vcoreMv = v ∧ s.avsHold.spn.vcoreMv = s.spn.vcoreMv ∧ s.avsHold.spn.temper = .avsHold ∧
    s.avsHold.spn.avsFault = true ∧ s.avsHold.spn.avsRetryAt = s.now + 10000) ∧
  (∀ s, s.boot.controlUp = true → s.spn.temper = .avsHold → s.spn.avsRetryAt ≤ s.now →
    Goes (.avsRetry true) s (s.setVcore s.spn.vcoreMv) ∧
    Goes (.avsRetry false) s { s with spn := { s.spn with avsRetryAt := s.now + 10000 } }) ∧
  (∀ s p, s.boot.controlUp = true → s.spn.capAt + 100 ≤ s.now →
    ∃ t : State, Goes (.powerCapEvaluation p) s t ∧ t.spn.power = p ∧ t.spn.capAt = s.now ∧ t.spn.thermalCap = thermalCapAt s.spn.tj ∧
      (min s.spn.capSetting (thermalCapAt s.spn.tj) ≤ p → t.spn.capHit = true) ∧ t.spn.capSetting = s.spn.capSetting) ∧
  (∀ c : Nat, 120 ≤ c → laneBudget c = 16) ∧ laneBudget 88 = 5

/-- Faults move work to spares, to the standby pair or to a restart, and islands stop and come back. What was
corrected or resent at cell level is counted. A first fault of a block within 1 s is handled at its cell: a queue
context or wind-up channel takes a spare while one is left. A block that is re-initialised is in service again at
its end. A lockstep mismatch with a standby ready starts a takeover to it and tests the halted pair, or at its third
mismatch switches it off, and without one restarts the Control Region as a last resort, on the other pair after the
third. A takeover that succeeds makes the standby the active pair and sets NO_STANDBY, and a self-test that passes
makes the halted pair the standby and clears it once the active one is OPERATIONAL, while one that fails switches
the pair off. A stopped island clock clears CLOCK_RUNNING, its return sets it and ends the reset. A reset request
ends the commands that wait with 0x0704, and shows IN_RESET while the clock is stopped. -/
def Obligations.FaultEventsComplete : Prop :=
  (∀ (s t : State) n k r b, s.boot.pwrOk = true → 1 ≤ n → n ≤ 7 → b = blockOf n k → (s.spn.lastFault.keys.contains b = false ∨ s.spn.lastFault.get b 0 + 1000000 < s.now) →
    t = s.corrected r →
    Goes (.blockFault n k r) s (State.noteService s (({ t with spn := { t.spn with lastFault := t.spn.lastFault.ins b s.now } } : State).cellFault n k)).settleAll) ∧
  (∀ s k r, s.boot.pwrOk = true → Goes (.blockFault 0 k r) s { s with spn := { s.spn with corrected := satAdd 32 s.spn.corrected r } }) ∧
  (∀ (s : State) k, (k < 256 → 0 < s.spn.windSpares → (s.cellFault 3 k).spn.windSpares = s.spn.windSpares - 1) ∧
    (k < 4096 → 0 < s.spn.queueSpares → (s.cellFault 4 k).spn.queueSpares = s.spn.queueSpares - 1)) ∧
  (∀ s b l, s.spn.reinitBlocks = b :: l → ∃ t : State, Goes .regionReinitDone s t ∧ t.spn.reinitBlocks = l ∧
    t.spn.service.testBit 4 = !l.isEmpty) ∧
  (∀ (s t : State) a, s.wardenRuns = true → s.spn.takeoverTo = none → a = s.spn.activePair →
    t = { s with spn := { s.spn with lockFails := s.spn.lockFails.set a (s.spn.lockFails.getD a 0 + 1) } } →
    (s.spn.standbyReady = true → s.spn.lockFails.getD a 0 < 2 → Goes .lockstepMismatch s
      { t with spn := { t.spn with standbyReady := false, takeoverTo := some (1 - a), testingPair := some a } }) ∧
    (s.spn.standbyReady = true → 2 ≤ s.spn.lockFails.getD a 0 → Goes .lockstepMismatch s
      { t with spn := { t.spn with standbyReady := false, takeoverTo := some (1 - a), pairOff := s.spn.pairOff.set a true } }) ∧
    (s.spn.standbyReady = false → Goes .lockstepMismatch s (t.retirePair a (decide (2 ≤ s.spn.lockFails.getD a 0))).lastResort)) ∧
  (∀ (s t : State) p, s.spn.takeoverTo = some p → t = { s with spn := { s.spn with takeoverTo := none } } →
    Goes (.wardenTakeoverDone true) s (State.noteService s (({ t with spn := { t.spn with
      activePair := p, takeovers := min (s.spn.takeovers + 1) 255, standbyReady := false } } : State).setService 3 true)) ∧
    Goes (.wardenTakeoverDone false) s t.lastResort) ∧
  (∀ (s t : State) p, s.spn.testingPair = some p → t = { s with spn := { s.spn with testingPair := none } } →
    Goes (.wardenSelfTestDone true) s (State.noteService s
      (if s.boot.imageOp = true then ({ t with spn := { t.spn with standbyReady := true } } : State).setService 3 false else t)) ∧
    Goes (.wardenSelfTestDone false) s (State.noteService s
      (({ t with spn := { t.spn with pairOff := s.spn.pairOff.set p true } } : State).setService 3 true))) ∧
  (∀ (s : State) i, 1 ≤ i → i ≤ 6 →
    Goes (.islandClockStop i) s { s with spn := { s.spn with clockRunning := clrBit s.spn.clockRunning i } } ∧
    (s.boot.pwrOk = true → ∃ t : State, Goes (.islandClockReturn i) s t ∧ t.islandStopped i = false ∧ t.spn.inReset.testBit i = false ∧
      ((s.crossing i).saturated = false → t.crossSat i = s.crossSat i)) ∧
    (∀ t : State, t = ((s.waitersOn i).foldl (fun t h => t.timeOut h i) s).flushCrossing i → Goes (.islandResetRequest i) s
      (if t.islandStopped i then { t with spn := { t.spn with inReset := setBit t.spn.inReset i } } else t)))

/-- At reset nothing is powered, every slot is HELD, every port in OWN with its pins high-impedance, and the first
rise begins a start. In the reset state main power is absent, no command waits, the OTP words are 0 and sound, every
slot is HELD, no string is driven, every port is in OWN with its pins high-impedance and an empty bank, no policy
image is held and every queue is CLOSED. The first rise of PWR_OK, from there, begins a device start with the two
Ember domains on and PowerCycles 1, all of that as it was but one OTP bit: the battery RAM, never filled, fails its
check, so TS14 trips (R456) and blows the lowest position of the evidence counter (R452). That the reset state is
the one without main power, with MRAM and OTP never written, is the model's choice (log entry 7). -/
def Obligations.ResetHoldsTheBuiltInState : Prop :=
  State.reset.boot.pwrOk = false ∧ State.reset.pending = [] ∧ OtpSound State.reset.otp ∧
  (∃ t : State, step State.reset = .next t ∧ t.otp = []) ∧
  (∀ r, ∃ u : State, Goes (.pwrOkRise r) State.reset u ∧ u.spn.domains = 2 ∧ u.emb.powerCycles = 1 ∧ u.boot.pwrOk = true ∧
    ∀ t : State, (t = State.reset ∨ t = u) →
      (∀ n, (t.slot n).state = .held) ∧ (∀ i, (t.str i).driven = false) ∧
      (∀ p, (t.port p).mode = .own ∧ t.portPins p = {} ∧ (t.port p).bank = {}) ∧
      (∀ w, t.otpWord w = if t.boot.pwrOk = true ∧ w = 104 then 1 else 0) ∧ t.image = none ∧ (∀ q, (t.queue q).state = .closed))

/-- Every step keeps the OTP array sound. From every state whose OTP array is sound, whatever command is in front or
with none, a step leads to a state whose OTP array is sound: in its canonical form, with word numbers below 1,024
and words below 2^64. It rests on every command's meaning, since trips, transitions, advances and starts blow bits.
-/
def Obligations.StepKeepsTheOtpArray : Prop :=
  ∀ s t : State, OtpSound s.otp → step s = .next t → OtpSound t.otp

/-- No command of the table ever clears an OTP bit or touches the commands that wait. For every command and every
state: in the next state every OTP bit that was 1 is 1, and the queue of waiting commands is as it was. So the
evidence counter never falls (R452, R453), the life-cycle codewords only gain bits (R412), and no command takes
another out of the queue. -/
def Obligations.CommandsOnlyBlowBits : Prop :=
  ∀ (c : Instr) (s t : State), Goes c s t → OtpKept s.otp t.otp ∧ t.pending = s.pending
end

