-- ==== Sys2Proof/Laws/Bytes.lean ====
section
/-! SUPPORT. The lengths of the byte strings that the helpers build. -/
namespace Sys2Proof

/-- A number in n bytes has n bytes. -/
@[simp] theorem le_length (n v : Nat) : (le n v).length = n := by
  induction n generalizing v with
  | zero => rfl
  | succ n ih => simp [le, ih]

/-- A big-endian number in n bytes has n bytes. -/
@[simp] theorem be_length (n v : Nat) : (be n v).length = n := by simp [be]

/-- n zero bytes are n bytes. -/
@[simp] theorem zeros_length (n : Nat) : (zeros n).length = n := by simp [zeros]

/-- Bytes cut or filled to n are n bytes. -/
@[simp] theorem fixLen_length (n : Nat) (b : Bytes) : (fixLen n b).length = n := by
  induction n generalizing b with
  | zero => cases b <;> rfl
  | succ n ih => cases b <;> simp [fixLen, ih]

/-- Bytes of the right length are not changed by the cut. -/
theorem fixLen_self (b : Bytes) : fixLen b.length b = b := by
  induction b with
  | nil => rfl
  | cons x b ih => simp [fixLen, ih]

/-- A slice of n bytes is n bytes. -/
@[simp] theorem slice_length (b : Bytes) (off n : Nat) : (slice b off n).length = n := by simp [slice]

/-- A SHA-256 digest is 32 bytes. -/
@[simp] theorem sha256_length (b : Bytes) : (Machine.sha256 b).length = 32 := by simp [Machine.sha256]

/-- A SHA-384 digest is 48 bytes. -/
@[simp] theorem sha384_length (b : Bytes) : (Machine.sha384 b).length = 48 := by simp [Machine.sha384]

/-- An HMAC is 48 bytes. -/
@[simp] theorem hmac384_length (k b : Bytes) : (Machine.hmac384 k b).length = 48 := by simp [Machine.hmac384]

end Sys2Proof
end

