-- ==== Sys2Proof/Laws/Tab.lean ====
section
/-! SUPPORT. The laws of the sparse tables: reading after writing, and the canonical form. -/
namespace Sys2Proof.Tab
variable {α : Type}

/-- Deleting a key leaves its default. -/
@[simp] theorem get_del_same (t : Tab α) (k : Nat) (d : α) : get (del t k) k d = d := by
  induction t with
  | nil => rfl
  | cons p t ih =>
    obtain ⟨j, v⟩ := p
    by_cases h : j = k <;> simp [del, get, h, ih]

/-- Deleting a key leaves every other key as it was. -/
theorem get_del_ne (t : Tab α) {k j : Nat} (d : α) (h : j ≠ k) : get (del t k) j d = get t j d := by
  induction t with
  | nil => rfl
  | cons p t ih =>
    obtain ⟨i, v⟩ := p
    by_cases hk : i = k
    · simp [del, get, hk, ih, Ne.symm h]
    · by_cases hj : i = j
      · subst hj; simp [del, get, hk]
      · simp [del, get, hk, hj, ih]

/-- Inserting a key makes it read the value. -/
@[simp] theorem get_ins_same (t : Tab α) (k : Nat) (d v : α) : get (ins t k v) k d = v := by
  induction t with
  | nil => simp [ins, get]
  | cons p t ih =>
    obtain ⟨j, w⟩ := p
    unfold ins
    by_cases h1 : k < j
    · simp [h1, get]
    · by_cases h2 : j = k <;> simp [h1, h2, get, ih]

/-- Inserting a key leaves every other key as it was. -/
theorem get_ins_ne (t : Tab α) {k j : Nat} (d v : α) (h : j ≠ k) : get (ins t k v) j d = get t j d := by
  induction t with
  | nil => simp [ins, get, Ne.symm h]
  | cons p t ih =>
    obtain ⟨i, w⟩ := p
    unfold ins
    by_cases h1 : k < i
    · simp [h1, get, Ne.symm h]
    · by_cases h2 : i = k
      · simp [h2, get, Ne.symm h]
      · by_cases h3 : i = j
        · subst h3; simp [h1, h2, get]
        · simp [h1, h2, h3, get, ih]

/-! ### Bounds on the keys -/

/-- Deleting an entry keeps every bound on the keys. -/
theorem above_del {t : Tab α} {b : Nat} (k : Nat) (h : above t b = true) : above (del t k) b = true := by
  induction t with
  | nil => rfl
  | cons p t ih =>
    obtain ⟨j, v⟩ := p
    simp only [above, List.all_cons, Bool.and_eq_true, decide_eq_true_eq] at h
    by_cases hk : j = k
    · simpa [del, hk] using ih h.2
    · have := ih h.2
      simp only [above] at this
      simp [del, hk, above, h.1, this]

/-- Inserting a key above a bound keeps the bound. -/
theorem above_ins {t : Tab α} {b k : Nat} (v : α) (hk : b < k) (h : above t b = true) : above (ins t k v) b = true := by
  induction t with
  | nil => simp [ins, above, hk]
  | cons p t ih =>
    obtain ⟨j, w⟩ := p
    simp only [above, List.all_cons, Bool.and_eq_true, decide_eq_true_eq] at h
    unfold ins
    by_cases h1 : k < j
    · simp [h1, above, hk, h.1]; simpa [above] using h.2
    · by_cases h2 : j = k
      · simp only [h2, Nat.lt_irrefl, if_false, if_true, above, List.all_cons, Bool.and_eq_true, decide_eq_true_eq]
        exact ⟨hk, h.2⟩
      · have := ih h.2
        simp only [above] at this
        simp [h1, h2, above, h.1, this]

/-- A bound on the keys holds of every smaller bound. -/
theorem above_mono {t : Tab α} {a b : Nat} (hab : a ≤ b) (h : above t b = true) : above t a = true := by
  simp only [above, List.all_eq_true, decide_eq_true_eq] at *
  intro p hp
  exact Nat.lt_of_le_of_lt hab (h p hp)

variable [DecidableEq α]

/-- A key reads the value that was set. -/
@[simp] theorem get_set_same (t : Tab α) (k : Nat) (d v : α) : get (set t k d v) k d = v := by
  by_cases h : v = d <;> simp [set, h]

/-- Setting a key leaves every other key as it was. -/
theorem get_set_ne (t : Tab α) {k j : Nat} (d v : α) (h : j ≠ k) : get (set t k d v) j d = get t j d := by
  by_cases hv : v = d
  · simp [set, hv, get_del_ne t d h]
  · simp [set, hv, get_ins_ne t d v h]

/-- A key reads what its change makes of it. -/
@[simp] theorem get_upd_same (t : Tab α) (k : Nat) (d : α) (f : α → α) : get (upd t k d f) k d = f (get t k d) := by
  simp [upd]

/-- Changing a key leaves every other key as it was. -/
theorem get_upd_ne (t : Tab α) {k j : Nat} (d : α) (f : α → α) (h : j ≠ k) : get (upd t k d f) j d = get t j d := by
  simp [upd, get_set_ne t d _ h]

/-! ### The canonical form -/

/-- Deleting keeps the canonical form. -/
theorem wf_del {t : Tab α} {d : α} (k : Nat) (h : wf d t = true) : wf d (del t k) = true := by
  induction t with
  | nil => rfl
  | cons p t ih =>
    obtain ⟨j, v⟩ := p
    simp only [wf, Bool.and_eq_true, decide_eq_true_eq] at h
    by_cases hk : j = k
    · simpa [del, hk] using ih h.2
    · simp [del, hk, wf, h.1.1, ih h.2, above_del k h.1.2]

/-- Inserting a value that is not the default keeps the canonical form. -/
theorem wf_ins {t : Tab α} {d v : α} (k : Nat) (hv : v ≠ d) (h : wf d t = true) : wf d (ins t k v) = true := by
  induction t with
  | nil => simp [ins, wf, above, hv]
  | cons p t ih =>
    obtain ⟨j, w⟩ := p
    have h0 := h
    simp only [wf, Bool.and_eq_true, decide_eq_true_eq] at h
    unfold ins
    by_cases h1 : k < j
    · simp only [h1, if_true, wf, Bool.and_eq_true, decide_eq_true_eq]
      refine ⟨⟨hv, ?_⟩, ?_⟩
      · simp only [above, List.all_cons, Bool.and_eq_true, decide_eq_true_eq]
        exact ⟨h1, above_mono (Nat.le_of_lt h1) h.1.2⟩
      · simpa [wf] using h0
    · by_cases h2 : j = k
      · subst h2; simp [wf, hv, h.1.2, h.2]
      · have hlt : j < k := by omega
        simp [h1, h2, wf, h.1.1, ih h.2, above_ins v hlt h.1.2]

/-- Setting a key keeps the canonical form. -/
theorem wf_set {t : Tab α} {d : α} (k : Nat) (v : α) (h : wf d t = true) : wf d (set t k d v) = true := by
  by_cases hv : v = d
  · simpa [set, hv] using wf_del k h
  · simpa [set, hv] using wf_ins k hv h

/-- Changing a key keeps the canonical form. -/
theorem wf_upd {t : Tab α} {d : α} (k : Nat) (f : α → α) (h : wf d t = true) : wf d (upd t k d f) = true :=
  wf_set k _ h

end Sys2Proof.Tab
end

