-- ==== Sys2Proof/Laws/State.lean ====
section
/-! SUPPORT. The small laws of the state's named updates: what each leaves as it was, and what reading after it gives. -/
namespace Sys2Proof.Machine

/-! ### What an update leaves as it was -/

/-- Only draws can change. -/
@[simp] theorem State.drawn_keeps (s : State) :
    (s.drawn).spn = s.spn ∧ (s.drawn).boot = s.boot ∧ (s.drawn).strs = s.strs ∧
    (s.drawn).apa = s.apa ∧ (s.drawn).pol = s.pol ∧ (s.drawn).fit = s.fit ∧
    (s.drawn).bde = s.bde ∧ (s.drawn).hma = s.hma ∧ (s.drawn).cme = s.cme ∧
    (s.drawn).rfg = s.rfg ∧ (s.drawn).atr = s.atr ∧ (s.drawn).rfu = s.rfu ∧
    (s.drawn).cby = s.cby ∧ (s.drawn).cru = s.cru ∧ (s.drawn).otp = s.otp ∧
    (s.drawn).emb = s.emb ∧ (s.drawn).wwu = s.wwu ∧ (s.drawn).lgb = s.lgb ∧
    (s.drawn).io = s.io ∧ (s.drawn).pending = s.pending := by
  simp [State.drawn]

/-- Only otp can change. -/
@[simp] theorem State.blow_keeps (s : State) (w mask : Nat) :
    (s.blow w mask).spn = s.spn ∧ (s.blow w mask).boot = s.boot ∧ (s.blow w mask).strs = s.strs ∧
    (s.blow w mask).apa = s.apa ∧ (s.blow w mask).pol = s.pol ∧ (s.blow w mask).fit = s.fit ∧
    (s.blow w mask).bde = s.bde ∧ (s.blow w mask).hma = s.hma ∧ (s.blow w mask).cme = s.cme ∧
    (s.blow w mask).rfg = s.rfg ∧ (s.blow w mask).atr = s.atr ∧ (s.blow w mask).rfu = s.rfu ∧
    (s.blow w mask).cby = s.cby ∧ (s.blow w mask).cru = s.cru ∧ (s.blow w mask).emb = s.emb ∧
    (s.blow w mask).wwu = s.wwu ∧ (s.blow w mask).lgb = s.lgb ∧ (s.blow w mask).io = s.io ∧
    (s.blow w mask).draws = s.draws ∧ (s.blow w mask).pending = s.pending := by
  simp [State.blow]

/-- Only cme can change. -/
@[simp] theorem State.updQueue_keeps (s : State) (q : Nat) (f : Queue → Queue) :
    (s.updQueue q f).spn = s.spn ∧ (s.updQueue q f).boot = s.boot ∧ (s.updQueue q f).strs = s.strs ∧
    (s.updQueue q f).apa = s.apa ∧ (s.updQueue q f).pol = s.pol ∧ (s.updQueue q f).fit = s.fit ∧
    (s.updQueue q f).bde = s.bde ∧ (s.updQueue q f).hma = s.hma ∧ (s.updQueue q f).rfg = s.rfg ∧
    (s.updQueue q f).atr = s.atr ∧ (s.updQueue q f).rfu = s.rfu ∧ (s.updQueue q f).cby = s.cby ∧
    (s.updQueue q f).cru = s.cru ∧ (s.updQueue q f).otp = s.otp ∧ (s.updQueue q f).emb = s.emb ∧
    (s.updQueue q f).wwu = s.wwu ∧ (s.updQueue q f).lgb = s.lgb ∧ (s.updQueue q f).io = s.io ∧
    (s.updQueue q f).draws = s.draws ∧ (s.updQueue q f).pending = s.pending := by
  simp [State.updQueue]

/-- Only cme can change. -/
@[simp] theorem State.updFn_keeps (s : State) (n : Nat) (f : FnBlock → FnBlock) :
    (s.updFn n f).spn = s.spn ∧ (s.updFn n f).boot = s.boot ∧ (s.updFn n f).strs = s.strs ∧
    (s.updFn n f).apa = s.apa ∧ (s.updFn n f).pol = s.pol ∧ (s.updFn n f).fit = s.fit ∧
    (s.updFn n f).bde = s.bde ∧ (s.updFn n f).hma = s.hma ∧ (s.updFn n f).rfg = s.rfg ∧
    (s.updFn n f).atr = s.atr ∧ (s.updFn n f).rfu = s.rfu ∧ (s.updFn n f).cby = s.cby ∧
    (s.updFn n f).cru = s.cru ∧ (s.updFn n f).otp = s.otp ∧ (s.updFn n f).emb = s.emb ∧
    (s.updFn n f).wwu = s.wwu ∧ (s.updFn n f).lgb = s.lgb ∧ (s.updFn n f).io = s.io ∧
    (s.updFn n f).draws = s.draws ∧ (s.updFn n f).pending = s.pending := by
  simp [State.updFn]

/-- Only bde can change. -/
@[simp] theorem State.setContext_keeps (s : State) (n : Nat) (c : Option Context) :
    (s.setContext n c).spn = s.spn ∧ (s.setContext n c).boot = s.boot ∧ (s.setContext n c).strs = s.strs ∧
    (s.setContext n c).apa = s.apa ∧ (s.setContext n c).pol = s.pol ∧ (s.setContext n c).fit = s.fit ∧
    (s.setContext n c).hma = s.hma ∧ (s.setContext n c).cme = s.cme ∧ (s.setContext n c).rfg = s.rfg ∧
    (s.setContext n c).atr = s.atr ∧ (s.setContext n c).rfu = s.rfu ∧ (s.setContext n c).cby = s.cby ∧
    (s.setContext n c).cru = s.cru ∧ (s.setContext n c).otp = s.otp ∧ (s.setContext n c).emb = s.emb ∧
    (s.setContext n c).wwu = s.wwu ∧ (s.setContext n c).lgb = s.lgb ∧ (s.setContext n c).io = s.io ∧
    (s.setContext n c).draws = s.draws ∧ (s.setContext n c).pending = s.pending := by
  simp [State.setContext]

/-- Only hma can change. -/
@[simp] theorem State.updLane_keeps (s : State) (n : Nat) (f : Lane → Lane) :
    (s.updLane n f).spn = s.spn ∧ (s.updLane n f).boot = s.boot ∧ (s.updLane n f).strs = s.strs ∧
    (s.updLane n f).apa = s.apa ∧ (s.updLane n f).pol = s.pol ∧ (s.updLane n f).fit = s.fit ∧
    (s.updLane n f).bde = s.bde ∧ (s.updLane n f).cme = s.cme ∧ (s.updLane n f).rfg = s.rfg ∧
    (s.updLane n f).atr = s.atr ∧ (s.updLane n f).rfu = s.rfu ∧ (s.updLane n f).cby = s.cby ∧
    (s.updLane n f).cru = s.cru ∧ (s.updLane n f).otp = s.otp ∧ (s.updLane n f).emb = s.emb ∧
    (s.updLane n f).wwu = s.wwu ∧ (s.updLane n f).lgb = s.lgb ∧ (s.updLane n f).io = s.io ∧
    (s.updLane n f).draws = s.draws ∧ (s.updLane n f).pending = s.pending := by
  simp [State.updLane]

/-- Only apa can change. -/
@[simp] theorem State.updPort_keeps (s : State) (p : Nat) (f : Port → Port) :
    (s.updPort p f).spn = s.spn ∧ (s.updPort p f).boot = s.boot ∧ (s.updPort p f).strs = s.strs ∧
    (s.updPort p f).pol = s.pol ∧ (s.updPort p f).fit = s.fit ∧ (s.updPort p f).bde = s.bde ∧
    (s.updPort p f).hma = s.hma ∧ (s.updPort p f).cme = s.cme ∧ (s.updPort p f).rfg = s.rfg ∧
    (s.updPort p f).atr = s.atr ∧ (s.updPort p f).rfu = s.rfu ∧ (s.updPort p f).cby = s.cby ∧
    (s.updPort p f).cru = s.cru ∧ (s.updPort p f).otp = s.otp ∧ (s.updPort p f).emb = s.emb ∧
    (s.updPort p f).wwu = s.wwu ∧ (s.updPort p f).lgb = s.lgb ∧ (s.updPort p f).io = s.io ∧
    (s.updPort p f).draws = s.draws ∧ (s.updPort p f).pending = s.pending := by
  simp [State.updPort]

/-- Only strs can change. -/
@[simp] theorem State.updSlot_keeps (s : State) (n : Nat) (f : Slot → Slot) :
    (s.updSlot n f).spn = s.spn ∧ (s.updSlot n f).boot = s.boot ∧ (s.updSlot n f).apa = s.apa ∧
    (s.updSlot n f).pol = s.pol ∧ (s.updSlot n f).fit = s.fit ∧ (s.updSlot n f).bde = s.bde ∧
    (s.updSlot n f).hma = s.hma ∧ (s.updSlot n f).cme = s.cme ∧ (s.updSlot n f).rfg = s.rfg ∧
    (s.updSlot n f).atr = s.atr ∧ (s.updSlot n f).rfu = s.rfu ∧ (s.updSlot n f).cby = s.cby ∧
    (s.updSlot n f).cru = s.cru ∧ (s.updSlot n f).otp = s.otp ∧ (s.updSlot n f).emb = s.emb ∧
    (s.updSlot n f).wwu = s.wwu ∧ (s.updSlot n f).lgb = s.lgb ∧ (s.updSlot n f).io = s.io ∧
    (s.updSlot n f).draws = s.draws ∧ (s.updSlot n f).pending = s.pending := by
  simp [State.updSlot]

/-- Only strs can change. -/
@[simp] theorem State.updStr_keeps (s : State) (i : Nat) (f : Str → Str) :
    (s.updStr i f).spn = s.spn ∧ (s.updStr i f).boot = s.boot ∧ (s.updStr i f).apa = s.apa ∧
    (s.updStr i f).pol = s.pol ∧ (s.updStr i f).fit = s.fit ∧ (s.updStr i f).bde = s.bde ∧
    (s.updStr i f).hma = s.hma ∧ (s.updStr i f).cme = s.cme ∧ (s.updStr i f).rfg = s.rfg ∧
    (s.updStr i f).atr = s.atr ∧ (s.updStr i f).rfu = s.rfu ∧ (s.updStr i f).cby = s.cby ∧
    (s.updStr i f).cru = s.cru ∧ (s.updStr i f).otp = s.otp ∧ (s.updStr i f).emb = s.emb ∧
    (s.updStr i f).wwu = s.wwu ∧ (s.updStr i f).lgb = s.lgb ∧ (s.updStr i f).io = s.io ∧
    (s.updStr i f).draws = s.draws ∧ (s.updStr i f).pending = s.pending := by
  simp [State.updStr]

/-- Only strs can change. -/
@[simp] theorem State.updEdge_keeps (s : State) (i : Nat) (f : Edge → Edge) :
    (s.updEdge i f).spn = s.spn ∧ (s.updEdge i f).boot = s.boot ∧ (s.updEdge i f).apa = s.apa ∧
    (s.updEdge i f).pol = s.pol ∧ (s.updEdge i f).fit = s.fit ∧ (s.updEdge i f).bde = s.bde ∧
    (s.updEdge i f).hma = s.hma ∧ (s.updEdge i f).cme = s.cme ∧ (s.updEdge i f).rfg = s.rfg ∧
    (s.updEdge i f).atr = s.atr ∧ (s.updEdge i f).rfu = s.rfu ∧ (s.updEdge i f).cby = s.cby ∧
    (s.updEdge i f).cru = s.cru ∧ (s.updEdge i f).otp = s.otp ∧ (s.updEdge i f).emb = s.emb ∧
    (s.updEdge i f).wwu = s.wwu ∧ (s.updEdge i f).lgb = s.lgb ∧ (s.updEdge i f).io = s.io ∧
    (s.updEdge i f).draws = s.draws ∧ (s.updEdge i f).pending = s.pending := by
  simp [State.updEdge]

/-- Only emb can change. -/
@[simp] theorem State.updSource_keeps (s : State) (i : Nat) (f : Source → Source) :
    (s.updSource i f).spn = s.spn ∧ (s.updSource i f).boot = s.boot ∧ (s.updSource i f).strs = s.strs ∧
    (s.updSource i f).apa = s.apa ∧ (s.updSource i f).pol = s.pol ∧ (s.updSource i f).fit = s.fit ∧
    (s.updSource i f).bde = s.bde ∧ (s.updSource i f).hma = s.hma ∧ (s.updSource i f).cme = s.cme ∧
    (s.updSource i f).rfg = s.rfg ∧ (s.updSource i f).atr = s.atr ∧ (s.updSource i f).rfu = s.rfu ∧
    (s.updSource i f).cby = s.cby ∧ (s.updSource i f).cru = s.cru ∧ (s.updSource i f).otp = s.otp ∧
    (s.updSource i f).wwu = s.wwu ∧ (s.updSource i f).lgb = s.lgb ∧ (s.updSource i f).io = s.io ∧
    (s.updSource i f).draws = s.draws ∧ (s.updSource i f).pending = s.pending := by
  simp [State.updSource]

/-- Only wwu can change. -/
@[simp] theorem State.updChan_keeps (s : State) (n : Nat) (f : Channel → Channel) :
    (s.updChan n f).spn = s.spn ∧ (s.updChan n f).boot = s.boot ∧ (s.updChan n f).strs = s.strs ∧
    (s.updChan n f).apa = s.apa ∧ (s.updChan n f).pol = s.pol ∧ (s.updChan n f).fit = s.fit ∧
    (s.updChan n f).bde = s.bde ∧ (s.updChan n f).hma = s.hma ∧ (s.updChan n f).cme = s.cme ∧
    (s.updChan n f).rfg = s.rfg ∧ (s.updChan n f).atr = s.atr ∧ (s.updChan n f).rfu = s.rfu ∧
    (s.updChan n f).cby = s.cby ∧ (s.updChan n f).cru = s.cru ∧ (s.updChan n f).otp = s.otp ∧
    (s.updChan n f).emb = s.emb ∧ (s.updChan n f).lgb = s.lgb ∧ (s.updChan n f).io = s.io ∧
    (s.updChan n f).draws = s.draws ∧ (s.updChan n f).pending = s.pending := by
  simp [State.updChan]

/-- Only cby can change. -/
@[simp] theorem State.updCart_keeps (s : State) (k : Nat) (f : Cart → Cart) :
    (s.updCart k f).spn = s.spn ∧ (s.updCart k f).boot = s.boot ∧ (s.updCart k f).strs = s.strs ∧
    (s.updCart k f).apa = s.apa ∧ (s.updCart k f).pol = s.pol ∧ (s.updCart k f).fit = s.fit ∧
    (s.updCart k f).bde = s.bde ∧ (s.updCart k f).hma = s.hma ∧ (s.updCart k f).cme = s.cme ∧
    (s.updCart k f).rfg = s.rfg ∧ (s.updCart k f).atr = s.atr ∧ (s.updCart k f).rfu = s.rfu ∧
    (s.updCart k f).cru = s.cru ∧ (s.updCart k f).otp = s.otp ∧ (s.updCart k f).emb = s.emb ∧
    (s.updCart k f).wwu = s.wwu ∧ (s.updCart k f).lgb = s.lgb ∧ (s.updCart k f).io = s.io ∧
    (s.updCart k f).draws = s.draws ∧ (s.updCart k f).pending = s.pending := by
  simp [State.updCart]

/-- Only rfu can change. -/
@[simp] theorem State.updJournal_keeps (s : State) (d : Nat) (f : Journal → Journal) :
    (s.updJournal d f).spn = s.spn ∧ (s.updJournal d f).boot = s.boot ∧ (s.updJournal d f).strs = s.strs ∧
    (s.updJournal d f).apa = s.apa ∧ (s.updJournal d f).pol = s.pol ∧ (s.updJournal d f).fit = s.fit ∧
    (s.updJournal d f).bde = s.bde ∧ (s.updJournal d f).hma = s.hma ∧ (s.updJournal d f).cme = s.cme ∧
    (s.updJournal d f).rfg = s.rfg ∧ (s.updJournal d f).atr = s.atr ∧ (s.updJournal d f).cby = s.cby ∧
    (s.updJournal d f).cru = s.cru ∧ (s.updJournal d f).otp = s.otp ∧ (s.updJournal d f).emb = s.emb ∧
    (s.updJournal d f).wwu = s.wwu ∧ (s.updJournal d f).lgb = s.lgb ∧ (s.updJournal d f).io = s.io ∧
    (s.updJournal d f).draws = s.draws ∧ (s.updJournal d f).pending = s.pending := by
  simp [State.updJournal]

/-- Only rfu can change. -/
@[simp] theorem State.updOp_keeps (s : State) (d : Nat) (f : RfuOp → RfuOp) :
    (s.updOp d f).spn = s.spn ∧ (s.updOp d f).boot = s.boot ∧ (s.updOp d f).strs = s.strs ∧
    (s.updOp d f).apa = s.apa ∧ (s.updOp d f).pol = s.pol ∧ (s.updOp d f).fit = s.fit ∧
    (s.updOp d f).bde = s.bde ∧ (s.updOp d f).hma = s.hma ∧ (s.updOp d f).cme = s.cme ∧
    (s.updOp d f).rfg = s.rfg ∧ (s.updOp d f).atr = s.atr ∧ (s.updOp d f).cby = s.cby ∧
    (s.updOp d f).cru = s.cru ∧ (s.updOp d f).otp = s.otp ∧ (s.updOp d f).emb = s.emb ∧
    (s.updOp d f).wwu = s.wwu ∧ (s.updOp d f).lgb = s.lgb ∧ (s.updOp d f).io = s.io ∧
    (s.updOp d f).draws = s.draws ∧ (s.updOp d f).pending = s.pending := by
  simp [State.updOp]

/-- Only lgb can change. -/
@[simp] theorem State.updRecord_keeps (s : State) (q : Nat) (f : LogRec → LogRec) :
    (s.updRecord q f).spn = s.spn ∧ (s.updRecord q f).boot = s.boot ∧ (s.updRecord q f).strs = s.strs ∧
    (s.updRecord q f).apa = s.apa ∧ (s.updRecord q f).pol = s.pol ∧ (s.updRecord q f).fit = s.fit ∧
    (s.updRecord q f).bde = s.bde ∧ (s.updRecord q f).hma = s.hma ∧ (s.updRecord q f).cme = s.cme ∧
    (s.updRecord q f).rfg = s.rfg ∧ (s.updRecord q f).atr = s.atr ∧ (s.updRecord q f).rfu = s.rfu ∧
    (s.updRecord q f).cby = s.cby ∧ (s.updRecord q f).cru = s.cru ∧ (s.updRecord q f).otp = s.otp ∧
    (s.updRecord q f).emb = s.emb ∧ (s.updRecord q f).wwu = s.wwu ∧ (s.updRecord q f).io = s.io ∧
    (s.updRecord q f).draws = s.draws ∧ (s.updRecord q f).pending = s.pending := by
  simp [State.updRecord]

/-- Only rfg can change. -/
@[simp] theorem State.updBuilding_keeps (s : State) (i : Nat) (f : Building → Building) :
    (s.updBuilding i f).spn = s.spn ∧ (s.updBuilding i f).boot = s.boot ∧ (s.updBuilding i f).strs = s.strs ∧
    (s.updBuilding i f).apa = s.apa ∧ (s.updBuilding i f).pol = s.pol ∧ (s.updBuilding i f).fit = s.fit ∧
    (s.updBuilding i f).bde = s.bde ∧ (s.updBuilding i f).hma = s.hma ∧ (s.updBuilding i f).cme = s.cme ∧
    (s.updBuilding i f).atr = s.atr ∧ (s.updBuilding i f).rfu = s.rfu ∧ (s.updBuilding i f).cby = s.cby ∧
    (s.updBuilding i f).cru = s.cru ∧ (s.updBuilding i f).otp = s.otp ∧ (s.updBuilding i f).emb = s.emb ∧
    (s.updBuilding i f).wwu = s.wwu ∧ (s.updBuilding i f).lgb = s.lgb ∧ (s.updBuilding i f).io = s.io ∧
    (s.updBuilding i f).draws = s.draws ∧ (s.updBuilding i f).pending = s.pending := by
  simp [State.updBuilding]

/-- Only boot can change. -/
@[simp] theorem State.setUpdate_keeps (s : State) (u : Option Update) :
    (s.setUpdate u).spn = s.spn ∧ (s.setUpdate u).strs = s.strs ∧ (s.setUpdate u).apa = s.apa ∧
    (s.setUpdate u).pol = s.pol ∧ (s.setUpdate u).fit = s.fit ∧ (s.setUpdate u).bde = s.bde ∧
    (s.setUpdate u).hma = s.hma ∧ (s.setUpdate u).cme = s.cme ∧ (s.setUpdate u).rfg = s.rfg ∧
    (s.setUpdate u).atr = s.atr ∧ (s.setUpdate u).rfu = s.rfu ∧ (s.setUpdate u).cby = s.cby ∧
    (s.setUpdate u).cru = s.cru ∧ (s.setUpdate u).otp = s.otp ∧ (s.setUpdate u).emb = s.emb ∧
    (s.setUpdate u).wwu = s.wwu ∧ (s.setUpdate u).lgb = s.lgb ∧ (s.setUpdate u).io = s.io ∧
    (s.setUpdate u).draws = s.draws ∧ (s.setUpdate u).pending = s.pending := by
  simp [State.setUpdate]

/-- Only io can change. -/
@[simp] theorem State.returns_keeps (s : State) (v : Nat) :
    (s.returns v).spn = s.spn ∧ (s.returns v).boot = s.boot ∧ (s.returns v).strs = s.strs ∧
    (s.returns v).apa = s.apa ∧ (s.returns v).pol = s.pol ∧ (s.returns v).fit = s.fit ∧
    (s.returns v).bde = s.bde ∧ (s.returns v).hma = s.hma ∧ (s.returns v).cme = s.cme ∧
    (s.returns v).rfg = s.rfg ∧ (s.returns v).atr = s.atr ∧ (s.returns v).rfu = s.rfu ∧
    (s.returns v).cby = s.cby ∧ (s.returns v).cru = s.cru ∧ (s.returns v).otp = s.otp ∧
    (s.returns v).emb = s.emb ∧ (s.returns v).wwu = s.wwu ∧ (s.returns v).lgb = s.lgb ∧
    (s.returns v).draws = s.draws ∧ (s.returns v).pending = s.pending := by
  simp [State.returns]

/-- Only fit can change. -/
@[simp] theorem State.updRec_keeps (s : State) (d : Nat) (f : FlashRec → FlashRec) :
    (s.updRec d f).spn = s.spn ∧ (s.updRec d f).boot = s.boot ∧ (s.updRec d f).strs = s.strs ∧
    (s.updRec d f).apa = s.apa ∧ (s.updRec d f).pol = s.pol ∧ (s.updRec d f).bde = s.bde ∧
    (s.updRec d f).hma = s.hma ∧ (s.updRec d f).cme = s.cme ∧ (s.updRec d f).rfg = s.rfg ∧
    (s.updRec d f).atr = s.atr ∧ (s.updRec d f).rfu = s.rfu ∧ (s.updRec d f).cby = s.cby ∧
    (s.updRec d f).cru = s.cru ∧ (s.updRec d f).otp = s.otp ∧ (s.updRec d f).emb = s.emb ∧
    (s.updRec d f).wwu = s.wwu ∧ (s.updRec d f).lgb = s.lgb ∧ (s.updRec d f).io = s.io ∧
    (s.updRec d f).draws = s.draws ∧ (s.updRec d f).pending = s.pending := by
  simp [State.updRec]

/-- Only atr can change. -/
@[simp] theorem State.stirPsd_keeps (s : State) (offset : Nat) :
    (s.stirPsd offset).spn = s.spn ∧ (s.stirPsd offset).boot = s.boot ∧ (s.stirPsd offset).strs = s.strs ∧
    (s.stirPsd offset).apa = s.apa ∧ (s.stirPsd offset).pol = s.pol ∧ (s.stirPsd offset).fit = s.fit ∧
    (s.stirPsd offset).bde = s.bde ∧ (s.stirPsd offset).hma = s.hma ∧ (s.stirPsd offset).cme = s.cme ∧
    (s.stirPsd offset).rfg = s.rfg ∧ (s.stirPsd offset).rfu = s.rfu ∧ (s.stirPsd offset).cby = s.cby ∧
    (s.stirPsd offset).cru = s.cru ∧ (s.stirPsd offset).otp = s.otp ∧ (s.stirPsd offset).emb = s.emb ∧
    (s.stirPsd offset).wwu = s.wwu ∧ (s.stirPsd offset).lgb = s.lgb ∧ (s.stirPsd offset).io = s.io ∧
    (s.stirPsd offset).draws = s.draws ∧ (s.stirPsd offset).pending = s.pending := by
  unfold State.stirPsd; split <;> simp

/-- Only wwu can change. -/
@[simp] theorem State.badWind_keeps (s : State) :
    (s.badWind).spn = s.spn ∧ (s.badWind).boot = s.boot ∧ (s.badWind).strs = s.strs ∧
    (s.badWind).apa = s.apa ∧ (s.badWind).pol = s.pol ∧ (s.badWind).fit = s.fit ∧
    (s.badWind).bde = s.bde ∧ (s.badWind).hma = s.hma ∧ (s.badWind).cme = s.cme ∧
    (s.badWind).rfg = s.rfg ∧ (s.badWind).atr = s.atr ∧ (s.badWind).rfu = s.rfu ∧
    (s.badWind).cby = s.cby ∧ (s.badWind).cru = s.cru ∧ (s.badWind).otp = s.otp ∧
    (s.badWind).emb = s.emb ∧ (s.badWind).lgb = s.lgb ∧ (s.badWind).io = s.io ∧
    (s.badWind).draws = s.draws ∧ (s.badWind).pending = s.pending := by
  simp [State.badWind]

/-- Only emb can change. -/
@[simp] theorem State.writeDmt_keeps (s : State) :
    (s.writeDmt).spn = s.spn ∧ (s.writeDmt).boot = s.boot ∧ (s.writeDmt).strs = s.strs ∧
    (s.writeDmt).apa = s.apa ∧ (s.writeDmt).pol = s.pol ∧ (s.writeDmt).fit = s.fit ∧
    (s.writeDmt).bde = s.bde ∧ (s.writeDmt).hma = s.hma ∧ (s.writeDmt).cme = s.cme ∧
    (s.writeDmt).rfg = s.rfg ∧ (s.writeDmt).atr = s.atr ∧ (s.writeDmt).rfu = s.rfu ∧
    (s.writeDmt).cby = s.cby ∧ (s.writeDmt).cru = s.cru ∧ (s.writeDmt).otp = s.otp ∧
    (s.writeDmt).wwu = s.wwu ∧ (s.writeDmt).lgb = s.lgb ∧ (s.writeDmt).io = s.io ∧
    (s.writeDmt).draws = s.draws ∧ (s.writeDmt).pending = s.pending := by
  simp [State.writeDmt]

/-- Only spn can change. -/
@[simp] theorem State.setService_keeps (s : State) (b : Nat) (v : Bool) :
    (s.setService b v).boot = s.boot ∧ (s.setService b v).strs = s.strs ∧ (s.setService b v).apa = s.apa ∧
    (s.setService b v).pol = s.pol ∧ (s.setService b v).fit = s.fit ∧ (s.setService b v).bde = s.bde ∧
    (s.setService b v).hma = s.hma ∧ (s.setService b v).cme = s.cme ∧ (s.setService b v).rfg = s.rfg ∧
    (s.setService b v).atr = s.atr ∧ (s.setService b v).rfu = s.rfu ∧ (s.setService b v).cby = s.cby ∧
    (s.setService b v).cru = s.cru ∧ (s.setService b v).otp = s.otp ∧ (s.setService b v).emb = s.emb ∧
    (s.setService b v).wwu = s.wwu ∧ (s.setService b v).lgb = s.lgb ∧ (s.setService b v).io = s.io ∧
    (s.setService b v).draws = s.draws ∧ (s.setService b v).pending = s.pending := by
  simp [State.setService]

/-- Only spn can change. -/
@[simp] theorem State.remapped_keeps (s : State) :
    (s.remapped).boot = s.boot ∧ (s.remapped).strs = s.strs ∧ (s.remapped).apa = s.apa ∧
    (s.remapped).pol = s.pol ∧ (s.remapped).fit = s.fit ∧ (s.remapped).bde = s.bde ∧
    (s.remapped).hma = s.hma ∧ (s.remapped).cme = s.cme ∧ (s.remapped).rfg = s.rfg ∧
    (s.remapped).atr = s.atr ∧ (s.remapped).rfu = s.rfu ∧ (s.remapped).cby = s.cby ∧
    (s.remapped).cru = s.cru ∧ (s.remapped).otp = s.otp ∧ (s.remapped).emb = s.emb ∧
    (s.remapped).wwu = s.wwu ∧ (s.remapped).lgb = s.lgb ∧ (s.remapped).io = s.io ∧
    (s.remapped).draws = s.draws ∧ (s.remapped).pending = s.pending := by
  simp [State.remapped]

/-- Only cru can change. -/
@[simp] theorem State.useD0_keeps (s : State) :
    (s.useD0).spn = s.spn ∧ (s.useD0).boot = s.boot ∧ (s.useD0).strs = s.strs ∧
    (s.useD0).apa = s.apa ∧ (s.useD0).pol = s.pol ∧ (s.useD0).fit = s.fit ∧
    (s.useD0).bde = s.bde ∧ (s.useD0).hma = s.hma ∧ (s.useD0).cme = s.cme ∧
    (s.useD0).rfg = s.rfg ∧ (s.useD0).atr = s.atr ∧ (s.useD0).rfu = s.rfu ∧
    (s.useD0).cby = s.cby ∧ (s.useD0).otp = s.otp ∧ (s.useD0).emb = s.emb ∧
    (s.useD0).wwu = s.wwu ∧ (s.useD0).lgb = s.lgb ∧ (s.useD0).io = s.io ∧
    (s.useD0).draws = s.draws ∧ (s.useD0).pending = s.pending := by
  simp [State.useD0]

/-- Only hma can change. -/
@[simp] theorem State.erasePools_keeps (s : State) :
    (s.erasePools).spn = s.spn ∧ (s.erasePools).boot = s.boot ∧ (s.erasePools).strs = s.strs ∧
    (s.erasePools).apa = s.apa ∧ (s.erasePools).pol = s.pol ∧ (s.erasePools).fit = s.fit ∧
    (s.erasePools).bde = s.bde ∧ (s.erasePools).cme = s.cme ∧ (s.erasePools).rfg = s.rfg ∧
    (s.erasePools).atr = s.atr ∧ (s.erasePools).rfu = s.rfu ∧ (s.erasePools).cby = s.cby ∧
    (s.erasePools).cru = s.cru ∧ (s.erasePools).otp = s.otp ∧ (s.erasePools).emb = s.emb ∧
    (s.erasePools).wwu = s.wwu ∧ (s.erasePools).lgb = s.lgb ∧ (s.erasePools).io = s.io ∧
    (s.erasePools).draws = s.draws ∧ (s.erasePools).pending = s.pending := by
  simp [State.erasePools]

/-- Counting a change leaves every other field as the change made it. -/
@[simp] theorem Port.stir_keeps (x y : Port) :
    (x.stir y).mode = y.mode ∧ (x.stir y).decoders = y.decoders ∧ (x.stir y).pending = y.pending ∧
    (x.stir y).pulseFor = y.pulseFor ∧ (x.stir y).pendingSince = y.pendingSince ∧ (x.stir y).waitLogged = y.waitLogged ∧
    (x.stir y).pulseUntil = y.pulseUntil ∧ (x.stir y).frozenHit = y.frozenHit ∧ (x.stir y).fVddioLost = y.fVddioLost ∧
    (x.stir y).hVddioOk = y.hVddioOk ∧ (x.stir y).fVddioOk = y.fVddioOk ∧ (x.stir y).resetLow = y.resetLow ∧
    (x.stir y).csLow0 = y.csLow0 ∧ (x.stir y).csLow1 = y.csLow1 ∧ (x.stir y).csHighSince = y.csHighSince ∧
    (x.stir y).sckHigh = y.sckHigh ∧ (x.stir y).dev0 = y.dev0 ∧ (x.stir y).dev1 = y.dev1 ∧
    (x.stir y).cmdCount = y.cmdCount ∧ (x.stir y).truncCount = y.truncCount ∧ (x.stir y).intrusions = y.intrusions ∧
    (x.stir y).stalls = y.stalls ∧ (x.stir y).welAdopt = y.welAdopt ∧ (x.stir y).violations = y.violations ∧
    (x.stir y).bank0 = y.bank0 ∧ (x.stir y).bank1 = y.bank1 ∧ (x.stir y).active = y.active ∧
    (x.stir y).swapPending = y.swapPending ∧ (x.stir y).cmd = y.cmd ∧ (x.stir y).other = y.other ∧
    (x.stir y).lineIface = y.lineIface ∧ (x.stir y).pulseLowUntil = y.pulseLowUntil ∧ (x.stir y).lastRx = y.lastRx ∧
    (x.stir y).window = y.window ∧ (x.stir y).yielded = y.yielded := by
  simp [Port.stir]

/-- Counting a change leaves every other field as the change made it. -/
@[simp] theorem FlashRec.stir_keeps (x y : FlashRec) :
    (x.stir y).flashRoot = y.flashRoot ∧ (x.stir y).checkRoot = y.checkRoot ∧ (x.stir y).staleCount = y.staleCount ∧
    (x.stir y).unknownCount = y.unknownCount ∧ (x.stir y).erasedCount = y.erasedCount ∧ (x.stir y).checkMatch = y.checkMatch ∧
    (x.stir y).mismatchSeen = y.mismatchSeen ∧ (x.stir y).oldestStale = y.oldestStale ∧ (x.stir y).updateDmt = y.updateDmt ∧
    (x.stir y).epoch = y.epoch := by
  simp [FlashRec.stir]

/-! ### Reading after writing -/

/-- The changed queue is what the change makes of it. -/
@[simp] theorem State.queue_updQueue_same (s : State) (k : Nat) (f : Queue → Queue) : (s.updQueue k f).queue k = f (s.queue k) := by
  simp [State.queue, State.updQueue]

/-- Every other queue is unchanged. -/
theorem State.queue_updQueue_ne (s : State) {k j : Nat} (f : Queue → Queue) (h : j ≠ k) : (s.updQueue k f).queue j = s.queue j := by
  simp [State.queue, State.updQueue, Tab.get_upd_ne _ _ _ h]

@[simp] theorem State.fnBlock_updQueue (s : State) (k j : Nat) (f : Queue → Queue) : (s.updQueue k f).fnBlock j = s.fnBlock j := rfl
@[simp] theorem State.lane_updQueue (s : State) (k j : Nat) (f : Queue → Queue) : (s.updQueue k f).lane j = s.lane j := rfl
@[simp] theorem State.port_updQueue (s : State) (k j : Nat) (f : Queue → Queue) : (s.updQueue k f).port j = s.port j := rfl
@[simp] theorem State.slot_updQueue (s : State) (k j : Nat) (f : Queue → Queue) : (s.updQueue k f).slot j = s.slot j := rfl
@[simp] theorem State.str_updQueue (s : State) (k j : Nat) (f : Queue → Queue) : (s.updQueue k f).str j = s.str j := rfl
@[simp] theorem State.edgeMem_updQueue (s : State) (k j : Nat) (f : Queue → Queue) : (s.updQueue k f).edgeMem j = s.edgeMem j := rfl
@[simp] theorem State.source_updQueue (s : State) (k j : Nat) (f : Queue → Queue) : (s.updQueue k f).source j = s.source j := rfl
@[simp] theorem State.chan_updQueue (s : State) (k j : Nat) (f : Queue → Queue) : (s.updQueue k f).chan j = s.chan j := rfl
@[simp] theorem State.cart_updQueue (s : State) (k j : Nat) (f : Queue → Queue) : (s.updQueue k f).cart j = s.cart j := rfl
@[simp] theorem State.journal_updQueue (s : State) (k j : Nat) (f : Queue → Queue) : (s.updQueue k f).journal j = s.journal j := rfl
@[simp] theorem State.context_updQueue (s : State) (k j : Nat) (f : Queue → Queue) : (s.updQueue k f).context j = s.context j := rfl

/-- The changed fnBlock is what the change makes of it. -/
@[simp] theorem State.fnBlock_updFn_same (s : State) (k : Nat) (f : FnBlock → FnBlock) : (s.updFn k f).fnBlock k = f (s.fnBlock k) := by
  simp [State.fnBlock, State.updFn]

/-- Every other fnBlock is unchanged. -/
theorem State.fnBlock_updFn_ne (s : State) {k j : Nat} (f : FnBlock → FnBlock) (h : j ≠ k) : (s.updFn k f).fnBlock j = s.fnBlock j := by
  simp [State.fnBlock, State.updFn, Tab.get_upd_ne _ _ _ h]

@[simp] theorem State.queue_updFn (s : State) (k j : Nat) (f : FnBlock → FnBlock) : (s.updFn k f).queue j = s.queue j := rfl
@[simp] theorem State.lane_updFn (s : State) (k j : Nat) (f : FnBlock → FnBlock) : (s.updFn k f).lane j = s.lane j := rfl
@[simp] theorem State.port_updFn (s : State) (k j : Nat) (f : FnBlock → FnBlock) : (s.updFn k f).port j = s.port j := rfl
@[simp] theorem State.slot_updFn (s : State) (k j : Nat) (f : FnBlock → FnBlock) : (s.updFn k f).slot j = s.slot j := rfl
@[simp] theorem State.str_updFn (s : State) (k j : Nat) (f : FnBlock → FnBlock) : (s.updFn k f).str j = s.str j := rfl
@[simp] theorem State.edgeMem_updFn (s : State) (k j : Nat) (f : FnBlock → FnBlock) : (s.updFn k f).edgeMem j = s.edgeMem j := rfl
@[simp] theorem State.source_updFn (s : State) (k j : Nat) (f : FnBlock → FnBlock) : (s.updFn k f).source j = s.source j := rfl
@[simp] theorem State.chan_updFn (s : State) (k j : Nat) (f : FnBlock → FnBlock) : (s.updFn k f).chan j = s.chan j := rfl
@[simp] theorem State.cart_updFn (s : State) (k j : Nat) (f : FnBlock → FnBlock) : (s.updFn k f).cart j = s.cart j := rfl
@[simp] theorem State.journal_updFn (s : State) (k j : Nat) (f : FnBlock → FnBlock) : (s.updFn k f).journal j = s.journal j := rfl
@[simp] theorem State.context_updFn (s : State) (k j : Nat) (f : FnBlock → FnBlock) : (s.updFn k f).context j = s.context j := rfl

/-- The changed lane is what the change makes of it. -/
@[simp] theorem State.lane_updLane_same (s : State) (k : Nat) (f : Lane → Lane) : (s.updLane k f).lane k = f (s.lane k) := by
  simp [State.lane, State.updLane]

/-- Every other lane is unchanged. -/
theorem State.lane_updLane_ne (s : State) {k j : Nat} (f : Lane → Lane) (h : j ≠ k) : (s.updLane k f).lane j = s.lane j := by
  simp [State.lane, State.updLane, Tab.get_upd_ne _ _ _ h]

@[simp] theorem State.queue_updLane (s : State) (k j : Nat) (f : Lane → Lane) : (s.updLane k f).queue j = s.queue j := rfl
@[simp] theorem State.fnBlock_updLane (s : State) (k j : Nat) (f : Lane → Lane) : (s.updLane k f).fnBlock j = s.fnBlock j := rfl
@[simp] theorem State.port_updLane (s : State) (k j : Nat) (f : Lane → Lane) : (s.updLane k f).port j = s.port j := rfl
@[simp] theorem State.slot_updLane (s : State) (k j : Nat) (f : Lane → Lane) : (s.updLane k f).slot j = s.slot j := rfl
@[simp] theorem State.str_updLane (s : State) (k j : Nat) (f : Lane → Lane) : (s.updLane k f).str j = s.str j := rfl
@[simp] theorem State.edgeMem_updLane (s : State) (k j : Nat) (f : Lane → Lane) : (s.updLane k f).edgeMem j = s.edgeMem j := rfl
@[simp] theorem State.source_updLane (s : State) (k j : Nat) (f : Lane → Lane) : (s.updLane k f).source j = s.source j := rfl
@[simp] theorem State.chan_updLane (s : State) (k j : Nat) (f : Lane → Lane) : (s.updLane k f).chan j = s.chan j := rfl
@[simp] theorem State.cart_updLane (s : State) (k j : Nat) (f : Lane → Lane) : (s.updLane k f).cart j = s.cart j := rfl
@[simp] theorem State.journal_updLane (s : State) (k j : Nat) (f : Lane → Lane) : (s.updLane k f).journal j = s.journal j := rfl
@[simp] theorem State.context_updLane (s : State) (k j : Nat) (f : Lane → Lane) : (s.updLane k f).context j = s.context j := rfl

/-- The changed port is what the change makes of it, its stir counted. -/
@[simp] theorem State.port_updPort_same (s : State) (k : Nat) (f : Port → Port) : (s.updPort k f).port k = (s.port k).stir (f (s.port k)) := by
  simp [State.port, State.updPort]

/-- Every other port is unchanged. -/
theorem State.port_updPort_ne (s : State) {k j : Nat} (f : Port → Port) (h : j ≠ k) : (s.updPort k f).port j = s.port j := by
  simp [State.port, State.updPort, Tab.get_upd_ne _ _ _ h]

@[simp] theorem State.queue_updPort (s : State) (k j : Nat) (f : Port → Port) : (s.updPort k f).queue j = s.queue j := rfl
@[simp] theorem State.fnBlock_updPort (s : State) (k j : Nat) (f : Port → Port) : (s.updPort k f).fnBlock j = s.fnBlock j := rfl
@[simp] theorem State.lane_updPort (s : State) (k j : Nat) (f : Port → Port) : (s.updPort k f).lane j = s.lane j := rfl
@[simp] theorem State.slot_updPort (s : State) (k j : Nat) (f : Port → Port) : (s.updPort k f).slot j = s.slot j := rfl
@[simp] theorem State.str_updPort (s : State) (k j : Nat) (f : Port → Port) : (s.updPort k f).str j = s.str j := rfl
@[simp] theorem State.edgeMem_updPort (s : State) (k j : Nat) (f : Port → Port) : (s.updPort k f).edgeMem j = s.edgeMem j := rfl
@[simp] theorem State.source_updPort (s : State) (k j : Nat) (f : Port → Port) : (s.updPort k f).source j = s.source j := rfl
@[simp] theorem State.chan_updPort (s : State) (k j : Nat) (f : Port → Port) : (s.updPort k f).chan j = s.chan j := rfl
@[simp] theorem State.cart_updPort (s : State) (k j : Nat) (f : Port → Port) : (s.updPort k f).cart j = s.cart j := rfl
@[simp] theorem State.journal_updPort (s : State) (k j : Nat) (f : Port → Port) : (s.updPort k f).journal j = s.journal j := rfl
@[simp] theorem State.context_updPort (s : State) (k j : Nat) (f : Port → Port) : (s.updPort k f).context j = s.context j := rfl

/-- The changed slot is what the change makes of it. -/
@[simp] theorem State.slot_updSlot_same (s : State) (k : Nat) (f : Slot → Slot) : (s.updSlot k f).slot k = f (s.slot k) := by
  simp [State.slot, State.updSlot]

/-- Every other slot is unchanged. -/
theorem State.slot_updSlot_ne (s : State) {k j : Nat} (f : Slot → Slot) (h : j ≠ k) : (s.updSlot k f).slot j = s.slot j := by
  simp [State.slot, State.updSlot, Tab.get_upd_ne _ _ _ h]

@[simp] theorem State.queue_updSlot (s : State) (k j : Nat) (f : Slot → Slot) : (s.updSlot k f).queue j = s.queue j := rfl
@[simp] theorem State.fnBlock_updSlot (s : State) (k j : Nat) (f : Slot → Slot) : (s.updSlot k f).fnBlock j = s.fnBlock j := rfl
@[simp] theorem State.lane_updSlot (s : State) (k j : Nat) (f : Slot → Slot) : (s.updSlot k f).lane j = s.lane j := rfl
@[simp] theorem State.port_updSlot (s : State) (k j : Nat) (f : Slot → Slot) : (s.updSlot k f).port j = s.port j := rfl
@[simp] theorem State.str_updSlot (s : State) (k j : Nat) (f : Slot → Slot) : (s.updSlot k f).str j = s.str j := rfl
@[simp] theorem State.edgeMem_updSlot (s : State) (k j : Nat) (f : Slot → Slot) : (s.updSlot k f).edgeMem j = s.edgeMem j := rfl
@[simp] theorem State.source_updSlot (s : State) (k j : Nat) (f : Slot → Slot) : (s.updSlot k f).source j = s.source j := rfl
@[simp] theorem State.chan_updSlot (s : State) (k j : Nat) (f : Slot → Slot) : (s.updSlot k f).chan j = s.chan j := rfl
@[simp] theorem State.cart_updSlot (s : State) (k j : Nat) (f : Slot → Slot) : (s.updSlot k f).cart j = s.cart j := rfl
@[simp] theorem State.journal_updSlot (s : State) (k j : Nat) (f : Slot → Slot) : (s.updSlot k f).journal j = s.journal j := rfl
@[simp] theorem State.context_updSlot (s : State) (k j : Nat) (f : Slot → Slot) : (s.updSlot k f).context j = s.context j := rfl

/-- The changed str is what the change makes of it. -/
@[simp] theorem State.str_updStr_same (s : State) (k : Nat) (f : Str → Str) : (s.updStr k f).str k = f (s.str k) := by
  simp [State.str, State.updStr]

/-- Every other str is unchanged. -/
theorem State.str_updStr_ne (s : State) {k j : Nat} (f : Str → Str) (h : j ≠ k) : (s.updStr k f).str j = s.str j := by
  simp [State.str, State.updStr, Tab.get_upd_ne _ _ _ h]

@[simp] theorem State.queue_updStr (s : State) (k j : Nat) (f : Str → Str) : (s.updStr k f).queue j = s.queue j := rfl
@[simp] theorem State.fnBlock_updStr (s : State) (k j : Nat) (f : Str → Str) : (s.updStr k f).fnBlock j = s.fnBlock j := rfl
@[simp] theorem State.lane_updStr (s : State) (k j : Nat) (f : Str → Str) : (s.updStr k f).lane j = s.lane j := rfl
@[simp] theorem State.port_updStr (s : State) (k j : Nat) (f : Str → Str) : (s.updStr k f).port j = s.port j := rfl
@[simp] theorem State.slot_updStr (s : State) (k j : Nat) (f : Str → Str) : (s.updStr k f).slot j = s.slot j := rfl
@[simp] theorem State.edgeMem_updStr (s : State) (k j : Nat) (f : Str → Str) : (s.updStr k f).edgeMem j = s.edgeMem j := rfl
@[simp] theorem State.source_updStr (s : State) (k j : Nat) (f : Str → Str) : (s.updStr k f).source j = s.source j := rfl
@[simp] theorem State.chan_updStr (s : State) (k j : Nat) (f : Str → Str) : (s.updStr k f).chan j = s.chan j := rfl
@[simp] theorem State.cart_updStr (s : State) (k j : Nat) (f : Str → Str) : (s.updStr k f).cart j = s.cart j := rfl
@[simp] theorem State.journal_updStr (s : State) (k j : Nat) (f : Str → Str) : (s.updStr k f).journal j = s.journal j := rfl
@[simp] theorem State.context_updStr (s : State) (k j : Nat) (f : Str → Str) : (s.updStr k f).context j = s.context j := rfl

/-- The changed edgeMem is what the change makes of it. -/
@[simp] theorem State.edgeMem_updEdge_same (s : State) (k : Nat) (f : Edge → Edge) : (s.updEdge k f).edgeMem k = f (s.edgeMem k) := by
  simp [State.edgeMem, State.updEdge]

/-- Every other edgeMem is unchanged. -/
theorem State.edgeMem_updEdge_ne (s : State) {k j : Nat} (f : Edge → Edge) (h : j ≠ k) : (s.updEdge k f).edgeMem j = s.edgeMem j := by
  simp [State.edgeMem, State.updEdge, Tab.get_upd_ne _ _ _ h]

@[simp] theorem State.queue_updEdge (s : State) (k j : Nat) (f : Edge → Edge) : (s.updEdge k f).queue j = s.queue j := rfl
@[simp] theorem State.fnBlock_updEdge (s : State) (k j : Nat) (f : Edge → Edge) : (s.updEdge k f).fnBlock j = s.fnBlock j := rfl
@[simp] theorem State.lane_updEdge (s : State) (k j : Nat) (f : Edge → Edge) : (s.updEdge k f).lane j = s.lane j := rfl
@[simp] theorem State.port_updEdge (s : State) (k j : Nat) (f : Edge → Edge) : (s.updEdge k f).port j = s.port j := rfl
@[simp] theorem State.slot_updEdge (s : State) (k j : Nat) (f : Edge → Edge) : (s.updEdge k f).slot j = s.slot j := rfl
@[simp] theorem State.str_updEdge (s : State) (k j : Nat) (f : Edge → Edge) : (s.updEdge k f).str j = s.str j := rfl
@[simp] theorem State.source_updEdge (s : State) (k j : Nat) (f : Edge → Edge) : (s.updEdge k f).source j = s.source j := rfl
@[simp] theorem State.chan_updEdge (s : State) (k j : Nat) (f : Edge → Edge) : (s.updEdge k f).chan j = s.chan j := rfl
@[simp] theorem State.cart_updEdge (s : State) (k j : Nat) (f : Edge → Edge) : (s.updEdge k f).cart j = s.cart j := rfl
@[simp] theorem State.journal_updEdge (s : State) (k j : Nat) (f : Edge → Edge) : (s.updEdge k f).journal j = s.journal j := rfl
@[simp] theorem State.context_updEdge (s : State) (k j : Nat) (f : Edge → Edge) : (s.updEdge k f).context j = s.context j := rfl

/-- The changed source is what the change makes of it. -/
@[simp] theorem State.source_updSource_same (s : State) (k : Nat) (f : Source → Source) : (s.updSource k f).source k = f (s.source k) := by
  simp [State.source, State.updSource]

/-- Every other source is unchanged. -/
theorem State.source_updSource_ne (s : State) {k j : Nat} (f : Source → Source) (h : j ≠ k) : (s.updSource k f).source j = s.source j := by
  simp [State.source, State.updSource, Tab.get_upd_ne _ _ _ h]

@[simp] theorem State.queue_updSource (s : State) (k j : Nat) (f : Source → Source) : (s.updSource k f).queue j = s.queue j := rfl
@[simp] theorem State.fnBlock_updSource (s : State) (k j : Nat) (f : Source → Source) : (s.updSource k f).fnBlock j = s.fnBlock j := rfl
@[simp] theorem State.lane_updSource (s : State) (k j : Nat) (f : Source → Source) : (s.updSource k f).lane j = s.lane j := rfl
@[simp] theorem State.port_updSource (s : State) (k j : Nat) (f : Source → Source) : (s.updSource k f).port j = s.port j := rfl
@[simp] theorem State.slot_updSource (s : State) (k j : Nat) (f : Source → Source) : (s.updSource k f).slot j = s.slot j := rfl
@[simp] theorem State.str_updSource (s : State) (k j : Nat) (f : Source → Source) : (s.updSource k f).str j = s.str j := rfl
@[simp] theorem State.edgeMem_updSource (s : State) (k j : Nat) (f : Source → Source) : (s.updSource k f).edgeMem j = s.edgeMem j := rfl
@[simp] theorem State.chan_updSource (s : State) (k j : Nat) (f : Source → Source) : (s.updSource k f).chan j = s.chan j := rfl
@[simp] theorem State.cart_updSource (s : State) (k j : Nat) (f : Source → Source) : (s.updSource k f).cart j = s.cart j := rfl
@[simp] theorem State.journal_updSource (s : State) (k j : Nat) (f : Source → Source) : (s.updSource k f).journal j = s.journal j := rfl
@[simp] theorem State.context_updSource (s : State) (k j : Nat) (f : Source → Source) : (s.updSource k f).context j = s.context j := rfl

/-- The changed chan is what the change makes of it. -/
@[simp] theorem State.chan_updChan_same (s : State) (k : Nat) (f : Channel → Channel) : (s.updChan k f).chan k = f (s.chan k) := by
  simp [State.chan, State.updChan]

/-- Every other chan is unchanged. -/
theorem State.chan_updChan_ne (s : State) {k j : Nat} (f : Channel → Channel) (h : j ≠ k) : (s.updChan k f).chan j = s.chan j := by
  simp [State.chan, State.updChan, Tab.get_upd_ne _ _ _ h]

@[simp] theorem State.queue_updChan (s : State) (k j : Nat) (f : Channel → Channel) : (s.updChan k f).queue j = s.queue j := rfl
@[simp] theorem State.fnBlock_updChan (s : State) (k j : Nat) (f : Channel → Channel) : (s.updChan k f).fnBlock j = s.fnBlock j := rfl
@[simp] theorem State.lane_updChan (s : State) (k j : Nat) (f : Channel → Channel) : (s.updChan k f).lane j = s.lane j := rfl
@[simp] theorem State.port_updChan (s : State) (k j : Nat) (f : Channel → Channel) : (s.updChan k f).port j = s.port j := rfl
@[simp] theorem State.slot_updChan (s : State) (k j : Nat) (f : Channel → Channel) : (s.updChan k f).slot j = s.slot j := rfl
@[simp] theorem State.str_updChan (s : State) (k j : Nat) (f : Channel → Channel) : (s.updChan k f).str j = s.str j := rfl
@[simp] theorem State.edgeMem_updChan (s : State) (k j : Nat) (f : Channel → Channel) : (s.updChan k f).edgeMem j = s.edgeMem j := rfl
@[simp] theorem State.source_updChan (s : State) (k j : Nat) (f : Channel → Channel) : (s.updChan k f).source j = s.source j := rfl
@[simp] theorem State.cart_updChan (s : State) (k j : Nat) (f : Channel → Channel) : (s.updChan k f).cart j = s.cart j := rfl
@[simp] theorem State.journal_updChan (s : State) (k j : Nat) (f : Channel → Channel) : (s.updChan k f).journal j = s.journal j := rfl
@[simp] theorem State.context_updChan (s : State) (k j : Nat) (f : Channel → Channel) : (s.updChan k f).context j = s.context j := rfl

/-- The changed cart is what the change makes of it. -/
@[simp] theorem State.cart_updCart_same (s : State) (k : Nat) (f : Cart → Cart) : (s.updCart k f).cart k = f (s.cart k) := by
  simp [State.cart, State.updCart]

/-- Every other cart is unchanged. -/
theorem State.cart_updCart_ne (s : State) {k j : Nat} (f : Cart → Cart) (h : j ≠ k) : (s.updCart k f).cart j = s.cart j := by
  simp [State.cart, State.updCart, Tab.get_upd_ne _ _ _ h]

@[simp] theorem State.queue_updCart (s : State) (k j : Nat) (f : Cart → Cart) : (s.updCart k f).queue j = s.queue j := rfl
@[simp] theorem State.fnBlock_updCart (s : State) (k j : Nat) (f : Cart → Cart) : (s.updCart k f).fnBlock j = s.fnBlock j := rfl
@[simp] theorem State.lane_updCart (s : State) (k j : Nat) (f : Cart → Cart) : (s.updCart k f).lane j = s.lane j := rfl
@[simp] theorem State.port_updCart (s : State) (k j : Nat) (f : Cart → Cart) : (s.updCart k f).port j = s.port j := rfl
@[simp] theorem State.slot_updCart (s : State) (k j : Nat) (f : Cart → Cart) : (s.updCart k f).slot j = s.slot j := rfl
@[simp] theorem State.str_updCart (s : State) (k j : Nat) (f : Cart → Cart) : (s.updCart k f).str j = s.str j := rfl
@[simp] theorem State.edgeMem_updCart (s : State) (k j : Nat) (f : Cart → Cart) : (s.updCart k f).edgeMem j = s.edgeMem j := rfl
@[simp] theorem State.source_updCart (s : State) (k j : Nat) (f : Cart → Cart) : (s.updCart k f).source j = s.source j := rfl
@[simp] theorem State.chan_updCart (s : State) (k j : Nat) (f : Cart → Cart) : (s.updCart k f).chan j = s.chan j := rfl
@[simp] theorem State.journal_updCart (s : State) (k j : Nat) (f : Cart → Cart) : (s.updCart k f).journal j = s.journal j := rfl
@[simp] theorem State.context_updCart (s : State) (k j : Nat) (f : Cart → Cart) : (s.updCart k f).context j = s.context j := rfl

/-- The changed journal is what the change makes of it. -/
@[simp] theorem State.journal_updJournal_same (s : State) (k : Nat) (f : Journal → Journal) : (s.updJournal k f).journal k = f (s.journal k) := by
  simp [State.journal, State.updJournal]

/-- Every other journal is unchanged. -/
theorem State.journal_updJournal_ne (s : State) {k j : Nat} (f : Journal → Journal) (h : j ≠ k) : (s.updJournal k f).journal j = s.journal j := by
  simp [State.journal, State.updJournal, Tab.get_upd_ne _ _ _ h]

@[simp] theorem State.queue_updJournal (s : State) (k j : Nat) (f : Journal → Journal) : (s.updJournal k f).queue j = s.queue j := rfl
@[simp] theorem State.fnBlock_updJournal (s : State) (k j : Nat) (f : Journal → Journal) : (s.updJournal k f).fnBlock j = s.fnBlock j := rfl
@[simp] theorem State.lane_updJournal (s : State) (k j : Nat) (f : Journal → Journal) : (s.updJournal k f).lane j = s.lane j := rfl
@[simp] theorem State.port_updJournal (s : State) (k j : Nat) (f : Journal → Journal) : (s.updJournal k f).port j = s.port j := rfl
@[simp] theorem State.slot_updJournal (s : State) (k j : Nat) (f : Journal → Journal) : (s.updJournal k f).slot j = s.slot j := rfl
@[simp] theorem State.str_updJournal (s : State) (k j : Nat) (f : Journal → Journal) : (s.updJournal k f).str j = s.str j := rfl
@[simp] theorem State.edgeMem_updJournal (s : State) (k j : Nat) (f : Journal → Journal) : (s.updJournal k f).edgeMem j = s.edgeMem j := rfl
@[simp] theorem State.source_updJournal (s : State) (k j : Nat) (f : Journal → Journal) : (s.updJournal k f).source j = s.source j := rfl
@[simp] theorem State.chan_updJournal (s : State) (k j : Nat) (f : Journal → Journal) : (s.updJournal k f).chan j = s.chan j := rfl
@[simp] theorem State.cart_updJournal (s : State) (k j : Nat) (f : Journal → Journal) : (s.updJournal k f).cart j = s.cart j := rfl
@[simp] theorem State.context_updJournal (s : State) (k j : Nat) (f : Journal → Journal) : (s.updJournal k f).context j = s.context j := rfl

/-- A changed framed session is what the change makes of it. -/
@[simp] theorem State.session_updSession_same (s : State) (t : Target) (f : Session → Session) :
    (s.updSession t f).session t = f (s.session t) := by cases t <;> rfl

/-- Every other framed session is unchanged. -/
theorem State.session_updSession_ne (s : State) {t u : Target} (f : Session → Session) (h : u ≠ t) :
    (s.updSession t f).session u = s.session u := by cases t <;> cases u <;> first | rfl | exact absurd rfl h

@[simp] theorem State.session_updQueue (s : State) (q : Nat) (f : Queue → Queue) (t : Target) :
    (s.updQueue q f).session t = s.session t := by cases t <;> rfl
@[simp] theorem State.queue_updSession (s : State) (t : Target) (f : Session → Session) (q : Nat) :
    (s.updSession t f).queue q = s.queue q := by cases t <;> rfl
@[simp] theorem State.fnBlock_updSession (s : State) (t : Target) (f : Session → Session) (n : Nat) :
    (s.updSession t f).fnBlock n = s.fnBlock n := by cases t <;> rfl

/-- A context that has been set reads as set. -/
@[simp] theorem State.context_setContext_same (s : State) (n : Nat) (c : Option Context) : (s.setContext n c).context n = c := by
  simp [State.context, State.setContext]

/-- Every other context is unchanged. -/
theorem State.context_setContext_ne (s : State) {n m : Nat} (c : Option Context) (h : m ≠ n) :
    (s.setContext n c).context m = s.context m := by
  simp [State.context, State.setContext, Tab.get_set_ne _ _ _ h]

/-- An update of a framed session changes the Command Engine alone. -/
theorem State.updSession_only (s : State) (t : Target) (f : Session → Session) : { s.updSession t f with cme := s.cme } = s := by
  cases t <;> rfl

end Sys2Proof.Machine
end

