-- ==== Sys2Proof/Laws/Commands.lean ====
section
/-! SUPPORT. The laws of the shared operations of every command: being taken up, admitted, carried out and ended, and what
a report to the Logbook can change. -/
namespace Sys2Proof.Machine

/-! ### A command's five ways -/

/-- A command that is not taken up changes nothing. -/
theorem command_waits {op : Op} {h : Hdr} {r : Bool} {s : State} {body : Hdr → State → Option Reply × State}
    (ht : s.takes h op = false) : command op h r s body = s := by
  simp [command, ht]

/-- A command that fails a check of R289 ends with that check's status. -/
theorem command_refused {op : Op} {h : Hdr} {r : Bool} {s : State} {body : Hdr → State → Option Reply × State}
    (ht : s.takes h op = true) (ha : s.admission h op r ≠ 0) :
    command op h r s body = complete (s.stamp h) (err (s.admission h op r)) (s.started h) := by
  simp [command, ht, ha]

/-- A command whose island has stopped waits on the crossing (R309). -/
theorem command_crosses {op : Op} {h : Hdr} {r : Bool} {s : State} {body : Hdr → State → Option Reply × State}
    (ht : s.takes h op = true) (ha : s.admission h op r = 0) (hi : s.islandStopped op.island = true) :
    command op h r s body = (s.started h).waitIsland (s.stamp h) op.island := by
  simp [command, ht, ha, hi]

/-- A ready command runs its body, and ends when the body answers a reply. -/
theorem command_ready {op : Op} {h : Hdr} {s : State} {body : Hdr → State → Option Reply × State} (hr : Ready s h op) :
    command op h true s body =
      match body (s.stamp h) (s.started h) with
      | (some r, t) => complete (s.stamp h) r t
      | (none, t) => t := by
  simp only [command, hr.takes, hr.admitted, hr.island, Bool.not_true, ne_eq, not_true_eq_false, if_false,
    Bool.false_eq_true] <;> rfl

/-- A ready command that always ends: its reply and its effect. -/
theorem commandC_ready {op : Op} {h : Hdr} {s : State} {body : Hdr → State → Reply × State} (hr : Ready s h op) :
    commandC op h true s body = complete (s.stamp h) (body (s.stamp h) (s.started h)).1 (body (s.stamp h) (s.started h)).2 := by
  simp [commandC, command_ready hr]

/-- A ready command that only reads. -/
theorem commandR_ready {op : Op} {h : Hdr} {s : State} {body : Hdr → State → Reply} (hr : Ready s h op) :
    commandR op h true s body = complete (s.stamp h) (body (s.stamp h) (s.started h)) (s.started h) := by
  simp [commandR, command_ready hr]

/-! ### What starting and ending a command can change -/

/-- Changing the commands in flight changes the Command Engine alone. -/
theorem State.updFlights_only (s : State) (src : Src) (f : List Flight → List Flight) :
    { s.updFlights src f with cme := s.cme } = s := by
  cases src with
  | pcie q => rfl
  | framed t => exact s.updSession_only t _
  | jtag => rfl

/-- A command that joins those in flight changes the Command Engine alone. -/
theorem State.addFlight_only (s : State) (src : Src) (f : Flight) : { s.addFlight src f with cme := s.cme } = s :=
  s.updFlights_only src _

/-- Starting a command changes the Command Engine alone. -/
theorem State.started_only (s : State) (h : Hdr) : { s.started h with cme := s.cme } = s := by
  unfold State.started
  exact s.updFlights_only _ _

/-- Ending a command changes the Command Engine alone. -/
theorem complete_only (h : Hdr) (r : Reply) (s : State) : { complete h r s with cme := s.cme } = s := by
  unfold complete
  split
  · rfl
  · rename_i f _
    have h1 := s.updFlights_only h.src (fun l => l.eraseP (fun f => decide (f.uid = h.uid)))
    by_cases ho : f.orphan
    · simpa [ho] using h1
    · simp only [ho]
      generalize s.updFlights h.src (fun l => l.eraseP (fun f => decide (f.uid = h.uid))) = t at *
      have h2 : { t.putDone h.src (r.completion h) with cme := t.cme } = t := by
        cases h.src with
        | pcie q => rfl
        | framed x => exact t.updSession_only x _
        | jtag => rfl
      exact (congrArg (fun u : State => { u with cme := s.cme }) h2).trans h1

/-! ### Reports -/

/-- An event staged or held changes the Logbook alone. -/
theorem State.report_only (s : State) (r : Region) (e : LogEv) : { s.report r e with lgb := s.lgb } = s := by
  unfold State.report
  split
  · rfl
  · split
    · rfl
    · dsimp only
      split
      · rfl
      · cases r <;> dsimp only <;> (try split) <;> rfl

/-- A record of the common layout changes the Logbook alone. -/
theorem State.log_only (s : State) (r : Region) (code rung cls idx : Nat) (q : Quantities) :
    { s.log r code rung cls idx q with lgb := s.lgb } = s := s.report_only r _

/-- A record with a layout of its own changes the Logbook alone. -/
theorem State.logOwn_only (s : State) (r : Region) (code rung cls idx : Nat) (p : Bytes) :
    { s.logOwn r code rung cls idx p with lgb := s.lgb } = s := s.report_only r _

/-- While the Control Region runs, an event that is kept enters the staging buffer. -/
theorem State.report_staged (s : State) (r : Region) (e : LogEv) (hp : s.boot.pwrOk = true) (hc : s.boot.controlUp = true)
    (hk : ¬ (e.rung = 6 ∧ s.noRung6 = true)) :
    s.report r e = { s with lgb := s.lgb.stage { e with dmt := s.now, gap := s.emb.dmtGap } } := by
  have hk' : ¬ (e.rung = 6 ∧ s.noRung6) := hk
  simp [State.report, hp, hc, hk']

/-- An event for a queue group changes the Command Engine alone. -/
theorem State.postAsync_only (s : State) (g : Nat) (e : AsyncEv) : { s.postAsync g e with cme := s.cme } = s := rfl

/-- A management event changes the Command Engine alone. -/
theorem State.tellManagers_only (s : State) (code rung c i : Nat) :
    { s.tellManagers code rung c i with cme := s.cme } = s := by
  unfold State.tellManagers
  suffices h : ∀ (l : List Nat) (t : State), { t with cme := s.cme } = s →
      { l.foldl (fun t g => if s.groupManaged g then
          t.postAsync g { code := code, rung := rung, hintClass := c, hintIndex := i } else t) t with cme := s.cme } = s from
    h _ s rfl
  intro l
  induction l with
  | nil => intro t ht; exact ht
  | cons g l ih =>
    intro t ht
    apply ih
    dsimp only
    split
    · exact ht
    · exact ht

end Sys2Proof.Machine
end

