-- ==== Sys2Proof/Laws/Keeps.lean ====
section
/-! SUPPORT. What starting, ending and reporting leave as it was, field by field and for every reading of a table. -/
namespace Sys2Proof.Machine

/-- Only cme can change. -/
@[simp] theorem State.started_keeps (s : State) (h : Hdr) :
    (s.started h).spn = s.spn ∧ (s.started h).boot = s.boot ∧ (s.started h).strs = s.strs ∧
    (s.started h).apa = s.apa ∧ (s.started h).pol = s.pol ∧ (s.started h).fit = s.fit ∧
    (s.started h).bde = s.bde ∧ (s.started h).hma = s.hma ∧ (s.started h).rfg = s.rfg ∧
    (s.started h).atr = s.atr ∧ (s.started h).rfu = s.rfu ∧ (s.started h).cby = s.cby ∧
    (s.started h).cru = s.cru ∧ (s.started h).otp = s.otp ∧ (s.started h).emb = s.emb ∧
    (s.started h).wwu = s.wwu ∧ (s.started h).lgb = s.lgb ∧ (s.started h).io = s.io ∧
    (s.started h).draws = s.draws ∧ (s.started h).pending = s.pending :=
  have e := s.started_only h
  ⟨(congrArg State.spn e :), (congrArg State.boot e :), (congrArg State.strs e :), (congrArg State.apa e :), (congrArg State.pol e :), (congrArg State.fit e :), (congrArg State.bde e :), (congrArg State.hma e :), (congrArg State.rfg e :), (congrArg State.atr e :), (congrArg State.rfu e :), (congrArg State.cby e :), (congrArg State.cru e :), (congrArg State.otp e :), (congrArg State.emb e :), (congrArg State.wwu e :), (congrArg State.lgb e :), (congrArg State.io e :), (congrArg State.draws e :), (congrArg State.pending e :)⟩

@[simp] theorem State.lane_started (s : State) (h : Hdr) (j : Nat) : (s.started h).lane j = s.lane j := by simp [State.lane]
@[simp] theorem State.port_started (s : State) (h : Hdr) (j : Nat) : (s.started h).port j = s.port j := by simp [State.port]
@[simp] theorem State.slot_started (s : State) (h : Hdr) (j : Nat) : (s.started h).slot j = s.slot j := by simp [State.slot]
@[simp] theorem State.str_started (s : State) (h : Hdr) (j : Nat) : (s.started h).str j = s.str j := by simp [State.str]
@[simp] theorem State.edgeMem_started (s : State) (h : Hdr) (j : Nat) : (s.started h).edgeMem j = s.edgeMem j := by simp [State.edgeMem]
@[simp] theorem State.source_started (s : State) (h : Hdr) (j : Nat) : (s.started h).source j = s.source j := by simp [State.source]
@[simp] theorem State.chan_started (s : State) (h : Hdr) (j : Nat) : (s.started h).chan j = s.chan j := by simp [State.chan]
@[simp] theorem State.cart_started (s : State) (h : Hdr) (j : Nat) : (s.started h).cart j = s.cart j := by simp [State.cart]
@[simp] theorem State.journal_started (s : State) (h : Hdr) (j : Nat) : (s.started h).journal j = s.journal j := by simp [State.journal]
@[simp] theorem State.context_started (s : State) (h : Hdr) (j : Nat) : (s.started h).context j = s.context j := by simp [State.context]
@[simp] theorem State.otpWord_started (s : State) (h : Hdr) (j : Nat) : (s.started h).otpWord j = s.otpWord j := by simp [State.otpWord]
@[simp] theorem State.leaf_started (s : State) (h : Hdr) (d j : Nat) : (s.started h).leaf d j = s.leaf d j := by simp [State.leaf]
@[simp] theorem State.rfuOp_started (s : State) (h : Hdr) (j : Nat) : (s.started h).rfuOp j = s.rfuOp j := by simp [State.rfuOp]

/-- Only cme can change. -/
@[simp] theorem State.complete_keeps (s : State) (h : Hdr) (r : Reply) :
    (complete h r s).spn = s.spn ∧ (complete h r s).boot = s.boot ∧ (complete h r s).strs = s.strs ∧
    (complete h r s).apa = s.apa ∧ (complete h r s).pol = s.pol ∧ (complete h r s).fit = s.fit ∧
    (complete h r s).bde = s.bde ∧ (complete h r s).hma = s.hma ∧ (complete h r s).rfg = s.rfg ∧
    (complete h r s).atr = s.atr ∧ (complete h r s).rfu = s.rfu ∧ (complete h r s).cby = s.cby ∧
    (complete h r s).cru = s.cru ∧ (complete h r s).otp = s.otp ∧ (complete h r s).emb = s.emb ∧
    (complete h r s).wwu = s.wwu ∧ (complete h r s).lgb = s.lgb ∧ (complete h r s).io = s.io ∧
    (complete h r s).draws = s.draws ∧ (complete h r s).pending = s.pending :=
  have e := complete_only h r s
  ⟨(congrArg State.spn e :), (congrArg State.boot e :), (congrArg State.strs e :), (congrArg State.apa e :), (congrArg State.pol e :), (congrArg State.fit e :), (congrArg State.bde e :), (congrArg State.hma e :), (congrArg State.rfg e :), (congrArg State.atr e :), (congrArg State.rfu e :), (congrArg State.cby e :), (congrArg State.cru e :), (congrArg State.otp e :), (congrArg State.emb e :), (congrArg State.wwu e :), (congrArg State.lgb e :), (congrArg State.io e :), (congrArg State.draws e :), (congrArg State.pending e :)⟩

@[simp] theorem State.lane_complete (s : State) (h : Hdr) (r : Reply) (j : Nat) : (complete h r s).lane j = s.lane j := by simp [State.lane]
@[simp] theorem State.port_complete (s : State) (h : Hdr) (r : Reply) (j : Nat) : (complete h r s).port j = s.port j := by simp [State.port]
@[simp] theorem State.slot_complete (s : State) (h : Hdr) (r : Reply) (j : Nat) : (complete h r s).slot j = s.slot j := by simp [State.slot]
@[simp] theorem State.str_complete (s : State) (h : Hdr) (r : Reply) (j : Nat) : (complete h r s).str j = s.str j := by simp [State.str]
@[simp] theorem State.edgeMem_complete (s : State) (h : Hdr) (r : Reply) (j : Nat) : (complete h r s).edgeMem j = s.edgeMem j := by simp [State.edgeMem]
@[simp] theorem State.source_complete (s : State) (h : Hdr) (r : Reply) (j : Nat) : (complete h r s).source j = s.source j := by simp [State.source]
@[simp] theorem State.chan_complete (s : State) (h : Hdr) (r : Reply) (j : Nat) : (complete h r s).chan j = s.chan j := by simp [State.chan]
@[simp] theorem State.cart_complete (s : State) (h : Hdr) (r : Reply) (j : Nat) : (complete h r s).cart j = s.cart j := by simp [State.cart]
@[simp] theorem State.journal_complete (s : State) (h : Hdr) (r : Reply) (j : Nat) : (complete h r s).journal j = s.journal j := by simp [State.journal]
@[simp] theorem State.context_complete (s : State) (h : Hdr) (r : Reply) (j : Nat) : (complete h r s).context j = s.context j := by simp [State.context]
@[simp] theorem State.otpWord_complete (s : State) (h : Hdr) (r : Reply) (j : Nat) : (complete h r s).otpWord j = s.otpWord j := by simp [State.otpWord]
@[simp] theorem State.leaf_complete (s : State) (h : Hdr) (r : Reply) (d j : Nat) : (complete h r s).leaf d j = s.leaf d j := by simp [State.leaf]
@[simp] theorem State.rfuOp_complete (s : State) (h : Hdr) (r : Reply) (j : Nat) : (complete h r s).rfuOp j = s.rfuOp j := by simp [State.rfuOp]

/-- Only cme can change. -/
@[simp] theorem State.updSession_keeps (s : State) (t : Target) (f : Session → Session) :
    (s.updSession t f).spn = s.spn ∧ (s.updSession t f).boot = s.boot ∧ (s.updSession t f).strs = s.strs ∧
    (s.updSession t f).apa = s.apa ∧ (s.updSession t f).pol = s.pol ∧ (s.updSession t f).fit = s.fit ∧
    (s.updSession t f).bde = s.bde ∧ (s.updSession t f).hma = s.hma ∧ (s.updSession t f).rfg = s.rfg ∧
    (s.updSession t f).atr = s.atr ∧ (s.updSession t f).rfu = s.rfu ∧ (s.updSession t f).cby = s.cby ∧
    (s.updSession t f).cru = s.cru ∧ (s.updSession t f).otp = s.otp ∧ (s.updSession t f).emb = s.emb ∧
    (s.updSession t f).wwu = s.wwu ∧ (s.updSession t f).lgb = s.lgb ∧ (s.updSession t f).io = s.io ∧
    (s.updSession t f).draws = s.draws ∧ (s.updSession t f).pending = s.pending :=
  have e := s.updSession_only t f
  ⟨(congrArg State.spn e :), (congrArg State.boot e :), (congrArg State.strs e :), (congrArg State.apa e :), (congrArg State.pol e :), (congrArg State.fit e :), (congrArg State.bde e :), (congrArg State.hma e :), (congrArg State.rfg e :), (congrArg State.atr e :), (congrArg State.rfu e :), (congrArg State.cby e :), (congrArg State.cru e :), (congrArg State.otp e :), (congrArg State.emb e :), (congrArg State.wwu e :), (congrArg State.lgb e :), (congrArg State.io e :), (congrArg State.draws e :), (congrArg State.pending e :)⟩

@[simp] theorem State.lane_updSession (s : State) (t : Target) (f : Session → Session) (j : Nat) : (s.updSession t f).lane j = s.lane j := by simp [State.lane]
@[simp] theorem State.port_updSession (s : State) (t : Target) (f : Session → Session) (j : Nat) : (s.updSession t f).port j = s.port j := by simp [State.port]
@[simp] theorem State.slot_updSession (s : State) (t : Target) (f : Session → Session) (j : Nat) : (s.updSession t f).slot j = s.slot j := by simp [State.slot]
@[simp] theorem State.str_updSession (s : State) (t : Target) (f : Session → Session) (j : Nat) : (s.updSession t f).str j = s.str j := by simp [State.str]
@[simp] theorem State.edgeMem_updSession (s : State) (t : Target) (f : Session → Session) (j : Nat) : (s.updSession t f).edgeMem j = s.edgeMem j := by simp [State.edgeMem]
@[simp] theorem State.source_updSession (s : State) (t : Target) (f : Session → Session) (j : Nat) : (s.updSession t f).source j = s.source j := by simp [State.source]
@[simp] theorem State.chan_updSession (s : State) (t : Target) (f : Session → Session) (j : Nat) : (s.updSession t f).chan j = s.chan j := by simp [State.chan]
@[simp] theorem State.cart_updSession (s : State) (t : Target) (f : Session → Session) (j : Nat) : (s.updSession t f).cart j = s.cart j := by simp [State.cart]
@[simp] theorem State.journal_updSession (s : State) (t : Target) (f : Session → Session) (j : Nat) : (s.updSession t f).journal j = s.journal j := by simp [State.journal]
@[simp] theorem State.context_updSession (s : State) (t : Target) (f : Session → Session) (j : Nat) : (s.updSession t f).context j = s.context j := by simp [State.context]
@[simp] theorem State.otpWord_updSession (s : State) (t : Target) (f : Session → Session) (j : Nat) : (s.updSession t f).otpWord j = s.otpWord j := by simp [State.otpWord]
@[simp] theorem State.leaf_updSession (s : State) (t : Target) (f : Session → Session) (d j : Nat) : (s.updSession t f).leaf d j = s.leaf d j := by simp [State.leaf]
@[simp] theorem State.rfuOp_updSession (s : State) (t : Target) (f : Session → Session) (j : Nat) : (s.updSession t f).rfuOp j = s.rfuOp j := by simp [State.rfuOp]

/-- Only cme can change. -/
@[simp] theorem State.updFlights_keeps (s : State) (src : Src) (f : List Flight → List Flight) :
    (s.updFlights src f).spn = s.spn ∧ (s.updFlights src f).boot = s.boot ∧ (s.updFlights src f).strs = s.strs ∧
    (s.updFlights src f).apa = s.apa ∧ (s.updFlights src f).pol = s.pol ∧ (s.updFlights src f).fit = s.fit ∧
    (s.updFlights src f).bde = s.bde ∧ (s.updFlights src f).hma = s.hma ∧ (s.updFlights src f).rfg = s.rfg ∧
    (s.updFlights src f).atr = s.atr ∧ (s.updFlights src f).rfu = s.rfu ∧ (s.updFlights src f).cby = s.cby ∧
    (s.updFlights src f).cru = s.cru ∧ (s.updFlights src f).otp = s.otp ∧ (s.updFlights src f).emb = s.emb ∧
    (s.updFlights src f).wwu = s.wwu ∧ (s.updFlights src f).lgb = s.lgb ∧ (s.updFlights src f).io = s.io ∧
    (s.updFlights src f).draws = s.draws ∧ (s.updFlights src f).pending = s.pending :=
  have e := s.updFlights_only src f
  ⟨(congrArg State.spn e :), (congrArg State.boot e :), (congrArg State.strs e :), (congrArg State.apa e :), (congrArg State.pol e :), (congrArg State.fit e :), (congrArg State.bde e :), (congrArg State.hma e :), (congrArg State.rfg e :), (congrArg State.atr e :), (congrArg State.rfu e :), (congrArg State.cby e :), (congrArg State.cru e :), (congrArg State.otp e :), (congrArg State.emb e :), (congrArg State.wwu e :), (congrArg State.lgb e :), (congrArg State.io e :), (congrArg State.draws e :), (congrArg State.pending e :)⟩

@[simp] theorem State.lane_updFlights (s : State) (src : Src) (f : List Flight → List Flight) (j : Nat) : (s.updFlights src f).lane j = s.lane j := by simp [State.lane]
@[simp] theorem State.port_updFlights (s : State) (src : Src) (f : List Flight → List Flight) (j : Nat) : (s.updFlights src f).port j = s.port j := by simp [State.port]
@[simp] theorem State.slot_updFlights (s : State) (src : Src) (f : List Flight → List Flight) (j : Nat) : (s.updFlights src f).slot j = s.slot j := by simp [State.slot]
@[simp] theorem State.str_updFlights (s : State) (src : Src) (f : List Flight → List Flight) (j : Nat) : (s.updFlights src f).str j = s.str j := by simp [State.str]
@[simp] theorem State.edgeMem_updFlights (s : State) (src : Src) (f : List Flight → List Flight) (j : Nat) : (s.updFlights src f).edgeMem j = s.edgeMem j := by simp [State.edgeMem]
@[simp] theorem State.source_updFlights (s : State) (src : Src) (f : List Flight → List Flight) (j : Nat) : (s.updFlights src f).source j = s.source j := by simp [State.source]
@[simp] theorem State.chan_updFlights (s : State) (src : Src) (f : List Flight → List Flight) (j : Nat) : (s.updFlights src f).chan j = s.chan j := by simp [State.chan]
@[simp] theorem State.cart_updFlights (s : State) (src : Src) (f : List Flight → List Flight) (j : Nat) : (s.updFlights src f).cart j = s.cart j := by simp [State.cart]
@[simp] theorem State.journal_updFlights (s : State) (src : Src) (f : List Flight → List Flight) (j : Nat) : (s.updFlights src f).journal j = s.journal j := by simp [State.journal]
@[simp] theorem State.context_updFlights (s : State) (src : Src) (f : List Flight → List Flight) (j : Nat) : (s.updFlights src f).context j = s.context j := by simp [State.context]
@[simp] theorem State.otpWord_updFlights (s : State) (src : Src) (f : List Flight → List Flight) (j : Nat) : (s.updFlights src f).otpWord j = s.otpWord j := by simp [State.otpWord]
@[simp] theorem State.leaf_updFlights (s : State) (src : Src) (f : List Flight → List Flight) (d j : Nat) : (s.updFlights src f).leaf d j = s.leaf d j := by simp [State.leaf]
@[simp] theorem State.rfuOp_updFlights (s : State) (src : Src) (f : List Flight → List Flight) (j : Nat) : (s.updFlights src f).rfuOp j = s.rfuOp j := by simp [State.rfuOp]

/-- Only lgb can change. -/
@[simp] theorem State.report_keeps (s : State) (r : Region) (e : LogEv) :
    (s.report r e).spn = s.spn ∧ (s.report r e).boot = s.boot ∧ (s.report r e).strs = s.strs ∧
    (s.report r e).apa = s.apa ∧ (s.report r e).pol = s.pol ∧ (s.report r e).fit = s.fit ∧
    (s.report r e).bde = s.bde ∧ (s.report r e).hma = s.hma ∧ (s.report r e).cme = s.cme ∧
    (s.report r e).rfg = s.rfg ∧ (s.report r e).atr = s.atr ∧ (s.report r e).rfu = s.rfu ∧
    (s.report r e).cby = s.cby ∧ (s.report r e).cru = s.cru ∧ (s.report r e).otp = s.otp ∧
    (s.report r e).emb = s.emb ∧ (s.report r e).wwu = s.wwu ∧ (s.report r e).io = s.io ∧
    (s.report r e).draws = s.draws ∧ (s.report r e).pending = s.pending :=
  have e := s.report_only r e
  ⟨(congrArg State.spn e :), (congrArg State.boot e :), (congrArg State.strs e :), (congrArg State.apa e :), (congrArg State.pol e :), (congrArg State.fit e :), (congrArg State.bde e :), (congrArg State.hma e :), (congrArg State.cme e :), (congrArg State.rfg e :), (congrArg State.atr e :), (congrArg State.rfu e :), (congrArg State.cby e :), (congrArg State.cru e :), (congrArg State.otp e :), (congrArg State.emb e :), (congrArg State.wwu e :), (congrArg State.io e :), (congrArg State.draws e :), (congrArg State.pending e :)⟩

@[simp] theorem State.queue_report (s : State) (r : Region) (e : LogEv) (j : Nat) : (s.report r e).queue j = s.queue j := by simp [State.queue]
@[simp] theorem State.fnBlock_report (s : State) (r : Region) (e : LogEv) (j : Nat) : (s.report r e).fnBlock j = s.fnBlock j := by simp [State.fnBlock]
@[simp] theorem State.session_report (s : State) (r : Region) (e : LogEv) (x : Target) : (s.report r e).session x = s.session x := by
  cases x <;> simp [State.session]
@[simp] theorem State.lane_report (s : State) (r : Region) (e : LogEv) (j : Nat) : (s.report r e).lane j = s.lane j := by simp [State.lane]
@[simp] theorem State.port_report (s : State) (r : Region) (e : LogEv) (j : Nat) : (s.report r e).port j = s.port j := by simp [State.port]
@[simp] theorem State.slot_report (s : State) (r : Region) (e : LogEv) (j : Nat) : (s.report r e).slot j = s.slot j := by simp [State.slot]
@[simp] theorem State.str_report (s : State) (r : Region) (e : LogEv) (j : Nat) : (s.report r e).str j = s.str j := by simp [State.str]
@[simp] theorem State.edgeMem_report (s : State) (r : Region) (e : LogEv) (j : Nat) : (s.report r e).edgeMem j = s.edgeMem j := by simp [State.edgeMem]
@[simp] theorem State.source_report (s : State) (r : Region) (e : LogEv) (j : Nat) : (s.report r e).source j = s.source j := by simp [State.source]
@[simp] theorem State.chan_report (s : State) (r : Region) (e : LogEv) (j : Nat) : (s.report r e).chan j = s.chan j := by simp [State.chan]
@[simp] theorem State.cart_report (s : State) (r : Region) (e : LogEv) (j : Nat) : (s.report r e).cart j = s.cart j := by simp [State.cart]
@[simp] theorem State.journal_report (s : State) (r : Region) (e : LogEv) (j : Nat) : (s.report r e).journal j = s.journal j := by simp [State.journal]
@[simp] theorem State.context_report (s : State) (r : Region) (e : LogEv) (j : Nat) : (s.report r e).context j = s.context j := by simp [State.context]
@[simp] theorem State.otpWord_report (s : State) (r : Region) (e : LogEv) (j : Nat) : (s.report r e).otpWord j = s.otpWord j := by simp [State.otpWord]
@[simp] theorem State.leaf_report (s : State) (r : Region) (e : LogEv) (d j : Nat) : (s.report r e).leaf d j = s.leaf d j := by simp [State.leaf]
@[simp] theorem State.rfuOp_report (s : State) (r : Region) (e : LogEv) (j : Nat) : (s.report r e).rfuOp j = s.rfuOp j := by simp [State.rfuOp]

/-- Only lgb can change. -/
@[simp] theorem State.log_keeps (s : State) (r : Region) (code rung cls idx : Nat) (q : Quantities) :
    (s.log r code rung cls idx q).spn = s.spn ∧ (s.log r code rung cls idx q).boot = s.boot ∧ (s.log r code rung cls idx q).strs = s.strs ∧
    (s.log r code rung cls idx q).apa = s.apa ∧ (s.log r code rung cls idx q).pol = s.pol ∧ (s.log r code rung cls idx q).fit = s.fit ∧
    (s.log r code rung cls idx q).bde = s.bde ∧ (s.log r code rung cls idx q).hma = s.hma ∧ (s.log r code rung cls idx q).cme = s.cme ∧
    (s.log r code rung cls idx q).rfg = s.rfg ∧ (s.log r code rung cls idx q).atr = s.atr ∧ (s.log r code rung cls idx q).rfu = s.rfu ∧
    (s.log r code rung cls idx q).cby = s.cby ∧ (s.log r code rung cls idx q).cru = s.cru ∧ (s.log r code rung cls idx q).otp = s.otp ∧
    (s.log r code rung cls idx q).emb = s.emb ∧ (s.log r code rung cls idx q).wwu = s.wwu ∧ (s.log r code rung cls idx q).io = s.io ∧
    (s.log r code rung cls idx q).draws = s.draws ∧ (s.log r code rung cls idx q).pending = s.pending :=
  have e := s.log_only r code rung cls idx q
  ⟨(congrArg State.spn e :), (congrArg State.boot e :), (congrArg State.strs e :), (congrArg State.apa e :), (congrArg State.pol e :), (congrArg State.fit e :), (congrArg State.bde e :), (congrArg State.hma e :), (congrArg State.cme e :), (congrArg State.rfg e :), (congrArg State.atr e :), (congrArg State.rfu e :), (congrArg State.cby e :), (congrArg State.cru e :), (congrArg State.otp e :), (congrArg State.emb e :), (congrArg State.wwu e :), (congrArg State.io e :), (congrArg State.draws e :), (congrArg State.pending e :)⟩

@[simp] theorem State.queue_log (s : State) (r : Region) (code rung cls idx : Nat) (q : Quantities) (j : Nat) : (s.log r code rung cls idx q).queue j = s.queue j := by simp [State.queue]
@[simp] theorem State.fnBlock_log (s : State) (r : Region) (code rung cls idx : Nat) (q : Quantities) (j : Nat) : (s.log r code rung cls idx q).fnBlock j = s.fnBlock j := by simp [State.fnBlock]
@[simp] theorem State.session_log (s : State) (r : Region) (code rung cls idx : Nat) (q : Quantities) (x : Target) : (s.log r code rung cls idx q).session x = s.session x := by
  cases x <;> simp [State.session]
@[simp] theorem State.lane_log (s : State) (r : Region) (code rung cls idx : Nat) (q : Quantities) (j : Nat) : (s.log r code rung cls idx q).lane j = s.lane j := by simp [State.lane]
@[simp] theorem State.port_log (s : State) (r : Region) (code rung cls idx : Nat) (q : Quantities) (j : Nat) : (s.log r code rung cls idx q).port j = s.port j := by simp [State.port]
@[simp] theorem State.slot_log (s : State) (r : Region) (code rung cls idx : Nat) (q : Quantities) (j : Nat) : (s.log r code rung cls idx q).slot j = s.slot j := by simp [State.slot]
@[simp] theorem State.str_log (s : State) (r : Region) (code rung cls idx : Nat) (q : Quantities) (j : Nat) : (s.log r code rung cls idx q).str j = s.str j := by simp [State.str]
@[simp] theorem State.edgeMem_log (s : State) (r : Region) (code rung cls idx : Nat) (q : Quantities) (j : Nat) : (s.log r code rung cls idx q).edgeMem j = s.edgeMem j := by simp [State.edgeMem]
@[simp] theorem State.source_log (s : State) (r : Region) (code rung cls idx : Nat) (q : Quantities) (j : Nat) : (s.log r code rung cls idx q).source j = s.source j := by simp [State.source]
@[simp] theorem State.chan_log (s : State) (r : Region) (code rung cls idx : Nat) (q : Quantities) (j : Nat) : (s.log r code rung cls idx q).chan j = s.chan j := by simp [State.chan]
@[simp] theorem State.cart_log (s : State) (r : Region) (code rung cls idx : Nat) (q : Quantities) (j : Nat) : (s.log r code rung cls idx q).cart j = s.cart j := by simp [State.cart]
@[simp] theorem State.journal_log (s : State) (r : Region) (code rung cls idx : Nat) (q : Quantities) (j : Nat) : (s.log r code rung cls idx q).journal j = s.journal j := by simp [State.journal]
@[simp] theorem State.context_log (s : State) (r : Region) (code rung cls idx : Nat) (q : Quantities) (j : Nat) : (s.log r code rung cls idx q).context j = s.context j := by simp [State.context]
@[simp] theorem State.otpWord_log (s : State) (r : Region) (code rung cls idx : Nat) (q : Quantities) (j : Nat) : (s.log r code rung cls idx q).otpWord j = s.otpWord j := by simp [State.otpWord]
@[simp] theorem State.leaf_log (s : State) (r : Region) (code rung cls idx : Nat) (q : Quantities) (d j : Nat) : (s.log r code rung cls idx q).leaf d j = s.leaf d j := by simp [State.leaf]
@[simp] theorem State.rfuOp_log (s : State) (r : Region) (code rung cls idx : Nat) (q : Quantities) (j : Nat) : (s.log r code rung cls idx q).rfuOp j = s.rfuOp j := by simp [State.rfuOp]

/-- Only lgb can change. -/
@[simp] theorem State.logOwn_keeps (s : State) (r : Region) (code rung cls idx : Nat) (p : Bytes) :
    (s.logOwn r code rung cls idx p).spn = s.spn ∧ (s.logOwn r code rung cls idx p).boot = s.boot ∧ (s.logOwn r code rung cls idx p).strs = s.strs ∧
    (s.logOwn r code rung cls idx p).apa = s.apa ∧ (s.logOwn r code rung cls idx p).pol = s.pol ∧ (s.logOwn r code rung cls idx p).fit = s.fit ∧
    (s.logOwn r code rung cls idx p).bde = s.bde ∧ (s.logOwn r code rung cls idx p).hma = s.hma ∧ (s.logOwn r code rung cls idx p).cme = s.cme ∧
    (s.logOwn r code rung cls idx p).rfg = s.rfg ∧ (s.logOwn r code rung cls idx p).atr = s.atr ∧ (s.logOwn r code rung cls idx p).rfu = s.rfu ∧
    (s.logOwn r code rung cls idx p).cby = s.cby ∧ (s.logOwn r code rung cls idx p).cru = s.cru ∧ (s.logOwn r code rung cls idx p).otp = s.otp ∧
    (s.logOwn r code rung cls idx p).emb = s.emb ∧ (s.logOwn r code rung cls idx p).wwu = s.wwu ∧ (s.logOwn r code rung cls idx p).io = s.io ∧
    (s.logOwn r code rung cls idx p).draws = s.draws ∧ (s.logOwn r code rung cls idx p).pending = s.pending :=
  have e := s.logOwn_only r code rung cls idx p
  ⟨(congrArg State.spn e :), (congrArg State.boot e :), (congrArg State.strs e :), (congrArg State.apa e :), (congrArg State.pol e :), (congrArg State.fit e :), (congrArg State.bde e :), (congrArg State.hma e :), (congrArg State.cme e :), (congrArg State.rfg e :), (congrArg State.atr e :), (congrArg State.rfu e :), (congrArg State.cby e :), (congrArg State.cru e :), (congrArg State.otp e :), (congrArg State.emb e :), (congrArg State.wwu e :), (congrArg State.io e :), (congrArg State.draws e :), (congrArg State.pending e :)⟩

@[simp] theorem State.queue_logOwn (s : State) (r : Region) (code rung cls idx : Nat) (p : Bytes) (j : Nat) : (s.logOwn r code rung cls idx p).queue j = s.queue j := by simp [State.queue]
@[simp] theorem State.fnBlock_logOwn (s : State) (r : Region) (code rung cls idx : Nat) (p : Bytes) (j : Nat) : (s.logOwn r code rung cls idx p).fnBlock j = s.fnBlock j := by simp [State.fnBlock]
@[simp] theorem State.session_logOwn (s : State) (r : Region) (code rung cls idx : Nat) (p : Bytes) (x : Target) : (s.logOwn r code rung cls idx p).session x = s.session x := by
  cases x <;> simp [State.session]
@[simp] theorem State.lane_logOwn (s : State) (r : Region) (code rung cls idx : Nat) (p : Bytes) (j : Nat) : (s.logOwn r code rung cls idx p).lane j = s.lane j := by simp [State.lane]
@[simp] theorem State.port_logOwn (s : State) (r : Region) (code rung cls idx : Nat) (p : Bytes) (j : Nat) : (s.logOwn r code rung cls idx p).port j = s.port j := by simp [State.port]
@[simp] theorem State.slot_logOwn (s : State) (r : Region) (code rung cls idx : Nat) (p : Bytes) (j : Nat) : (s.logOwn r code rung cls idx p).slot j = s.slot j := by simp [State.slot]
@[simp] theorem State.str_logOwn (s : State) (r : Region) (code rung cls idx : Nat) (p : Bytes) (j : Nat) : (s.logOwn r code rung cls idx p).str j = s.str j := by simp [State.str]
@[simp] theorem State.edgeMem_logOwn (s : State) (r : Region) (code rung cls idx : Nat) (p : Bytes) (j : Nat) : (s.logOwn r code rung cls idx p).edgeMem j = s.edgeMem j := by simp [State.edgeMem]
@[simp] theorem State.source_logOwn (s : State) (r : Region) (code rung cls idx : Nat) (p : Bytes) (j : Nat) : (s.logOwn r code rung cls idx p).source j = s.source j := by simp [State.source]
@[simp] theorem State.chan_logOwn (s : State) (r : Region) (code rung cls idx : Nat) (p : Bytes) (j : Nat) : (s.logOwn r code rung cls idx p).chan j = s.chan j := by simp [State.chan]
@[simp] theorem State.cart_logOwn (s : State) (r : Region) (code rung cls idx : Nat) (p : Bytes) (j : Nat) : (s.logOwn r code rung cls idx p).cart j = s.cart j := by simp [State.cart]
@[simp] theorem State.journal_logOwn (s : State) (r : Region) (code rung cls idx : Nat) (p : Bytes) (j : Nat) : (s.logOwn r code rung cls idx p).journal j = s.journal j := by simp [State.journal]
@[simp] theorem State.context_logOwn (s : State) (r : Region) (code rung cls idx : Nat) (p : Bytes) (j : Nat) : (s.logOwn r code rung cls idx p).context j = s.context j := by simp [State.context]
@[simp] theorem State.otpWord_logOwn (s : State) (r : Region) (code rung cls idx : Nat) (p : Bytes) (j : Nat) : (s.logOwn r code rung cls idx p).otpWord j = s.otpWord j := by simp [State.otpWord]
@[simp] theorem State.leaf_logOwn (s : State) (r : Region) (code rung cls idx : Nat) (p : Bytes) (d j : Nat) : (s.logOwn r code rung cls idx p).leaf d j = s.leaf d j := by simp [State.leaf]
@[simp] theorem State.rfuOp_logOwn (s : State) (r : Region) (code rung cls idx : Nat) (p : Bytes) (j : Nat) : (s.logOwn r code rung cls idx p).rfuOp j = s.rfuOp j := by simp [State.rfuOp]

/-- Only cme can change. -/
@[simp] theorem State.postAsync_keeps (s : State) (g : Nat) (e : AsyncEv) :
    (s.postAsync g e).spn = s.spn ∧ (s.postAsync g e).boot = s.boot ∧ (s.postAsync g e).strs = s.strs ∧
    (s.postAsync g e).apa = s.apa ∧ (s.postAsync g e).pol = s.pol ∧ (s.postAsync g e).fit = s.fit ∧
    (s.postAsync g e).bde = s.bde ∧ (s.postAsync g e).hma = s.hma ∧ (s.postAsync g e).rfg = s.rfg ∧
    (s.postAsync g e).atr = s.atr ∧ (s.postAsync g e).rfu = s.rfu ∧ (s.postAsync g e).cby = s.cby ∧
    (s.postAsync g e).cru = s.cru ∧ (s.postAsync g e).otp = s.otp ∧ (s.postAsync g e).emb = s.emb ∧
    (s.postAsync g e).wwu = s.wwu ∧ (s.postAsync g e).lgb = s.lgb ∧ (s.postAsync g e).io = s.io ∧
    (s.postAsync g e).draws = s.draws ∧ (s.postAsync g e).pending = s.pending :=
  have e := s.postAsync_only g e
  ⟨(congrArg State.spn e :), (congrArg State.boot e :), (congrArg State.strs e :), (congrArg State.apa e :), (congrArg State.pol e :), (congrArg State.fit e :), (congrArg State.bde e :), (congrArg State.hma e :), (congrArg State.rfg e :), (congrArg State.atr e :), (congrArg State.rfu e :), (congrArg State.cby e :), (congrArg State.cru e :), (congrArg State.otp e :), (congrArg State.emb e :), (congrArg State.wwu e :), (congrArg State.lgb e :), (congrArg State.io e :), (congrArg State.draws e :), (congrArg State.pending e :)⟩

@[simp] theorem State.lane_postAsync (s : State) (g : Nat) (e : AsyncEv) (j : Nat) : (s.postAsync g e).lane j = s.lane j := by simp [State.lane]
@[simp] theorem State.port_postAsync (s : State) (g : Nat) (e : AsyncEv) (j : Nat) : (s.postAsync g e).port j = s.port j := by simp [State.port]
@[simp] theorem State.slot_postAsync (s : State) (g : Nat) (e : AsyncEv) (j : Nat) : (s.postAsync g e).slot j = s.slot j := by simp [State.slot]
@[simp] theorem State.str_postAsync (s : State) (g : Nat) (e : AsyncEv) (j : Nat) : (s.postAsync g e).str j = s.str j := by simp [State.str]
@[simp] theorem State.edgeMem_postAsync (s : State) (g : Nat) (e : AsyncEv) (j : Nat) : (s.postAsync g e).edgeMem j = s.edgeMem j := by simp [State.edgeMem]
@[simp] theorem State.source_postAsync (s : State) (g : Nat) (e : AsyncEv) (j : Nat) : (s.postAsync g e).source j = s.source j := by simp [State.source]
@[simp] theorem State.chan_postAsync (s : State) (g : Nat) (e : AsyncEv) (j : Nat) : (s.postAsync g e).chan j = s.chan j := by simp [State.chan]
@[simp] theorem State.cart_postAsync (s : State) (g : Nat) (e : AsyncEv) (j : Nat) : (s.postAsync g e).cart j = s.cart j := by simp [State.cart]
@[simp] theorem State.journal_postAsync (s : State) (g : Nat) (e : AsyncEv) (j : Nat) : (s.postAsync g e).journal j = s.journal j := by simp [State.journal]
@[simp] theorem State.context_postAsync (s : State) (g : Nat) (e : AsyncEv) (j : Nat) : (s.postAsync g e).context j = s.context j := by simp [State.context]
@[simp] theorem State.otpWord_postAsync (s : State) (g : Nat) (e : AsyncEv) (j : Nat) : (s.postAsync g e).otpWord j = s.otpWord j := by simp [State.otpWord]
@[simp] theorem State.leaf_postAsync (s : State) (g : Nat) (e : AsyncEv) (d j : Nat) : (s.postAsync g e).leaf d j = s.leaf d j := by simp [State.leaf]
@[simp] theorem State.rfuOp_postAsync (s : State) (g : Nat) (e : AsyncEv) (j : Nat) : (s.postAsync g e).rfuOp j = s.rfuOp j := by simp [State.rfuOp]

/-- Only cme can change. -/
@[simp] theorem State.tellManagers_keeps (s : State) (code rung c i : Nat) :
    (s.tellManagers code rung c i).spn = s.spn ∧ (s.tellManagers code rung c i).boot = s.boot ∧ (s.tellManagers code rung c i).strs = s.strs ∧
    (s.tellManagers code rung c i).apa = s.apa ∧ (s.tellManagers code rung c i).pol = s.pol ∧ (s.tellManagers code rung c i).fit = s.fit ∧
    (s.tellManagers code rung c i).bde = s.bde ∧ (s.tellManagers code rung c i).hma = s.hma ∧ (s.tellManagers code rung c i).rfg = s.rfg ∧
    (s.tellManagers code rung c i).atr = s.atr ∧ (s.tellManagers code rung c i).rfu = s.rfu ∧ (s.tellManagers code rung c i).cby = s.cby ∧
    (s.tellManagers code rung c i).cru = s.cru ∧ (s.tellManagers code rung c i).otp = s.otp ∧ (s.tellManagers code rung c i).emb = s.emb ∧
    (s.tellManagers code rung c i).wwu = s.wwu ∧ (s.tellManagers code rung c i).lgb = s.lgb ∧ (s.tellManagers code rung c i).io = s.io ∧
    (s.tellManagers code rung c i).draws = s.draws ∧ (s.tellManagers code rung c i).pending = s.pending :=
  have e := s.tellManagers_only code rung c i
  ⟨(congrArg State.spn e :), (congrArg State.boot e :), (congrArg State.strs e :), (congrArg State.apa e :), (congrArg State.pol e :), (congrArg State.fit e :), (congrArg State.bde e :), (congrArg State.hma e :), (congrArg State.rfg e :), (congrArg State.atr e :), (congrArg State.rfu e :), (congrArg State.cby e :), (congrArg State.cru e :), (congrArg State.otp e :), (congrArg State.emb e :), (congrArg State.wwu e :), (congrArg State.lgb e :), (congrArg State.io e :), (congrArg State.draws e :), (congrArg State.pending e :)⟩

@[simp] theorem State.lane_tellManagers (s : State) (code rung c i : Nat) (j : Nat) : (s.tellManagers code rung c i).lane j = s.lane j := by simp [State.lane]
@[simp] theorem State.port_tellManagers (s : State) (code rung c i : Nat) (j : Nat) : (s.tellManagers code rung c i).port j = s.port j := by simp [State.port]
@[simp] theorem State.slot_tellManagers (s : State) (code rung c i : Nat) (j : Nat) : (s.tellManagers code rung c i).slot j = s.slot j := by simp [State.slot]
@[simp] theorem State.str_tellManagers (s : State) (code rung c i : Nat) (j : Nat) : (s.tellManagers code rung c i).str j = s.str j := by simp [State.str]
@[simp] theorem State.edgeMem_tellManagers (s : State) (code rung c i : Nat) (j : Nat) : (s.tellManagers code rung c i).edgeMem j = s.edgeMem j := by simp [State.edgeMem]
@[simp] theorem State.source_tellManagers (s : State) (code rung c i : Nat) (j : Nat) : (s.tellManagers code rung c i).source j = s.source j := by simp [State.source]
@[simp] theorem State.chan_tellManagers (s : State) (code rung c i : Nat) (j : Nat) : (s.tellManagers code rung c i).chan j = s.chan j := by simp [State.chan]
@[simp] theorem State.cart_tellManagers (s : State) (code rung c i : Nat) (j : Nat) : (s.tellManagers code rung c i).cart j = s.cart j := by simp [State.cart]
@[simp] theorem State.journal_tellManagers (s : State) (code rung c i : Nat) (j : Nat) : (s.tellManagers code rung c i).journal j = s.journal j := by simp [State.journal]
@[simp] theorem State.context_tellManagers (s : State) (code rung c i : Nat) (j : Nat) : (s.tellManagers code rung c i).context j = s.context j := by simp [State.context]
@[simp] theorem State.otpWord_tellManagers (s : State) (code rung c i : Nat) (j : Nat) : (s.tellManagers code rung c i).otpWord j = s.otpWord j := by simp [State.otpWord]
@[simp] theorem State.leaf_tellManagers (s : State) (code rung c i : Nat) (d j : Nat) : (s.tellManagers code rung c i).leaf d j = s.leaf d j := by simp [State.leaf]
@[simp] theorem State.rfuOp_tellManagers (s : State) (code rung c i : Nat) (j : Nat) : (s.tellManagers code rung c i).rfuOp j = s.rfuOp j := by simp [State.rfuOp]

end Sys2Proof.Machine
end

