-- ==== Sys2Proof/Laws/Frames.lean ====
section
/-! SUPPORT. A choice and a run over a list keep what each of their steps keeps. -/
namespace Sys2Proof.Machine

@[simp] theorem State.spn_ite (c : Prop) [Decidable c] (a b : State) : (if c then a else b).spn = if c then a.spn else b.spn := apply_ite State.spn c a b
@[simp] theorem State.spn_foldl {α : Type} {f : State → α → State} (h : ∀ s a, (f s a).spn = s.spn) (l : List α) (s : State) : (l.foldl f s).spn = s.spn := by
  induction l generalizing s with
  | nil => rfl
  | cons a l ih => rw [List.foldl_cons, ih, h]
@[simp] theorem State.boot_ite (c : Prop) [Decidable c] (a b : State) : (if c then a else b).boot = if c then a.boot else b.boot := apply_ite State.boot c a b
@[simp] theorem State.boot_foldl {α : Type} {f : State → α → State} (h : ∀ s a, (f s a).boot = s.boot) (l : List α) (s : State) : (l.foldl f s).boot = s.boot := by
  induction l generalizing s with
  | nil => rfl
  | cons a l ih => rw [List.foldl_cons, ih, h]
@[simp] theorem State.strs_ite (c : Prop) [Decidable c] (a b : State) : (if c then a else b).strs = if c then a.strs else b.strs := apply_ite State.strs c a b
@[simp] theorem State.strs_foldl {α : Type} {f : State → α → State} (h : ∀ s a, (f s a).strs = s.strs) (l : List α) (s : State) : (l.foldl f s).strs = s.strs := by
  induction l generalizing s with
  | nil => rfl
  | cons a l ih => rw [List.foldl_cons, ih, h]
@[simp] theorem State.apa_ite (c : Prop) [Decidable c] (a b : State) : (if c then a else b).apa = if c then a.apa else b.apa := apply_ite State.apa c a b
@[simp] theorem State.apa_foldl {α : Type} {f : State → α → State} (h : ∀ s a, (f s a).apa = s.apa) (l : List α) (s : State) : (l.foldl f s).apa = s.apa := by
  induction l generalizing s with
  | nil => rfl
  | cons a l ih => rw [List.foldl_cons, ih, h]
@[simp] theorem State.pol_ite (c : Prop) [Decidable c] (a b : State) : (if c then a else b).pol = if c then a.pol else b.pol := apply_ite State.pol c a b
@[simp] theorem State.pol_foldl {α : Type} {f : State → α → State} (h : ∀ s a, (f s a).pol = s.pol) (l : List α) (s : State) : (l.foldl f s).pol = s.pol := by
  induction l generalizing s with
  | nil => rfl
  | cons a l ih => rw [List.foldl_cons, ih, h]
@[simp] theorem State.fit_ite (c : Prop) [Decidable c] (a b : State) : (if c then a else b).fit = if c then a.fit else b.fit := apply_ite State.fit c a b
@[simp] theorem State.fit_foldl {α : Type} {f : State → α → State} (h : ∀ s a, (f s a).fit = s.fit) (l : List α) (s : State) : (l.foldl f s).fit = s.fit := by
  induction l generalizing s with
  | nil => rfl
  | cons a l ih => rw [List.foldl_cons, ih, h]
@[simp] theorem State.bde_ite (c : Prop) [Decidable c] (a b : State) : (if c then a else b).bde = if c then a.bde else b.bde := apply_ite State.bde c a b
@[simp] theorem State.bde_foldl {α : Type} {f : State → α → State} (h : ∀ s a, (f s a).bde = s.bde) (l : List α) (s : State) : (l.foldl f s).bde = s.bde := by
  induction l generalizing s with
  | nil => rfl
  | cons a l ih => rw [List.foldl_cons, ih, h]
@[simp] theorem State.hma_ite (c : Prop) [Decidable c] (a b : State) : (if c then a else b).hma = if c then a.hma else b.hma := apply_ite State.hma c a b
@[simp] theorem State.hma_foldl {α : Type} {f : State → α → State} (h : ∀ s a, (f s a).hma = s.hma) (l : List α) (s : State) : (l.foldl f s).hma = s.hma := by
  induction l generalizing s with
  | nil => rfl
  | cons a l ih => rw [List.foldl_cons, ih, h]
@[simp] theorem State.cme_ite (c : Prop) [Decidable c] (a b : State) : (if c then a else b).cme = if c then a.cme else b.cme := apply_ite State.cme c a b
@[simp] theorem State.cme_foldl {α : Type} {f : State → α → State} (h : ∀ s a, (f s a).cme = s.cme) (l : List α) (s : State) : (l.foldl f s).cme = s.cme := by
  induction l generalizing s with
  | nil => rfl
  | cons a l ih => rw [List.foldl_cons, ih, h]
@[simp] theorem State.rfg_ite (c : Prop) [Decidable c] (a b : State) : (if c then a else b).rfg = if c then a.rfg else b.rfg := apply_ite State.rfg c a b
@[simp] theorem State.rfg_foldl {α : Type} {f : State → α → State} (h : ∀ s a, (f s a).rfg = s.rfg) (l : List α) (s : State) : (l.foldl f s).rfg = s.rfg := by
  induction l generalizing s with
  | nil => rfl
  | cons a l ih => rw [List.foldl_cons, ih, h]
@[simp] theorem State.atr_ite (c : Prop) [Decidable c] (a b : State) : (if c then a else b).atr = if c then a.atr else b.atr := apply_ite State.atr c a b
@[simp] theorem State.atr_foldl {α : Type} {f : State → α → State} (h : ∀ s a, (f s a).atr = s.atr) (l : List α) (s : State) : (l.foldl f s).atr = s.atr := by
  induction l generalizing s with
  | nil => rfl
  | cons a l ih => rw [List.foldl_cons, ih, h]
@[simp] theorem State.rfu_ite (c : Prop) [Decidable c] (a b : State) : (if c then a else b).rfu = if c then a.rfu else b.rfu := apply_ite State.rfu c a b
@[simp] theorem State.rfu_foldl {α : Type} {f : State → α → State} (h : ∀ s a, (f s a).rfu = s.rfu) (l : List α) (s : State) : (l.foldl f s).rfu = s.rfu := by
  induction l generalizing s with
  | nil => rfl
  | cons a l ih => rw [List.foldl_cons, ih, h]
@[simp] theorem State.cby_ite (c : Prop) [Decidable c] (a b : State) : (if c then a else b).cby = if c then a.cby else b.cby := apply_ite State.cby c a b
@[simp] theorem State.cby_foldl {α : Type} {f : State → α → State} (h : ∀ s a, (f s a).cby = s.cby) (l : List α) (s : State) : (l.foldl f s).cby = s.cby := by
  induction l generalizing s with
  | nil => rfl
  | cons a l ih => rw [List.foldl_cons, ih, h]
@[simp] theorem State.cru_ite (c : Prop) [Decidable c] (a b : State) : (if c then a else b).cru = if c then a.cru else b.cru := apply_ite State.cru c a b
@[simp] theorem State.cru_foldl {α : Type} {f : State → α → State} (h : ∀ s a, (f s a).cru = s.cru) (l : List α) (s : State) : (l.foldl f s).cru = s.cru := by
  induction l generalizing s with
  | nil => rfl
  | cons a l ih => rw [List.foldl_cons, ih, h]
@[simp] theorem State.otp_ite (c : Prop) [Decidable c] (a b : State) : (if c then a else b).otp = if c then a.otp else b.otp := apply_ite State.otp c a b
@[simp] theorem State.otp_foldl {α : Type} {f : State → α → State} (h : ∀ s a, (f s a).otp = s.otp) (l : List α) (s : State) : (l.foldl f s).otp = s.otp := by
  induction l generalizing s with
  | nil => rfl
  | cons a l ih => rw [List.foldl_cons, ih, h]
@[simp] theorem State.emb_ite (c : Prop) [Decidable c] (a b : State) : (if c then a else b).emb = if c then a.emb else b.emb := apply_ite State.emb c a b
@[simp] theorem State.emb_foldl {α : Type} {f : State → α → State} (h : ∀ s a, (f s a).emb = s.emb) (l : List α) (s : State) : (l.foldl f s).emb = s.emb := by
  induction l generalizing s with
  | nil => rfl
  | cons a l ih => rw [List.foldl_cons, ih, h]
@[simp] theorem State.wwu_ite (c : Prop) [Decidable c] (a b : State) : (if c then a else b).wwu = if c then a.wwu else b.wwu := apply_ite State.wwu c a b
@[simp] theorem State.wwu_foldl {α : Type} {f : State → α → State} (h : ∀ s a, (f s a).wwu = s.wwu) (l : List α) (s : State) : (l.foldl f s).wwu = s.wwu := by
  induction l generalizing s with
  | nil => rfl
  | cons a l ih => rw [List.foldl_cons, ih, h]
@[simp] theorem State.lgb_ite (c : Prop) [Decidable c] (a b : State) : (if c then a else b).lgb = if c then a.lgb else b.lgb := apply_ite State.lgb c a b
@[simp] theorem State.lgb_foldl {α : Type} {f : State → α → State} (h : ∀ s a, (f s a).lgb = s.lgb) (l : List α) (s : State) : (l.foldl f s).lgb = s.lgb := by
  induction l generalizing s with
  | nil => rfl
  | cons a l ih => rw [List.foldl_cons, ih, h]
@[simp] theorem State.io_ite (c : Prop) [Decidable c] (a b : State) : (if c then a else b).io = if c then a.io else b.io := apply_ite State.io c a b
@[simp] theorem State.io_foldl {α : Type} {f : State → α → State} (h : ∀ s a, (f s a).io = s.io) (l : List α) (s : State) : (l.foldl f s).io = s.io := by
  induction l generalizing s with
  | nil => rfl
  | cons a l ih => rw [List.foldl_cons, ih, h]
@[simp] theorem State.draws_ite (c : Prop) [Decidable c] (a b : State) : (if c then a else b).draws = if c then a.draws else b.draws := apply_ite State.draws c a b
@[simp] theorem State.draws_foldl {α : Type} {f : State → α → State} (h : ∀ s a, (f s a).draws = s.draws) (l : List α) (s : State) : (l.foldl f s).draws = s.draws := by
  induction l generalizing s with
  | nil => rfl
  | cons a l ih => rw [List.foldl_cons, ih, h]
@[simp] theorem State.pending_ite (c : Prop) [Decidable c] (a b : State) : (if c then a else b).pending = if c then a.pending else b.pending := apply_ite State.pending c a b
@[simp] theorem State.pending_foldl {α : Type} {f : State → α → State} (h : ∀ s a, (f s a).pending = s.pending) (l : List α) (s : State) : (l.foldl f s).pending = s.pending := by
  induction l generalizing s with
  | nil => rfl
  | cons a l ih => rw [List.foldl_cons, ih, h]

/-- A reading of the state of a pair survives a run whose every step keeps it. -/
theorem foldl_fst {α β γ : Type} (p : State → γ) {f : State × β → α → State × β} (h : ∀ r a, p (f r a).1 = p r.1) (l : List α)
    (r : State × β) : p (l.foldl f r).1 = p r.1 := by
  induction l generalizing r with
  | nil => rfl
  | cons a l ih => rw [List.foldl_cons, ih, h]

end Sys2Proof.Machine
end

