-- ==== Sys2Proof/Laws/Frames1.lean ====
section
/-! SUPPORT. Which fields of the state the operations of Ops, Commands, Entry, Sections, HammerOps, Queues, Frames, SlotOps leave as they were. -/
namespace Sys2Proof.Machine

/-- State.blowPosition writes otp at most. -/
@[simp] theorem State.blowPosition_keeps (s : State) (w p : Nat) :
    (State.blowPosition s w p).spn = s.spn ∧ (State.blowPosition s w p).boot = s.boot ∧
    (State.blowPosition s w p).strs = s.strs ∧ (State.blowPosition s w p).apa = s.apa ∧
    (State.blowPosition s w p).pol = s.pol ∧ (State.blowPosition s w p).fit = s.fit ∧
    (State.blowPosition s w p).bde = s.bde ∧ (State.blowPosition s w p).hma = s.hma ∧
    (State.blowPosition s w p).cme = s.cme ∧ (State.blowPosition s w p).rfg = s.rfg ∧
    (State.blowPosition s w p).atr = s.atr ∧ (State.blowPosition s w p).rfu = s.rfu ∧
    (State.blowPosition s w p).cby = s.cby ∧ (State.blowPosition s w p).cru = s.cru ∧
    (State.blowPosition s w p).emb = s.emb ∧ (State.blowPosition s w p).wwu = s.wwu ∧
    (State.blowPosition s w p).lgb = s.lgb ∧ (State.blowPosition s w p).io = s.io ∧
    (State.blowPosition s w p).draws = s.draws ∧ (State.blowPosition s w p).pending = s.pending := by
  simp [State.blowPosition]

/-- State.advanceArb writes otp at most. -/
@[simp] theorem State.advanceArb_keeps (s : State) (c v : Nat) :
    (State.advanceArb s c v).spn = s.spn ∧ (State.advanceArb s c v).boot = s.boot ∧ (State.advanceArb s c v).strs = s.strs ∧
    (State.advanceArb s c v).apa = s.apa ∧ (State.advanceArb s c v).pol = s.pol ∧ (State.advanceArb s c v).fit = s.fit ∧
    (State.advanceArb s c v).bde = s.bde ∧ (State.advanceArb s c v).hma = s.hma ∧ (State.advanceArb s c v).cme = s.cme ∧
    (State.advanceArb s c v).rfg = s.rfg ∧ (State.advanceArb s c v).atr = s.atr ∧ (State.advanceArb s c v).rfu = s.rfu ∧
    (State.advanceArb s c v).cby = s.cby ∧ (State.advanceArb s c v).cru = s.cru ∧ (State.advanceArb s c v).emb = s.emb ∧
    (State.advanceArb s c v).wwu = s.wwu ∧ (State.advanceArb s c v).lgb = s.lgb ∧ (State.advanceArb s c v).io = s.io ∧
    (State.advanceArb s c v).draws = s.draws ∧ (State.advanceArb s c v).pending = s.pending := by
  simp [State.advanceArb]

/-- State.tellGroup writes cme at most. -/
@[simp] theorem State.tellGroup_keeps (s : State) (code rung q : Nat) :
    (State.tellGroup s code rung q).spn = s.spn ∧ (State.tellGroup s code rung q).boot = s.boot ∧
    (State.tellGroup s code rung q).strs = s.strs ∧ (State.tellGroup s code rung q).apa = s.apa ∧
    (State.tellGroup s code rung q).pol = s.pol ∧ (State.tellGroup s code rung q).fit = s.fit ∧
    (State.tellGroup s code rung q).bde = s.bde ∧ (State.tellGroup s code rung q).hma = s.hma ∧
    (State.tellGroup s code rung q).rfg = s.rfg ∧ (State.tellGroup s code rung q).atr = s.atr ∧
    (State.tellGroup s code rung q).rfu = s.rfu ∧ (State.tellGroup s code rung q).cby = s.cby ∧
    (State.tellGroup s code rung q).cru = s.cru ∧ (State.tellGroup s code rung q).otp = s.otp ∧
    (State.tellGroup s code rung q).emb = s.emb ∧ (State.tellGroup s code rung q).wwu = s.wwu ∧
    (State.tellGroup s code rung q).lgb = s.lgb ∧ (State.tellGroup s code rung q).io = s.io ∧
    (State.tellGroup s code rung q).draws = s.draws ∧ (State.tellGroup s code rung q).pending = s.pending := by
  simp [State.tellGroup]

/-- State.startYield writes spn, lgb at most. -/
@[simp] theorem State.startYield_keeps (s : State) (r : Region) (winner yielder cls idx : Nat) (tag : Nat := 0) :
    (State.startYield s r winner yielder cls idx tag).boot = s.boot ∧
    (State.startYield s r winner yielder cls idx tag).strs = s.strs ∧
    (State.startYield s r winner yielder cls idx tag).apa = s.apa ∧
    (State.startYield s r winner yielder cls idx tag).pol = s.pol ∧
    (State.startYield s r winner yielder cls idx tag).fit = s.fit ∧
    (State.startYield s r winner yielder cls idx tag).bde = s.bde ∧
    (State.startYield s r winner yielder cls idx tag).hma = s.hma ∧
    (State.startYield s r winner yielder cls idx tag).cme = s.cme ∧
    (State.startYield s r winner yielder cls idx tag).rfg = s.rfg ∧
    (State.startYield s r winner yielder cls idx tag).atr = s.atr ∧
    (State.startYield s r winner yielder cls idx tag).rfu = s.rfu ∧
    (State.startYield s r winner yielder cls idx tag).cby = s.cby ∧
    (State.startYield s r winner yielder cls idx tag).cru = s.cru ∧
    (State.startYield s r winner yielder cls idx tag).otp = s.otp ∧
    (State.startYield s r winner yielder cls idx tag).emb = s.emb ∧
    (State.startYield s r winner yielder cls idx tag).wwu = s.wwu ∧
    (State.startYield s r winner yielder cls idx tag).io = s.io ∧
    (State.startYield s r winner yielder cls idx tag).draws = s.draws ∧
    (State.startYield s r winner yielder cls idx tag).pending = s.pending := by
  simp [State.startYield]

/-- State.yieldBegin writes spn, cme, lgb at most. -/
@[simp] theorem State.yieldBegin_keeps (s : State) (r : Region) (winner yielder cls idx : Nat) :
    (State.yieldBegin s r winner yielder cls idx).boot = s.boot ∧
    (State.yieldBegin s r winner yielder cls idx).strs = s.strs ∧ (State.yieldBegin s r winner yielder cls idx).apa = s.apa ∧
    (State.yieldBegin s r winner yielder cls idx).pol = s.pol ∧ (State.yieldBegin s r winner yielder cls idx).fit = s.fit ∧
    (State.yieldBegin s r winner yielder cls idx).bde = s.bde ∧ (State.yieldBegin s r winner yielder cls idx).hma = s.hma ∧
    (State.yieldBegin s r winner yielder cls idx).rfg = s.rfg ∧ (State.yieldBegin s r winner yielder cls idx).atr = s.atr ∧
    (State.yieldBegin s r winner yielder cls idx).rfu = s.rfu ∧ (State.yieldBegin s r winner yielder cls idx).cby = s.cby ∧
    (State.yieldBegin s r winner yielder cls idx).cru = s.cru ∧ (State.yieldBegin s r winner yielder cls idx).otp = s.otp ∧
    (State.yieldBegin s r winner yielder cls idx).emb = s.emb ∧ (State.yieldBegin s r winner yielder cls idx).wwu = s.wwu ∧
    (State.yieldBegin s r winner yielder cls idx).io = s.io ∧ (State.yieldBegin s r winner yielder cls idx).draws = s.draws ∧
    (State.yieldBegin s r winner yielder cls idx).pending = s.pending := by
  simp [State.yieldBegin]

/-- State.yieldEnd writes spn, lgb at most. -/
@[simp] theorem State.yieldEnd_keeps (s : State) (r : Region) (cls idx : Nat) (tag : Nat := 0) :
    (State.yieldEnd s r cls idx tag).boot = s.boot ∧ (State.yieldEnd s r cls idx tag).strs = s.strs ∧
    (State.yieldEnd s r cls idx tag).apa = s.apa ∧ (State.yieldEnd s r cls idx tag).pol = s.pol ∧
    (State.yieldEnd s r cls idx tag).fit = s.fit ∧ (State.yieldEnd s r cls idx tag).bde = s.bde ∧
    (State.yieldEnd s r cls idx tag).hma = s.hma ∧ (State.yieldEnd s r cls idx tag).cme = s.cme ∧
    (State.yieldEnd s r cls idx tag).rfg = s.rfg ∧ (State.yieldEnd s r cls idx tag).atr = s.atr ∧
    (State.yieldEnd s r cls idx tag).rfu = s.rfu ∧ (State.yieldEnd s r cls idx tag).cby = s.cby ∧
    (State.yieldEnd s r cls idx tag).cru = s.cru ∧ (State.yieldEnd s r cls idx tag).otp = s.otp ∧
    (State.yieldEnd s r cls idx tag).emb = s.emb ∧ (State.yieldEnd s r cls idx tag).wwu = s.wwu ∧
    (State.yieldEnd s r cls idx tag).io = s.io ∧ (State.yieldEnd s r cls idx tag).draws = s.draws ∧
    (State.yieldEnd s r cls idx tag).pending = s.pending := by
  simp [State.yieldEnd]

/-- State.putDone writes cme at most. -/
@[simp] theorem State.putDone_keeps (s : State) (src : Src) (c : Completion) :
    (State.putDone s src c).spn = s.spn ∧ (State.putDone s src c).boot = s.boot ∧ (State.putDone s src c).strs = s.strs ∧
    (State.putDone s src c).apa = s.apa ∧ (State.putDone s src c).pol = s.pol ∧ (State.putDone s src c).fit = s.fit ∧
    (State.putDone s src c).bde = s.bde ∧ (State.putDone s src c).hma = s.hma ∧ (State.putDone s src c).rfg = s.rfg ∧
    (State.putDone s src c).atr = s.atr ∧ (State.putDone s src c).rfu = s.rfu ∧ (State.putDone s src c).cby = s.cby ∧
    (State.putDone s src c).cru = s.cru ∧ (State.putDone s src c).otp = s.otp ∧ (State.putDone s src c).emb = s.emb ∧
    (State.putDone s src c).wwu = s.wwu ∧ (State.putDone s src c).lgb = s.lgb ∧ (State.putDone s src c).io = s.io ∧
    (State.putDone s src c).draws = s.draws ∧ (State.putDone s src c).pending = s.pending := by
  unfold State.putDone; dsimp only; (repeat' split) <;> simp

/-- State.addFlight writes cme at most. -/
@[simp] theorem State.addFlight_keeps (s : State) (src : Src) (f : Flight) :
    (State.addFlight s src f).spn = s.spn ∧ (State.addFlight s src f).boot = s.boot ∧
    (State.addFlight s src f).strs = s.strs ∧ (State.addFlight s src f).apa = s.apa ∧ (State.addFlight s src f).pol = s.pol ∧
    (State.addFlight s src f).fit = s.fit ∧ (State.addFlight s src f).bde = s.bde ∧ (State.addFlight s src f).hma = s.hma ∧
    (State.addFlight s src f).rfg = s.rfg ∧ (State.addFlight s src f).atr = s.atr ∧ (State.addFlight s src f).rfu = s.rfu ∧
    (State.addFlight s src f).cby = s.cby ∧ (State.addFlight s src f).cru = s.cru ∧ (State.addFlight s src f).otp = s.otp ∧
    (State.addFlight s src f).emb = s.emb ∧ (State.addFlight s src f).wwu = s.wwu ∧ (State.addFlight s src f).lgb = s.lgb ∧
    (State.addFlight s src f).io = s.io ∧ (State.addFlight s src f).draws = s.draws ∧
    (State.addFlight s src f).pending = s.pending := by
  simp [State.addFlight]

/-- State.crossInto writes spn at most. -/
@[simp] theorem State.crossInto_keeps (s : State) (i : Nat) :
    (State.crossInto s i).boot = s.boot ∧ (State.crossInto s i).strs = s.strs ∧ (State.crossInto s i).apa = s.apa ∧
    (State.crossInto s i).pol = s.pol ∧ (State.crossInto s i).fit = s.fit ∧ (State.crossInto s i).bde = s.bde ∧
    (State.crossInto s i).hma = s.hma ∧ (State.crossInto s i).cme = s.cme ∧ (State.crossInto s i).rfg = s.rfg ∧
    (State.crossInto s i).atr = s.atr ∧ (State.crossInto s i).rfu = s.rfu ∧ (State.crossInto s i).cby = s.cby ∧
    (State.crossInto s i).cru = s.cru ∧ (State.crossInto s i).otp = s.otp ∧ (State.crossInto s i).emb = s.emb ∧
    (State.crossInto s i).wwu = s.wwu ∧ (State.crossInto s i).lgb = s.lgb ∧ (State.crossInto s i).io = s.io ∧
    (State.crossInto s i).draws = s.draws ∧ (State.crossInto s i).pending = s.pending := by
  simp [State.crossInto]

/-- State.waitIsland writes spn, cme at most. -/
@[simp] theorem State.waitIsland_keeps (s : State) (h : Hdr) (i : Nat) :
    (State.waitIsland s h i).boot = s.boot ∧ (State.waitIsland s h i).strs = s.strs ∧ (State.waitIsland s h i).apa = s.apa ∧
    (State.waitIsland s h i).pol = s.pol ∧ (State.waitIsland s h i).fit = s.fit ∧ (State.waitIsland s h i).bde = s.bde ∧
    (State.waitIsland s h i).hma = s.hma ∧ (State.waitIsland s h i).rfg = s.rfg ∧ (State.waitIsland s h i).atr = s.atr ∧
    (State.waitIsland s h i).rfu = s.rfu ∧ (State.waitIsland s h i).cby = s.cby ∧ (State.waitIsland s h i).cru = s.cru ∧
    (State.waitIsland s h i).otp = s.otp ∧ (State.waitIsland s h i).emb = s.emb ∧ (State.waitIsland s h i).wwu = s.wwu ∧
    (State.waitIsland s h i).lgb = s.lgb ∧ (State.waitIsland s h i).io = s.io ∧ (State.waitIsland s h i).draws = s.draws ∧
    (State.waitIsland s h i).pending = s.pending := by
  simp [State.waitIsland]

/-- State.waitLane writes cme at most. -/
@[simp] theorem State.waitLane_keeps (s : State) (h : Hdr) (w : LaneWait) :
    (State.waitLane s h w).spn = s.spn ∧ (State.waitLane s h w).boot = s.boot ∧ (State.waitLane s h w).strs = s.strs ∧
    (State.waitLane s h w).apa = s.apa ∧ (State.waitLane s h w).pol = s.pol ∧ (State.waitLane s h w).fit = s.fit ∧
    (State.waitLane s h w).bde = s.bde ∧ (State.waitLane s h w).hma = s.hma ∧ (State.waitLane s h w).rfg = s.rfg ∧
    (State.waitLane s h w).atr = s.atr ∧ (State.waitLane s h w).rfu = s.rfu ∧ (State.waitLane s h w).cby = s.cby ∧
    (State.waitLane s h w).cru = s.cru ∧ (State.waitLane s h w).otp = s.otp ∧ (State.waitLane s h w).emb = s.emb ∧
    (State.waitLane s h w).wwu = s.wwu ∧ (State.waitLane s h w).lgb = s.lgb ∧ (State.waitLane s h w).io = s.io ∧
    (State.waitLane s h w).draws = s.draws ∧ (State.waitLane s h w).pending = s.pending := by
  simp [State.waitLane]

/-- completeAll writes cme at most. -/
@[simp] theorem State.completeAll_keeps (hs : List Hdr) (r : Reply) (s : State) :
    (completeAll hs r s).spn = s.spn ∧ (completeAll hs r s).boot = s.boot ∧ (completeAll hs r s).strs = s.strs ∧
    (completeAll hs r s).apa = s.apa ∧ (completeAll hs r s).pol = s.pol ∧ (completeAll hs r s).fit = s.fit ∧
    (completeAll hs r s).bde = s.bde ∧ (completeAll hs r s).hma = s.hma ∧ (completeAll hs r s).rfg = s.rfg ∧
    (completeAll hs r s).atr = s.atr ∧ (completeAll hs r s).rfu = s.rfu ∧ (completeAll hs r s).cby = s.cby ∧
    (completeAll hs r s).cru = s.cru ∧ (completeAll hs r s).otp = s.otp ∧ (completeAll hs r s).emb = s.emb ∧
    (completeAll hs r s).wwu = s.wwu ∧ (completeAll hs r s).lgb = s.lgb ∧ (completeAll hs r s).io = s.io ∧
    (completeAll hs r s).draws = s.draws ∧ (completeAll hs r s).pending = s.pending := by
  simp [completeAll]

/-- State.updCount writes rfg at most. -/
@[simp] theorem State.updCount_keeps (s : State) (q : Nat) (f : QCount → QCount) :
    (State.updCount s q f).spn = s.spn ∧ (State.updCount s q f).boot = s.boot ∧ (State.updCount s q f).strs = s.strs ∧
    (State.updCount s q f).apa = s.apa ∧ (State.updCount s q f).pol = s.pol ∧ (State.updCount s q f).fit = s.fit ∧
    (State.updCount s q f).bde = s.bde ∧ (State.updCount s q f).hma = s.hma ∧ (State.updCount s q f).cme = s.cme ∧
    (State.updCount s q f).atr = s.atr ∧ (State.updCount s q f).rfu = s.rfu ∧ (State.updCount s q f).cby = s.cby ∧
    (State.updCount s q f).cru = s.cru ∧ (State.updCount s q f).otp = s.otp ∧ (State.updCount s q f).emb = s.emb ∧
    (State.updCount s q f).wwu = s.wwu ∧ (State.updCount s q f).lgb = s.lgb ∧ (State.updCount s q f).io = s.io ∧
    (State.updCount s q f).draws = s.draws ∧ (State.updCount s q f).pending = s.pending := by
  simp [State.updCount]

/-- State.takeEntry writes cme at most. -/
@[simp] theorem State.takeEntry_keeps (s : State) (src : Src) (entry data : Bytes) :
    (State.takeEntry s src entry data).spn = s.spn ∧ (State.takeEntry s src entry data).boot = s.boot ∧
    (State.takeEntry s src entry data).strs = s.strs ∧ (State.takeEntry s src entry data).apa = s.apa ∧
    (State.takeEntry s src entry data).pol = s.pol ∧ (State.takeEntry s src entry data).fit = s.fit ∧
    (State.takeEntry s src entry data).bde = s.bde ∧ (State.takeEntry s src entry data).hma = s.hma ∧
    (State.takeEntry s src entry data).rfg = s.rfg ∧ (State.takeEntry s src entry data).atr = s.atr ∧
    (State.takeEntry s src entry data).rfu = s.rfu ∧ (State.takeEntry s src entry data).cby = s.cby ∧
    (State.takeEntry s src entry data).cru = s.cru ∧ (State.takeEntry s src entry data).otp = s.otp ∧
    (State.takeEntry s src entry data).emb = s.emb ∧ (State.takeEntry s src entry data).wwu = s.wwu ∧
    (State.takeEntry s src entry data).lgb = s.lgb ∧ (State.takeEntry s src entry data).io = s.io ∧
    (State.takeEntry s src entry data).draws = s.draws ∧ (State.takeEntry s src entry data).pending = s.pending := by
  unfold State.takeEntry; dsimp only; (repeat' split) <;> simp

/-- State.updBus writes strs at most. -/
@[simp] theorem State.updBus_keeps (s : State) (b : Nat) (f : XBus → XBus) :
    (State.updBus s b f).spn = s.spn ∧ (State.updBus s b f).boot = s.boot ∧ (State.updBus s b f).apa = s.apa ∧
    (State.updBus s b f).pol = s.pol ∧ (State.updBus s b f).fit = s.fit ∧ (State.updBus s b f).bde = s.bde ∧
    (State.updBus s b f).hma = s.hma ∧ (State.updBus s b f).cme = s.cme ∧ (State.updBus s b f).rfg = s.rfg ∧
    (State.updBus s b f).atr = s.atr ∧ (State.updBus s b f).rfu = s.rfu ∧ (State.updBus s b f).cby = s.cby ∧
    (State.updBus s b f).cru = s.cru ∧ (State.updBus s b f).otp = s.otp ∧ (State.updBus s b f).emb = s.emb ∧
    (State.updBus s b f).wwu = s.wwu ∧ (State.updBus s b f).lgb = s.lgb ∧ (State.updBus s b f).io = s.io ∧
    (State.updBus s b f).draws = s.draws ∧ (State.updBus s b f).pending = s.pending := by
  unfold State.updBus; dsimp only; (repeat' split) <;> simp

/-- State.drawFor writes cru at most. -/
@[simp] theorem State.drawFor_keeps (s : State) (cluster n : Nat) :
    (State.drawFor s cluster n).spn = s.spn ∧ (State.drawFor s cluster n).boot = s.boot ∧
    (State.drawFor s cluster n).strs = s.strs ∧ (State.drawFor s cluster n).apa = s.apa ∧
    (State.drawFor s cluster n).pol = s.pol ∧ (State.drawFor s cluster n).fit = s.fit ∧
    (State.drawFor s cluster n).bde = s.bde ∧ (State.drawFor s cluster n).hma = s.hma ∧
    (State.drawFor s cluster n).cme = s.cme ∧ (State.drawFor s cluster n).rfg = s.rfg ∧
    (State.drawFor s cluster n).atr = s.atr ∧ (State.drawFor s cluster n).rfu = s.rfu ∧
    (State.drawFor s cluster n).cby = s.cby ∧ (State.drawFor s cluster n).otp = s.otp ∧
    (State.drawFor s cluster n).emb = s.emb ∧ (State.drawFor s cluster n).wwu = s.wwu ∧
    (State.drawFor s cluster n).lgb = s.lgb ∧ (State.drawFor s cluster n).io = s.io ∧
    (State.drawFor s cluster n).draws = s.draws ∧ (State.drawFor s cluster n).pending = s.pending := by
  unfold State.drawFor; (repeat' split) <;> (try dsimp only) <;> (repeat' split) <;> simp

/-- State.takePair writes hma, cru at most. -/
@[simp] theorem State.takePair_keeps (s : State) (lane op : Nat) :
    (State.takePair s lane op).spn = s.spn ∧ (State.takePair s lane op).boot = s.boot ∧
    (State.takePair s lane op).strs = s.strs ∧ (State.takePair s lane op).apa = s.apa ∧
    (State.takePair s lane op).pol = s.pol ∧ (State.takePair s lane op).fit = s.fit ∧
    (State.takePair s lane op).bde = s.bde ∧ (State.takePair s lane op).cme = s.cme ∧
    (State.takePair s lane op).rfg = s.rfg ∧ (State.takePair s lane op).atr = s.atr ∧
    (State.takePair s lane op).rfu = s.rfu ∧ (State.takePair s lane op).cby = s.cby ∧
    (State.takePair s lane op).otp = s.otp ∧ (State.takePair s lane op).emb = s.emb ∧
    (State.takePair s lane op).wwu = s.wwu ∧ (State.takePair s lane op).lgb = s.lgb ∧ (State.takePair s lane op).io = s.io ∧
    (State.takePair s lane op).draws = s.draws ∧ (State.takePair s lane op).pending = s.pending := by
  unfold State.takePair; dsimp only; (repeat' split) <;> simp

/-- State.beginWork writes hma, cru at most. -/
@[simp] theorem State.beginWork_keeps (s : State) (lane op : Nat) (input : Bytes) :
    (State.beginWork s lane op input).spn = s.spn ∧ (State.beginWork s lane op input).boot = s.boot ∧
    (State.beginWork s lane op input).strs = s.strs ∧ (State.beginWork s lane op input).apa = s.apa ∧
    (State.beginWork s lane op input).pol = s.pol ∧ (State.beginWork s lane op input).fit = s.fit ∧
    (State.beginWork s lane op input).bde = s.bde ∧ (State.beginWork s lane op input).cme = s.cme ∧
    (State.beginWork s lane op input).rfg = s.rfg ∧ (State.beginWork s lane op input).atr = s.atr ∧
    (State.beginWork s lane op input).rfu = s.rfu ∧ (State.beginWork s lane op input).cby = s.cby ∧
    (State.beginWork s lane op input).otp = s.otp ∧ (State.beginWork s lane op input).emb = s.emb ∧
    (State.beginWork s lane op input).wwu = s.wwu ∧ (State.beginWork s lane op input).lgb = s.lgb ∧
    (State.beginWork s lane op input).io = s.io ∧ (State.beginWork s lane op input).draws = s.draws ∧
    (State.beginWork s lane op input).pending = s.pending := by
  simp [State.beginWork]

/-- State.setTurn writes hma at most. -/
@[simp] theorem State.setTurn_keeps (s : State) (c : WorkClass) (t : Turn) :
    (State.setTurn s c t).spn = s.spn ∧ (State.setTurn s c t).boot = s.boot ∧ (State.setTurn s c t).strs = s.strs ∧
    (State.setTurn s c t).apa = s.apa ∧ (State.setTurn s c t).pol = s.pol ∧ (State.setTurn s c t).fit = s.fit ∧
    (State.setTurn s c t).bde = s.bde ∧ (State.setTurn s c t).cme = s.cme ∧ (State.setTurn s c t).rfg = s.rfg ∧
    (State.setTurn s c t).atr = s.atr ∧ (State.setTurn s c t).rfu = s.rfu ∧ (State.setTurn s c t).cby = s.cby ∧
    (State.setTurn s c t).cru = s.cru ∧ (State.setTurn s c t).otp = s.otp ∧ (State.setTurn s c t).emb = s.emb ∧
    (State.setTurn s c t).wwu = s.wwu ∧ (State.setTurn s c t).lgb = s.lgb ∧ (State.setTurn s c t).io = s.io ∧
    (State.setTurn s c t).draws = s.draws ∧ (State.setTurn s c t).pending = s.pending := by
  unfold State.setTurn; dsimp only; (repeat' split) <;> simp

/-- State.startOp writes hma, cru at most. -/
@[simp] theorem State.startOp_keeps (s : State) (n : Nat) (o : HOp) :
    (State.startOp s n o).spn = s.spn ∧ (State.startOp s n o).boot = s.boot ∧ (State.startOp s n o).strs = s.strs ∧
    (State.startOp s n o).apa = s.apa ∧ (State.startOp s n o).pol = s.pol ∧ (State.startOp s n o).fit = s.fit ∧
    (State.startOp s n o).bde = s.bde ∧ (State.startOp s n o).cme = s.cme ∧ (State.startOp s n o).rfg = s.rfg ∧
    (State.startOp s n o).atr = s.atr ∧ (State.startOp s n o).rfu = s.rfu ∧ (State.startOp s n o).cby = s.cby ∧
    (State.startOp s n o).otp = s.otp ∧ (State.startOp s n o).emb = s.emb ∧ (State.startOp s n o).wwu = s.wwu ∧
    (State.startOp s n o).lgb = s.lgb ∧ (State.startOp s n o).io = s.io ∧ (State.startOp s n o).draws = s.draws ∧
    (State.startOp s n o).pending = s.pending := by
  simp [State.startOp]

theorem State.pickOp_keeps {s : State} {n : Nat} {o : HOp} {t : State} (h : s.pickOp n = some (o, t)) :
    t.spn = s.spn ∧ t.boot = s.boot ∧ t.strs = s.strs ∧ t.apa = s.apa ∧ t.pol = s.pol ∧ t.fit = s.fit ∧ t.bde = s.bde ∧
    t.cme = s.cme ∧ t.rfg = s.rfg ∧ t.atr = s.atr ∧ t.rfu = s.rfu ∧ t.cby = s.cby ∧ t.otp = s.otp ∧ t.emb = s.emb ∧
    t.wwu = s.wwu ∧ t.lgb = s.lgb ∧ t.io = s.io ∧ t.draws = s.draws ∧ t.pending = s.pending := by
  unfold State.pickOp at h
  dsimp only at h
  (repeat' split at h) <;> cases h <;> simp

/-- State.feedLane writes hma, cru at most. -/
@[simp] theorem State.feedLane_keeps (s : State) (n : Nat) :
    (State.feedLane s n).spn = s.spn ∧ (State.feedLane s n).boot = s.boot ∧ (State.feedLane s n).strs = s.strs ∧
    (State.feedLane s n).apa = s.apa ∧ (State.feedLane s n).pol = s.pol ∧ (State.feedLane s n).fit = s.fit ∧
    (State.feedLane s n).bde = s.bde ∧ (State.feedLane s n).cme = s.cme ∧ (State.feedLane s n).rfg = s.rfg ∧
    (State.feedLane s n).atr = s.atr ∧ (State.feedLane s n).rfu = s.rfu ∧ (State.feedLane s n).cby = s.cby ∧
    (State.feedLane s n).otp = s.otp ∧ (State.feedLane s n).emb = s.emb ∧ (State.feedLane s n).wwu = s.wwu ∧
    (State.feedLane s n).lgb = s.lgb ∧ (State.feedLane s n).io = s.io ∧ (State.feedLane s n).draws = s.draws ∧
    (State.feedLane s n).pending = s.pending := by
  unfold State.feedLane; dsimp only; (repeat' split) <;>
    first
    | (simp; done)
    | (have e := State.pickOp_keeps ‹s.pickOp n = some (_, _)›; simp [e])

/-- State.gateLanes writes hma at most. -/
@[simp] theorem State.gateLanes_keeps (s : State) :
    (State.gateLanes s).spn = s.spn ∧ (State.gateLanes s).boot = s.boot ∧ (State.gateLanes s).strs = s.strs ∧
    (State.gateLanes s).apa = s.apa ∧ (State.gateLanes s).pol = s.pol ∧ (State.gateLanes s).fit = s.fit ∧
    (State.gateLanes s).bde = s.bde ∧ (State.gateLanes s).cme = s.cme ∧ (State.gateLanes s).rfg = s.rfg ∧
    (State.gateLanes s).atr = s.atr ∧ (State.gateLanes s).rfu = s.rfu ∧ (State.gateLanes s).cby = s.cby ∧
    (State.gateLanes s).cru = s.cru ∧ (State.gateLanes s).otp = s.otp ∧ (State.gateLanes s).emb = s.emb ∧
    (State.gateLanes s).wwu = s.wwu ∧ (State.gateLanes s).lgb = s.lgb ∧ (State.gateLanes s).io = s.io ∧
    (State.gateLanes s).draws = s.draws ∧ (State.gateLanes s).pending = s.pending := by
  simp [State.gateLanes]

/-- State.powerLanes writes hma at most. -/
@[simp] theorem State.powerLanes_keeps (s : State) (n : Nat) :
    (State.powerLanes s n).spn = s.spn ∧ (State.powerLanes s n).boot = s.boot ∧ (State.powerLanes s n).strs = s.strs ∧
    (State.powerLanes s n).apa = s.apa ∧ (State.powerLanes s n).pol = s.pol ∧ (State.powerLanes s n).fit = s.fit ∧
    (State.powerLanes s n).bde = s.bde ∧ (State.powerLanes s n).cme = s.cme ∧ (State.powerLanes s n).rfg = s.rfg ∧
    (State.powerLanes s n).atr = s.atr ∧ (State.powerLanes s n).rfu = s.rfu ∧ (State.powerLanes s n).cby = s.cby ∧
    (State.powerLanes s n).cru = s.cru ∧ (State.powerLanes s n).otp = s.otp ∧ (State.powerLanes s n).emb = s.emb ∧
    (State.powerLanes s n).wwu = s.wwu ∧ (State.powerLanes s n).lgb = s.lgb ∧ (State.powerLanes s n).io = s.io ∧
    (State.powerLanes s n).draws = s.draws ∧ (State.powerLanes s n).pending = s.pending := by
  simp [State.powerLanes]

/-- State.powerForWork writes hma at most. -/
@[simp] theorem State.powerForWork_keeps (s : State) :
    (State.powerForWork s).spn = s.spn ∧ (State.powerForWork s).boot = s.boot ∧ (State.powerForWork s).strs = s.strs ∧
    (State.powerForWork s).apa = s.apa ∧ (State.powerForWork s).pol = s.pol ∧ (State.powerForWork s).fit = s.fit ∧
    (State.powerForWork s).bde = s.bde ∧ (State.powerForWork s).cme = s.cme ∧ (State.powerForWork s).rfg = s.rfg ∧
    (State.powerForWork s).atr = s.atr ∧ (State.powerForWork s).rfu = s.rfu ∧ (State.powerForWork s).cby = s.cby ∧
    (State.powerForWork s).cru = s.cru ∧ (State.powerForWork s).otp = s.otp ∧ (State.powerForWork s).emb = s.emb ∧
    (State.powerForWork s).wwu = s.wwu ∧ (State.powerForWork s).lgb = s.lgb ∧ (State.powerForWork s).io = s.io ∧
    (State.powerForWork s).draws = s.draws ∧ (State.powerForWork s).pending = s.pending := by
  simp [State.powerForWork]

/-- State.setBudget writes hma at most. -/
@[simp] theorem State.setBudget_keeps (s : State) (b : Nat) :
    (State.setBudget s b).spn = s.spn ∧ (State.setBudget s b).boot = s.boot ∧ (State.setBudget s b).strs = s.strs ∧
    (State.setBudget s b).apa = s.apa ∧ (State.setBudget s b).pol = s.pol ∧ (State.setBudget s b).fit = s.fit ∧
    (State.setBudget s b).bde = s.bde ∧ (State.setBudget s b).cme = s.cme ∧ (State.setBudget s b).rfg = s.rfg ∧
    (State.setBudget s b).atr = s.atr ∧ (State.setBudget s b).rfu = s.rfu ∧ (State.setBudget s b).cby = s.cby ∧
    (State.setBudget s b).cru = s.cru ∧ (State.setBudget s b).otp = s.otp ∧ (State.setBudget s b).emb = s.emb ∧
    (State.setBudget s b).wwu = s.wwu ∧ (State.setBudget s b).lgb = s.lgb ∧ (State.setBudget s b).io = s.io ∧
    (State.setBudget s b).draws = s.draws ∧ (State.setBudget s b).pending = s.pending := by
  simp [State.setBudget]

/-- State.stampGates writes hma at most. -/
@[simp] theorem State.stampGates_keeps (s : State) :
    (State.stampGates s).spn = s.spn ∧ (State.stampGates s).boot = s.boot ∧ (State.stampGates s).strs = s.strs ∧
    (State.stampGates s).apa = s.apa ∧ (State.stampGates s).pol = s.pol ∧ (State.stampGates s).fit = s.fit ∧
    (State.stampGates s).bde = s.bde ∧ (State.stampGates s).cme = s.cme ∧ (State.stampGates s).rfg = s.rfg ∧
    (State.stampGates s).atr = s.atr ∧ (State.stampGates s).rfu = s.rfu ∧ (State.stampGates s).cby = s.cby ∧
    (State.stampGates s).cru = s.cru ∧ (State.stampGates s).otp = s.otp ∧ (State.stampGates s).emb = s.emb ∧
    (State.stampGates s).wwu = s.wwu ∧ (State.stampGates s).lgb = s.lgb ∧ (State.stampGates s).io = s.io ∧
    (State.stampGates s).draws = s.draws ∧ (State.stampGates s).pending = s.pending := by
  simp [State.stampGates]

/-- State.depriveOp writes spn, hma, lgb at most. -/
@[simp] theorem State.depriveOp_keeps (s : State) (o : HOp) :
    (State.depriveOp s o).boot = s.boot ∧ (State.depriveOp s o).strs = s.strs ∧ (State.depriveOp s o).apa = s.apa ∧
    (State.depriveOp s o).pol = s.pol ∧ (State.depriveOp s o).fit = s.fit ∧ (State.depriveOp s o).bde = s.bde ∧
    (State.depriveOp s o).cme = s.cme ∧ (State.depriveOp s o).rfg = s.rfg ∧ (State.depriveOp s o).atr = s.atr ∧
    (State.depriveOp s o).rfu = s.rfu ∧ (State.depriveOp s o).cby = s.cby ∧ (State.depriveOp s o).cru = s.cru ∧
    (State.depriveOp s o).otp = s.otp ∧ (State.depriveOp s o).emb = s.emb ∧ (State.depriveOp s o).wwu = s.wwu ∧
    (State.depriveOp s o).io = s.io ∧ (State.depriveOp s o).draws = s.draws ∧ (State.depriveOp s o).pending = s.pending := by
  unfold State.depriveOp; dsimp only; (repeat' split) <;> simp

/-- State.markDeprived writes spn, hma, lgb at most. -/
@[simp] theorem State.markDeprived_keeps (s : State) :
    (State.markDeprived s).boot = s.boot ∧ (State.markDeprived s).strs = s.strs ∧ (State.markDeprived s).apa = s.apa ∧
    (State.markDeprived s).pol = s.pol ∧ (State.markDeprived s).fit = s.fit ∧ (State.markDeprived s).bde = s.bde ∧
    (State.markDeprived s).cme = s.cme ∧ (State.markDeprived s).rfg = s.rfg ∧ (State.markDeprived s).atr = s.atr ∧
    (State.markDeprived s).rfu = s.rfu ∧ (State.markDeprived s).cby = s.cby ∧ (State.markDeprived s).cru = s.cru ∧
    (State.markDeprived s).otp = s.otp ∧ (State.markDeprived s).emb = s.emb ∧ (State.markDeprived s).wwu = s.wwu ∧
    (State.markDeprived s).io = s.io ∧ (State.markDeprived s).draws = s.draws ∧ (State.markDeprived s).pending = s.pending := by
  simp [State.markDeprived]

/-- State.endYield writes spn, lgb at most. -/
@[simp] theorem State.endYield_keeps (s : State) (o : HOp) :
    (State.endYield s o).boot = s.boot ∧ (State.endYield s o).strs = s.strs ∧ (State.endYield s o).apa = s.apa ∧
    (State.endYield s o).pol = s.pol ∧ (State.endYield s o).fit = s.fit ∧ (State.endYield s o).bde = s.bde ∧
    (State.endYield s o).hma = s.hma ∧ (State.endYield s o).cme = s.cme ∧ (State.endYield s o).rfg = s.rfg ∧
    (State.endYield s o).atr = s.atr ∧ (State.endYield s o).rfu = s.rfu ∧ (State.endYield s o).cby = s.cby ∧
    (State.endYield s o).cru = s.cru ∧ (State.endYield s o).otp = s.otp ∧ (State.endYield s o).emb = s.emb ∧
    (State.endYield s o).wwu = s.wwu ∧ (State.endYield s o).io = s.io ∧ (State.endYield s o).draws = s.draws ∧
    (State.endYield s o).pending = s.pending := by
  unfold State.endYield; (repeat' split) <;> (try dsimp only) <;> (repeat' split) <;> simp

/-- State.placeWork writes spn, hma, cru, lgb at most. -/
@[simp] theorem State.placeWork_keeps (s : State) :
    (State.placeWork s).boot = s.boot ∧ (State.placeWork s).strs = s.strs ∧ (State.placeWork s).apa = s.apa ∧
    (State.placeWork s).pol = s.pol ∧ (State.placeWork s).fit = s.fit ∧ (State.placeWork s).bde = s.bde ∧
    (State.placeWork s).cme = s.cme ∧ (State.placeWork s).rfg = s.rfg ∧ (State.placeWork s).atr = s.atr ∧
    (State.placeWork s).rfu = s.rfu ∧ (State.placeWork s).cby = s.cby ∧ (State.placeWork s).otp = s.otp ∧
    (State.placeWork s).emb = s.emb ∧ (State.placeWork s).wwu = s.wwu ∧ (State.placeWork s).io = s.io ∧
    (State.placeWork s).draws = s.draws ∧ (State.placeWork s).pending = s.pending := by
  simp [State.placeWork]

/-- State.submitOp writes spn, hma, cru, lgb at most. -/
@[simp] theorem State.submitOp_keeps (s : State) (o : HOp) :
    (State.submitOp s o).boot = s.boot ∧ (State.submitOp s o).strs = s.strs ∧ (State.submitOp s o).apa = s.apa ∧
    (State.submitOp s o).pol = s.pol ∧ (State.submitOp s o).fit = s.fit ∧ (State.submitOp s o).bde = s.bde ∧
    (State.submitOp s o).cme = s.cme ∧ (State.submitOp s o).rfg = s.rfg ∧ (State.submitOp s o).atr = s.atr ∧
    (State.submitOp s o).rfu = s.rfu ∧ (State.submitOp s o).cby = s.cby ∧ (State.submitOp s o).otp = s.otp ∧
    (State.submitOp s o).emb = s.emb ∧ (State.submitOp s o).wwu = s.wwu ∧ (State.submitOp s o).io = s.io ∧
    (State.submitOp s o).draws = s.draws ∧ (State.submitOp s o).pending = s.pending := by
  simp [State.submitOp]

/-- State.dropUntested writes hma at most. -/
@[simp] theorem State.dropUntested_keeps (s : State) (lane : Nat) :
    (State.dropUntested s lane).spn = s.spn ∧ (State.dropUntested s lane).boot = s.boot ∧
    (State.dropUntested s lane).strs = s.strs ∧ (State.dropUntested s lane).apa = s.apa ∧
    (State.dropUntested s lane).pol = s.pol ∧ (State.dropUntested s lane).fit = s.fit ∧
    (State.dropUntested s lane).bde = s.bde ∧ (State.dropUntested s lane).cme = s.cme ∧
    (State.dropUntested s lane).rfg = s.rfg ∧ (State.dropUntested s lane).atr = s.atr ∧
    (State.dropUntested s lane).rfu = s.rfu ∧ (State.dropUntested s lane).cby = s.cby ∧
    (State.dropUntested s lane).cru = s.cru ∧ (State.dropUntested s lane).otp = s.otp ∧
    (State.dropUntested s lane).emb = s.emb ∧ (State.dropUntested s lane).wwu = s.wwu ∧
    (State.dropUntested s lane).lgb = s.lgb ∧ (State.dropUntested s lane).io = s.io ∧
    (State.dropUntested s lane).draws = s.draws ∧ (State.dropUntested s lane).pending = s.pending := by
  simp [State.dropUntested]

/-- State.provePairs writes hma at most. -/
@[simp] theorem State.provePairs_keeps (s : State) (lane : Nat) :
    (State.provePairs s lane).spn = s.spn ∧ (State.provePairs s lane).boot = s.boot ∧
    (State.provePairs s lane).strs = s.strs ∧ (State.provePairs s lane).apa = s.apa ∧ (State.provePairs s lane).pol = s.pol ∧
    (State.provePairs s lane).fit = s.fit ∧ (State.provePairs s lane).bde = s.bde ∧ (State.provePairs s lane).cme = s.cme ∧
    (State.provePairs s lane).rfg = s.rfg ∧ (State.provePairs s lane).atr = s.atr ∧ (State.provePairs s lane).rfu = s.rfu ∧
    (State.provePairs s lane).cby = s.cby ∧ (State.provePairs s lane).cru = s.cru ∧ (State.provePairs s lane).otp = s.otp ∧
    (State.provePairs s lane).emb = s.emb ∧ (State.provePairs s lane).wwu = s.wwu ∧ (State.provePairs s lane).lgb = s.lgb ∧
    (State.provePairs s lane).io = s.io ∧ (State.provePairs s lane).draws = s.draws ∧
    (State.provePairs s lane).pending = s.pending := by
  simp [State.provePairs]

/-- State.promoteSpare writes hma at most. -/
@[simp] theorem State.promoteSpare_keeps (s : State) (lane : Nat) :
    (State.promoteSpare s lane).spn = s.spn ∧ (State.promoteSpare s lane).boot = s.boot ∧
    (State.promoteSpare s lane).strs = s.strs ∧ (State.promoteSpare s lane).apa = s.apa ∧
    (State.promoteSpare s lane).pol = s.pol ∧ (State.promoteSpare s lane).fit = s.fit ∧
    (State.promoteSpare s lane).bde = s.bde ∧ (State.promoteSpare s lane).cme = s.cme ∧
    (State.promoteSpare s lane).rfg = s.rfg ∧ (State.promoteSpare s lane).atr = s.atr ∧
    (State.promoteSpare s lane).rfu = s.rfu ∧ (State.promoteSpare s lane).cby = s.cby ∧
    (State.promoteSpare s lane).cru = s.cru ∧ (State.promoteSpare s lane).otp = s.otp ∧
    (State.promoteSpare s lane).emb = s.emb ∧ (State.promoteSpare s lane).wwu = s.wwu ∧
    (State.promoteSpare s lane).lgb = s.lgb ∧ (State.promoteSpare s lane).io = s.io ∧
    (State.promoteSpare s lane).draws = s.draws ∧ (State.promoteSpare s lane).pending = s.pending := by
  unfold State.promoteSpare; dsimp only; (repeat' split) <;> simp

/-- State.fillPlace writes hma at most. -/
@[simp] theorem State.fillPlace_keeps (s : State) :
    (State.fillPlace s).spn = s.spn ∧ (State.fillPlace s).boot = s.boot ∧ (State.fillPlace s).strs = s.strs ∧
    (State.fillPlace s).apa = s.apa ∧ (State.fillPlace s).pol = s.pol ∧ (State.fillPlace s).fit = s.fit ∧
    (State.fillPlace s).bde = s.bde ∧ (State.fillPlace s).cme = s.cme ∧ (State.fillPlace s).rfg = s.rfg ∧
    (State.fillPlace s).atr = s.atr ∧ (State.fillPlace s).rfu = s.rfu ∧ (State.fillPlace s).cby = s.cby ∧
    (State.fillPlace s).cru = s.cru ∧ (State.fillPlace s).otp = s.otp ∧ (State.fillPlace s).emb = s.emb ∧
    (State.fillPlace s).wwu = s.wwu ∧ (State.fillPlace s).lgb = s.lgb ∧ (State.fillPlace s).io = s.io ∧
    (State.fillPlace s).draws = s.draws ∧ (State.fillPlace s).pending = s.pending := by
  unfold State.fillPlace; (repeat' split) <;> (try dsimp only) <;> (repeat' split) <;> simp

/-- State.retireLane writes hma, cme, lgb at most. -/
@[simp] theorem State.retireLane_keeps (s : State) (lane : Nat) :
    (State.retireLane s lane).spn = s.spn ∧ (State.retireLane s lane).boot = s.boot ∧
    (State.retireLane s lane).strs = s.strs ∧ (State.retireLane s lane).apa = s.apa ∧ (State.retireLane s lane).pol = s.pol ∧
    (State.retireLane s lane).fit = s.fit ∧ (State.retireLane s lane).bde = s.bde ∧ (State.retireLane s lane).rfg = s.rfg ∧
    (State.retireLane s lane).atr = s.atr ∧ (State.retireLane s lane).rfu = s.rfu ∧ (State.retireLane s lane).cby = s.cby ∧
    (State.retireLane s lane).cru = s.cru ∧ (State.retireLane s lane).otp = s.otp ∧ (State.retireLane s lane).emb = s.emb ∧
    (State.retireLane s lane).wwu = s.wwu ∧ (State.retireLane s lane).io = s.io ∧ (State.retireLane s lane).draws = s.draws ∧
    (State.retireLane s lane).pending = s.pending := by
  simp [State.retireLane]

/-- State.laneFails writes hma, cme, lgb at most. -/
@[simp] theorem State.laneFails_keeps (s : State) (lane : Nat) :
    (State.laneFails s lane).spn = s.spn ∧ (State.laneFails s lane).boot = s.boot ∧ (State.laneFails s lane).strs = s.strs ∧
    (State.laneFails s lane).apa = s.apa ∧ (State.laneFails s lane).pol = s.pol ∧ (State.laneFails s lane).fit = s.fit ∧
    (State.laneFails s lane).bde = s.bde ∧ (State.laneFails s lane).rfg = s.rfg ∧ (State.laneFails s lane).atr = s.atr ∧
    (State.laneFails s lane).rfu = s.rfu ∧ (State.laneFails s lane).cby = s.cby ∧ (State.laneFails s lane).cru = s.cru ∧
    (State.laneFails s lane).otp = s.otp ∧ (State.laneFails s lane).emb = s.emb ∧ (State.laneFails s lane).wwu = s.wwu ∧
    (State.laneFails s lane).io = s.io ∧ (State.laneFails s lane).draws = s.draws ∧
    (State.laneFails s lane).pending = s.pending := by
  simp [State.laneFails]

/-- State.invariantFailed writes hma, cme, lgb at most. -/
@[simp] theorem State.invariantFailed_keeps (s : State) (n op : Nat) :
    (State.invariantFailed s n op).spn = s.spn ∧ (State.invariantFailed s n op).boot = s.boot ∧
    (State.invariantFailed s n op).strs = s.strs ∧ (State.invariantFailed s n op).apa = s.apa ∧
    (State.invariantFailed s n op).pol = s.pol ∧ (State.invariantFailed s n op).fit = s.fit ∧
    (State.invariantFailed s n op).bde = s.bde ∧ (State.invariantFailed s n op).rfg = s.rfg ∧
    (State.invariantFailed s n op).atr = s.atr ∧ (State.invariantFailed s n op).rfu = s.rfu ∧
    (State.invariantFailed s n op).cby = s.cby ∧ (State.invariantFailed s n op).cru = s.cru ∧
    (State.invariantFailed s n op).otp = s.otp ∧ (State.invariantFailed s n op).emb = s.emb ∧
    (State.invariantFailed s n op).wwu = s.wwu ∧ (State.invariantFailed s n op).io = s.io ∧
    (State.invariantFailed s n op).draws = s.draws ∧ (State.invariantFailed s n op).pending = s.pending := by
  simp [State.invariantFailed]

/-- State.tryOwn writes hma at most. -/
@[simp] theorem State.tryOwn_keeps (s : State) :
    (State.tryOwn s).spn = s.spn ∧ (State.tryOwn s).boot = s.boot ∧ (State.tryOwn s).strs = s.strs ∧
    (State.tryOwn s).apa = s.apa ∧ (State.tryOwn s).pol = s.pol ∧ (State.tryOwn s).fit = s.fit ∧
    (State.tryOwn s).bde = s.bde ∧ (State.tryOwn s).cme = s.cme ∧ (State.tryOwn s).rfg = s.rfg ∧
    (State.tryOwn s).atr = s.atr ∧ (State.tryOwn s).rfu = s.rfu ∧ (State.tryOwn s).cby = s.cby ∧
    (State.tryOwn s).cru = s.cru ∧ (State.tryOwn s).otp = s.otp ∧ (State.tryOwn s).emb = s.emb ∧
    (State.tryOwn s).wwu = s.wwu ∧ (State.tryOwn s).lgb = s.lgb ∧ (State.tryOwn s).io = s.io ∧
    (State.tryOwn s).draws = s.draws ∧ (State.tryOwn s).pending = s.pending := by
  simp [State.tryOwn]

/-- State.lacks writes hma at most. -/
@[simp] theorem State.lacks_keeps (s : State) (w : LaneWait) :
    (State.lacks s w).spn = s.spn ∧ (State.lacks s w).boot = s.boot ∧ (State.lacks s w).strs = s.strs ∧
    (State.lacks s w).apa = s.apa ∧ (State.lacks s w).pol = s.pol ∧ (State.lacks s w).fit = s.fit ∧
    (State.lacks s w).bde = s.bde ∧ (State.lacks s w).cme = s.cme ∧ (State.lacks s w).rfg = s.rfg ∧
    (State.lacks s w).atr = s.atr ∧ (State.lacks s w).rfu = s.rfu ∧ (State.lacks s w).cby = s.cby ∧
    (State.lacks s w).cru = s.cru ∧ (State.lacks s w).otp = s.otp ∧ (State.lacks s w).emb = s.emb ∧
    (State.lacks s w).wwu = s.wwu ∧ (State.lacks s w).lgb = s.lgb ∧ (State.lacks s w).io = s.io ∧
    (State.lacks s w).draws = s.draws ∧ (State.lacks s w).pending = s.pending := by
  simp [State.lacks]

/-- State.tookLanes writes hma at most. -/
@[simp] theorem State.tookLanes_keeps (s : State) :
    (State.tookLanes s).spn = s.spn ∧ (State.tookLanes s).boot = s.boot ∧ (State.tookLanes s).strs = s.strs ∧
    (State.tookLanes s).apa = s.apa ∧ (State.tookLanes s).pol = s.pol ∧ (State.tookLanes s).fit = s.fit ∧
    (State.tookLanes s).bde = s.bde ∧ (State.tookLanes s).cme = s.cme ∧ (State.tookLanes s).rfg = s.rfg ∧
    (State.tookLanes s).atr = s.atr ∧ (State.tookLanes s).rfu = s.rfu ∧ (State.tookLanes s).cby = s.cby ∧
    (State.tookLanes s).cru = s.cru ∧ (State.tookLanes s).otp = s.otp ∧ (State.tookLanes s).emb = s.emb ∧
    (State.tookLanes s).wwu = s.wwu ∧ (State.tookLanes s).lgb = s.lgb ∧ (State.tookLanes s).io = s.io ∧
    (State.tookLanes s).draws = s.draws ∧ (State.tookLanes s).pending = s.pending := by
  simp [State.tookLanes]

/-- State.runOwn writes hma, cme, cru, lgb at most. -/
@[simp] theorem State.runOwn_keeps (s : State) (op l : Nat) (tried : List Nat) (e : Nat) :
    (State.runOwn s op l tried e).2.spn = s.spn ∧ (State.runOwn s op l tried e).2.boot = s.boot ∧
    (State.runOwn s op l tried e).2.strs = s.strs ∧ (State.runOwn s op l tried e).2.apa = s.apa ∧
    (State.runOwn s op l tried e).2.pol = s.pol ∧ (State.runOwn s op l tried e).2.fit = s.fit ∧
    (State.runOwn s op l tried e).2.bde = s.bde ∧ (State.runOwn s op l tried e).2.rfg = s.rfg ∧
    (State.runOwn s op l tried e).2.atr = s.atr ∧ (State.runOwn s op l tried e).2.rfu = s.rfu ∧
    (State.runOwn s op l tried e).2.cby = s.cby ∧ (State.runOwn s op l tried e).2.otp = s.otp ∧
    (State.runOwn s op l tried e).2.emb = s.emb ∧ (State.runOwn s op l tried e).2.wwu = s.wwu ∧
    (State.runOwn s op l tried e).2.io = s.io ∧ (State.runOwn s op l tried e).2.draws = s.draws ∧
    (State.runOwn s op l tried e).2.pending = s.pending := by
  induction l generalizing s tried e with
  | zero => simp [State.runOwn]
  | succ l ih => unfold State.runOwn; (repeat' split) <;> simp [ih]

/-- State.noPair writes hma at most. -/
@[simp] theorem State.noPair_keeps (s : State) (w : LaneWait) :
    (State.noPair s w).2.spn = s.spn ∧ (State.noPair s w).2.boot = s.boot ∧ (State.noPair s w).2.strs = s.strs ∧
    (State.noPair s w).2.apa = s.apa ∧ (State.noPair s w).2.pol = s.pol ∧ (State.noPair s w).2.fit = s.fit ∧
    (State.noPair s w).2.bde = s.bde ∧ (State.noPair s w).2.cme = s.cme ∧ (State.noPair s w).2.rfg = s.rfg ∧
    (State.noPair s w).2.atr = s.atr ∧ (State.noPair s w).2.rfu = s.rfu ∧ (State.noPair s w).2.cby = s.cby ∧
    (State.noPair s w).2.cru = s.cru ∧ (State.noPair s w).2.otp = s.otp ∧ (State.noPair s w).2.emb = s.emb ∧
    (State.noPair s w).2.wwu = s.wwu ∧ (State.noPair s w).2.lgb = s.lgb ∧ (State.noPair s w).2.io = s.io ∧
    (State.noPair s w).2.draws = s.draws ∧ (State.noPair s w).2.pending = s.pending := by
  simp [State.noPair]

/-- State.verdict writes hma, cme, lgb at most. -/
@[simp] theorem State.verdict_keeps (s : State) (op : Nat) (good : Bool) (code : Nat) :
    (State.verdict s op good code).2.spn = s.spn ∧ (State.verdict s op good code).2.boot = s.boot ∧
    (State.verdict s op good code).2.strs = s.strs ∧ (State.verdict s op good code).2.apa = s.apa ∧
    (State.verdict s op good code).2.pol = s.pol ∧ (State.verdict s op good code).2.fit = s.fit ∧
    (State.verdict s op good code).2.bde = s.bde ∧ (State.verdict s op good code).2.rfg = s.rfg ∧
    (State.verdict s op good code).2.atr = s.atr ∧ (State.verdict s op good code).2.rfu = s.rfu ∧
    (State.verdict s op good code).2.cby = s.cby ∧ (State.verdict s op good code).2.cru = s.cru ∧
    (State.verdict s op good code).2.otp = s.otp ∧ (State.verdict s op good code).2.emb = s.emb ∧
    (State.verdict s op good code).2.wwu = s.wwu ∧ (State.verdict s op good code).2.io = s.io ∧
    (State.verdict s op good code).2.draws = s.draws ∧ (State.verdict s op good code).2.pending = s.pending := by
  unfold State.verdict; dsimp only; (repeat' split) <;> simp

/-- State.decideAll writes hma, cme, lgb at most. -/
@[simp] theorem State.decideAll_keeps (s : State) (v i : Nat) (l : List (Nat × Bool)) :
    (State.decideAll s v i l).2.spn = s.spn ∧ (State.decideAll s v i l).2.boot = s.boot ∧
    (State.decideAll s v i l).2.strs = s.strs ∧ (State.decideAll s v i l).2.apa = s.apa ∧
    (State.decideAll s v i l).2.pol = s.pol ∧ (State.decideAll s v i l).2.fit = s.fit ∧
    (State.decideAll s v i l).2.bde = s.bde ∧ (State.decideAll s v i l).2.rfg = s.rfg ∧
    (State.decideAll s v i l).2.atr = s.atr ∧ (State.decideAll s v i l).2.rfu = s.rfu ∧
    (State.decideAll s v i l).2.cby = s.cby ∧ (State.decideAll s v i l).2.cru = s.cru ∧
    (State.decideAll s v i l).2.otp = s.otp ∧ (State.decideAll s v i l).2.emb = s.emb ∧
    (State.decideAll s v i l).2.wwu = s.wwu ∧ (State.decideAll s v i l).2.io = s.io ∧
    (State.decideAll s v i l).2.draws = s.draws ∧ (State.decideAll s v i l).2.pending = s.pending := by
  induction l generalizing s i with
  | nil => simp [State.decideAll]
  | cons e l ih => unfold State.decideAll; dsimp only; split <;> simp [ih]

/-- State.depthCrossing writes cme at most. -/
@[simp] theorem State.depthCrossing_keeps (s : State) (q before : Nat) :
    (State.depthCrossing s q before).spn = s.spn ∧ (State.depthCrossing s q before).boot = s.boot ∧
    (State.depthCrossing s q before).strs = s.strs ∧ (State.depthCrossing s q before).apa = s.apa ∧
    (State.depthCrossing s q before).pol = s.pol ∧ (State.depthCrossing s q before).fit = s.fit ∧
    (State.depthCrossing s q before).bde = s.bde ∧ (State.depthCrossing s q before).hma = s.hma ∧
    (State.depthCrossing s q before).rfg = s.rfg ∧ (State.depthCrossing s q before).atr = s.atr ∧
    (State.depthCrossing s q before).rfu = s.rfu ∧ (State.depthCrossing s q before).cby = s.cby ∧
    (State.depthCrossing s q before).cru = s.cru ∧ (State.depthCrossing s q before).otp = s.otp ∧
    (State.depthCrossing s q before).emb = s.emb ∧ (State.depthCrossing s q before).wwu = s.wwu ∧
    (State.depthCrossing s q before).lgb = s.lgb ∧ (State.depthCrossing s q before).io = s.io ∧
    (State.depthCrossing s q before).draws = s.draws ∧ (State.depthCrossing s q before).pending = s.pending := by
  simp [State.depthCrossing]

/-- State.queueError writes cme, lgb at most. -/
@[simp] theorem State.queueError_keeps (s : State) (q cause : Nat) :
    (State.queueError s q cause).spn = s.spn ∧ (State.queueError s q cause).boot = s.boot ∧
    (State.queueError s q cause).strs = s.strs ∧ (State.queueError s q cause).apa = s.apa ∧
    (State.queueError s q cause).pol = s.pol ∧ (State.queueError s q cause).fit = s.fit ∧
    (State.queueError s q cause).bde = s.bde ∧ (State.queueError s q cause).hma = s.hma ∧
    (State.queueError s q cause).rfg = s.rfg ∧ (State.queueError s q cause).atr = s.atr ∧
    (State.queueError s q cause).rfu = s.rfu ∧ (State.queueError s q cause).cby = s.cby ∧
    (State.queueError s q cause).cru = s.cru ∧ (State.queueError s q cause).otp = s.otp ∧
    (State.queueError s q cause).emb = s.emb ∧ (State.queueError s q cause).wwu = s.wwu ∧
    (State.queueError s q cause).io = s.io ∧ (State.queueError s q cause).draws = s.draws ∧
    (State.queueError s q cause).pending = s.pending := by
  simp [State.queueError]

/-- State.queueErrorEntry writes cme at most. -/
@[simp] theorem State.queueErrorEntry_keeps (s : State) (q cause : Nat) :
    (State.queueErrorEntry s q cause).spn = s.spn ∧ (State.queueErrorEntry s q cause).boot = s.boot ∧
    (State.queueErrorEntry s q cause).strs = s.strs ∧ (State.queueErrorEntry s q cause).apa = s.apa ∧
    (State.queueErrorEntry s q cause).pol = s.pol ∧ (State.queueErrorEntry s q cause).fit = s.fit ∧
    (State.queueErrorEntry s q cause).bde = s.bde ∧ (State.queueErrorEntry s q cause).hma = s.hma ∧
    (State.queueErrorEntry s q cause).rfg = s.rfg ∧ (State.queueErrorEntry s q cause).atr = s.atr ∧
    (State.queueErrorEntry s q cause).rfu = s.rfu ∧ (State.queueErrorEntry s q cause).cby = s.cby ∧
    (State.queueErrorEntry s q cause).cru = s.cru ∧ (State.queueErrorEntry s q cause).otp = s.otp ∧
    (State.queueErrorEntry s q cause).emb = s.emb ∧ (State.queueErrorEntry s q cause).wwu = s.wwu ∧
    (State.queueErrorEntry s q cause).lgb = s.lgb ∧ (State.queueErrorEntry s q cause).io = s.io ∧
    (State.queueErrorEntry s q cause).draws = s.draws ∧ (State.queueErrorEntry s q cause).pending = s.pending := by
  simp [State.queueErrorEntry]

/-- State.closeQueue writes cme at most. -/
@[simp] theorem State.closeQueue_keeps (s : State) (q : Nat) :
    (State.closeQueue s q).spn = s.spn ∧ (State.closeQueue s q).boot = s.boot ∧ (State.closeQueue s q).strs = s.strs ∧
    (State.closeQueue s q).apa = s.apa ∧ (State.closeQueue s q).pol = s.pol ∧ (State.closeQueue s q).fit = s.fit ∧
    (State.closeQueue s q).bde = s.bde ∧ (State.closeQueue s q).hma = s.hma ∧ (State.closeQueue s q).rfg = s.rfg ∧
    (State.closeQueue s q).atr = s.atr ∧ (State.closeQueue s q).rfu = s.rfu ∧ (State.closeQueue s q).cby = s.cby ∧
    (State.closeQueue s q).cru = s.cru ∧ (State.closeQueue s q).otp = s.otp ∧ (State.closeQueue s q).emb = s.emb ∧
    (State.closeQueue s q).wwu = s.wwu ∧ (State.closeQueue s q).lgb = s.lgb ∧ (State.closeQueue s q).io = s.io ∧
    (State.closeQueue s q).draws = s.draws ∧ (State.closeQueue s q).pending = s.pending := by
  simp [State.closeQueue]

/-- State.resetQueue writes cme, lgb at most. -/
@[simp] theorem State.resetQueue_keeps (s : State) (q : Nat) :
    (State.resetQueue s q).spn = s.spn ∧ (State.resetQueue s q).boot = s.boot ∧ (State.resetQueue s q).strs = s.strs ∧
    (State.resetQueue s q).apa = s.apa ∧ (State.resetQueue s q).pol = s.pol ∧ (State.resetQueue s q).fit = s.fit ∧
    (State.resetQueue s q).bde = s.bde ∧ (State.resetQueue s q).hma = s.hma ∧ (State.resetQueue s q).rfg = s.rfg ∧
    (State.resetQueue s q).atr = s.atr ∧ (State.resetQueue s q).rfu = s.rfu ∧ (State.resetQueue s q).cby = s.cby ∧
    (State.resetQueue s q).cru = s.cru ∧ (State.resetQueue s q).otp = s.otp ∧ (State.resetQueue s q).emb = s.emb ∧
    (State.resetQueue s q).wwu = s.wwu ∧ (State.resetQueue s q).io = s.io ∧ (State.resetQueue s q).draws = s.draws ∧
    (State.resetQueue s q).pending = s.pending := by
  simp [State.resetQueue]

/-- State.closeContexts writes bde at most. -/
@[simp] theorem State.closeContexts_keeps (s : State) (p : Context → Bool) :
    (State.closeContexts s p).spn = s.spn ∧ (State.closeContexts s p).boot = s.boot ∧
    (State.closeContexts s p).strs = s.strs ∧ (State.closeContexts s p).apa = s.apa ∧ (State.closeContexts s p).pol = s.pol ∧
    (State.closeContexts s p).fit = s.fit ∧ (State.closeContexts s p).hma = s.hma ∧ (State.closeContexts s p).cme = s.cme ∧
    (State.closeContexts s p).rfg = s.rfg ∧ (State.closeContexts s p).atr = s.atr ∧ (State.closeContexts s p).rfu = s.rfu ∧
    (State.closeContexts s p).cby = s.cby ∧ (State.closeContexts s p).cru = s.cru ∧ (State.closeContexts s p).otp = s.otp ∧
    (State.closeContexts s p).emb = s.emb ∧ (State.closeContexts s p).wwu = s.wwu ∧ (State.closeContexts s p).lgb = s.lgb ∧
    (State.closeContexts s p).io = s.io ∧ (State.closeContexts s p).draws = s.draws ∧
    (State.closeContexts s p).pending = s.pending := by
  simp [State.closeContexts]

/-- State.updQRegs writes cme at most. -/
@[simp] theorem State.updQRegs_keeps (s : State) (fn q : Nat) (f : QRegs → QRegs) :
    (State.updQRegs s fn q f).spn = s.spn ∧ (State.updQRegs s fn q f).boot = s.boot ∧
    (State.updQRegs s fn q f).strs = s.strs ∧ (State.updQRegs s fn q f).apa = s.apa ∧ (State.updQRegs s fn q f).pol = s.pol ∧
    (State.updQRegs s fn q f).fit = s.fit ∧ (State.updQRegs s fn q f).bde = s.bde ∧ (State.updQRegs s fn q f).hma = s.hma ∧
    (State.updQRegs s fn q f).rfg = s.rfg ∧ (State.updQRegs s fn q f).atr = s.atr ∧ (State.updQRegs s fn q f).rfu = s.rfu ∧
    (State.updQRegs s fn q f).cby = s.cby ∧ (State.updQRegs s fn q f).cru = s.cru ∧ (State.updQRegs s fn q f).otp = s.otp ∧
    (State.updQRegs s fn q f).emb = s.emb ∧ (State.updQRegs s fn q f).wwu = s.wwu ∧ (State.updQRegs s fn q f).lgb = s.lgb ∧
    (State.updQRegs s fn q f).io = s.io ∧ (State.updQRegs s fn q f).draws = s.draws ∧
    (State.updQRegs s fn q f).pending = s.pending := by
  simp [State.updQRegs]

/-- State.pcieReset writes boot, bde, cme, atr, lgb at most. -/
@[simp] theorem State.pcieReset_keeps (s : State) :
    (State.pcieReset s).spn = s.spn ∧ (State.pcieReset s).strs = s.strs ∧ (State.pcieReset s).apa = s.apa ∧
    (State.pcieReset s).pol = s.pol ∧ (State.pcieReset s).fit = s.fit ∧ (State.pcieReset s).hma = s.hma ∧
    (State.pcieReset s).rfg = s.rfg ∧ (State.pcieReset s).rfu = s.rfu ∧ (State.pcieReset s).cby = s.cby ∧
    (State.pcieReset s).cru = s.cru ∧ (State.pcieReset s).otp = s.otp ∧ (State.pcieReset s).emb = s.emb ∧
    (State.pcieReset s).wwu = s.wwu ∧ (State.pcieReset s).io = s.io ∧ (State.pcieReset s).draws = s.draws ∧
    (State.pcieReset s).pending = s.pending := by
  simp [State.pcieReset]

/-- State.setFetchTurn writes cme at most. -/
@[simp] theorem State.setFetchTurn_keeps (s : State) (c : Nat) (t : Turn) :
    (State.setFetchTurn s c t).spn = s.spn ∧ (State.setFetchTurn s c t).boot = s.boot ∧
    (State.setFetchTurn s c t).strs = s.strs ∧ (State.setFetchTurn s c t).apa = s.apa ∧
    (State.setFetchTurn s c t).pol = s.pol ∧ (State.setFetchTurn s c t).fit = s.fit ∧
    (State.setFetchTurn s c t).bde = s.bde ∧ (State.setFetchTurn s c t).hma = s.hma ∧
    (State.setFetchTurn s c t).rfg = s.rfg ∧ (State.setFetchTurn s c t).atr = s.atr ∧
    (State.setFetchTurn s c t).rfu = s.rfu ∧ (State.setFetchTurn s c t).cby = s.cby ∧
    (State.setFetchTurn s c t).cru = s.cru ∧ (State.setFetchTurn s c t).otp = s.otp ∧
    (State.setFetchTurn s c t).emb = s.emb ∧ (State.setFetchTurn s c t).wwu = s.wwu ∧
    (State.setFetchTurn s c t).lgb = s.lgb ∧ (State.setFetchTurn s c t).io = s.io ∧
    (State.setFetchTurn s c t).draws = s.draws ∧ (State.setFetchTurn s c t).pending = s.pending := by
  unfold State.setFetchTurn; dsimp only; (repeat' split) <;> simp

/-- State.noteStaging writes pol, cme at most. -/
@[simp] theorem State.noteStaging_keeps (s : State) (h : Hdr) :
    (State.noteStaging s h).spn = s.spn ∧ (State.noteStaging s h).boot = s.boot ∧ (State.noteStaging s h).strs = s.strs ∧
    (State.noteStaging s h).apa = s.apa ∧ (State.noteStaging s h).fit = s.fit ∧ (State.noteStaging s h).bde = s.bde ∧
    (State.noteStaging s h).hma = s.hma ∧ (State.noteStaging s h).rfg = s.rfg ∧ (State.noteStaging s h).atr = s.atr ∧
    (State.noteStaging s h).rfu = s.rfu ∧ (State.noteStaging s h).cby = s.cby ∧ (State.noteStaging s h).cru = s.cru ∧
    (State.noteStaging s h).otp = s.otp ∧ (State.noteStaging s h).emb = s.emb ∧ (State.noteStaging s h).wwu = s.wwu ∧
    (State.noteStaging s h).lgb = s.lgb ∧ (State.noteStaging s h).io = s.io ∧ (State.noteStaging s h).draws = s.draws ∧
    (State.noteStaging s h).pending = s.pending := by
  unfold State.noteStaging; dsimp only; (repeat' split) <;> simp

/-- State.readFaulted writes cme at most. -/
@[simp] theorem State.readFaulted_keeps (s : State) (fn addr kind : Nat) :
    (State.readFaulted s fn addr kind).spn = s.spn ∧ (State.readFaulted s fn addr kind).boot = s.boot ∧
    (State.readFaulted s fn addr kind).strs = s.strs ∧ (State.readFaulted s fn addr kind).apa = s.apa ∧
    (State.readFaulted s fn addr kind).pol = s.pol ∧ (State.readFaulted s fn addr kind).fit = s.fit ∧
    (State.readFaulted s fn addr kind).bde = s.bde ∧ (State.readFaulted s fn addr kind).hma = s.hma ∧
    (State.readFaulted s fn addr kind).rfg = s.rfg ∧ (State.readFaulted s fn addr kind).atr = s.atr ∧
    (State.readFaulted s fn addr kind).rfu = s.rfu ∧ (State.readFaulted s fn addr kind).cby = s.cby ∧
    (State.readFaulted s fn addr kind).cru = s.cru ∧ (State.readFaulted s fn addr kind).otp = s.otp ∧
    (State.readFaulted s fn addr kind).emb = s.emb ∧ (State.readFaulted s fn addr kind).wwu = s.wwu ∧
    (State.readFaulted s fn addr kind).lgb = s.lgb ∧ (State.readFaulted s fn addr kind).io = s.io ∧
    (State.readFaulted s fn addr kind).draws = s.draws ∧ (State.readFaulted s fn addr kind).pending = s.pending := by
  simp [State.readFaulted]

/-- State.countRefused writes rfg at most. -/
@[simp] theorem State.countRefused_keeps (s : State) (q : Nat) :
    (State.countRefused s q).spn = s.spn ∧ (State.countRefused s q).boot = s.boot ∧ (State.countRefused s q).strs = s.strs ∧
    (State.countRefused s q).apa = s.apa ∧ (State.countRefused s q).pol = s.pol ∧ (State.countRefused s q).fit = s.fit ∧
    (State.countRefused s q).bde = s.bde ∧ (State.countRefused s q).hma = s.hma ∧ (State.countRefused s q).cme = s.cme ∧
    (State.countRefused s q).atr = s.atr ∧ (State.countRefused s q).rfu = s.rfu ∧ (State.countRefused s q).cby = s.cby ∧
    (State.countRefused s q).cru = s.cru ∧ (State.countRefused s q).otp = s.otp ∧ (State.countRefused s q).emb = s.emb ∧
    (State.countRefused s q).wwu = s.wwu ∧ (State.countRefused s q).lgb = s.lgb ∧ (State.countRefused s q).io = s.io ∧
    (State.countRefused s q).draws = s.draws ∧ (State.countRefused s q).pending = s.pending := by
  simp [State.countRefused]

/-- State.raiseMsix writes cme, io at most. -/
@[simp] theorem State.raiseMsix_keeps (s : State) (fn vector : Nat) :
    (State.raiseMsix s fn vector).spn = s.spn ∧ (State.raiseMsix s fn vector).boot = s.boot ∧
    (State.raiseMsix s fn vector).strs = s.strs ∧ (State.raiseMsix s fn vector).apa = s.apa ∧
    (State.raiseMsix s fn vector).pol = s.pol ∧ (State.raiseMsix s fn vector).fit = s.fit ∧
    (State.raiseMsix s fn vector).bde = s.bde ∧ (State.raiseMsix s fn vector).hma = s.hma ∧
    (State.raiseMsix s fn vector).rfg = s.rfg ∧ (State.raiseMsix s fn vector).atr = s.atr ∧
    (State.raiseMsix s fn vector).rfu = s.rfu ∧ (State.raiseMsix s fn vector).cby = s.cby ∧
    (State.raiseMsix s fn vector).cru = s.cru ∧ (State.raiseMsix s fn vector).otp = s.otp ∧
    (State.raiseMsix s fn vector).emb = s.emb ∧ (State.raiseMsix s fn vector).wwu = s.wwu ∧
    (State.raiseMsix s fn vector).lgb = s.lgb ∧ (State.raiseMsix s fn vector).draws = s.draws ∧
    (State.raiseMsix s fn vector).pending = s.pending := by
  simp [State.raiseMsix]

/-- State.sendUnmasked writes cme, io at most. -/
@[simp] theorem State.sendUnmasked_keeps (s : State) (fn : Nat) :
    (State.sendUnmasked s fn).spn = s.spn ∧ (State.sendUnmasked s fn).boot = s.boot ∧
    (State.sendUnmasked s fn).strs = s.strs ∧ (State.sendUnmasked s fn).apa = s.apa ∧ (State.sendUnmasked s fn).pol = s.pol ∧
    (State.sendUnmasked s fn).fit = s.fit ∧ (State.sendUnmasked s fn).bde = s.bde ∧ (State.sendUnmasked s fn).hma = s.hma ∧
    (State.sendUnmasked s fn).rfg = s.rfg ∧ (State.sendUnmasked s fn).atr = s.atr ∧ (State.sendUnmasked s fn).rfu = s.rfu ∧
    (State.sendUnmasked s fn).cby = s.cby ∧ (State.sendUnmasked s fn).cru = s.cru ∧ (State.sendUnmasked s fn).otp = s.otp ∧
    (State.sendUnmasked s fn).emb = s.emb ∧ (State.sendUnmasked s fn).wwu = s.wwu ∧ (State.sendUnmasked s fn).lgb = s.lgb ∧
    (State.sendUnmasked s fn).draws = s.draws ∧ (State.sendUnmasked s fn).pending = s.pending := by
  simp [State.sendUnmasked]

/-- State.msixWrite writes cme, io at most. -/
@[simp] theorem State.msixWrite_keeps (s : State) (fn off v : Nat) :
    (State.msixWrite s fn off v).spn = s.spn ∧ (State.msixWrite s fn off v).boot = s.boot ∧
    (State.msixWrite s fn off v).strs = s.strs ∧ (State.msixWrite s fn off v).apa = s.apa ∧
    (State.msixWrite s fn off v).pol = s.pol ∧ (State.msixWrite s fn off v).fit = s.fit ∧
    (State.msixWrite s fn off v).bde = s.bde ∧ (State.msixWrite s fn off v).hma = s.hma ∧
    (State.msixWrite s fn off v).rfg = s.rfg ∧ (State.msixWrite s fn off v).atr = s.atr ∧
    (State.msixWrite s fn off v).rfu = s.rfu ∧ (State.msixWrite s fn off v).cby = s.cby ∧
    (State.msixWrite s fn off v).cru = s.cru ∧ (State.msixWrite s fn off v).otp = s.otp ∧
    (State.msixWrite s fn off v).emb = s.emb ∧ (State.msixWrite s fn off v).wwu = s.wwu ∧
    (State.msixWrite s fn off v).lgb = s.lgb ∧ (State.msixWrite s fn off v).draws = s.draws ∧
    (State.msixWrite s fn off v).pending = s.pending := by
  simp [State.msixWrite]

/-- State.configWrite writes cme, io at most. -/
@[simp] theorem State.configWrite_keeps (s : State) (fn off v : Nat) :
    (State.configWrite s fn off v).spn = s.spn ∧ (State.configWrite s fn off v).boot = s.boot ∧
    (State.configWrite s fn off v).strs = s.strs ∧ (State.configWrite s fn off v).apa = s.apa ∧
    (State.configWrite s fn off v).pol = s.pol ∧ (State.configWrite s fn off v).fit = s.fit ∧
    (State.configWrite s fn off v).bde = s.bde ∧ (State.configWrite s fn off v).hma = s.hma ∧
    (State.configWrite s fn off v).rfg = s.rfg ∧ (State.configWrite s fn off v).atr = s.atr ∧
    (State.configWrite s fn off v).rfu = s.rfu ∧ (State.configWrite s fn off v).cby = s.cby ∧
    (State.configWrite s fn off v).cru = s.cru ∧ (State.configWrite s fn off v).otp = s.otp ∧
    (State.configWrite s fn off v).emb = s.emb ∧ (State.configWrite s fn off v).wwu = s.wwu ∧
    (State.configWrite s fn off v).lgb = s.lgb ∧ (State.configWrite s fn off v).draws = s.draws ∧
    (State.configWrite s fn off v).pending = s.pending := by
  unfold State.configWrite; dsimp only; (repeat' split) <;> simp

/-- State.signal writes cme, io at most. -/
@[simp] theorem State.signal_keeps (s : State) (q : Nat) (c : Completion) :
    (State.signal s q c).spn = s.spn ∧ (State.signal s q c).boot = s.boot ∧ (State.signal s q c).strs = s.strs ∧
    (State.signal s q c).apa = s.apa ∧ (State.signal s q c).pol = s.pol ∧ (State.signal s q c).fit = s.fit ∧
    (State.signal s q c).bde = s.bde ∧ (State.signal s q c).hma = s.hma ∧ (State.signal s q c).rfg = s.rfg ∧
    (State.signal s q c).atr = s.atr ∧ (State.signal s q c).rfu = s.rfu ∧ (State.signal s q c).cby = s.cby ∧
    (State.signal s q c).cru = s.cru ∧ (State.signal s q c).otp = s.otp ∧ (State.signal s q c).emb = s.emb ∧
    (State.signal s q c).wwu = s.wwu ∧ (State.signal s q c).lgb = s.lgb ∧ (State.signal s q c).draws = s.draws ∧
    (State.signal s q c).pending = s.pending := by
  simp [State.signal]

/-- State.writeEntry writes cme, io at most. -/
@[simp] theorem State.writeEntry_keeps (s : State) (q : Nat) (c : Completion) :
    (State.writeEntry s q c).spn = s.spn ∧ (State.writeEntry s q c).boot = s.boot ∧ (State.writeEntry s q c).strs = s.strs ∧
    (State.writeEntry s q c).apa = s.apa ∧ (State.writeEntry s q c).pol = s.pol ∧ (State.writeEntry s q c).fit = s.fit ∧
    (State.writeEntry s q c).bde = s.bde ∧ (State.writeEntry s q c).hma = s.hma ∧ (State.writeEntry s q c).rfg = s.rfg ∧
    (State.writeEntry s q c).atr = s.atr ∧ (State.writeEntry s q c).rfu = s.rfu ∧ (State.writeEntry s q c).cby = s.cby ∧
    (State.writeEntry s q c).cru = s.cru ∧ (State.writeEntry s q c).otp = s.otp ∧ (State.writeEntry s q c).emb = s.emb ∧
    (State.writeEntry s q c).wwu = s.wwu ∧ (State.writeEntry s q c).lgb = s.lgb ∧ (State.writeEntry s q c).draws = s.draws ∧
    (State.writeEntry s q c).pending = s.pending := by
  simp [State.writeEntry]

/-- State.closeDone writes cme at most. -/
@[simp] theorem State.closeDone_keeps (s : State) (q : Nat) :
    (State.closeDone s q).spn = s.spn ∧ (State.closeDone s q).boot = s.boot ∧ (State.closeDone s q).strs = s.strs ∧
    (State.closeDone s q).apa = s.apa ∧ (State.closeDone s q).pol = s.pol ∧ (State.closeDone s q).fit = s.fit ∧
    (State.closeDone s q).bde = s.bde ∧ (State.closeDone s q).hma = s.hma ∧ (State.closeDone s q).rfg = s.rfg ∧
    (State.closeDone s q).atr = s.atr ∧ (State.closeDone s q).rfu = s.rfu ∧ (State.closeDone s q).cby = s.cby ∧
    (State.closeDone s q).cru = s.cru ∧ (State.closeDone s q).otp = s.otp ∧ (State.closeDone s q).emb = s.emb ∧
    (State.closeDone s q).wwu = s.wwu ∧ (State.closeDone s q).lgb = s.lgb ∧ (State.closeDone s q).io = s.io ∧
    (State.closeDone s q).draws = s.draws ∧ (State.closeDone s q).pending = s.pending := by
  simp [State.closeDone]

/-- State.applyGrants writes cme, lgb at most. -/
@[simp] theorem State.applyGrants_keeps (old s : State) :
    (State.applyGrants old s).spn = s.spn ∧ (State.applyGrants old s).boot = s.boot ∧
    (State.applyGrants old s).strs = s.strs ∧ (State.applyGrants old s).apa = s.apa ∧ (State.applyGrants old s).pol = s.pol ∧
    (State.applyGrants old s).fit = s.fit ∧ (State.applyGrants old s).bde = s.bde ∧ (State.applyGrants old s).hma = s.hma ∧
    (State.applyGrants old s).rfg = s.rfg ∧ (State.applyGrants old s).atr = s.atr ∧ (State.applyGrants old s).rfu = s.rfu ∧
    (State.applyGrants old s).cby = s.cby ∧ (State.applyGrants old s).cru = s.cru ∧ (State.applyGrants old s).otp = s.otp ∧
    (State.applyGrants old s).emb = s.emb ∧ (State.applyGrants old s).wwu = s.wwu ∧ (State.applyGrants old s).io = s.io ∧
    (State.applyGrants old s).draws = s.draws ∧ (State.applyGrants old s).pending = s.pending := by
  simp [State.applyGrants]

/-- State.holdMessage writes cme, lgb at most. -/
@[simp] theorem State.holdMessage_keeps (s : State) (m : OutMsg) :
    (State.holdMessage s m).spn = s.spn ∧ (State.holdMessage s m).boot = s.boot ∧ (State.holdMessage s m).strs = s.strs ∧
    (State.holdMessage s m).apa = s.apa ∧ (State.holdMessage s m).pol = s.pol ∧ (State.holdMessage s m).fit = s.fit ∧
    (State.holdMessage s m).bde = s.bde ∧ (State.holdMessage s m).hma = s.hma ∧ (State.holdMessage s m).rfg = s.rfg ∧
    (State.holdMessage s m).atr = s.atr ∧ (State.holdMessage s m).rfu = s.rfu ∧ (State.holdMessage s m).cby = s.cby ∧
    (State.holdMessage s m).cru = s.cru ∧ (State.holdMessage s m).otp = s.otp ∧ (State.holdMessage s m).emb = s.emb ∧
    (State.holdMessage s m).wwu = s.wwu ∧ (State.holdMessage s m).io = s.io ∧ (State.holdMessage s m).draws = s.draws ∧
    (State.holdMessage s m).pending = s.pending := by
  simp [State.holdMessage]

/-- State.sendMaster writes cme, lgb at most. -/
@[simp] theorem State.sendMaster_keeps (s : State) (bus : Target) (rung : Nat) (units : List Bytes) :
    (State.sendMaster s bus rung units).spn = s.spn ∧ (State.sendMaster s bus rung units).boot = s.boot ∧
    (State.sendMaster s bus rung units).strs = s.strs ∧ (State.sendMaster s bus rung units).apa = s.apa ∧
    (State.sendMaster s bus rung units).pol = s.pol ∧ (State.sendMaster s bus rung units).fit = s.fit ∧
    (State.sendMaster s bus rung units).bde = s.bde ∧ (State.sendMaster s bus rung units).hma = s.hma ∧
    (State.sendMaster s bus rung units).rfg = s.rfg ∧ (State.sendMaster s bus rung units).atr = s.atr ∧
    (State.sendMaster s bus rung units).rfu = s.rfu ∧ (State.sendMaster s bus rung units).cby = s.cby ∧
    (State.sendMaster s bus rung units).cru = s.cru ∧ (State.sendMaster s bus rung units).otp = s.otp ∧
    (State.sendMaster s bus rung units).emb = s.emb ∧ (State.sendMaster s bus rung units).wwu = s.wwu ∧
    (State.sendMaster s bus rung units).io = s.io ∧ (State.sendMaster s bus rung units).draws = s.draws ∧
    (State.sendMaster s bus rung units).pending = s.pending := by
  simp [State.sendMaster]

/-- State.answer writes cme, lgb, io at most. -/
@[simp] theorem State.answer_keeps (s : State) (binding type rung : Nat) (msg : Bytes) :
    (State.answer s binding type rung msg).spn = s.spn ∧ (State.answer s binding type rung msg).boot = s.boot ∧
    (State.answer s binding type rung msg).strs = s.strs ∧ (State.answer s binding type rung msg).apa = s.apa ∧
    (State.answer s binding type rung msg).pol = s.pol ∧ (State.answer s binding type rung msg).fit = s.fit ∧
    (State.answer s binding type rung msg).bde = s.bde ∧ (State.answer s binding type rung msg).hma = s.hma ∧
    (State.answer s binding type rung msg).rfg = s.rfg ∧ (State.answer s binding type rung msg).atr = s.atr ∧
    (State.answer s binding type rung msg).rfu = s.rfu ∧ (State.answer s binding type rung msg).cby = s.cby ∧
    (State.answer s binding type rung msg).cru = s.cru ∧ (State.answer s binding type rung msg).otp = s.otp ∧
    (State.answer s binding type rung msg).emb = s.emb ∧ (State.answer s binding type rung msg).wwu = s.wwu ∧
    (State.answer s binding type rung msg).draws = s.draws ∧ (State.answer s binding type rung msg).pending = s.pending := by
  unfold State.answer; dsimp only; (repeat' split) <;> simp

/-- State.sendUart writes cme, io at most. -/
@[simp] theorem State.sendUart_keeps (s : State) (t : Target) :
    (State.sendUart s t).spn = s.spn ∧ (State.sendUart s t).boot = s.boot ∧ (State.sendUart s t).strs = s.strs ∧
    (State.sendUart s t).apa = s.apa ∧ (State.sendUart s t).pol = s.pol ∧ (State.sendUart s t).fit = s.fit ∧
    (State.sendUart s t).bde = s.bde ∧ (State.sendUart s t).hma = s.hma ∧ (State.sendUart s t).rfg = s.rfg ∧
    (State.sendUart s t).atr = s.atr ∧ (State.sendUart s t).rfu = s.rfu ∧ (State.sendUart s t).cby = s.cby ∧
    (State.sendUart s t).cru = s.cru ∧ (State.sendUart s t).otp = s.otp ∧ (State.sendUart s t).emb = s.emb ∧
    (State.sendUart s t).wwu = s.wwu ∧ (State.sendUart s t).lgb = s.lgb ∧ (State.sendUart s t).draws = s.draws ∧
    (State.sendUart s t).pending = s.pending := by
  simp [State.sendUart]

/-- State.readFrame writes cme, io at most. -/
@[simp] theorem State.readFrame_keeps (s : State) (t : Target) :
    (State.readFrame s t).spn = s.spn ∧ (State.readFrame s t).boot = s.boot ∧ (State.readFrame s t).strs = s.strs ∧
    (State.readFrame s t).apa = s.apa ∧ (State.readFrame s t).pol = s.pol ∧ (State.readFrame s t).fit = s.fit ∧
    (State.readFrame s t).bde = s.bde ∧ (State.readFrame s t).hma = s.hma ∧ (State.readFrame s t).rfg = s.rfg ∧
    (State.readFrame s t).atr = s.atr ∧ (State.readFrame s t).rfu = s.rfu ∧ (State.readFrame s t).cby = s.cby ∧
    (State.readFrame s t).cru = s.cru ∧ (State.readFrame s t).otp = s.otp ∧ (State.readFrame s t).emb = s.emb ∧
    (State.readFrame s t).wwu = s.wwu ∧ (State.readFrame s t).lgb = s.lgb ∧ (State.readFrame s t).draws = s.draws ∧
    (State.readFrame s t).pending = s.pending := by
  simp [State.readFrame]

/-- State.writeCompletion writes cme, io at most. -/
@[simp] theorem State.writeCompletion_keeps (s : State) (src : Src) :
    (State.writeCompletion s src).spn = s.spn ∧ (State.writeCompletion s src).boot = s.boot ∧
    (State.writeCompletion s src).strs = s.strs ∧ (State.writeCompletion s src).apa = s.apa ∧
    (State.writeCompletion s src).pol = s.pol ∧ (State.writeCompletion s src).fit = s.fit ∧
    (State.writeCompletion s src).bde = s.bde ∧ (State.writeCompletion s src).hma = s.hma ∧
    (State.writeCompletion s src).rfg = s.rfg ∧ (State.writeCompletion s src).atr = s.atr ∧
    (State.writeCompletion s src).rfu = s.rfu ∧ (State.writeCompletion s src).cby = s.cby ∧
    (State.writeCompletion s src).cru = s.cru ∧ (State.writeCompletion s src).otp = s.otp ∧
    (State.writeCompletion s src).emb = s.emb ∧ (State.writeCompletion s src).wwu = s.wwu ∧
    (State.writeCompletion s src).lgb = s.lgb ∧ (State.writeCompletion s src).draws = s.draws ∧
    (State.writeCompletion s src).pending = s.pending := by
  unfold State.writeCompletion; dsimp only; (repeat' split) <;> simp

/-- State.logSuperseded writes lgb at most. -/
@[simp] theorem State.logSuperseded_keeps (s : State) (n : Nat) (why : Reason) :
    (State.logSuperseded s n why).spn = s.spn ∧ (State.logSuperseded s n why).boot = s.boot ∧
    (State.logSuperseded s n why).strs = s.strs ∧ (State.logSuperseded s n why).apa = s.apa ∧
    (State.logSuperseded s n why).pol = s.pol ∧ (State.logSuperseded s n why).fit = s.fit ∧
    (State.logSuperseded s n why).bde = s.bde ∧ (State.logSuperseded s n why).hma = s.hma ∧
    (State.logSuperseded s n why).cme = s.cme ∧ (State.logSuperseded s n why).rfg = s.rfg ∧
    (State.logSuperseded s n why).atr = s.atr ∧ (State.logSuperseded s n why).rfu = s.rfu ∧
    (State.logSuperseded s n why).cby = s.cby ∧ (State.logSuperseded s n why).cru = s.cru ∧
    (State.logSuperseded s n why).otp = s.otp ∧ (State.logSuperseded s n why).emb = s.emb ∧
    (State.logSuperseded s n why).wwu = s.wwu ∧ (State.logSuperseded s n why).io = s.io ∧
    (State.logSuperseded s n why).draws = s.draws ∧ (State.logSuperseded s n why).pending = s.pending := by
  simp [State.logSuperseded]

/-- State.superseded writes lgb at most. -/
@[simp] theorem State.superseded_keeps (s : State) (n : Nat) (target : SlotState) (why : Reason) :
    (State.superseded s n target why).spn = s.spn ∧ (State.superseded s n target why).boot = s.boot ∧
    (State.superseded s n target why).strs = s.strs ∧ (State.superseded s n target why).apa = s.apa ∧
    (State.superseded s n target why).pol = s.pol ∧ (State.superseded s n target why).fit = s.fit ∧
    (State.superseded s n target why).bde = s.bde ∧ (State.superseded s n target why).hma = s.hma ∧
    (State.superseded s n target why).cme = s.cme ∧ (State.superseded s n target why).rfg = s.rfg ∧
    (State.superseded s n target why).atr = s.atr ∧ (State.superseded s n target why).rfu = s.rfu ∧
    (State.superseded s n target why).cby = s.cby ∧ (State.superseded s n target why).cru = s.cru ∧
    (State.superseded s n target why).otp = s.otp ∧ (State.superseded s n target why).emb = s.emb ∧
    (State.superseded s n target why).wwu = s.wwu ∧ (State.superseded s n target why).io = s.io ∧
    (State.superseded s n target why).draws = s.draws ∧ (State.superseded s n target why).pending = s.pending := by
  simp [State.superseded]

/-- State.setSlot writes strs, atr, lgb at most. -/
@[simp] theorem State.setSlot_keeps (s : State) (n : Nat) (st : SlotState) (why : Reason) (checked : Bool) :
    (State.setSlot s n st why checked).spn = s.spn ∧ (State.setSlot s n st why checked).boot = s.boot ∧
    (State.setSlot s n st why checked).apa = s.apa ∧ (State.setSlot s n st why checked).pol = s.pol ∧
    (State.setSlot s n st why checked).fit = s.fit ∧ (State.setSlot s n st why checked).bde = s.bde ∧
    (State.setSlot s n st why checked).hma = s.hma ∧ (State.setSlot s n st why checked).cme = s.cme ∧
    (State.setSlot s n st why checked).rfg = s.rfg ∧ (State.setSlot s n st why checked).rfu = s.rfu ∧
    (State.setSlot s n st why checked).cby = s.cby ∧ (State.setSlot s n st why checked).cru = s.cru ∧
    (State.setSlot s n st why checked).otp = s.otp ∧ (State.setSlot s n st why checked).emb = s.emb ∧
    (State.setSlot s n st why checked).wwu = s.wwu ∧ (State.setSlot s n st why checked).io = s.io ∧
    (State.setSlot s n st why checked).draws = s.draws ∧ (State.setSlot s n st why checked).pending = s.pending := by
  simp [State.setSlot]

/-- State.disarm writes wwu at most. -/
@[simp] theorem State.disarm_keeps (s : State) (n : Nat) :
    (State.disarm s n).spn = s.spn ∧ (State.disarm s n).boot = s.boot ∧ (State.disarm s n).strs = s.strs ∧
    (State.disarm s n).apa = s.apa ∧ (State.disarm s n).pol = s.pol ∧ (State.disarm s n).fit = s.fit ∧
    (State.disarm s n).bde = s.bde ∧ (State.disarm s n).hma = s.hma ∧ (State.disarm s n).cme = s.cme ∧
    (State.disarm s n).rfg = s.rfg ∧ (State.disarm s n).atr = s.atr ∧ (State.disarm s n).rfu = s.rfu ∧
    (State.disarm s n).cby = s.cby ∧ (State.disarm s n).cru = s.cru ∧ (State.disarm s n).otp = s.otp ∧
    (State.disarm s n).emb = s.emb ∧ (State.disarm s n).lgb = s.lgb ∧ (State.disarm s n).io = s.io ∧
    (State.disarm s n).draws = s.draws ∧ (State.disarm s n).pending = s.pending := by
  simp [State.disarm]

/-- State.holdTrigger writes strs at most. -/
@[simp] theorem State.holdTrigger_keeps (s : State) (n : Nat) :
    (State.holdTrigger s n).spn = s.spn ∧ (State.holdTrigger s n).boot = s.boot ∧ (State.holdTrigger s n).apa = s.apa ∧
    (State.holdTrigger s n).pol = s.pol ∧ (State.holdTrigger s n).fit = s.fit ∧ (State.holdTrigger s n).bde = s.bde ∧
    (State.holdTrigger s n).hma = s.hma ∧ (State.holdTrigger s n).cme = s.cme ∧ (State.holdTrigger s n).rfg = s.rfg ∧
    (State.holdTrigger s n).atr = s.atr ∧ (State.holdTrigger s n).rfu = s.rfu ∧ (State.holdTrigger s n).cby = s.cby ∧
    (State.holdTrigger s n).cru = s.cru ∧ (State.holdTrigger s n).otp = s.otp ∧ (State.holdTrigger s n).emb = s.emb ∧
    (State.holdTrigger s n).wwu = s.wwu ∧ (State.holdTrigger s n).lgb = s.lgb ∧ (State.holdTrigger s n).io = s.io ∧
    (State.holdTrigger s n).draws = s.draws ∧ (State.holdTrigger s n).pending = s.pending := by
  simp [State.holdTrigger]

/-- State.holdLater writes strs at most. -/
@[simp] theorem State.holdLater_keeps (s : State) (n : Nat) :
    (State.holdLater s n).spn = s.spn ∧ (State.holdLater s n).boot = s.boot ∧ (State.holdLater s n).apa = s.apa ∧
    (State.holdLater s n).pol = s.pol ∧ (State.holdLater s n).fit = s.fit ∧ (State.holdLater s n).bde = s.bde ∧
    (State.holdLater s n).hma = s.hma ∧ (State.holdLater s n).cme = s.cme ∧ (State.holdLater s n).rfg = s.rfg ∧
    (State.holdLater s n).atr = s.atr ∧ (State.holdLater s n).rfu = s.rfu ∧ (State.holdLater s n).cby = s.cby ∧
    (State.holdLater s n).cru = s.cru ∧ (State.holdLater s n).otp = s.otp ∧ (State.holdLater s n).emb = s.emb ∧
    (State.holdLater s n).wwu = s.wwu ∧ (State.holdLater s n).lgb = s.lgb ∧ (State.holdLater s n).io = s.io ∧
    (State.holdLater s n).draws = s.draws ∧ (State.holdLater s n).pending = s.pending := by
  simp [State.holdLater]

/-- State.scheduleRelease writes strs at most. -/
@[simp] theorem State.scheduleRelease_keeps (s : State) (n : Nat) :
    (State.scheduleRelease s n).spn = s.spn ∧ (State.scheduleRelease s n).boot = s.boot ∧
    (State.scheduleRelease s n).apa = s.apa ∧ (State.scheduleRelease s n).pol = s.pol ∧
    (State.scheduleRelease s n).fit = s.fit ∧ (State.scheduleRelease s n).bde = s.bde ∧
    (State.scheduleRelease s n).hma = s.hma ∧ (State.scheduleRelease s n).cme = s.cme ∧
    (State.scheduleRelease s n).rfg = s.rfg ∧ (State.scheduleRelease s n).atr = s.atr ∧
    (State.scheduleRelease s n).rfu = s.rfu ∧ (State.scheduleRelease s n).cby = s.cby ∧
    (State.scheduleRelease s n).cru = s.cru ∧ (State.scheduleRelease s n).otp = s.otp ∧
    (State.scheduleRelease s n).emb = s.emb ∧ (State.scheduleRelease s n).wwu = s.wwu ∧
    (State.scheduleRelease s n).lgb = s.lgb ∧ (State.scheduleRelease s n).io = s.io ∧
    (State.scheduleRelease s n).draws = s.draws ∧ (State.scheduleRelease s n).pending = s.pending := by
  simp [State.scheduleRelease]

/-- State.setPending writes apa at most. -/
@[simp] theorem State.setPending_keeps (s : State) (p : Nat) (m : PendMode) :
    (State.setPending s p m).spn = s.spn ∧ (State.setPending s p m).boot = s.boot ∧ (State.setPending s p m).strs = s.strs ∧
    (State.setPending s p m).pol = s.pol ∧ (State.setPending s p m).fit = s.fit ∧ (State.setPending s p m).bde = s.bde ∧
    (State.setPending s p m).hma = s.hma ∧ (State.setPending s p m).cme = s.cme ∧ (State.setPending s p m).rfg = s.rfg ∧
    (State.setPending s p m).atr = s.atr ∧ (State.setPending s p m).rfu = s.rfu ∧ (State.setPending s p m).cby = s.cby ∧
    (State.setPending s p m).cru = s.cru ∧ (State.setPending s p m).otp = s.otp ∧ (State.setPending s p m).emb = s.emb ∧
    (State.setPending s p m).wwu = s.wwu ∧ (State.setPending s p m).lgb = s.lgb ∧ (State.setPending s p m).io = s.io ∧
    (State.setPending s p m).draws = s.draws ∧ (State.setPending s p m).pending = s.pending := by
  simp [State.setPending]

/-- State.portAfterHold writes apa at most. -/
@[simp] theorem State.portAfterHold_keeps (s : State) (p : Nat) :
    (State.portAfterHold s p).spn = s.spn ∧ (State.portAfterHold s p).boot = s.boot ∧
    (State.portAfterHold s p).strs = s.strs ∧ (State.portAfterHold s p).pol = s.pol ∧ (State.portAfterHold s p).fit = s.fit ∧
    (State.portAfterHold s p).bde = s.bde ∧ (State.portAfterHold s p).hma = s.hma ∧ (State.portAfterHold s p).cme = s.cme ∧
    (State.portAfterHold s p).rfg = s.rfg ∧ (State.portAfterHold s p).atr = s.atr ∧ (State.portAfterHold s p).rfu = s.rfu ∧
    (State.portAfterHold s p).cby = s.cby ∧ (State.portAfterHold s p).cru = s.cru ∧ (State.portAfterHold s p).otp = s.otp ∧
    (State.portAfterHold s p).emb = s.emb ∧ (State.portAfterHold s p).wwu = s.wwu ∧ (State.portAfterHold s p).lgb = s.lgb ∧
    (State.portAfterHold s p).io = s.io ∧ (State.portAfterHold s p).draws = s.draws ∧
    (State.portAfterHold s p).pending = s.pending := by
  simp [State.portAfterHold]

/-- State.leaveReleased writes strs, apa, atr, wwu, lgb at most. -/
@[simp] theorem State.leaveReleased_keeps (s : State) (n : Nat) (st : SlotState) (why : Reason) :
    (State.leaveReleased s n st why).spn = s.spn ∧ (State.leaveReleased s n st why).boot = s.boot ∧
    (State.leaveReleased s n st why).pol = s.pol ∧ (State.leaveReleased s n st why).fit = s.fit ∧
    (State.leaveReleased s n st why).bde = s.bde ∧ (State.leaveReleased s n st why).hma = s.hma ∧
    (State.leaveReleased s n st why).cme = s.cme ∧ (State.leaveReleased s n st why).rfg = s.rfg ∧
    (State.leaveReleased s n st why).rfu = s.rfu ∧ (State.leaveReleased s n st why).cby = s.cby ∧
    (State.leaveReleased s n st why).cru = s.cru ∧ (State.leaveReleased s n st why).otp = s.otp ∧
    (State.leaveReleased s n st why).emb = s.emb ∧ (State.leaveReleased s n st why).io = s.io ∧
    (State.leaveReleased s n st why).draws = s.draws ∧ (State.leaveReleased s n st why).pending = s.pending := by
  simp [State.leaveReleased]

/-- State.holdCoupled writes strs, apa, atr, wwu, lgb at most. -/
@[simp] theorem State.holdCoupled_keeps (s : State) (n : Nat) :
    (State.holdCoupled s n).spn = s.spn ∧ (State.holdCoupled s n).boot = s.boot ∧ (State.holdCoupled s n).pol = s.pol ∧
    (State.holdCoupled s n).fit = s.fit ∧ (State.holdCoupled s n).bde = s.bde ∧ (State.holdCoupled s n).hma = s.hma ∧
    (State.holdCoupled s n).cme = s.cme ∧ (State.holdCoupled s n).rfg = s.rfg ∧ (State.holdCoupled s n).rfu = s.rfu ∧
    (State.holdCoupled s n).cby = s.cby ∧ (State.holdCoupled s n).cru = s.cru ∧ (State.holdCoupled s n).otp = s.otp ∧
    (State.holdCoupled s n).emb = s.emb ∧ (State.holdCoupled s n).io = s.io ∧ (State.holdCoupled s n).draws = s.draws ∧
    (State.holdCoupled s n).pending = s.pending := by
  simp [State.holdCoupled]

/-- State.holdSlot writes strs, apa, atr, wwu, lgb at most. -/
@[simp] theorem State.holdSlot_keeps (s : State) (n : Nat) (why : Reason) :
    (State.holdSlot s n why).spn = s.spn ∧ (State.holdSlot s n why).boot = s.boot ∧ (State.holdSlot s n why).pol = s.pol ∧
    (State.holdSlot s n why).fit = s.fit ∧ (State.holdSlot s n why).bde = s.bde ∧ (State.holdSlot s n why).hma = s.hma ∧
    (State.holdSlot s n why).cme = s.cme ∧ (State.holdSlot s n why).rfg = s.rfg ∧ (State.holdSlot s n why).rfu = s.rfu ∧
    (State.holdSlot s n why).cby = s.cby ∧ (State.holdSlot s n why).cru = s.cru ∧ (State.holdSlot s n why).otp = s.otp ∧
    (State.holdSlot s n why).emb = s.emb ∧ (State.holdSlot s n why).io = s.io ∧ (State.holdSlot s n why).draws = s.draws ∧
    (State.holdSlot s n why).pending = s.pending := by
  simp [State.holdSlot]

/-- State.holdSlots writes strs, apa, atr, wwu, lgb at most. -/
@[simp] theorem State.holdSlots_keeps (s : State) (l : List Nat) (why : Reason) :
    (State.holdSlots s l why).spn = s.spn ∧ (State.holdSlots s l why).boot = s.boot ∧ (State.holdSlots s l why).pol = s.pol ∧
    (State.holdSlots s l why).fit = s.fit ∧ (State.holdSlots s l why).bde = s.bde ∧ (State.holdSlots s l why).hma = s.hma ∧
    (State.holdSlots s l why).cme = s.cme ∧ (State.holdSlots s l why).rfg = s.rfg ∧ (State.holdSlots s l why).rfu = s.rfu ∧
    (State.holdSlots s l why).cby = s.cby ∧ (State.holdSlots s l why).cru = s.cru ∧ (State.holdSlots s l why).otp = s.otp ∧
    (State.holdSlots s l why).emb = s.emb ∧ (State.holdSlots s l why).io = s.io ∧ (State.holdSlots s l why).draws = s.draws ∧
    (State.holdSlots s l why).pending = s.pending := by
  simp [State.holdSlots]

/-- State.answerRelease writes strs, cme at most. -/
@[simp] theorem State.answerRelease_keeps (s : State) (n : Nat) (r : Reply) :
    (State.answerRelease s n r).spn = s.spn ∧ (State.answerRelease s n r).boot = s.boot ∧
    (State.answerRelease s n r).apa = s.apa ∧ (State.answerRelease s n r).pol = s.pol ∧
    (State.answerRelease s n r).fit = s.fit ∧ (State.answerRelease s n r).bde = s.bde ∧
    (State.answerRelease s n r).hma = s.hma ∧ (State.answerRelease s n r).rfg = s.rfg ∧
    (State.answerRelease s n r).atr = s.atr ∧ (State.answerRelease s n r).rfu = s.rfu ∧
    (State.answerRelease s n r).cby = s.cby ∧ (State.answerRelease s n r).cru = s.cru ∧
    (State.answerRelease s n r).otp = s.otp ∧ (State.answerRelease s n r).emb = s.emb ∧
    (State.answerRelease s n r).wwu = s.wwu ∧ (State.answerRelease s n r).lgb = s.lgb ∧
    (State.answerRelease s n r).io = s.io ∧ (State.answerRelease s n r).draws = s.draws ∧
    (State.answerRelease s n r).pending = s.pending := by
  simp [State.answerRelease]

/-- State.dropHeldDep writes strs at most. -/
@[simp] theorem State.dropHeldDep_keeps (s : State) (n : Nat) :
    (State.dropHeldDep s n).spn = s.spn ∧ (State.dropHeldDep s n).boot = s.boot ∧ (State.dropHeldDep s n).apa = s.apa ∧
    (State.dropHeldDep s n).pol = s.pol ∧ (State.dropHeldDep s n).fit = s.fit ∧ (State.dropHeldDep s n).bde = s.bde ∧
    (State.dropHeldDep s n).hma = s.hma ∧ (State.dropHeldDep s n).cme = s.cme ∧ (State.dropHeldDep s n).rfg = s.rfg ∧
    (State.dropHeldDep s n).atr = s.atr ∧ (State.dropHeldDep s n).rfu = s.rfu ∧ (State.dropHeldDep s n).cby = s.cby ∧
    (State.dropHeldDep s n).cru = s.cru ∧ (State.dropHeldDep s n).otp = s.otp ∧ (State.dropHeldDep s n).emb = s.emb ∧
    (State.dropHeldDep s n).wwu = s.wwu ∧ (State.dropHeldDep s n).lgb = s.lgb ∧ (State.dropHeldDep s n).io = s.io ∧
    (State.dropHeldDep s n).draws = s.draws ∧ (State.dropHeldDep s n).pending = s.pending := by
  simp [State.dropHeldDep]

/-- State.quarantine writes strs, apa, cme, atr, wwu, lgb at most. -/
@[simp] theorem State.quarantine_keeps (s : State) (n : Nat) (why : Reason) :
    (State.quarantine s n why).spn = s.spn ∧ (State.quarantine s n why).boot = s.boot ∧
    (State.quarantine s n why).pol = s.pol ∧ (State.quarantine s n why).fit = s.fit ∧
    (State.quarantine s n why).bde = s.bde ∧ (State.quarantine s n why).hma = s.hma ∧
    (State.quarantine s n why).rfg = s.rfg ∧ (State.quarantine s n why).rfu = s.rfu ∧
    (State.quarantine s n why).cby = s.cby ∧ (State.quarantine s n why).cru = s.cru ∧
    (State.quarantine s n why).otp = s.otp ∧ (State.quarantine s n why).emb = s.emb ∧ (State.quarantine s n why).io = s.io ∧
    (State.quarantine s n why).draws = s.draws ∧ (State.quarantine s n why).pending = s.pending := by
  simp [State.quarantine]

/-- State.recoverSlot writes strs, apa, atr, rfu, wwu, lgb at most. -/
@[simp] theorem State.recoverSlot_keeps (s : State) (n : Nat) (why : Reason) (full : Bool) :
    (State.recoverSlot s n why full).spn = s.spn ∧ (State.recoverSlot s n why full).boot = s.boot ∧
    (State.recoverSlot s n why full).pol = s.pol ∧ (State.recoverSlot s n why full).fit = s.fit ∧
    (State.recoverSlot s n why full).bde = s.bde ∧ (State.recoverSlot s n why full).hma = s.hma ∧
    (State.recoverSlot s n why full).cme = s.cme ∧ (State.recoverSlot s n why full).rfg = s.rfg ∧
    (State.recoverSlot s n why full).cby = s.cby ∧ (State.recoverSlot s n why full).cru = s.cru ∧
    (State.recoverSlot s n why full).otp = s.otp ∧ (State.recoverSlot s n why full).emb = s.emb ∧
    (State.recoverSlot s n why full).io = s.io ∧ (State.recoverSlot s n why full).draws = s.draws ∧
    (State.recoverSlot s n why full).pending = s.pending := by
  unfold State.recoverSlot; dsimp only; (repeat' split) <;> simp

/-- State.recoverHeld writes strs, apa, atr, rfu, wwu, lgb at most. -/
@[simp] theorem State.recoverHeld_keeps (s : State) (n : Nat) (why : Reason) :
    (State.recoverHeld s n why).spn = s.spn ∧ (State.recoverHeld s n why).boot = s.boot ∧
    (State.recoverHeld s n why).pol = s.pol ∧ (State.recoverHeld s n why).fit = s.fit ∧
    (State.recoverHeld s n why).bde = s.bde ∧ (State.recoverHeld s n why).hma = s.hma ∧
    (State.recoverHeld s n why).cme = s.cme ∧ (State.recoverHeld s n why).rfg = s.rfg ∧
    (State.recoverHeld s n why).cby = s.cby ∧ (State.recoverHeld s n why).cru = s.cru ∧
    (State.recoverHeld s n why).otp = s.otp ∧ (State.recoverHeld s n why).emb = s.emb ∧
    (State.recoverHeld s n why).io = s.io ∧ (State.recoverHeld s n why).draws = s.draws ∧
    (State.recoverHeld s n why).pending = s.pending := by
  unfold State.recoverHeld; (repeat' split) <;> (try dsimp only) <;> (repeat' split) <;> simp

/-- State.endPlatformHold writes strs at most. -/
@[simp] theorem State.endPlatformHold_keeps (s : State) :
    (State.endPlatformHold s).spn = s.spn ∧ (State.endPlatformHold s).boot = s.boot ∧ (State.endPlatformHold s).apa = s.apa ∧
    (State.endPlatformHold s).pol = s.pol ∧ (State.endPlatformHold s).fit = s.fit ∧ (State.endPlatformHold s).bde = s.bde ∧
    (State.endPlatformHold s).hma = s.hma ∧ (State.endPlatformHold s).cme = s.cme ∧ (State.endPlatformHold s).rfg = s.rfg ∧
    (State.endPlatformHold s).atr = s.atr ∧ (State.endPlatformHold s).rfu = s.rfu ∧ (State.endPlatformHold s).cby = s.cby ∧
    (State.endPlatformHold s).cru = s.cru ∧ (State.endPlatformHold s).otp = s.otp ∧ (State.endPlatformHold s).emb = s.emb ∧
    (State.endPlatformHold s).wwu = s.wwu ∧ (State.endPlatformHold s).lgb = s.lgb ∧ (State.endPlatformHold s).io = s.io ∧
    (State.endPlatformHold s).draws = s.draws ∧ (State.endPlatformHold s).pending = s.pending := by
  simp [State.endPlatformHold]

/-- State.queueScan writes fit at most. -/
@[simp] theorem State.queueScan_keeps (s : State) (x : Scan) :
    (State.queueScan s x).spn = s.spn ∧ (State.queueScan s x).boot = s.boot ∧ (State.queueScan s x).strs = s.strs ∧
    (State.queueScan s x).apa = s.apa ∧ (State.queueScan s x).pol = s.pol ∧ (State.queueScan s x).bde = s.bde ∧
    (State.queueScan s x).hma = s.hma ∧ (State.queueScan s x).cme = s.cme ∧ (State.queueScan s x).rfg = s.rfg ∧
    (State.queueScan s x).atr = s.atr ∧ (State.queueScan s x).rfu = s.rfu ∧ (State.queueScan s x).cby = s.cby ∧
    (State.queueScan s x).cru = s.cru ∧ (State.queueScan s x).otp = s.otp ∧ (State.queueScan s x).emb = s.emb ∧
    (State.queueScan s x).wwu = s.wwu ∧ (State.queueScan s x).lgb = s.lgb ∧ (State.queueScan s x).io = s.io ∧
    (State.queueScan s x).draws = s.draws ∧ (State.queueScan s x).pending = s.pending := by
  simp [State.queueScan]

/-- State.enterChecking writes strs, fit, atr, lgb at most. -/
@[simp] theorem State.enterChecking_keeps (s : State) (n : Nat) (kind : ScanKind) :
    (State.enterChecking s n kind).spn = s.spn ∧ (State.enterChecking s n kind).boot = s.boot ∧
    (State.enterChecking s n kind).apa = s.apa ∧ (State.enterChecking s n kind).pol = s.pol ∧
    (State.enterChecking s n kind).bde = s.bde ∧ (State.enterChecking s n kind).hma = s.hma ∧
    (State.enterChecking s n kind).cme = s.cme ∧ (State.enterChecking s n kind).rfg = s.rfg ∧
    (State.enterChecking s n kind).rfu = s.rfu ∧ (State.enterChecking s n kind).cby = s.cby ∧
    (State.enterChecking s n kind).cru = s.cru ∧ (State.enterChecking s n kind).otp = s.otp ∧
    (State.enterChecking s n kind).emb = s.emb ∧ (State.enterChecking s n kind).wwu = s.wwu ∧
    (State.enterChecking s n kind).io = s.io ∧ (State.enterChecking s n kind).draws = s.draws ∧
    (State.enterChecking s n kind).pending = s.pending := by
  simp [State.enterChecking]

/-- State.considerSlot writes strs, fit, atr, lgb at most. -/
@[simp] theorem State.considerSlot_keeps (s : State) (n : Nat) :
    (State.considerSlot s n).spn = s.spn ∧ (State.considerSlot s n).boot = s.boot ∧ (State.considerSlot s n).apa = s.apa ∧
    (State.considerSlot s n).pol = s.pol ∧ (State.considerSlot s n).bde = s.bde ∧ (State.considerSlot s n).hma = s.hma ∧
    (State.considerSlot s n).cme = s.cme ∧ (State.considerSlot s n).rfg = s.rfg ∧ (State.considerSlot s n).rfu = s.rfu ∧
    (State.considerSlot s n).cby = s.cby ∧ (State.considerSlot s n).cru = s.cru ∧ (State.considerSlot s n).otp = s.otp ∧
    (State.considerSlot s n).emb = s.emb ∧ (State.considerSlot s n).wwu = s.wwu ∧ (State.considerSlot s n).io = s.io ∧
    (State.considerSlot s n).draws = s.draws ∧ (State.considerSlot s n).pending = s.pending := by
  simp [State.considerSlot]

end Sys2Proof.Machine
end

