-- ==== Sys2Proof/Laws/Frames2.lean ====
section
/-! SUPPORT. Which fields of the state the operations of Windup, Psd, LifeCycle, Restart, Violations, PortOps, LeafOps, Metering, Receipts leave as they were. -/
namespace Sys2Proof.Machine

/-- State.watchClock writes wwu, lgb at most. -/
@[simp] theorem State.watchClock_keeps (s : State) (n : Nat) :
    (State.watchClock s n).spn = s.spn ∧ (State.watchClock s n).boot = s.boot ∧ (State.watchClock s n).strs = s.strs ∧
    (State.watchClock s n).apa = s.apa ∧ (State.watchClock s n).pol = s.pol ∧ (State.watchClock s n).fit = s.fit ∧
    (State.watchClock s n).bde = s.bde ∧ (State.watchClock s n).hma = s.hma ∧ (State.watchClock s n).cme = s.cme ∧
    (State.watchClock s n).rfg = s.rfg ∧ (State.watchClock s n).atr = s.atr ∧ (State.watchClock s n).rfu = s.rfu ∧
    (State.watchClock s n).cby = s.cby ∧ (State.watchClock s n).cru = s.cru ∧ (State.watchClock s n).otp = s.otp ∧
    (State.watchClock s n).emb = s.emb ∧ (State.watchClock s n).io = s.io ∧ (State.watchClock s n).draws = s.draws ∧
    (State.watchClock s n).pending = s.pending := by
  simp [State.watchClock]

/-- State.armChan writes wwu, lgb at most. -/
@[simp] theorem State.armChan_keeps (s : State) (n : Nat) :
    (State.armChan s n).spn = s.spn ∧ (State.armChan s n).boot = s.boot ∧ (State.armChan s n).strs = s.strs ∧
    (State.armChan s n).apa = s.apa ∧ (State.armChan s n).pol = s.pol ∧ (State.armChan s n).fit = s.fit ∧
    (State.armChan s n).bde = s.bde ∧ (State.armChan s n).hma = s.hma ∧ (State.armChan s n).cme = s.cme ∧
    (State.armChan s n).rfg = s.rfg ∧ (State.armChan s n).atr = s.atr ∧ (State.armChan s n).rfu = s.rfu ∧
    (State.armChan s n).cby = s.cby ∧ (State.armChan s n).cru = s.cru ∧ (State.armChan s n).otp = s.otp ∧
    (State.armChan s n).emb = s.emb ∧ (State.armChan s n).io = s.io ∧ (State.armChan s n).draws = s.draws ∧
    (State.armChan s n).pending = s.pending := by
  simp [State.armChan]

/-- State.startPeriod writes wwu, lgb at most. -/
@[simp] theorem State.startPeriod_keeps (s : State) (n : Nat) (whole : Bool) :
    (State.startPeriod s n whole).spn = s.spn ∧ (State.startPeriod s n whole).boot = s.boot ∧
    (State.startPeriod s n whole).strs = s.strs ∧ (State.startPeriod s n whole).apa = s.apa ∧
    (State.startPeriod s n whole).pol = s.pol ∧ (State.startPeriod s n whole).fit = s.fit ∧
    (State.startPeriod s n whole).bde = s.bde ∧ (State.startPeriod s n whole).hma = s.hma ∧
    (State.startPeriod s n whole).cme = s.cme ∧ (State.startPeriod s n whole).rfg = s.rfg ∧
    (State.startPeriod s n whole).atr = s.atr ∧ (State.startPeriod s n whole).rfu = s.rfu ∧
    (State.startPeriod s n whole).cby = s.cby ∧ (State.startPeriod s n whole).cru = s.cru ∧
    (State.startPeriod s n whole).otp = s.otp ∧ (State.startPeriod s n whole).emb = s.emb ∧
    (State.startPeriod s n whole).io = s.io ∧ (State.startPeriod s n whole).draws = s.draws ∧
    (State.startPeriod s n whole).pending = s.pending := by
  simp [State.startPeriod]

/-- State.expire writes strs, apa, cme, atr, rfu, wwu, lgb at most. -/
@[simp] theorem State.expire_keeps (s : State) (n cause : Nat) :
    (State.expire s n cause).spn = s.spn ∧ (State.expire s n cause).boot = s.boot ∧ (State.expire s n cause).pol = s.pol ∧
    (State.expire s n cause).fit = s.fit ∧ (State.expire s n cause).bde = s.bde ∧ (State.expire s n cause).hma = s.hma ∧
    (State.expire s n cause).rfg = s.rfg ∧ (State.expire s n cause).cby = s.cby ∧ (State.expire s n cause).cru = s.cru ∧
    (State.expire s n cause).otp = s.otp ∧ (State.expire s n cause).emb = s.emb ∧ (State.expire s n cause).io = s.io ∧
    (State.expire s n cause).draws = s.draws ∧ (State.expire s n cause).pending = s.pending := by
  unfold State.expire; dsimp only; (repeat' split) <;> simp

/-- State.acceptWind writes strs, apa, cme, atr, rfu, wwu, lgb at most. -/
@[simp] theorem State.acceptWind_keeps (s : State) (n : Nat) (sleep : Bool) (sleepMs : Nat) :
    (State.acceptWind s n sleep sleepMs).2.spn = s.spn ∧ (State.acceptWind s n sleep sleepMs).2.boot = s.boot ∧
    (State.acceptWind s n sleep sleepMs).2.pol = s.pol ∧ (State.acceptWind s n sleep sleepMs).2.fit = s.fit ∧
    (State.acceptWind s n sleep sleepMs).2.bde = s.bde ∧ (State.acceptWind s n sleep sleepMs).2.hma = s.hma ∧
    (State.acceptWind s n sleep sleepMs).2.rfg = s.rfg ∧ (State.acceptWind s n sleep sleepMs).2.cby = s.cby ∧
    (State.acceptWind s n sleep sleepMs).2.cru = s.cru ∧ (State.acceptWind s n sleep sleepMs).2.otp = s.otp ∧
    (State.acceptWind s n sleep sleepMs).2.emb = s.emb ∧ (State.acceptWind s n sleep sleepMs).2.io = s.io ∧
    (State.acceptWind s n sleep sleepMs).2.draws = s.draws ∧ (State.acceptWind s n sleep sleepMs).2.pending = s.pending := by
  unfold State.acceptWind; dsimp only; (repeat' split) <;> simp

/-- State.pauseChannels writes wwu at most. -/
@[simp] theorem State.pauseChannels_keeps (s : State) :
    (State.pauseChannels s).spn = s.spn ∧ (State.pauseChannels s).boot = s.boot ∧ (State.pauseChannels s).strs = s.strs ∧
    (State.pauseChannels s).apa = s.apa ∧ (State.pauseChannels s).pol = s.pol ∧ (State.pauseChannels s).fit = s.fit ∧
    (State.pauseChannels s).bde = s.bde ∧ (State.pauseChannels s).hma = s.hma ∧ (State.pauseChannels s).cme = s.cme ∧
    (State.pauseChannels s).rfg = s.rfg ∧ (State.pauseChannels s).atr = s.atr ∧ (State.pauseChannels s).rfu = s.rfu ∧
    (State.pauseChannels s).cby = s.cby ∧ (State.pauseChannels s).cru = s.cru ∧ (State.pauseChannels s).otp = s.otp ∧
    (State.pauseChannels s).emb = s.emb ∧ (State.pauseChannels s).lgb = s.lgb ∧ (State.pauseChannels s).io = s.io ∧
    (State.pauseChannels s).draws = s.draws ∧ (State.pauseChannels s).pending = s.pending := by
  simp [State.pauseChannels]

/-- State.resumeChannels writes wwu, lgb at most. -/
@[simp] theorem State.resumeChannels_keeps (s : State) :
    (State.resumeChannels s).spn = s.spn ∧ (State.resumeChannels s).boot = s.boot ∧ (State.resumeChannels s).strs = s.strs ∧
    (State.resumeChannels s).apa = s.apa ∧ (State.resumeChannels s).pol = s.pol ∧ (State.resumeChannels s).fit = s.fit ∧
    (State.resumeChannels s).bde = s.bde ∧ (State.resumeChannels s).hma = s.hma ∧ (State.resumeChannels s).cme = s.cme ∧
    (State.resumeChannels s).rfg = s.rfg ∧ (State.resumeChannels s).atr = s.atr ∧ (State.resumeChannels s).rfu = s.rfu ∧
    (State.resumeChannels s).cby = s.cby ∧ (State.resumeChannels s).cru = s.cru ∧ (State.resumeChannels s).otp = s.otp ∧
    (State.resumeChannels s).emb = s.emb ∧ (State.resumeChannels s).io = s.io ∧ (State.resumeChannels s).draws = s.draws ∧
    (State.resumeChannels s).pending = s.pending := by
  simp [State.resumeChannels]

/-- State.iwdExpires writes wwu, lgb at most. -/
@[simp] theorem State.iwdExpires_keeps (s : State) :
    (State.iwdExpires s).spn = s.spn ∧ (State.iwdExpires s).boot = s.boot ∧ (State.iwdExpires s).strs = s.strs ∧
    (State.iwdExpires s).apa = s.apa ∧ (State.iwdExpires s).pol = s.pol ∧ (State.iwdExpires s).fit = s.fit ∧
    (State.iwdExpires s).bde = s.bde ∧ (State.iwdExpires s).hma = s.hma ∧ (State.iwdExpires s).cme = s.cme ∧
    (State.iwdExpires s).rfg = s.rfg ∧ (State.iwdExpires s).atr = s.atr ∧ (State.iwdExpires s).rfu = s.rfu ∧
    (State.iwdExpires s).cby = s.cby ∧ (State.iwdExpires s).cru = s.cru ∧ (State.iwdExpires s).otp = s.otp ∧
    (State.iwdExpires s).emb = s.emb ∧ (State.iwdExpires s).io = s.io ∧ (State.iwdExpires s).draws = s.draws ∧
    (State.iwdExpires s).pending = s.pending := by
  simp [State.iwdExpires]

/-- State.noteService writes spn, atr, lgb at most. -/
@[simp] theorem State.noteService_keeps (old s : State) :
    (State.noteService old s).boot = s.boot ∧ (State.noteService old s).strs = s.strs ∧
    (State.noteService old s).apa = s.apa ∧ (State.noteService old s).pol = s.pol ∧ (State.noteService old s).fit = s.fit ∧
    (State.noteService old s).bde = s.bde ∧ (State.noteService old s).hma = s.hma ∧ (State.noteService old s).cme = s.cme ∧
    (State.noteService old s).rfg = s.rfg ∧ (State.noteService old s).rfu = s.rfu ∧ (State.noteService old s).cby = s.cby ∧
    (State.noteService old s).cru = s.cru ∧ (State.noteService old s).otp = s.otp ∧ (State.noteService old s).emb = s.emb ∧
    (State.noteService old s).wwu = s.wwu ∧ (State.noteService old s).io = s.io ∧ (State.noteService old s).draws = s.draws ∧
    (State.noteService old s).pending = s.pending := by
  simp [State.noteService]

/-- State.recompute writes atr at most. -/
@[simp] theorem State.recompute_keeps (s : State) :
    (State.recompute s).spn = s.spn ∧ (State.recompute s).boot = s.boot ∧ (State.recompute s).strs = s.strs ∧
    (State.recompute s).apa = s.apa ∧ (State.recompute s).pol = s.pol ∧ (State.recompute s).fit = s.fit ∧
    (State.recompute s).bde = s.bde ∧ (State.recompute s).hma = s.hma ∧ (State.recompute s).cme = s.cme ∧
    (State.recompute s).rfg = s.rfg ∧ (State.recompute s).rfu = s.rfu ∧ (State.recompute s).cby = s.cby ∧
    (State.recompute s).cru = s.cru ∧ (State.recompute s).otp = s.otp ∧ (State.recompute s).emb = s.emb ∧
    (State.recompute s).wwu = s.wwu ∧ (State.recompute s).lgb = s.lgb ∧ (State.recompute s).io = s.io ∧
    (State.recompute s).draws = s.draws ∧ (State.recompute s).pending = s.pending := by
  simp [State.recompute]

/-- State.refreshCed writes atr at most. -/
@[simp] theorem State.refreshCed_keeps (s : State) :
    (State.refreshCed s).spn = s.spn ∧ (State.refreshCed s).boot = s.boot ∧ (State.refreshCed s).strs = s.strs ∧
    (State.refreshCed s).apa = s.apa ∧ (State.refreshCed s).pol = s.pol ∧ (State.refreshCed s).fit = s.fit ∧
    (State.refreshCed s).bde = s.bde ∧ (State.refreshCed s).hma = s.hma ∧ (State.refreshCed s).cme = s.cme ∧
    (State.refreshCed s).rfg = s.rfg ∧ (State.refreshCed s).rfu = s.rfu ∧ (State.refreshCed s).cby = s.cby ∧
    (State.refreshCed s).cru = s.cru ∧ (State.refreshCed s).otp = s.otp ∧ (State.refreshCed s).emb = s.emb ∧
    (State.refreshCed s).wwu = s.wwu ∧ (State.refreshCed s).lgb = s.lgb ∧ (State.refreshCed s).io = s.io ∧
    (State.refreshCed s).draws = s.draws ∧ (State.refreshCed s).pending = s.pending := by
  simp [State.refreshCed]

/-- State.blowCodeword writes otp at most. -/
@[simp] theorem State.blowCodeword_keeps (s : State) (target rec_ : Nat) :
    (State.blowCodeword s target rec_).spn = s.spn ∧ (State.blowCodeword s target rec_).boot = s.boot ∧
    (State.blowCodeword s target rec_).strs = s.strs ∧ (State.blowCodeword s target rec_).apa = s.apa ∧
    (State.blowCodeword s target rec_).pol = s.pol ∧ (State.blowCodeword s target rec_).fit = s.fit ∧
    (State.blowCodeword s target rec_).bde = s.bde ∧ (State.blowCodeword s target rec_).hma = s.hma ∧
    (State.blowCodeword s target rec_).cme = s.cme ∧ (State.blowCodeword s target rec_).rfg = s.rfg ∧
    (State.blowCodeword s target rec_).atr = s.atr ∧ (State.blowCodeword s target rec_).rfu = s.rfu ∧
    (State.blowCodeword s target rec_).cby = s.cby ∧ (State.blowCodeword s target rec_).cru = s.cru ∧
    (State.blowCodeword s target rec_).emb = s.emb ∧ (State.blowCodeword s target rec_).wwu = s.wwu ∧
    (State.blowCodeword s target rec_).lgb = s.lgb ∧ (State.blowCodeword s target rec_).io = s.io ∧
    (State.blowCodeword s target rec_).draws = s.draws ∧ (State.blowCodeword s target rec_).pending = s.pending := by
  simp [State.blowCodeword]

/-- State.blowIntent writes otp at most. -/
@[simp] theorem State.blowIntent_keeps (s : State) (target rec_ : Nat) :
    (State.blowIntent s target rec_).spn = s.spn ∧ (State.blowIntent s target rec_).boot = s.boot ∧
    (State.blowIntent s target rec_).strs = s.strs ∧ (State.blowIntent s target rec_).apa = s.apa ∧
    (State.blowIntent s target rec_).pol = s.pol ∧ (State.blowIntent s target rec_).fit = s.fit ∧
    (State.blowIntent s target rec_).bde = s.bde ∧ (State.blowIntent s target rec_).hma = s.hma ∧
    (State.blowIntent s target rec_).cme = s.cme ∧ (State.blowIntent s target rec_).rfg = s.rfg ∧
    (State.blowIntent s target rec_).atr = s.atr ∧ (State.blowIntent s target rec_).rfu = s.rfu ∧
    (State.blowIntent s target rec_).cby = s.cby ∧ (State.blowIntent s target rec_).cru = s.cru ∧
    (State.blowIntent s target rec_).emb = s.emb ∧ (State.blowIntent s target rec_).wwu = s.wwu ∧
    (State.blowIntent s target rec_).lgb = s.lgb ∧ (State.blowIntent s target rec_).io = s.io ∧
    (State.blowIntent s target rec_).draws = s.draws ∧ (State.blowIntent s target rec_).pending = s.pending := by
  simp [State.blowIntent]

/-- State.openLadder writes cru at most. -/
@[simp] theorem State.openLadder_keeps (s : State) :
    (State.openLadder s).spn = s.spn ∧ (State.openLadder s).boot = s.boot ∧ (State.openLadder s).strs = s.strs ∧
    (State.openLadder s).apa = s.apa ∧ (State.openLadder s).pol = s.pol ∧ (State.openLadder s).fit = s.fit ∧
    (State.openLadder s).bde = s.bde ∧ (State.openLadder s).hma = s.hma ∧ (State.openLadder s).cme = s.cme ∧
    (State.openLadder s).rfg = s.rfg ∧ (State.openLadder s).atr = s.atr ∧ (State.openLadder s).rfu = s.rfu ∧
    (State.openLadder s).cby = s.cby ∧ (State.openLadder s).otp = s.otp ∧ (State.openLadder s).emb = s.emb ∧
    (State.openLadder s).wwu = s.wwu ∧ (State.openLadder s).lgb = s.lgb ∧ (State.openLadder s).io = s.io ∧
    (State.openLadder s).draws = s.draws ∧ (State.openLadder s).pending = s.pending := by
  simp [State.openLadder]

/-- State.deriveDeviceId writes cru at most. -/
@[simp] theorem State.deriveDeviceId_keeps (s : State) :
    (State.deriveDeviceId s).spn = s.spn ∧ (State.deriveDeviceId s).boot = s.boot ∧ (State.deriveDeviceId s).strs = s.strs ∧
    (State.deriveDeviceId s).apa = s.apa ∧ (State.deriveDeviceId s).pol = s.pol ∧ (State.deriveDeviceId s).fit = s.fit ∧
    (State.deriveDeviceId s).bde = s.bde ∧ (State.deriveDeviceId s).hma = s.hma ∧ (State.deriveDeviceId s).cme = s.cme ∧
    (State.deriveDeviceId s).rfg = s.rfg ∧ (State.deriveDeviceId s).atr = s.atr ∧ (State.deriveDeviceId s).rfu = s.rfu ∧
    (State.deriveDeviceId s).cby = s.cby ∧ (State.deriveDeviceId s).otp = s.otp ∧ (State.deriveDeviceId s).emb = s.emb ∧
    (State.deriveDeviceId s).wwu = s.wwu ∧ (State.deriveDeviceId s).lgb = s.lgb ∧ (State.deriveDeviceId s).io = s.io ∧
    (State.deriveDeviceId s).draws = s.draws ∧ (State.deriveDeviceId s).pending = s.pending := by
  simp [State.deriveDeviceId]

/-- State.deriveAttKey writes cru at most. -/
@[simp] theorem State.deriveAttKey_keeps (s : State) :
    (State.deriveAttKey s).spn = s.spn ∧ (State.deriveAttKey s).boot = s.boot ∧ (State.deriveAttKey s).strs = s.strs ∧
    (State.deriveAttKey s).apa = s.apa ∧ (State.deriveAttKey s).pol = s.pol ∧ (State.deriveAttKey s).fit = s.fit ∧
    (State.deriveAttKey s).bde = s.bde ∧ (State.deriveAttKey s).hma = s.hma ∧ (State.deriveAttKey s).cme = s.cme ∧
    (State.deriveAttKey s).rfg = s.rfg ∧ (State.deriveAttKey s).atr = s.atr ∧ (State.deriveAttKey s).rfu = s.rfu ∧
    (State.deriveAttKey s).cby = s.cby ∧ (State.deriveAttKey s).otp = s.otp ∧ (State.deriveAttKey s).emb = s.emb ∧
    (State.deriveAttKey s).wwu = s.wwu ∧ (State.deriveAttKey s).lgb = s.lgb ∧ (State.deriveAttKey s).io = s.io ∧
    (State.deriveAttKey s).draws = s.draws ∧ (State.deriveAttKey s).pending = s.pending := by
  simp [State.deriveAttKey]

/-- State.deriveOwnerKeys writes cru at most. -/
@[simp] theorem State.deriveOwnerKeys_keeps (s : State) :
    (State.deriveOwnerKeys s).spn = s.spn ∧ (State.deriveOwnerKeys s).boot = s.boot ∧
    (State.deriveOwnerKeys s).strs = s.strs ∧ (State.deriveOwnerKeys s).apa = s.apa ∧ (State.deriveOwnerKeys s).pol = s.pol ∧
    (State.deriveOwnerKeys s).fit = s.fit ∧ (State.deriveOwnerKeys s).bde = s.bde ∧ (State.deriveOwnerKeys s).hma = s.hma ∧
    (State.deriveOwnerKeys s).cme = s.cme ∧ (State.deriveOwnerKeys s).rfg = s.rfg ∧ (State.deriveOwnerKeys s).atr = s.atr ∧
    (State.deriveOwnerKeys s).rfu = s.rfu ∧ (State.deriveOwnerKeys s).cby = s.cby ∧ (State.deriveOwnerKeys s).otp = s.otp ∧
    (State.deriveOwnerKeys s).emb = s.emb ∧ (State.deriveOwnerKeys s).wwu = s.wwu ∧ (State.deriveOwnerKeys s).lgb = s.lgb ∧
    (State.deriveOwnerKeys s).io = s.io ∧ (State.deriveOwnerKeys s).draws = s.draws ∧
    (State.deriveOwnerKeys s).pending = s.pending := by
  simp [State.deriveOwnerKeys]

/-- State.eraseSigningKeys writes cru at most. -/
@[simp] theorem State.eraseSigningKeys_keeps (s : State) :
    (State.eraseSigningKeys s).spn = s.spn ∧ (State.eraseSigningKeys s).boot = s.boot ∧
    (State.eraseSigningKeys s).strs = s.strs ∧ (State.eraseSigningKeys s).apa = s.apa ∧
    (State.eraseSigningKeys s).pol = s.pol ∧ (State.eraseSigningKeys s).fit = s.fit ∧
    (State.eraseSigningKeys s).bde = s.bde ∧ (State.eraseSigningKeys s).hma = s.hma ∧
    (State.eraseSigningKeys s).cme = s.cme ∧ (State.eraseSigningKeys s).rfg = s.rfg ∧
    (State.eraseSigningKeys s).atr = s.atr ∧ (State.eraseSigningKeys s).rfu = s.rfu ∧
    (State.eraseSigningKeys s).cby = s.cby ∧ (State.eraseSigningKeys s).otp = s.otp ∧
    (State.eraseSigningKeys s).emb = s.emb ∧ (State.eraseSigningKeys s).wwu = s.wwu ∧
    (State.eraseSigningKeys s).lgb = s.lgb ∧ (State.eraseSigningKeys s).io = s.io ∧
    (State.eraseSigningKeys s).draws = s.draws ∧ (State.eraseSigningKeys s).pending = s.pending := by
  simp [State.eraseSigningKeys]

/-- State.writeTable writes cru at most. -/
@[simp] theorem State.writeTable_keeps (s : State) (t : OwnerTable) :
    (State.writeTable s t).spn = s.spn ∧ (State.writeTable s t).boot = s.boot ∧ (State.writeTable s t).strs = s.strs ∧
    (State.writeTable s t).apa = s.apa ∧ (State.writeTable s t).pol = s.pol ∧ (State.writeTable s t).fit = s.fit ∧
    (State.writeTable s t).bde = s.bde ∧ (State.writeTable s t).hma = s.hma ∧ (State.writeTable s t).cme = s.cme ∧
    (State.writeTable s t).rfg = s.rfg ∧ (State.writeTable s t).atr = s.atr ∧ (State.writeTable s t).rfu = s.rfu ∧
    (State.writeTable s t).cby = s.cby ∧ (State.writeTable s t).otp = s.otp ∧ (State.writeTable s t).emb = s.emb ∧
    (State.writeTable s t).wwu = s.wwu ∧ (State.writeTable s t).lgb = s.lgb ∧ (State.writeTable s t).io = s.io ∧
    (State.writeTable s t).draws = s.draws ∧ (State.writeTable s t).pending = s.pending := by
  simp [State.writeTable]

/-- State.consumeNonce writes cru at most. -/
@[simp] theorem State.consumeNonce_keeps (s : State) (x : Statement) :
    (State.consumeNonce s x).spn = s.spn ∧ (State.consumeNonce s x).boot = s.boot ∧ (State.consumeNonce s x).strs = s.strs ∧
    (State.consumeNonce s x).apa = s.apa ∧ (State.consumeNonce s x).pol = s.pol ∧ (State.consumeNonce s x).fit = s.fit ∧
    (State.consumeNonce s x).bde = s.bde ∧ (State.consumeNonce s x).hma = s.hma ∧ (State.consumeNonce s x).cme = s.cme ∧
    (State.consumeNonce s x).rfg = s.rfg ∧ (State.consumeNonce s x).atr = s.atr ∧ (State.consumeNonce s x).rfu = s.rfu ∧
    (State.consumeNonce s x).cby = s.cby ∧ (State.consumeNonce s x).otp = s.otp ∧ (State.consumeNonce s x).emb = s.emb ∧
    (State.consumeNonce s x).wwu = s.wwu ∧ (State.consumeNonce s x).lgb = s.lgb ∧ (State.consumeNonce s x).io = s.io ∧
    (State.consumeNonce s x).draws = s.draws ∧ (State.consumeNonce s x).pending = s.pending := by
  unfold State.consumeNonce; dsimp only; (repeat' split) <;> simp

/-- State.consumeWithin writes cru at most. -/
@[simp] theorem State.consumeWithin_keeps (s : State) (b : Bytes) :
    (State.consumeWithin s b).spn = s.spn ∧ (State.consumeWithin s b).boot = s.boot ∧
    (State.consumeWithin s b).strs = s.strs ∧ (State.consumeWithin s b).apa = s.apa ∧ (State.consumeWithin s b).pol = s.pol ∧
    (State.consumeWithin s b).fit = s.fit ∧ (State.consumeWithin s b).bde = s.bde ∧ (State.consumeWithin s b).hma = s.hma ∧
    (State.consumeWithin s b).cme = s.cme ∧ (State.consumeWithin s b).rfg = s.rfg ∧ (State.consumeWithin s b).atr = s.atr ∧
    (State.consumeWithin s b).rfu = s.rfu ∧ (State.consumeWithin s b).cby = s.cby ∧ (State.consumeWithin s b).otp = s.otp ∧
    (State.consumeWithin s b).emb = s.emb ∧ (State.consumeWithin s b).wwu = s.wwu ∧ (State.consumeWithin s b).lgb = s.lgb ∧
    (State.consumeWithin s b).io = s.io ∧ (State.consumeWithin s b).draws = s.draws ∧
    (State.consumeWithin s b).pending = s.pending := by
  simp [State.consumeWithin]

/-- State.authRefused writes cru, lgb at most. -/
@[simp] theorem State.authRefused_keeps (s : State) (status : Nat) :
    (State.authRefused s status).spn = s.spn ∧ (State.authRefused s status).boot = s.boot ∧
    (State.authRefused s status).strs = s.strs ∧ (State.authRefused s status).apa = s.apa ∧
    (State.authRefused s status).pol = s.pol ∧ (State.authRefused s status).fit = s.fit ∧
    (State.authRefused s status).bde = s.bde ∧ (State.authRefused s status).hma = s.hma ∧
    (State.authRefused s status).cme = s.cme ∧ (State.authRefused s status).rfg = s.rfg ∧
    (State.authRefused s status).atr = s.atr ∧ (State.authRefused s status).rfu = s.rfu ∧
    (State.authRefused s status).cby = s.cby ∧ (State.authRefused s status).otp = s.otp ∧
    (State.authRefused s status).emb = s.emb ∧ (State.authRefused s status).wwu = s.wwu ∧
    (State.authRefused s status).io = s.io ∧ (State.authRefused s status).draws = s.draws ∧
    (State.authRefused s status).pending = s.pending := by
  simp [State.authRefused]

/-- State.judgeStatement writes hma, cme, lgb at most. -/
@[simp] theorem State.judgeStatement_keeps (s : State) (accepts : Statement → Bool) (x : Statement) (verdicts : Nat) :
    (State.judgeStatement s accepts x verdicts).2.spn = s.spn ∧ (State.judgeStatement s accepts x verdicts).2.boot = s.boot ∧
    (State.judgeStatement s accepts x verdicts).2.strs = s.strs ∧ (State.judgeStatement s accepts x verdicts).2.apa = s.apa ∧
    (State.judgeStatement s accepts x verdicts).2.pol = s.pol ∧ (State.judgeStatement s accepts x verdicts).2.fit = s.fit ∧
    (State.judgeStatement s accepts x verdicts).2.bde = s.bde ∧ (State.judgeStatement s accepts x verdicts).2.rfg = s.rfg ∧
    (State.judgeStatement s accepts x verdicts).2.atr = s.atr ∧ (State.judgeStatement s accepts x verdicts).2.rfu = s.rfu ∧
    (State.judgeStatement s accepts x verdicts).2.cby = s.cby ∧ (State.judgeStatement s accepts x verdicts).2.cru = s.cru ∧
    (State.judgeStatement s accepts x verdicts).2.otp = s.otp ∧ (State.judgeStatement s accepts x verdicts).2.emb = s.emb ∧
    (State.judgeStatement s accepts x verdicts).2.wwu = s.wwu ∧ (State.judgeStatement s accepts x verdicts).2.io = s.io ∧
    (State.judgeStatement s accepts x verdicts).2.draws = s.draws ∧
    (State.judgeStatement s accepts x verdicts).2.pending = s.pending := by
  unfold State.judgeStatement; (repeat' split) <;> (try dsimp only) <;> (repeat' split) <;> simp

/-- State.present writes hma, cme, cru, lgb at most. -/
@[simp] theorem State.present_keeps (s : State) (b : Bytes) (verdicts : Nat) (accepts : Statement → Bool) :
    (State.present s b verdicts accepts).2.2.spn = s.spn ∧ (State.present s b verdicts accepts).2.2.boot = s.boot ∧
    (State.present s b verdicts accepts).2.2.strs = s.strs ∧ (State.present s b verdicts accepts).2.2.apa = s.apa ∧
    (State.present s b verdicts accepts).2.2.pol = s.pol ∧ (State.present s b verdicts accepts).2.2.fit = s.fit ∧
    (State.present s b verdicts accepts).2.2.bde = s.bde ∧ (State.present s b verdicts accepts).2.2.rfg = s.rfg ∧
    (State.present s b verdicts accepts).2.2.atr = s.atr ∧ (State.present s b verdicts accepts).2.2.rfu = s.rfu ∧
    (State.present s b verdicts accepts).2.2.cby = s.cby ∧ (State.present s b verdicts accepts).2.2.otp = s.otp ∧
    (State.present s b verdicts accepts).2.2.emb = s.emb ∧ (State.present s b verdicts accepts).2.2.wwu = s.wwu ∧
    (State.present s b verdicts accepts).2.2.io = s.io ∧ (State.present s b verdicts accepts).2.2.draws = s.draws ∧
    (State.present s b verdicts accepts).2.2.pending = s.pending := by
  unfold State.present; dsimp only; (repeat' split) <;> simp

/-- State.blowAll writes otp at most. -/
@[simp] theorem State.blowAll_keeps (s : State) :
    (State.blowAll s).spn = s.spn ∧ (State.blowAll s).boot = s.boot ∧ (State.blowAll s).strs = s.strs ∧
    (State.blowAll s).apa = s.apa ∧ (State.blowAll s).pol = s.pol ∧ (State.blowAll s).fit = s.fit ∧
    (State.blowAll s).bde = s.bde ∧ (State.blowAll s).hma = s.hma ∧ (State.blowAll s).cme = s.cme ∧
    (State.blowAll s).rfg = s.rfg ∧ (State.blowAll s).atr = s.atr ∧ (State.blowAll s).rfu = s.rfu ∧
    (State.blowAll s).cby = s.cby ∧ (State.blowAll s).cru = s.cru ∧ (State.blowAll s).emb = s.emb ∧
    (State.blowAll s).wwu = s.wwu ∧ (State.blowAll s).lgb = s.lgb ∧ (State.blowAll s).io = s.io ∧
    (State.blowAll s).draws = s.draws ∧ (State.blowAll s).pending = s.pending := by
  simp [State.blowAll]

/-- State.wipeCommon writes pol, rfg, atr, rfu, cru, emb, wwu at most. -/
@[simp] theorem State.wipeCommon_keeps (s : State) (kind : Nat) :
    (State.wipeCommon s kind).spn = s.spn ∧ (State.wipeCommon s kind).boot = s.boot ∧
    (State.wipeCommon s kind).strs = s.strs ∧ (State.wipeCommon s kind).apa = s.apa ∧ (State.wipeCommon s kind).fit = s.fit ∧
    (State.wipeCommon s kind).bde = s.bde ∧ (State.wipeCommon s kind).hma = s.hma ∧ (State.wipeCommon s kind).cme = s.cme ∧
    (State.wipeCommon s kind).cby = s.cby ∧ (State.wipeCommon s kind).otp = s.otp ∧ (State.wipeCommon s kind).lgb = s.lgb ∧
    (State.wipeCommon s kind).io = s.io ∧ (State.wipeCommon s kind).draws = s.draws ∧
    (State.wipeCommon s kind).pending = s.pending := by
  simp [State.wipeCommon]

/-- State.wipe writes boot, pol, fit, rfg, atr, rfu, cby, cru, otp, emb, wwu, lgb at most. -/
@[simp] theorem State.wipe_keeps (s : State) (target rec_ : Nat) :
    (State.wipe s target rec_).spn = s.spn ∧ (State.wipe s target rec_).strs = s.strs ∧
    (State.wipe s target rec_).apa = s.apa ∧ (State.wipe s target rec_).bde = s.bde ∧
    (State.wipe s target rec_).hma = s.hma ∧ (State.wipe s target rec_).cme = s.cme ∧ (State.wipe s target rec_).io = s.io ∧
    (State.wipe s target rec_).draws = s.draws ∧ (State.wipe s target rec_).pending = s.pending := by
  simp [State.wipe]

/-- State.stopStrings writes strs at most. -/
@[simp] theorem State.stopStrings_keeps (s : State) :
    (State.stopStrings s).spn = s.spn ∧ (State.stopStrings s).boot = s.boot ∧ (State.stopStrings s).apa = s.apa ∧
    (State.stopStrings s).pol = s.pol ∧ (State.stopStrings s).fit = s.fit ∧ (State.stopStrings s).bde = s.bde ∧
    (State.stopStrings s).hma = s.hma ∧ (State.stopStrings s).cme = s.cme ∧ (State.stopStrings s).rfg = s.rfg ∧
    (State.stopStrings s).atr = s.atr ∧ (State.stopStrings s).rfu = s.rfu ∧ (State.stopStrings s).cby = s.cby ∧
    (State.stopStrings s).cru = s.cru ∧ (State.stopStrings s).otp = s.otp ∧ (State.stopStrings s).emb = s.emb ∧
    (State.stopStrings s).wwu = s.wwu ∧ (State.stopStrings s).lgb = s.lgb ∧ (State.stopStrings s).io = s.io ∧
    (State.stopStrings s).draws = s.draws ∧ (State.stopStrings s).pending = s.pending := by
  simp [State.stopStrings]

/-- State.endGrant writes atr, cru, lgb at most. -/
@[simp] theorem State.endGrant_keeps (s : State) :
    (State.endGrant s).spn = s.spn ∧ (State.endGrant s).boot = s.boot ∧ (State.endGrant s).strs = s.strs ∧
    (State.endGrant s).apa = s.apa ∧ (State.endGrant s).pol = s.pol ∧ (State.endGrant s).fit = s.fit ∧
    (State.endGrant s).bde = s.bde ∧ (State.endGrant s).hma = s.hma ∧ (State.endGrant s).cme = s.cme ∧
    (State.endGrant s).rfg = s.rfg ∧ (State.endGrant s).rfu = s.rfu ∧ (State.endGrant s).cby = s.cby ∧
    (State.endGrant s).otp = s.otp ∧ (State.endGrant s).emb = s.emb ∧ (State.endGrant s).wwu = s.wwu ∧
    (State.endGrant s).io = s.io ∧ (State.endGrant s).draws = s.draws ∧ (State.endGrant s).pending = s.pending := by
  simp [State.endGrant]

/-- State.noteClosed writes lgb at most. -/
@[simp] theorem State.noteClosed_keeps (s : State) :
    (State.noteClosed s).spn = s.spn ∧ (State.noteClosed s).boot = s.boot ∧ (State.noteClosed s).strs = s.strs ∧
    (State.noteClosed s).apa = s.apa ∧ (State.noteClosed s).pol = s.pol ∧ (State.noteClosed s).fit = s.fit ∧
    (State.noteClosed s).bde = s.bde ∧ (State.noteClosed s).hma = s.hma ∧ (State.noteClosed s).cme = s.cme ∧
    (State.noteClosed s).rfg = s.rfg ∧ (State.noteClosed s).atr = s.atr ∧ (State.noteClosed s).rfu = s.rfu ∧
    (State.noteClosed s).cby = s.cby ∧ (State.noteClosed s).cru = s.cru ∧ (State.noteClosed s).otp = s.otp ∧
    (State.noteClosed s).emb = s.emb ∧ (State.noteClosed s).wwu = s.wwu ∧ (State.noteClosed s).io = s.io ∧
    (State.noteClosed s).draws = s.draws ∧ (State.noteClosed s).pending = s.pending := by
  simp [State.noteClosed]

/-- State.controlRestart writes spn, boot, strs, pol, bde, hma, cme, atr, rfu, cby, cru, wwu, lgb at most. -/
@[simp] theorem State.controlRestart_keeps (s : State) :
    (State.controlRestart s).apa = s.apa ∧ (State.controlRestart s).fit = s.fit ∧ (State.controlRestart s).rfg = s.rfg ∧
    (State.controlRestart s).otp = s.otp ∧ (State.controlRestart s).emb = s.emb ∧ (State.controlRestart s).io = s.io ∧
    (State.controlRestart s).draws = s.draws ∧ (State.controlRestart s).pending = s.pending := by
  simp [State.controlRestart]

/-- State.bootFailure writes boot, lgb at most. -/
@[simp] theorem State.bootFailure_keeps (s : State) (copy : Nat) (c : BootCause) :
    (State.bootFailure s copy c).spn = s.spn ∧ (State.bootFailure s copy c).strs = s.strs ∧
    (State.bootFailure s copy c).apa = s.apa ∧ (State.bootFailure s copy c).pol = s.pol ∧
    (State.bootFailure s copy c).fit = s.fit ∧ (State.bootFailure s copy c).bde = s.bde ∧
    (State.bootFailure s copy c).hma = s.hma ∧ (State.bootFailure s copy c).cme = s.cme ∧
    (State.bootFailure s copy c).rfg = s.rfg ∧ (State.bootFailure s copy c).atr = s.atr ∧
    (State.bootFailure s copy c).rfu = s.rfu ∧ (State.bootFailure s copy c).cby = s.cby ∧
    (State.bootFailure s copy c).cru = s.cru ∧ (State.bootFailure s copy c).otp = s.otp ∧
    (State.bootFailure s copy c).emb = s.emb ∧ (State.bootFailure s copy c).wwu = s.wwu ∧
    (State.bootFailure s copy c).io = s.io ∧ (State.bootFailure s copy c).draws = s.draws ∧
    (State.bootFailure s copy c).pending = s.pending := by
  simp [State.bootFailure]

/-- State.updWarden writes boot at most. -/
@[simp] theorem State.updWarden_keeps (s : State) (c : Nat) (f : WardenCopy → WardenCopy) :
    (State.updWarden s c f).spn = s.spn ∧ (State.updWarden s c f).strs = s.strs ∧ (State.updWarden s c f).apa = s.apa ∧
    (State.updWarden s c f).pol = s.pol ∧ (State.updWarden s c f).fit = s.fit ∧ (State.updWarden s c f).bde = s.bde ∧
    (State.updWarden s c f).hma = s.hma ∧ (State.updWarden s c f).cme = s.cme ∧ (State.updWarden s c f).rfg = s.rfg ∧
    (State.updWarden s c f).atr = s.atr ∧ (State.updWarden s c f).rfu = s.rfu ∧ (State.updWarden s c f).cby = s.cby ∧
    (State.updWarden s c f).cru = s.cru ∧ (State.updWarden s c f).otp = s.otp ∧ (State.updWarden s c f).emb = s.emb ∧
    (State.updWarden s c f).wwu = s.wwu ∧ (State.updWarden s c f).lgb = s.lgb ∧ (State.updWarden s c f).io = s.io ∧
    (State.updWarden s c f).draws = s.draws ∧ (State.updWarden s c f).pending = s.pending := by
  simp [State.updWarden]

/-- State.countRestart writes boot, lgb at most. -/
@[simp] theorem State.countRestart_keeps (s : State) :
    (State.countRestart s).spn = s.spn ∧ (State.countRestart s).strs = s.strs ∧ (State.countRestart s).apa = s.apa ∧
    (State.countRestart s).pol = s.pol ∧ (State.countRestart s).fit = s.fit ∧ (State.countRestart s).bde = s.bde ∧
    (State.countRestart s).hma = s.hma ∧ (State.countRestart s).cme = s.cme ∧ (State.countRestart s).rfg = s.rfg ∧
    (State.countRestart s).atr = s.atr ∧ (State.countRestart s).rfu = s.rfu ∧ (State.countRestart s).cby = s.cby ∧
    (State.countRestart s).cru = s.cru ∧ (State.countRestart s).otp = s.otp ∧ (State.countRestart s).emb = s.emb ∧
    (State.countRestart s).wwu = s.wwu ∧ (State.countRestart s).io = s.io ∧ (State.countRestart s).draws = s.draws ∧
    (State.countRestart s).pending = s.pending := by
  simp [State.countRestart]

/-- State.plannedRestart writes spn, boot, strs, pol, bde, hma, cme, atr, rfu, cby, cru, wwu, lgb at most. -/
@[simp] theorem State.plannedRestart_keeps (s : State) :
    (State.plannedRestart s).apa = s.apa ∧ (State.plannedRestart s).fit = s.fit ∧ (State.plannedRestart s).rfg = s.rfg ∧
    (State.plannedRestart s).otp = s.otp ∧ (State.plannedRestart s).emb = s.emb ∧ (State.plannedRestart s).io = s.io ∧
    (State.plannedRestart s).draws = s.draws ∧ (State.plannedRestart s).pending = s.pending := by
  simp [State.plannedRestart]

/-- State.lastResort writes spn, boot, strs, pol, bde, hma, cme, atr, rfu, cby, cru, wwu, lgb at most. -/
@[simp] theorem State.lastResort_keeps (s : State) :
    (State.lastResort s).apa = s.apa ∧ (State.lastResort s).fit = s.fit ∧ (State.lastResort s).rfg = s.rfg ∧
    (State.lastResort s).otp = s.otp ∧ (State.lastResort s).emb = s.emb ∧ (State.lastResort s).io = s.io ∧
    (State.lastResort s).draws = s.draws ∧ (State.lastResort s).pending = s.pending := by
  simp [State.lastResort]

/-- State.cutOff writes cme, io at most. -/
@[simp] theorem State.cutOff_keeps (s : State) (src : Src) :
    (State.cutOff s src).spn = s.spn ∧ (State.cutOff s src).boot = s.boot ∧ (State.cutOff s src).strs = s.strs ∧
    (State.cutOff s src).apa = s.apa ∧ (State.cutOff s src).pol = s.pol ∧ (State.cutOff s src).fit = s.fit ∧
    (State.cutOff s src).bde = s.bde ∧ (State.cutOff s src).hma = s.hma ∧ (State.cutOff s src).rfg = s.rfg ∧
    (State.cutOff s src).atr = s.atr ∧ (State.cutOff s src).rfu = s.rfu ∧ (State.cutOff s src).cby = s.cby ∧
    (State.cutOff s src).cru = s.cru ∧ (State.cutOff s src).otp = s.otp ∧ (State.cutOff s src).emb = s.emb ∧
    (State.cutOff s src).wwu = s.wwu ∧ (State.cutOff s src).lgb = s.lgb ∧ (State.cutOff s src).draws = s.draws ∧
    (State.cutOff s src).pending = s.pending := by
  simp [State.cutOff]

/-- State.undoWaiting writes strs, apa, fit at most. -/
@[simp] theorem State.undoWaiting_keeps (s : State) :
    (State.undoWaiting s).spn = s.spn ∧ (State.undoWaiting s).boot = s.boot ∧ (State.undoWaiting s).pol = s.pol ∧
    (State.undoWaiting s).bde = s.bde ∧ (State.undoWaiting s).hma = s.hma ∧ (State.undoWaiting s).cme = s.cme ∧
    (State.undoWaiting s).rfg = s.rfg ∧ (State.undoWaiting s).atr = s.atr ∧ (State.undoWaiting s).rfu = s.rfu ∧
    (State.undoWaiting s).cby = s.cby ∧ (State.undoWaiting s).cru = s.cru ∧ (State.undoWaiting s).otp = s.otp ∧
    (State.undoWaiting s).emb = s.emb ∧ (State.undoWaiting s).wwu = s.wwu ∧ (State.undoWaiting s).lgb = s.lgb ∧
    (State.undoWaiting s).io = s.io ∧ (State.undoWaiting s).draws = s.draws ∧ (State.undoWaiting s).pending = s.pending := by
  simp [State.undoWaiting]

/-- State.endCommit writes pol, cme at most. -/
@[simp] theorem State.endCommit_keeps (s : State) :
    (State.endCommit s).spn = s.spn ∧ (State.endCommit s).boot = s.boot ∧ (State.endCommit s).strs = s.strs ∧
    (State.endCommit s).apa = s.apa ∧ (State.endCommit s).fit = s.fit ∧ (State.endCommit s).bde = s.bde ∧
    (State.endCommit s).hma = s.hma ∧ (State.endCommit s).rfg = s.rfg ∧ (State.endCommit s).atr = s.atr ∧
    (State.endCommit s).rfu = s.rfu ∧ (State.endCommit s).cby = s.cby ∧ (State.endCommit s).cru = s.cru ∧
    (State.endCommit s).otp = s.otp ∧ (State.endCommit s).emb = s.emb ∧ (State.endCommit s).wwu = s.wwu ∧
    (State.endCommit s).lgb = s.lgb ∧ (State.endCommit s).io = s.io ∧ (State.endCommit s).draws = s.draws ∧
    (State.endCommit s).pending = s.pending := by
  unfold State.endCommit; dsimp only; (repeat' split) <;> simp

/-- State.drainStep writes spn, boot, strs, apa, pol, fit, bde, hma, cme, atr, rfu, cby, cru, wwu, lgb, io at most. -/
@[simp] theorem State.drainStep_keeps (s : State) :
    (State.drainStep s).rfg = s.rfg ∧ (State.drainStep s).otp = s.otp ∧ (State.drainStep s).emb = s.emb ∧
    (State.drainStep s).draws = s.draws ∧ (State.drainStep s).pending = s.pending := by
  unfold State.drainStep; (repeat' split) <;> (try dsimp only) <;> (repeat' split) <;> simp

/-- State.restartSoon writes boot at most. -/
@[simp] theorem State.restartSoon_keeps (s : State) :
    (State.restartSoon s).spn = s.spn ∧ (State.restartSoon s).strs = s.strs ∧ (State.restartSoon s).apa = s.apa ∧
    (State.restartSoon s).pol = s.pol ∧ (State.restartSoon s).fit = s.fit ∧ (State.restartSoon s).bde = s.bde ∧
    (State.restartSoon s).hma = s.hma ∧ (State.restartSoon s).cme = s.cme ∧ (State.restartSoon s).rfg = s.rfg ∧
    (State.restartSoon s).atr = s.atr ∧ (State.restartSoon s).rfu = s.rfu ∧ (State.restartSoon s).cby = s.cby ∧
    (State.restartSoon s).cru = s.cru ∧ (State.restartSoon s).otp = s.otp ∧ (State.restartSoon s).emb = s.emb ∧
    (State.restartSoon s).wwu = s.wwu ∧ (State.restartSoon s).lgb = s.lgb ∧ (State.restartSoon s).io = s.io ∧
    (State.restartSoon s).draws = s.draws ∧ (State.restartSoon s).pending = s.pending := by
  simp [State.restartSoon]

/-- State.askRestart writes boot, cme at most. -/
@[simp] theorem State.askRestart_keeps (s : State) :
    (State.askRestart s).spn = s.spn ∧ (State.askRestart s).strs = s.strs ∧ (State.askRestart s).apa = s.apa ∧
    (State.askRestart s).pol = s.pol ∧ (State.askRestart s).fit = s.fit ∧ (State.askRestart s).bde = s.bde ∧
    (State.askRestart s).hma = s.hma ∧ (State.askRestart s).rfg = s.rfg ∧ (State.askRestart s).atr = s.atr ∧
    (State.askRestart s).rfu = s.rfu ∧ (State.askRestart s).cby = s.cby ∧ (State.askRestart s).cru = s.cru ∧
    (State.askRestart s).otp = s.otp ∧ (State.askRestart s).emb = s.emb ∧ (State.askRestart s).wwu = s.wwu ∧
    (State.askRestart s).lgb = s.lgb ∧ (State.askRestart s).io = s.io ∧ (State.askRestart s).draws = s.draws ∧
    (State.askRestart s).pending = s.pending := by
  simp [State.askRestart]

/-- State.violationTrips writes strs, apa, cme, atr, rfu, wwu, lgb at most. -/
@[simp] theorem State.violationTrips_keeps (s : State) (rule_ kind action : Nat) :
    (State.violationTrips s rule_ kind action).spn = s.spn ∧ (State.violationTrips s rule_ kind action).boot = s.boot ∧
    (State.violationTrips s rule_ kind action).pol = s.pol ∧ (State.violationTrips s rule_ kind action).fit = s.fit ∧
    (State.violationTrips s rule_ kind action).bde = s.bde ∧ (State.violationTrips s rule_ kind action).hma = s.hma ∧
    (State.violationTrips s rule_ kind action).rfg = s.rfg ∧ (State.violationTrips s rule_ kind action).cby = s.cby ∧
    (State.violationTrips s rule_ kind action).cru = s.cru ∧ (State.violationTrips s rule_ kind action).otp = s.otp ∧
    (State.violationTrips s rule_ kind action).emb = s.emb ∧ (State.violationTrips s rule_ kind action).io = s.io ∧
    (State.violationTrips s rule_ kind action).draws = s.draws ∧
    (State.violationTrips s rule_ kind action).pending = s.pending := by
  simp [State.violationTrips]

/-- State.violate writes strs, apa, pol, cme, atr, rfu, wwu, lgb at most. -/
@[simp] theorem State.violate_keeps (s : State) (b : Bank) (v : Viol) :
    (State.violate s b v).spn = s.spn ∧ (State.violate s b v).boot = s.boot ∧ (State.violate s b v).fit = s.fit ∧
    (State.violate s b v).bde = s.bde ∧ (State.violate s b v).hma = s.hma ∧ (State.violate s b v).rfg = s.rfg ∧
    (State.violate s b v).cby = s.cby ∧ (State.violate s b v).cru = s.cru ∧ (State.violate s b v).otp = s.otp ∧
    (State.violate s b v).emb = s.emb ∧ (State.violate s b v).io = s.io ∧ (State.violate s b v).draws = s.draws ∧
    (State.violate s b v).pending = s.pending := by
  simp [State.violate]

/-- State.updShadow writes apa at most. -/
@[simp] theorem State.updShadow_keeps (s : State) (d : Nat) (f : Shadow → Shadow) :
    (State.updShadow s d f).spn = s.spn ∧ (State.updShadow s d f).boot = s.boot ∧ (State.updShadow s d f).strs = s.strs ∧
    (State.updShadow s d f).pol = s.pol ∧ (State.updShadow s d f).fit = s.fit ∧ (State.updShadow s d f).bde = s.bde ∧
    (State.updShadow s d f).hma = s.hma ∧ (State.updShadow s d f).cme = s.cme ∧ (State.updShadow s d f).rfg = s.rfg ∧
    (State.updShadow s d f).atr = s.atr ∧ (State.updShadow s d f).rfu = s.rfu ∧ (State.updShadow s d f).cby = s.cby ∧
    (State.updShadow s d f).cru = s.cru ∧ (State.updShadow s d f).otp = s.otp ∧ (State.updShadow s d f).emb = s.emb ∧
    (State.updShadow s d f).wwu = s.wwu ∧ (State.updShadow s d f).lgb = s.lgb ∧ (State.updShadow s d f).io = s.io ∧
    (State.updShadow s d f).draws = s.draws ∧ (State.updShadow s d f).pending = s.pending := by
  simp [State.updShadow]

/-- State.dropAssemblies writes fit, bde at most. -/
@[simp] theorem State.dropAssemblies_keeps (s : State) (d : Nat) :
    (State.dropAssemblies s d).spn = s.spn ∧ (State.dropAssemblies s d).boot = s.boot ∧
    (State.dropAssemblies s d).strs = s.strs ∧ (State.dropAssemblies s d).apa = s.apa ∧
    (State.dropAssemblies s d).pol = s.pol ∧ (State.dropAssemblies s d).hma = s.hma ∧
    (State.dropAssemblies s d).cme = s.cme ∧ (State.dropAssemblies s d).rfg = s.rfg ∧
    (State.dropAssemblies s d).atr = s.atr ∧ (State.dropAssemblies s d).rfu = s.rfu ∧
    (State.dropAssemblies s d).cby = s.cby ∧ (State.dropAssemblies s d).cru = s.cru ∧
    (State.dropAssemblies s d).otp = s.otp ∧ (State.dropAssemblies s d).emb = s.emb ∧
    (State.dropAssemblies s d).wwu = s.wwu ∧ (State.dropAssemblies s d).lgb = s.lgb ∧ (State.dropAssemblies s d).io = s.io ∧
    (State.dropAssemblies s d).draws = s.draws ∧ (State.dropAssemblies s d).pending = s.pending := by
  simp [State.dropAssemblies]

/-- State.dropPending writes apa at most. -/
@[simp] theorem State.dropPending_keeps (s : State) (p : Nat) :
    (State.dropPending s p).spn = s.spn ∧ (State.dropPending s p).boot = s.boot ∧ (State.dropPending s p).strs = s.strs ∧
    (State.dropPending s p).pol = s.pol ∧ (State.dropPending s p).fit = s.fit ∧ (State.dropPending s p).bde = s.bde ∧
    (State.dropPending s p).hma = s.hma ∧ (State.dropPending s p).cme = s.cme ∧ (State.dropPending s p).rfg = s.rfg ∧
    (State.dropPending s p).atr = s.atr ∧ (State.dropPending s p).rfu = s.rfu ∧ (State.dropPending s p).cby = s.cby ∧
    (State.dropPending s p).cru = s.cru ∧ (State.dropPending s p).otp = s.otp ∧ (State.dropPending s p).emb = s.emb ∧
    (State.dropPending s p).wwu = s.wwu ∧ (State.dropPending s p).lgb = s.lgb ∧ (State.dropPending s p).io = s.io ∧
    (State.dropPending s p).draws = s.draws ∧ (State.dropPending s p).pending = s.pending := by
  simp [State.dropPending]

/-- State.planPulse writes apa at most. -/
@[simp] theorem State.planPulse_keeps (s : State) (p : Nat) :
    (State.planPulse s p).spn = s.spn ∧ (State.planPulse s p).boot = s.boot ∧ (State.planPulse s p).strs = s.strs ∧
    (State.planPulse s p).pol = s.pol ∧ (State.planPulse s p).fit = s.fit ∧ (State.planPulse s p).bde = s.bde ∧
    (State.planPulse s p).hma = s.hma ∧ (State.planPulse s p).cme = s.cme ∧ (State.planPulse s p).rfg = s.rfg ∧
    (State.planPulse s p).atr = s.atr ∧ (State.planPulse s p).rfu = s.rfu ∧ (State.planPulse s p).cby = s.cby ∧
    (State.planPulse s p).cru = s.cru ∧ (State.planPulse s p).otp = s.otp ∧ (State.planPulse s p).emb = s.emb ∧
    (State.planPulse s p).wwu = s.wwu ∧ (State.planPulse s p).lgb = s.lgb ∧ (State.planPulse s p).io = s.io ∧
    (State.planPulse s p).draws = s.draws ∧ (State.planPulse s p).pending = s.pending := by
  unfold State.planPulse; dsimp only; (repeat' split) <;> simp

/-- State.setMode writes spn, apa, lgb at most. -/
@[simp] theorem State.setMode_keeps (s : State) (p : Nat) (m : PortMode) :
    (State.setMode s p m).boot = s.boot ∧ (State.setMode s p m).strs = s.strs ∧ (State.setMode s p m).pol = s.pol ∧
    (State.setMode s p m).fit = s.fit ∧ (State.setMode s p m).bde = s.bde ∧ (State.setMode s p m).hma = s.hma ∧
    (State.setMode s p m).cme = s.cme ∧ (State.setMode s p m).rfg = s.rfg ∧ (State.setMode s p m).atr = s.atr ∧
    (State.setMode s p m).rfu = s.rfu ∧ (State.setMode s p m).cby = s.cby ∧ (State.setMode s p m).cru = s.cru ∧
    (State.setMode s p m).otp = s.otp ∧ (State.setMode s p m).emb = s.emb ∧ (State.setMode s p m).wwu = s.wwu ∧
    (State.setMode s p m).io = s.io ∧ (State.setMode s p m).draws = s.draws ∧ (State.setMode s p m).pending = s.pending := by
  simp [State.setMode]

/-- State.enterResync writes strs, apa, pol, fit, bde, cme, atr, rfu, wwu, lgb at most. -/
@[simp] theorem State.enterResync_keeps (s : State) (d cause : Nat) (by_ : Option Viol := none) :
    (State.enterResync s d cause by_).spn = s.spn ∧ (State.enterResync s d cause by_).boot = s.boot ∧
    (State.enterResync s d cause by_).hma = s.hma ∧ (State.enterResync s d cause by_).rfg = s.rfg ∧
    (State.enterResync s d cause by_).cby = s.cby ∧ (State.enterResync s d cause by_).cru = s.cru ∧
    (State.enterResync s d cause by_).otp = s.otp ∧ (State.enterResync s d cause by_).emb = s.emb ∧
    (State.enterResync s d cause by_).io = s.io ∧ (State.enterResync s d cause by_).draws = s.draws ∧
    (State.enterResync s d cause by_).pending = s.pending := by
  simp [State.enterResync]

/-- State.pauseScans writes fit at most. -/
@[simp] theorem State.pauseScans_keeps (s : State) (p : Nat) :
    (State.pauseScans s p).spn = s.spn ∧ (State.pauseScans s p).boot = s.boot ∧ (State.pauseScans s p).strs = s.strs ∧
    (State.pauseScans s p).apa = s.apa ∧ (State.pauseScans s p).pol = s.pol ∧ (State.pauseScans s p).bde = s.bde ∧
    (State.pauseScans s p).hma = s.hma ∧ (State.pauseScans s p).cme = s.cme ∧ (State.pauseScans s p).rfg = s.rfg ∧
    (State.pauseScans s p).atr = s.atr ∧ (State.pauseScans s p).rfu = s.rfu ∧ (State.pauseScans s p).cby = s.cby ∧
    (State.pauseScans s p).cru = s.cru ∧ (State.pauseScans s p).otp = s.otp ∧ (State.pauseScans s p).emb = s.emb ∧
    (State.pauseScans s p).wwu = s.wwu ∧ (State.pauseScans s p).lgb = s.lgb ∧ (State.pauseScans s p).io = s.io ∧
    (State.pauseScans s p).draws = s.draws ∧ (State.pauseScans s p).pending = s.pending := by
  simp [State.pauseScans]

/-- State.freezePort writes spn, apa, fit, lgb at most. -/
@[simp] theorem State.freezePort_keeps (s : State) (p : Nat) (detail : Bytes) :
    (State.freezePort s p detail).boot = s.boot ∧ (State.freezePort s p detail).strs = s.strs ∧
    (State.freezePort s p detail).pol = s.pol ∧ (State.freezePort s p detail).bde = s.bde ∧
    (State.freezePort s p detail).hma = s.hma ∧ (State.freezePort s p detail).cme = s.cme ∧
    (State.freezePort s p detail).rfg = s.rfg ∧ (State.freezePort s p detail).atr = s.atr ∧
    (State.freezePort s p detail).rfu = s.rfu ∧ (State.freezePort s p detail).cby = s.cby ∧
    (State.freezePort s p detail).cru = s.cru ∧ (State.freezePort s p detail).otp = s.otp ∧
    (State.freezePort s p detail).emb = s.emb ∧ (State.freezePort s p detail).wwu = s.wwu ∧
    (State.freezePort s p detail).io = s.io ∧ (State.freezePort s p detail).draws = s.draws ∧
    (State.freezePort s p detail).pending = s.pending := by
  simp [State.freezePort]

/-- State.sendFlash writes io at most. -/
@[simp] theorem State.sendFlash_keeps (s : State) (l : List FlashXfer) :
    (State.sendFlash s l).spn = s.spn ∧ (State.sendFlash s l).boot = s.boot ∧ (State.sendFlash s l).strs = s.strs ∧
    (State.sendFlash s l).apa = s.apa ∧ (State.sendFlash s l).pol = s.pol ∧ (State.sendFlash s l).fit = s.fit ∧
    (State.sendFlash s l).bde = s.bde ∧ (State.sendFlash s l).hma = s.hma ∧ (State.sendFlash s l).cme = s.cme ∧
    (State.sendFlash s l).rfg = s.rfg ∧ (State.sendFlash s l).atr = s.atr ∧ (State.sendFlash s l).rfu = s.rfu ∧
    (State.sendFlash s l).cby = s.cby ∧ (State.sendFlash s l).cru = s.cru ∧ (State.sendFlash s l).otp = s.otp ∧
    (State.sendFlash s l).emb = s.emb ∧ (State.sendFlash s l).wwu = s.wwu ∧ (State.sendFlash s l).lgb = s.lgb ∧
    (State.sendFlash s l).draws = s.draws ∧ (State.sendFlash s l).pending = s.pending := by
  simp [State.sendFlash]

/-- State.enterScanMode writes apa, cme, io at most. -/
@[simp] theorem State.enterScanMode_keeps (s : State) (d : Nat) :
    (State.enterScanMode s d).spn = s.spn ∧ (State.enterScanMode s d).boot = s.boot ∧
    (State.enterScanMode s d).strs = s.strs ∧ (State.enterScanMode s d).pol = s.pol ∧ (State.enterScanMode s d).fit = s.fit ∧
    (State.enterScanMode s d).bde = s.bde ∧ (State.enterScanMode s d).hma = s.hma ∧ (State.enterScanMode s d).rfg = s.rfg ∧
    (State.enterScanMode s d).atr = s.atr ∧ (State.enterScanMode s d).rfu = s.rfu ∧ (State.enterScanMode s d).cby = s.cby ∧
    (State.enterScanMode s d).cru = s.cru ∧ (State.enterScanMode s d).otp = s.otp ∧ (State.enterScanMode s d).emb = s.emb ∧
    (State.enterScanMode s d).wwu = s.wwu ∧ (State.enterScanMode s d).lgb = s.lgb ∧
    (State.enterScanMode s d).draws = s.draws ∧ (State.enterScanMode s d).pending = s.pending := by
  simp [State.enterScanMode]

/-- State.ownDisagreement writes spn, apa, fit, lgb at most. -/
@[simp] theorem State.ownDisagreement_keeps (s : State) (p op : Nat) :
    (State.ownDisagreement s p op).boot = s.boot ∧ (State.ownDisagreement s p op).strs = s.strs ∧
    (State.ownDisagreement s p op).pol = s.pol ∧ (State.ownDisagreement s p op).bde = s.bde ∧
    (State.ownDisagreement s p op).hma = s.hma ∧ (State.ownDisagreement s p op).cme = s.cme ∧
    (State.ownDisagreement s p op).rfg = s.rfg ∧ (State.ownDisagreement s p op).atr = s.atr ∧
    (State.ownDisagreement s p op).rfu = s.rfu ∧ (State.ownDisagreement s p op).cby = s.cby ∧
    (State.ownDisagreement s p op).cru = s.cru ∧ (State.ownDisagreement s p op).otp = s.otp ∧
    (State.ownDisagreement s p op).emb = s.emb ∧ (State.ownDisagreement s p op).wwu = s.wwu ∧
    (State.ownDisagreement s p op).io = s.io ∧ (State.ownDisagreement s p op).draws = s.draws ∧
    (State.ownDisagreement s p op).pending = s.pending := by
  simp [State.ownDisagreement]

/-- State.ownReset writes apa, rfu, io at most. -/
@[simp] theorem State.ownReset_keeps (s : State) (p : Nat) (drove : List Nat) :
    (State.ownReset s p drove).spn = s.spn ∧ (State.ownReset s p drove).boot = s.boot ∧
    (State.ownReset s p drove).strs = s.strs ∧ (State.ownReset s p drove).pol = s.pol ∧
    (State.ownReset s p drove).fit = s.fit ∧ (State.ownReset s p drove).bde = s.bde ∧
    (State.ownReset s p drove).hma = s.hma ∧ (State.ownReset s p drove).cme = s.cme ∧
    (State.ownReset s p drove).rfg = s.rfg ∧ (State.ownReset s p drove).atr = s.atr ∧
    (State.ownReset s p drove).cby = s.cby ∧ (State.ownReset s p drove).cru = s.cru ∧
    (State.ownReset s p drove).otp = s.otp ∧ (State.ownReset s p drove).emb = s.emb ∧
    (State.ownReset s p drove).wwu = s.wwu ∧ (State.ownReset s p drove).lgb = s.lgb ∧
    (State.ownReset s p drove).draws = s.draws ∧ (State.ownReset s p drove).pending = s.pending := by
  simp [State.ownReset]

/-- State.planPort writes apa at most. -/
@[simp] theorem State.planPort_keeps (s : State) (p : Nat) :
    (State.planPort s p).spn = s.spn ∧ (State.planPort s p).boot = s.boot ∧ (State.planPort s p).strs = s.strs ∧
    (State.planPort s p).pol = s.pol ∧ (State.planPort s p).fit = s.fit ∧ (State.planPort s p).bde = s.bde ∧
    (State.planPort s p).hma = s.hma ∧ (State.planPort s p).cme = s.cme ∧ (State.planPort s p).rfg = s.rfg ∧
    (State.planPort s p).atr = s.atr ∧ (State.planPort s p).rfu = s.rfu ∧ (State.planPort s p).cby = s.cby ∧
    (State.planPort s p).cru = s.cru ∧ (State.planPort s p).otp = s.otp ∧ (State.planPort s p).emb = s.emb ∧
    (State.planPort s p).wwu = s.wwu ∧ (State.planPort s p).lgb = s.lgb ∧ (State.planPort s p).io = s.io ∧
    (State.planPort s p).draws = s.draws ∧ (State.planPort s p).pending = s.pending := by
  unfold State.planPort; dsimp only; (repeat' split) <;> simp

/-- State.planPorts writes apa at most. -/
@[simp] theorem State.planPorts_keeps (s : State) :
    (State.planPorts s).spn = s.spn ∧ (State.planPorts s).boot = s.boot ∧ (State.planPorts s).strs = s.strs ∧
    (State.planPorts s).pol = s.pol ∧ (State.planPorts s).fit = s.fit ∧ (State.planPorts s).bde = s.bde ∧
    (State.planPorts s).hma = s.hma ∧ (State.planPorts s).cme = s.cme ∧ (State.planPorts s).rfg = s.rfg ∧
    (State.planPorts s).atr = s.atr ∧ (State.planPorts s).rfu = s.rfu ∧ (State.planPorts s).cby = s.cby ∧
    (State.planPorts s).cru = s.cru ∧ (State.planPorts s).otp = s.otp ∧ (State.planPorts s).emb = s.emb ∧
    (State.planPorts s).wwu = s.wwu ∧ (State.planPorts s).lgb = s.lgb ∧ (State.planPorts s).io = s.io ∧
    (State.planPorts s).draws = s.draws ∧ (State.planPorts s).pending = s.pending := by
  simp [State.planPorts]

/-- State.settle writes strs, apa, fit, atr, lgb at most. -/
@[simp] theorem State.settle_keeps (s : State) :
    (State.settle s).spn = s.spn ∧ (State.settle s).boot = s.boot ∧ (State.settle s).pol = s.pol ∧
    (State.settle s).bde = s.bde ∧ (State.settle s).hma = s.hma ∧ (State.settle s).cme = s.cme ∧
    (State.settle s).rfg = s.rfg ∧ (State.settle s).rfu = s.rfu ∧ (State.settle s).cby = s.cby ∧
    (State.settle s).cru = s.cru ∧ (State.settle s).otp = s.otp ∧ (State.settle s).emb = s.emb ∧
    (State.settle s).wwu = s.wwu ∧ (State.settle s).io = s.io ∧ (State.settle s).draws = s.draws ∧
    (State.settle s).pending = s.pending := by
  simp [State.settle]

/-- State.portRelease writes spn, apa, lgb at most. -/
@[simp] theorem State.portRelease_keeps (s : State) (p : Nat) :
    (State.portRelease s p).boot = s.boot ∧ (State.portRelease s p).strs = s.strs ∧ (State.portRelease s p).pol = s.pol ∧
    (State.portRelease s p).fit = s.fit ∧ (State.portRelease s p).bde = s.bde ∧ (State.portRelease s p).hma = s.hma ∧
    (State.portRelease s p).cme = s.cme ∧ (State.portRelease s p).rfg = s.rfg ∧ (State.portRelease s p).atr = s.atr ∧
    (State.portRelease s p).rfu = s.rfu ∧ (State.portRelease s p).cby = s.cby ∧ (State.portRelease s p).cru = s.cru ∧
    (State.portRelease s p).otp = s.otp ∧ (State.portRelease s p).emb = s.emb ∧ (State.portRelease s p).wwu = s.wwu ∧
    (State.portRelease s p).io = s.io ∧ (State.portRelease s p).draws = s.draws ∧
    (State.portRelease s p).pending = s.pending := by
  unfold State.portRelease; dsimp only; (repeat' split) <;> simp

/-- State.setLeaf writes fit at most. -/
@[simp] theorem State.setLeaf_keeps (s : State) (d i : Nat) (l : Leaf) :
    (State.setLeaf s d i l).spn = s.spn ∧ (State.setLeaf s d i l).boot = s.boot ∧ (State.setLeaf s d i l).strs = s.strs ∧
    (State.setLeaf s d i l).apa = s.apa ∧ (State.setLeaf s d i l).pol = s.pol ∧ (State.setLeaf s d i l).bde = s.bde ∧
    (State.setLeaf s d i l).hma = s.hma ∧ (State.setLeaf s d i l).cme = s.cme ∧ (State.setLeaf s d i l).rfg = s.rfg ∧
    (State.setLeaf s d i l).atr = s.atr ∧ (State.setLeaf s d i l).rfu = s.rfu ∧ (State.setLeaf s d i l).cby = s.cby ∧
    (State.setLeaf s d i l).cru = s.cru ∧ (State.setLeaf s d i l).otp = s.otp ∧ (State.setLeaf s d i l).emb = s.emb ∧
    (State.setLeaf s d i l).wwu = s.wwu ∧ (State.setLeaf s d i l).lgb = s.lgb ∧ (State.setLeaf s d i l).io = s.io ∧
    (State.setLeaf s d i l).draws = s.draws ∧ (State.setLeaf s d i l).pending = s.pending := by
  simp [State.setLeaf]

/-- State.updateRecord writes fit at most. -/
@[simp] theorem State.updateRecord_keeps (s : State) (d : Nat) :
    (State.updateRecord s d).spn = s.spn ∧ (State.updateRecord s d).boot = s.boot ∧ (State.updateRecord s d).strs = s.strs ∧
    (State.updateRecord s d).apa = s.apa ∧ (State.updateRecord s d).pol = s.pol ∧ (State.updateRecord s d).bde = s.bde ∧
    (State.updateRecord s d).hma = s.hma ∧ (State.updateRecord s d).cme = s.cme ∧ (State.updateRecord s d).rfg = s.rfg ∧
    (State.updateRecord s d).atr = s.atr ∧ (State.updateRecord s d).rfu = s.rfu ∧ (State.updateRecord s d).cby = s.cby ∧
    (State.updateRecord s d).cru = s.cru ∧ (State.updateRecord s d).otp = s.otp ∧ (State.updateRecord s d).emb = s.emb ∧
    (State.updateRecord s d).wwu = s.wwu ∧ (State.updateRecord s d).lgb = s.lgb ∧ (State.updateRecord s d).io = s.io ∧
    (State.updateRecord s d).draws = s.draws ∧ (State.updateRecord s d).pending = s.pending := by
  simp [State.updateRecord]

/-- State.leafMismatch writes strs, apa, fit, cme, atr, rfu, wwu, lgb at most. -/
@[simp] theorem State.leafMismatch_keeps (s : State) (d i : Nat) (old new : Bytes) :
    (State.leafMismatch s d i old new).spn = s.spn ∧ (State.leafMismatch s d i old new).boot = s.boot ∧
    (State.leafMismatch s d i old new).pol = s.pol ∧ (State.leafMismatch s d i old new).bde = s.bde ∧
    (State.leafMismatch s d i old new).hma = s.hma ∧ (State.leafMismatch s d i old new).rfg = s.rfg ∧
    (State.leafMismatch s d i old new).cby = s.cby ∧ (State.leafMismatch s d i old new).cru = s.cru ∧
    (State.leafMismatch s d i old new).otp = s.otp ∧ (State.leafMismatch s d i old new).emb = s.emb ∧
    (State.leafMismatch s d i old new).io = s.io ∧ (State.leafMismatch s d i old new).draws = s.draws ∧
    (State.leafMismatch s d i old new).pending = s.pending := by
  unfold State.leafMismatch; dsimp only; (repeat' split) <;> simp

/-- State.applyCompletion writes strs, apa, fit, cme, atr, rfu, wwu, lgb at most. -/
@[simp] theorem State.applyCompletion_keeps (s : State) (d i : Nat) (v : Bytes) :
    (State.applyCompletion s d i v).spn = s.spn ∧ (State.applyCompletion s d i v).boot = s.boot ∧
    (State.applyCompletion s d i v).pol = s.pol ∧ (State.applyCompletion s d i v).bde = s.bde ∧
    (State.applyCompletion s d i v).hma = s.hma ∧ (State.applyCompletion s d i v).rfg = s.rfg ∧
    (State.applyCompletion s d i v).cby = s.cby ∧ (State.applyCompletion s d i v).cru = s.cru ∧
    (State.applyCompletion s d i v).otp = s.otp ∧ (State.applyCompletion s d i v).emb = s.emb ∧
    (State.applyCompletion s d i v).io = s.io ∧ (State.applyCompletion s d i v).draws = s.draws ∧
    (State.applyCompletion s d i v).pending = s.pending := by
  simp [State.applyCompletion]

/-- State.doubtDevice writes fit at most. -/
@[simp] theorem State.doubtDevice_keeps (s : State) (d : Nat) :
    (State.doubtDevice s d).spn = s.spn ∧ (State.doubtDevice s d).boot = s.boot ∧ (State.doubtDevice s d).strs = s.strs ∧
    (State.doubtDevice s d).apa = s.apa ∧ (State.doubtDevice s d).pol = s.pol ∧ (State.doubtDevice s d).bde = s.bde ∧
    (State.doubtDevice s d).hma = s.hma ∧ (State.doubtDevice s d).cme = s.cme ∧ (State.doubtDevice s d).rfg = s.rfg ∧
    (State.doubtDevice s d).atr = s.atr ∧ (State.doubtDevice s d).rfu = s.rfu ∧ (State.doubtDevice s d).cby = s.cby ∧
    (State.doubtDevice s d).cru = s.cru ∧ (State.doubtDevice s d).otp = s.otp ∧ (State.doubtDevice s d).emb = s.emb ∧
    (State.doubtDevice s d).wwu = s.wwu ∧ (State.doubtDevice s d).lgb = s.lgb ∧ (State.doubtDevice s d).io = s.io ∧
    (State.doubtDevice s d).draws = s.draws ∧ (State.doubtDevice s d).pending = s.pending := by
  simp [State.doubtDevice]

/-- State.applyFit writes strs, apa, fit, cme, atr, rfu, wwu, lgb at most. -/
@[simp] theorem State.applyFit_keeps (s : State) (e : FitEv) :
    (State.applyFit s e).spn = s.spn ∧ (State.applyFit s e).boot = s.boot ∧ (State.applyFit s e).pol = s.pol ∧
    (State.applyFit s e).bde = s.bde ∧ (State.applyFit s e).hma = s.hma ∧ (State.applyFit s e).rfg = s.rfg ∧
    (State.applyFit s e).cby = s.cby ∧ (State.applyFit s e).cru = s.cru ∧ (State.applyFit s e).otp = s.otp ∧
    (State.applyFit s e).emb = s.emb ∧ (State.applyFit s e).io = s.io ∧ (State.applyFit s e).draws = s.draws ∧
    (State.applyFit s e).pending = s.pending := by
  unfold State.applyFit; (repeat' split) <;> (try dsimp only) <;> (repeat' split) <;> simp

/-- State.flushFit writes strs, apa, fit, cme, atr, rfu, wwu, lgb at most. -/
@[simp] theorem State.flushFit_keeps (s : State) (d : Nat) :
    (State.flushFit s d).spn = s.spn ∧ (State.flushFit s d).boot = s.boot ∧ (State.flushFit s d).pol = s.pol ∧
    (State.flushFit s d).bde = s.bde ∧ (State.flushFit s d).hma = s.hma ∧ (State.flushFit s d).rfg = s.rfg ∧
    (State.flushFit s d).cby = s.cby ∧ (State.flushFit s d).cru = s.cru ∧ (State.flushFit s d).otp = s.otp ∧
    (State.flushFit s d).emb = s.emb ∧ (State.flushFit s d).io = s.io ∧ (State.flushFit s d).draws = s.draws ∧
    (State.flushFit s d).pending = s.pending := by
  simp [State.flushFit]

/-- State.reportWear writes fit, cme, lgb at most. -/
@[simp] theorem State.reportWear_keeps (s : State) (d level mx : Nat) :
    (State.reportWear s d level mx).spn = s.spn ∧ (State.reportWear s d level mx).boot = s.boot ∧
    (State.reportWear s d level mx).strs = s.strs ∧ (State.reportWear s d level mx).apa = s.apa ∧
    (State.reportWear s d level mx).pol = s.pol ∧ (State.reportWear s d level mx).bde = s.bde ∧
    (State.reportWear s d level mx).hma = s.hma ∧ (State.reportWear s d level mx).rfg = s.rfg ∧
    (State.reportWear s d level mx).atr = s.atr ∧ (State.reportWear s d level mx).rfu = s.rfu ∧
    (State.reportWear s d level mx).cby = s.cby ∧ (State.reportWear s d level mx).cru = s.cru ∧
    (State.reportWear s d level mx).otp = s.otp ∧ (State.reportWear s d level mx).emb = s.emb ∧
    (State.reportWear s d level mx).wwu = s.wwu ∧ (State.reportWear s d level mx).io = s.io ∧
    (State.reportWear s d level mx).draws = s.draws ∧ (State.reportWear s d level mx).pending = s.pending := by
  simp [State.reportWear]

/-- State.checkWear writes fit, cme, lgb at most. -/
@[simp] theorem State.checkWear_keeps (s : State) (d : Nat) :
    (State.checkWear s d).spn = s.spn ∧ (State.checkWear s d).boot = s.boot ∧ (State.checkWear s d).strs = s.strs ∧
    (State.checkWear s d).apa = s.apa ∧ (State.checkWear s d).pol = s.pol ∧ (State.checkWear s d).bde = s.bde ∧
    (State.checkWear s d).hma = s.hma ∧ (State.checkWear s d).rfg = s.rfg ∧ (State.checkWear s d).atr = s.atr ∧
    (State.checkWear s d).rfu = s.rfu ∧ (State.checkWear s d).cby = s.cby ∧ (State.checkWear s d).cru = s.cru ∧
    (State.checkWear s d).otp = s.otp ∧ (State.checkWear s d).emb = s.emb ∧ (State.checkWear s d).wwu = s.wwu ∧
    (State.checkWear s d).io = s.io ∧ (State.checkWear s d).draws = s.draws ∧ (State.checkWear s d).pending = s.pending := by
  simp [State.checkWear]

/-- State.wearBlocks writes fit, cme, lgb at most. -/
@[simp] theorem State.wearBlocks_keeps (s : State) (d : Nat) (bs : List Nat) :
    (State.wearBlocks s d bs).spn = s.spn ∧ (State.wearBlocks s d bs).boot = s.boot ∧
    (State.wearBlocks s d bs).strs = s.strs ∧ (State.wearBlocks s d bs).apa = s.apa ∧ (State.wearBlocks s d bs).pol = s.pol ∧
    (State.wearBlocks s d bs).bde = s.bde ∧ (State.wearBlocks s d bs).hma = s.hma ∧ (State.wearBlocks s d bs).rfg = s.rfg ∧
    (State.wearBlocks s d bs).atr = s.atr ∧ (State.wearBlocks s d bs).rfu = s.rfu ∧ (State.wearBlocks s d bs).cby = s.cby ∧
    (State.wearBlocks s d bs).cru = s.cru ∧ (State.wearBlocks s d bs).otp = s.otp ∧ (State.wearBlocks s d bs).emb = s.emb ∧
    (State.wearBlocks s d bs).wwu = s.wwu ∧ (State.wearBlocks s d bs).io = s.io ∧ (State.wearBlocks s d bs).draws = s.draws ∧
    (State.wearBlocks s d bs).pending = s.pending := by
  simp [State.wearBlocks]

/-- State.nextPortSeq writes fit at most. -/
@[simp] theorem State.nextPortSeq_keeps (s : State) (p : Nat) :
    (State.nextPortSeq s p).2.spn = s.spn ∧ (State.nextPortSeq s p).2.boot = s.boot ∧
    (State.nextPortSeq s p).2.strs = s.strs ∧ (State.nextPortSeq s p).2.apa = s.apa ∧ (State.nextPortSeq s p).2.pol = s.pol ∧
    (State.nextPortSeq s p).2.bde = s.bde ∧ (State.nextPortSeq s p).2.hma = s.hma ∧ (State.nextPortSeq s p).2.cme = s.cme ∧
    (State.nextPortSeq s p).2.rfg = s.rfg ∧ (State.nextPortSeq s p).2.atr = s.atr ∧ (State.nextPortSeq s p).2.rfu = s.rfu ∧
    (State.nextPortSeq s p).2.cby = s.cby ∧ (State.nextPortSeq s p).2.cru = s.cru ∧ (State.nextPortSeq s p).2.otp = s.otp ∧
    (State.nextPortSeq s p).2.emb = s.emb ∧ (State.nextPortSeq s p).2.wwu = s.wwu ∧ (State.nextPortSeq s p).2.lgb = s.lgb ∧
    (State.nextPortSeq s p).2.io = s.io ∧ (State.nextPortSeq s p).2.draws = s.draws ∧
    (State.nextPortSeq s p).2.pending = s.pending := by
  simp [State.nextPortSeq]

/-- State.writeBlocks writes fit, bde at most. -/
@[simp] theorem State.writeBlocks_keeps (s : State) (d seq : Nat) (bs : List Nat) (ev : Nat → FitEv) :
    (State.writeBlocks s d seq bs ev).spn = s.spn ∧ (State.writeBlocks s d seq bs ev).boot = s.boot ∧
    (State.writeBlocks s d seq bs ev).strs = s.strs ∧ (State.writeBlocks s d seq bs ev).apa = s.apa ∧
    (State.writeBlocks s d seq bs ev).pol = s.pol ∧ (State.writeBlocks s d seq bs ev).hma = s.hma ∧
    (State.writeBlocks s d seq bs ev).cme = s.cme ∧ (State.writeBlocks s d seq bs ev).rfg = s.rfg ∧
    (State.writeBlocks s d seq bs ev).atr = s.atr ∧ (State.writeBlocks s d seq bs ev).rfu = s.rfu ∧
    (State.writeBlocks s d seq bs ev).cby = s.cby ∧ (State.writeBlocks s d seq bs ev).cru = s.cru ∧
    (State.writeBlocks s d seq bs ev).otp = s.otp ∧ (State.writeBlocks s d seq bs ev).emb = s.emb ∧
    (State.writeBlocks s d seq bs ev).wwu = s.wwu ∧ (State.writeBlocks s d seq bs ev).lgb = s.lgb ∧
    (State.writeBlocks s d seq bs ev).io = s.io ∧ (State.writeBlocks s d seq bs ev).draws = s.draws ∧
    (State.writeBlocks s d seq bs ev).pending = s.pending := by
  simp [State.writeBlocks]

/-- State.noteProgram writes fit, bde at most. -/
@[simp] theorem State.noteProgram_keeps (s : State) (d addr seq : Nat) :
    (State.noteProgram s d addr seq).spn = s.spn ∧ (State.noteProgram s d addr seq).boot = s.boot ∧
    (State.noteProgram s d addr seq).strs = s.strs ∧ (State.noteProgram s d addr seq).apa = s.apa ∧
    (State.noteProgram s d addr seq).pol = s.pol ∧ (State.noteProgram s d addr seq).hma = s.hma ∧
    (State.noteProgram s d addr seq).cme = s.cme ∧ (State.noteProgram s d addr seq).rfg = s.rfg ∧
    (State.noteProgram s d addr seq).atr = s.atr ∧ (State.noteProgram s d addr seq).rfu = s.rfu ∧
    (State.noteProgram s d addr seq).cby = s.cby ∧ (State.noteProgram s d addr seq).cru = s.cru ∧
    (State.noteProgram s d addr seq).otp = s.otp ∧ (State.noteProgram s d addr seq).emb = s.emb ∧
    (State.noteProgram s d addr seq).wwu = s.wwu ∧ (State.noteProgram s d addr seq).lgb = s.lgb ∧
    (State.noteProgram s d addr seq).io = s.io ∧ (State.noteProgram s d addr seq).draws = s.draws ∧
    (State.noteProgram s d addr seq).pending = s.pending := by
  simp [State.noteProgram]

/-- State.noteErase writes fit, bde, cme, lgb at most. -/
@[simp] theorem State.noteErase_keeps (s : State) (d size addr seq : Nat) :
    (State.noteErase s d size addr seq).spn = s.spn ∧ (State.noteErase s d size addr seq).boot = s.boot ∧
    (State.noteErase s d size addr seq).strs = s.strs ∧ (State.noteErase s d size addr seq).apa = s.apa ∧
    (State.noteErase s d size addr seq).pol = s.pol ∧ (State.noteErase s d size addr seq).hma = s.hma ∧
    (State.noteErase s d size addr seq).rfg = s.rfg ∧ (State.noteErase s d size addr seq).atr = s.atr ∧
    (State.noteErase s d size addr seq).rfu = s.rfu ∧ (State.noteErase s d size addr seq).cby = s.cby ∧
    (State.noteErase s d size addr seq).cru = s.cru ∧ (State.noteErase s d size addr seq).otp = s.otp ∧
    (State.noteErase s d size addr seq).emb = s.emb ∧ (State.noteErase s d size addr seq).wwu = s.wwu ∧
    (State.noteErase s d size addr seq).io = s.io ∧ (State.noteErase s d size addr seq).draws = s.draws ∧
    (State.noteErase s d size addr seq).pending = s.pending := by
  simp [State.noteErase]

/-- State.asmRoom writes fit at most. -/
@[simp] theorem State.asmRoom_keeps (s : State) (d : Nat) :
    (State.asmRoom s d).spn = s.spn ∧ (State.asmRoom s d).boot = s.boot ∧ (State.asmRoom s d).strs = s.strs ∧
    (State.asmRoom s d).apa = s.apa ∧ (State.asmRoom s d).pol = s.pol ∧ (State.asmRoom s d).bde = s.bde ∧
    (State.asmRoom s d).hma = s.hma ∧ (State.asmRoom s d).cme = s.cme ∧ (State.asmRoom s d).rfg = s.rfg ∧
    (State.asmRoom s d).atr = s.atr ∧ (State.asmRoom s d).rfu = s.rfu ∧ (State.asmRoom s d).cby = s.cby ∧
    (State.asmRoom s d).cru = s.cru ∧ (State.asmRoom s d).otp = s.otp ∧ (State.asmRoom s d).emb = s.emb ∧
    (State.asmRoom s d).wwu = s.wwu ∧ (State.asmRoom s d).lgb = s.lgb ∧ (State.asmRoom s d).io = s.io ∧
    (State.asmRoom s d).draws = s.draws ∧ (State.asmRoom s d).pending = s.pending := by
  unfold State.asmRoom; dsimp only; (repeat' split) <;> simp

/-- State.addChunk writes fit at most. -/
@[simp] theorem State.addChunk_keeps (s : State) (d i c seq : Nat) (data : Bytes) :
    (State.addChunk s d i c seq data).spn = s.spn ∧ (State.addChunk s d i c seq data).boot = s.boot ∧
    (State.addChunk s d i c seq data).strs = s.strs ∧ (State.addChunk s d i c seq data).apa = s.apa ∧
    (State.addChunk s d i c seq data).pol = s.pol ∧ (State.addChunk s d i c seq data).bde = s.bde ∧
    (State.addChunk s d i c seq data).hma = s.hma ∧ (State.addChunk s d i c seq data).cme = s.cme ∧
    (State.addChunk s d i c seq data).rfg = s.rfg ∧ (State.addChunk s d i c seq data).atr = s.atr ∧
    (State.addChunk s d i c seq data).rfu = s.rfu ∧ (State.addChunk s d i c seq data).cby = s.cby ∧
    (State.addChunk s d i c seq data).cru = s.cru ∧ (State.addChunk s d i c seq data).otp = s.otp ∧
    (State.addChunk s d i c seq data).emb = s.emb ∧ (State.addChunk s d i c seq data).wwu = s.wwu ∧
    (State.addChunk s d i c seq data).lgb = s.lgb ∧ (State.addChunk s d i c seq data).io = s.io ∧
    (State.addChunk s d i c seq data).draws = s.draws ∧ (State.addChunk s d i c seq data).pending = s.pending := by
  simp [State.addChunk]

/-- State.drainTaps writes fit, bde at most. -/
@[simp] theorem State.drainTaps_keeps (s : State) :
    (State.drainTaps s).spn = s.spn ∧ (State.drainTaps s).boot = s.boot ∧ (State.drainTaps s).strs = s.strs ∧
    (State.drainTaps s).apa = s.apa ∧ (State.drainTaps s).pol = s.pol ∧ (State.drainTaps s).hma = s.hma ∧
    (State.drainTaps s).cme = s.cme ∧ (State.drainTaps s).rfg = s.rfg ∧ (State.drainTaps s).atr = s.atr ∧
    (State.drainTaps s).rfu = s.rfu ∧ (State.drainTaps s).cby = s.cby ∧ (State.drainTaps s).cru = s.cru ∧
    (State.drainTaps s).otp = s.otp ∧ (State.drainTaps s).emb = s.emb ∧ (State.drainTaps s).wwu = s.wwu ∧
    (State.drainTaps s).lgb = s.lgb ∧ (State.drainTaps s).io = s.io ∧ (State.drainTaps s).draws = s.draws ∧
    (State.drainTaps s).pending = s.pending := by
  simp [State.drainTaps]

/-- State.abandonBlocks writes fit, bde at most. -/
@[simp] theorem State.abandonBlocks_keeps (s : State) (d : Nat) (lost : List Nat) :
    (State.abandonBlocks s d lost).spn = s.spn ∧ (State.abandonBlocks s d lost).boot = s.boot ∧
    (State.abandonBlocks s d lost).strs = s.strs ∧ (State.abandonBlocks s d lost).apa = s.apa ∧
    (State.abandonBlocks s d lost).pol = s.pol ∧ (State.abandonBlocks s d lost).hma = s.hma ∧
    (State.abandonBlocks s d lost).cme = s.cme ∧ (State.abandonBlocks s d lost).rfg = s.rfg ∧
    (State.abandonBlocks s d lost).atr = s.atr ∧ (State.abandonBlocks s d lost).rfu = s.rfu ∧
    (State.abandonBlocks s d lost).cby = s.cby ∧ (State.abandonBlocks s d lost).cru = s.cru ∧
    (State.abandonBlocks s d lost).otp = s.otp ∧ (State.abandonBlocks s d lost).emb = s.emb ∧
    (State.abandonBlocks s d lost).wwu = s.wwu ∧ (State.abandonBlocks s d lost).lgb = s.lgb ∧
    (State.abandonBlocks s d lost).io = s.io ∧ (State.abandonBlocks s d lost).draws = s.draws ∧
    (State.abandonBlocks s d lost).pending = s.pending := by
  simp [State.abandonBlocks]

/-- State.snoop writes fit, bde at most. -/
@[simp] theorem State.snoop_keeps (s : State) (d addr seq : Nat) (data : Bytes) :
    (State.snoop s d addr seq data).spn = s.spn ∧ (State.snoop s d addr seq data).boot = s.boot ∧
    (State.snoop s d addr seq data).strs = s.strs ∧ (State.snoop s d addr seq data).apa = s.apa ∧
    (State.snoop s d addr seq data).pol = s.pol ∧ (State.snoop s d addr seq data).hma = s.hma ∧
    (State.snoop s d addr seq data).cme = s.cme ∧ (State.snoop s d addr seq data).rfg = s.rfg ∧
    (State.snoop s d addr seq data).atr = s.atr ∧ (State.snoop s d addr seq data).rfu = s.rfu ∧
    (State.snoop s d addr seq data).cby = s.cby ∧ (State.snoop s d addr seq data).cru = s.cru ∧
    (State.snoop s d addr seq data).otp = s.otp ∧ (State.snoop s d addr seq data).emb = s.emb ∧
    (State.snoop s d addr seq data).wwu = s.wwu ∧ (State.snoop s d addr seq data).lgb = s.lgb ∧
    (State.snoop s d addr seq data).io = s.io ∧ (State.snoop s d addr seq data).draws = s.draws ∧
    (State.snoop s d addr seq data).pending = s.pending := by
  simp [State.snoop]

/-- State.countIn writes rfg at most. -/
@[simp] theorem State.countIn_keeps (s : State) (id q : Nat) (f : QCount → QCount) :
    (State.countIn s id q f).spn = s.spn ∧ (State.countIn s id q f).boot = s.boot ∧ (State.countIn s id q f).strs = s.strs ∧
    (State.countIn s id q f).apa = s.apa ∧ (State.countIn s id q f).pol = s.pol ∧ (State.countIn s id q f).fit = s.fit ∧
    (State.countIn s id q f).bde = s.bde ∧ (State.countIn s id q f).hma = s.hma ∧ (State.countIn s id q f).cme = s.cme ∧
    (State.countIn s id q f).atr = s.atr ∧ (State.countIn s id q f).rfu = s.rfu ∧ (State.countIn s id q f).cby = s.cby ∧
    (State.countIn s id q f).cru = s.cru ∧ (State.countIn s id q f).otp = s.otp ∧ (State.countIn s id q f).emb = s.emb ∧
    (State.countIn s id q f).wwu = s.wwu ∧ (State.countIn s id q f).lgb = s.lgb ∧ (State.countIn s id q f).io = s.io ∧
    (State.countIn s id q f).draws = s.draws ∧ (State.countIn s id q f).pending = s.pending := by
  simp [State.countIn]

/-- State.openPeriod writes rfg at most. -/
@[simp] theorem State.openPeriod_keeps (s : State) (cfg : Bytes) (flags : Nat) :
    (State.openPeriod s cfg flags).spn = s.spn ∧ (State.openPeriod s cfg flags).boot = s.boot ∧
    (State.openPeriod s cfg flags).strs = s.strs ∧ (State.openPeriod s cfg flags).apa = s.apa ∧
    (State.openPeriod s cfg flags).pol = s.pol ∧ (State.openPeriod s cfg flags).fit = s.fit ∧
    (State.openPeriod s cfg flags).bde = s.bde ∧ (State.openPeriod s cfg flags).hma = s.hma ∧
    (State.openPeriod s cfg flags).cme = s.cme ∧ (State.openPeriod s cfg flags).atr = s.atr ∧
    (State.openPeriod s cfg flags).rfu = s.rfu ∧ (State.openPeriod s cfg flags).cby = s.cby ∧
    (State.openPeriod s cfg flags).cru = s.cru ∧ (State.openPeriod s cfg flags).otp = s.otp ∧
    (State.openPeriod s cfg flags).emb = s.emb ∧ (State.openPeriod s cfg flags).wwu = s.wwu ∧
    (State.openPeriod s cfg flags).lgb = s.lgb ∧ (State.openPeriod s cfg flags).io = s.io ∧
    (State.openPeriod s cfg flags).draws = s.draws ∧ (State.openPeriod s cfg flags).pending = s.pending := by
  simp [State.openPeriod]

/-- State.extendPeriod writes cme, rfg, lgb at most. -/
@[simp] theorem State.extendPeriod_keeps (s : State) (p : Period) (flags : Nat) :
    (State.extendPeriod s p flags).spn = s.spn ∧ (State.extendPeriod s p flags).boot = s.boot ∧
    (State.extendPeriod s p flags).strs = s.strs ∧ (State.extendPeriod s p flags).apa = s.apa ∧
    (State.extendPeriod s p flags).pol = s.pol ∧ (State.extendPeriod s p flags).fit = s.fit ∧
    (State.extendPeriod s p flags).bde = s.bde ∧ (State.extendPeriod s p flags).hma = s.hma ∧
    (State.extendPeriod s p flags).atr = s.atr ∧ (State.extendPeriod s p flags).rfu = s.rfu ∧
    (State.extendPeriod s p flags).cby = s.cby ∧ (State.extendPeriod s p flags).cru = s.cru ∧
    (State.extendPeriod s p flags).otp = s.otp ∧ (State.extendPeriod s p flags).emb = s.emb ∧
    (State.extendPeriod s p flags).wwu = s.wwu ∧ (State.extendPeriod s p flags).io = s.io ∧
    (State.extendPeriod s p flags).draws = s.draws ∧ (State.extendPeriod s p flags).pending = s.pending := by
  simp [State.extendPeriod]

/-- State.closePeriod writes cme, rfg, lgb at most. -/
@[simp] theorem State.closePeriod_keeps (s : State) (flags : Nat) :
    (State.closePeriod s flags).spn = s.spn ∧ (State.closePeriod s flags).boot = s.boot ∧
    (State.closePeriod s flags).strs = s.strs ∧ (State.closePeriod s flags).apa = s.apa ∧
    (State.closePeriod s flags).pol = s.pol ∧ (State.closePeriod s flags).fit = s.fit ∧
    (State.closePeriod s flags).bde = s.bde ∧ (State.closePeriod s flags).hma = s.hma ∧
    (State.closePeriod s flags).atr = s.atr ∧ (State.closePeriod s flags).rfu = s.rfu ∧
    (State.closePeriod s flags).cby = s.cby ∧ (State.closePeriod s flags).cru = s.cru ∧
    (State.closePeriod s flags).otp = s.otp ∧ (State.closePeriod s flags).emb = s.emb ∧
    (State.closePeriod s flags).wwu = s.wwu ∧ (State.closePeriod s flags).io = s.io ∧
    (State.closePeriod s flags).draws = s.draws ∧ (State.closePeriod s flags).pending = s.pending := by
  unfold State.closePeriod; dsimp only; (repeat' split) <;> simp

/-- State.startPeriod_ writes rfg at most. -/
@[simp] theorem State.startPeriod__keeps (s : State) :
    (State.startPeriod_ s).spn = s.spn ∧ (State.startPeriod_ s).boot = s.boot ∧ (State.startPeriod_ s).strs = s.strs ∧
    (State.startPeriod_ s).apa = s.apa ∧ (State.startPeriod_ s).pol = s.pol ∧ (State.startPeriod_ s).fit = s.fit ∧
    (State.startPeriod_ s).bde = s.bde ∧ (State.startPeriod_ s).hma = s.hma ∧ (State.startPeriod_ s).cme = s.cme ∧
    (State.startPeriod_ s).atr = s.atr ∧ (State.startPeriod_ s).rfu = s.rfu ∧ (State.startPeriod_ s).cby = s.cby ∧
    (State.startPeriod_ s).cru = s.cru ∧ (State.startPeriod_ s).otp = s.otp ∧ (State.startPeriod_ s).emb = s.emb ∧
    (State.startPeriod_ s).wwu = s.wwu ∧ (State.startPeriod_ s).lgb = s.lgb ∧ (State.startPeriod_ s).io = s.io ∧
    (State.startPeriod_ s).draws = s.draws ∧ (State.startPeriod_ s).pending = s.pending := by
  unfold State.startPeriod_; (repeat' split) <;> (try dsimp only) <;> (repeat' split) <;> simp

/-- State.closeQuenched writes cme, rfg, lgb at most. -/
@[simp] theorem State.closeQuenched_keeps (s : State) :
    (State.closeQuenched s).spn = s.spn ∧ (State.closeQuenched s).boot = s.boot ∧ (State.closeQuenched s).strs = s.strs ∧
    (State.closeQuenched s).apa = s.apa ∧ (State.closeQuenched s).pol = s.pol ∧ (State.closeQuenched s).fit = s.fit ∧
    (State.closeQuenched s).bde = s.bde ∧ (State.closeQuenched s).hma = s.hma ∧ (State.closeQuenched s).atr = s.atr ∧
    (State.closeQuenched s).rfu = s.rfu ∧ (State.closeQuenched s).cby = s.cby ∧ (State.closeQuenched s).cru = s.cru ∧
    (State.closeQuenched s).otp = s.otp ∧ (State.closeQuenched s).emb = s.emb ∧ (State.closeQuenched s).wwu = s.wwu ∧
    (State.closeQuenched s).io = s.io ∧ (State.closeQuenched s).draws = s.draws ∧
    (State.closeQuenched s).pending = s.pending := by
  simp [State.closeQuenched]

/-- State.meterStep writes cme, rfg, lgb at most. -/
@[simp] theorem State.meterStep_keeps (s : State) (backward : Bool) :
    (State.meterStep s backward).spn = s.spn ∧ (State.meterStep s backward).boot = s.boot ∧
    (State.meterStep s backward).strs = s.strs ∧ (State.meterStep s backward).apa = s.apa ∧
    (State.meterStep s backward).pol = s.pol ∧ (State.meterStep s backward).fit = s.fit ∧
    (State.meterStep s backward).bde = s.bde ∧ (State.meterStep s backward).hma = s.hma ∧
    (State.meterStep s backward).atr = s.atr ∧ (State.meterStep s backward).rfu = s.rfu ∧
    (State.meterStep s backward).cby = s.cby ∧ (State.meterStep s backward).cru = s.cru ∧
    (State.meterStep s backward).otp = s.otp ∧ (State.meterStep s backward).emb = s.emb ∧
    (State.meterStep s backward).wwu = s.wwu ∧ (State.meterStep s backward).io = s.io ∧
    (State.meterStep s backward).draws = s.draws ∧ (State.meterStep s backward).pending = s.pending := by
  unfold State.meterStep; dsimp only; (repeat' split) <;> simp

/-- State.keepRecord writes rfg at most. -/
@[simp] theorem State.keepRecord_keeps (s : State) (id : Nat) (record : Bytes) (unsigned : Bool) :
    (State.keepRecord s id record unsigned).spn = s.spn ∧ (State.keepRecord s id record unsigned).boot = s.boot ∧
    (State.keepRecord s id record unsigned).strs = s.strs ∧ (State.keepRecord s id record unsigned).apa = s.apa ∧
    (State.keepRecord s id record unsigned).pol = s.pol ∧ (State.keepRecord s id record unsigned).fit = s.fit ∧
    (State.keepRecord s id record unsigned).bde = s.bde ∧ (State.keepRecord s id record unsigned).hma = s.hma ∧
    (State.keepRecord s id record unsigned).cme = s.cme ∧ (State.keepRecord s id record unsigned).atr = s.atr ∧
    (State.keepRecord s id record unsigned).rfu = s.rfu ∧ (State.keepRecord s id record unsigned).cby = s.cby ∧
    (State.keepRecord s id record unsigned).cru = s.cru ∧ (State.keepRecord s id record unsigned).otp = s.otp ∧
    (State.keepRecord s id record unsigned).emb = s.emb ∧ (State.keepRecord s id record unsigned).wwu = s.wwu ∧
    (State.keepRecord s id record unsigned).lgb = s.lgb ∧ (State.keepRecord s id record unsigned).io = s.io ∧
    (State.keepRecord s id record unsigned).draws = s.draws ∧ (State.keepRecord s id record unsigned).pending = s.pending := by
  simp [State.keepRecord]

/-- State.finishPeriod writes rfg, draws at most. -/
@[simp] theorem State.finishPeriod_keeps (s : State) (id : Nat) :
    (State.finishPeriod s id).spn = s.spn ∧ (State.finishPeriod s id).boot = s.boot ∧
    (State.finishPeriod s id).strs = s.strs ∧ (State.finishPeriod s id).apa = s.apa ∧ (State.finishPeriod s id).pol = s.pol ∧
    (State.finishPeriod s id).fit = s.fit ∧ (State.finishPeriod s id).bde = s.bde ∧ (State.finishPeriod s id).hma = s.hma ∧
    (State.finishPeriod s id).cme = s.cme ∧ (State.finishPeriod s id).atr = s.atr ∧ (State.finishPeriod s id).rfu = s.rfu ∧
    (State.finishPeriod s id).cby = s.cby ∧ (State.finishPeriod s id).cru = s.cru ∧ (State.finishPeriod s id).otp = s.otp ∧
    (State.finishPeriod s id).emb = s.emb ∧ (State.finishPeriod s id).wwu = s.wwu ∧ (State.finishPeriod s id).lgb = s.lgb ∧
    (State.finishPeriod s id).io = s.io ∧ (State.finishPeriod s id).pending = s.pending := by
  unfold State.finishPeriod; dsimp only; (repeat' split) <;> simp

/-- State.receiptWall writes rfg at most. -/
@[simp] theorem State.receiptWall_keeps (s : State) :
    (State.receiptWall s).2.2.spn = s.spn ∧ (State.receiptWall s).2.2.boot = s.boot ∧
    (State.receiptWall s).2.2.strs = s.strs ∧ (State.receiptWall s).2.2.apa = s.apa ∧ (State.receiptWall s).2.2.pol = s.pol ∧
    (State.receiptWall s).2.2.fit = s.fit ∧ (State.receiptWall s).2.2.bde = s.bde ∧ (State.receiptWall s).2.2.hma = s.hma ∧
    (State.receiptWall s).2.2.cme = s.cme ∧ (State.receiptWall s).2.2.atr = s.atr ∧ (State.receiptWall s).2.2.rfu = s.rfu ∧
    (State.receiptWall s).2.2.cby = s.cby ∧ (State.receiptWall s).2.2.cru = s.cru ∧ (State.receiptWall s).2.2.otp = s.otp ∧
    (State.receiptWall s).2.2.emb = s.emb ∧ (State.receiptWall s).2.2.wwu = s.wwu ∧ (State.receiptWall s).2.2.lgb = s.lgb ∧
    (State.receiptWall s).2.2.io = s.io ∧ (State.receiptWall s).2.2.draws = s.draws ∧
    (State.receiptWall s).2.2.pending = s.pending := by
  unfold State.receiptWall; dsimp only; (repeat' split) <;> simp

/-- State.logVoid writes lgb at most. -/
@[simp] theorem State.logVoid_keeps (s : State) (queue seq status : Nat) :
    (State.logVoid s queue seq status).spn = s.spn ∧ (State.logVoid s queue seq status).boot = s.boot ∧
    (State.logVoid s queue seq status).strs = s.strs ∧ (State.logVoid s queue seq status).apa = s.apa ∧
    (State.logVoid s queue seq status).pol = s.pol ∧ (State.logVoid s queue seq status).fit = s.fit ∧
    (State.logVoid s queue seq status).bde = s.bde ∧ (State.logVoid s queue seq status).hma = s.hma ∧
    (State.logVoid s queue seq status).cme = s.cme ∧ (State.logVoid s queue seq status).rfg = s.rfg ∧
    (State.logVoid s queue seq status).atr = s.atr ∧ (State.logVoid s queue seq status).rfu = s.rfu ∧
    (State.logVoid s queue seq status).cby = s.cby ∧ (State.logVoid s queue seq status).cru = s.cru ∧
    (State.logVoid s queue seq status).otp = s.otp ∧ (State.logVoid s queue seq status).emb = s.emb ∧
    (State.logVoid s queue seq status).wwu = s.wwu ∧ (State.logVoid s queue seq status).io = s.io ∧
    (State.logVoid s queue seq status).draws = s.draws ∧ (State.logVoid s queue seq status).pending = s.pending := by
  simp [State.logVoid]

/-- State.voidReceipt writes cme, rfg, lgb at most. -/
@[simp] theorem State.voidReceipt_keeps (s : State) (b : Building) (status : Nat) :
    (State.voidReceipt s b status).spn = s.spn ∧ (State.voidReceipt s b status).boot = s.boot ∧
    (State.voidReceipt s b status).strs = s.strs ∧ (State.voidReceipt s b status).apa = s.apa ∧
    (State.voidReceipt s b status).pol = s.pol ∧ (State.voidReceipt s b status).fit = s.fit ∧
    (State.voidReceipt s b status).bde = s.bde ∧ (State.voidReceipt s b status).hma = s.hma ∧
    (State.voidReceipt s b status).atr = s.atr ∧ (State.voidReceipt s b status).rfu = s.rfu ∧
    (State.voidReceipt s b status).cby = s.cby ∧ (State.voidReceipt s b status).cru = s.cru ∧
    (State.voidReceipt s b status).otp = s.otp ∧ (State.voidReceipt s b status).emb = s.emb ∧
    (State.voidReceipt s b status).wwu = s.wwu ∧ (State.voidReceipt s b status).io = s.io ∧
    (State.voidReceipt s b status).draws = s.draws ∧ (State.voidReceipt s b status).pending = s.pending := by
  simp [State.voidReceipt]

/-- State.unissue writes rfg, lgb at most. -/
@[simp] theorem State.unissue_keeps (s : State) (i : Issue) :
    (State.unissue s i).spn = s.spn ∧ (State.unissue s i).boot = s.boot ∧ (State.unissue s i).strs = s.strs ∧
    (State.unissue s i).apa = s.apa ∧ (State.unissue s i).pol = s.pol ∧ (State.unissue s i).fit = s.fit ∧
    (State.unissue s i).bde = s.bde ∧ (State.unissue s i).hma = s.hma ∧ (State.unissue s i).cme = s.cme ∧
    (State.unissue s i).atr = s.atr ∧ (State.unissue s i).rfu = s.rfu ∧ (State.unissue s i).cby = s.cby ∧
    (State.unissue s i).cru = s.cru ∧ (State.unissue s i).otp = s.otp ∧ (State.unissue s i).emb = s.emb ∧
    (State.unissue s i).wwu = s.wwu ∧ (State.unissue s i).io = s.io ∧ (State.unissue s i).draws = s.draws ∧
    (State.unissue s i).pending = s.pending := by
  simp [State.unissue]

/-- State.voidAll writes cme, rfg, lgb at most. -/
@[simp] theorem State.voidAll_keeps (s : State) :
    (State.voidAll s).spn = s.spn ∧ (State.voidAll s).boot = s.boot ∧ (State.voidAll s).strs = s.strs ∧
    (State.voidAll s).apa = s.apa ∧ (State.voidAll s).pol = s.pol ∧ (State.voidAll s).fit = s.fit ∧
    (State.voidAll s).bde = s.bde ∧ (State.voidAll s).hma = s.hma ∧ (State.voidAll s).atr = s.atr ∧
    (State.voidAll s).rfu = s.rfu ∧ (State.voidAll s).cby = s.cby ∧ (State.voidAll s).cru = s.cru ∧
    (State.voidAll s).otp = s.otp ∧ (State.voidAll s).emb = s.emb ∧ (State.voidAll s).wwu = s.wwu ∧
    (State.voidAll s).io = s.io ∧ (State.voidAll s).draws = s.draws ∧ (State.voidAll s).pending = s.pending := by
  simp [State.voidAll]

/-- State.issueReceipt writes cme, rfg, lgb at most. -/
@[simp] theorem State.issueReceipt_keeps (s : State) (b : Building) :
    (State.issueReceipt s b).spn = s.spn ∧ (State.issueReceipt s b).boot = s.boot ∧ (State.issueReceipt s b).strs = s.strs ∧
    (State.issueReceipt s b).apa = s.apa ∧ (State.issueReceipt s b).pol = s.pol ∧ (State.issueReceipt s b).fit = s.fit ∧
    (State.issueReceipt s b).bde = s.bde ∧ (State.issueReceipt s b).hma = s.hma ∧ (State.issueReceipt s b).atr = s.atr ∧
    (State.issueReceipt s b).rfu = s.rfu ∧ (State.issueReceipt s b).cby = s.cby ∧ (State.issueReceipt s b).cru = s.cru ∧
    (State.issueReceipt s b).otp = s.otp ∧ (State.issueReceipt s b).emb = s.emb ∧ (State.issueReceipt s b).wwu = s.wwu ∧
    (State.issueReceipt s b).io = s.io ∧ (State.issueReceipt s b).draws = s.draws ∧
    (State.issueReceipt s b).pending = s.pending := by
  simp [State.issueReceipt]

/-- State.receiptSigned writes cme, rfg, lgb, draws at most. -/
@[simp] theorem State.receiptSigned_keeps (s : State) (id op : Nat) (deprived : Bool) :
    (State.receiptSigned s id op deprived).spn = s.spn ∧ (State.receiptSigned s id op deprived).boot = s.boot ∧
    (State.receiptSigned s id op deprived).strs = s.strs ∧ (State.receiptSigned s id op deprived).apa = s.apa ∧
    (State.receiptSigned s id op deprived).pol = s.pol ∧ (State.receiptSigned s id op deprived).fit = s.fit ∧
    (State.receiptSigned s id op deprived).bde = s.bde ∧ (State.receiptSigned s id op deprived).hma = s.hma ∧
    (State.receiptSigned s id op deprived).atr = s.atr ∧ (State.receiptSigned s id op deprived).rfu = s.rfu ∧
    (State.receiptSigned s id op deprived).cby = s.cby ∧ (State.receiptSigned s id op deprived).cru = s.cru ∧
    (State.receiptSigned s id op deprived).otp = s.otp ∧ (State.receiptSigned s id op deprived).emb = s.emb ∧
    (State.receiptSigned s id op deprived).wwu = s.wwu ∧ (State.receiptSigned s id op deprived).io = s.io ∧
    (State.receiptSigned s id op deprived).pending = s.pending := by
  unfold State.receiptSigned; dsimp only; (repeat' split) <;> simp

/-- State.snapshot writes spn, hma, cme, rfg, cru, lgb at most. -/
@[simp] theorem State.snapshot_keeps (s : State) (h : Hdr) (a : Ask) :
    (State.snapshot s h a).boot = s.boot ∧ (State.snapshot s h a).strs = s.strs ∧ (State.snapshot s h a).apa = s.apa ∧
    (State.snapshot s h a).pol = s.pol ∧ (State.snapshot s h a).fit = s.fit ∧ (State.snapshot s h a).bde = s.bde ∧
    (State.snapshot s h a).atr = s.atr ∧ (State.snapshot s h a).rfu = s.rfu ∧ (State.snapshot s h a).cby = s.cby ∧
    (State.snapshot s h a).otp = s.otp ∧ (State.snapshot s h a).emb = s.emb ∧ (State.snapshot s h a).wwu = s.wwu ∧
    (State.snapshot s h a).io = s.io ∧ (State.snapshot s h a).draws = s.draws ∧ (State.snapshot s h a).pending = s.pending := by
  simp [State.snapshot]

/-- State.startReceipt writes spn, hma, cme, rfg, cru, lgb at most. -/
@[simp] theorem State.startReceipt_keeps (s : State) (h : Hdr) (a : Ask) (outSize : Nat) :
    (State.startReceipt s h a outSize).2.boot = s.boot ∧ (State.startReceipt s h a outSize).2.strs = s.strs ∧
    (State.startReceipt s h a outSize).2.apa = s.apa ∧ (State.startReceipt s h a outSize).2.pol = s.pol ∧
    (State.startReceipt s h a outSize).2.fit = s.fit ∧ (State.startReceipt s h a outSize).2.bde = s.bde ∧
    (State.startReceipt s h a outSize).2.atr = s.atr ∧ (State.startReceipt s h a outSize).2.rfu = s.rfu ∧
    (State.startReceipt s h a outSize).2.cby = s.cby ∧ (State.startReceipt s h a outSize).2.otp = s.otp ∧
    (State.startReceipt s h a outSize).2.emb = s.emb ∧ (State.startReceipt s h a outSize).2.wwu = s.wwu ∧
    (State.startReceipt s h a outSize).2.io = s.io ∧ (State.startReceipt s h a outSize).2.draws = s.draws ∧
    (State.startReceipt s h a outSize).2.pending = s.pending := by
  unfold State.startReceipt; dsimp only; (repeat' split) <;> simp

/-- State.writeCheckpoint writes rfg at most. -/
@[simp] theorem State.writeCheckpoint_keeps (s : State) :
    (State.writeCheckpoint s).spn = s.spn ∧ (State.writeCheckpoint s).boot = s.boot ∧
    (State.writeCheckpoint s).strs = s.strs ∧ (State.writeCheckpoint s).apa = s.apa ∧ (State.writeCheckpoint s).pol = s.pol ∧
    (State.writeCheckpoint s).fit = s.fit ∧ (State.writeCheckpoint s).bde = s.bde ∧ (State.writeCheckpoint s).hma = s.hma ∧
    (State.writeCheckpoint s).cme = s.cme ∧ (State.writeCheckpoint s).atr = s.atr ∧ (State.writeCheckpoint s).rfu = s.rfu ∧
    (State.writeCheckpoint s).cby = s.cby ∧ (State.writeCheckpoint s).cru = s.cru ∧ (State.writeCheckpoint s).otp = s.otp ∧
    (State.writeCheckpoint s).emb = s.emb ∧ (State.writeCheckpoint s).wwu = s.wwu ∧ (State.writeCheckpoint s).lgb = s.lgb ∧
    (State.writeCheckpoint s).io = s.io ∧ (State.writeCheckpoint s).draws = s.draws ∧
    (State.writeCheckpoint s).pending = s.pending := by
  simp [State.writeCheckpoint]

/-- State.forgeStart writes rfg, atr at most. -/
@[simp] theorem State.forgeStart_keeps (s : State) :
    (State.forgeStart s).spn = s.spn ∧ (State.forgeStart s).boot = s.boot ∧ (State.forgeStart s).strs = s.strs ∧
    (State.forgeStart s).apa = s.apa ∧ (State.forgeStart s).pol = s.pol ∧ (State.forgeStart s).fit = s.fit ∧
    (State.forgeStart s).bde = s.bde ∧ (State.forgeStart s).hma = s.hma ∧ (State.forgeStart s).cme = s.cme ∧
    (State.forgeStart s).rfu = s.rfu ∧ (State.forgeStart s).cby = s.cby ∧ (State.forgeStart s).cru = s.cru ∧
    (State.forgeStart s).otp = s.otp ∧ (State.forgeStart s).emb = s.emb ∧ (State.forgeStart s).wwu = s.wwu ∧
    (State.forgeStart s).lgb = s.lgb ∧ (State.forgeStart s).io = s.io ∧ (State.forgeStart s).draws = s.draws ∧
    (State.forgeStart s).pending = s.pending := by
  simp [State.forgeStart]

end Sys2Proof.Machine
end

