-- ==== Sys2Proof/Laws/Frames3.lean ====
section
/-! SUPPORT. Which fields of the state the operations of Hammer, BootChecks, ReforgeOps, Cartridge, FlashPath, Ports, Scans, Slots leave as they were. -/
namespace Sys2Proof.Machine

/-- State.lmsReply writes rfg at most. -/
@[simp] theorem State.lmsReply_keeps (s : State) (h : Hdr) (input : Bytes) (outAt : Nat) :
    (State.lmsReply s h input outAt).2.spn = s.spn ∧ (State.lmsReply s h input outAt).2.boot = s.boot ∧
    (State.lmsReply s h input outAt).2.strs = s.strs ∧ (State.lmsReply s h input outAt).2.apa = s.apa ∧
    (State.lmsReply s h input outAt).2.pol = s.pol ∧ (State.lmsReply s h input outAt).2.fit = s.fit ∧
    (State.lmsReply s h input outAt).2.bde = s.bde ∧ (State.lmsReply s h input outAt).2.hma = s.hma ∧
    (State.lmsReply s h input outAt).2.cme = s.cme ∧ (State.lmsReply s h input outAt).2.atr = s.atr ∧
    (State.lmsReply s h input outAt).2.rfu = s.rfu ∧ (State.lmsReply s h input outAt).2.cby = s.cby ∧
    (State.lmsReply s h input outAt).2.cru = s.cru ∧ (State.lmsReply s h input outAt).2.otp = s.otp ∧
    (State.lmsReply s h input outAt).2.emb = s.emb ∧ (State.lmsReply s h input outAt).2.wwu = s.wwu ∧
    (State.lmsReply s h input outAt).2.lgb = s.lgb ∧ (State.lmsReply s h input outAt).2.io = s.io ∧
    (State.lmsReply s h input outAt).2.draws = s.draws ∧ (State.lmsReply s h input outAt).2.pending = s.pending := by
  simp [State.lmsReply]

/-- State.serveLms writes bde, cme, rfg at most. -/
@[simp] theorem State.serveLms_keeps (s : State) :
    (State.serveLms s).spn = s.spn ∧ (State.serveLms s).boot = s.boot ∧ (State.serveLms s).strs = s.strs ∧
    (State.serveLms s).apa = s.apa ∧ (State.serveLms s).pol = s.pol ∧ (State.serveLms s).fit = s.fit ∧
    (State.serveLms s).hma = s.hma ∧ (State.serveLms s).atr = s.atr ∧ (State.serveLms s).rfu = s.rfu ∧
    (State.serveLms s).cby = s.cby ∧ (State.serveLms s).cru = s.cru ∧ (State.serveLms s).otp = s.otp ∧
    (State.serveLms s).emb = s.emb ∧ (State.serveLms s).wwu = s.wwu ∧ (State.serveLms s).lgb = s.lgb ∧
    (State.serveLms s).io = s.io ∧ (State.serveLms s).draws = s.draws ∧ (State.serveLms s).pending = s.pending := by
  simp [State.serveLms]

/-- State.opRefused writes spn, cme, rfg, lgb at most. -/
@[simp] theorem State.opRefused_keeps (s : State) (o : HOp) (status : Nat) :
    (State.opRefused s o status).boot = s.boot ∧ (State.opRefused s o status).strs = s.strs ∧
    (State.opRefused s o status).apa = s.apa ∧ (State.opRefused s o status).pol = s.pol ∧
    (State.opRefused s o status).fit = s.fit ∧ (State.opRefused s o status).bde = s.bde ∧
    (State.opRefused s o status).hma = s.hma ∧ (State.opRefused s o status).atr = s.atr ∧
    (State.opRefused s o status).rfu = s.rfu ∧ (State.opRefused s o status).cby = s.cby ∧
    (State.opRefused s o status).cru = s.cru ∧ (State.opRefused s o status).otp = s.otp ∧
    (State.opRefused s o status).emb = s.emb ∧ (State.opRefused s o status).wwu = s.wwu ∧
    (State.opRefused s o status).io = s.io ∧ (State.opRefused s o status).draws = s.draws ∧
    (State.opRefused s o status).pending = s.pending := by
  unfold State.opRefused; (repeat' split) <;> (try dsimp only) <;> (repeat' split) <;> simp

/-- State.refuseAll writes spn, hma, cme, rfg, lgb at most. -/
@[simp] theorem State.refuseAll_keeps (s : State) :
    (State.refuseAll s).boot = s.boot ∧ (State.refuseAll s).strs = s.strs ∧ (State.refuseAll s).apa = s.apa ∧
    (State.refuseAll s).pol = s.pol ∧ (State.refuseAll s).fit = s.fit ∧ (State.refuseAll s).bde = s.bde ∧
    (State.refuseAll s).atr = s.atr ∧ (State.refuseAll s).rfu = s.rfu ∧ (State.refuseAll s).cby = s.cby ∧
    (State.refuseAll s).cru = s.cru ∧ (State.refuseAll s).otp = s.otp ∧ (State.refuseAll s).emb = s.emb ∧
    (State.refuseAll s).wwu = s.wwu ∧ (State.refuseAll s).io = s.io ∧ (State.refuseAll s).draws = s.draws ∧
    (State.refuseAll s).pending = s.pending := by
  simp [State.refuseAll]

/-- What a row's own work leaves as it was, the end of that work leaves too. -/
theorem State.ownDone_keeps {s t : State} :
    (t.boot = s.boot → (s.ownDone t).boot = s.boot) ∧ (t.strs = s.strs → (s.ownDone t).strs = s.strs) ∧
    (t.apa = s.apa → (s.ownDone t).apa = s.apa) ∧ (t.pol = s.pol → (s.ownDone t).pol = s.pol) ∧
    (t.fit = s.fit → (s.ownDone t).fit = s.fit) ∧ (t.bde = s.bde → (s.ownDone t).bde = s.bde) ∧
    (t.rfu = s.rfu → (s.ownDone t).rfu = s.rfu) ∧ (t.cby = s.cby → (s.ownDone t).cby = s.cby) ∧
    (t.otp = s.otp → (s.ownDone t).otp = s.otp) ∧ (t.emb = s.emb → (s.ownDone t).emb = s.emb) ∧
    (t.wwu = s.wwu → (s.ownDone t).wwu = s.wwu) ∧ (t.io = s.io → (s.ownDone t).io = s.io) ∧
    (t.draws = s.draws → (s.ownDone t).draws = s.draws) ∧ (t.pending = s.pending → (s.ownDone t).pending = s.pending) := by
  unfold State.ownDone; split <;> simp

/-- State.deliverOp writes spn, hma, cme, rfg, lgb, draws at most. -/
@[simp] theorem State.deliverOp_keeps (s : State) (n : Nat) (o : HOp) :
    (State.deliverOp s n o).boot = s.boot ∧ (State.deliverOp s n o).strs = s.strs ∧ (State.deliverOp s n o).apa = s.apa ∧
    (State.deliverOp s n o).pol = s.pol ∧ (State.deliverOp s n o).fit = s.fit ∧ (State.deliverOp s n o).bde = s.bde ∧
    (State.deliverOp s n o).atr = s.atr ∧ (State.deliverOp s n o).rfu = s.rfu ∧ (State.deliverOp s n o).cby = s.cby ∧
    (State.deliverOp s n o).cru = s.cru ∧ (State.deliverOp s n o).otp = s.otp ∧ (State.deliverOp s n o).emb = s.emb ∧
    (State.deliverOp s n o).wwu = s.wwu ∧ (State.deliverOp s n o).io = s.io ∧ (State.deliverOp s n o).pending = s.pending := by
  unfold State.deliverOp; dsimp only; (repeat' split) <;> simp

/-- State.retryOp writes spn, hma, cme, rfg, lgb at most. -/
@[simp] theorem State.retryOp_keeps (s : State) (n : Nat) (o : HOp) :
    (State.retryOp s n o).boot = s.boot ∧ (State.retryOp s n o).strs = s.strs ∧ (State.retryOp s n o).apa = s.apa ∧
    (State.retryOp s n o).pol = s.pol ∧ (State.retryOp s n o).fit = s.fit ∧ (State.retryOp s n o).bde = s.bde ∧
    (State.retryOp s n o).atr = s.atr ∧ (State.retryOp s n o).rfu = s.rfu ∧ (State.retryOp s n o).cby = s.cby ∧
    (State.retryOp s n o).cru = s.cru ∧ (State.retryOp s n o).otp = s.otp ∧ (State.retryOp s n o).emb = s.emb ∧
    (State.retryOp s n o).wwu = s.wwu ∧ (State.retryOp s n o).io = s.io ∧ (State.retryOp s n o).draws = s.draws ∧
    (State.retryOp s n o).pending = s.pending := by
  unfold State.retryOp; dsimp only; (repeat' split) <;> simp

/-- State.opComplete writes spn, hma, cme, rfg, cru, lgb, draws at most. -/
@[simp] theorem State.opComplete_keeps (s : State) (lane : Nat) (holds : Bool) :
    (State.opComplete s lane holds).boot = s.boot ∧ (State.opComplete s lane holds).strs = s.strs ∧
    (State.opComplete s lane holds).apa = s.apa ∧ (State.opComplete s lane holds).pol = s.pol ∧
    (State.opComplete s lane holds).fit = s.fit ∧ (State.opComplete s lane holds).bde = s.bde ∧
    (State.opComplete s lane holds).atr = s.atr ∧ (State.opComplete s lane holds).rfu = s.rfu ∧
    (State.opComplete s lane holds).cby = s.cby ∧ (State.opComplete s lane holds).otp = s.otp ∧
    (State.opComplete s lane holds).emb = s.emb ∧ (State.opComplete s lane holds).wwu = s.wwu ∧
    (State.opComplete s lane holds).io = s.io ∧ (State.opComplete s lane holds).pending = s.pending := by
  unfold State.opComplete; dsimp only; (repeat' split) <;> simp

/-- State.refillDone writes spn, hma, cme, rfg, cru, lgb at most. -/
@[simp] theorem State.refillDone_keeps (s : State) (lane : Nat) (holds : Bool) :
    (State.refillDone s lane holds).boot = s.boot ∧ (State.refillDone s lane holds).strs = s.strs ∧
    (State.refillDone s lane holds).apa = s.apa ∧ (State.refillDone s lane holds).pol = s.pol ∧
    (State.refillDone s lane holds).fit = s.fit ∧ (State.refillDone s lane holds).bde = s.bde ∧
    (State.refillDone s lane holds).atr = s.atr ∧ (State.refillDone s lane holds).rfu = s.rfu ∧
    (State.refillDone s lane holds).cby = s.cby ∧ (State.refillDone s lane holds).otp = s.otp ∧
    (State.refillDone s lane holds).emb = s.emb ∧ (State.refillDone s lane holds).wwu = s.wwu ∧
    (State.refillDone s lane holds).io = s.io ∧ (State.refillDone s lane holds).draws = s.draws ∧
    (State.refillDone s lane holds).pending = s.pending := by
  unfold State.refillDone; dsimp only; (repeat' split) <;> simp

/-- State.testDone writes spn, hma, cme, rfg, cru, lgb at most. -/
@[simp] theorem State.testDone_keeps (s : State) (lane : Nat) (passed : Bool) :
    (State.testDone s lane passed).boot = s.boot ∧ (State.testDone s lane passed).strs = s.strs ∧
    (State.testDone s lane passed).apa = s.apa ∧ (State.testDone s lane passed).pol = s.pol ∧
    (State.testDone s lane passed).fit = s.fit ∧ (State.testDone s lane passed).bde = s.bde ∧
    (State.testDone s lane passed).atr = s.atr ∧ (State.testDone s lane passed).rfu = s.rfu ∧
    (State.testDone s lane passed).cby = s.cby ∧ (State.testDone s lane passed).otp = s.otp ∧
    (State.testDone s lane passed).emb = s.emb ∧ (State.testDone s lane passed).wwu = s.wwu ∧
    (State.testDone s lane passed).io = s.io ∧ (State.testDone s lane passed).draws = s.draws ∧
    (State.testDone s lane passed).pending = s.pending := by
  unfold State.testDone; dsimp only; (repeat' split) <;> simp

/-- State.promotionDone writes spn, hma, cme, cru, lgb at most. -/
@[simp] theorem State.promotionDone_keeps (s : State) (lane : Nat) (passed : Bool) :
    (State.promotionDone s lane passed).boot = s.boot ∧ (State.promotionDone s lane passed).strs = s.strs ∧
    (State.promotionDone s lane passed).apa = s.apa ∧ (State.promotionDone s lane passed).pol = s.pol ∧
    (State.promotionDone s lane passed).fit = s.fit ∧ (State.promotionDone s lane passed).bde = s.bde ∧
    (State.promotionDone s lane passed).rfg = s.rfg ∧ (State.promotionDone s lane passed).atr = s.atr ∧
    (State.promotionDone s lane passed).rfu = s.rfu ∧ (State.promotionDone s lane passed).cby = s.cby ∧
    (State.promotionDone s lane passed).otp = s.otp ∧ (State.promotionDone s lane passed).emb = s.emb ∧
    (State.promotionDone s lane passed).wwu = s.wwu ∧ (State.promotionDone s lane passed).io = s.io ∧
    (State.promotionDone s lane passed).draws = s.draws ∧ (State.promotionDone s lane passed).pending = s.pending := by
  simp [State.promotionDone]

/-- State.refuseRandom writes spn, hma, cme, rfg, cru, lgb at most. -/
@[simp] theorem State.refuseRandom_keeps (s : State) :
    (State.refuseRandom s).boot = s.boot ∧ (State.refuseRandom s).strs = s.strs ∧ (State.refuseRandom s).apa = s.apa ∧
    (State.refuseRandom s).pol = s.pol ∧ (State.refuseRandom s).fit = s.fit ∧ (State.refuseRandom s).bde = s.bde ∧
    (State.refuseRandom s).atr = s.atr ∧ (State.refuseRandom s).rfu = s.rfu ∧ (State.refuseRandom s).cby = s.cby ∧
    (State.refuseRandom s).otp = s.otp ∧ (State.refuseRandom s).emb = s.emb ∧ (State.refuseRandom s).wwu = s.wwu ∧
    (State.refuseRandom s).io = s.io ∧ (State.refuseRandom s).draws = s.draws ∧ (State.refuseRandom s).pending = s.pending := by
  simp [State.refuseRandom]

/-- State.setBundle writes boot at most. -/
@[simp] theorem State.setBundle_keeps (s : State) (c : Nat) (x : BundleCopy) :
    (State.setBundle s c x).spn = s.spn ∧ (State.setBundle s c x).strs = s.strs ∧ (State.setBundle s c x).apa = s.apa ∧
    (State.setBundle s c x).pol = s.pol ∧ (State.setBundle s c x).fit = s.fit ∧ (State.setBundle s c x).bde = s.bde ∧
    (State.setBundle s c x).hma = s.hma ∧ (State.setBundle s c x).cme = s.cme ∧ (State.setBundle s c x).rfg = s.rfg ∧
    (State.setBundle s c x).atr = s.atr ∧ (State.setBundle s c x).rfu = s.rfu ∧ (State.setBundle s c x).cby = s.cby ∧
    (State.setBundle s c x).cru = s.cru ∧ (State.setBundle s c x).otp = s.otp ∧ (State.setBundle s c x).emb = s.emb ∧
    (State.setBundle s c x).wwu = s.wwu ∧ (State.setBundle s c x).lgb = s.lgb ∧ (State.setBundle s c x).io = s.io ∧
    (State.setBundle s c x).draws = s.draws ∧ (State.setBundle s c x).pending = s.pending := by
  simp [State.setBundle]

/-- State.writeBundle writes boot at most. -/
@[simp] theorem State.writeBundle_keeps (s : State) (c : Nat) (b : Bytes) :
    (State.writeBundle s c b).spn = s.spn ∧ (State.writeBundle s c b).strs = s.strs ∧ (State.writeBundle s c b).apa = s.apa ∧
    (State.writeBundle s c b).pol = s.pol ∧ (State.writeBundle s c b).fit = s.fit ∧ (State.writeBundle s c b).bde = s.bde ∧
    (State.writeBundle s c b).hma = s.hma ∧ (State.writeBundle s c b).cme = s.cme ∧ (State.writeBundle s c b).rfg = s.rfg ∧
    (State.writeBundle s c b).atr = s.atr ∧ (State.writeBundle s c b).rfu = s.rfu ∧ (State.writeBundle s c b).cby = s.cby ∧
    (State.writeBundle s c b).cru = s.cru ∧ (State.writeBundle s c b).otp = s.otp ∧ (State.writeBundle s c b).emb = s.emb ∧
    (State.writeBundle s c b).wwu = s.wwu ∧ (State.writeBundle s c b).lgb = s.lgb ∧ (State.writeBundle s c b).io = s.io ∧
    (State.writeBundle s c b).draws = s.draws ∧ (State.writeBundle s c b).pending = s.pending := by
  simp [State.writeBundle]

/-- State.fillCounter writes otp at most. -/
@[simp] theorem State.fillCounter_keeps (s : State) (w n : Nat) :
    (State.fillCounter s w n).spn = s.spn ∧ (State.fillCounter s w n).boot = s.boot ∧
    (State.fillCounter s w n).strs = s.strs ∧ (State.fillCounter s w n).apa = s.apa ∧ (State.fillCounter s w n).pol = s.pol ∧
    (State.fillCounter s w n).fit = s.fit ∧ (State.fillCounter s w n).bde = s.bde ∧ (State.fillCounter s w n).hma = s.hma ∧
    (State.fillCounter s w n).cme = s.cme ∧ (State.fillCounter s w n).rfg = s.rfg ∧ (State.fillCounter s w n).atr = s.atr ∧
    (State.fillCounter s w n).rfu = s.rfu ∧ (State.fillCounter s w n).cby = s.cby ∧ (State.fillCounter s w n).cru = s.cru ∧
    (State.fillCounter s w n).emb = s.emb ∧ (State.fillCounter s w n).wwu = s.wwu ∧ (State.fillCounter s w n).lgb = s.lgb ∧
    (State.fillCounter s w n).io = s.io ∧ (State.fillCounter s w n).draws = s.draws ∧
    (State.fillCounter s w n).pending = s.pending := by
  simp [State.fillCounter]

/-- State.autoAdvances writes otp at most. -/
@[simp] theorem State.autoAdvances_keeps (s : State) :
    (State.autoAdvances s).spn = s.spn ∧ (State.autoAdvances s).boot = s.boot ∧ (State.autoAdvances s).strs = s.strs ∧
    (State.autoAdvances s).apa = s.apa ∧ (State.autoAdvances s).pol = s.pol ∧ (State.autoAdvances s).fit = s.fit ∧
    (State.autoAdvances s).bde = s.bde ∧ (State.autoAdvances s).hma = s.hma ∧ (State.autoAdvances s).cme = s.cme ∧
    (State.autoAdvances s).rfg = s.rfg ∧ (State.autoAdvances s).atr = s.atr ∧ (State.autoAdvances s).rfu = s.rfu ∧
    (State.autoAdvances s).cby = s.cby ∧ (State.autoAdvances s).cru = s.cru ∧ (State.autoAdvances s).emb = s.emb ∧
    (State.autoAdvances s).wwu = s.wwu ∧ (State.autoAdvances s).lgb = s.lgb ∧ (State.autoAdvances s).io = s.io ∧
    (State.autoAdvances s).draws = s.draws ∧ (State.autoAdvances s).pending = s.pending := by
  simp [State.autoAdvances]

/-- State.imageOperational writes spn, boot, otp at most. -/
@[simp] theorem State.imageOperational_keeps (s : State) :
    (State.imageOperational s).strs = s.strs ∧ (State.imageOperational s).apa = s.apa ∧
    (State.imageOperational s).pol = s.pol ∧ (State.imageOperational s).fit = s.fit ∧
    (State.imageOperational s).bde = s.bde ∧ (State.imageOperational s).hma = s.hma ∧
    (State.imageOperational s).cme = s.cme ∧ (State.imageOperational s).rfg = s.rfg ∧
    (State.imageOperational s).atr = s.atr ∧ (State.imageOperational s).rfu = s.rfu ∧
    (State.imageOperational s).cby = s.cby ∧ (State.imageOperational s).cru = s.cru ∧
    (State.imageOperational s).emb = s.emb ∧ (State.imageOperational s).wwu = s.wwu ∧
    (State.imageOperational s).lgb = s.lgb ∧ (State.imageOperational s).io = s.io ∧
    (State.imageOperational s).draws = s.draws ∧ (State.imageOperational s).pending = s.pending := by
  simp [State.imageOperational]

/-- State.judgeManifest writes hma, cme, lgb at most. -/
@[simp] theorem State.judgeManifest_keeps (s : State) (n d : Nat) (b : Bytes) (verdicts : Nat) :
    (State.judgeManifest s n d b verdicts).2.spn = s.spn ∧ (State.judgeManifest s n d b verdicts).2.boot = s.boot ∧
    (State.judgeManifest s n d b verdicts).2.strs = s.strs ∧ (State.judgeManifest s n d b verdicts).2.apa = s.apa ∧
    (State.judgeManifest s n d b verdicts).2.pol = s.pol ∧ (State.judgeManifest s n d b verdicts).2.fit = s.fit ∧
    (State.judgeManifest s n d b verdicts).2.bde = s.bde ∧ (State.judgeManifest s n d b verdicts).2.rfg = s.rfg ∧
    (State.judgeManifest s n d b verdicts).2.atr = s.atr ∧ (State.judgeManifest s n d b verdicts).2.rfu = s.rfu ∧
    (State.judgeManifest s n d b verdicts).2.cby = s.cby ∧ (State.judgeManifest s n d b verdicts).2.cru = s.cru ∧
    (State.judgeManifest s n d b verdicts).2.otp = s.otp ∧ (State.judgeManifest s n d b verdicts).2.emb = s.emb ∧
    (State.judgeManifest s n d b verdicts).2.wwu = s.wwu ∧ (State.judgeManifest s n d b verdicts).2.io = s.io ∧
    (State.judgeManifest s n d b verdicts).2.draws = s.draws ∧ (State.judgeManifest s n d b verdicts).2.pending = s.pending := by
  unfold State.judgeManifest; dsimp only; (repeat' split) <;> simp

theorem State.judgeManifest_to {s : State} {n d : Nat} {b : Bytes} {verdicts : Nat} {r : (Nat × Option RawManifest)} {t : State} (e : (State.judgeManifest s n d b verdicts) = (r, t)) :
    t.spn = s.spn ∧ t.boot = s.boot ∧ t.strs = s.strs ∧ t.apa = s.apa ∧ t.pol = s.pol ∧ t.fit = s.fit ∧ t.bde = s.bde ∧
    t.rfg = s.rfg ∧ t.atr = s.atr ∧ t.rfu = s.rfu ∧ t.cby = s.cby ∧ t.cru = s.cru ∧ t.otp = s.otp ∧ t.emb = s.emb ∧
    t.wwu = s.wwu ∧ t.io = s.io ∧ t.draws = s.draws ∧ t.pending = s.pending := by
  have k := State.judgeManifest_keeps s n d b verdicts
  rwa [e] at k

/-- State.trimResuming writes rfu at most. -/
@[simp] theorem State.trimResuming_keeps (s : State) :
    (State.trimResuming s).spn = s.spn ∧ (State.trimResuming s).boot = s.boot ∧ (State.trimResuming s).strs = s.strs ∧
    (State.trimResuming s).apa = s.apa ∧ (State.trimResuming s).pol = s.pol ∧ (State.trimResuming s).fit = s.fit ∧
    (State.trimResuming s).bde = s.bde ∧ (State.trimResuming s).hma = s.hma ∧ (State.trimResuming s).cme = s.cme ∧
    (State.trimResuming s).rfg = s.rfg ∧ (State.trimResuming s).atr = s.atr ∧ (State.trimResuming s).cby = s.cby ∧
    (State.trimResuming s).cru = s.cru ∧ (State.trimResuming s).otp = s.otp ∧ (State.trimResuming s).emb = s.emb ∧
    (State.trimResuming s).wwu = s.wwu ∧ (State.trimResuming s).lgb = s.lgb ∧ (State.trimResuming s).io = s.io ∧
    (State.trimResuming s).draws = s.draws ∧ (State.trimResuming s).pending = s.pending := by
  simp [State.trimResuming]

/-- State.removeOp writes apa, fit, rfu, io at most. -/
@[simp] theorem State.removeOp_keeps (s : State) (d : Nat) :
    (State.removeOp s d).spn = s.spn ∧ (State.removeOp s d).boot = s.boot ∧ (State.removeOp s d).strs = s.strs ∧
    (State.removeOp s d).pol = s.pol ∧ (State.removeOp s d).bde = s.bde ∧ (State.removeOp s d).hma = s.hma ∧
    (State.removeOp s d).cme = s.cme ∧ (State.removeOp s d).rfg = s.rfg ∧ (State.removeOp s d).atr = s.atr ∧
    (State.removeOp s d).cby = s.cby ∧ (State.removeOp s d).cru = s.cru ∧ (State.removeOp s d).otp = s.otp ∧
    (State.removeOp s d).emb = s.emb ∧ (State.removeOp s d).wwu = s.wwu ∧ (State.removeOp s d).lgb = s.lgb ∧
    (State.removeOp s d).draws = s.draws ∧ (State.removeOp s d).pending = s.pending := by
  simp [State.removeOp]

/-- State.endData writes cme at most. -/
@[simp] theorem State.endData_keeps (s : State) (o : RfuOp) :
    (State.endData s o).spn = s.spn ∧ (State.endData s o).boot = s.boot ∧ (State.endData s o).strs = s.strs ∧
    (State.endData s o).apa = s.apa ∧ (State.endData s o).pol = s.pol ∧ (State.endData s o).fit = s.fit ∧
    (State.endData s o).bde = s.bde ∧ (State.endData s o).hma = s.hma ∧ (State.endData s o).rfg = s.rfg ∧
    (State.endData s o).atr = s.atr ∧ (State.endData s o).rfu = s.rfu ∧ (State.endData s o).cby = s.cby ∧
    (State.endData s o).cru = s.cru ∧ (State.endData s o).otp = s.otp ∧ (State.endData s o).emb = s.emb ∧
    (State.endData s o).wwu = s.wwu ∧ (State.endData s o).lgb = s.lgb ∧ (State.endData s o).io = s.io ∧
    (State.endData s o).draws = s.draws ∧ (State.endData s o).pending = s.pending := by
  simp [State.endData]

/-- State.endOp writes apa, fit, cme, rfu, io at most. -/
@[simp] theorem State.endOp_keeps (s : State) (d : Nat) (st : JState) (always : Bool := false) :
    (State.endOp s d st always).spn = s.spn ∧ (State.endOp s d st always).boot = s.boot ∧
    (State.endOp s d st always).strs = s.strs ∧ (State.endOp s d st always).pol = s.pol ∧
    (State.endOp s d st always).bde = s.bde ∧ (State.endOp s d st always).hma = s.hma ∧
    (State.endOp s d st always).rfg = s.rfg ∧ (State.endOp s d st always).atr = s.atr ∧
    (State.endOp s d st always).cby = s.cby ∧ (State.endOp s d st always).cru = s.cru ∧
    (State.endOp s d st always).otp = s.otp ∧ (State.endOp s d st always).emb = s.emb ∧
    (State.endOp s d st always).wwu = s.wwu ∧ (State.endOp s d st always).lgb = s.lgb ∧
    (State.endOp s d st always).draws = s.draws ∧ (State.endOp s d st always).pending = s.pending := by
  unfold State.endOp; dsimp only; (repeat' split) <;> simp

/-- State.stopOps writes apa, fit, cme, rfu, io at most. -/
@[simp] theorem State.stopOps_keeps (s : State) (n : Nat) (always : Bool := false) :
    (State.stopOps s n always).spn = s.spn ∧ (State.stopOps s n always).boot = s.boot ∧
    (State.stopOps s n always).strs = s.strs ∧ (State.stopOps s n always).pol = s.pol ∧
    (State.stopOps s n always).bde = s.bde ∧ (State.stopOps s n always).hma = s.hma ∧
    (State.stopOps s n always).rfg = s.rfg ∧ (State.stopOps s n always).atr = s.atr ∧
    (State.stopOps s n always).cby = s.cby ∧ (State.stopOps s n always).cru = s.cru ∧
    (State.stopOps s n always).otp = s.otp ∧ (State.stopOps s n always).emb = s.emb ∧
    (State.stopOps s n always).wwu = s.wwu ∧ (State.stopOps s n always).lgb = s.lgb ∧
    (State.stopOps s n always).draws = s.draws ∧ (State.stopOps s n always).pending = s.pending := by
  simp [State.stopOps]

/-- State.failOp writes strs, apa, fit, cme, atr, rfu, wwu, lgb, io at most. -/
@[simp] theorem State.failOp_keeps (s : State) (d : Nat) :
    (State.failOp s d).spn = s.spn ∧ (State.failOp s d).boot = s.boot ∧ (State.failOp s d).pol = s.pol ∧
    (State.failOp s d).bde = s.bde ∧ (State.failOp s d).hma = s.hma ∧ (State.failOp s d).rfg = s.rfg ∧
    (State.failOp s d).cby = s.cby ∧ (State.failOp s d).cru = s.cru ∧ (State.failOp s d).otp = s.otp ∧
    (State.failOp s d).emb = s.emb ∧ (State.failOp s d).draws = s.draws ∧ (State.failOp s d).pending = s.pending := by
  unfold State.failOp; dsimp only; (repeat' split) <;> simp

/-- State.failAttempt writes strs, apa, fit, cme, atr, rfu, wwu, lgb, io at most. -/
@[simp] theorem State.failAttempt_keeps (s : State) (d : Nat) :
    (State.failAttempt s d).spn = s.spn ∧ (State.failAttempt s d).boot = s.boot ∧ (State.failAttempt s d).pol = s.pol ∧
    (State.failAttempt s d).bde = s.bde ∧ (State.failAttempt s d).hma = s.hma ∧ (State.failAttempt s d).rfg = s.rfg ∧
    (State.failAttempt s d).cby = s.cby ∧ (State.failAttempt s d).cru = s.cru ∧ (State.failAttempt s d).otp = s.otp ∧
    (State.failAttempt s d).emb = s.emb ∧ (State.failAttempt s d).draws = s.draws ∧
    (State.failAttempt s d).pending = s.pending := by
  unfold State.failAttempt; dsimp only; (repeat' split) <;> simp

/-- State.skipSource writes lgb at most. -/
@[simp] theorem State.skipSource_keeps (s : State) (d status : Nat) :
    (State.skipSource s d status).spn = s.spn ∧ (State.skipSource s d status).boot = s.boot ∧
    (State.skipSource s d status).strs = s.strs ∧ (State.skipSource s d status).apa = s.apa ∧
    (State.skipSource s d status).pol = s.pol ∧ (State.skipSource s d status).fit = s.fit ∧
    (State.skipSource s d status).bde = s.bde ∧ (State.skipSource s d status).hma = s.hma ∧
    (State.skipSource s d status).cme = s.cme ∧ (State.skipSource s d status).rfg = s.rfg ∧
    (State.skipSource s d status).atr = s.atr ∧ (State.skipSource s d status).rfu = s.rfu ∧
    (State.skipSource s d status).cby = s.cby ∧ (State.skipSource s d status).cru = s.cru ∧
    (State.skipSource s d status).otp = s.otp ∧ (State.skipSource s d status).emb = s.emb ∧
    (State.skipSource s d status).wwu = s.wwu ∧ (State.skipSource s d status).io = s.io ∧
    (State.skipSource s d status).draws = s.draws ∧ (State.skipSource s d status).pending = s.pending := by
  simp [State.skipSource]

/-- State.commitOp writes strs, apa, fit, cme, atr, rfu, lgb, io at most. -/
@[simp] theorem State.commitOp_keeps (s : State) (d : Nat) :
    (State.commitOp s d).spn = s.spn ∧ (State.commitOp s d).boot = s.boot ∧ (State.commitOp s d).pol = s.pol ∧
    (State.commitOp s d).bde = s.bde ∧ (State.commitOp s d).hma = s.hma ∧ (State.commitOp s d).rfg = s.rfg ∧
    (State.commitOp s d).cby = s.cby ∧ (State.commitOp s d).cru = s.cru ∧ (State.commitOp s d).otp = s.otp ∧
    (State.commitOp s d).emb = s.emb ∧ (State.commitOp s d).wwu = s.wwu ∧ (State.commitOp s d).draws = s.draws ∧
    (State.commitOp s d).pending = s.pending := by
  unfold State.commitOp; dsimp only; (repeat' split) <;> simp

/-- State.beginRemeasure writes fit, rfu at most. -/
@[simp] theorem State.beginRemeasure_keeps (s : State) (d : Nat) :
    (State.beginRemeasure s d).spn = s.spn ∧ (State.beginRemeasure s d).boot = s.boot ∧
    (State.beginRemeasure s d).strs = s.strs ∧ (State.beginRemeasure s d).apa = s.apa ∧
    (State.beginRemeasure s d).pol = s.pol ∧ (State.beginRemeasure s d).bde = s.bde ∧
    (State.beginRemeasure s d).hma = s.hma ∧ (State.beginRemeasure s d).cme = s.cme ∧
    (State.beginRemeasure s d).rfg = s.rfg ∧ (State.beginRemeasure s d).atr = s.atr ∧
    (State.beginRemeasure s d).cby = s.cby ∧ (State.beginRemeasure s d).cru = s.cru ∧
    (State.beginRemeasure s d).otp = s.otp ∧ (State.beginRemeasure s d).emb = s.emb ∧
    (State.beginRemeasure s d).wwu = s.wwu ∧ (State.beginRemeasure s d).lgb = s.lgb ∧ (State.beginRemeasure s d).io = s.io ∧
    (State.beginRemeasure s d).draws = s.draws ∧ (State.beginRemeasure s d).pending = s.pending := by
  unfold State.beginRemeasure; dsimp only; (repeat' split) <;> simp

/-- State.writeIntent writes strs, apa, fit, cme, atr, rfu, wwu, lgb, io at most. -/
@[simp] theorem State.writeIntent_keeps (s : State) (d : Nat) :
    (State.writeIntent s d).spn = s.spn ∧ (State.writeIntent s d).boot = s.boot ∧ (State.writeIntent s d).pol = s.pol ∧
    (State.writeIntent s d).bde = s.bde ∧ (State.writeIntent s d).hma = s.hma ∧ (State.writeIntent s d).rfg = s.rfg ∧
    (State.writeIntent s d).cby = s.cby ∧ (State.writeIntent s d).cru = s.cru ∧ (State.writeIntent s d).otp = s.otp ∧
    (State.writeIntent s d).emb = s.emb ∧ (State.writeIntent s d).draws = s.draws ∧
    (State.writeIntent s d).pending = s.pending := by
  unfold State.writeIntent; dsimp only; (repeat' split) <;> simp

/-- State.sentErase writes apa, fit, bde, cme, lgb, io at most. -/
@[simp] theorem State.sentErase_keeps (s : State) (d i : Nat) :
    (State.sentErase s d i).spn = s.spn ∧ (State.sentErase s d i).boot = s.boot ∧ (State.sentErase s d i).strs = s.strs ∧
    (State.sentErase s d i).pol = s.pol ∧ (State.sentErase s d i).hma = s.hma ∧ (State.sentErase s d i).rfg = s.rfg ∧
    (State.sentErase s d i).atr = s.atr ∧ (State.sentErase s d i).rfu = s.rfu ∧ (State.sentErase s d i).cby = s.cby ∧
    (State.sentErase s d i).cru = s.cru ∧ (State.sentErase s d i).otp = s.otp ∧ (State.sentErase s d i).emb = s.emb ∧
    (State.sentErase s d i).wwu = s.wwu ∧ (State.sentErase s d i).draws = s.draws ∧
    (State.sentErase s d i).pending = s.pending := by
  simp [State.sentErase]

/-- State.sentProgram writes apa, fit, bde, io at most. -/
@[simp] theorem State.sentProgram_keeps (s : State) (d addr : Nat) (data : Bytes) :
    (State.sentProgram s d addr data).spn = s.spn ∧ (State.sentProgram s d addr data).boot = s.boot ∧
    (State.sentProgram s d addr data).strs = s.strs ∧ (State.sentProgram s d addr data).pol = s.pol ∧
    (State.sentProgram s d addr data).hma = s.hma ∧ (State.sentProgram s d addr data).cme = s.cme ∧
    (State.sentProgram s d addr data).rfg = s.rfg ∧ (State.sentProgram s d addr data).atr = s.atr ∧
    (State.sentProgram s d addr data).rfu = s.rfu ∧ (State.sentProgram s d addr data).cby = s.cby ∧
    (State.sentProgram s d addr data).cru = s.cru ∧ (State.sentProgram s d addr data).otp = s.otp ∧
    (State.sentProgram s d addr data).emb = s.emb ∧ (State.sentProgram s d addr data).wwu = s.wwu ∧
    (State.sentProgram s d addr data).lgb = s.lgb ∧ (State.sentProgram s d addr data).draws = s.draws ∧
    (State.sentProgram s d addr data).pending = s.pending := by
  simp [State.sentProgram]

/-- State.nextPage writes spn, apa, fit, bde, rfu, lgb, io at most. -/
@[simp] theorem State.nextPage_keeps (s : State) (d i : Nat) (o : RfuOp) (cut : Bool := false) :
    (State.nextPage s d i o cut).boot = s.boot ∧ (State.nextPage s d i o cut).strs = s.strs ∧
    (State.nextPage s d i o cut).pol = s.pol ∧ (State.nextPage s d i o cut).hma = s.hma ∧
    (State.nextPage s d i o cut).cme = s.cme ∧ (State.nextPage s d i o cut).rfg = s.rfg ∧
    (State.nextPage s d i o cut).atr = s.atr ∧ (State.nextPage s d i o cut).cby = s.cby ∧
    (State.nextPage s d i o cut).cru = s.cru ∧ (State.nextPage s d i o cut).otp = s.otp ∧
    (State.nextPage s d i o cut).emb = s.emb ∧ (State.nextPage s d i o cut).wwu = s.wwu ∧
    (State.nextPage s d i o cut).draws = s.draws ∧ (State.nextPage s d i o cut).pending = s.pending := by
  unfold State.nextPage; dsimp only; (repeat' split) <;> simp

/-- State.nextErase writes spn, apa, fit, bde, cme, rfu, lgb, io at most. -/
@[simp] theorem State.nextErase_keeps (s : State) (d : Nat) (o : RfuOp) (cut : Bool := false) :
    (State.nextErase s d o cut).boot = s.boot ∧ (State.nextErase s d o cut).strs = s.strs ∧
    (State.nextErase s d o cut).pol = s.pol ∧ (State.nextErase s d o cut).hma = s.hma ∧
    (State.nextErase s d o cut).rfg = s.rfg ∧ (State.nextErase s d o cut).atr = s.atr ∧
    (State.nextErase s d o cut).cby = s.cby ∧ (State.nextErase s d o cut).cru = s.cru ∧
    (State.nextErase s d o cut).otp = s.otp ∧ (State.nextErase s d o cut).emb = s.emb ∧
    (State.nextErase s d o cut).wwu = s.wwu ∧ (State.nextErase s d o cut).draws = s.draws ∧
    (State.nextErase s d o cut).pending = s.pending := by
  unfold State.nextErase; dsimp only; (repeat' split) <;> simp

/-- State.nextBlock writes spn, apa, fit, bde, cme, rfu, lgb, io at most. -/
@[simp] theorem State.nextBlock_keeps (s : State) (d : Nat) (cut : Bool := false) :
    (State.nextBlock s d cut).boot = s.boot ∧ (State.nextBlock s d cut).strs = s.strs ∧
    (State.nextBlock s d cut).pol = s.pol ∧ (State.nextBlock s d cut).hma = s.hma ∧ (State.nextBlock s d cut).rfg = s.rfg ∧
    (State.nextBlock s d cut).atr = s.atr ∧ (State.nextBlock s d cut).cby = s.cby ∧ (State.nextBlock s d cut).cru = s.cru ∧
    (State.nextBlock s d cut).otp = s.otp ∧ (State.nextBlock s d cut).emb = s.emb ∧ (State.nextBlock s d cut).wwu = s.wwu ∧
    (State.nextBlock s d cut).draws = s.draws ∧ (State.nextBlock s d cut).pending = s.pending := by
  unfold State.nextBlock; (repeat' split) <;> (try dsimp only) <;> (repeat' split) <;> simp

/-- State.takePort writes strs, apa, fit, cme, atr, rfu, wwu, lgb, io at most. -/
@[simp] theorem State.takePort_keeps (s : State) (d : Nat) :
    (State.takePort s d).spn = s.spn ∧ (State.takePort s d).boot = s.boot ∧ (State.takePort s d).pol = s.pol ∧
    (State.takePort s d).bde = s.bde ∧ (State.takePort s d).hma = s.hma ∧ (State.takePort s d).rfg = s.rfg ∧
    (State.takePort s d).cby = s.cby ∧ (State.takePort s d).cru = s.cru ∧ (State.takePort s d).otp = s.otp ∧
    (State.takePort s d).emb = s.emb ∧ (State.takePort s d).draws = s.draws ∧ (State.takePort s d).pending = s.pending := by
  unfold State.takePort; (repeat' split) <;> (try dsimp only) <;> (repeat' split) <;> simp

/-- State.advanceOp writes spn, strs, apa, fit, bde, cme, atr, rfu, wwu, lgb, io at most. -/
@[simp] theorem State.advanceOp_keeps (s : State) (d : Nat) (cut : Bool := false) :
    (State.advanceOp s d cut).boot = s.boot ∧ (State.advanceOp s d cut).pol = s.pol ∧ (State.advanceOp s d cut).hma = s.hma ∧
    (State.advanceOp s d cut).rfg = s.rfg ∧ (State.advanceOp s d cut).cby = s.cby ∧ (State.advanceOp s d cut).cru = s.cru ∧
    (State.advanceOp s d cut).otp = s.otp ∧ (State.advanceOp s d cut).emb = s.emb ∧
    (State.advanceOp s d cut).draws = s.draws ∧ (State.advanceOp s d cut).pending = s.pending := by
  unfold State.advanceOp; dsimp only; (repeat' split) <;> simp

/-- State.abandonSource writes strs, apa, fit, cme, atr, rfu, wwu, lgb, io at most. -/
@[simp] theorem State.abandonSource_keeps (s : State) (d : Nat) :
    (State.abandonSource s d).spn = s.spn ∧ (State.abandonSource s d).boot = s.boot ∧ (State.abandonSource s d).pol = s.pol ∧
    (State.abandonSource s d).bde = s.bde ∧ (State.abandonSource s d).hma = s.hma ∧ (State.abandonSource s d).rfg = s.rfg ∧
    (State.abandonSource s d).cby = s.cby ∧ (State.abandonSource s d).cru = s.cru ∧ (State.abandonSource s d).otp = s.otp ∧
    (State.abandonSource s d).emb = s.emb ∧ (State.abandonSource s d).draws = s.draws ∧
    (State.abandonSource s d).pending = s.pending := by
  unfold State.abandonSource; dsimp only; (repeat' split) <;> simp

/-- State.readError writes strs, apa, fit, cme, atr, rfu, wwu, lgb, io at most. -/
@[simp] theorem State.readError_keeps (s : State) (d i : Nat) :
    (State.readError s d i).spn = s.spn ∧ (State.readError s d i).boot = s.boot ∧ (State.readError s d i).pol = s.pol ∧
    (State.readError s d i).bde = s.bde ∧ (State.readError s d i).hma = s.hma ∧ (State.readError s d i).rfg = s.rfg ∧
    (State.readError s d i).cby = s.cby ∧ (State.readError s d i).cru = s.cru ∧ (State.readError s d i).otp = s.otp ∧
    (State.readError s d i).emb = s.emb ∧ (State.readError s d i).draws = s.draws ∧
    (State.readError s d i).pending = s.pending := by
  unfold State.readError; (repeat' split) <;> (try dsimp only) <;> (repeat' split) <;> simp

/-- State.stage writes rfu at most. -/
@[simp] theorem State.stage_keeps (s : State) (d i : Nat) (data : Bytes) :
    (State.stage s d i data).spn = s.spn ∧ (State.stage s d i data).boot = s.boot ∧ (State.stage s d i data).strs = s.strs ∧
    (State.stage s d i data).apa = s.apa ∧ (State.stage s d i data).pol = s.pol ∧ (State.stage s d i data).fit = s.fit ∧
    (State.stage s d i data).bde = s.bde ∧ (State.stage s d i data).hma = s.hma ∧ (State.stage s d i data).cme = s.cme ∧
    (State.stage s d i data).rfg = s.rfg ∧ (State.stage s d i data).atr = s.atr ∧ (State.stage s d i data).cby = s.cby ∧
    (State.stage s d i data).cru = s.cru ∧ (State.stage s d i data).otp = s.otp ∧ (State.stage s d i data).emb = s.emb ∧
    (State.stage s d i data).wwu = s.wwu ∧ (State.stage s d i data).lgb = s.lgb ∧ (State.stage s d i data).io = s.io ∧
    (State.stage s d i data).draws = s.draws ∧ (State.stage s d i data).pending = s.pending := by
  simp [State.stage]

/-- State.takeBlocks writes rfu at most. -/
@[simp] theorem State.takeBlocks_keeps (s : State) (d : Nat) (m : Manifest) (l : List (Nat × Bytes)) (n : Nat) :
    (State.takeBlocks s d m l n).1.spn = s.spn ∧ (State.takeBlocks s d m l n).1.boot = s.boot ∧
    (State.takeBlocks s d m l n).1.strs = s.strs ∧ (State.takeBlocks s d m l n).1.apa = s.apa ∧
    (State.takeBlocks s d m l n).1.pol = s.pol ∧ (State.takeBlocks s d m l n).1.fit = s.fit ∧
    (State.takeBlocks s d m l n).1.bde = s.bde ∧ (State.takeBlocks s d m l n).1.hma = s.hma ∧
    (State.takeBlocks s d m l n).1.cme = s.cme ∧ (State.takeBlocks s d m l n).1.rfg = s.rfg ∧
    (State.takeBlocks s d m l n).1.atr = s.atr ∧ (State.takeBlocks s d m l n).1.cby = s.cby ∧
    (State.takeBlocks s d m l n).1.cru = s.cru ∧ (State.takeBlocks s d m l n).1.otp = s.otp ∧
    (State.takeBlocks s d m l n).1.emb = s.emb ∧ (State.takeBlocks s d m l n).1.wwu = s.wwu ∧
    (State.takeBlocks s d m l n).1.lgb = s.lgb ∧ (State.takeBlocks s d m l n).1.io = s.io ∧
    (State.takeBlocks s d m l n).1.draws = s.draws ∧ (State.takeBlocks s d m l n).1.pending = s.pending := by
  induction l generalizing s n with
  | nil => simp [State.takeBlocks]
  | cons e l ih =>
    unfold State.takeBlocks
    (repeat' split) <;> simp [ih]

/-- State.offerBlocks writes rfu at most. -/
@[simp] theorem State.offerBlocks_keeps (s : State) (d : Nat) (m : Manifest) (w : DataWait) :
    (State.offerBlocks s d m w).2.spn = s.spn ∧ (State.offerBlocks s d m w).2.boot = s.boot ∧
    (State.offerBlocks s d m w).2.strs = s.strs ∧ (State.offerBlocks s d m w).2.apa = s.apa ∧
    (State.offerBlocks s d m w).2.pol = s.pol ∧ (State.offerBlocks s d m w).2.fit = s.fit ∧
    (State.offerBlocks s d m w).2.bde = s.bde ∧ (State.offerBlocks s d m w).2.hma = s.hma ∧
    (State.offerBlocks s d m w).2.cme = s.cme ∧ (State.offerBlocks s d m w).2.rfg = s.rfg ∧
    (State.offerBlocks s d m w).2.atr = s.atr ∧ (State.offerBlocks s d m w).2.cby = s.cby ∧
    (State.offerBlocks s d m w).2.cru = s.cru ∧ (State.offerBlocks s d m w).2.otp = s.otp ∧
    (State.offerBlocks s d m w).2.emb = s.emb ∧ (State.offerBlocks s d m w).2.wwu = s.wwu ∧
    (State.offerBlocks s d m w).2.lgb = s.lgb ∧ (State.offerBlocks s d m w).2.io = s.io ∧
    (State.offerBlocks s d m w).2.draws = s.draws ∧ (State.offerBlocks s d m w).2.pending = s.pending := by
  unfold State.offerBlocks; dsimp only; (repeat' split) <;> simp

/-- State.serveData writes cme, rfu at most. -/
@[simp] theorem State.serveData_keeps (s : State) (d : Nat) :
    (State.serveData s d).spn = s.spn ∧ (State.serveData s d).boot = s.boot ∧ (State.serveData s d).strs = s.strs ∧
    (State.serveData s d).apa = s.apa ∧ (State.serveData s d).pol = s.pol ∧ (State.serveData s d).fit = s.fit ∧
    (State.serveData s d).bde = s.bde ∧ (State.serveData s d).hma = s.hma ∧ (State.serveData s d).rfg = s.rfg ∧
    (State.serveData s d).atr = s.atr ∧ (State.serveData s d).cby = s.cby ∧ (State.serveData s d).cru = s.cru ∧
    (State.serveData s d).otp = s.otp ∧ (State.serveData s d).emb = s.emb ∧ (State.serveData s d).wwu = s.wwu ∧
    (State.serveData s d).lgb = s.lgb ∧ (State.serveData s d).io = s.io ∧ (State.serveData s d).draws = s.draws ∧
    (State.serveData s d).pending = s.pending := by
  unfold State.serveData
  split
  · simp
  · split
    · split
      all_goals
        rename_i e
        have k := State.offerBlocks_keeps s d ‹_› ‹_›
        rw [e] at k
        simp_all
    · simp

/-- State.advanceOps writes spn, strs, apa, fit, bde, cme, atr, rfu, wwu, lgb, io at most. -/
@[simp] theorem State.advanceOps_keeps (s : State) (cut : Bool := false) :
    (State.advanceOps s cut).boot = s.boot ∧ (State.advanceOps s cut).pol = s.pol ∧ (State.advanceOps s cut).hma = s.hma ∧
    (State.advanceOps s cut).rfg = s.rfg ∧ (State.advanceOps s cut).cby = s.cby ∧ (State.advanceOps s cut).cru = s.cru ∧
    (State.advanceOps s cut).otp = s.otp ∧ (State.advanceOps s cut).emb = s.emb ∧ (State.advanceOps s cut).draws = s.draws ∧
    (State.advanceOps s cut).pending = s.pending := by
  simp [State.advanceOps]

/-- State.settleAll writes spn, strs, apa, fit, bde, cme, atr, rfu, wwu, lgb, io at most. -/
@[simp] theorem State.settleAll_keeps (s : State) :
    (State.settleAll s).boot = s.boot ∧ (State.settleAll s).pol = s.pol ∧ (State.settleAll s).hma = s.hma ∧
    (State.settleAll s).rfg = s.rfg ∧ (State.settleAll s).cby = s.cby ∧ (State.settleAll s).cru = s.cru ∧
    (State.settleAll s).otp = s.otp ∧ (State.settleAll s).emb = s.emb ∧ (State.settleAll s).draws = s.draws ∧
    (State.settleAll s).pending = s.pending := by
  simp [State.settleAll]

/-- State.settleCut writes spn, strs, apa, fit, bde, cme, atr, rfu, wwu, lgb, io at most. -/
@[simp] theorem State.settleCut_keeps (s : State) (cut : Bool) :
    (State.settleCut s cut).boot = s.boot ∧ (State.settleCut s cut).pol = s.pol ∧ (State.settleCut s cut).hma = s.hma ∧
    (State.settleCut s cut).rfg = s.rfg ∧ (State.settleCut s cut).cby = s.cby ∧ (State.settleCut s cut).cru = s.cru ∧
    (State.settleCut s cut).otp = s.otp ∧ (State.settleCut s cut).emb = s.emb ∧ (State.settleCut s cut).draws = s.draws ∧
    (State.settleCut s cut).pending = s.pending := by
  simp [State.settleCut]

/-- State.passJournal writes rfu at most. -/
@[simp] theorem State.passJournal_keeps (s : State) (n : Nat) :
    (State.passJournal s n).spn = s.spn ∧ (State.passJournal s n).boot = s.boot ∧ (State.passJournal s n).strs = s.strs ∧
    (State.passJournal s n).apa = s.apa ∧ (State.passJournal s n).pol = s.pol ∧ (State.passJournal s n).fit = s.fit ∧
    (State.passJournal s n).bde = s.bde ∧ (State.passJournal s n).hma = s.hma ∧ (State.passJournal s n).cme = s.cme ∧
    (State.passJournal s n).rfg = s.rfg ∧ (State.passJournal s n).atr = s.atr ∧ (State.passJournal s n).cby = s.cby ∧
    (State.passJournal s n).cru = s.cru ∧ (State.passJournal s n).otp = s.otp ∧ (State.passJournal s n).emb = s.emb ∧
    (State.passJournal s n).wwu = s.wwu ∧ (State.passJournal s n).lgb = s.lgb ∧ (State.passJournal s n).io = s.io ∧
    (State.passJournal s n).draws = s.draws ∧ (State.passJournal s n).pending = s.pending := by
  simp [State.passJournal]

/-- State.judgeSlot writes strs, apa, cme, atr, rfu, wwu, lgb at most. -/
@[simp] theorem State.judgeSlot_keeps (s : State) (n : Nat) :
    (State.judgeSlot s n).spn = s.spn ∧ (State.judgeSlot s n).boot = s.boot ∧ (State.judgeSlot s n).pol = s.pol ∧
    (State.judgeSlot s n).fit = s.fit ∧ (State.judgeSlot s n).bde = s.bde ∧ (State.judgeSlot s n).hma = s.hma ∧
    (State.judgeSlot s n).rfg = s.rfg ∧ (State.judgeSlot s n).cby = s.cby ∧ (State.judgeSlot s n).cru = s.cru ∧
    (State.judgeSlot s n).otp = s.otp ∧ (State.judgeSlot s n).emb = s.emb ∧ (State.judgeSlot s n).io = s.io ∧
    (State.judgeSlot s n).draws = s.draws ∧ (State.judgeSlot s n).pending = s.pending := by
  simp [State.judgeSlot]

/-- State.answerCart writes cme, cby at most. -/
@[simp] theorem State.answerCart_keeps (s : State) (k : Nat) (r : Reply) :
    (State.answerCart s k r).spn = s.spn ∧ (State.answerCart s k r).boot = s.boot ∧ (State.answerCart s k r).strs = s.strs ∧
    (State.answerCart s k r).apa = s.apa ∧ (State.answerCart s k r).pol = s.pol ∧ (State.answerCart s k r).fit = s.fit ∧
    (State.answerCart s k r).bde = s.bde ∧ (State.answerCart s k r).hma = s.hma ∧ (State.answerCart s k r).rfg = s.rfg ∧
    (State.answerCart s k r).atr = s.atr ∧ (State.answerCart s k r).rfu = s.rfu ∧ (State.answerCart s k r).cru = s.cru ∧
    (State.answerCart s k r).otp = s.otp ∧ (State.answerCart s k r).emb = s.emb ∧ (State.answerCart s k r).wwu = s.wwu ∧
    (State.answerCart s k r).lgb = s.lgb ∧ (State.answerCart s k r).io = s.io ∧ (State.answerCart s k r).draws = s.draws ∧
    (State.answerCart s k r).pending = s.pending := by
  simp [State.answerCart]

/-- State.startIdentify writes hma, cme, cby, cru, lgb at most. -/
@[simp] theorem State.startIdentify_keeps (s : State) :
    (State.startIdentify s).spn = s.spn ∧ (State.startIdentify s).boot = s.boot ∧ (State.startIdentify s).strs = s.strs ∧
    (State.startIdentify s).apa = s.apa ∧ (State.startIdentify s).pol = s.pol ∧ (State.startIdentify s).fit = s.fit ∧
    (State.startIdentify s).bde = s.bde ∧ (State.startIdentify s).rfg = s.rfg ∧ (State.startIdentify s).atr = s.atr ∧
    (State.startIdentify s).rfu = s.rfu ∧ (State.startIdentify s).otp = s.otp ∧ (State.startIdentify s).emb = s.emb ∧
    (State.startIdentify s).wwu = s.wwu ∧ (State.startIdentify s).io = s.io ∧ (State.startIdentify s).draws = s.draws ∧
    (State.startIdentify s).pending = s.pending := by
  unfold State.startIdentify; (repeat' split) <;> (try dsimp only) <;> (repeat' split) <;> simp

/-- State.cartFailed writes hma, cme, cby, cru, lgb at most. -/
@[simp] theorem State.cartFailed_keeps (s : State) (k : Nat) :
    (State.cartFailed s k).spn = s.spn ∧ (State.cartFailed s k).boot = s.boot ∧ (State.cartFailed s k).strs = s.strs ∧
    (State.cartFailed s k).apa = s.apa ∧ (State.cartFailed s k).pol = s.pol ∧ (State.cartFailed s k).fit = s.fit ∧
    (State.cartFailed s k).bde = s.bde ∧ (State.cartFailed s k).rfg = s.rfg ∧ (State.cartFailed s k).atr = s.atr ∧
    (State.cartFailed s k).rfu = s.rfu ∧ (State.cartFailed s k).otp = s.otp ∧ (State.cartFailed s k).emb = s.emb ∧
    (State.cartFailed s k).wwu = s.wwu ∧ (State.cartFailed s k).io = s.io ∧ (State.cartFailed s k).draws = s.draws ∧
    (State.cartFailed s k).pending = s.pending := by
  simp [State.cartFailed]

/-- State.updLife writes cby at most. -/
@[simp] theorem State.updLife_keeps (s : State) (cid : Bytes) (f : LifeEntry → LifeEntry) :
    (State.updLife s cid f).spn = s.spn ∧ (State.updLife s cid f).boot = s.boot ∧ (State.updLife s cid f).strs = s.strs ∧
    (State.updLife s cid f).apa = s.apa ∧ (State.updLife s cid f).pol = s.pol ∧ (State.updLife s cid f).fit = s.fit ∧
    (State.updLife s cid f).bde = s.bde ∧ (State.updLife s cid f).hma = s.hma ∧ (State.updLife s cid f).cme = s.cme ∧
    (State.updLife s cid f).rfg = s.rfg ∧ (State.updLife s cid f).atr = s.atr ∧ (State.updLife s cid f).rfu = s.rfu ∧
    (State.updLife s cid f).cru = s.cru ∧ (State.updLife s cid f).otp = s.otp ∧ (State.updLife s cid f).emb = s.emb ∧
    (State.updLife s cid f).wwu = s.wwu ∧ (State.updLife s cid f).lgb = s.lgb ∧ (State.updLife s cid f).io = s.io ∧
    (State.updLife s cid f).draws = s.draws ∧ (State.updLife s cid f).pending = s.pending := by
  simp [State.updLife]

/-- State.seenCid writes cby at most. -/
@[simp] theorem State.seenCid_keeps (s : State) (cid : Bytes) :
    (State.seenCid s cid).spn = s.spn ∧ (State.seenCid s cid).boot = s.boot ∧ (State.seenCid s cid).strs = s.strs ∧
    (State.seenCid s cid).apa = s.apa ∧ (State.seenCid s cid).pol = s.pol ∧ (State.seenCid s cid).fit = s.fit ∧
    (State.seenCid s cid).bde = s.bde ∧ (State.seenCid s cid).hma = s.hma ∧ (State.seenCid s cid).cme = s.cme ∧
    (State.seenCid s cid).rfg = s.rfg ∧ (State.seenCid s cid).atr = s.atr ∧ (State.seenCid s cid).rfu = s.rfu ∧
    (State.seenCid s cid).cru = s.cru ∧ (State.seenCid s cid).otp = s.otp ∧ (State.seenCid s cid).emb = s.emb ∧
    (State.seenCid s cid).wwu = s.wwu ∧ (State.seenCid s cid).lgb = s.lgb ∧ (State.seenCid s cid).io = s.io ∧
    (State.seenCid s cid).draws = s.draws ∧ (State.seenCid s cid).pending = s.pending := by
  unfold State.seenCid; dsimp only; (repeat' split) <;> simp

/-- State.readLife writes cme, cby, lgb at most. -/
@[simp] theorem State.readLife_keeps (s : State) (k preEol a b : Nat) :
    (State.readLife s k preEol a b).spn = s.spn ∧ (State.readLife s k preEol a b).boot = s.boot ∧
    (State.readLife s k preEol a b).strs = s.strs ∧ (State.readLife s k preEol a b).apa = s.apa ∧
    (State.readLife s k preEol a b).pol = s.pol ∧ (State.readLife s k preEol a b).fit = s.fit ∧
    (State.readLife s k preEol a b).bde = s.bde ∧ (State.readLife s k preEol a b).hma = s.hma ∧
    (State.readLife s k preEol a b).rfg = s.rfg ∧ (State.readLife s k preEol a b).atr = s.atr ∧
    (State.readLife s k preEol a b).rfu = s.rfu ∧ (State.readLife s k preEol a b).cru = s.cru ∧
    (State.readLife s k preEol a b).otp = s.otp ∧ (State.readLife s k preEol a b).emb = s.emb ∧
    (State.readLife s k preEol a b).wwu = s.wwu ∧ (State.readLife s k preEol a b).io = s.io ∧
    (State.readLife s k preEol a b).draws = s.draws ∧ (State.readLife s k preEol a b).pending = s.pending := by
  simp [State.readLife]

/-- State.useCart writes cby at most. -/
@[simp] theorem State.useCart_keeps (s : State) (k n : Nat) :
    (State.useCart s k n).spn = s.spn ∧ (State.useCart s k n).boot = s.boot ∧ (State.useCart s k n).strs = s.strs ∧
    (State.useCart s k n).apa = s.apa ∧ (State.useCart s k n).pol = s.pol ∧ (State.useCart s k n).fit = s.fit ∧
    (State.useCart s k n).bde = s.bde ∧ (State.useCart s k n).hma = s.hma ∧ (State.useCart s k n).cme = s.cme ∧
    (State.useCart s k n).rfg = s.rfg ∧ (State.useCart s k n).atr = s.atr ∧ (State.useCart s k n).rfu = s.rfu ∧
    (State.useCart s k n).cru = s.cru ∧ (State.useCart s k n).otp = s.otp ∧ (State.useCart s k n).emb = s.emb ∧
    (State.useCart s k n).wwu = s.wwu ∧ (State.useCart s k n).lgb = s.lgb ∧ (State.useCart s k n).io = s.io ∧
    (State.useCart s k n).draws = s.draws ∧ (State.useCart s k n).pending = s.pending := by
  simp [State.useCart]

/-- State.dropReaders writes rfu at most. -/
@[simp] theorem State.dropReaders_keeps (s : State) (k : Nat) :
    (State.dropReaders s k).spn = s.spn ∧ (State.dropReaders s k).boot = s.boot ∧ (State.dropReaders s k).strs = s.strs ∧
    (State.dropReaders s k).apa = s.apa ∧ (State.dropReaders s k).pol = s.pol ∧ (State.dropReaders s k).fit = s.fit ∧
    (State.dropReaders s k).bde = s.bde ∧ (State.dropReaders s k).hma = s.hma ∧ (State.dropReaders s k).cme = s.cme ∧
    (State.dropReaders s k).rfg = s.rfg ∧ (State.dropReaders s k).atr = s.atr ∧ (State.dropReaders s k).cby = s.cby ∧
    (State.dropReaders s k).cru = s.cru ∧ (State.dropReaders s k).otp = s.otp ∧ (State.dropReaders s k).emb = s.emb ∧
    (State.dropReaders s k).wwu = s.wwu ∧ (State.dropReaders s k).lgb = s.lgb ∧ (State.dropReaders s k).io = s.io ∧
    (State.dropReaders s k).draws = s.draws ∧ (State.dropReaders s k).pending = s.pending := by
  simp [State.dropReaders]

/-- State.recheckCarts writes cby at most. -/
@[simp] theorem State.recheckCarts_keeps (s : State) (k : Nat) :
    (State.recheckCarts s k).spn = s.spn ∧ (State.recheckCarts s k).boot = s.boot ∧ (State.recheckCarts s k).strs = s.strs ∧
    (State.recheckCarts s k).apa = s.apa ∧ (State.recheckCarts s k).pol = s.pol ∧ (State.recheckCarts s k).fit = s.fit ∧
    (State.recheckCarts s k).bde = s.bde ∧ (State.recheckCarts s k).hma = s.hma ∧ (State.recheckCarts s k).cme = s.cme ∧
    (State.recheckCarts s k).rfg = s.rfg ∧ (State.recheckCarts s k).atr = s.atr ∧ (State.recheckCarts s k).rfu = s.rfu ∧
    (State.recheckCarts s k).cru = s.cru ∧ (State.recheckCarts s k).otp = s.otp ∧ (State.recheckCarts s k).emb = s.emb ∧
    (State.recheckCarts s k).wwu = s.wwu ∧ (State.recheckCarts s k).lgb = s.lgb ∧ (State.recheckCarts s k).io = s.io ∧
    (State.recheckCarts s k).draws = s.draws ∧ (State.recheckCarts s k).pending = s.pending := by
  simp [State.recheckCarts]

/-- State.removeCart writes rfu, cby at most. -/
@[simp] theorem State.removeCart_keeps (s : State) (k : Nat) :
    (State.removeCart s k).spn = s.spn ∧ (State.removeCart s k).boot = s.boot ∧ (State.removeCart s k).strs = s.strs ∧
    (State.removeCart s k).apa = s.apa ∧ (State.removeCart s k).pol = s.pol ∧ (State.removeCart s k).fit = s.fit ∧
    (State.removeCart s k).bde = s.bde ∧ (State.removeCart s k).hma = s.hma ∧ (State.removeCart s k).cme = s.cme ∧
    (State.removeCart s k).rfg = s.rfg ∧ (State.removeCart s k).atr = s.atr ∧ (State.removeCart s k).cru = s.cru ∧
    (State.removeCart s k).otp = s.otp ∧ (State.removeCart s k).emb = s.emb ∧ (State.removeCart s k).wwu = s.wwu ∧
    (State.removeCart s k).lgb = s.lgb ∧ (State.removeCart s k).io = s.io ∧ (State.removeCart s k).draws = s.draws ∧
    (State.removeCart s k).pending = s.pending := by
  simp [State.removeCart]

/-- State.decideCatalogue writes hma, cme, lgb at most. -/
@[simp] theorem State.decideCatalogue_keeps (s : State) (i : CartIdent) (verdicts : Nat) :
    (State.decideCatalogue s i verdicts).2.spn = s.spn ∧ (State.decideCatalogue s i verdicts).2.boot = s.boot ∧
    (State.decideCatalogue s i verdicts).2.strs = s.strs ∧ (State.decideCatalogue s i verdicts).2.apa = s.apa ∧
    (State.decideCatalogue s i verdicts).2.pol = s.pol ∧ (State.decideCatalogue s i verdicts).2.fit = s.fit ∧
    (State.decideCatalogue s i verdicts).2.bde = s.bde ∧ (State.decideCatalogue s i verdicts).2.rfg = s.rfg ∧
    (State.decideCatalogue s i verdicts).2.atr = s.atr ∧ (State.decideCatalogue s i verdicts).2.rfu = s.rfu ∧
    (State.decideCatalogue s i verdicts).2.cby = s.cby ∧ (State.decideCatalogue s i verdicts).2.cru = s.cru ∧
    (State.decideCatalogue s i verdicts).2.otp = s.otp ∧ (State.decideCatalogue s i verdicts).2.emb = s.emb ∧
    (State.decideCatalogue s i verdicts).2.wwu = s.wwu ∧ (State.decideCatalogue s i verdicts).2.io = s.io ∧
    (State.decideCatalogue s i verdicts).2.draws = s.draws ∧ (State.decideCatalogue s i verdicts).2.pending = s.pending := by
  unfold State.decideCatalogue; (repeat' split) <;> (try dsimp only) <;> (repeat' split) <;> simp

/-- State.identified writes hma, cme, rfu, cby, cru, lgb at most. -/
@[simp] theorem State.identified_keeps (s : State) (k : Nat) (i : CartIdent) (verdicts : Nat) :
    (State.identified s k i verdicts).spn = s.spn ∧ (State.identified s k i verdicts).boot = s.boot ∧
    (State.identified s k i verdicts).strs = s.strs ∧ (State.identified s k i verdicts).apa = s.apa ∧
    (State.identified s k i verdicts).pol = s.pol ∧ (State.identified s k i verdicts).fit = s.fit ∧
    (State.identified s k i verdicts).bde = s.bde ∧ (State.identified s k i verdicts).rfg = s.rfg ∧
    (State.identified s k i verdicts).atr = s.atr ∧ (State.identified s k i verdicts).otp = s.otp ∧
    (State.identified s k i verdicts).emb = s.emb ∧ (State.identified s k i verdicts).wwu = s.wwu ∧
    (State.identified s k i verdicts).io = s.io ∧ (State.identified s k i verdicts).draws = s.draws ∧
    (State.identified s k i verdicts).pending = s.pending := by
  unfold State.identified; (repeat' split) <;> (try dsimp only) <;> (repeat' split) <;> simp

/-- State.cycleCart writes hma, cme, cby, cru, lgb at most. -/
@[simp] theorem State.cycleCart_keeps (s : State) (k : Nat) :
    (State.cycleCart s k).spn = s.spn ∧ (State.cycleCart s k).boot = s.boot ∧ (State.cycleCart s k).strs = s.strs ∧
    (State.cycleCart s k).apa = s.apa ∧ (State.cycleCart s k).pol = s.pol ∧ (State.cycleCart s k).fit = s.fit ∧
    (State.cycleCart s k).bde = s.bde ∧ (State.cycleCart s k).rfg = s.rfg ∧ (State.cycleCart s k).atr = s.atr ∧
    (State.cycleCart s k).rfu = s.rfu ∧ (State.cycleCart s k).otp = s.otp ∧ (State.cycleCart s k).emb = s.emb ∧
    (State.cycleCart s k).wwu = s.wwu ∧ (State.cycleCart s k).io = s.io ∧ (State.cycleCart s k).draws = s.draws ∧
    (State.cycleCart s k).pending = s.pending := by
  simp [State.cycleCart]

/-- State.intrusion writes spn, apa, cme, lgb at most. -/
@[simp] theorem State.intrusion_keeps (s : State) (p : Nat) (inWindow : Bool) :
    (State.intrusion s p inWindow).boot = s.boot ∧ (State.intrusion s p inWindow).strs = s.strs ∧
    (State.intrusion s p inWindow).pol = s.pol ∧ (State.intrusion s p inWindow).fit = s.fit ∧
    (State.intrusion s p inWindow).bde = s.bde ∧ (State.intrusion s p inWindow).hma = s.hma ∧
    (State.intrusion s p inWindow).rfg = s.rfg ∧ (State.intrusion s p inWindow).atr = s.atr ∧
    (State.intrusion s p inWindow).rfu = s.rfu ∧ (State.intrusion s p inWindow).cby = s.cby ∧
    (State.intrusion s p inWindow).cru = s.cru ∧ (State.intrusion s p inWindow).otp = s.otp ∧
    (State.intrusion s p inWindow).emb = s.emb ∧ (State.intrusion s p inWindow).wwu = s.wwu ∧
    (State.intrusion s p inWindow).io = s.io ∧ (State.intrusion s p inWindow).draws = s.draws ∧
    (State.intrusion s p inWindow).pending = s.pending := by
  simp [State.intrusion]

/-- State.flashDone writes fit, bde, cme, lgb at most. -/
@[simp] theorem State.flashDone_keeps (s : State) (p : Nat) (c : HostCmd) :
    (State.flashDone s p c).spn = s.spn ∧ (State.flashDone s p c).boot = s.boot ∧ (State.flashDone s p c).strs = s.strs ∧
    (State.flashDone s p c).apa = s.apa ∧ (State.flashDone s p c).pol = s.pol ∧ (State.flashDone s p c).hma = s.hma ∧
    (State.flashDone s p c).rfg = s.rfg ∧ (State.flashDone s p c).atr = s.atr ∧ (State.flashDone s p c).rfu = s.rfu ∧
    (State.flashDone s p c).cby = s.cby ∧ (State.flashDone s p c).cru = s.cru ∧ (State.flashDone s p c).otp = s.otp ∧
    (State.flashDone s p c).emb = s.emb ∧ (State.flashDone s p c).wwu = s.wwu ∧ (State.flashDone s p c).io = s.io ∧
    (State.flashDone s p c).draws = s.draws ∧ (State.flashDone s p c).pending = s.pending := by
  simp [State.flashDone]

/-- State.commandDone writes strs, apa, pol, fit, bde, cme, atr, rfu, wwu, lgb at most. -/
@[simp] theorem State.commandDone_keeps (s : State) (p : Nat) (c : HostCmd) :
    (State.commandDone s p c).spn = s.spn ∧ (State.commandDone s p c).boot = s.boot ∧ (State.commandDone s p c).hma = s.hma ∧
    (State.commandDone s p c).rfg = s.rfg ∧ (State.commandDone s p c).cby = s.cby ∧ (State.commandDone s p c).cru = s.cru ∧
    (State.commandDone s p c).otp = s.otp ∧ (State.commandDone s p c).emb = s.emb ∧ (State.commandDone s p c).io = s.io ∧
    (State.commandDone s p c).draws = s.draws ∧ (State.commandDone s p c).pending = s.pending := by
  simp [State.commandDone]

/-- State.endCommand writes spn, strs, apa, pol, fit, bde, cme, atr, rfu, wwu, lgb at most. -/
@[simp] theorem State.endCommand_keeps (s : State) (port : Nat) (c : HostCmd) (differ : Nat) (quiet : Bool) :
    (State.endCommand s port c differ quiet).boot = s.boot ∧ (State.endCommand s port c differ quiet).hma = s.hma ∧
    (State.endCommand s port c differ quiet).rfg = s.rfg ∧ (State.endCommand s port c differ quiet).cby = s.cby ∧
    (State.endCommand s port c differ quiet).cru = s.cru ∧ (State.endCommand s port c differ quiet).otp = s.otp ∧
    (State.endCommand s port c differ quiet).emb = s.emb ∧ (State.endCommand s port c differ quiet).io = s.io ∧
    (State.endCommand s port c differ quiet).draws = s.draws ∧ (State.endCommand s port c differ quiet).pending = s.pending := by
  unfold State.endCommand; dsimp only; (generalize HostCmd.violation c port _ _ = v; cases v) <;> simp

/-- State.restoreWel writes apa, io at most. -/
@[simp] theorem State.restoreWel_keeps (s : State) (p : Nat) (w : Window) :
    (State.restoreWel s p w).spn = s.spn ∧ (State.restoreWel s p w).boot = s.boot ∧ (State.restoreWel s p w).strs = s.strs ∧
    (State.restoreWel s p w).pol = s.pol ∧ (State.restoreWel s p w).fit = s.fit ∧ (State.restoreWel s p w).bde = s.bde ∧
    (State.restoreWel s p w).hma = s.hma ∧ (State.restoreWel s p w).cme = s.cme ∧ (State.restoreWel s p w).rfg = s.rfg ∧
    (State.restoreWel s p w).atr = s.atr ∧ (State.restoreWel s p w).rfu = s.rfu ∧ (State.restoreWel s p w).cby = s.cby ∧
    (State.restoreWel s p w).cru = s.cru ∧ (State.restoreWel s p w).otp = s.otp ∧ (State.restoreWel s p w).emb = s.emb ∧
    (State.restoreWel s p w).wwu = s.wwu ∧ (State.restoreWel s p w).lgb = s.lgb ∧ (State.restoreWel s p w).draws = s.draws ∧
    (State.restoreWel s p w).pending = s.pending := by
  simp [State.restoreWel]

/-- State.closeWindow writes spn, apa, fit, cme, lgb, io at most. -/
@[simp] theorem State.closeWindow_keeps (s : State) (p : Nat) :
    (State.closeWindow s p).boot = s.boot ∧ (State.closeWindow s p).strs = s.strs ∧ (State.closeWindow s p).pol = s.pol ∧
    (State.closeWindow s p).bde = s.bde ∧ (State.closeWindow s p).hma = s.hma ∧ (State.closeWindow s p).rfg = s.rfg ∧
    (State.closeWindow s p).atr = s.atr ∧ (State.closeWindow s p).rfu = s.rfu ∧ (State.closeWindow s p).cby = s.cby ∧
    (State.closeWindow s p).cru = s.cru ∧ (State.closeWindow s p).otp = s.otp ∧ (State.closeWindow s p).emb = s.emb ∧
    (State.closeWindow s p).wwu = s.wwu ∧ (State.closeWindow s p).draws = s.draws ∧
    (State.closeWindow s p).pending = s.pending := by
  unfold State.closeWindow; dsimp only; (repeat' split) <;> simp

/-- State.sendResync writes apa, io at most. -/
@[simp] theorem State.sendResync_keeps (s : State) (d : Nat) :
    (State.sendResync s d).spn = s.spn ∧ (State.sendResync s d).boot = s.boot ∧ (State.sendResync s d).strs = s.strs ∧
    (State.sendResync s d).pol = s.pol ∧ (State.sendResync s d).fit = s.fit ∧ (State.sendResync s d).bde = s.bde ∧
    (State.sendResync s d).hma = s.hma ∧ (State.sendResync s d).cme = s.cme ∧ (State.sendResync s d).rfg = s.rfg ∧
    (State.sendResync s d).atr = s.atr ∧ (State.sendResync s d).rfu = s.rfu ∧ (State.sendResync s d).cby = s.cby ∧
    (State.sendResync s d).cru = s.cru ∧ (State.sendResync s d).otp = s.otp ∧ (State.sendResync s d).emb = s.emb ∧
    (State.sendResync s d).wwu = s.wwu ∧ (State.sendResync s d).lgb = s.lgb ∧ (State.sendResync s d).draws = s.draws ∧
    (State.sendResync s d).pending = s.pending := by
  simp [State.sendResync]

/-- State.openWindow writes spn, apa, fit, cme, lgb, io at most. -/
@[simp] theorem State.openWindow_keeps (s : State) (p : Nat) :
    (State.openWindow s p).boot = s.boot ∧ (State.openWindow s p).strs = s.strs ∧ (State.openWindow s p).pol = s.pol ∧
    (State.openWindow s p).bde = s.bde ∧ (State.openWindow s p).hma = s.hma ∧ (State.openWindow s p).rfg = s.rfg ∧
    (State.openWindow s p).atr = s.atr ∧ (State.openWindow s p).rfu = s.rfu ∧ (State.openWindow s p).cby = s.cby ∧
    (State.openWindow s p).cru = s.cru ∧ (State.openWindow s p).otp = s.otp ∧ (State.openWindow s p).emb = s.emb ∧
    (State.openWindow s p).wwu = s.wwu ∧ (State.openWindow s p).draws = s.draws ∧ (State.openWindow s p).pending = s.pending := by
  unfold State.openWindow; (repeat' split) <;> (try dsimp only) <;> (repeat' split) <;> simp

/-- State.waitEnds writes apa, lgb at most. -/
@[simp] theorem State.waitEnds_keeps (s : State) (p : Nat) :
    (State.waitEnds s p).spn = s.spn ∧ (State.waitEnds s p).boot = s.boot ∧ (State.waitEnds s p).strs = s.strs ∧
    (State.waitEnds s p).pol = s.pol ∧ (State.waitEnds s p).fit = s.fit ∧ (State.waitEnds s p).bde = s.bde ∧
    (State.waitEnds s p).hma = s.hma ∧ (State.waitEnds s p).cme = s.cme ∧ (State.waitEnds s p).rfg = s.rfg ∧
    (State.waitEnds s p).atr = s.atr ∧ (State.waitEnds s p).rfu = s.rfu ∧ (State.waitEnds s p).cby = s.cby ∧
    (State.waitEnds s p).cru = s.cru ∧ (State.waitEnds s p).otp = s.otp ∧ (State.waitEnds s p).emb = s.emb ∧
    (State.waitEnds s p).wwu = s.wwu ∧ (State.waitEnds s p).io = s.io ∧ (State.waitEnds s p).draws = s.draws ∧
    (State.waitEnds s p).pending = s.pending := by
  simp [State.waitEnds]

/-- State.enterOwn writes spn, apa, fit, cme, lgb, io at most. -/
@[simp] theorem State.enterOwn_keeps (s : State) (p : Nat) :
    (State.enterOwn s p).boot = s.boot ∧ (State.enterOwn s p).strs = s.strs ∧ (State.enterOwn s p).pol = s.pol ∧
    (State.enterOwn s p).bde = s.bde ∧ (State.enterOwn s p).hma = s.hma ∧ (State.enterOwn s p).rfg = s.rfg ∧
    (State.enterOwn s p).atr = s.atr ∧ (State.enterOwn s p).rfu = s.rfu ∧ (State.enterOwn s p).cby = s.cby ∧
    (State.enterOwn s p).cru = s.cru ∧ (State.enterOwn s p).otp = s.otp ∧ (State.enterOwn s p).emb = s.emb ∧
    (State.enterOwn s p).wwu = s.wwu ∧ (State.enterOwn s p).draws = s.draws ∧ (State.enterOwn s p).pending = s.pending := by
  simp [State.enterOwn]

/-- State.commitPending writes spn, apa, fit, cme, lgb, io at most. -/
@[simp] theorem State.commitPending_keeps (s : State) (p : Nat) :
    (State.commitPending s p).boot = s.boot ∧ (State.commitPending s p).strs = s.strs ∧
    (State.commitPending s p).pol = s.pol ∧ (State.commitPending s p).bde = s.bde ∧ (State.commitPending s p).hma = s.hma ∧
    (State.commitPending s p).rfg = s.rfg ∧ (State.commitPending s p).atr = s.atr ∧ (State.commitPending s p).rfu = s.rfu ∧
    (State.commitPending s p).cby = s.cby ∧ (State.commitPending s p).cru = s.cru ∧ (State.commitPending s p).otp = s.otp ∧
    (State.commitPending s p).emb = s.emb ∧ (State.commitPending s p).wwu = s.wwu ∧
    (State.commitPending s p).draws = s.draws ∧ (State.commitPending s p).pending = s.pending := by
  unfold State.commitPending; dsimp only; (repeat' split) <;> simp

/-- State.updScan writes fit at most. -/
@[simp] theorem State.updScan_keeps (s : State) (x : Scan) (f : Scan → Scan) :
    (State.updScan s x f).spn = s.spn ∧ (State.updScan s x f).boot = s.boot ∧ (State.updScan s x f).strs = s.strs ∧
    (State.updScan s x f).apa = s.apa ∧ (State.updScan s x f).pol = s.pol ∧ (State.updScan s x f).bde = s.bde ∧
    (State.updScan s x f).hma = s.hma ∧ (State.updScan s x f).cme = s.cme ∧ (State.updScan s x f).rfg = s.rfg ∧
    (State.updScan s x f).atr = s.atr ∧ (State.updScan s x f).rfu = s.rfu ∧ (State.updScan s x f).cby = s.cby ∧
    (State.updScan s x f).cru = s.cru ∧ (State.updScan s x f).otp = s.otp ∧ (State.updScan s x f).emb = s.emb ∧
    (State.updScan s x f).wwu = s.wwu ∧ (State.updScan s x f).lgb = s.lgb ∧ (State.updScan s x f).io = s.io ∧
    (State.updScan s x f).draws = s.draws ∧ (State.updScan s x f).pending = s.pending := by
  simp [State.updScan]

/-- State.dropScan writes spn, fit, cme, lgb at most. -/
@[simp] theorem State.dropScan_keeps (s : State) (x : Scan) :
    (State.dropScan s x).boot = s.boot ∧ (State.dropScan s x).strs = s.strs ∧ (State.dropScan s x).apa = s.apa ∧
    (State.dropScan s x).pol = s.pol ∧ (State.dropScan s x).bde = s.bde ∧ (State.dropScan s x).hma = s.hma ∧
    (State.dropScan s x).rfg = s.rfg ∧ (State.dropScan s x).atr = s.atr ∧ (State.dropScan s x).rfu = s.rfu ∧
    (State.dropScan s x).cby = s.cby ∧ (State.dropScan s x).cru = s.cru ∧ (State.dropScan s x).otp = s.otp ∧
    (State.dropScan s x).emb = s.emb ∧ (State.dropScan s x).wwu = s.wwu ∧ (State.dropScan s x).io = s.io ∧
    (State.dropScan s x).draws = s.draws ∧ (State.dropScan s x).pending = s.pending := by
  simp [State.dropScan]

/-- State.pauseForCap writes spn, fit, cme, lgb at most. -/
@[simp] theorem State.pauseForCap_keeps (s : State) :
    (State.pauseForCap s).boot = s.boot ∧ (State.pauseForCap s).strs = s.strs ∧ (State.pauseForCap s).apa = s.apa ∧
    (State.pauseForCap s).pol = s.pol ∧ (State.pauseForCap s).bde = s.bde ∧ (State.pauseForCap s).hma = s.hma ∧
    (State.pauseForCap s).rfg = s.rfg ∧ (State.pauseForCap s).atr = s.atr ∧ (State.pauseForCap s).rfu = s.rfu ∧
    (State.pauseForCap s).cby = s.cby ∧ (State.pauseForCap s).cru = s.cru ∧ (State.pauseForCap s).otp = s.otp ∧
    (State.pauseForCap s).emb = s.emb ∧ (State.pauseForCap s).wwu = s.wwu ∧ (State.pauseForCap s).io = s.io ∧
    (State.pauseForCap s).draws = s.draws ∧ (State.pauseForCap s).pending = s.pending := by
  simp [State.pauseForCap]

/-- State.judgeRemeasure writes strs, apa, fit, cme, atr, rfu, wwu, lgb, io at most. -/
@[simp] theorem State.judgeRemeasure_keeps (s : State) (d : Nat) :
    (State.judgeRemeasure s d).spn = s.spn ∧ (State.judgeRemeasure s d).boot = s.boot ∧
    (State.judgeRemeasure s d).pol = s.pol ∧ (State.judgeRemeasure s d).bde = s.bde ∧
    (State.judgeRemeasure s d).hma = s.hma ∧ (State.judgeRemeasure s d).rfg = s.rfg ∧
    (State.judgeRemeasure s d).cby = s.cby ∧ (State.judgeRemeasure s d).cru = s.cru ∧
    (State.judgeRemeasure s d).otp = s.otp ∧ (State.judgeRemeasure s d).emb = s.emb ∧
    (State.judgeRemeasure s d).draws = s.draws ∧ (State.judgeRemeasure s d).pending = s.pending := by
  unfold State.judgeRemeasure; (repeat' split) <;> (try dsimp only) <;> (repeat' split) <;> simp

/-- State.endScan writes spn, strs, apa, fit, bde, cme, atr, rfu, wwu, lgb, io at most. -/
@[simp] theorem State.endScan_keeps (s : State) (x : Scan) :
    (State.endScan s x).boot = s.boot ∧ (State.endScan s x).pol = s.pol ∧ (State.endScan s x).hma = s.hma ∧
    (State.endScan s x).rfg = s.rfg ∧ (State.endScan s x).cby = s.cby ∧ (State.endScan s x).cru = s.cru ∧
    (State.endScan s x).otp = s.otp ∧ (State.endScan s x).emb = s.emb ∧ (State.endScan s x).draws = s.draws ∧
    (State.endScan s x).pending = s.pending := by
  unfold State.endScan; dsimp only; (repeat' split) <;> simp

/-- State.wrongPart writes spn, strs, apa, fit, bde, cme, atr, rfu, wwu, lgb, io at most. -/
@[simp] theorem State.wrongPart_keeps (s : State) (x : Scan) :
    (State.wrongPart s x).boot = s.boot ∧ (State.wrongPart s x).pol = s.pol ∧ (State.wrongPart s x).hma = s.hma ∧
    (State.wrongPart s x).rfg = s.rfg ∧ (State.wrongPart s x).cby = s.cby ∧ (State.wrongPart s x).cru = s.cru ∧
    (State.wrongPart s x).otp = s.otp ∧ (State.wrongPart s x).emb = s.emb ∧ (State.wrongPart s x).draws = s.draws ∧
    (State.wrongPart s x).pending = s.pending := by
  unfold State.wrongPart; dsimp only; (repeat' split) <;> simp

/-- State.releaseReset writes apa, fit at most. -/
@[simp] theorem State.releaseReset_keeps (s : State) (p : Nat) :
    (State.releaseReset s p).spn = s.spn ∧ (State.releaseReset s p).boot = s.boot ∧ (State.releaseReset s p).strs = s.strs ∧
    (State.releaseReset s p).pol = s.pol ∧ (State.releaseReset s p).bde = s.bde ∧ (State.releaseReset s p).hma = s.hma ∧
    (State.releaseReset s p).cme = s.cme ∧ (State.releaseReset s p).rfg = s.rfg ∧ (State.releaseReset s p).atr = s.atr ∧
    (State.releaseReset s p).rfu = s.rfu ∧ (State.releaseReset s p).cby = s.cby ∧ (State.releaseReset s p).cru = s.cru ∧
    (State.releaseReset s p).otp = s.otp ∧ (State.releaseReset s p).emb = s.emb ∧ (State.releaseReset s p).wwu = s.wwu ∧
    (State.releaseReset s p).lgb = s.lgb ∧ (State.releaseReset s p).io = s.io ∧ (State.releaseReset s p).draws = s.draws ∧
    (State.releaseReset s p).pending = s.pending := by
  simp [State.releaseReset]

/-- State.beginReset writes apa, fit, rfu, io at most. -/
@[simp] theorem State.beginReset_keeps (s : State) (x : Scan) :
    (State.beginReset s x).spn = s.spn ∧ (State.beginReset s x).boot = s.boot ∧ (State.beginReset s x).strs = s.strs ∧
    (State.beginReset s x).pol = s.pol ∧ (State.beginReset s x).bde = s.bde ∧ (State.beginReset s x).hma = s.hma ∧
    (State.beginReset s x).cme = s.cme ∧ (State.beginReset s x).rfg = s.rfg ∧ (State.beginReset s x).atr = s.atr ∧
    (State.beginReset s x).cby = s.cby ∧ (State.beginReset s x).cru = s.cru ∧ (State.beginReset s x).otp = s.otp ∧
    (State.beginReset s x).emb = s.emb ∧ (State.beginReset s x).wwu = s.wwu ∧ (State.beginReset s x).lgb = s.lgb ∧
    (State.beginReset s x).draws = s.draws ∧ (State.beginReset s x).pending = s.pending := by
  simp [State.beginReset]

/-- State.beginScan writes apa, fit, cme, io at most. -/
@[simp] theorem State.beginScan_keeps (s : State) (x : Scan) :
    (State.beginScan s x).spn = s.spn ∧ (State.beginScan s x).boot = s.boot ∧ (State.beginScan s x).strs = s.strs ∧
    (State.beginScan s x).pol = s.pol ∧ (State.beginScan s x).bde = s.bde ∧ (State.beginScan s x).hma = s.hma ∧
    (State.beginScan s x).rfg = s.rfg ∧ (State.beginScan s x).atr = s.atr ∧ (State.beginScan s x).rfu = s.rfu ∧
    (State.beginScan s x).cby = s.cby ∧ (State.beginScan s x).cru = s.cru ∧ (State.beginScan s x).otp = s.otp ∧
    (State.beginScan s x).emb = s.emb ∧ (State.beginScan s x).wwu = s.wwu ∧ (State.beginScan s x).lgb = s.lgb ∧
    (State.beginScan s x).draws = s.draws ∧ (State.beginScan s x).pending = s.pending := by
  simp [State.beginScan]

/-- State.beginStarts writes apa, fit, hma, cme, rfu, cby, cru, lgb, io at most. -/
@[simp] theorem State.beginStarts_keeps (s : State) (p : Nat) :
    (State.beginStarts s p).spn = s.spn ∧ (State.beginStarts s p).boot = s.boot ∧ (State.beginStarts s p).strs = s.strs ∧
    (State.beginStarts s p).pol = s.pol ∧ (State.beginStarts s p).bde = s.bde ∧ (State.beginStarts s p).rfg = s.rfg ∧
    (State.beginStarts s p).atr = s.atr ∧ (State.beginStarts s p).otp = s.otp ∧ (State.beginStarts s p).emb = s.emb ∧
    (State.beginStarts s p).wwu = s.wwu ∧ (State.beginStarts s p).draws = s.draws ∧
    (State.beginStarts s p).pending = s.pending := by
  unfold State.beginStarts; dsimp only; (repeat' split) <;> simp

/-- State.scanIdentified writes spn, strs, apa, fit, bde, hma, cme, atr, rfu, cby, cru, wwu, lgb, io at most. -/
@[simp] theorem State.scanIdentified_keeps (s : State) (x : Scan) (jedec sfdp : Bytes) :
    (State.scanIdentified s x jedec sfdp).boot = s.boot ∧ (State.scanIdentified s x jedec sfdp).pol = s.pol ∧
    (State.scanIdentified s x jedec sfdp).rfg = s.rfg ∧ (State.scanIdentified s x jedec sfdp).otp = s.otp ∧
    (State.scanIdentified s x jedec sfdp).emb = s.emb ∧ (State.scanIdentified s x jedec sfdp).draws = s.draws ∧
    (State.scanIdentified s x jedec sfdp).pending = s.pending := by
  simp [State.scanIdentified]

/-- State.identStep writes spn, strs, apa, fit, bde, hma, cme, atr, rfu, cby, cru, wwu, lgb, io at most. -/
@[simp] theorem State.identStep_keeps (s : State) (x : Scan) (jedec sfdp : Bytes) :
    (State.identStep s x jedec sfdp).boot = s.boot ∧ (State.identStep s x jedec sfdp).pol = s.pol ∧
    (State.identStep s x jedec sfdp).rfg = s.rfg ∧ (State.identStep s x jedec sfdp).otp = s.otp ∧
    (State.identStep s x jedec sfdp).emb = s.emb ∧ (State.identStep s x jedec sfdp).draws = s.draws ∧
    (State.identStep s x jedec sfdp).pending = s.pending := by
  unfold State.identStep; (repeat' split) <;> (try dsimp only) <;> (repeat' split) <;> simp

/-- State.scanBlock writes strs, apa, fit, cme, atr, rfu, wwu, lgb at most. -/
@[simp] theorem State.scanBlock_keeps (s : State) (x : Scan) (i : Nat) (data : Bytes) :
    (State.scanBlock s x i data).1.spn = s.spn ∧ (State.scanBlock s x i data).1.boot = s.boot ∧
    (State.scanBlock s x i data).1.pol = s.pol ∧ (State.scanBlock s x i data).1.bde = s.bde ∧
    (State.scanBlock s x i data).1.hma = s.hma ∧ (State.scanBlock s x i data).1.rfg = s.rfg ∧
    (State.scanBlock s x i data).1.cby = s.cby ∧ (State.scanBlock s x i data).1.cru = s.cru ∧
    (State.scanBlock s x i data).1.otp = s.otp ∧ (State.scanBlock s x i data).1.emb = s.emb ∧
    (State.scanBlock s x i data).1.io = s.io ∧ (State.scanBlock s x i data).1.draws = s.draws ∧
    (State.scanBlock s x i data).1.pending = s.pending := by
  simp [State.scanBlock]

/-- State.scanRead writes strs, apa, fit, cme, atr, rfu, wwu, lgb at most. -/
@[simp] theorem State.scanRead_keeps (s : State) (x : Scan) (l : List (Nat × Bytes)) :
    (State.scanRead s x l).1.spn = s.spn ∧ (State.scanRead s x l).1.boot = s.boot ∧ (State.scanRead s x l).1.pol = s.pol ∧
    (State.scanRead s x l).1.bde = s.bde ∧ (State.scanRead s x l).1.hma = s.hma ∧ (State.scanRead s x l).1.rfg = s.rfg ∧
    (State.scanRead s x l).1.cby = s.cby ∧ (State.scanRead s x l).1.cru = s.cru ∧ (State.scanRead s x l).1.otp = s.otp ∧
    (State.scanRead s x l).1.emb = s.emb ∧ (State.scanRead s x l).1.io = s.io ∧ (State.scanRead s x l).1.draws = s.draws ∧
    (State.scanRead s x l).1.pending = s.pending := by
  induction l generalizing s x with
  | nil => simp [State.scanRead]
  | cons e l ih => unfold State.scanRead; dsimp only; split <;> simp [ih]

/-- State.triggerSuperseded writes spn, strs, cme, lgb at most. -/
@[simp] theorem State.triggerSuperseded_keeps (s : State) (n : Nat) :
    (State.triggerSuperseded s n).boot = s.boot ∧ (State.triggerSuperseded s n).apa = s.apa ∧
    (State.triggerSuperseded s n).pol = s.pol ∧ (State.triggerSuperseded s n).fit = s.fit ∧
    (State.triggerSuperseded s n).bde = s.bde ∧ (State.triggerSuperseded s n).hma = s.hma ∧
    (State.triggerSuperseded s n).rfg = s.rfg ∧ (State.triggerSuperseded s n).atr = s.atr ∧
    (State.triggerSuperseded s n).rfu = s.rfu ∧ (State.triggerSuperseded s n).cby = s.cby ∧
    (State.triggerSuperseded s n).cru = s.cru ∧ (State.triggerSuperseded s n).otp = s.otp ∧
    (State.triggerSuperseded s n).emb = s.emb ∧ (State.triggerSuperseded s n).wwu = s.wwu ∧
    (State.triggerSuperseded s n).io = s.io ∧ (State.triggerSuperseded s n).draws = s.draws ∧
    (State.triggerSuperseded s n).pending = s.pending := by
  simp [State.triggerSuperseded]

/-- State.releaseDone writes strs, wwu, lgb at most. -/
@[simp] theorem State.releaseDone_keeps (s : State) (n : Nat) :
    (State.releaseDone s n).spn = s.spn ∧ (State.releaseDone s n).boot = s.boot ∧ (State.releaseDone s n).apa = s.apa ∧
    (State.releaseDone s n).pol = s.pol ∧ (State.releaseDone s n).fit = s.fit ∧ (State.releaseDone s n).bde = s.bde ∧
    (State.releaseDone s n).hma = s.hma ∧ (State.releaseDone s n).cme = s.cme ∧ (State.releaseDone s n).rfg = s.rfg ∧
    (State.releaseDone s n).atr = s.atr ∧ (State.releaseDone s n).rfu = s.rfu ∧ (State.releaseDone s n).cby = s.cby ∧
    (State.releaseDone s n).cru = s.cru ∧ (State.releaseDone s n).otp = s.otp ∧ (State.releaseDone s n).emb = s.emb ∧
    (State.releaseDone s n).io = s.io ∧ (State.releaseDone s n).draws = s.draws ∧
    (State.releaseDone s n).pending = s.pending := by
  simp [State.releaseDone]

/-- State.sequenceEnd writes strs, wwu, lgb at most. -/
@[simp] theorem State.sequenceEnd_keeps (s : State) (n : Nat) :
    (State.sequenceEnd s n).spn = s.spn ∧ (State.sequenceEnd s n).boot = s.boot ∧ (State.sequenceEnd s n).apa = s.apa ∧
    (State.sequenceEnd s n).pol = s.pol ∧ (State.sequenceEnd s n).fit = s.fit ∧ (State.sequenceEnd s n).bde = s.bde ∧
    (State.sequenceEnd s n).hma = s.hma ∧ (State.sequenceEnd s n).cme = s.cme ∧ (State.sequenceEnd s n).rfg = s.rfg ∧
    (State.sequenceEnd s n).atr = s.atr ∧ (State.sequenceEnd s n).rfu = s.rfu ∧ (State.sequenceEnd s n).cby = s.cby ∧
    (State.sequenceEnd s n).cru = s.cru ∧ (State.sequenceEnd s n).otp = s.otp ∧ (State.sequenceEnd s n).emb = s.emb ∧
    (State.sequenceEnd s n).io = s.io ∧ (State.sequenceEnd s n).draws = s.draws ∧
    (State.sequenceEnd s n).pending = s.pending := by
  unfold State.sequenceEnd; dsimp only; (repeat' split) <;> simp

/-- State.releaseEdges writes strs at most. -/
@[simp] theorem State.releaseEdges_keeps (s : State) (n : Nat) :
    (State.releaseEdges s n).spn = s.spn ∧ (State.releaseEdges s n).boot = s.boot ∧ (State.releaseEdges s n).apa = s.apa ∧
    (State.releaseEdges s n).pol = s.pol ∧ (State.releaseEdges s n).fit = s.fit ∧ (State.releaseEdges s n).bde = s.bde ∧
    (State.releaseEdges s n).hma = s.hma ∧ (State.releaseEdges s n).cme = s.cme ∧ (State.releaseEdges s n).rfg = s.rfg ∧
    (State.releaseEdges s n).atr = s.atr ∧ (State.releaseEdges s n).rfu = s.rfu ∧ (State.releaseEdges s n).cby = s.cby ∧
    (State.releaseEdges s n).cru = s.cru ∧ (State.releaseEdges s n).otp = s.otp ∧ (State.releaseEdges s n).emb = s.emb ∧
    (State.releaseEdges s n).wwu = s.wwu ∧ (State.releaseEdges s n).lgb = s.lgb ∧ (State.releaseEdges s n).io = s.io ∧
    (State.releaseEdges s n).draws = s.draws ∧ (State.releaseEdges s n).pending = s.pending := by
  simp [State.releaseEdges]

/-- State.releaseSlot writes spn, strs, apa, cme, atr, wwu, lgb at most. -/
@[simp] theorem State.releaseSlot_keeps (s : State) (n : Nat) :
    (State.releaseSlot s n).boot = s.boot ∧ (State.releaseSlot s n).pol = s.pol ∧ (State.releaseSlot s n).fit = s.fit ∧
    (State.releaseSlot s n).bde = s.bde ∧ (State.releaseSlot s n).hma = s.hma ∧ (State.releaseSlot s n).rfg = s.rfg ∧
    (State.releaseSlot s n).rfu = s.rfu ∧ (State.releaseSlot s n).cby = s.cby ∧ (State.releaseSlot s n).cru = s.cru ∧
    (State.releaseSlot s n).otp = s.otp ∧ (State.releaseSlot s n).emb = s.emb ∧ (State.releaseSlot s n).io = s.io ∧
    (State.releaseSlot s n).draws = s.draws ∧ (State.releaseSlot s n).pending = s.pending := by
  simp [State.releaseSlot]

/-- State.applyDue writes strs at most. -/
@[simp] theorem State.applyDue_keeps (s : State) (i : Nat) :
    (State.applyDue s i).spn = s.spn ∧ (State.applyDue s i).boot = s.boot ∧ (State.applyDue s i).apa = s.apa ∧
    (State.applyDue s i).pol = s.pol ∧ (State.applyDue s i).fit = s.fit ∧ (State.applyDue s i).bde = s.bde ∧
    (State.applyDue s i).hma = s.hma ∧ (State.applyDue s i).cme = s.cme ∧ (State.applyDue s i).rfg = s.rfg ∧
    (State.applyDue s i).atr = s.atr ∧ (State.applyDue s i).rfu = s.rfu ∧ (State.applyDue s i).cby = s.cby ∧
    (State.applyDue s i).cru = s.cru ∧ (State.applyDue s i).otp = s.otp ∧ (State.applyDue s i).emb = s.emb ∧
    (State.applyDue s i).wwu = s.wwu ∧ (State.applyDue s i).lgb = s.lgb ∧ (State.applyDue s i).io = s.io ∧
    (State.applyDue s i).draws = s.draws ∧ (State.applyDue s i).pending = s.pending := by
  unfold State.applyDue; (repeat' split) <;> (try dsimp only) <;> (repeat' split) <;> simp

/-- State.moveString writes strs, wwu, lgb at most. -/
@[simp] theorem State.moveString_keeps (s : State) (i : Nat) :
    (State.moveString s i).spn = s.spn ∧ (State.moveString s i).boot = s.boot ∧ (State.moveString s i).apa = s.apa ∧
    (State.moveString s i).pol = s.pol ∧ (State.moveString s i).fit = s.fit ∧ (State.moveString s i).bde = s.bde ∧
    (State.moveString s i).hma = s.hma ∧ (State.moveString s i).cme = s.cme ∧ (State.moveString s i).rfg = s.rfg ∧
    (State.moveString s i).atr = s.atr ∧ (State.moveString s i).rfu = s.rfu ∧ (State.moveString s i).cby = s.cby ∧
    (State.moveString s i).cru = s.cru ∧ (State.moveString s i).otp = s.otp ∧ (State.moveString s i).emb = s.emb ∧
    (State.moveString s i).io = s.io ∧ (State.moveString s i).draws = s.draws ∧ (State.moveString s i).pending = s.pending := by
  unfold State.moveString; dsimp only; (repeat' split) <;> simp

/-- State.samplePg writes strs at most. -/
@[simp] theorem State.samplePg_keeps (s : State) (i : Nat) :
    (State.samplePg s i).spn = s.spn ∧ (State.samplePg s i).boot = s.boot ∧ (State.samplePg s i).apa = s.apa ∧
    (State.samplePg s i).pol = s.pol ∧ (State.samplePg s i).fit = s.fit ∧ (State.samplePg s i).bde = s.bde ∧
    (State.samplePg s i).hma = s.hma ∧ (State.samplePg s i).cme = s.cme ∧ (State.samplePg s i).rfg = s.rfg ∧
    (State.samplePg s i).atr = s.atr ∧ (State.samplePg s i).rfu = s.rfu ∧ (State.samplePg s i).cby = s.cby ∧
    (State.samplePg s i).cru = s.cru ∧ (State.samplePg s i).otp = s.otp ∧ (State.samplePg s i).emb = s.emb ∧
    (State.samplePg s i).wwu = s.wwu ∧ (State.samplePg s i).lgb = s.lgb ∧ (State.samplePg s i).io = s.io ∧
    (State.samplePg s i).draws = s.draws ∧ (State.samplePg s i).pending = s.pending := by
  simp [State.samplePg]

/-- State.serveExpander writes strs, wwu, lgb at most. -/
@[simp] theorem State.serveExpander_keeps (s : State) (b e : Nat) :
    (State.serveExpander s b e).spn = s.spn ∧ (State.serveExpander s b e).boot = s.boot ∧
    (State.serveExpander s b e).apa = s.apa ∧ (State.serveExpander s b e).pol = s.pol ∧
    (State.serveExpander s b e).fit = s.fit ∧ (State.serveExpander s b e).bde = s.bde ∧
    (State.serveExpander s b e).hma = s.hma ∧ (State.serveExpander s b e).cme = s.cme ∧
    (State.serveExpander s b e).rfg = s.rfg ∧ (State.serveExpander s b e).atr = s.atr ∧
    (State.serveExpander s b e).rfu = s.rfu ∧ (State.serveExpander s b e).cby = s.cby ∧
    (State.serveExpander s b e).cru = s.cru ∧ (State.serveExpander s b e).otp = s.otp ∧
    (State.serveExpander s b e).emb = s.emb ∧ (State.serveExpander s b e).io = s.io ∧
    (State.serveExpander s b e).draws = s.draws ∧ (State.serveExpander s b e).pending = s.pending := by
  simp [State.serveExpander]

/-- State.resetBus writes strs at most. -/
@[simp] theorem State.resetBus_keeps (s : State) (b : Nat) :
    (State.resetBus s b).spn = s.spn ∧ (State.resetBus s b).boot = s.boot ∧ (State.resetBus s b).apa = s.apa ∧
    (State.resetBus s b).pol = s.pol ∧ (State.resetBus s b).fit = s.fit ∧ (State.resetBus s b).bde = s.bde ∧
    (State.resetBus s b).hma = s.hma ∧ (State.resetBus s b).cme = s.cme ∧ (State.resetBus s b).rfg = s.rfg ∧
    (State.resetBus s b).atr = s.atr ∧ (State.resetBus s b).rfu = s.rfu ∧ (State.resetBus s b).cby = s.cby ∧
    (State.resetBus s b).cru = s.cru ∧ (State.resetBus s b).otp = s.otp ∧ (State.resetBus s b).emb = s.emb ∧
    (State.resetBus s b).wwu = s.wwu ∧ (State.resetBus s b).lgb = s.lgb ∧ (State.resetBus s b).io = s.io ∧
    (State.resetBus s b).draws = s.draws ∧ (State.resetBus s b).pending = s.pending := by
  unfold State.resetBus; dsimp only; (repeat' split) <;> simp

/-- State.isolateBus writes strs, apa, atr, wwu, lgb at most. -/
@[simp] theorem State.isolateBus_keeps (s : State) (b : Nat) :
    (State.isolateBus s b).spn = s.spn ∧ (State.isolateBus s b).boot = s.boot ∧ (State.isolateBus s b).pol = s.pol ∧
    (State.isolateBus s b).fit = s.fit ∧ (State.isolateBus s b).bde = s.bde ∧ (State.isolateBus s b).hma = s.hma ∧
    (State.isolateBus s b).cme = s.cme ∧ (State.isolateBus s b).rfg = s.rfg ∧ (State.isolateBus s b).rfu = s.rfu ∧
    (State.isolateBus s b).cby = s.cby ∧ (State.isolateBus s b).cru = s.cru ∧ (State.isolateBus s b).otp = s.otp ∧
    (State.isolateBus s b).emb = s.emb ∧ (State.isolateBus s b).io = s.io ∧ (State.isolateBus s b).draws = s.draws ∧
    (State.isolateBus s b).pending = s.pending := by
  unfold State.isolateBus; dsimp only; (repeat' split) <;> simp

/-- State.logLate writes lgb at most. -/
@[simp] theorem State.logLate_keeps (s : State) (b e : Nat) :
    (State.logLate s b e).spn = s.spn ∧ (State.logLate s b e).boot = s.boot ∧ (State.logLate s b e).strs = s.strs ∧
    (State.logLate s b e).apa = s.apa ∧ (State.logLate s b e).pol = s.pol ∧ (State.logLate s b e).fit = s.fit ∧
    (State.logLate s b e).bde = s.bde ∧ (State.logLate s b e).hma = s.hma ∧ (State.logLate s b e).cme = s.cme ∧
    (State.logLate s b e).rfg = s.rfg ∧ (State.logLate s b e).atr = s.atr ∧ (State.logLate s b e).rfu = s.rfu ∧
    (State.logLate s b e).cby = s.cby ∧ (State.logLate s b e).cru = s.cru ∧ (State.logLate s b e).otp = s.otp ∧
    (State.logLate s b e).emb = s.emb ∧ (State.logLate s b e).wwu = s.wwu ∧ (State.logLate s b e).io = s.io ∧
    (State.logLate s b e).draws = s.draws ∧ (State.logLate s b e).pending = s.pending := by
  simp [State.logLate]

/-- State.slackReset writes strs at most. -/
@[simp] theorem State.slackReset_keeps (s : State) (b : Nat) :
    (State.slackReset s b).spn = s.spn ∧ (State.slackReset s b).boot = s.boot ∧ (State.slackReset s b).apa = s.apa ∧
    (State.slackReset s b).pol = s.pol ∧ (State.slackReset s b).fit = s.fit ∧ (State.slackReset s b).bde = s.bde ∧
    (State.slackReset s b).hma = s.hma ∧ (State.slackReset s b).cme = s.cme ∧ (State.slackReset s b).rfg = s.rfg ∧
    (State.slackReset s b).atr = s.atr ∧ (State.slackReset s b).rfu = s.rfu ∧ (State.slackReset s b).cby = s.cby ∧
    (State.slackReset s b).cru = s.cru ∧ (State.slackReset s b).otp = s.otp ∧ (State.slackReset s b).emb = s.emb ∧
    (State.slackReset s b).wwu = s.wwu ∧ (State.slackReset s b).lgb = s.lgb ∧ (State.slackReset s b).io = s.io ∧
    (State.slackReset s b).draws = s.draws ∧ (State.slackReset s b).pending = s.pending := by
  unfold State.slackReset; (repeat' split) <;> (try dsimp only) <;> (repeat' split) <;> simp

/-- State.endIsolation writes strs, fit, atr, lgb at most. -/
@[simp] theorem State.endIsolation_keeps (t : State) (n b : Nat) :
    (State.endIsolation t n b).spn = t.spn ∧ (State.endIsolation t n b).boot = t.boot ∧
    (State.endIsolation t n b).apa = t.apa ∧ (State.endIsolation t n b).pol = t.pol ∧
    (State.endIsolation t n b).bde = t.bde ∧ (State.endIsolation t n b).hma = t.hma ∧
    (State.endIsolation t n b).cme = t.cme ∧ (State.endIsolation t n b).rfg = t.rfg ∧
    (State.endIsolation t n b).rfu = t.rfu ∧ (State.endIsolation t n b).cby = t.cby ∧
    (State.endIsolation t n b).cru = t.cru ∧ (State.endIsolation t n b).otp = t.otp ∧
    (State.endIsolation t n b).emb = t.emb ∧ (State.endIsolation t n b).wwu = t.wwu ∧ (State.endIsolation t n b).io = t.io ∧
    (State.endIsolation t n b).draws = t.draws ∧ (State.endIsolation t n b).pending = t.pending := by
  simp [State.endIsolation]

/-- State.busUp writes strs, fit, atr, lgb at most. -/
@[simp] theorem State.busUp_keeps (s : State) (b : Nat) :
    (State.busUp s b).spn = s.spn ∧ (State.busUp s b).boot = s.boot ∧ (State.busUp s b).apa = s.apa ∧
    (State.busUp s b).pol = s.pol ∧ (State.busUp s b).bde = s.bde ∧ (State.busUp s b).hma = s.hma ∧
    (State.busUp s b).cme = s.cme ∧ (State.busUp s b).rfg = s.rfg ∧ (State.busUp s b).rfu = s.rfu ∧
    (State.busUp s b).cby = s.cby ∧ (State.busUp s b).cru = s.cru ∧ (State.busUp s b).otp = s.otp ∧
    (State.busUp s b).emb = s.emb ∧ (State.busUp s b).wwu = s.wwu ∧ (State.busUp s b).io = s.io ∧
    (State.busUp s b).draws = s.draws ∧ (State.busUp s b).pending = s.pending := by
  simp [State.busUp]

/-- State.bringUp writes strs at most. -/
@[simp] theorem State.bringUp_keeps (s : State) (b : Nat) :
    (State.bringUp s b).spn = s.spn ∧ (State.bringUp s b).boot = s.boot ∧ (State.bringUp s b).apa = s.apa ∧
    (State.bringUp s b).pol = s.pol ∧ (State.bringUp s b).fit = s.fit ∧ (State.bringUp s b).bde = s.bde ∧
    (State.bringUp s b).hma = s.hma ∧ (State.bringUp s b).cme = s.cme ∧ (State.bringUp s b).rfg = s.rfg ∧
    (State.bringUp s b).atr = s.atr ∧ (State.bringUp s b).rfu = s.rfu ∧ (State.bringUp s b).cby = s.cby ∧
    (State.bringUp s b).cru = s.cru ∧ (State.bringUp s b).otp = s.otp ∧ (State.bringUp s b).emb = s.emb ∧
    (State.bringUp s b).wwu = s.wwu ∧ (State.bringUp s b).lgb = s.lgb ∧ (State.bringUp s b).io = s.io ∧
    (State.bringUp s b).draws = s.draws ∧ (State.bringUp s b).pending = s.pending := by
  simp [State.bringUp]

/-- State.powerGoodLost writes strs, apa, atr, rfu, wwu, lgb at most. -/
@[simp] theorem State.powerGoodLost_keeps (s : State) (n string : Nat) :
    (State.powerGoodLost s n string).spn = s.spn ∧ (State.powerGoodLost s n string).boot = s.boot ∧
    (State.powerGoodLost s n string).pol = s.pol ∧ (State.powerGoodLost s n string).fit = s.fit ∧
    (State.powerGoodLost s n string).bde = s.bde ∧ (State.powerGoodLost s n string).hma = s.hma ∧
    (State.powerGoodLost s n string).cme = s.cme ∧ (State.powerGoodLost s n string).rfg = s.rfg ∧
    (State.powerGoodLost s n string).cby = s.cby ∧ (State.powerGoodLost s n string).cru = s.cru ∧
    (State.powerGoodLost s n string).otp = s.otp ∧ (State.powerGoodLost s n string).emb = s.emb ∧
    (State.powerGoodLost s n string).io = s.io ∧ (State.powerGoodLost s n string).draws = s.draws ∧
    (State.powerGoodLost s n string).pending = s.pending := by
  simp [State.powerGoodLost]

/-- State.gateAccepted writes strs, wwu, lgb at most. -/
@[simp] theorem State.gateAccepted_keeps (s : State) (n : Nat) :
    (State.gateAccepted s n).spn = s.spn ∧ (State.gateAccepted s n).boot = s.boot ∧ (State.gateAccepted s n).apa = s.apa ∧
    (State.gateAccepted s n).pol = s.pol ∧ (State.gateAccepted s n).fit = s.fit ∧ (State.gateAccepted s n).bde = s.bde ∧
    (State.gateAccepted s n).hma = s.hma ∧ (State.gateAccepted s n).cme = s.cme ∧ (State.gateAccepted s n).rfg = s.rfg ∧
    (State.gateAccepted s n).atr = s.atr ∧ (State.gateAccepted s n).rfu = s.rfu ∧ (State.gateAccepted s n).cby = s.cby ∧
    (State.gateAccepted s n).cru = s.cru ∧ (State.gateAccepted s n).otp = s.otp ∧ (State.gateAccepted s n).emb = s.emb ∧
    (State.gateAccepted s n).io = s.io ∧ (State.gateAccepted s n).draws = s.draws ∧
    (State.gateAccepted s n).pending = s.pending := by
  simp [State.gateAccepted]

end Sys2Proof.Machine
end

