-- ==== Sys2Proof/Laws/Frames4.lean ====
section
/-! SUPPORT. Which fields of the state the operations of Reforge, Tamper, Policy, Logbook, Time, Boot, Firmware leave as they were. -/
namespace Sys2Proof.Machine

/-- State.chooseSource writes rfu at most. -/
@[simp] theorem State.chooseSource_keeps (s : State) (d source cartSlot hostBase : Nat) (x : RawManifest) :
    (State.chooseSource s d source cartSlot hostBase x).spn = s.spn ∧
    (State.chooseSource s d source cartSlot hostBase x).boot = s.boot ∧
    (State.chooseSource s d source cartSlot hostBase x).strs = s.strs ∧
    (State.chooseSource s d source cartSlot hostBase x).apa = s.apa ∧
    (State.chooseSource s d source cartSlot hostBase x).pol = s.pol ∧
    (State.chooseSource s d source cartSlot hostBase x).fit = s.fit ∧
    (State.chooseSource s d source cartSlot hostBase x).bde = s.bde ∧
    (State.chooseSource s d source cartSlot hostBase x).hma = s.hma ∧
    (State.chooseSource s d source cartSlot hostBase x).cme = s.cme ∧
    (State.chooseSource s d source cartSlot hostBase x).rfg = s.rfg ∧
    (State.chooseSource s d source cartSlot hostBase x).atr = s.atr ∧
    (State.chooseSource s d source cartSlot hostBase x).cby = s.cby ∧
    (State.chooseSource s d source cartSlot hostBase x).cru = s.cru ∧
    (State.chooseSource s d source cartSlot hostBase x).otp = s.otp ∧
    (State.chooseSource s d source cartSlot hostBase x).emb = s.emb ∧
    (State.chooseSource s d source cartSlot hostBase x).wwu = s.wwu ∧
    (State.chooseSource s d source cartSlot hostBase x).lgb = s.lgb ∧
    (State.chooseSource s d source cartSlot hostBase x).io = s.io ∧
    (State.chooseSource s d source cartSlot hostBase x).draws = s.draws ∧
    (State.chooseSource s d source cartSlot hostBase x).pending = s.pending := by
  simp [State.chooseSource]

/-- State.trySources writes hma, cme, rfu, cby, lgb at most. -/
@[simp] theorem State.trySources_keeps (s : State) (d : Nat) (manifests : List (Nat × Bytes)) (v : Nat) (l : List (Nat × CatEntry)) :
    (State.trySources s d manifests v l).1.spn = s.spn ∧ (State.trySources s d manifests v l).1.boot = s.boot ∧
    (State.trySources s d manifests v l).1.strs = s.strs ∧ (State.trySources s d manifests v l).1.apa = s.apa ∧
    (State.trySources s d manifests v l).1.pol = s.pol ∧ (State.trySources s d manifests v l).1.fit = s.fit ∧
    (State.trySources s d manifests v l).1.bde = s.bde ∧ (State.trySources s d manifests v l).1.rfg = s.rfg ∧
    (State.trySources s d manifests v l).1.atr = s.atr ∧ (State.trySources s d manifests v l).1.cru = s.cru ∧
    (State.trySources s d manifests v l).1.otp = s.otp ∧ (State.trySources s d manifests v l).1.emb = s.emb ∧
    (State.trySources s d manifests v l).1.wwu = s.wwu ∧ (State.trySources s d manifests v l).1.io = s.io ∧
    (State.trySources s d manifests v l).1.draws = s.draws ∧ (State.trySources s d manifests v l).1.pending = s.pending := by
  induction l generalizing s v with
  | nil => simp [State.trySources]
  | cons e l ih =>
    unfold State.trySources
    dsimp only
    split
    · simp [ih]
    · split <;> simp [ih, State.judgeManifest_to ‹_›]

/-- State.wantSource writes cme, rfu, lgb at most. -/
@[simp] theorem State.wantSource_keeps (s : State) (d : Nat) :
    (State.wantSource s d).spn = s.spn ∧ (State.wantSource s d).boot = s.boot ∧ (State.wantSource s d).strs = s.strs ∧
    (State.wantSource s d).apa = s.apa ∧ (State.wantSource s d).pol = s.pol ∧ (State.wantSource s d).fit = s.fit ∧
    (State.wantSource s d).bde = s.bde ∧ (State.wantSource s d).hma = s.hma ∧ (State.wantSource s d).rfg = s.rfg ∧
    (State.wantSource s d).atr = s.atr ∧ (State.wantSource s d).cby = s.cby ∧ (State.wantSource s d).cru = s.cru ∧
    (State.wantSource s d).otp = s.otp ∧ (State.wantSource s d).emb = s.emb ∧ (State.wantSource s d).wwu = s.wwu ∧
    (State.wantSource s d).io = s.io ∧ (State.wantSource s d).draws = s.draws ∧ (State.wantSource s d).pending = s.pending := by
  simp [State.wantSource]

/-- State.searchHost writes strs, apa, fit, cme, atr, rfu, wwu, lgb, io at most. -/
@[simp] theorem State.searchHost_keeps (s : State) (d n : Nat) :
    (State.searchHost s d n).spn = s.spn ∧ (State.searchHost s d n).boot = s.boot ∧ (State.searchHost s d n).pol = s.pol ∧
    (State.searchHost s d n).bde = s.bde ∧ (State.searchHost s d n).hma = s.hma ∧ (State.searchHost s d n).rfg = s.rfg ∧
    (State.searchHost s d n).cby = s.cby ∧ (State.searchHost s d n).cru = s.cru ∧ (State.searchHost s d n).otp = s.otp ∧
    (State.searchHost s d n).emb = s.emb ∧ (State.searchHost s d n).draws = s.draws ∧
    (State.searchHost s d n).pending = s.pending := by
  simp [State.searchHost]

/-- State.search writes strs, apa, fit, hma, cme, atr, rfu, cby, wwu, lgb, io at most. -/
@[simp] theorem State.search_keeps (s : State) (d : Nat) (manifests : List (Nat × Bytes)) (verdicts : Nat) :
    (State.search s d manifests verdicts).spn = s.spn ∧ (State.search s d manifests verdicts).boot = s.boot ∧
    (State.search s d manifests verdicts).pol = s.pol ∧ (State.search s d manifests verdicts).bde = s.bde ∧
    (State.search s d manifests verdicts).rfg = s.rfg ∧ (State.search s d manifests verdicts).cru = s.cru ∧
    (State.search s d manifests verdicts).otp = s.otp ∧ (State.search s d manifests verdicts).emb = s.emb ∧
    (State.search s d manifests verdicts).draws = s.draws ∧ (State.search s d manifests verdicts).pending = s.pending := by
  unfold State.search; (repeat' split) <;> (try dsimp only) <;> (repeat' split) <;> simp

/-- State.beginOp writes strs, apa, fit, hma, cme, atr, rfu, cby, wwu, lgb, io at most. -/
@[simp] theorem State.beginOp_keeps (s : State) (d position : Nat) (manifests : List (Nat × Bytes)) (verdicts : Nat) :
    (State.beginOp s d position manifests verdicts).spn = s.spn ∧
    (State.beginOp s d position manifests verdicts).boot = s.boot ∧
    (State.beginOp s d position manifests verdicts).pol = s.pol ∧
    (State.beginOp s d position manifests verdicts).bde = s.bde ∧
    (State.beginOp s d position manifests verdicts).rfg = s.rfg ∧
    (State.beginOp s d position manifests verdicts).cru = s.cru ∧
    (State.beginOp s d position manifests verdicts).otp = s.otp ∧
    (State.beginOp s d position manifests verdicts).emb = s.emb ∧
    (State.beginOp s d position manifests verdicts).draws = s.draws ∧
    (State.beginOp s d position manifests verdicts).pending = s.pending := by
  unfold State.beginOp; dsimp only; (repeat' split) <;> simp

/-- State.resumeOps writes rfu at most. -/
@[simp] theorem State.resumeOps_keeps (s : State) :
    (State.resumeOps s).spn = s.spn ∧ (State.resumeOps s).boot = s.boot ∧ (State.resumeOps s).strs = s.strs ∧
    (State.resumeOps s).apa = s.apa ∧ (State.resumeOps s).pol = s.pol ∧ (State.resumeOps s).fit = s.fit ∧
    (State.resumeOps s).bde = s.bde ∧ (State.resumeOps s).hma = s.hma ∧ (State.resumeOps s).cme = s.cme ∧
    (State.resumeOps s).rfg = s.rfg ∧ (State.resumeOps s).atr = s.atr ∧ (State.resumeOps s).cby = s.cby ∧
    (State.resumeOps s).cru = s.cru ∧ (State.resumeOps s).otp = s.otp ∧ (State.resumeOps s).emb = s.emb ∧
    (State.resumeOps s).wwu = s.wwu ∧ (State.resumeOps s).lgb = s.lgb ∧ (State.resumeOps s).io = s.io ∧
    (State.resumeOps s).draws = s.draws ∧ (State.resumeOps s).pending = s.pending := by
  simp [State.resumeOps]

/-- State.countOperation writes apa at most. -/
@[simp] theorem State.countOperation_keeps (s : State) (p : Nat) :
    (State.countOperation s p).spn = s.spn ∧ (State.countOperation s p).boot = s.boot ∧
    (State.countOperation s p).strs = s.strs ∧ (State.countOperation s p).pol = s.pol ∧
    (State.countOperation s p).fit = s.fit ∧ (State.countOperation s p).bde = s.bde ∧
    (State.countOperation s p).hma = s.hma ∧ (State.countOperation s p).cme = s.cme ∧
    (State.countOperation s p).rfg = s.rfg ∧ (State.countOperation s p).atr = s.atr ∧
    (State.countOperation s p).rfu = s.rfu ∧ (State.countOperation s p).cby = s.cby ∧
    (State.countOperation s p).cru = s.cru ∧ (State.countOperation s p).otp = s.otp ∧
    (State.countOperation s p).emb = s.emb ∧ (State.countOperation s p).wwu = s.wwu ∧
    (State.countOperation s p).lgb = s.lgb ∧ (State.countOperation s p).io = s.io ∧
    (State.countOperation s p).draws = s.draws ∧ (State.countOperation s p).pending = s.pending := by
  simp [State.countOperation]

/-- State.writeCompleted writes apa, rfu at most. -/
@[simp] theorem State.writeCompleted_keeps (s : State) (d : Nat) :
    (State.writeCompleted s d).spn = s.spn ∧ (State.writeCompleted s d).boot = s.boot ∧
    (State.writeCompleted s d).strs = s.strs ∧ (State.writeCompleted s d).pol = s.pol ∧
    (State.writeCompleted s d).fit = s.fit ∧ (State.writeCompleted s d).bde = s.bde ∧
    (State.writeCompleted s d).hma = s.hma ∧ (State.writeCompleted s d).cme = s.cme ∧
    (State.writeCompleted s d).rfg = s.rfg ∧ (State.writeCompleted s d).atr = s.atr ∧
    (State.writeCompleted s d).cby = s.cby ∧ (State.writeCompleted s d).cru = s.cru ∧
    (State.writeCompleted s d).otp = s.otp ∧ (State.writeCompleted s d).emb = s.emb ∧
    (State.writeCompleted s d).wwu = s.wwu ∧ (State.writeCompleted s d).lgb = s.lgb ∧ (State.writeCompleted s d).io = s.io ∧
    (State.writeCompleted s d).draws = s.draws ∧ (State.writeCompleted s d).pending = s.pending := by
  simp [State.writeCompleted]

/-- State.shadowStatus writes strs, apa, pol, fit, bde, cme, atr, rfu, wwu, lgb at most. -/
@[simp] theorem State.shadowStatus_keeps (s : State) (d status : Nat) :
    (State.shadowStatus s d status).spn = s.spn ∧ (State.shadowStatus s d status).boot = s.boot ∧
    (State.shadowStatus s d status).hma = s.hma ∧ (State.shadowStatus s d status).rfg = s.rfg ∧
    (State.shadowStatus s d status).cby = s.cby ∧ (State.shadowStatus s d status).cru = s.cru ∧
    (State.shadowStatus s d status).otp = s.otp ∧ (State.shadowStatus s d status).emb = s.emb ∧
    (State.shadowStatus s d status).io = s.io ∧ (State.shadowStatus s d status).draws = s.draws ∧
    (State.shadowStatus s d status).pending = s.pending := by
  simp [State.shadowStatus]

/-- State.pollWrite writes strs, apa, pol, fit, bde, cme, atr, rfu, wwu, lgb, io at most. -/
@[simp] theorem State.pollWrite_keeps (s : State) (d status t : Nat) (o : RfuOp) :
    (State.pollWrite s d status t o).spn = s.spn ∧ (State.pollWrite s d status t o).boot = s.boot ∧
    (State.pollWrite s d status t o).hma = s.hma ∧ (State.pollWrite s d status t o).rfg = s.rfg ∧
    (State.pollWrite s d status t o).cby = s.cby ∧ (State.pollWrite s d status t o).cru = s.cru ∧
    (State.pollWrite s d status t o).otp = s.otp ∧ (State.pollWrite s d status t o).emb = s.emb ∧
    (State.pollWrite s d status t o).draws = s.draws ∧ (State.pollWrite s d status t o).pending = s.pending := by
  simp [State.pollWrite]

/-- State.pollEntry writes strs, apa, pol, fit, bde, cme, atr, rfu, wwu, lgb, io at most. -/
@[simp] theorem State.pollEntry_keeps (s : State) (d status t : Nat) :
    (State.pollEntry s d status t).spn = s.spn ∧ (State.pollEntry s d status t).boot = s.boot ∧
    (State.pollEntry s d status t).hma = s.hma ∧ (State.pollEntry s d status t).rfg = s.rfg ∧
    (State.pollEntry s d status t).cby = s.cby ∧ (State.pollEntry s d status t).cru = s.cru ∧
    (State.pollEntry s d status t).otp = s.otp ∧ (State.pollEntry s d status t).emb = s.emb ∧
    (State.pollEntry s d status t).draws = s.draws ∧ (State.pollEntry s d status t).pending = s.pending := by
  simp [State.pollEntry]

/-- State.pollScan writes spn, strs, apa, pol, fit, bde, cme, atr, rfu, wwu, lgb, io at most. -/
@[simp] theorem State.pollScan_keeps (s : State) (x : Scan) (status t : Nat) :
    (State.pollScan s x status t).boot = s.boot ∧ (State.pollScan s x status t).hma = s.hma ∧
    (State.pollScan s x status t).rfg = s.rfg ∧ (State.pollScan s x status t).cby = s.cby ∧
    (State.pollScan s x status t).cru = s.cru ∧ (State.pollScan s x status t).otp = s.otp ∧
    (State.pollScan s x status t).emb = s.emb ∧ (State.pollScan s x status t).draws = s.draws ∧
    (State.pollScan s x status t).pending = s.pending := by
  simp [State.pollScan]

/-- State.pollConfirm writes spn, strs, apa, pol, fit, bde, cme, atr, rfu, wwu, lgb, io at most. -/
@[simp] theorem State.pollConfirm_keeps (s : State) (d status : Nat) :
    (State.pollConfirm s d status).boot = s.boot ∧ (State.pollConfirm s d status).hma = s.hma ∧
    (State.pollConfirm s d status).rfg = s.rfg ∧ (State.pollConfirm s d status).cby = s.cby ∧
    (State.pollConfirm s d status).cru = s.cru ∧ (State.pollConfirm s d status).otp = s.otp ∧
    (State.pollConfirm s d status).emb = s.emb ∧ (State.pollConfirm s d status).draws = s.draws ∧
    (State.pollConfirm s d status).pending = s.pending := by
  unfold State.pollConfirm; dsimp only; (repeat' split) <;> simp

/-- State.pollWindow writes strs, apa, pol, fit, bde, cme, atr, rfu, wwu, lgb, io at most. -/
@[simp] theorem State.pollWindow_keeps (s : State) (d status : Nat) :
    (State.pollWindow s d status).spn = s.spn ∧ (State.pollWindow s d status).boot = s.boot ∧
    (State.pollWindow s d status).hma = s.hma ∧ (State.pollWindow s d status).rfg = s.rfg ∧
    (State.pollWindow s d status).cby = s.cby ∧ (State.pollWindow s d status).cru = s.cru ∧
    (State.pollWindow s d status).otp = s.otp ∧ (State.pollWindow s d status).emb = s.emb ∧
    (State.pollWindow s d status).draws = s.draws ∧ (State.pollWindow s d status).pending = s.pending := by
  simp [State.pollWindow]

/-- State.readStatus writes io at most. -/
@[simp] theorem State.readStatus_keeps (s : State) (d : Nat) (i : Iface) :
    (State.readStatus s d i).spn = s.spn ∧ (State.readStatus s d i).boot = s.boot ∧ (State.readStatus s d i).strs = s.strs ∧
    (State.readStatus s d i).apa = s.apa ∧ (State.readStatus s d i).pol = s.pol ∧ (State.readStatus s d i).fit = s.fit ∧
    (State.readStatus s d i).bde = s.bde ∧ (State.readStatus s d i).hma = s.hma ∧ (State.readStatus s d i).cme = s.cme ∧
    (State.readStatus s d i).rfg = s.rfg ∧ (State.readStatus s d i).atr = s.atr ∧ (State.readStatus s d i).rfu = s.rfu ∧
    (State.readStatus s d i).cby = s.cby ∧ (State.readStatus s d i).cru = s.cru ∧ (State.readStatus s d i).otp = s.otp ∧
    (State.readStatus s d i).emb = s.emb ∧ (State.readStatus s d i).wwu = s.wwu ∧ (State.readStatus s d i).lgb = s.lgb ∧
    (State.readStatus s d i).draws = s.draws ∧ (State.readStatus s d i).pending = s.pending := by
  simp [State.readStatus]

/-- State.pollStatus writes spn, strs, apa, pol, fit, bde, cme, atr, rfu, wwu, lgb, io at most. -/
@[simp] theorem State.pollStatus_keeps (s : State) (d status : Nat) :
    (State.pollStatus s d status).boot = s.boot ∧ (State.pollStatus s d status).hma = s.hma ∧
    (State.pollStatus s d status).rfg = s.rfg ∧ (State.pollStatus s d status).cby = s.cby ∧
    (State.pollStatus s d status).cru = s.cru ∧ (State.pollStatus s d status).otp = s.otp ∧
    (State.pollStatus s d status).emb = s.emb ∧ (State.pollStatus s d status).draws = s.draws ∧
    (State.pollStatus s d status).pending = s.pending := by
  unfold State.pollStatus; dsimp only; (repeat' split) <;> simp

/-- State.stageManifest writes spn, strs, apa, fit, bde, hma, cme, atr, rfu, wwu, lgb, io at most. -/
@[simp] theorem State.stageManifest_keeps (s : State) (d n source hostAddr : Nat) (data : Bytes) (verdicts : Nat) :
    (State.stageManifest s d n source hostAddr data verdicts).2.boot = s.boot ∧
    (State.stageManifest s d n source hostAddr data verdicts).2.pol = s.pol ∧
    (State.stageManifest s d n source hostAddr data verdicts).2.rfg = s.rfg ∧
    (State.stageManifest s d n source hostAddr data verdicts).2.cby = s.cby ∧
    (State.stageManifest s d n source hostAddr data verdicts).2.cru = s.cru ∧
    (State.stageManifest s d n source hostAddr data verdicts).2.otp = s.otp ∧
    (State.stageManifest s d n source hostAddr data verdicts).2.emb = s.emb ∧
    (State.stageManifest s d n source hostAddr data verdicts).2.draws = s.draws ∧
    (State.stageManifest s d n source hostAddr data verdicts).2.pending = s.pending := by
  unfold State.stageManifest; dsimp only; (repeat' split) <;> simp [State.judgeManifest_to ‹_›]

/-- State.quenchMain writes bde, hma, cme, rfg, atr, cru, lgb at most. -/
@[simp] theorem State.quenchMain_keeps (s : State) :
    (State.quenchMain s).spn = s.spn ∧ (State.quenchMain s).boot = s.boot ∧ (State.quenchMain s).strs = s.strs ∧
    (State.quenchMain s).apa = s.apa ∧ (State.quenchMain s).pol = s.pol ∧ (State.quenchMain s).fit = s.fit ∧
    (State.quenchMain s).rfu = s.rfu ∧ (State.quenchMain s).cby = s.cby ∧ (State.quenchMain s).otp = s.otp ∧
    (State.quenchMain s).emb = s.emb ∧ (State.quenchMain s).wwu = s.wwu ∧ (State.quenchMain s).io = s.io ∧
    (State.quenchMain s).draws = s.draws ∧ (State.quenchMain s).pending = s.pending := by
  simp [State.quenchMain]

/-- State.quench writes bde, hma, cme, rfg, atr, cru, emb, lgb at most. -/
@[simp] theorem State.quench_keeps (s : State) :
    (State.quench s).spn = s.spn ∧ (State.quench s).boot = s.boot ∧ (State.quench s).strs = s.strs ∧
    (State.quench s).apa = s.apa ∧ (State.quench s).pol = s.pol ∧ (State.quench s).fit = s.fit ∧
    (State.quench s).rfu = s.rfu ∧ (State.quench s).cby = s.cby ∧ (State.quench s).otp = s.otp ∧
    (State.quench s).wwu = s.wwu ∧ (State.quench s).io = s.io ∧ (State.quench s).draws = s.draws ∧
    (State.quench s).pending = s.pending := by
  simp [State.quench]

/-- State.countEvidence writes otp, emb at most. -/
@[simp] theorem State.countEvidence_keeps (s : State) :
    (State.countEvidence s).spn = s.spn ∧ (State.countEvidence s).boot = s.boot ∧ (State.countEvidence s).strs = s.strs ∧
    (State.countEvidence s).apa = s.apa ∧ (State.countEvidence s).pol = s.pol ∧ (State.countEvidence s).fit = s.fit ∧
    (State.countEvidence s).bde = s.bde ∧ (State.countEvidence s).hma = s.hma ∧ (State.countEvidence s).cme = s.cme ∧
    (State.countEvidence s).rfg = s.rfg ∧ (State.countEvidence s).atr = s.atr ∧ (State.countEvidence s).rfu = s.rfu ∧
    (State.countEvidence s).cby = s.cby ∧ (State.countEvidence s).cru = s.cru ∧ (State.countEvidence s).wwu = s.wwu ∧
    (State.countEvidence s).lgb = s.lgb ∧ (State.countEvidence s).io = s.io ∧ (State.countEvidence s).draws = s.draws ∧
    (State.countEvidence s).pending = s.pending := by
  unfold State.countEvidence; dsimp only; (repeat' split) <;> simp

/-- State.recordTrip writes emb, lgb at most. -/
@[simp] theorem State.recordTrip_keeps (s : State) (i count response : Nat) :
    (State.recordTrip s i count response).spn = s.spn ∧ (State.recordTrip s i count response).boot = s.boot ∧
    (State.recordTrip s i count response).strs = s.strs ∧ (State.recordTrip s i count response).apa = s.apa ∧
    (State.recordTrip s i count response).pol = s.pol ∧ (State.recordTrip s i count response).fit = s.fit ∧
    (State.recordTrip s i count response).bde = s.bde ∧ (State.recordTrip s i count response).hma = s.hma ∧
    (State.recordTrip s i count response).cme = s.cme ∧ (State.recordTrip s i count response).rfg = s.rfg ∧
    (State.recordTrip s i count response).atr = s.atr ∧ (State.recordTrip s i count response).rfu = s.rfu ∧
    (State.recordTrip s i count response).cby = s.cby ∧ (State.recordTrip s i count response).cru = s.cru ∧
    (State.recordTrip s i count response).otp = s.otp ∧ (State.recordTrip s i count response).wwu = s.wwu ∧
    (State.recordTrip s i count response).io = s.io ∧ (State.recordTrip s i count response).draws = s.draws ∧
    (State.recordTrip s i count response).pending = s.pending := by
  simp [State.recordTrip]

/-- State.holdPlatform writes spn, strs, apa, fit, bde, cme, atr, rfu, wwu, lgb, io at most. -/
@[simp] theorem State.holdPlatform_keeps (s : State) :
    (State.holdPlatform s).boot = s.boot ∧ (State.holdPlatform s).pol = s.pol ∧ (State.holdPlatform s).hma = s.hma ∧
    (State.holdPlatform s).rfg = s.rfg ∧ (State.holdPlatform s).cby = s.cby ∧ (State.holdPlatform s).cru = s.cru ∧
    (State.holdPlatform s).otp = s.otp ∧ (State.holdPlatform s).emb = s.emb ∧ (State.holdPlatform s).draws = s.draws ∧
    (State.holdPlatform s).pending = s.pending := by
  simp [State.holdPlatform]

/-- State.alertTrip writes cme, emb at most. -/
@[simp] theorem State.alertTrip_keeps (s : State) :
    (State.alertTrip s).spn = s.spn ∧ (State.alertTrip s).boot = s.boot ∧ (State.alertTrip s).strs = s.strs ∧
    (State.alertTrip s).apa = s.apa ∧ (State.alertTrip s).pol = s.pol ∧ (State.alertTrip s).fit = s.fit ∧
    (State.alertTrip s).bde = s.bde ∧ (State.alertTrip s).hma = s.hma ∧ (State.alertTrip s).rfg = s.rfg ∧
    (State.alertTrip s).atr = s.atr ∧ (State.alertTrip s).rfu = s.rfu ∧ (State.alertTrip s).cby = s.cby ∧
    (State.alertTrip s).cru = s.cru ∧ (State.alertTrip s).otp = s.otp ∧ (State.alertTrip s).wwu = s.wwu ∧
    (State.alertTrip s).lgb = s.lgb ∧ (State.alertTrip s).io = s.io ∧ (State.alertTrip s).draws = s.draws ∧
    (State.alertTrip s).pending = s.pending := by
  simp [State.alertTrip]

/-- State.trip writes spn, strs, apa, fit, bde, hma, cme, rfg, atr, rfu, cru, otp, emb, wwu, lgb, io at most. -/
@[simp] theorem State.trip_keeps (s : State) (i count : Nat) :
    (State.trip s i count).boot = s.boot ∧ (State.trip s i count).pol = s.pol ∧ (State.trip s i count).cby = s.cby ∧
    (State.trip s i count).draws = s.draws ∧ (State.trip s i count).pending = s.pending := by
  simp [State.trip]

/-- State.tamperEvent writes spn, strs, apa, fit, bde, hma, cme, rfg, atr, rfu, cru, otp, emb, wwu, lgb, io at most. -/
@[simp] theorem State.tamperEvent_keeps (s : State) (i : Nat) :
    (State.tamperEvent s i).boot = s.boot ∧ (State.tamperEvent s i).pol = s.pol ∧ (State.tamperEvent s i).cby = s.cby ∧
    (State.tamperEvent s i).draws = s.draws ∧ (State.tamperEvent s i).pending = s.pending := by
  simp [State.tamperEvent]

/-- State.updTest writes emb at most. -/
@[simp] theorem State.updTest_keeps (s : State) (f : TestWindow → TestWindow) :
    (State.updTest s f).spn = s.spn ∧ (State.updTest s f).boot = s.boot ∧ (State.updTest s f).strs = s.strs ∧
    (State.updTest s f).apa = s.apa ∧ (State.updTest s f).pol = s.pol ∧ (State.updTest s f).fit = s.fit ∧
    (State.updTest s f).bde = s.bde ∧ (State.updTest s f).hma = s.hma ∧ (State.updTest s f).cme = s.cme ∧
    (State.updTest s f).rfg = s.rfg ∧ (State.updTest s f).atr = s.atr ∧ (State.updTest s f).rfu = s.rfu ∧
    (State.updTest s f).cby = s.cby ∧ (State.updTest s f).cru = s.cru ∧ (State.updTest s f).otp = s.otp ∧
    (State.updTest s f).wwu = s.wwu ∧ (State.updTest s f).lgb = s.lgb ∧ (State.updTest s f).io = s.io ∧
    (State.updTest s f).draws = s.draws ∧ (State.updTest s f).pending = s.pending := by
  simp [State.updTest]

/-- State.testSample writes emb at most. -/
@[simp] theorem State.testSample_keeps (s : State) (meshReturn switches : Nat) (shieldBroken : Bool) :
    (State.testSample s meshReturn switches shieldBroken).spn = s.spn ∧
    (State.testSample s meshReturn switches shieldBroken).boot = s.boot ∧
    (State.testSample s meshReturn switches shieldBroken).strs = s.strs ∧
    (State.testSample s meshReturn switches shieldBroken).apa = s.apa ∧
    (State.testSample s meshReturn switches shieldBroken).pol = s.pol ∧
    (State.testSample s meshReturn switches shieldBroken).fit = s.fit ∧
    (State.testSample s meshReturn switches shieldBroken).bde = s.bde ∧
    (State.testSample s meshReturn switches shieldBroken).hma = s.hma ∧
    (State.testSample s meshReturn switches shieldBroken).cme = s.cme ∧
    (State.testSample s meshReturn switches shieldBroken).rfg = s.rfg ∧
    (State.testSample s meshReturn switches shieldBroken).atr = s.atr ∧
    (State.testSample s meshReturn switches shieldBroken).rfu = s.rfu ∧
    (State.testSample s meshReturn switches shieldBroken).cby = s.cby ∧
    (State.testSample s meshReturn switches shieldBroken).cru = s.cru ∧
    (State.testSample s meshReturn switches shieldBroken).otp = s.otp ∧
    (State.testSample s meshReturn switches shieldBroken).wwu = s.wwu ∧
    (State.testSample s meshReturn switches shieldBroken).lgb = s.lgb ∧
    (State.testSample s meshReturn switches shieldBroken).io = s.io ∧
    (State.testSample s meshReturn switches shieldBroken).draws = s.draws ∧
    (State.testSample s meshReturn switches shieldBroken).pending = s.pending := by
  unfold State.testSample; dsimp only; (repeat' split) <;> simp

/-- State.openTest writes emb at most. -/
@[simp] theorem State.openTest_keeps (s : State) (source : Nat) (h : Option Hdr) :
    (State.openTest s source h).spn = s.spn ∧ (State.openTest s source h).boot = s.boot ∧
    (State.openTest s source h).strs = s.strs ∧ (State.openTest s source h).apa = s.apa ∧
    (State.openTest s source h).pol = s.pol ∧ (State.openTest s source h).fit = s.fit ∧
    (State.openTest s source h).bde = s.bde ∧ (State.openTest s source h).hma = s.hma ∧
    (State.openTest s source h).cme = s.cme ∧ (State.openTest s source h).rfg = s.rfg ∧
    (State.openTest s source h).atr = s.atr ∧ (State.openTest s source h).rfu = s.rfu ∧
    (State.openTest s source h).cby = s.cby ∧ (State.openTest s source h).cru = s.cru ∧
    (State.openTest s source h).otp = s.otp ∧ (State.openTest s source h).wwu = s.wwu ∧
    (State.openTest s source h).lgb = s.lgb ∧ (State.openTest s source h).io = s.io ∧
    (State.openTest s source h).draws = s.draws ∧ (State.openTest s source h).pending = s.pending := by
  simp [State.openTest]

/-- State.judgeImage writes hma, cme, lgb at most. -/
@[simp] theorem State.judgeImage_keeps (s : State) (start : Bool) (raw : Bytes) (verdicts : Nat) :
    (State.judgeImage s start raw verdicts).2.spn = s.spn ∧ (State.judgeImage s start raw verdicts).2.boot = s.boot ∧
    (State.judgeImage s start raw verdicts).2.strs = s.strs ∧ (State.judgeImage s start raw verdicts).2.apa = s.apa ∧
    (State.judgeImage s start raw verdicts).2.pol = s.pol ∧ (State.judgeImage s start raw verdicts).2.fit = s.fit ∧
    (State.judgeImage s start raw verdicts).2.bde = s.bde ∧ (State.judgeImage s start raw verdicts).2.rfg = s.rfg ∧
    (State.judgeImage s start raw verdicts).2.atr = s.atr ∧ (State.judgeImage s start raw verdicts).2.rfu = s.rfu ∧
    (State.judgeImage s start raw verdicts).2.cby = s.cby ∧ (State.judgeImage s start raw verdicts).2.cru = s.cru ∧
    (State.judgeImage s start raw verdicts).2.otp = s.otp ∧ (State.judgeImage s start raw verdicts).2.emb = s.emb ∧
    (State.judgeImage s start raw verdicts).2.wwu = s.wwu ∧ (State.judgeImage s start raw verdicts).2.io = s.io ∧
    (State.judgeImage s start raw verdicts).2.draws = s.draws ∧
    (State.judgeImage s start raw verdicts).2.pending = s.pending := by
  unfold State.judgeImage; dsimp only; (repeat' split) <;> simp

theorem State.judgeImage_to {s : State} {start : Bool} {raw : Bytes} {verdicts : Nat} {r : (Nat × Bytes × Image)} {t : State} (e : (State.judgeImage s start raw verdicts) = (r, t)) :
    t.spn = s.spn ∧ t.boot = s.boot ∧ t.strs = s.strs ∧ t.apa = s.apa ∧ t.pol = s.pol ∧ t.fit = s.fit ∧ t.bde = s.bde ∧
    t.rfg = s.rfg ∧ t.atr = s.atr ∧ t.rfu = s.rfu ∧ t.cby = s.cby ∧ t.cru = s.cru ∧ t.otp = s.otp ∧ t.emb = s.emb ∧
    t.wwu = s.wwu ∧ t.io = s.io ∧ t.draws = s.draws ∧ t.pending = s.pending := by
  have k := State.judgeImage_keeps s start raw verdicts
  rwa [e] at k

/-- State.driveStrings writes strs at most. -/
@[simp] theorem State.driveStrings_keeps (s : State) (old : List (Nat × StrEntry)) :
    (State.driveStrings s old).spn = s.spn ∧ (State.driveStrings s old).boot = s.boot ∧
    (State.driveStrings s old).apa = s.apa ∧ (State.driveStrings s old).pol = s.pol ∧
    (State.driveStrings s old).fit = s.fit ∧ (State.driveStrings s old).bde = s.bde ∧
    (State.driveStrings s old).hma = s.hma ∧ (State.driveStrings s old).cme = s.cme ∧
    (State.driveStrings s old).rfg = s.rfg ∧ (State.driveStrings s old).atr = s.atr ∧
    (State.driveStrings s old).rfu = s.rfu ∧ (State.driveStrings s old).cby = s.cby ∧
    (State.driveStrings s old).cru = s.cru ∧ (State.driveStrings s old).otp = s.otp ∧
    (State.driveStrings s old).emb = s.emb ∧ (State.driveStrings s old).wwu = s.wwu ∧
    (State.driveStrings s old).lgb = s.lgb ∧ (State.driveStrings s old).io = s.io ∧
    (State.driveStrings s old).draws = s.draws ∧ (State.driveStrings s old).pending = s.pending := by
  simp [State.driveStrings]

/-- State.setBuses writes strs at most. -/
@[simp] theorem State.setBuses_keeps (s : State) :
    (State.setBuses s).spn = s.spn ∧ (State.setBuses s).boot = s.boot ∧ (State.setBuses s).apa = s.apa ∧
    (State.setBuses s).pol = s.pol ∧ (State.setBuses s).fit = s.fit ∧ (State.setBuses s).bde = s.bde ∧
    (State.setBuses s).hma = s.hma ∧ (State.setBuses s).cme = s.cme ∧ (State.setBuses s).rfg = s.rfg ∧
    (State.setBuses s).atr = s.atr ∧ (State.setBuses s).rfu = s.rfu ∧ (State.setBuses s).cby = s.cby ∧
    (State.setBuses s).cru = s.cru ∧ (State.setBuses s).otp = s.otp ∧ (State.setBuses s).emb = s.emb ∧
    (State.setBuses s).wwu = s.wwu ∧ (State.setBuses s).lgb = s.lgb ∧ (State.setBuses s).io = s.io ∧
    (State.setBuses s).draws = s.draws ∧ (State.setBuses s).pending = s.pending := by
  refine ⟨State.spn_foldl (fun t b => by (repeat' split) <;> simp) _ _, ?_⟩
  refine ⟨State.boot_foldl (fun t b => by (repeat' split) <;> simp) _ _, ?_⟩
  refine ⟨State.apa_foldl (fun t b => by (repeat' split) <;> simp) _ _, ?_⟩
  refine ⟨State.pol_foldl (fun t b => by (repeat' split) <;> simp) _ _, ?_⟩
  refine ⟨State.fit_foldl (fun t b => by (repeat' split) <;> simp) _ _, ?_⟩
  refine ⟨State.bde_foldl (fun t b => by (repeat' split) <;> simp) _ _, ?_⟩
  refine ⟨State.hma_foldl (fun t b => by (repeat' split) <;> simp) _ _, ?_⟩
  refine ⟨State.cme_foldl (fun t b => by (repeat' split) <;> simp) _ _, ?_⟩
  refine ⟨State.rfg_foldl (fun t b => by (repeat' split) <;> simp) _ _, ?_⟩
  refine ⟨State.atr_foldl (fun t b => by (repeat' split) <;> simp) _ _, ?_⟩
  refine ⟨State.rfu_foldl (fun t b => by (repeat' split) <;> simp) _ _, ?_⟩
  refine ⟨State.cby_foldl (fun t b => by (repeat' split) <;> simp) _ _, ?_⟩
  refine ⟨State.cru_foldl (fun t b => by (repeat' split) <;> simp) _ _, ?_⟩
  refine ⟨State.otp_foldl (fun t b => by (repeat' split) <;> simp) _ _, ?_⟩
  refine ⟨State.emb_foldl (fun t b => by (repeat' split) <;> simp) _ _, ?_⟩
  refine ⟨State.wwu_foldl (fun t b => by (repeat' split) <;> simp) _ _, ?_⟩
  refine ⟨State.lgb_foldl (fun t b => by (repeat' split) <;> simp) _ _, ?_⟩
  refine ⟨State.io_foldl (fun t b => by (repeat' split) <;> simp) _ _, ?_⟩
  refine ⟨State.draws_foldl (fun t b => by (repeat' split) <;> simp) _ _, ?_⟩
  exact State.pending_foldl (fun t b => by (repeat' split) <;> simp) _ _

/-- State.removeSlot writes strs, cme, atr, lgb at most. -/
@[simp] theorem State.removeSlot_keeps (s : State) (n : Nat) :
    (State.removeSlot s n).spn = s.spn ∧ (State.removeSlot s n).boot = s.boot ∧ (State.removeSlot s n).apa = s.apa ∧
    (State.removeSlot s n).pol = s.pol ∧ (State.removeSlot s n).fit = s.fit ∧ (State.removeSlot s n).bde = s.bde ∧
    (State.removeSlot s n).hma = s.hma ∧ (State.removeSlot s n).rfg = s.rfg ∧ (State.removeSlot s n).rfu = s.rfu ∧
    (State.removeSlot s n).cby = s.cby ∧ (State.removeSlot s n).cru = s.cru ∧ (State.removeSlot s n).otp = s.otp ∧
    (State.removeSlot s n).emb = s.emb ∧ (State.removeSlot s n).wwu = s.wwu ∧ (State.removeSlot s n).io = s.io ∧
    (State.removeSlot s n).draws = s.draws ∧ (State.removeSlot s n).pending = s.pending := by
  simp [State.removeSlot]

/-- State.defineSlots writes strs, cme, atr, lgb at most. -/
@[simp] theorem State.defineSlots_keeps (s : State) :
    (State.defineSlots s).spn = s.spn ∧ (State.defineSlots s).boot = s.boot ∧ (State.defineSlots s).apa = s.apa ∧
    (State.defineSlots s).pol = s.pol ∧ (State.defineSlots s).fit = s.fit ∧ (State.defineSlots s).bde = s.bde ∧
    (State.defineSlots s).hma = s.hma ∧ (State.defineSlots s).rfg = s.rfg ∧ (State.defineSlots s).rfu = s.rfu ∧
    (State.defineSlots s).cby = s.cby ∧ (State.defineSlots s).cru = s.cru ∧ (State.defineSlots s).otp = s.otp ∧
    (State.defineSlots s).emb = s.emb ∧ (State.defineSlots s).wwu = s.wwu ∧ (State.defineSlots s).io = s.io ∧
    (State.defineSlots s).draws = s.draws ∧ (State.defineSlots s).pending = s.pending := by
  simp [State.defineSlots]

/-- State.readdress writes cme at most. -/
@[simp] theorem State.readdress_keeps (s : State) (old : State) :
    (State.readdress s old).spn = s.spn ∧ (State.readdress s old).boot = s.boot ∧ (State.readdress s old).strs = s.strs ∧
    (State.readdress s old).apa = s.apa ∧ (State.readdress s old).pol = s.pol ∧ (State.readdress s old).fit = s.fit ∧
    (State.readdress s old).bde = s.bde ∧ (State.readdress s old).hma = s.hma ∧ (State.readdress s old).rfg = s.rfg ∧
    (State.readdress s old).atr = s.atr ∧ (State.readdress s old).rfu = s.rfu ∧ (State.readdress s old).cby = s.cby ∧
    (State.readdress s old).cru = s.cru ∧ (State.readdress s old).otp = s.otp ∧ (State.readdress s old).emb = s.emb ∧
    (State.readdress s old).wwu = s.wwu ∧ (State.readdress s old).lgb = s.lgb ∧ (State.readdress s old).io = s.io ∧
    (State.readdress s old).draws = s.draws ∧ (State.readdress s old).pending = s.pending := by
  simp [State.readdress]

/-- State.applySections writes spn, cme, emb, lgb at most. -/
@[simp] theorem State.applySections_keeps (s old : State) :
    (State.applySections s old).boot = s.boot ∧ (State.applySections s old).strs = s.strs ∧
    (State.applySections s old).apa = s.apa ∧ (State.applySections s old).pol = s.pol ∧
    (State.applySections s old).fit = s.fit ∧ (State.applySections s old).bde = s.bde ∧
    (State.applySections s old).hma = s.hma ∧ (State.applySections s old).rfg = s.rfg ∧
    (State.applySections s old).atr = s.atr ∧ (State.applySections s old).rfu = s.rfu ∧
    (State.applySections s old).cby = s.cby ∧ (State.applySections s old).cru = s.cru ∧
    (State.applySections s old).otp = s.otp ∧ (State.applySections s old).wwu = s.wwu ∧
    (State.applySections s old).io = s.io ∧ (State.applySections s old).draws = s.draws ∧
    (State.applySections s old).pending = s.pending := by
  unfold State.applySections; (repeat' split) <;> (try dsimp only) <;> (repeat' split) <;> simp

/-- State.putSlot writes pol at most. -/
@[simp] theorem State.putSlot_keeps (s : State) (k : Nat) (i : Option Image) :
    (State.putSlot s k i).spn = s.spn ∧ (State.putSlot s k i).boot = s.boot ∧ (State.putSlot s k i).strs = s.strs ∧
    (State.putSlot s k i).apa = s.apa ∧ (State.putSlot s k i).fit = s.fit ∧ (State.putSlot s k i).bde = s.bde ∧
    (State.putSlot s k i).hma = s.hma ∧ (State.putSlot s k i).cme = s.cme ∧ (State.putSlot s k i).rfg = s.rfg ∧
    (State.putSlot s k i).atr = s.atr ∧ (State.putSlot s k i).rfu = s.rfu ∧ (State.putSlot s k i).cby = s.cby ∧
    (State.putSlot s k i).cru = s.cru ∧ (State.putSlot s k i).otp = s.otp ∧ (State.putSlot s k i).emb = s.emb ∧
    (State.putSlot s k i).wwu = s.wwu ∧ (State.putSlot s k i).lgb = s.lgb ∧ (State.putSlot s k i).io = s.io ∧
    (State.putSlot s k i).draws = s.draws ∧ (State.putSlot s k i).pending = s.pending := by
  simp [State.putSlot]

/-- State.beginWrite writes pol at most. -/
@[simp] theorem State.beginWrite_keeps (s : State) (h : Hdr) (img : Image) :
    (State.beginWrite s h img).spn = s.spn ∧ (State.beginWrite s h img).boot = s.boot ∧
    (State.beginWrite s h img).strs = s.strs ∧ (State.beginWrite s h img).apa = s.apa ∧
    (State.beginWrite s h img).fit = s.fit ∧ (State.beginWrite s h img).bde = s.bde ∧
    (State.beginWrite s h img).hma = s.hma ∧ (State.beginWrite s h img).cme = s.cme ∧
    (State.beginWrite s h img).rfg = s.rfg ∧ (State.beginWrite s h img).atr = s.atr ∧
    (State.beginWrite s h img).rfu = s.rfu ∧ (State.beginWrite s h img).cby = s.cby ∧
    (State.beginWrite s h img).cru = s.cru ∧ (State.beginWrite s h img).otp = s.otp ∧
    (State.beginWrite s h img).emb = s.emb ∧ (State.beginWrite s h img).wwu = s.wwu ∧
    (State.beginWrite s h img).lgb = s.lgb ∧ (State.beginWrite s h img).io = s.io ∧
    (State.beginWrite s h img).draws = s.draws ∧ (State.beginWrite s h img).pending = s.pending := by
  simp [State.beginWrite]

/-- State.serveStage writes pol, cme at most. -/
@[simp] theorem State.serveStage_keeps (s : State) :
    (State.serveStage s).spn = s.spn ∧ (State.serveStage s).boot = s.boot ∧ (State.serveStage s).strs = s.strs ∧
    (State.serveStage s).apa = s.apa ∧ (State.serveStage s).fit = s.fit ∧ (State.serveStage s).bde = s.bde ∧
    (State.serveStage s).hma = s.hma ∧ (State.serveStage s).rfg = s.rfg ∧ (State.serveStage s).atr = s.atr ∧
    (State.serveStage s).rfu = s.rfu ∧ (State.serveStage s).cby = s.cby ∧ (State.serveStage s).cru = s.cru ∧
    (State.serveStage s).otp = s.otp ∧ (State.serveStage s).emb = s.emb ∧ (State.serveStage s).wwu = s.wwu ∧
    (State.serveStage s).lgb = s.lgb ∧ (State.serveStage s).io = s.io ∧ (State.serveStage s).draws = s.draws ∧
    (State.serveStage s).pending = s.pending := by
  unfold State.serveStage; dsimp only; (repeat' split) <;> simp

/-- State.requestSwitch writes apa at most. -/
@[simp] theorem State.requestSwitch_keeps (s : State) (new : Image) :
    (State.requestSwitch s new).spn = s.spn ∧ (State.requestSwitch s new).boot = s.boot ∧
    (State.requestSwitch s new).strs = s.strs ∧ (State.requestSwitch s new).pol = s.pol ∧
    (State.requestSwitch s new).fit = s.fit ∧ (State.requestSwitch s new).bde = s.bde ∧
    (State.requestSwitch s new).hma = s.hma ∧ (State.requestSwitch s new).cme = s.cme ∧
    (State.requestSwitch s new).rfg = s.rfg ∧ (State.requestSwitch s new).atr = s.atr ∧
    (State.requestSwitch s new).rfu = s.rfu ∧ (State.requestSwitch s new).cby = s.cby ∧
    (State.requestSwitch s new).cru = s.cru ∧ (State.requestSwitch s new).otp = s.otp ∧
    (State.requestSwitch s new).emb = s.emb ∧ (State.requestSwitch s new).wwu = s.wwu ∧
    (State.requestSwitch s new).lgb = s.lgb ∧ (State.requestSwitch s new).io = s.io ∧
    (State.requestSwitch s new).draws = s.draws ∧ (State.requestSwitch s new).pending = s.pending := by
  simp [State.requestSwitch]

/-- State.commitRecord writes pol at most. -/
@[simp] theorem State.commitRecord_keeps (s : State) (k : Nat) (fallback : Bool) :
    (State.commitRecord s k fallback).spn = s.spn ∧ (State.commitRecord s k fallback).boot = s.boot ∧
    (State.commitRecord s k fallback).strs = s.strs ∧ (State.commitRecord s k fallback).apa = s.apa ∧
    (State.commitRecord s k fallback).fit = s.fit ∧ (State.commitRecord s k fallback).bde = s.bde ∧
    (State.commitRecord s k fallback).hma = s.hma ∧ (State.commitRecord s k fallback).cme = s.cme ∧
    (State.commitRecord s k fallback).rfg = s.rfg ∧ (State.commitRecord s k fallback).atr = s.atr ∧
    (State.commitRecord s k fallback).rfu = s.rfu ∧ (State.commitRecord s k fallback).cby = s.cby ∧
    (State.commitRecord s k fallback).cru = s.cru ∧ (State.commitRecord s k fallback).otp = s.otp ∧
    (State.commitRecord s k fallback).emb = s.emb ∧ (State.commitRecord s k fallback).wwu = s.wwu ∧
    (State.commitRecord s k fallback).lgb = s.lgb ∧ (State.commitRecord s k fallback).io = s.io ∧
    (State.commitRecord s k fallback).draws = s.draws ∧ (State.commitRecord s k fallback).pending = s.pending := by
  simp [State.commitRecord]

/-- State.applyStrings writes strs, cme, atr, lgb at most. -/
@[simp] theorem State.applyStrings_keeps (s old : State) :
    (State.applyStrings s old).spn = s.spn ∧ (State.applyStrings s old).boot = s.boot ∧
    (State.applyStrings s old).apa = s.apa ∧ (State.applyStrings s old).pol = s.pol ∧
    (State.applyStrings s old).fit = s.fit ∧ (State.applyStrings s old).bde = s.bde ∧
    (State.applyStrings s old).hma = s.hma ∧ (State.applyStrings s old).rfg = s.rfg ∧
    (State.applyStrings s old).rfu = s.rfu ∧ (State.applyStrings s old).cby = s.cby ∧
    (State.applyStrings s old).cru = s.cru ∧ (State.applyStrings s old).otp = s.otp ∧
    (State.applyStrings s old).emb = s.emb ∧ (State.applyStrings s old).wwu = s.wwu ∧ (State.applyStrings s old).io = s.io ∧
    (State.applyStrings s old).draws = s.draws ∧ (State.applyStrings s old).pending = s.pending := by
  simp [State.applyStrings]

/-- State.commitStaged writes spn, boot, strs, apa, pol, cme, atr, otp, emb, lgb at most. -/
@[simp] theorem State.commitStaged_keeps (s : State) (img : Image) (advance : Bool) :
    (State.commitStaged s img advance).fit = s.fit ∧ (State.commitStaged s img advance).bde = s.bde ∧
    (State.commitStaged s img advance).hma = s.hma ∧ (State.commitStaged s img advance).rfg = s.rfg ∧
    (State.commitStaged s img advance).rfu = s.rfu ∧ (State.commitStaged s img advance).cby = s.cby ∧
    (State.commitStaged s img advance).cru = s.cru ∧ (State.commitStaged s img advance).wwu = s.wwu ∧
    (State.commitStaged s img advance).io = s.io ∧ (State.commitStaged s img advance).draws = s.draws ∧
    (State.commitStaged s img advance).pending = s.pending := by
  simp [State.commitStaged]

/-- State.switchDevice writes fit, lgb at most. -/
@[simp] theorem State.switchDevice_keeps (s old : State) (d : Nat) :
    (State.switchDevice s old d).spn = s.spn ∧ (State.switchDevice s old d).boot = s.boot ∧
    (State.switchDevice s old d).strs = s.strs ∧ (State.switchDevice s old d).apa = s.apa ∧
    (State.switchDevice s old d).pol = s.pol ∧ (State.switchDevice s old d).bde = s.bde ∧
    (State.switchDevice s old d).hma = s.hma ∧ (State.switchDevice s old d).cme = s.cme ∧
    (State.switchDevice s old d).rfg = s.rfg ∧ (State.switchDevice s old d).atr = s.atr ∧
    (State.switchDevice s old d).rfu = s.rfu ∧ (State.switchDevice s old d).cby = s.cby ∧
    (State.switchDevice s old d).cru = s.cru ∧ (State.switchDevice s old d).otp = s.otp ∧
    (State.switchDevice s old d).emb = s.emb ∧ (State.switchDevice s old d).wwu = s.wwu ∧
    (State.switchDevice s old d).io = s.io ∧ (State.switchDevice s old d).draws = s.draws ∧
    (State.switchDevice s old d).pending = s.pending := by
  simp [State.switchDevice]

/-- State.swapPort writes spn, apa, fit, bde, lgb at most. -/
@[simp] theorem State.swapPort_keeps (s : State) (p : Nat) :
    (State.swapPort s p).boot = s.boot ∧ (State.swapPort s p).strs = s.strs ∧ (State.swapPort s p).pol = s.pol ∧
    (State.swapPort s p).hma = s.hma ∧ (State.swapPort s p).cme = s.cme ∧ (State.swapPort s p).rfg = s.rfg ∧
    (State.swapPort s p).atr = s.atr ∧ (State.swapPort s p).rfu = s.rfu ∧ (State.swapPort s p).cby = s.cby ∧
    (State.swapPort s p).cru = s.cru ∧ (State.swapPort s p).otp = s.otp ∧ (State.swapPort s p).emb = s.emb ∧
    (State.swapPort s p).wwu = s.wwu ∧ (State.swapPort s p).io = s.io ∧ (State.swapPort s p).draws = s.draws ∧
    (State.swapPort s p).pending = s.pending := by
  simp [State.swapPort]

/-- State.switchDone writes pol, cme, atr at most. -/
@[simp] theorem State.switchDone_keeps (s : State) :
    (State.switchDone s).spn = s.spn ∧ (State.switchDone s).boot = s.boot ∧ (State.switchDone s).strs = s.strs ∧
    (State.switchDone s).apa = s.apa ∧ (State.switchDone s).fit = s.fit ∧ (State.switchDone s).bde = s.bde ∧
    (State.switchDone s).hma = s.hma ∧ (State.switchDone s).rfg = s.rfg ∧ (State.switchDone s).rfu = s.rfu ∧
    (State.switchDone s).cby = s.cby ∧ (State.switchDone s).cru = s.cru ∧ (State.switchDone s).otp = s.otp ∧
    (State.switchDone s).emb = s.emb ∧ (State.switchDone s).wwu = s.wwu ∧ (State.switchDone s).lgb = s.lgb ∧
    (State.switchDone s).io = s.io ∧ (State.switchDone s).draws = s.draws ∧ (State.switchDone s).pending = s.pending := by
  unfold State.switchDone; dsimp only; (repeat' split) <;> simp

/-- State.fillCrossing writes cme, lgb at most. -/
@[simp] theorem State.fillCrossing_keeps (s : State) (before : Nat) :
    (State.fillCrossing s before).spn = s.spn ∧ (State.fillCrossing s before).boot = s.boot ∧
    (State.fillCrossing s before).strs = s.strs ∧ (State.fillCrossing s before).apa = s.apa ∧
    (State.fillCrossing s before).pol = s.pol ∧ (State.fillCrossing s before).fit = s.fit ∧
    (State.fillCrossing s before).bde = s.bde ∧ (State.fillCrossing s before).hma = s.hma ∧
    (State.fillCrossing s before).rfg = s.rfg ∧ (State.fillCrossing s before).atr = s.atr ∧
    (State.fillCrossing s before).rfu = s.rfu ∧ (State.fillCrossing s before).cby = s.cby ∧
    (State.fillCrossing s before).cru = s.cru ∧ (State.fillCrossing s before).otp = s.otp ∧
    (State.fillCrossing s before).emb = s.emb ∧ (State.fillCrossing s before).wwu = s.wwu ∧
    (State.fillCrossing s before).io = s.io ∧ (State.fillCrossing s before).draws = s.draws ∧
    (State.fillCrossing s before).pending = s.pending := by
  simp [State.fillCrossing]

/-- State.stampAsync writes cme at most. -/
@[simp] theorem State.stampAsync_keeps (s : State) (x : LogEv) (seq : Nat) :
    (State.stampAsync s x seq).spn = s.spn ∧ (State.stampAsync s x seq).boot = s.boot ∧
    (State.stampAsync s x seq).strs = s.strs ∧ (State.stampAsync s x seq).apa = s.apa ∧
    (State.stampAsync s x seq).pol = s.pol ∧ (State.stampAsync s x seq).fit = s.fit ∧
    (State.stampAsync s x seq).bde = s.bde ∧ (State.stampAsync s x seq).hma = s.hma ∧
    (State.stampAsync s x seq).rfg = s.rfg ∧ (State.stampAsync s x seq).atr = s.atr ∧
    (State.stampAsync s x seq).rfu = s.rfu ∧ (State.stampAsync s x seq).cby = s.cby ∧
    (State.stampAsync s x seq).cru = s.cru ∧ (State.stampAsync s x seq).otp = s.otp ∧
    (State.stampAsync s x seq).emb = s.emb ∧ (State.stampAsync s x seq).wwu = s.wwu ∧
    (State.stampAsync s x seq).lgb = s.lgb ∧ (State.stampAsync s x seq).io = s.io ∧
    (State.stampAsync s x seq).draws = s.draws ∧ (State.stampAsync s x seq).pending = s.pending := by
  simp [State.stampAsync]

/-- State.appendRecord writes cme, lgb at most. -/
@[simp] theorem State.appendRecord_keeps (s : State) (e : LogEv) (r : LogRec) :
    (State.appendRecord s e r).spn = s.spn ∧ (State.appendRecord s e r).boot = s.boot ∧
    (State.appendRecord s e r).strs = s.strs ∧ (State.appendRecord s e r).apa = s.apa ∧
    (State.appendRecord s e r).pol = s.pol ∧ (State.appendRecord s e r).fit = s.fit ∧
    (State.appendRecord s e r).bde = s.bde ∧ (State.appendRecord s e r).hma = s.hma ∧
    (State.appendRecord s e r).rfg = s.rfg ∧ (State.appendRecord s e r).atr = s.atr ∧
    (State.appendRecord s e r).rfu = s.rfu ∧ (State.appendRecord s e r).cby = s.cby ∧
    (State.appendRecord s e r).cru = s.cru ∧ (State.appendRecord s e r).otp = s.otp ∧
    (State.appendRecord s e r).emb = s.emb ∧ (State.appendRecord s e r).wwu = s.wwu ∧ (State.appendRecord s e r).io = s.io ∧
    (State.appendRecord s e r).draws = s.draws ∧ (State.appendRecord s e r).pending = s.pending := by
  unfold State.appendRecord; dsimp only; (repeat' split) <;> simp

/-- State.recordEvent writes cme, lgb at most. -/
@[simp] theorem State.recordEvent_keeps (s : State) (e : LogEv) :
    (State.recordEvent s e).spn = s.spn ∧ (State.recordEvent s e).boot = s.boot ∧ (State.recordEvent s e).strs = s.strs ∧
    (State.recordEvent s e).apa = s.apa ∧ (State.recordEvent s e).pol = s.pol ∧ (State.recordEvent s e).fit = s.fit ∧
    (State.recordEvent s e).bde = s.bde ∧ (State.recordEvent s e).hma = s.hma ∧ (State.recordEvent s e).rfg = s.rfg ∧
    (State.recordEvent s e).atr = s.atr ∧ (State.recordEvent s e).rfu = s.rfu ∧ (State.recordEvent s e).cby = s.cby ∧
    (State.recordEvent s e).cru = s.cru ∧ (State.recordEvent s e).otp = s.otp ∧ (State.recordEvent s e).emb = s.emb ∧
    (State.recordEvent s e).wwu = s.wwu ∧ (State.recordEvent s e).io = s.io ∧ (State.recordEvent s e).draws = s.draws ∧
    (State.recordEvent s e).pending = s.pending := by
  unfold State.recordEvent; dsimp only; (repeat' split) <;> simp

/-- State.timeMark writes lgb at most. -/
@[simp] theorem State.timeMark_keeps (s : State) :
    (State.timeMark s).spn = s.spn ∧ (State.timeMark s).boot = s.boot ∧ (State.timeMark s).strs = s.strs ∧
    (State.timeMark s).apa = s.apa ∧ (State.timeMark s).pol = s.pol ∧ (State.timeMark s).fit = s.fit ∧
    (State.timeMark s).bde = s.bde ∧ (State.timeMark s).hma = s.hma ∧ (State.timeMark s).cme = s.cme ∧
    (State.timeMark s).rfg = s.rfg ∧ (State.timeMark s).atr = s.atr ∧ (State.timeMark s).rfu = s.rfu ∧
    (State.timeMark s).cby = s.cby ∧ (State.timeMark s).cru = s.cru ∧ (State.timeMark s).otp = s.otp ∧
    (State.timeMark s).emb = s.emb ∧ (State.timeMark s).wwu = s.wwu ∧ (State.timeMark s).io = s.io ∧
    (State.timeMark s).draws = s.draws ∧ (State.timeMark s).pending = s.pending := by
  simp [State.timeMark]

/-- State.releaseHeld writes rfu, lgb at most. -/
@[simp] theorem State.releaseHeld_keeps (s : State) :
    (State.releaseHeld s).spn = s.spn ∧ (State.releaseHeld s).boot = s.boot ∧ (State.releaseHeld s).strs = s.strs ∧
    (State.releaseHeld s).apa = s.apa ∧ (State.releaseHeld s).pol = s.pol ∧ (State.releaseHeld s).fit = s.fit ∧
    (State.releaseHeld s).bde = s.bde ∧ (State.releaseHeld s).hma = s.hma ∧ (State.releaseHeld s).cme = s.cme ∧
    (State.releaseHeld s).rfg = s.rfg ∧ (State.releaseHeld s).atr = s.atr ∧ (State.releaseHeld s).cby = s.cby ∧
    (State.releaseHeld s).cru = s.cru ∧ (State.releaseHeld s).otp = s.otp ∧ (State.releaseHeld s).emb = s.emb ∧
    (State.releaseHeld s).wwu = s.wwu ∧ (State.releaseHeld s).io = s.io ∧ (State.releaseHeld s).draws = s.draws ∧
    (State.releaseHeld s).pending = s.pending := by
  simp [State.releaseHeld]

/-- State.stepWall writes cme, rfg, emb, lgb at most. -/
@[simp] theorem State.stepWall_keeps (s : State) (x : Int) :
    (State.stepWall s x).2.2.spn = s.spn ∧ (State.stepWall s x).2.2.boot = s.boot ∧ (State.stepWall s x).2.2.strs = s.strs ∧
    (State.stepWall s x).2.2.apa = s.apa ∧ (State.stepWall s x).2.2.pol = s.pol ∧ (State.stepWall s x).2.2.fit = s.fit ∧
    (State.stepWall s x).2.2.bde = s.bde ∧ (State.stepWall s x).2.2.hma = s.hma ∧ (State.stepWall s x).2.2.atr = s.atr ∧
    (State.stepWall s x).2.2.rfu = s.rfu ∧ (State.stepWall s x).2.2.cby = s.cby ∧ (State.stepWall s x).2.2.cru = s.cru ∧
    (State.stepWall s x).2.2.otp = s.otp ∧ (State.stepWall s x).2.2.wwu = s.wwu ∧ (State.stepWall s x).2.2.io = s.io ∧
    (State.stepWall s x).2.2.draws = s.draws ∧ (State.stepWall s x).2.2.pending = s.pending := by
  simp [State.stepWall]

/-- State.dark writes spn, boot, strs, apa, pol, fit, bde, hma, cme, rfg, atr, rfu, cby, cru, emb, wwu, lgb, io at most. -/
@[simp] theorem State.dark_keeps (s : State) :
    (State.dark s).otp = s.otp ∧ (State.dark s).draws = s.draws ∧ (State.dark s).pending = s.pending := by
  exact ⟨rfl, rfl, rfl⟩

/-- State.settleDmt writes spn, strs, apa, fit, bde, hma, cme, rfg, atr, rfu, cru, otp, emb, wwu, lgb, io at most. -/
@[simp] theorem State.settleDmt_keeps (s : State) :
    (State.settleDmt s).boot = s.boot ∧ (State.settleDmt s).pol = s.pol ∧ (State.settleDmt s).cby = s.cby ∧
    (State.settleDmt s).draws = s.draws ∧ (State.settleDmt s).pending = s.pending := by
  simp [State.settleDmt]

/-- State.startDevice writes spn, boot, strs, apa, pol, fit, bde, hma, cme, rfg, atr, rfu, cby, cru, otp, emb, wwu, lgb, io at most. -/
@[simp] theorem State.startDevice_keeps (s : State) :
    (State.startDevice s).draws = s.draws ∧ (State.startDevice s).pending = s.pending := by
  simp [State.startDevice]

/-- State.losePower writes spn, boot, strs, apa, pol, fit, bde, hma, cme, rfg, atr, rfu, cby, cru, emb, wwu, lgb, io at most. -/
@[simp] theorem State.losePower_keeps (s : State) :
    (State.losePower s).otp = s.otp ∧ (State.losePower s).draws = s.draws ∧ (State.losePower s).pending = s.pending := by
  simp [State.losePower]

/-- State.recordHeldTrips writes rfu, emb, lgb at most. -/
@[simp] theorem State.recordHeldTrips_keeps (s : State) :
    (State.recordHeldTrips s).spn = s.spn ∧ (State.recordHeldTrips s).boot = s.boot ∧
    (State.recordHeldTrips s).strs = s.strs ∧ (State.recordHeldTrips s).apa = s.apa ∧ (State.recordHeldTrips s).pol = s.pol ∧
    (State.recordHeldTrips s).fit = s.fit ∧ (State.recordHeldTrips s).bde = s.bde ∧ (State.recordHeldTrips s).hma = s.hma ∧
    (State.recordHeldTrips s).cme = s.cme ∧ (State.recordHeldTrips s).rfg = s.rfg ∧ (State.recordHeldTrips s).atr = s.atr ∧
    (State.recordHeldTrips s).cby = s.cby ∧ (State.recordHeldTrips s).cru = s.cru ∧ (State.recordHeldTrips s).otp = s.otp ∧
    (State.recordHeldTrips s).wwu = s.wwu ∧ (State.recordHeldTrips s).io = s.io ∧ (State.recordHeldTrips s).draws = s.draws ∧
    (State.recordHeldTrips s).pending = s.pending := by
  simp [State.recordHeldTrips]

/-- State.recordTransition writes cru, lgb at most. -/
@[simp] theorem State.recordTransition_keeps (s : State) :
    (State.recordTransition s).spn = s.spn ∧ (State.recordTransition s).boot = s.boot ∧
    (State.recordTransition s).strs = s.strs ∧ (State.recordTransition s).apa = s.apa ∧
    (State.recordTransition s).pol = s.pol ∧ (State.recordTransition s).fit = s.fit ∧
    (State.recordTransition s).bde = s.bde ∧ (State.recordTransition s).hma = s.hma ∧
    (State.recordTransition s).cme = s.cme ∧ (State.recordTransition s).rfg = s.rfg ∧
    (State.recordTransition s).atr = s.atr ∧ (State.recordTransition s).rfu = s.rfu ∧
    (State.recordTransition s).cby = s.cby ∧ (State.recordTransition s).otp = s.otp ∧
    (State.recordTransition s).emb = s.emb ∧ (State.recordTransition s).wwu = s.wwu ∧ (State.recordTransition s).io = s.io ∧
    (State.recordTransition s).draws = s.draws ∧ (State.recordTransition s).pending = s.pending := by
  unfold State.recordTransition; dsimp only; (repeat' split) <;> simp

/-- State.recordOwed writes boot, cru, lgb at most. -/
@[simp] theorem State.recordOwed_keeps (s : State) :
    (State.recordOwed s).spn = s.spn ∧ (State.recordOwed s).strs = s.strs ∧ (State.recordOwed s).apa = s.apa ∧
    (State.recordOwed s).pol = s.pol ∧ (State.recordOwed s).fit = s.fit ∧ (State.recordOwed s).bde = s.bde ∧
    (State.recordOwed s).hma = s.hma ∧ (State.recordOwed s).cme = s.cme ∧ (State.recordOwed s).rfg = s.rfg ∧
    (State.recordOwed s).atr = s.atr ∧ (State.recordOwed s).rfu = s.rfu ∧ (State.recordOwed s).cby = s.cby ∧
    (State.recordOwed s).otp = s.otp ∧ (State.recordOwed s).emb = s.emb ∧ (State.recordOwed s).wwu = s.wwu ∧
    (State.recordOwed s).io = s.io ∧ (State.recordOwed s).draws = s.draws ∧ (State.recordOwed s).pending = s.pending := by
  unfold State.recordOwed; dsimp only; (repeat' split) <;> simp

/-- State.controlRuns writes boot, rfu, cru, emb, lgb at most. -/
@[simp] theorem State.controlRuns_keeps (s : State) :
    (State.controlRuns s).spn = s.spn ∧ (State.controlRuns s).strs = s.strs ∧ (State.controlRuns s).apa = s.apa ∧
    (State.controlRuns s).pol = s.pol ∧ (State.controlRuns s).fit = s.fit ∧ (State.controlRuns s).bde = s.bde ∧
    (State.controlRuns s).hma = s.hma ∧ (State.controlRuns s).cme = s.cme ∧ (State.controlRuns s).rfg = s.rfg ∧
    (State.controlRuns s).atr = s.atr ∧ (State.controlRuns s).cby = s.cby ∧ (State.controlRuns s).otp = s.otp ∧
    (State.controlRuns s).wwu = s.wwu ∧ (State.controlRuns s).io = s.io ∧ (State.controlRuns s).draws = s.draws ∧
    (State.controlRuns s).pending = s.pending := by
  simp [State.controlRuns]

/-- State.holdAll writes strs, atr, wwu, lgb at most. -/
@[simp] theorem State.holdAll_keeps (s : State) (why : Reason) :
    (State.holdAll s why).spn = s.spn ∧ (State.holdAll s why).boot = s.boot ∧ (State.holdAll s why).apa = s.apa ∧
    (State.holdAll s why).pol = s.pol ∧ (State.holdAll s why).fit = s.fit ∧ (State.holdAll s why).bde = s.bde ∧
    (State.holdAll s why).hma = s.hma ∧ (State.holdAll s why).cme = s.cme ∧ (State.holdAll s why).rfg = s.rfg ∧
    (State.holdAll s why).rfu = s.rfu ∧ (State.holdAll s why).cby = s.cby ∧ (State.holdAll s why).cru = s.cru ∧
    (State.holdAll s why).otp = s.otp ∧ (State.holdAll s why).emb = s.emb ∧ (State.holdAll s why).io = s.io ∧
    (State.holdAll s why).draws = s.draws ∧ (State.holdAll s why).pending = s.pending := by
  simp [State.holdAll]

/-- State.builtIn writes strs, apa, pol, fit, atr, wwu, lgb at most. -/
@[simp] theorem State.builtIn_keeps (s : State) (why : Reason) :
    (State.builtIn s why).spn = s.spn ∧ (State.builtIn s why).boot = s.boot ∧ (State.builtIn s why).bde = s.bde ∧
    (State.builtIn s why).hma = s.hma ∧ (State.builtIn s why).cme = s.cme ∧ (State.builtIn s why).rfg = s.rfg ∧
    (State.builtIn s why).rfu = s.rfu ∧ (State.builtIn s why).cby = s.cby ∧ (State.builtIn s why).cru = s.cru ∧
    (State.builtIn s why).otp = s.otp ∧ (State.builtIn s why).emb = s.emb ∧ (State.builtIn s why).io = s.io ∧
    (State.builtIn s why).draws = s.draws ∧ (State.builtIn s why).pending = s.pending := by
  simp [State.builtIn]

/-- State.firstLc writes boot, pol, fit, rfg, atr, rfu, cby, cru, otp, emb, wwu, lgb at most. -/
@[simp] theorem State.firstLc_keeps (s : State) :
    (State.firstLc s).spn = s.spn ∧ (State.firstLc s).strs = s.strs ∧ (State.firstLc s).apa = s.apa ∧
    (State.firstLc s).bde = s.bde ∧ (State.firstLc s).hma = s.hma ∧ (State.firstLc s).cme = s.cme ∧
    (State.firstLc s).io = s.io ∧ (State.firstLc s).draws = s.draws ∧ (State.firstLc s).pending = s.pending := by
  unfold State.firstLc; dsimp only; (repeat' split) <;> simp

/-- State.firstCounters writes otp, emb at most. -/
@[simp] theorem State.firstCounters_keeps (s : State) :
    (State.firstCounters s).spn = s.spn ∧ (State.firstCounters s).boot = s.boot ∧ (State.firstCounters s).strs = s.strs ∧
    (State.firstCounters s).apa = s.apa ∧ (State.firstCounters s).pol = s.pol ∧ (State.firstCounters s).fit = s.fit ∧
    (State.firstCounters s).bde = s.bde ∧ (State.firstCounters s).hma = s.hma ∧ (State.firstCounters s).cme = s.cme ∧
    (State.firstCounters s).rfg = s.rfg ∧ (State.firstCounters s).atr = s.atr ∧ (State.firstCounters s).rfu = s.rfu ∧
    (State.firstCounters s).cby = s.cby ∧ (State.firstCounters s).cru = s.cru ∧ (State.firstCounters s).wwu = s.wwu ∧
    (State.firstCounters s).lgb = s.lgb ∧ (State.firstCounters s).io = s.io ∧ (State.firstCounters s).draws = s.draws ∧
    (State.firstCounters s).pending = s.pending := by
  simp [State.firstCounters]

/-- State.startEntropy writes cru at most. -/
@[simp] theorem State.startEntropy_keeps (s : State) (all good : Bool) :
    (State.startEntropy s all good).spn = s.spn ∧ (State.startEntropy s all good).boot = s.boot ∧
    (State.startEntropy s all good).strs = s.strs ∧ (State.startEntropy s all good).apa = s.apa ∧
    (State.startEntropy s all good).pol = s.pol ∧ (State.startEntropy s all good).fit = s.fit ∧
    (State.startEntropy s all good).bde = s.bde ∧ (State.startEntropy s all good).hma = s.hma ∧
    (State.startEntropy s all good).cme = s.cme ∧ (State.startEntropy s all good).rfg = s.rfg ∧
    (State.startEntropy s all good).atr = s.atr ∧ (State.startEntropy s all good).rfu = s.rfu ∧
    (State.startEntropy s all good).cby = s.cby ∧ (State.startEntropy s all good).otp = s.otp ∧
    (State.startEntropy s all good).emb = s.emb ∧ (State.startEntropy s all good).wwu = s.wwu ∧
    (State.startEntropy s all good).lgb = s.lgb ∧ (State.startEntropy s all good).io = s.io ∧
    (State.startEntropy s all good).draws = s.draws ∧ (State.startEntropy s all good).pending = s.pending := by
  simp [State.startEntropy]

/-- State.openTable writes cru, lgb at most. -/
@[simp] theorem State.openTable_keeps (s : State) :
    (State.openTable s).spn = s.spn ∧ (State.openTable s).boot = s.boot ∧ (State.openTable s).strs = s.strs ∧
    (State.openTable s).apa = s.apa ∧ (State.openTable s).pol = s.pol ∧ (State.openTable s).fit = s.fit ∧
    (State.openTable s).bde = s.bde ∧ (State.openTable s).hma = s.hma ∧ (State.openTable s).cme = s.cme ∧
    (State.openTable s).rfg = s.rfg ∧ (State.openTable s).atr = s.atr ∧ (State.openTable s).rfu = s.rfu ∧
    (State.openTable s).cby = s.cby ∧ (State.openTable s).otp = s.otp ∧ (State.openTable s).emb = s.emb ∧
    (State.openTable s).wwu = s.wwu ∧ (State.openTable s).io = s.io ∧ (State.openTable s).draws = s.draws ∧
    (State.openTable s).pending = s.pending := by
  simp [State.openTable]

/-- State.firstKeys writes atr, cru at most. -/
@[simp] theorem State.firstKeys_keeps (s : State) (fsp : Bytes) :
    (State.firstKeys s fsp).spn = s.spn ∧ (State.firstKeys s fsp).boot = s.boot ∧ (State.firstKeys s fsp).strs = s.strs ∧
    (State.firstKeys s fsp).apa = s.apa ∧ (State.firstKeys s fsp).pol = s.pol ∧ (State.firstKeys s fsp).fit = s.fit ∧
    (State.firstKeys s fsp).bde = s.bde ∧ (State.firstKeys s fsp).hma = s.hma ∧ (State.firstKeys s fsp).cme = s.cme ∧
    (State.firstKeys s fsp).rfg = s.rfg ∧ (State.firstKeys s fsp).rfu = s.rfu ∧ (State.firstKeys s fsp).cby = s.cby ∧
    (State.firstKeys s fsp).otp = s.otp ∧ (State.firstKeys s fsp).emb = s.emb ∧ (State.firstKeys s fsp).wwu = s.wwu ∧
    (State.firstKeys s fsp).lgb = s.lgb ∧ (State.firstKeys s fsp).io = s.io ∧ (State.firstKeys s fsp).draws = s.draws ∧
    (State.firstKeys s fsp).pending = s.pending := by
  simp [State.firstKeys]

/-- State.startWarden writes spn, boot, strs, pol, bde, hma, cme, atr, rfu, cby, cru, emb, wwu, lgb at most. -/
@[simp] theorem State.startWarden_keeps (s : State) (c src : Nat) :
    (State.startWarden s c src).apa = s.apa ∧ (State.startWarden s c src).fit = s.fit ∧
    (State.startWarden s c src).rfg = s.rfg ∧ (State.startWarden s c src).otp = s.otp ∧
    (State.startWarden s c src).io = s.io ∧ (State.startWarden s c src).draws = s.draws ∧
    (State.startWarden s c src).pending = s.pending := by
  simp [State.startWarden]

/-- State.tryCopies writes boot, lgb at most. -/
@[simp] theorem State.tryCopies_keeps (s : State) (cs : List Nat) :
    (State.tryCopies s cs).1.spn = s.spn ∧ (State.tryCopies s cs).1.strs = s.strs ∧ (State.tryCopies s cs).1.apa = s.apa ∧
    (State.tryCopies s cs).1.pol = s.pol ∧ (State.tryCopies s cs).1.fit = s.fit ∧ (State.tryCopies s cs).1.bde = s.bde ∧
    (State.tryCopies s cs).1.hma = s.hma ∧ (State.tryCopies s cs).1.cme = s.cme ∧ (State.tryCopies s cs).1.rfg = s.rfg ∧
    (State.tryCopies s cs).1.atr = s.atr ∧ (State.tryCopies s cs).1.rfu = s.rfu ∧ (State.tryCopies s cs).1.cby = s.cby ∧
    (State.tryCopies s cs).1.cru = s.cru ∧ (State.tryCopies s cs).1.otp = s.otp ∧ (State.tryCopies s cs).1.emb = s.emb ∧
    (State.tryCopies s cs).1.wwu = s.wwu ∧ (State.tryCopies s cs).1.io = s.io ∧ (State.tryCopies s cs).1.draws = s.draws ∧
    (State.tryCopies s cs).1.pending = s.pending := by
  refine ⟨foldl_fst State.spn (fun r c => by (repeat' split) <;> (try dsimp only) <;> (repeat' split) <;> simp) _ _, ?_⟩
  refine ⟨foldl_fst State.strs (fun r c => by (repeat' split) <;> (try dsimp only) <;> (repeat' split) <;> simp) _ _, ?_⟩
  refine ⟨foldl_fst State.apa (fun r c => by (repeat' split) <;> (try dsimp only) <;> (repeat' split) <;> simp) _ _, ?_⟩
  refine ⟨foldl_fst State.pol (fun r c => by (repeat' split) <;> (try dsimp only) <;> (repeat' split) <;> simp) _ _, ?_⟩
  refine ⟨foldl_fst State.fit (fun r c => by (repeat' split) <;> (try dsimp only) <;> (repeat' split) <;> simp) _ _, ?_⟩
  refine ⟨foldl_fst State.bde (fun r c => by (repeat' split) <;> (try dsimp only) <;> (repeat' split) <;> simp) _ _, ?_⟩
  refine ⟨foldl_fst State.hma (fun r c => by (repeat' split) <;> (try dsimp only) <;> (repeat' split) <;> simp) _ _, ?_⟩
  refine ⟨foldl_fst State.cme (fun r c => by (repeat' split) <;> (try dsimp only) <;> (repeat' split) <;> simp) _ _, ?_⟩
  refine ⟨foldl_fst State.rfg (fun r c => by (repeat' split) <;> (try dsimp only) <;> (repeat' split) <;> simp) _ _, ?_⟩
  refine ⟨foldl_fst State.atr (fun r c => by (repeat' split) <;> (try dsimp only) <;> (repeat' split) <;> simp) _ _, ?_⟩
  refine ⟨foldl_fst State.rfu (fun r c => by (repeat' split) <;> (try dsimp only) <;> (repeat' split) <;> simp) _ _, ?_⟩
  refine ⟨foldl_fst State.cby (fun r c => by (repeat' split) <;> (try dsimp only) <;> (repeat' split) <;> simp) _ _, ?_⟩
  refine ⟨foldl_fst State.cru (fun r c => by (repeat' split) <;> (try dsimp only) <;> (repeat' split) <;> simp) _ _, ?_⟩
  refine ⟨foldl_fst State.otp (fun r c => by (repeat' split) <;> (try dsimp only) <;> (repeat' split) <;> simp) _ _, ?_⟩
  refine ⟨foldl_fst State.emb (fun r c => by (repeat' split) <;> (try dsimp only) <;> (repeat' split) <;> simp) _ _, ?_⟩
  refine ⟨foldl_fst State.wwu (fun r c => by (repeat' split) <;> (try dsimp only) <;> (repeat' split) <;> simp) _ _, ?_⟩
  refine ⟨foldl_fst State.io (fun r c => by (repeat' split) <;> (try dsimp only) <;> (repeat' split) <;> simp) _ _, ?_⟩
  refine ⟨foldl_fst State.draws (fun r c => by (repeat' split) <;> (try dsimp only) <;> (repeat' split) <;> simp) _ _, ?_⟩
  exact foldl_fst State.pending (fun r c => by (repeat' split) <;> (try dsimp only) <;> (repeat' split) <;> simp) _ _

theorem State.tryCopies_to {s : State} {cs : List Nat} {r : Option Nat} {t : State} (e : (State.tryCopies s cs) = (t, r)) :
    t.spn = s.spn ∧ t.strs = s.strs ∧ t.apa = s.apa ∧ t.pol = s.pol ∧ t.fit = s.fit ∧ t.bde = s.bde ∧ t.hma = s.hma ∧
    t.cme = s.cme ∧ t.rfg = s.rfg ∧ t.atr = s.atr ∧ t.rfu = s.rfu ∧ t.cby = s.cby ∧ t.cru = s.cru ∧ t.otp = s.otp ∧
    t.emb = s.emb ∧ t.wwu = s.wwu ∧ t.io = s.io ∧ t.draws = s.draws ∧ t.pending = s.pending := by
  have k := State.tryCopies_keeps s cs
  rwa [e] at k

/-- State.beginSearch writes boot at most. -/
@[simp] theorem State.beginSearch_keeps (s : State) :
    (State.beginSearch s).spn = s.spn ∧ (State.beginSearch s).strs = s.strs ∧ (State.beginSearch s).apa = s.apa ∧
    (State.beginSearch s).pol = s.pol ∧ (State.beginSearch s).fit = s.fit ∧ (State.beginSearch s).bde = s.bde ∧
    (State.beginSearch s).hma = s.hma ∧ (State.beginSearch s).cme = s.cme ∧ (State.beginSearch s).rfg = s.rfg ∧
    (State.beginSearch s).atr = s.atr ∧ (State.beginSearch s).rfu = s.rfu ∧ (State.beginSearch s).cby = s.cby ∧
    (State.beginSearch s).cru = s.cru ∧ (State.beginSearch s).otp = s.otp ∧ (State.beginSearch s).emb = s.emb ∧
    (State.beginSearch s).wwu = s.wwu ∧ (State.beginSearch s).lgb = s.lgb ∧ (State.beginSearch s).io = s.io ∧
    (State.beginSearch s).draws = s.draws ∧ (State.beginSearch s).pending = s.pending := by
  simp [State.beginSearch]

/-- State.verifyCopies writes spn, boot, strs, pol, bde, hma, cme, atr, rfu, cby, cru, emb, wwu, lgb at most. -/
@[simp] theorem State.verifyCopies_keeps (s : State) :
    (State.verifyCopies s).apa = s.apa ∧ (State.verifyCopies s).fit = s.fit ∧ (State.verifyCopies s).rfg = s.rfg ∧
    (State.verifyCopies s).otp = s.otp ∧ (State.verifyCopies s).io = s.io ∧ (State.verifyCopies s).draws = s.draws ∧
    (State.verifyCopies s).pending = s.pending := by
  unfold State.verifyCopies; split <;> simp [State.tryCopies_to ‹_›] <;> split <;> simp [State.tryCopies_to ‹_›]

/-- State.startFsp writes boot at most. -/
@[simp] theorem State.startFsp_keeps (s : State) (eccError : Bool) :
    (State.startFsp s eccError).spn = s.spn ∧ (State.startFsp s eccError).strs = s.strs ∧
    (State.startFsp s eccError).apa = s.apa ∧ (State.startFsp s eccError).pol = s.pol ∧
    (State.startFsp s eccError).fit = s.fit ∧ (State.startFsp s eccError).bde = s.bde ∧
    (State.startFsp s eccError).hma = s.hma ∧ (State.startFsp s eccError).cme = s.cme ∧
    (State.startFsp s eccError).rfg = s.rfg ∧ (State.startFsp s eccError).atr = s.atr ∧
    (State.startFsp s eccError).rfu = s.rfu ∧ (State.startFsp s eccError).cby = s.cby ∧
    (State.startFsp s eccError).cru = s.cru ∧ (State.startFsp s eccError).otp = s.otp ∧
    (State.startFsp s eccError).emb = s.emb ∧ (State.startFsp s eccError).wwu = s.wwu ∧
    (State.startFsp s eccError).lgb = s.lgb ∧ (State.startFsp s eccError).io = s.io ∧
    (State.startFsp s eccError).draws = s.draws ∧ (State.startFsp s eccError).pending = s.pending := by
  simp [State.startFsp]

/-- State.releaseDigest writes bde at most. -/
@[simp] theorem State.releaseDigest_keeps (s : State) (d digestFails : Nat) :
    (State.releaseDigest s d digestFails).spn = s.spn ∧ (State.releaseDigest s d digestFails).boot = s.boot ∧
    (State.releaseDigest s d digestFails).strs = s.strs ∧ (State.releaseDigest s d digestFails).apa = s.apa ∧
    (State.releaseDigest s d digestFails).pol = s.pol ∧ (State.releaseDigest s d digestFails).fit = s.fit ∧
    (State.releaseDigest s d digestFails).hma = s.hma ∧ (State.releaseDigest s d digestFails).cme = s.cme ∧
    (State.releaseDigest s d digestFails).rfg = s.rfg ∧ (State.releaseDigest s d digestFails).atr = s.atr ∧
    (State.releaseDigest s d digestFails).rfu = s.rfu ∧ (State.releaseDigest s d digestFails).cby = s.cby ∧
    (State.releaseDigest s d digestFails).cru = s.cru ∧ (State.releaseDigest s d digestFails).otp = s.otp ∧
    (State.releaseDigest s d digestFails).emb = s.emb ∧ (State.releaseDigest s d digestFails).wwu = s.wwu ∧
    (State.releaseDigest s d digestFails).lgb = s.lgb ∧ (State.releaseDigest s d digestFails).io = s.io ∧
    (State.releaseDigest s d digestFails).draws = s.draws ∧ (State.releaseDigest s d digestFails).pending = s.pending := by
  simp [State.releaseDigest]

/-- State.nextCartridge writes boot at most. -/
@[simp] theorem State.nextCartridge_keeps (s : State) :
    (State.nextCartridge s).spn = s.spn ∧ (State.nextCartridge s).strs = s.strs ∧ (State.nextCartridge s).apa = s.apa ∧
    (State.nextCartridge s).pol = s.pol ∧ (State.nextCartridge s).fit = s.fit ∧ (State.nextCartridge s).bde = s.bde ∧
    (State.nextCartridge s).hma = s.hma ∧ (State.nextCartridge s).cme = s.cme ∧ (State.nextCartridge s).rfg = s.rfg ∧
    (State.nextCartridge s).atr = s.atr ∧ (State.nextCartridge s).rfu = s.rfu ∧ (State.nextCartridge s).cby = s.cby ∧
    (State.nextCartridge s).cru = s.cru ∧ (State.nextCartridge s).otp = s.otp ∧ (State.nextCartridge s).emb = s.emb ∧
    (State.nextCartridge s).wwu = s.wwu ∧ (State.nextCartridge s).lgb = s.lgb ∧ (State.nextCartridge s).io = s.io ∧
    (State.nextCartridge s).draws = s.draws ∧ (State.nextCartridge s).pending = s.pending := by
  simp [State.nextCartridge]

/-- State.releaseLanes writes spn, hma, cme, cru, lgb at most. -/
@[simp] theorem State.releaseLanes_keeps (s : State) (es : List BundleEntry) (fails : Nat) :
    (State.releaseLanes s es fails).boot = s.boot ∧ (State.releaseLanes s es fails).strs = s.strs ∧
    (State.releaseLanes s es fails).apa = s.apa ∧ (State.releaseLanes s es fails).pol = s.pol ∧
    (State.releaseLanes s es fails).fit = s.fit ∧ (State.releaseLanes s es fails).bde = s.bde ∧
    (State.releaseLanes s es fails).rfg = s.rfg ∧ (State.releaseLanes s es fails).atr = s.atr ∧
    (State.releaseLanes s es fails).rfu = s.rfu ∧ (State.releaseLanes s es fails).cby = s.cby ∧
    (State.releaseLanes s es fails).otp = s.otp ∧ (State.releaseLanes s es fails).emb = s.emb ∧
    (State.releaseLanes s es fails).wwu = s.wwu ∧ (State.releaseLanes s es fails).io = s.io ∧
    (State.releaseLanes s es fails).draws = s.draws ∧ (State.releaseLanes s es fails).pending = s.pending := by
  simp [State.releaseLanes]

/-- State.loadDecoders writes spn, apa, fit, lgb at most. -/
@[simp] theorem State.loadDecoders_keeps (s : State) (es : List BundleEntry) (diff p : Nat) :
    (State.loadDecoders s es diff p).boot = s.boot ∧ (State.loadDecoders s es diff p).strs = s.strs ∧
    (State.loadDecoders s es diff p).pol = s.pol ∧ (State.loadDecoders s es diff p).bde = s.bde ∧
    (State.loadDecoders s es diff p).hma = s.hma ∧ (State.loadDecoders s es diff p).cme = s.cme ∧
    (State.loadDecoders s es diff p).rfg = s.rfg ∧ (State.loadDecoders s es diff p).atr = s.atr ∧
    (State.loadDecoders s es diff p).rfu = s.rfu ∧ (State.loadDecoders s es diff p).cby = s.cby ∧
    (State.loadDecoders s es diff p).cru = s.cru ∧ (State.loadDecoders s es diff p).otp = s.otp ∧
    (State.loadDecoders s es diff p).emb = s.emb ∧ (State.loadDecoders s es diff p).wwu = s.wwu ∧
    (State.loadDecoders s es diff p).io = s.io ∧ (State.loadDecoders s es diff p).draws = s.draws ∧
    (State.loadDecoders s es diff p).pending = s.pending := by
  simp [State.loadDecoders]

/-- State.takeBundle writes spn, boot, apa, fit, hma, cme, atr, cru, lgb at most. -/
@[simp] theorem State.takeBundle_keeps (s : State) (image : Bytes) (laneFails portFails : Nat) :
    (State.takeBundle s image laneFails portFails).strs = s.strs ∧
    (State.takeBundle s image laneFails portFails).pol = s.pol ∧ (State.takeBundle s image laneFails portFails).bde = s.bde ∧
    (State.takeBundle s image laneFails portFails).rfg = s.rfg ∧ (State.takeBundle s image laneFails portFails).rfu = s.rfu ∧
    (State.takeBundle s image laneFails portFails).cby = s.cby ∧ (State.takeBundle s image laneFails portFails).otp = s.otp ∧
    (State.takeBundle s image laneFails portFails).emb = s.emb ∧ (State.takeBundle s image laneFails portFails).wwu = s.wwu ∧
    (State.takeBundle s image laneFails portFails).io = s.io ∧
    (State.takeBundle s image laneFails portFails).draws = s.draws ∧
    (State.takeBundle s image laneFails portFails).pending = s.pending := by
  simp [State.takeBundle]

/-- State.takeHeader writes boot at most. -/
@[simp] theorem State.takeHeader_keeps (s : State) (reads : List Bytes) :
    (State.takeHeader s reads).spn = s.spn ∧ (State.takeHeader s reads).strs = s.strs ∧
    (State.takeHeader s reads).apa = s.apa ∧ (State.takeHeader s reads).pol = s.pol ∧
    (State.takeHeader s reads).fit = s.fit ∧ (State.takeHeader s reads).bde = s.bde ∧
    (State.takeHeader s reads).hma = s.hma ∧ (State.takeHeader s reads).cme = s.cme ∧
    (State.takeHeader s reads).rfg = s.rfg ∧ (State.takeHeader s reads).atr = s.atr ∧
    (State.takeHeader s reads).rfu = s.rfu ∧ (State.takeHeader s reads).cby = s.cby ∧
    (State.takeHeader s reads).cru = s.cru ∧ (State.takeHeader s reads).otp = s.otp ∧
    (State.takeHeader s reads).emb = s.emb ∧ (State.takeHeader s reads).wwu = s.wwu ∧
    (State.takeHeader s reads).lgb = s.lgb ∧ (State.takeHeader s reads).io = s.io ∧
    (State.takeHeader s reads).draws = s.draws ∧ (State.takeHeader s reads).pending = s.pending := by
  simp [State.takeHeader]

/-- State.searchBundle writes boot at most. -/
@[simp] theorem State.searchBundle_keeps (s : State) :
    (State.searchBundle s).spn = s.spn ∧ (State.searchBundle s).strs = s.strs ∧ (State.searchBundle s).apa = s.apa ∧
    (State.searchBundle s).pol = s.pol ∧ (State.searchBundle s).fit = s.fit ∧ (State.searchBundle s).bde = s.bde ∧
    (State.searchBundle s).hma = s.hma ∧ (State.searchBundle s).cme = s.cme ∧ (State.searchBundle s).rfg = s.rfg ∧
    (State.searchBundle s).atr = s.atr ∧ (State.searchBundle s).rfu = s.rfu ∧ (State.searchBundle s).cby = s.cby ∧
    (State.searchBundle s).cru = s.cru ∧ (State.searchBundle s).otp = s.otp ∧ (State.searchBundle s).emb = s.emb ∧
    (State.searchBundle s).wwu = s.wwu ∧ (State.searchBundle s).lgb = s.lgb ∧ (State.searchBundle s).io = s.io ∧
    (State.searchBundle s).draws = s.draws ∧ (State.searchBundle s).pending = s.pending := by
  simp [State.searchBundle]

/-- State.bundleFails writes boot, lgb at most. -/
@[simp] theorem State.bundleFails_keeps (s : State) (c : Nat) (f : BootCause) :
    (State.bundleFails s c f).spn = s.spn ∧ (State.bundleFails s c f).strs = s.strs ∧ (State.bundleFails s c f).apa = s.apa ∧
    (State.bundleFails s c f).pol = s.pol ∧ (State.bundleFails s c f).fit = s.fit ∧ (State.bundleFails s c f).bde = s.bde ∧
    (State.bundleFails s c f).hma = s.hma ∧ (State.bundleFails s c f).cme = s.cme ∧ (State.bundleFails s c f).rfg = s.rfg ∧
    (State.bundleFails s c f).atr = s.atr ∧ (State.bundleFails s c f).rfu = s.rfu ∧ (State.bundleFails s c f).cby = s.cby ∧
    (State.bundleFails s c f).cru = s.cru ∧ (State.bundleFails s c f).otp = s.otp ∧ (State.bundleFails s c f).emb = s.emb ∧
    (State.bundleFails s c f).wwu = s.wwu ∧ (State.bundleFails s c f).io = s.io ∧ (State.bundleFails s c f).draws = s.draws ∧
    (State.bundleFails s c f).pending = s.pending := by
  simp [State.bundleFails]

/-- State.chooseImage writes hma, cme, lgb at most. -/
@[simp] theorem State.chooseImage_keeps (s : State) (verdicts : Nat) :
    (State.chooseImage s verdicts).1.spn = s.spn ∧ (State.chooseImage s verdicts).1.boot = s.boot ∧
    (State.chooseImage s verdicts).1.strs = s.strs ∧ (State.chooseImage s verdicts).1.apa = s.apa ∧
    (State.chooseImage s verdicts).1.pol = s.pol ∧ (State.chooseImage s verdicts).1.fit = s.fit ∧
    (State.chooseImage s verdicts).1.bde = s.bde ∧ (State.chooseImage s verdicts).1.rfg = s.rfg ∧
    (State.chooseImage s verdicts).1.atr = s.atr ∧ (State.chooseImage s verdicts).1.rfu = s.rfu ∧
    (State.chooseImage s verdicts).1.cby = s.cby ∧ (State.chooseImage s verdicts).1.cru = s.cru ∧
    (State.chooseImage s verdicts).1.otp = s.otp ∧ (State.chooseImage s verdicts).1.emb = s.emb ∧
    (State.chooseImage s verdicts).1.wwu = s.wwu ∧ (State.chooseImage s verdicts).1.io = s.io ∧
    (State.chooseImage s verdicts).1.draws = s.draws ∧ (State.chooseImage s verdicts).1.pending = s.pending := by
  unfold State.chooseImage
  cases s.pol.committed with
  | none => simp
  | some k => cases s.polSlot k <;> dsimp only <;> (repeat' split) <;> simp

/-- State.loadPorts writes apa at most. -/
@[simp] theorem State.loadPorts_keeps (s : State) (i : Image) :
    (State.loadPorts s i).spn = s.spn ∧ (State.loadPorts s i).boot = s.boot ∧ (State.loadPorts s i).strs = s.strs ∧
    (State.loadPorts s i).pol = s.pol ∧ (State.loadPorts s i).fit = s.fit ∧ (State.loadPorts s i).bde = s.bde ∧
    (State.loadPorts s i).hma = s.hma ∧ (State.loadPorts s i).cme = s.cme ∧ (State.loadPorts s i).rfg = s.rfg ∧
    (State.loadPorts s i).atr = s.atr ∧ (State.loadPorts s i).rfu = s.rfu ∧ (State.loadPorts s i).cby = s.cby ∧
    (State.loadPorts s i).cru = s.cru ∧ (State.loadPorts s i).otp = s.otp ∧ (State.loadPorts s i).emb = s.emb ∧
    (State.loadPorts s i).wwu = s.wwu ∧ (State.loadPorts s i).lgb = s.lgb ∧ (State.loadPorts s i).io = s.io ∧
    (State.loadPorts s i).draws = s.draws ∧ (State.loadPorts s i).pending = s.pending := by
  simp [State.loadPorts]

/-- State.recordDevices writes fit at most. -/
@[simp] theorem State.recordDevices_keeps (s : State) :
    (State.recordDevices s).spn = s.spn ∧ (State.recordDevices s).boot = s.boot ∧ (State.recordDevices s).strs = s.strs ∧
    (State.recordDevices s).apa = s.apa ∧ (State.recordDevices s).pol = s.pol ∧ (State.recordDevices s).bde = s.bde ∧
    (State.recordDevices s).hma = s.hma ∧ (State.recordDevices s).cme = s.cme ∧ (State.recordDevices s).rfg = s.rfg ∧
    (State.recordDevices s).atr = s.atr ∧ (State.recordDevices s).rfu = s.rfu ∧ (State.recordDevices s).cby = s.cby ∧
    (State.recordDevices s).cru = s.cru ∧ (State.recordDevices s).otp = s.otp ∧ (State.recordDevices s).emb = s.emb ∧
    (State.recordDevices s).wwu = s.wwu ∧ (State.recordDevices s).lgb = s.lgb ∧ (State.recordDevices s).io = s.io ∧
    (State.recordDevices s).draws = s.draws ∧ (State.recordDevices s).pending = s.pending := by
  simp [State.recordDevices]

/-- State.loadSlots writes strs, fit, atr, rfu, lgb at most. -/
@[simp] theorem State.loadSlots_keeps (s : State) :
    (State.loadSlots s).spn = s.spn ∧ (State.loadSlots s).boot = s.boot ∧ (State.loadSlots s).apa = s.apa ∧
    (State.loadSlots s).pol = s.pol ∧ (State.loadSlots s).bde = s.bde ∧ (State.loadSlots s).hma = s.hma ∧
    (State.loadSlots s).cme = s.cme ∧ (State.loadSlots s).rfg = s.rfg ∧ (State.loadSlots s).cby = s.cby ∧
    (State.loadSlots s).cru = s.cru ∧ (State.loadSlots s).otp = s.otp ∧ (State.loadSlots s).emb = s.emb ∧
    (State.loadSlots s).wwu = s.wwu ∧ (State.loadSlots s).io = s.io ∧ (State.loadSlots s).draws = s.draws ∧
    (State.loadSlots s).pending = s.pending := by
  simp [State.loadSlots]

/-- State.reachOperational writes spn, cme, cru, emb, draws at most. -/
@[simp] theorem State.reachOperational_keeps (s : State) :
    (State.reachOperational s).boot = s.boot ∧ (State.reachOperational s).strs = s.strs ∧
    (State.reachOperational s).apa = s.apa ∧ (State.reachOperational s).pol = s.pol ∧
    (State.reachOperational s).fit = s.fit ∧ (State.reachOperational s).bde = s.bde ∧
    (State.reachOperational s).hma = s.hma ∧ (State.reachOperational s).rfg = s.rfg ∧
    (State.reachOperational s).atr = s.atr ∧ (State.reachOperational s).rfu = s.rfu ∧
    (State.reachOperational s).cby = s.cby ∧ (State.reachOperational s).otp = s.otp ∧
    (State.reachOperational s).wwu = s.wwu ∧ (State.reachOperational s).lgb = s.lgb ∧ (State.reachOperational s).io = s.io ∧
    (State.reachOperational s).pending = s.pending := by
  simp [State.reachOperational]

/-- State.finishStart writes spn, boot, strs, apa, fit, bde, cme, rfg, atr, rfu, cru, otp, emb, wwu, lgb, io, draws at most. -/
@[simp] theorem State.finishStart_keeps (s : State) (ph : Phase) :
    (State.finishStart s ph).pol = s.pol ∧ (State.finishStart s ph).hma = s.hma ∧ (State.finishStart s ph).cby = s.cby ∧
    (State.finishStart s ph).pending = s.pending := by
  simp [State.finishStart]

/-- State.signRun writes hma, cme, cru, lgb at most. -/
@[simp] theorem State.signRun_keeps (s : State) (n e : Nat) :
    (State.signRun s n e).2.spn = s.spn ∧ (State.signRun s n e).2.boot = s.boot ∧ (State.signRun s n e).2.strs = s.strs ∧
    (State.signRun s n e).2.apa = s.apa ∧ (State.signRun s n e).2.pol = s.pol ∧ (State.signRun s n e).2.fit = s.fit ∧
    (State.signRun s n e).2.bde = s.bde ∧ (State.signRun s n e).2.rfg = s.rfg ∧ (State.signRun s n e).2.atr = s.atr ∧
    (State.signRun s n e).2.rfu = s.rfu ∧ (State.signRun s n e).2.cby = s.cby ∧ (State.signRun s n e).2.otp = s.otp ∧
    (State.signRun s n e).2.emb = s.emb ∧ (State.signRun s n e).2.wwu = s.wwu ∧ (State.signRun s n e).2.io = s.io ∧
    (State.signRun s n e).2.draws = s.draws ∧ (State.signRun s n e).2.pending = s.pending := by
  induction n generalizing s e with
  | zero => simp [State.signRun]
  | succ n ih => unfold State.signRun; dsimp only; split <;> simp [ih]

/-- State.actOn writes spn, strs, apa, fit, bde, cme, atr, rfu, wwu, lgb, io at most. -/
@[simp] theorem State.actOn_keeps (s : State) (l : Latched) :
    (State.actOn s l).boot = s.boot ∧ (State.actOn s l).pol = s.pol ∧ (State.actOn s l).hma = s.hma ∧
    (State.actOn s l).rfg = s.rfg ∧ (State.actOn s l).cby = s.cby ∧ (State.actOn s l).cru = s.cru ∧
    (State.actOn s l).otp = s.otp ∧ (State.actOn s l).emb = s.emb ∧ (State.actOn s l).draws = s.draws ∧
    (State.actOn s l).pending = s.pending := by
  unfold State.actOn; (repeat' split) <;> (try dsimp only) <;> (repeat' split) <;> simp

/-- State.resumeStrings writes spn, boot, strs, apa, pol, bde, hma, cme, atr, rfu, cby, cru, wwu, lgb at most. -/
@[simp] theorem State.resumeStrings_keeps (s : State) :
    (State.resumeStrings s).fit = s.fit ∧ (State.resumeStrings s).rfg = s.rfg ∧ (State.resumeStrings s).otp = s.otp ∧
    (State.resumeStrings s).emb = s.emb ∧ (State.resumeStrings s).io = s.io ∧ (State.resumeStrings s).draws = s.draws ∧
    (State.resumeStrings s).pending = s.pending := by
  simp [State.resumeStrings]

/-- State.emptyCopy writes boot at most. -/
@[simp] theorem State.emptyCopy_keeps (s : State) (component c : Nat) :
    (State.emptyCopy s component c).spn = s.spn ∧ (State.emptyCopy s component c).strs = s.strs ∧
    (State.emptyCopy s component c).apa = s.apa ∧ (State.emptyCopy s component c).pol = s.pol ∧
    (State.emptyCopy s component c).fit = s.fit ∧ (State.emptyCopy s component c).bde = s.bde ∧
    (State.emptyCopy s component c).hma = s.hma ∧ (State.emptyCopy s component c).cme = s.cme ∧
    (State.emptyCopy s component c).rfg = s.rfg ∧ (State.emptyCopy s component c).atr = s.atr ∧
    (State.emptyCopy s component c).rfu = s.rfu ∧ (State.emptyCopy s component c).cby = s.cby ∧
    (State.emptyCopy s component c).cru = s.cru ∧ (State.emptyCopy s component c).otp = s.otp ∧
    (State.emptyCopy s component c).emb = s.emb ∧ (State.emptyCopy s component c).wwu = s.wwu ∧
    (State.emptyCopy s component c).lgb = s.lgb ∧ (State.emptyCopy s component c).io = s.io ∧
    (State.emptyCopy s component c).draws = s.draws ∧ (State.emptyCopy s component c).pending = s.pending := by
  simp [State.emptyCopy]

/-- State.writeCopy writes boot at most. -/
@[simp] theorem State.writeCopy_keeps (s : State) (component c : Nat) (image : Bytes) :
    (State.writeCopy s component c image).spn = s.spn ∧ (State.writeCopy s component c image).strs = s.strs ∧
    (State.writeCopy s component c image).apa = s.apa ∧ (State.writeCopy s component c image).pol = s.pol ∧
    (State.writeCopy s component c image).fit = s.fit ∧ (State.writeCopy s component c image).bde = s.bde ∧
    (State.writeCopy s component c image).hma = s.hma ∧ (State.writeCopy s component c image).cme = s.cme ∧
    (State.writeCopy s component c image).rfg = s.rfg ∧ (State.writeCopy s component c image).atr = s.atr ∧
    (State.writeCopy s component c image).rfu = s.rfu ∧ (State.writeCopy s component c image).cby = s.cby ∧
    (State.writeCopy s component c image).cru = s.cru ∧ (State.writeCopy s component c image).otp = s.otp ∧
    (State.writeCopy s component c image).emb = s.emb ∧ (State.writeCopy s component c image).wwu = s.wwu ∧
    (State.writeCopy s component c image).lgb = s.lgb ∧ (State.writeCopy s component c image).io = s.io ∧
    (State.writeCopy s component c image).draws = s.draws ∧ (State.writeCopy s component c image).pending = s.pending := by
  simp [State.writeCopy]

/-- State.judgeComponent writes hma, cme, lgb at most. -/
@[simp] theorem State.judgeComponent_keeps (s : State) (component : Nat) (image : Bytes) (verdicts : Nat) :
    (State.judgeComponent s component image verdicts).2.spn = s.spn ∧
    (State.judgeComponent s component image verdicts).2.boot = s.boot ∧
    (State.judgeComponent s component image verdicts).2.strs = s.strs ∧
    (State.judgeComponent s component image verdicts).2.apa = s.apa ∧
    (State.judgeComponent s component image verdicts).2.pol = s.pol ∧
    (State.judgeComponent s component image verdicts).2.fit = s.fit ∧
    (State.judgeComponent s component image verdicts).2.bde = s.bde ∧
    (State.judgeComponent s component image verdicts).2.rfg = s.rfg ∧
    (State.judgeComponent s component image verdicts).2.atr = s.atr ∧
    (State.judgeComponent s component image verdicts).2.rfu = s.rfu ∧
    (State.judgeComponent s component image verdicts).2.cby = s.cby ∧
    (State.judgeComponent s component image verdicts).2.cru = s.cru ∧
    (State.judgeComponent s component image verdicts).2.otp = s.otp ∧
    (State.judgeComponent s component image verdicts).2.emb = s.emb ∧
    (State.judgeComponent s component image verdicts).2.wwu = s.wwu ∧
    (State.judgeComponent s component image verdicts).2.io = s.io ∧
    (State.judgeComponent s component image verdicts).2.draws = s.draws ∧
    (State.judgeComponent s component image verdicts).2.pending = s.pending := by
  unfold State.judgeComponent; dsimp only; (repeat' split) <;> simp

theorem State.judgeComponent_to {s : State} {component : Nat} {image : Bytes} {verdicts : Nat} {r : Option BootCause} {t : State} (e : (State.judgeComponent s component image verdicts) = (r, t)) :
    t.spn = s.spn ∧ t.boot = s.boot ∧ t.strs = s.strs ∧ t.apa = s.apa ∧ t.pol = s.pol ∧ t.fit = s.fit ∧ t.bde = s.bde ∧
    t.rfg = s.rfg ∧ t.atr = s.atr ∧ t.rfu = s.rfu ∧ t.cby = s.cby ∧ t.cru = s.cru ∧ t.otp = s.otp ∧ t.emb = s.emb ∧
    t.wwu = s.wwu ∧ t.io = s.io ∧ t.draws = s.draws ∧ t.pending = s.pending := by
  have k := State.judgeComponent_keeps s component image verdicts
  rwa [e] at k

/-- State.prefer writes boot at most. -/
@[simp] theorem State.prefer_keeps (s : State) (component c : Nat) :
    (State.prefer s component c).spn = s.spn ∧ (State.prefer s component c).strs = s.strs ∧
    (State.prefer s component c).apa = s.apa ∧ (State.prefer s component c).pol = s.pol ∧
    (State.prefer s component c).fit = s.fit ∧ (State.prefer s component c).bde = s.bde ∧
    (State.prefer s component c).hma = s.hma ∧ (State.prefer s component c).cme = s.cme ∧
    (State.prefer s component c).rfg = s.rfg ∧ (State.prefer s component c).atr = s.atr ∧
    (State.prefer s component c).rfu = s.rfu ∧ (State.prefer s component c).cby = s.cby ∧
    (State.prefer s component c).cru = s.cru ∧ (State.prefer s component c).otp = s.otp ∧
    (State.prefer s component c).emb = s.emb ∧ (State.prefer s component c).wwu = s.wwu ∧
    (State.prefer s component c).lgb = s.lgb ∧ (State.prefer s component c).io = s.io ∧
    (State.prefer s component c).draws = s.draws ∧ (State.prefer s component c).pending = s.pending := by
  simp [State.prefer]

/-- State.endUpdate writes spn, boot, lgb at most. -/
@[simp] theorem State.endUpdate_keeps (s : State) :
    (State.endUpdate s).strs = s.strs ∧ (State.endUpdate s).apa = s.apa ∧ (State.endUpdate s).pol = s.pol ∧
    (State.endUpdate s).fit = s.fit ∧ (State.endUpdate s).bde = s.bde ∧ (State.endUpdate s).hma = s.hma ∧
    (State.endUpdate s).cme = s.cme ∧ (State.endUpdate s).rfg = s.rfg ∧ (State.endUpdate s).atr = s.atr ∧
    (State.endUpdate s).rfu = s.rfu ∧ (State.endUpdate s).cby = s.cby ∧ (State.endUpdate s).cru = s.cru ∧
    (State.endUpdate s).otp = s.otp ∧ (State.endUpdate s).emb = s.emb ∧ (State.endUpdate s).wwu = s.wwu ∧
    (State.endUpdate s).io = s.io ∧ (State.endUpdate s).draws = s.draws ∧ (State.endUpdate s).pending = s.pending := by
  simp [State.endUpdate]

/-- State.stageImage writes spn, boot, hma, cme, lgb at most. -/
@[simp] theorem State.stageImage_keeps (s : State) (u : Update) :
    (State.stageImage s u).2.strs = s.strs ∧ (State.stageImage s u).2.apa = s.apa ∧ (State.stageImage s u).2.pol = s.pol ∧
    (State.stageImage s u).2.fit = s.fit ∧ (State.stageImage s u).2.bde = s.bde ∧ (State.stageImage s u).2.rfg = s.rfg ∧
    (State.stageImage s u).2.atr = s.atr ∧ (State.stageImage s u).2.rfu = s.rfu ∧ (State.stageImage s u).2.cby = s.cby ∧
    (State.stageImage s u).2.cru = s.cru ∧ (State.stageImage s u).2.otp = s.otp ∧ (State.stageImage s u).2.emb = s.emb ∧
    (State.stageImage s u).2.wwu = s.wwu ∧ (State.stageImage s u).2.io = s.io ∧ (State.stageImage s u).2.draws = s.draws ∧
    (State.stageImage s u).2.pending = s.pending := by
  unfold State.stageImage; dsimp only; split
  · simp
  · split <;> simp [State.judgeComponent_to ‹_›]

/-- State.activateCopy writes spn, boot, cme, lgb at most. -/
@[simp] theorem State.activateCopy_keeps (s : State) (component copy : Nat) :
    (State.activateCopy s component copy).2.strs = s.strs ∧ (State.activateCopy s component copy).2.apa = s.apa ∧
    (State.activateCopy s component copy).2.pol = s.pol ∧ (State.activateCopy s component copy).2.fit = s.fit ∧
    (State.activateCopy s component copy).2.bde = s.bde ∧ (State.activateCopy s component copy).2.hma = s.hma ∧
    (State.activateCopy s component copy).2.rfg = s.rfg ∧ (State.activateCopy s component copy).2.atr = s.atr ∧
    (State.activateCopy s component copy).2.rfu = s.rfu ∧ (State.activateCopy s component copy).2.cby = s.cby ∧
    (State.activateCopy s component copy).2.cru = s.cru ∧ (State.activateCopy s component copy).2.otp = s.otp ∧
    (State.activateCopy s component copy).2.emb = s.emb ∧ (State.activateCopy s component copy).2.wwu = s.wwu ∧
    (State.activateCopy s component copy).2.io = s.io ∧ (State.activateCopy s component copy).2.draws = s.draws ∧
    (State.activateCopy s component copy).2.pending = s.pending := by
  unfold State.activateCopy; dsimp only; (repeat' split) <;> simp

/-- State.serveUpdate writes spn, boot, hma, cme, rfg, atr, cru, lgb at most. -/
@[simp] theorem State.serveUpdate_keeps (s : State) :
    (State.serveUpdate s).strs = s.strs ∧ (State.serveUpdate s).apa = s.apa ∧ (State.serveUpdate s).pol = s.pol ∧
    (State.serveUpdate s).fit = s.fit ∧ (State.serveUpdate s).bde = s.bde ∧ (State.serveUpdate s).rfu = s.rfu ∧
    (State.serveUpdate s).cby = s.cby ∧ (State.serveUpdate s).otp = s.otp ∧ (State.serveUpdate s).emb = s.emb ∧
    (State.serveUpdate s).wwu = s.wwu ∧ (State.serveUpdate s).io = s.io ∧ (State.serveUpdate s).draws = s.draws ∧
    (State.serveUpdate s).pending = s.pending := by
  unfold State.serveUpdate; dsimp only
  split
  · simp
  · split
    · split
      · split <;> (try split) <;> simp [State.ownDone_keeps]
      · simp
    · simp

/-- State.strand writes boot, lgb at most. -/
@[simp] theorem State.strand_keeps (s : State) (component c : Nat) :
    (State.strand s component c).spn = s.spn ∧ (State.strand s component c).strs = s.strs ∧
    (State.strand s component c).apa = s.apa ∧ (State.strand s component c).pol = s.pol ∧
    (State.strand s component c).fit = s.fit ∧ (State.strand s component c).bde = s.bde ∧
    (State.strand s component c).hma = s.hma ∧ (State.strand s component c).cme = s.cme ∧
    (State.strand s component c).rfg = s.rfg ∧ (State.strand s component c).atr = s.atr ∧
    (State.strand s component c).rfu = s.rfu ∧ (State.strand s component c).cby = s.cby ∧
    (State.strand s component c).cru = s.cru ∧ (State.strand s component c).otp = s.otp ∧
    (State.strand s component c).emb = s.emb ∧ (State.strand s component c).wwu = s.wwu ∧
    (State.strand s component c).io = s.io ∧ (State.strand s component c).draws = s.draws ∧
    (State.strand s component c).pending = s.pending := by
  simp [State.strand]

/-- State.pldm writes cme, lgb, io at most. -/
@[simp] theorem State.pldm_keeps (s : State) (binding cc : Nat) (body : Bytes := []) :
    (State.pldm s binding cc body).spn = s.spn ∧ (State.pldm s binding cc body).boot = s.boot ∧
    (State.pldm s binding cc body).strs = s.strs ∧ (State.pldm s binding cc body).apa = s.apa ∧
    (State.pldm s binding cc body).pol = s.pol ∧ (State.pldm s binding cc body).fit = s.fit ∧
    (State.pldm s binding cc body).bde = s.bde ∧ (State.pldm s binding cc body).hma = s.hma ∧
    (State.pldm s binding cc body).rfg = s.rfg ∧ (State.pldm s binding cc body).atr = s.atr ∧
    (State.pldm s binding cc body).rfu = s.rfu ∧ (State.pldm s binding cc body).cby = s.cby ∧
    (State.pldm s binding cc body).cru = s.cru ∧ (State.pldm s binding cc body).otp = s.otp ∧
    (State.pldm s binding cc body).emb = s.emb ∧ (State.pldm s binding cc body).wwu = s.wwu ∧
    (State.pldm s binding cc body).draws = s.draws ∧ (State.pldm s binding cc body).pending = s.pending := by
  simp [State.pldm]

/-- State.pldmYields writes spn, cme, lgb at most. -/
@[simp] theorem State.pldmYields_keeps (s : State) :
    (State.pldmYields s).boot = s.boot ∧ (State.pldmYields s).strs = s.strs ∧ (State.pldmYields s).apa = s.apa ∧
    (State.pldmYields s).pol = s.pol ∧ (State.pldmYields s).fit = s.fit ∧ (State.pldmYields s).bde = s.bde ∧
    (State.pldmYields s).hma = s.hma ∧ (State.pldmYields s).rfg = s.rfg ∧ (State.pldmYields s).atr = s.atr ∧
    (State.pldmYields s).rfu = s.rfu ∧ (State.pldmYields s).cby = s.cby ∧ (State.pldmYields s).cru = s.cru ∧
    (State.pldmYields s).otp = s.otp ∧ (State.pldmYields s).emb = s.emb ∧ (State.pldmYields s).wwu = s.wwu ∧
    (State.pldmYields s).io = s.io ∧ (State.pldmYields s).draws = s.draws ∧ (State.pldmYields s).pending = s.pending := by
  simp [State.pldmYields]

end Sys2Proof.Machine
end

