-- ==== Sys2Proof/Laws/Frames5.lean ====
section
/-! SUPPORT. Which fields of the state the operations of Clock, Faults, Spdm, Registers leave as they were. -/
namespace Sys2Proof.Machine

/-- State.riseStep writes spn, boot, strs, apa, pol, fit, bde, hma, cme, rfg, atr, rfu, cby, cru, otp, emb, wwu, lgb, io at most. -/
@[simp] theorem State.riseStep_keeps (s : State) :
    (State.riseStep s).draws = s.draws ∧ (State.riseStep s).pending = s.pending := by
  unfold State.riseStep; (repeat' split) <;> (try dsimp only) <;> (repeat' split) <;> simp

/-- tick writes spn, boot, strs, apa, pol, fit, bde, hma, cme, rfg, atr, rfu, cby, cru, otp, emb, wwu, lgb, io at most. -/
@[simp] theorem State.tick_keeps (s : State) :
    (tick s).draws = s.draws ∧ (tick s).pending = s.pending := by
  simp [tick]

/-- State.setVcore writes spn at most. -/
@[simp] theorem State.setVcore_keeps (s : State) (v : Nat) :
    (State.setVcore s v).boot = s.boot ∧ (State.setVcore s v).strs = s.strs ∧ (State.setVcore s v).apa = s.apa ∧
    (State.setVcore s v).pol = s.pol ∧ (State.setVcore s v).fit = s.fit ∧ (State.setVcore s v).bde = s.bde ∧
    (State.setVcore s v).hma = s.hma ∧ (State.setVcore s v).cme = s.cme ∧ (State.setVcore s v).rfg = s.rfg ∧
    (State.setVcore s v).atr = s.atr ∧ (State.setVcore s v).rfu = s.rfu ∧ (State.setVcore s v).cby = s.cby ∧
    (State.setVcore s v).cru = s.cru ∧ (State.setVcore s v).otp = s.otp ∧ (State.setVcore s v).emb = s.emb ∧
    (State.setVcore s v).wwu = s.wwu ∧ (State.setVcore s v).lgb = s.lgb ∧ (State.setVcore s v).io = s.io ∧
    (State.setVcore s v).draws = s.draws ∧ (State.setVcore s v).pending = s.pending := by
  simp [State.setVcore]

/-- State.avsHold writes spn, lgb at most. -/
@[simp] theorem State.avsHold_keeps (s : State) :
    (State.avsHold s).boot = s.boot ∧ (State.avsHold s).strs = s.strs ∧ (State.avsHold s).apa = s.apa ∧
    (State.avsHold s).pol = s.pol ∧ (State.avsHold s).fit = s.fit ∧ (State.avsHold s).bde = s.bde ∧
    (State.avsHold s).hma = s.hma ∧ (State.avsHold s).cme = s.cme ∧ (State.avsHold s).rfg = s.rfg ∧
    (State.avsHold s).atr = s.atr ∧ (State.avsHold s).rfu = s.rfu ∧ (State.avsHold s).cby = s.cby ∧
    (State.avsHold s).cru = s.cru ∧ (State.avsHold s).otp = s.otp ∧ (State.avsHold s).emb = s.emb ∧
    (State.avsHold s).wwu = s.wwu ∧ (State.avsHold s).io = s.io ∧ (State.avsHold s).draws = s.draws ∧
    (State.avsHold s).pending = s.pending := by
  simp [State.avsHold]

/-- State.capStepUp writes spn, lgb at most. -/
@[simp] theorem State.capStepUp_keeps (s : State) :
    (State.capStepUp s).boot = s.boot ∧ (State.capStepUp s).strs = s.strs ∧ (State.capStepUp s).apa = s.apa ∧
    (State.capStepUp s).pol = s.pol ∧ (State.capStepUp s).fit = s.fit ∧ (State.capStepUp s).bde = s.bde ∧
    (State.capStepUp s).hma = s.hma ∧ (State.capStepUp s).cme = s.cme ∧ (State.capStepUp s).rfg = s.rfg ∧
    (State.capStepUp s).atr = s.atr ∧ (State.capStepUp s).rfu = s.rfu ∧ (State.capStepUp s).cby = s.cby ∧
    (State.capStepUp s).cru = s.cru ∧ (State.capStepUp s).otp = s.otp ∧ (State.capStepUp s).emb = s.emb ∧
    (State.capStepUp s).wwu = s.wwu ∧ (State.capStepUp s).io = s.io ∧ (State.capStepUp s).draws = s.draws ∧
    (State.capStepUp s).pending = s.pending := by
  unfold State.capStepUp; dsimp only; (repeat' split) <;> simp

/-- State.capStepDown writes spn at most. -/
@[simp] theorem State.capStepDown_keeps (s : State) :
    (State.capStepDown s).boot = s.boot ∧ (State.capStepDown s).strs = s.strs ∧ (State.capStepDown s).apa = s.apa ∧
    (State.capStepDown s).pol = s.pol ∧ (State.capStepDown s).fit = s.fit ∧ (State.capStepDown s).bde = s.bde ∧
    (State.capStepDown s).hma = s.hma ∧ (State.capStepDown s).cme = s.cme ∧ (State.capStepDown s).rfg = s.rfg ∧
    (State.capStepDown s).atr = s.atr ∧ (State.capStepDown s).rfu = s.rfu ∧ (State.capStepDown s).cby = s.cby ∧
    (State.capStepDown s).cru = s.cru ∧ (State.capStepDown s).otp = s.otp ∧ (State.capStepDown s).emb = s.emb ∧
    (State.capStepDown s).wwu = s.wwu ∧ (State.capStepDown s).lgb = s.lgb ∧ (State.capStepDown s).io = s.io ∧
    (State.capStepDown s).draws = s.draws ∧ (State.capStepDown s).pending = s.pending := by
  unfold State.capStepDown; dsimp only; (repeat' split) <;> simp

/-- State.beginReinit writes spn, hma at most. -/
@[simp] theorem State.beginReinit_keeps (s : State) (b : Nat) :
    (State.beginReinit s b).boot = s.boot ∧ (State.beginReinit s b).strs = s.strs ∧ (State.beginReinit s b).apa = s.apa ∧
    (State.beginReinit s b).pol = s.pol ∧ (State.beginReinit s b).fit = s.fit ∧ (State.beginReinit s b).bde = s.bde ∧
    (State.beginReinit s b).cme = s.cme ∧ (State.beginReinit s b).rfg = s.rfg ∧ (State.beginReinit s b).atr = s.atr ∧
    (State.beginReinit s b).rfu = s.rfu ∧ (State.beginReinit s b).cby = s.cby ∧ (State.beginReinit s b).cru = s.cru ∧
    (State.beginReinit s b).otp = s.otp ∧ (State.beginReinit s b).emb = s.emb ∧ (State.beginReinit s b).wwu = s.wwu ∧
    (State.beginReinit s b).lgb = s.lgb ∧ (State.beginReinit s b).io = s.io ∧ (State.beginReinit s b).draws = s.draws ∧
    (State.beginReinit s b).pending = s.pending := by
  simp [State.beginReinit]

/-- State.laneFault writes spn, hma, cme, rfg, lgb at most. -/
@[simp] theorem State.laneFault_keeps (s : State) (n : Nat) :
    (State.laneFault s n).boot = s.boot ∧ (State.laneFault s n).strs = s.strs ∧ (State.laneFault s n).apa = s.apa ∧
    (State.laneFault s n).pol = s.pol ∧ (State.laneFault s n).fit = s.fit ∧ (State.laneFault s n).bde = s.bde ∧
    (State.laneFault s n).atr = s.atr ∧ (State.laneFault s n).rfu = s.rfu ∧ (State.laneFault s n).cby = s.cby ∧
    (State.laneFault s n).cru = s.cru ∧ (State.laneFault s n).otp = s.otp ∧ (State.laneFault s n).emb = s.emb ∧
    (State.laneFault s n).wwu = s.wwu ∧ (State.laneFault s n).io = s.io ∧ (State.laneFault s n).draws = s.draws ∧
    (State.laneFault s n).pending = s.pending := by
  unfold State.laneFault; dsimp only; (repeat' split) <;> simp

/-- State.cellFault writes spn, boot, strs, apa, fit, bde, hma, cme, rfg, atr, rfu, cru, wwu, lgb at most. -/
@[simp] theorem State.cellFault_keeps (s : State) (kind index : Nat) :
    (State.cellFault s kind index).pol = s.pol ∧ (State.cellFault s kind index).cby = s.cby ∧
    (State.cellFault s kind index).otp = s.otp ∧ (State.cellFault s kind index).emb = s.emb ∧
    (State.cellFault s kind index).io = s.io ∧ (State.cellFault s kind index).draws = s.draws ∧
    (State.cellFault s kind index).pending = s.pending := by
  unfold State.cellFault; dsimp only; (repeat' split) <;> simp

/-- State.corrected writes spn at most. -/
@[simp] theorem State.corrected_keeps (s : State) (n : Nat) :
    (State.corrected s n).boot = s.boot ∧ (State.corrected s n).strs = s.strs ∧ (State.corrected s n).apa = s.apa ∧
    (State.corrected s n).pol = s.pol ∧ (State.corrected s n).fit = s.fit ∧ (State.corrected s n).bde = s.bde ∧
    (State.corrected s n).hma = s.hma ∧ (State.corrected s n).cme = s.cme ∧ (State.corrected s n).rfg = s.rfg ∧
    (State.corrected s n).atr = s.atr ∧ (State.corrected s n).rfu = s.rfu ∧ (State.corrected s n).cby = s.cby ∧
    (State.corrected s n).cru = s.cru ∧ (State.corrected s n).otp = s.otp ∧ (State.corrected s n).emb = s.emb ∧
    (State.corrected s n).wwu = s.wwu ∧ (State.corrected s n).lgb = s.lgb ∧ (State.corrected s n).io = s.io ∧
    (State.corrected s n).draws = s.draws ∧ (State.corrected s n).pending = s.pending := by
  simp [State.corrected]

/-- State.retirePair writes spn at most. -/
@[simp] theorem State.retirePair_keeps (s : State) (a : Nat) (third : Bool) :
    (State.retirePair s a third).boot = s.boot ∧ (State.retirePair s a third).strs = s.strs ∧
    (State.retirePair s a third).apa = s.apa ∧ (State.retirePair s a third).pol = s.pol ∧
    (State.retirePair s a third).fit = s.fit ∧ (State.retirePair s a third).bde = s.bde ∧
    (State.retirePair s a third).hma = s.hma ∧ (State.retirePair s a third).cme = s.cme ∧
    (State.retirePair s a third).rfg = s.rfg ∧ (State.retirePair s a third).atr = s.atr ∧
    (State.retirePair s a third).rfu = s.rfu ∧ (State.retirePair s a third).cby = s.cby ∧
    (State.retirePair s a third).cru = s.cru ∧ (State.retirePair s a third).otp = s.otp ∧
    (State.retirePair s a third).emb = s.emb ∧ (State.retirePair s a third).wwu = s.wwu ∧
    (State.retirePair s a third).lgb = s.lgb ∧ (State.retirePair s a third).io = s.io ∧
    (State.retirePair s a third).draws = s.draws ∧ (State.retirePair s a third).pending = s.pending := by
  simp [State.retirePair]

/-- State.deliverCrossing writes spn at most. -/
@[simp] theorem State.deliverCrossing_keeps (s : State) (i : Nat) :
    (State.deliverCrossing s i).boot = s.boot ∧ (State.deliverCrossing s i).strs = s.strs ∧
    (State.deliverCrossing s i).apa = s.apa ∧ (State.deliverCrossing s i).pol = s.pol ∧
    (State.deliverCrossing s i).fit = s.fit ∧ (State.deliverCrossing s i).bde = s.bde ∧
    (State.deliverCrossing s i).hma = s.hma ∧ (State.deliverCrossing s i).cme = s.cme ∧
    (State.deliverCrossing s i).rfg = s.rfg ∧ (State.deliverCrossing s i).atr = s.atr ∧
    (State.deliverCrossing s i).rfu = s.rfu ∧ (State.deliverCrossing s i).cby = s.cby ∧
    (State.deliverCrossing s i).cru = s.cru ∧ (State.deliverCrossing s i).otp = s.otp ∧
    (State.deliverCrossing s i).emb = s.emb ∧ (State.deliverCrossing s i).wwu = s.wwu ∧
    (State.deliverCrossing s i).lgb = s.lgb ∧ (State.deliverCrossing s i).io = s.io ∧
    (State.deliverCrossing s i).draws = s.draws ∧ (State.deliverCrossing s i).pending = s.pending := by
  simp [State.deliverCrossing]

/-- State.flushCrossing writes spn at most. -/
@[simp] theorem State.flushCrossing_keeps (s : State) (i : Nat) :
    (State.flushCrossing s i).boot = s.boot ∧ (State.flushCrossing s i).strs = s.strs ∧
    (State.flushCrossing s i).apa = s.apa ∧ (State.flushCrossing s i).pol = s.pol ∧ (State.flushCrossing s i).fit = s.fit ∧
    (State.flushCrossing s i).bde = s.bde ∧ (State.flushCrossing s i).hma = s.hma ∧ (State.flushCrossing s i).cme = s.cme ∧
    (State.flushCrossing s i).rfg = s.rfg ∧ (State.flushCrossing s i).atr = s.atr ∧ (State.flushCrossing s i).rfu = s.rfu ∧
    (State.flushCrossing s i).cby = s.cby ∧ (State.flushCrossing s i).cru = s.cru ∧ (State.flushCrossing s i).otp = s.otp ∧
    (State.flushCrossing s i).emb = s.emb ∧ (State.flushCrossing s i).wwu = s.wwu ∧ (State.flushCrossing s i).lgb = s.lgb ∧
    (State.flushCrossing s i).io = s.io ∧ (State.flushCrossing s i).draws = s.draws ∧
    (State.flushCrossing s i).pending = s.pending := by
  simp [State.flushCrossing]

/-- State.countTimeout writes cme at most. -/
@[simp] theorem State.countTimeout_keeps (s : State) (fn : Option Nat) (island : Nat) :
    (State.countTimeout s fn island).spn = s.spn ∧ (State.countTimeout s fn island).boot = s.boot ∧
    (State.countTimeout s fn island).strs = s.strs ∧ (State.countTimeout s fn island).apa = s.apa ∧
    (State.countTimeout s fn island).pol = s.pol ∧ (State.countTimeout s fn island).fit = s.fit ∧
    (State.countTimeout s fn island).bde = s.bde ∧ (State.countTimeout s fn island).hma = s.hma ∧
    (State.countTimeout s fn island).rfg = s.rfg ∧ (State.countTimeout s fn island).atr = s.atr ∧
    (State.countTimeout s fn island).rfu = s.rfu ∧ (State.countTimeout s fn island).cby = s.cby ∧
    (State.countTimeout s fn island).cru = s.cru ∧ (State.countTimeout s fn island).otp = s.otp ∧
    (State.countTimeout s fn island).emb = s.emb ∧ (State.countTimeout s fn island).wwu = s.wwu ∧
    (State.countTimeout s fn island).lgb = s.lgb ∧ (State.countTimeout s fn island).io = s.io ∧
    (State.countTimeout s fn island).draws = s.draws ∧ (State.countTimeout s fn island).pending = s.pending := by
  unfold State.countTimeout; dsimp only; (repeat' split) <;> simp

/-- State.timeOut writes cme at most. -/
@[simp] theorem State.timeOut_keeps (s : State) (h : Hdr) (island : Nat) :
    (State.timeOut s h island).spn = s.spn ∧ (State.timeOut s h island).boot = s.boot ∧
    (State.timeOut s h island).strs = s.strs ∧ (State.timeOut s h island).apa = s.apa ∧
    (State.timeOut s h island).pol = s.pol ∧ (State.timeOut s h island).fit = s.fit ∧
    (State.timeOut s h island).bde = s.bde ∧ (State.timeOut s h island).hma = s.hma ∧
    (State.timeOut s h island).rfg = s.rfg ∧ (State.timeOut s h island).atr = s.atr ∧
    (State.timeOut s h island).rfu = s.rfu ∧ (State.timeOut s h island).cby = s.cby ∧
    (State.timeOut s h island).cru = s.cru ∧ (State.timeOut s h island).otp = s.otp ∧
    (State.timeOut s h island).emb = s.emb ∧ (State.timeOut s h island).wwu = s.wwu ∧
    (State.timeOut s h island).lgb = s.lgb ∧ (State.timeOut s h island).io = s.io ∧
    (State.timeOut s h island).draws = s.draws ∧ (State.timeOut s h island).pending = s.pending := by
  simp [State.timeOut]

/-- State.control writes cme, lgb, io at most. -/
@[simp] theorem State.control_keeps (s : State) (binding : Nat) (msg : Bytes) :
    (State.control s binding msg).spn = s.spn ∧ (State.control s binding msg).boot = s.boot ∧
    (State.control s binding msg).strs = s.strs ∧ (State.control s binding msg).apa = s.apa ∧
    (State.control s binding msg).pol = s.pol ∧ (State.control s binding msg).fit = s.fit ∧
    (State.control s binding msg).bde = s.bde ∧ (State.control s binding msg).hma = s.hma ∧
    (State.control s binding msg).rfg = s.rfg ∧ (State.control s binding msg).atr = s.atr ∧
    (State.control s binding msg).rfu = s.rfu ∧ (State.control s binding msg).cby = s.cby ∧
    (State.control s binding msg).cru = s.cru ∧ (State.control s binding msg).otp = s.otp ∧
    (State.control s binding msg).emb = s.emb ∧ (State.control s binding msg).wwu = s.wwu ∧
    (State.control s binding msg).draws = s.draws ∧ (State.control s binding msg).pending = s.pending := by
  simp [State.control]

/-- State.clear writes cme, lgb, io at most. -/
@[simp] theorem State.clear_keeps (s : State) (p : Peer) (msg : Bytes) :
    (State.clear s p msg).spn = s.spn ∧ (State.clear s p msg).boot = s.boot ∧ (State.clear s p msg).strs = s.strs ∧
    (State.clear s p msg).apa = s.apa ∧ (State.clear s p msg).pol = s.pol ∧ (State.clear s p msg).fit = s.fit ∧
    (State.clear s p msg).bde = s.bde ∧ (State.clear s p msg).hma = s.hma ∧ (State.clear s p msg).rfg = s.rfg ∧
    (State.clear s p msg).atr = s.atr ∧ (State.clear s p msg).rfu = s.rfu ∧ (State.clear s p msg).cby = s.cby ∧
    (State.clear s p msg).cru = s.cru ∧ (State.clear s p msg).otp = s.otp ∧ (State.clear s p msg).emb = s.emb ∧
    (State.clear s p msg).wwu = s.wwu ∧ (State.clear s p msg).draws = s.draws ∧ (State.clear s p msg).pending = s.pending := by
  simp [State.clear]

/-- State.updConn writes atr at most. -/
@[simp] theorem State.updConn_keeps (s : State) (p : Peer) (f : Connection → Connection) :
    (State.updConn s p f).spn = s.spn ∧ (State.updConn s p f).boot = s.boot ∧ (State.updConn s p f).strs = s.strs ∧
    (State.updConn s p f).apa = s.apa ∧ (State.updConn s p f).pol = s.pol ∧ (State.updConn s p f).fit = s.fit ∧
    (State.updConn s p f).bde = s.bde ∧ (State.updConn s p f).hma = s.hma ∧ (State.updConn s p f).cme = s.cme ∧
    (State.updConn s p f).rfg = s.rfg ∧ (State.updConn s p f).rfu = s.rfu ∧ (State.updConn s p f).cby = s.cby ∧
    (State.updConn s p f).cru = s.cru ∧ (State.updConn s p f).otp = s.otp ∧ (State.updConn s p f).emb = s.emb ∧
    (State.updConn s p f).wwu = s.wwu ∧ (State.updConn s p f).lgb = s.lgb ∧ (State.updConn s p f).io = s.io ∧
    (State.updConn s p f).draws = s.draws ∧ (State.updConn s p f).pending = s.pending := by
  simp [State.updConn]

/-- State.updSess writes atr at most. -/
@[simp] theorem State.updSess_keeps (s : State) (n : Nat) (f : SpdmSession → SpdmSession) :
    (State.updSess s n f).spn = s.spn ∧ (State.updSess s n f).boot = s.boot ∧ (State.updSess s n f).strs = s.strs ∧
    (State.updSess s n f).apa = s.apa ∧ (State.updSess s n f).pol = s.pol ∧ (State.updSess s n f).fit = s.fit ∧
    (State.updSess s n f).bde = s.bde ∧ (State.updSess s n f).hma = s.hma ∧ (State.updSess s n f).cme = s.cme ∧
    (State.updSess s n f).rfg = s.rfg ∧ (State.updSess s n f).rfu = s.rfu ∧ (State.updSess s n f).cby = s.cby ∧
    (State.updSess s n f).cru = s.cru ∧ (State.updSess s n f).otp = s.otp ∧ (State.updSess s n f).emb = s.emb ∧
    (State.updSess s n f).wwu = s.wwu ∧ (State.updSess s n f).lgb = s.lgb ∧ (State.updSess s n f).io = s.io ∧
    (State.updSess s n f).draws = s.draws ∧ (State.updSess s n f).pending = s.pending := by
  simp [State.updSess]

/-- State.respond writes cme, atr, lgb, io at most. -/
@[simp] theorem State.respond_keeps (s : State) (p : Peer) (msg : Bytes) :
    (State.respond s p msg).spn = s.spn ∧ (State.respond s p msg).boot = s.boot ∧ (State.respond s p msg).strs = s.strs ∧
    (State.respond s p msg).apa = s.apa ∧ (State.respond s p msg).pol = s.pol ∧ (State.respond s p msg).fit = s.fit ∧
    (State.respond s p msg).bde = s.bde ∧ (State.respond s p msg).hma = s.hma ∧ (State.respond s p msg).rfg = s.rfg ∧
    (State.respond s p msg).rfu = s.rfu ∧ (State.respond s p msg).cby = s.cby ∧ (State.respond s p msg).cru = s.cru ∧
    (State.respond s p msg).otp = s.otp ∧ (State.respond s p msg).emb = s.emb ∧ (State.respond s p msg).wwu = s.wwu ∧
    (State.respond s p msg).draws = s.draws ∧ (State.respond s p msg).pending = s.pending := by
  unfold State.respond; dsimp only; (repeat' split) <;> simp

/-- State.spdmError writes cme, atr, lgb, io at most. -/
@[simp] theorem State.spdmError_keeps (s : State) (p : Peer) (version code : Nat) (data : Nat := 0) (ext : Bytes := []) :
    (State.spdmError s p version code data ext).spn = s.spn ∧ (State.spdmError s p version code data ext).boot = s.boot ∧
    (State.spdmError s p version code data ext).strs = s.strs ∧ (State.spdmError s p version code data ext).apa = s.apa ∧
    (State.spdmError s p version code data ext).pol = s.pol ∧ (State.spdmError s p version code data ext).fit = s.fit ∧
    (State.spdmError s p version code data ext).bde = s.bde ∧ (State.spdmError s p version code data ext).hma = s.hma ∧
    (State.spdmError s p version code data ext).rfg = s.rfg ∧ (State.spdmError s p version code data ext).rfu = s.rfu ∧
    (State.spdmError s p version code data ext).cby = s.cby ∧ (State.spdmError s p version code data ext).cru = s.cru ∧
    (State.spdmError s p version code data ext).otp = s.otp ∧ (State.spdmError s p version code data ext).emb = s.emb ∧
    (State.spdmError s p version code data ext).wwu = s.wwu ∧ (State.spdmError s p version code data ext).draws = s.draws ∧
    (State.spdmError s p version code data ext).pending = s.pending := by
  simp [State.spdmError]

/-- State.notReady writes cme, atr, lgb, io at most. -/
@[simp] theorem State.notReady_keeps (s : State) (p : Peer) (version reqCode : Nat) :
    (State.notReady s p version reqCode).spn = s.spn ∧ (State.notReady s p version reqCode).boot = s.boot ∧
    (State.notReady s p version reqCode).strs = s.strs ∧ (State.notReady s p version reqCode).apa = s.apa ∧
    (State.notReady s p version reqCode).pol = s.pol ∧ (State.notReady s p version reqCode).fit = s.fit ∧
    (State.notReady s p version reqCode).bde = s.bde ∧ (State.notReady s p version reqCode).hma = s.hma ∧
    (State.notReady s p version reqCode).rfg = s.rfg ∧ (State.notReady s p version reqCode).rfu = s.rfu ∧
    (State.notReady s p version reqCode).cby = s.cby ∧ (State.notReady s p version reqCode).cru = s.cru ∧
    (State.notReady s p version reqCode).otp = s.otp ∧ (State.notReady s p version reqCode).emb = s.emb ∧
    (State.notReady s p version reqCode).wwu = s.wwu ∧ (State.notReady s p version reqCode).draws = s.draws ∧
    (State.notReady s p version reqCode).pending = s.pending := by
  simp [State.notReady]

/-- State.spdmOp writes hma, cme, cru, lgb, io at most. -/
@[simp] theorem State.spdmOp_keeps (s : State) (op tries : Nat) :
    (State.spdmOp s op tries).2.spn = s.spn ∧ (State.spdmOp s op tries).2.boot = s.boot ∧
    (State.spdmOp s op tries).2.strs = s.strs ∧ (State.spdmOp s op tries).2.apa = s.apa ∧
    (State.spdmOp s op tries).2.pol = s.pol ∧ (State.spdmOp s op tries).2.fit = s.fit ∧
    (State.spdmOp s op tries).2.bde = s.bde ∧ (State.spdmOp s op tries).2.rfg = s.rfg ∧
    (State.spdmOp s op tries).2.atr = s.atr ∧ (State.spdmOp s op tries).2.rfu = s.rfu ∧
    (State.spdmOp s op tries).2.cby = s.cby ∧ (State.spdmOp s op tries).2.otp = s.otp ∧
    (State.spdmOp s op tries).2.emb = s.emb ∧ (State.spdmOp s op tries).2.wwu = s.wwu ∧
    (State.spdmOp s op tries).2.draws = s.draws ∧ (State.spdmOp s op tries).2.pending = s.pending := by
  unfold State.spdmOp; dsimp only; (repeat' split) <;> simp

theorem State.spdmOp_to {s : State} {op tries : Nat} {r : Bool} {t : State} (e : (State.spdmOp s op tries) = (r, t)) :
    t.spn = s.spn ∧ t.boot = s.boot ∧ t.strs = s.strs ∧ t.apa = s.apa ∧ t.pol = s.pol ∧ t.fit = s.fit ∧ t.bde = s.bde ∧
    t.rfg = s.rfg ∧ t.atr = s.atr ∧ t.rfu = s.rfu ∧ t.cby = s.cby ∧ t.otp = s.otp ∧ t.emb = s.emb ∧ t.wwu = s.wwu ∧
    t.draws = s.draws ∧ t.pending = s.pending := by
  have k := State.spdmOp_keeps s op tries
  rwa [e] at k

/-- State.signedOp writes hma, cme, cru, lgb, io at most. -/
@[simp] theorem State.signedOp_keeps (s : State) (signed : Bool) (tries : Nat) :
    (State.signedOp s signed tries).2.spn = s.spn ∧ (State.signedOp s signed tries).2.boot = s.boot ∧
    (State.signedOp s signed tries).2.strs = s.strs ∧ (State.signedOp s signed tries).2.apa = s.apa ∧
    (State.signedOp s signed tries).2.pol = s.pol ∧ (State.signedOp s signed tries).2.fit = s.fit ∧
    (State.signedOp s signed tries).2.bde = s.bde ∧ (State.signedOp s signed tries).2.rfg = s.rfg ∧
    (State.signedOp s signed tries).2.atr = s.atr ∧ (State.signedOp s signed tries).2.rfu = s.rfu ∧
    (State.signedOp s signed tries).2.cby = s.cby ∧ (State.signedOp s signed tries).2.otp = s.otp ∧
    (State.signedOp s signed tries).2.emb = s.emb ∧ (State.signedOp s signed tries).2.wwu = s.wwu ∧
    (State.signedOp s signed tries).2.draws = s.draws ∧ (State.signedOp s signed tries).2.pending = s.pending := by
  unfold State.signedOp; (repeat' split) <;> (try dsimp only) <;> (repeat' split) <;> simp

theorem State.signedOp_to {s : State} {signed : Bool} {tries : Nat} {r : Bool} {t : State} (e : (State.signedOp s signed tries) = (r, t)) :
    t.spn = s.spn ∧ t.boot = s.boot ∧ t.strs = s.strs ∧ t.apa = s.apa ∧ t.pol = s.pol ∧ t.fit = s.fit ∧ t.bde = s.bde ∧
    t.rfg = s.rfg ∧ t.atr = s.atr ∧ t.rfu = s.rfu ∧ t.cby = s.cby ∧ t.otp = s.otp ∧ t.emb = s.emb ∧ t.wwu = s.wwu ∧
    t.draws = s.draws ∧ t.pending = s.pending := by
  have k := State.signedOp_keeps s signed tries
  rwa [e] at k

/-- State.keyOps writes hma, cme, cru, lgb, io at most. -/
@[simp] theorem State.keyOps_keeps (s : State) (tries : Nat) :
    (State.keyOps s tries).2.spn = s.spn ∧ (State.keyOps s tries).2.boot = s.boot ∧ (State.keyOps s tries).2.strs = s.strs ∧
    (State.keyOps s tries).2.apa = s.apa ∧ (State.keyOps s tries).2.pol = s.pol ∧ (State.keyOps s tries).2.fit = s.fit ∧
    (State.keyOps s tries).2.bde = s.bde ∧ (State.keyOps s tries).2.rfg = s.rfg ∧ (State.keyOps s tries).2.atr = s.atr ∧
    (State.keyOps s tries).2.rfu = s.rfu ∧ (State.keyOps s tries).2.cby = s.cby ∧ (State.keyOps s tries).2.otp = s.otp ∧
    (State.keyOps s tries).2.emb = s.emb ∧ (State.keyOps s tries).2.wwu = s.wwu ∧ (State.keyOps s tries).2.draws = s.draws ∧
    (State.keyOps s tries).2.pending = s.pending := by
  unfold State.keyOps; split <;> simp [State.spdmOp_to ‹_›]

theorem State.keyOps_to {s : State} {tries : Nat} {r : Bool} {t : State} (e : (State.keyOps s tries) = (r, t)) :
    t.spn = s.spn ∧ t.boot = s.boot ∧ t.strs = s.strs ∧ t.apa = s.apa ∧ t.pol = s.pol ∧ t.fit = s.fit ∧ t.bde = s.bde ∧
    t.rfg = s.rfg ∧ t.atr = s.atr ∧ t.rfu = s.rfu ∧ t.cby = s.cby ∧ t.otp = s.otp ∧ t.emb = s.emb ∧ t.wwu = s.wwu ∧
    t.draws = s.draws ∧ t.pending = s.pending := by
  have k := State.keyOps_keeps s tries
  rwa [e] at k

/-- State.getMeasurements writes hma, cme, atr, cru, lgb, io, draws at most. -/
@[simp] theorem State.getMeasurements_keeps (s : State) (peer : Peer) (req : Bytes) (attempts : Nat) :
    (State.getMeasurements s peer req attempts).spn = s.spn ∧ (State.getMeasurements s peer req attempts).boot = s.boot ∧
    (State.getMeasurements s peer req attempts).strs = s.strs ∧ (State.getMeasurements s peer req attempts).apa = s.apa ∧
    (State.getMeasurements s peer req attempts).pol = s.pol ∧ (State.getMeasurements s peer req attempts).fit = s.fit ∧
    (State.getMeasurements s peer req attempts).bde = s.bde ∧ (State.getMeasurements s peer req attempts).rfg = s.rfg ∧
    (State.getMeasurements s peer req attempts).rfu = s.rfu ∧ (State.getMeasurements s peer req attempts).cby = s.cby ∧
    (State.getMeasurements s peer req attempts).otp = s.otp ∧ (State.getMeasurements s peer req attempts).emb = s.emb ∧
    (State.getMeasurements s peer req attempts).wwu = s.wwu ∧
    (State.getMeasurements s peer req attempts).pending = s.pending := by
  unfold State.getMeasurements; dsimp only; (repeat' split) <;> (first | (simp; done) | simp [State.signedOp_to ‹_›])

/-- State.challengeAuth writes hma, cme, atr, cru, lgb, io, draws at most. -/
@[simp] theorem State.challengeAuth_keeps (s : State) (peer : Peer) (req : Bytes) (attempts : Nat) :
    (State.challengeAuth s peer req attempts).spn = s.spn ∧ (State.challengeAuth s peer req attempts).boot = s.boot ∧
    (State.challengeAuth s peer req attempts).strs = s.strs ∧ (State.challengeAuth s peer req attempts).apa = s.apa ∧
    (State.challengeAuth s peer req attempts).pol = s.pol ∧ (State.challengeAuth s peer req attempts).fit = s.fit ∧
    (State.challengeAuth s peer req attempts).bde = s.bde ∧ (State.challengeAuth s peer req attempts).rfg = s.rfg ∧
    (State.challengeAuth s peer req attempts).rfu = s.rfu ∧ (State.challengeAuth s peer req attempts).cby = s.cby ∧
    (State.challengeAuth s peer req attempts).otp = s.otp ∧ (State.challengeAuth s peer req attempts).emb = s.emb ∧
    (State.challengeAuth s peer req attempts).wwu = s.wwu ∧ (State.challengeAuth s peer req attempts).pending = s.pending := by
  unfold State.challengeAuth; dsimp only; (repeat' split) <;> (first | (simp; done) | simp [State.spdmOp_to ‹_›])

/-- State.keyExchange writes hma, cme, atr, cru, lgb, io, draws at most. -/
@[simp] theorem State.keyExchange_keeps (s : State) (peer : Peer) (req : Bytes) (attempts : Nat) :
    (State.keyExchange s peer req attempts).spn = s.spn ∧ (State.keyExchange s peer req attempts).boot = s.boot ∧
    (State.keyExchange s peer req attempts).strs = s.strs ∧ (State.keyExchange s peer req attempts).apa = s.apa ∧
    (State.keyExchange s peer req attempts).pol = s.pol ∧ (State.keyExchange s peer req attempts).fit = s.fit ∧
    (State.keyExchange s peer req attempts).bde = s.bde ∧ (State.keyExchange s peer req attempts).rfg = s.rfg ∧
    (State.keyExchange s peer req attempts).rfu = s.rfu ∧ (State.keyExchange s peer req attempts).cby = s.cby ∧
    (State.keyExchange s peer req attempts).otp = s.otp ∧ (State.keyExchange s peer req attempts).emb = s.emb ∧
    (State.keyExchange s peer req attempts).wwu = s.wwu ∧ (State.keyExchange s peer req attempts).pending = s.pending := by
  unfold State.keyExchange; dsimp only; (repeat' split) <;> (first | (simp; done) | simp [State.keyOps_to ‹_›])

/-- State.endSession writes atr at most. -/
@[simp] theorem State.endSession_keeps (s : State) (n : Nat) :
    (State.endSession s n).spn = s.spn ∧ (State.endSession s n).boot = s.boot ∧ (State.endSession s n).strs = s.strs ∧
    (State.endSession s n).apa = s.apa ∧ (State.endSession s n).pol = s.pol ∧ (State.endSession s n).fit = s.fit ∧
    (State.endSession s n).bde = s.bde ∧ (State.endSession s n).hma = s.hma ∧ (State.endSession s n).cme = s.cme ∧
    (State.endSession s n).rfg = s.rfg ∧ (State.endSession s n).rfu = s.rfu ∧ (State.endSession s n).cby = s.cby ∧
    (State.endSession s n).cru = s.cru ∧ (State.endSession s n).otp = s.otp ∧ (State.endSession s n).emb = s.emb ∧
    (State.endSession s n).wwu = s.wwu ∧ (State.endSession s n).lgb = s.lgb ∧ (State.endSession s n).io = s.io ∧
    (State.endSession s n).draws = s.draws ∧ (State.endSession s n).pending = s.pending := by
  simp [State.endSession]

/-- State.spineClear writes spn at most. -/
@[simp] theorem State.spineClear_keeps (s : State) (off : Nat) :
    (State.spineClear s off).boot = s.boot ∧ (State.spineClear s off).strs = s.strs ∧ (State.spineClear s off).apa = s.apa ∧
    (State.spineClear s off).pol = s.pol ∧ (State.spineClear s off).fit = s.fit ∧ (State.spineClear s off).bde = s.bde ∧
    (State.spineClear s off).hma = s.hma ∧ (State.spineClear s off).cme = s.cme ∧ (State.spineClear s off).rfg = s.rfg ∧
    (State.spineClear s off).atr = s.atr ∧ (State.spineClear s off).rfu = s.rfu ∧ (State.spineClear s off).cby = s.cby ∧
    (State.spineClear s off).cru = s.cru ∧ (State.spineClear s off).otp = s.otp ∧ (State.spineClear s off).emb = s.emb ∧
    (State.spineClear s off).wwu = s.wwu ∧ (State.spineClear s off).lgb = s.lgb ∧ (State.spineClear s off).io = s.io ∧
    (State.spineClear s off).draws = s.draws ∧ (State.spineClear s off).pending = s.pending := by
  unfold State.spineClear; dsimp only; (repeat' split) <;> simp

/-- State.spineWrite writes spn, boot at most. -/
@[simp] theorem State.spineWrite_keeps (s : State) (off v : Nat) :
    (State.spineWrite s off v).strs = s.strs ∧ (State.spineWrite s off v).apa = s.apa ∧
    (State.spineWrite s off v).pol = s.pol ∧ (State.spineWrite s off v).fit = s.fit ∧
    (State.spineWrite s off v).bde = s.bde ∧ (State.spineWrite s off v).hma = s.hma ∧
    (State.spineWrite s off v).cme = s.cme ∧ (State.spineWrite s off v).rfg = s.rfg ∧
    (State.spineWrite s off v).atr = s.atr ∧ (State.spineWrite s off v).rfu = s.rfu ∧
    (State.spineWrite s off v).cby = s.cby ∧ (State.spineWrite s off v).cru = s.cru ∧
    (State.spineWrite s off v).otp = s.otp ∧ (State.spineWrite s off v).emb = s.emb ∧
    (State.spineWrite s off v).wwu = s.wwu ∧ (State.spineWrite s off v).lgb = s.lgb ∧ (State.spineWrite s off v).io = s.io ∧
    (State.spineWrite s off v).draws = s.draws ∧ (State.spineWrite s off v).pending = s.pending := by
  unfold State.spineWrite; dsimp only; (repeat' split) <;> simp

/-- State.stringsClear writes strs, draws at most. -/
@[simp] theorem State.stringsClear_keeps (s : State) (off : Nat) :
    (State.stringsClear s off).spn = s.spn ∧ (State.stringsClear s off).boot = s.boot ∧
    (State.stringsClear s off).apa = s.apa ∧ (State.stringsClear s off).pol = s.pol ∧
    (State.stringsClear s off).fit = s.fit ∧ (State.stringsClear s off).bde = s.bde ∧
    (State.stringsClear s off).hma = s.hma ∧ (State.stringsClear s off).cme = s.cme ∧
    (State.stringsClear s off).rfg = s.rfg ∧ (State.stringsClear s off).atr = s.atr ∧
    (State.stringsClear s off).rfu = s.rfu ∧ (State.stringsClear s off).cby = s.cby ∧
    (State.stringsClear s off).cru = s.cru ∧ (State.stringsClear s off).otp = s.otp ∧
    (State.stringsClear s off).emb = s.emb ∧ (State.stringsClear s off).wwu = s.wwu ∧
    (State.stringsClear s off).lgb = s.lgb ∧ (State.stringsClear s off).io = s.io ∧
    (State.stringsClear s off).pending = s.pending := by
  simp [State.stringsClear]

/-- State.stringsWrite writes strs at most. -/
@[simp] theorem State.stringsWrite_keeps (s : State) (off v : Nat) :
    (State.stringsWrite s off v).spn = s.spn ∧ (State.stringsWrite s off v).boot = s.boot ∧
    (State.stringsWrite s off v).apa = s.apa ∧ (State.stringsWrite s off v).pol = s.pol ∧
    (State.stringsWrite s off v).fit = s.fit ∧ (State.stringsWrite s off v).bde = s.bde ∧
    (State.stringsWrite s off v).hma = s.hma ∧ (State.stringsWrite s off v).cme = s.cme ∧
    (State.stringsWrite s off v).rfg = s.rfg ∧ (State.stringsWrite s off v).atr = s.atr ∧
    (State.stringsWrite s off v).rfu = s.rfu ∧ (State.stringsWrite s off v).cby = s.cby ∧
    (State.stringsWrite s off v).cru = s.cru ∧ (State.stringsWrite s off v).otp = s.otp ∧
    (State.stringsWrite s off v).emb = s.emb ∧ (State.stringsWrite s off v).wwu = s.wwu ∧
    (State.stringsWrite s off v).lgb = s.lgb ∧ (State.stringsWrite s off v).io = s.io ∧
    (State.stringsWrite s off v).draws = s.draws ∧ (State.stringsWrite s off v).pending = s.pending := by
  simp [State.stringsWrite]

/-- State.portClear writes apa at most. -/
@[simp] theorem State.portClear_keeps (s : State) (p off : Nat) :
    (State.portClear s p off).spn = s.spn ∧ (State.portClear s p off).boot = s.boot ∧
    (State.portClear s p off).strs = s.strs ∧ (State.portClear s p off).pol = s.pol ∧ (State.portClear s p off).fit = s.fit ∧
    (State.portClear s p off).bde = s.bde ∧ (State.portClear s p off).hma = s.hma ∧ (State.portClear s p off).cme = s.cme ∧
    (State.portClear s p off).rfg = s.rfg ∧ (State.portClear s p off).atr = s.atr ∧ (State.portClear s p off).rfu = s.rfu ∧
    (State.portClear s p off).cby = s.cby ∧ (State.portClear s p off).cru = s.cru ∧ (State.portClear s p off).otp = s.otp ∧
    (State.portClear s p off).emb = s.emb ∧ (State.portClear s p off).wwu = s.wwu ∧ (State.portClear s p off).lgb = s.lgb ∧
    (State.portClear s p off).io = s.io ∧ (State.portClear s p off).draws = s.draws ∧
    (State.portClear s p off).pending = s.pending := by
  unfold State.portClear; (repeat' split) <;> (try dsimp only) <;> (repeat' split) <;> simp

/-- State.portWrite writes apa at most. -/
@[simp] theorem State.portWrite_keeps (s : State) (p off v : Nat) :
    (State.portWrite s p off v).spn = s.spn ∧ (State.portWrite s p off v).boot = s.boot ∧
    (State.portWrite s p off v).strs = s.strs ∧ (State.portWrite s p off v).pol = s.pol ∧
    (State.portWrite s p off v).fit = s.fit ∧ (State.portWrite s p off v).bde = s.bde ∧
    (State.portWrite s p off v).hma = s.hma ∧ (State.portWrite s p off v).cme = s.cme ∧
    (State.portWrite s p off v).rfg = s.rfg ∧ (State.portWrite s p off v).atr = s.atr ∧
    (State.portWrite s p off v).rfu = s.rfu ∧ (State.portWrite s p off v).cby = s.cby ∧
    (State.portWrite s p off v).cru = s.cru ∧ (State.portWrite s p off v).otp = s.otp ∧
    (State.portWrite s p off v).emb = s.emb ∧ (State.portWrite s p off v).wwu = s.wwu ∧
    (State.portWrite s p off v).lgb = s.lgb ∧ (State.portWrite s p off v).io = s.io ∧
    (State.portWrite s p off v).draws = s.draws ∧ (State.portWrite s p off v).pending = s.pending := by
  unfold State.portWrite; (repeat' split) <;> (try dsimp only) <;> (repeat' split) <;> simp

/-- State.hammerClear writes hma at most. -/
@[simp] theorem State.hammerClear_keeps (s : State) (off : Nat) :
    (State.hammerClear s off).spn = s.spn ∧ (State.hammerClear s off).boot = s.boot ∧
    (State.hammerClear s off).strs = s.strs ∧ (State.hammerClear s off).apa = s.apa ∧ (State.hammerClear s off).pol = s.pol ∧
    (State.hammerClear s off).fit = s.fit ∧ (State.hammerClear s off).bde = s.bde ∧ (State.hammerClear s off).cme = s.cme ∧
    (State.hammerClear s off).rfg = s.rfg ∧ (State.hammerClear s off).atr = s.atr ∧ (State.hammerClear s off).rfu = s.rfu ∧
    (State.hammerClear s off).cby = s.cby ∧ (State.hammerClear s off).cru = s.cru ∧ (State.hammerClear s off).otp = s.otp ∧
    (State.hammerClear s off).emb = s.emb ∧ (State.hammerClear s off).wwu = s.wwu ∧ (State.hammerClear s off).lgb = s.lgb ∧
    (State.hammerClear s off).io = s.io ∧ (State.hammerClear s off).draws = s.draws ∧
    (State.hammerClear s off).pending = s.pending := by
  unfold State.hammerClear; dsimp only; (repeat' split) <;> simp

/-- State.hammerWrite writes hma at most. -/
@[simp] theorem State.hammerWrite_keeps (s : State) (off v : Nat) :
    (State.hammerWrite s off v).spn = s.spn ∧ (State.hammerWrite s off v).boot = s.boot ∧
    (State.hammerWrite s off v).strs = s.strs ∧ (State.hammerWrite s off v).apa = s.apa ∧
    (State.hammerWrite s off v).pol = s.pol ∧ (State.hammerWrite s off v).fit = s.fit ∧
    (State.hammerWrite s off v).bde = s.bde ∧ (State.hammerWrite s off v).cme = s.cme ∧
    (State.hammerWrite s off v).rfg = s.rfg ∧ (State.hammerWrite s off v).atr = s.atr ∧
    (State.hammerWrite s off v).rfu = s.rfu ∧ (State.hammerWrite s off v).cby = s.cby ∧
    (State.hammerWrite s off v).cru = s.cru ∧ (State.hammerWrite s off v).otp = s.otp ∧
    (State.hammerWrite s off v).emb = s.emb ∧ (State.hammerWrite s off v).wwu = s.wwu ∧
    (State.hammerWrite s off v).lgb = s.lgb ∧ (State.hammerWrite s off v).io = s.io ∧
    (State.hammerWrite s off v).draws = s.draws ∧ (State.hammerWrite s off v).pending = s.pending := by
  unfold State.hammerWrite; dsimp only; (repeat' split) <;> simp

/-- State.rfgClear writes rfg at most. -/
@[simp] theorem State.rfgClear_keeps (s : State) (off : Nat) :
    (State.rfgClear s off).spn = s.spn ∧ (State.rfgClear s off).boot = s.boot ∧ (State.rfgClear s off).strs = s.strs ∧
    (State.rfgClear s off).apa = s.apa ∧ (State.rfgClear s off).pol = s.pol ∧ (State.rfgClear s off).fit = s.fit ∧
    (State.rfgClear s off).bde = s.bde ∧ (State.rfgClear s off).hma = s.hma ∧ (State.rfgClear s off).cme = s.cme ∧
    (State.rfgClear s off).atr = s.atr ∧ (State.rfgClear s off).rfu = s.rfu ∧ (State.rfgClear s off).cby = s.cby ∧
    (State.rfgClear s off).cru = s.cru ∧ (State.rfgClear s off).otp = s.otp ∧ (State.rfgClear s off).emb = s.emb ∧
    (State.rfgClear s off).wwu = s.wwu ∧ (State.rfgClear s off).lgb = s.lgb ∧ (State.rfgClear s off).io = s.io ∧
    (State.rfgClear s off).draws = s.draws ∧ (State.rfgClear s off).pending = s.pending := by
  unfold State.rfgClear; dsimp only; (repeat' split) <;> simp

/-- State.cmeClear writes cme at most. -/
@[simp] theorem State.cmeClear_keeps (s : State) (off : Nat) :
    (State.cmeClear s off).spn = s.spn ∧ (State.cmeClear s off).boot = s.boot ∧ (State.cmeClear s off).strs = s.strs ∧
    (State.cmeClear s off).apa = s.apa ∧ (State.cmeClear s off).pol = s.pol ∧ (State.cmeClear s off).fit = s.fit ∧
    (State.cmeClear s off).bde = s.bde ∧ (State.cmeClear s off).hma = s.hma ∧ (State.cmeClear s off).rfg = s.rfg ∧
    (State.cmeClear s off).atr = s.atr ∧ (State.cmeClear s off).rfu = s.rfu ∧ (State.cmeClear s off).cby = s.cby ∧
    (State.cmeClear s off).cru = s.cru ∧ (State.cmeClear s off).otp = s.otp ∧ (State.cmeClear s off).emb = s.emb ∧
    (State.cmeClear s off).wwu = s.wwu ∧ (State.cmeClear s off).lgb = s.lgb ∧ (State.cmeClear s off).io = s.io ∧
    (State.cmeClear s off).draws = s.draws ∧ (State.cmeClear s off).pending = s.pending := by
  unfold State.cmeClear; dsimp only; (repeat' split) <;> simp

/-- State.emberWrite writes emb at most. -/
@[simp] theorem State.emberWrite_keeps (s : State) (off v : Nat) :
    (State.emberWrite s off v).spn = s.spn ∧ (State.emberWrite s off v).boot = s.boot ∧
    (State.emberWrite s off v).strs = s.strs ∧ (State.emberWrite s off v).apa = s.apa ∧
    (State.emberWrite s off v).pol = s.pol ∧ (State.emberWrite s off v).fit = s.fit ∧
    (State.emberWrite s off v).bde = s.bde ∧ (State.emberWrite s off v).hma = s.hma ∧
    (State.emberWrite s off v).cme = s.cme ∧ (State.emberWrite s off v).rfg = s.rfg ∧
    (State.emberWrite s off v).atr = s.atr ∧ (State.emberWrite s off v).rfu = s.rfu ∧
    (State.emberWrite s off v).cby = s.cby ∧ (State.emberWrite s off v).cru = s.cru ∧
    (State.emberWrite s off v).otp = s.otp ∧ (State.emberWrite s off v).wwu = s.wwu ∧
    (State.emberWrite s off v).lgb = s.lgb ∧ (State.emberWrite s off v).io = s.io ∧
    (State.emberWrite s off v).draws = s.draws ∧ (State.emberWrite s off v).pending = s.pending := by
  unfold State.emberWrite; dsimp only; (repeat' split) <;> simp

/-- State.wwuWrite writes wwu at most. -/
@[simp] theorem State.wwuWrite_keeps (s : State) (off v : Nat) :
    (State.wwuWrite s off v).spn = s.spn ∧ (State.wwuWrite s off v).boot = s.boot ∧ (State.wwuWrite s off v).strs = s.strs ∧
    (State.wwuWrite s off v).apa = s.apa ∧ (State.wwuWrite s off v).pol = s.pol ∧ (State.wwuWrite s off v).fit = s.fit ∧
    (State.wwuWrite s off v).bde = s.bde ∧ (State.wwuWrite s off v).hma = s.hma ∧ (State.wwuWrite s off v).cme = s.cme ∧
    (State.wwuWrite s off v).rfg = s.rfg ∧ (State.wwuWrite s off v).atr = s.atr ∧ (State.wwuWrite s off v).rfu = s.rfu ∧
    (State.wwuWrite s off v).cby = s.cby ∧ (State.wwuWrite s off v).cru = s.cru ∧ (State.wwuWrite s off v).otp = s.otp ∧
    (State.wwuWrite s off v).emb = s.emb ∧ (State.wwuWrite s off v).lgb = s.lgb ∧ (State.wwuWrite s off v).io = s.io ∧
    (State.wwuWrite s off v).draws = s.draws ∧ (State.wwuWrite s off v).pending = s.pending := by
  unfold State.wwuWrite; dsimp only; (repeat' split) <;> simp

/-- State.lgbClear writes lgb at most. -/
@[simp] theorem State.lgbClear_keeps (s : State) (off : Nat) :
    (State.lgbClear s off).spn = s.spn ∧ (State.lgbClear s off).boot = s.boot ∧ (State.lgbClear s off).strs = s.strs ∧
    (State.lgbClear s off).apa = s.apa ∧ (State.lgbClear s off).pol = s.pol ∧ (State.lgbClear s off).fit = s.fit ∧
    (State.lgbClear s off).bde = s.bde ∧ (State.lgbClear s off).hma = s.hma ∧ (State.lgbClear s off).cme = s.cme ∧
    (State.lgbClear s off).rfg = s.rfg ∧ (State.lgbClear s off).atr = s.atr ∧ (State.lgbClear s off).rfu = s.rfu ∧
    (State.lgbClear s off).cby = s.cby ∧ (State.lgbClear s off).cru = s.cru ∧ (State.lgbClear s off).otp = s.otp ∧
    (State.lgbClear s off).emb = s.emb ∧ (State.lgbClear s off).wwu = s.wwu ∧ (State.lgbClear s off).io = s.io ∧
    (State.lgbClear s off).draws = s.draws ∧ (State.lgbClear s off).pending = s.pending := by
  unfold State.lgbClear; dsimp only; (repeat' split) <;> simp

/-- State.lgbWrite writes lgb at most. -/
@[simp] theorem State.lgbWrite_keeps (s : State) (off v : Nat) :
    (State.lgbWrite s off v).spn = s.spn ∧ (State.lgbWrite s off v).boot = s.boot ∧ (State.lgbWrite s off v).strs = s.strs ∧
    (State.lgbWrite s off v).apa = s.apa ∧ (State.lgbWrite s off v).pol = s.pol ∧ (State.lgbWrite s off v).fit = s.fit ∧
    (State.lgbWrite s off v).bde = s.bde ∧ (State.lgbWrite s off v).hma = s.hma ∧ (State.lgbWrite s off v).cme = s.cme ∧
    (State.lgbWrite s off v).rfg = s.rfg ∧ (State.lgbWrite s off v).atr = s.atr ∧ (State.lgbWrite s off v).rfu = s.rfu ∧
    (State.lgbWrite s off v).cby = s.cby ∧ (State.lgbWrite s off v).cru = s.cru ∧ (State.lgbWrite s off v).otp = s.otp ∧
    (State.lgbWrite s off v).emb = s.emb ∧ (State.lgbWrite s off v).wwu = s.wwu ∧ (State.lgbWrite s off v).io = s.io ∧
    (State.lgbWrite s off v).draws = s.draws ∧ (State.lgbWrite s off v).pending = s.pending := by
  unfold State.lgbWrite; dsimp only; (repeat' split) <;> simp

/-- State.fnClear writes cme at most. -/
@[simp] theorem State.fnClear_keeps (s : State) (fn off : Nat) :
    (State.fnClear s fn off).spn = s.spn ∧ (State.fnClear s fn off).boot = s.boot ∧ (State.fnClear s fn off).strs = s.strs ∧
    (State.fnClear s fn off).apa = s.apa ∧ (State.fnClear s fn off).pol = s.pol ∧ (State.fnClear s fn off).fit = s.fit ∧
    (State.fnClear s fn off).bde = s.bde ∧ (State.fnClear s fn off).hma = s.hma ∧ (State.fnClear s fn off).rfg = s.rfg ∧
    (State.fnClear s fn off).atr = s.atr ∧ (State.fnClear s fn off).rfu = s.rfu ∧ (State.fnClear s fn off).cby = s.cby ∧
    (State.fnClear s fn off).cru = s.cru ∧ (State.fnClear s fn off).otp = s.otp ∧ (State.fnClear s fn off).emb = s.emb ∧
    (State.fnClear s fn off).wwu = s.wwu ∧ (State.fnClear s fn off).lgb = s.lgb ∧ (State.fnClear s fn off).io = s.io ∧
    (State.fnClear s fn off).draws = s.draws ∧ (State.fnClear s fn off).pending = s.pending := by
  simp [State.fnClear]

/-- State.fnWrite writes cme at most. -/
@[simp] theorem State.fnWrite_keeps (s : State) (fn off v : Nat) :
    (State.fnWrite s fn off v).spn = s.spn ∧ (State.fnWrite s fn off v).boot = s.boot ∧
    (State.fnWrite s fn off v).strs = s.strs ∧ (State.fnWrite s fn off v).apa = s.apa ∧
    (State.fnWrite s fn off v).pol = s.pol ∧ (State.fnWrite s fn off v).fit = s.fit ∧
    (State.fnWrite s fn off v).bde = s.bde ∧ (State.fnWrite s fn off v).hma = s.hma ∧
    (State.fnWrite s fn off v).rfg = s.rfg ∧ (State.fnWrite s fn off v).atr = s.atr ∧
    (State.fnWrite s fn off v).rfu = s.rfu ∧ (State.fnWrite s fn off v).cby = s.cby ∧
    (State.fnWrite s fn off v).cru = s.cru ∧ (State.fnWrite s fn off v).otp = s.otp ∧
    (State.fnWrite s fn off v).emb = s.emb ∧ (State.fnWrite s fn off v).wwu = s.wwu ∧
    (State.fnWrite s fn off v).lgb = s.lgb ∧ (State.fnWrite s fn off v).io = s.io ∧
    (State.fnWrite s fn off v).draws = s.draws ∧ (State.fnWrite s fn off v).pending = s.pending := by
  unfold State.fnWrite; dsimp only; (repeat' split) <;> simp

/-- State.regClear writes spn, strs, apa, fit, bde, hma, cme, rfg, atr, rfu, cby, cru, emb, wwu, lgb, draws at most. -/
@[simp] theorem State.regClear_keeps (s : State) (fn addr : Nat) :
    (State.regClear s fn addr).boot = s.boot ∧ (State.regClear s fn addr).pol = s.pol ∧
    (State.regClear s fn addr).otp = s.otp ∧ (State.regClear s fn addr).io = s.io ∧
    (State.regClear s fn addr).pending = s.pending := by
  unfold State.regClear; dsimp only; (repeat' split) <;> simp

/-- State.regWrite writes spn, boot, strs, apa, fit, hma, cme, rfg, atr, rfu, cby, cru, emb, wwu, lgb, io at most. -/
@[simp] theorem State.regWrite_keeps (s : State) (fn addr v : Nat) :
    (State.regWrite s fn addr v).pol = s.pol ∧ (State.regWrite s fn addr v).bde = s.bde ∧
    (State.regWrite s fn addr v).otp = s.otp ∧ (State.regWrite s fn addr v).draws = s.draws ∧
    (State.regWrite s fn addr v).pending = s.pending := by
  unfold State.regWrite; dsimp only; (repeat' split) <;> simp

/-- State.latch writes cme at most. -/
@[simp] theorem State.latch_keeps (s : State) (fn addr : Nat) (v : Option Nat) :
    (State.latch s fn addr v).spn = s.spn ∧ (State.latch s fn addr v).boot = s.boot ∧
    (State.latch s fn addr v).strs = s.strs ∧ (State.latch s fn addr v).apa = s.apa ∧ (State.latch s fn addr v).pol = s.pol ∧
    (State.latch s fn addr v).fit = s.fit ∧ (State.latch s fn addr v).bde = s.bde ∧ (State.latch s fn addr v).hma = s.hma ∧
    (State.latch s fn addr v).rfg = s.rfg ∧ (State.latch s fn addr v).atr = s.atr ∧ (State.latch s fn addr v).rfu = s.rfu ∧
    (State.latch s fn addr v).cby = s.cby ∧ (State.latch s fn addr v).cru = s.cru ∧ (State.latch s fn addr v).otp = s.otp ∧
    (State.latch s fn addr v).emb = s.emb ∧ (State.latch s fn addr v).wwu = s.wwu ∧ (State.latch s fn addr v).lgb = s.lgb ∧
    (State.latch s fn addr v).io = s.io ∧ (State.latch s fn addr v).draws = s.draws ∧
    (State.latch s fn addr v).pending = s.pending := by
  simp [State.latch]

/-- State.readLow writes cme, io at most. -/
@[simp] theorem State.readLow_keeps (s : State) (fn addr v : Nat) :
    (State.readLow s fn addr v).spn = s.spn ∧ (State.readLow s fn addr v).boot = s.boot ∧
    (State.readLow s fn addr v).strs = s.strs ∧ (State.readLow s fn addr v).apa = s.apa ∧
    (State.readLow s fn addr v).pol = s.pol ∧ (State.readLow s fn addr v).fit = s.fit ∧
    (State.readLow s fn addr v).bde = s.bde ∧ (State.readLow s fn addr v).hma = s.hma ∧
    (State.readLow s fn addr v).rfg = s.rfg ∧ (State.readLow s fn addr v).atr = s.atr ∧
    (State.readLow s fn addr v).rfu = s.rfu ∧ (State.readLow s fn addr v).cby = s.cby ∧
    (State.readLow s fn addr v).cru = s.cru ∧ (State.readLow s fn addr v).otp = s.otp ∧
    (State.readLow s fn addr v).emb = s.emb ∧ (State.readLow s fn addr v).wwu = s.wwu ∧
    (State.readLow s fn addr v).lgb = s.lgb ∧ (State.readLow s fn addr v).draws = s.draws ∧
    (State.readLow s fn addr v).pending = s.pending := by
  simp [State.readLow]

/-- State.readReg writes spn, strs, apa, fit, bde, hma, cme, rfg, atr, rfu, cby, cru, emb, wwu, lgb, io, draws at most. -/
@[simp] theorem State.readReg_keeps (s : State) (fn addr : Nat) :
    (State.readReg s fn addr).boot = s.boot ∧ (State.readReg s fn addr).pol = s.pol ∧ (State.readReg s fn addr).otp = s.otp ∧
    (State.readReg s fn addr).pending = s.pending := by
  unfold State.readReg; (repeat' split) <;> (try dsimp only) <;> (repeat' split) <;> simp

/-- State.awaitAccess writes spn, cme at most. -/
@[simp] theorem State.awaitAccess_keeps (s : State) (fn addr : Nat) (write : Option Nat) :
    (State.awaitAccess s fn addr write).boot = s.boot ∧ (State.awaitAccess s fn addr write).strs = s.strs ∧
    (State.awaitAccess s fn addr write).apa = s.apa ∧ (State.awaitAccess s fn addr write).pol = s.pol ∧
    (State.awaitAccess s fn addr write).fit = s.fit ∧ (State.awaitAccess s fn addr write).bde = s.bde ∧
    (State.awaitAccess s fn addr write).hma = s.hma ∧ (State.awaitAccess s fn addr write).rfg = s.rfg ∧
    (State.awaitAccess s fn addr write).atr = s.atr ∧ (State.awaitAccess s fn addr write).rfu = s.rfu ∧
    (State.awaitAccess s fn addr write).cby = s.cby ∧ (State.awaitAccess s fn addr write).cru = s.cru ∧
    (State.awaitAccess s fn addr write).otp = s.otp ∧ (State.awaitAccess s fn addr write).emb = s.emb ∧
    (State.awaitAccess s fn addr write).wwu = s.wwu ∧ (State.awaitAccess s fn addr write).lgb = s.lgb ∧
    (State.awaitAccess s fn addr write).io = s.io ∧ (State.awaitAccess s fn addr write).draws = s.draws ∧
    (State.awaitAccess s fn addr write).pending = s.pending := by
  simp [State.awaitAccess]

/-- State.carryOut writes spn, boot, strs, apa, fit, bde, hma, cme, rfg, atr, rfu, cby, cru, emb, wwu, lgb, io, draws at most. -/
@[simp] theorem State.carryOut_keeps (s : State) (a : RegAccess) :
    (State.carryOut s a).pol = s.pol ∧ (State.carryOut s a).otp = s.otp ∧ (State.carryOut s a).pending = s.pending := by
  unfold State.carryOut; (repeat' split) <;> (try dsimp only) <;> (repeat' split) <;> simp

/-- State.endAccess writes cme, io at most. -/
@[simp] theorem State.endAccess_keeps (s : State) (a : RegAccess) (island : Nat) :
    (State.endAccess s a island).spn = s.spn ∧ (State.endAccess s a island).boot = s.boot ∧
    (State.endAccess s a island).strs = s.strs ∧ (State.endAccess s a island).apa = s.apa ∧
    (State.endAccess s a island).pol = s.pol ∧ (State.endAccess s a island).fit = s.fit ∧
    (State.endAccess s a island).bde = s.bde ∧ (State.endAccess s a island).hma = s.hma ∧
    (State.endAccess s a island).rfg = s.rfg ∧ (State.endAccess s a island).atr = s.atr ∧
    (State.endAccess s a island).rfu = s.rfu ∧ (State.endAccess s a island).cby = s.cby ∧
    (State.endAccess s a island).cru = s.cru ∧ (State.endAccess s a island).otp = s.otp ∧
    (State.endAccess s a island).emb = s.emb ∧ (State.endAccess s a island).wwu = s.wwu ∧
    (State.endAccess s a island).lgb = s.lgb ∧ (State.endAccess s a island).draws = s.draws ∧
    (State.endAccess s a island).pending = s.pending := by
  simp [State.endAccess]

end Sys2Proof.Machine
end

