-- ==== Sys2Proof/Laws/Reads.lean ====
section
/-! SUPPORT. Starting a command changes no reading that does not look at the Command Engine. -/
namespace Sys2Proof.Machine

/-- A started command's state is the state before with another Command Engine. -/
theorem State.started_eq (s : State) (h : Hdr) : s.started h = { s with cme := (s.started h).cme } :=
  congrArg (fun t : State => { t with cme := (s.started h).cme }) (s.started_only h)

@[simp] theorem State.committedTamper_started (s : State) (h : Hdr) : (s.started h).committedTamper = s.committedTamper := by
  rw [s.started_eq h]; rfl
@[simp] theorem State.mayPower_started (s : State) (h : Hdr) : (s.started h).mayPower = s.mayPower := by
  rw [s.started_eq h]; rfl
@[simp] theorem State.logErased_started (s : State) (h : Hdr) : (s.started h).logErased = s.logErased := by
  rw [s.started_eq h]; rfl
@[simp] theorem State.cartHolds_started (s : State) (h : Hdr) (slot kind : Nat) (image : Bytes) : (s.started h).cartHolds slot kind image = s.cartHolds slot kind image := by
  rw [s.started_eq h]; rfl
@[simp] theorem State.searchOver_started (s : State) (h : Hdr) (slot : Nat) : (s.started h).searchOver slot = s.searchOver slot := by
  rw [s.started_eq h]; rfl
@[simp] theorem State.blocksRead_started (s : State) (h : Hdr) (c : Nat) (blocks : List (List Bytes)) : (s.started h).blocksRead c blocks = s.blocksRead c blocks := by
  rw [s.started_eq h]; rfl
@[simp] theorem State.attBody_started (s : State) (h : Hdr) : (s.started h).attBody = s.attBody := by
  rw [s.started_eq h]; rfl
@[simp] theorem State.leafBody_started (s : State) (h : Hdr) (role algorithm : String) (key : Bytes) : (s.started h).leafBody role algorithm key = s.leafBody role algorithm key := by
  rw [s.started_eq h]; rfl
@[simp] theorem State.leafBodies_started (s : State) (h : Hdr) : (s.started h).leafBodies = s.leafBodies := by
  rw [s.started_eq h]; rfl
@[simp] theorem State.deviceIdSigns_started (s : State) (h : Hdr) (b : CertBody) : (s.started h).deviceIdSigns b = s.deviceIdSigns b := by
  rw [s.started_eq h]; rfl
@[simp] theorem State.makerKey_started (s : State) (h : Hdr) : (s.started h).makerKey = s.makerKey := by
  rw [s.started_eq h]; rfl
@[simp] theorem State.makerLmsKey_started (s : State) (h : Hdr) : (s.started h).makerLmsKey = s.makerLmsKey := by
  rw [s.started_eq h]; rfl
@[simp] theorem State.checkWarden_started (s : State) (h : Hdr) (image : Bytes) : (s.started h).checkWarden image = s.checkWarden image := by
  rw [s.started_eq h]; rfl
@[simp] theorem State.checkBundle_started (s : State) (h : Hdr) (b : Bytes) : (s.started h).checkBundle b = s.checkBundle b := by
  rw [s.started_eq h]; rfl
@[simp] theorem State.bundle_started (s : State) (h : Hdr) (c : Nat) : (s.started h).bundle c = s.bundle c := by
  rw [s.started_eq h]; rfl
@[simp] theorem State.mayTry_started (s : State) (h : Hdr) (c : Nat) : (s.started h).mayTry c = s.mayTry c := by
  rw [s.started_eq h]; rfl
@[simp] theorem State.nextBundle_started (s : State) (h : Hdr) : (s.started h).nextBundle = s.nextBundle := by
  rw [s.started_eq h]; rfl
@[simp] theorem State.cartInUse_started (s : State) (h : Hdr) (k : Nat) : (s.started h).cartInUse k = s.cartInUse k := by
  rw [s.started_eq h]; rfl
@[simp] theorem State.cartCode_started (s : State) (h : Hdr) (k : Nat) : (s.started h).cartCode k = s.cartCode k := by
  rw [s.started_eq h]; rfl
@[simp] theorem State.cartWord_started (s : State) (h : Hdr) (k : Nat) : (s.started h).cartWord k = s.cartWord k := by
  rw [s.started_eq h]; rfl
@[simp] theorem State.identifying_started (s : State) (h : Hdr) : (s.started h).identifying = s.identifying := by
  rw [s.started_eq h]; rfl
@[simp] theorem State.catalogueSigned_started (s : State) (h : Hdr) (c : Catalogue) : (s.started h).catalogueSigned c = s.catalogueSigned c := by
  rw [s.started_eq h]; rfl
@[simp] theorem State.lifeEntry_started (s : State) (h : Hdr) (cid : Bytes) : (s.started h).lifeEntry cid = s.lifeEntry cid := by
  rw [s.started_eq h]; rfl
@[simp] theorem State.identGood_started (s : State) (h : Hdr) (i : CartIdent) : (s.started h).identGood i = s.identGood i := by
  rw [s.started_eq h]; rfl
@[simp] theorem State.judgeCatalogue_started (s : State) (h : Hdr) (i : CartIdent) (signed : Bool) : (s.started h).judgeCatalogue i signed = s.judgeCatalogue i signed := by
  rw [s.started_eq h]; rfl
@[simp] theorem State.reader_started (s : State) (h : Hdr) (k : Nat) : (s.started h).reader k = s.reader k := by
  rw [s.started_eq h]; rfl
@[simp] theorem State.mayRun_started (s : State) (h : Hdr) (src : Src) (op : Op) : (s.started h).mayRun src op = s.mayRun src op := by
  rw [s.started_eq h]; rfl
@[simp] theorem State.ready_started (s : State) (h : Hdr) : (s.started h).ready = s.ready := by
  rw [s.started_eq h]; rfl
@[simp] theorem State.sourceUp_started (s : State) (h : Hdr) (src : Src) : (s.started h).sourceUp src = s.sourceUp src := by
  rw [s.started_eq h]; rfl
@[simp] theorem State.islandStopped_started (s : State) (h : Hdr) (i : Nat) : (s.started h).islandStopped i = s.islandStopped i := by
  rw [s.started_eq h]; rfl
@[simp] theorem State.queueOf_started (s : State) (h : Hdr) (src : Src) : (s.started h).queueOf src = s.queueOf src := by
  rw [s.started_eq h]; rfl
@[simp] theorem State.lcStatusWord_started (s : State) (h : Hdr) : (s.started h).lcStatusWord = s.lcStatusWord := by
  rw [s.started_eq h]; rfl
@[simp] theorem State.debugWord_started (s : State) (h : Hdr) : (s.started h).debugWord = s.debugWord := by
  rw [s.started_eq h]; rfl
@[simp] theorem State.debugReaches_started (s : State) (h : Hdr) (a : DebugAccess) : (s.started h).debugReaches a = s.debugReaches a := by
  rw [s.started_eq h]; rfl
@[simp] theorem State.transitionRefusal_started (s : State) (h : Hdr) (target : Nat) : (s.started h).transitionRefusal target = s.transitionRefusal target := by
  rw [s.started_eq h]; rfl
@[simp] theorem State.committedImage_started (s : State) (h : Hdr) : (s.started h).committedImage = s.committedImage := by
  rw [s.started_eq h]; rfl
@[simp] theorem State.cosignedBy_started (s : State) (h : Hdr) (image : Bytes) (i : Nat) : (s.started h).cosignedBy image i = s.cosignedBy image i := by
  rw [s.started_eq h]; rfl
@[simp] theorem State.cosigners_started (s : State) (h : Hdr) (image : Bytes) : (s.started h).cosigners image = s.cosigners image := by
  rw [s.started_eq h]; rfl
@[simp] theorem State.validWardens_started (s : State) (h : Hdr) : (s.started h).validWardens = s.validWardens := by
  rw [s.started_eq h]; rfl
@[simp] theorem State.slotReliedOn_started (s : State) (h : Hdr) (i : Nat) : (s.started h).slotReliedOn i = s.slotReliedOn i := by
  rw [s.started_eq h]; rfl
@[simp] theorem State.keyChange_started (s : State) (h : Hdr) (x : Statement) : (s.started h).keyChange x = s.keyChange x := by
  rw [s.started_eq h]; rfl
@[simp] theorem State.floorMv_started (s : State) (h : Hdr) : (s.started h).floorMv = s.floorMv := by
  rw [s.started_eq h]; rfl
@[simp] theorem State.vcoreShown_started (s : State) (h : Hdr) : (s.started h).vcoreShown = s.vcoreShown := by
  rw [s.started_eq h]; rfl
@[simp] theorem State.temperWord_started (s : State) (h : Hdr) : (s.started h).temperWord = s.temperWord := by
  rw [s.started_eq h]; rfl
@[simp] theorem State.effectiveCap_started (s : State) (h : Hdr) : (s.started h).effectiveCap = s.effectiveCap := by
  rw [s.started_eq h]; rfl
@[simp] theorem State.powerWord_started (s : State) (h : Hdr) : (s.started h).powerWord = s.powerWord := by
  rw [s.started_eq h]; rfl
@[simp] theorem State.powerCfgWord_started (s : State) (h : Hdr) : (s.started h).powerCfgWord = s.powerCfgWord := by
  rw [s.started_eq h]; rfl
@[simp] theorem State.serviceWord_started (s : State) (h : Hdr) : (s.started h).serviceWord = s.serviceWord := by
  rw [s.started_eq h]; rfl
@[simp] theorem State.remapWord_started (s : State) (h : Hdr) : (s.started h).remapWord = s.remapWord := by
  rw [s.started_eq h]; rfl
@[simp] theorem State.islandWord_started (s : State) (h : Hdr) : (s.started h).islandWord = s.islandWord := by
  rw [s.started_eq h]; rfl
@[simp] theorem State.crossSat_started (s : State) (h : Hdr) (i : Nat) : (s.started h).crossSat i = s.crossSat i := by
  rw [s.started_eq h]; rfl
@[simp] theorem State.crossWord_started (s : State) (h : Hdr) : (s.started h).crossWord = s.crossWord := by
  rw [s.started_eq h]; rfl
@[simp] theorem State.crossWord2_started (s : State) (h : Hdr) : (s.started h).crossWord2 = s.crossWord2 := by
  rw [s.started_eq h]; rfl
@[simp] theorem State.nextVcore_started (s : State) (h : Hdr) (raise lower : Bool) : (s.started h).nextVcore raise lower = s.nextVcore raise lower := by
  rw [s.started_eq h]; rfl
@[simp] theorem State.longAtFloor_started (s : State) (h : Hdr) : (s.started h).longAtFloor = s.longAtFloor := by
  rw [s.started_eq h]; rfl
@[simp] theorem State.budgetNow_started (s : State) (h : Hdr) : (s.started h).budgetNow = s.budgetNow := by
  rw [s.started_eq h]; rfl
@[simp] theorem State.crossing_started (s : State) (h : Hdr) (i : Nat) : (s.started h).crossing i = s.crossing i := by
  rw [s.started_eq h]; rfl
@[simp] theorem State.copyRunning_started (s : State) (h : Hdr) (component : Nat) : (s.started h).copyRunning component = s.copyRunning component := by
  rw [s.started_eq h]; rfl
@[simp] theorem State.stageTarget_started (s : State) (h : Hdr) (component target : Nat) : (s.started h).stageTarget component target = s.stageTarget component target := by
  rw [s.started_eq h]; rfl
@[simp] theorem State.checkComponent_started (s : State) (h : Hdr) (component : Nat) (image : Bytes) : (s.started h).checkComponent component image = s.checkComponent component image := by
  rw [s.started_eq h]; rfl
@[simp] theorem State.copyState_started (s : State) (h : Hdr) (component c : Nat) : (s.started h).copyState component c = s.copyState component c := by
  rw [s.started_eq h]; rfl
@[simp] theorem State.copySvn_started (s : State) (h : Hdr) (component c : Nat) : (s.started h).copySvn component c = s.copySvn component c := by
  rw [s.started_eq h]; rfl
@[simp] theorem State.preferredCopy_started (s : State) (h : Hdr) (component : Nat) : (s.started h).preferredCopy component = s.preferredCopy component := by
  rw [s.started_eq h]; rfl
@[simp] theorem State.recoveryNeeds_started (s : State) (h : Hdr) (o : RfuOp) : (s.started h).recoveryNeeds o = s.recoveryNeeds o := by
  rw [s.started_eq h]; rfl
@[simp] theorem State.updateYields_started (s : State) (h : Hdr) : (s.started h).updateYields = s.updateYields := by
  rw [s.started_eq h]; rfl
@[simp] theorem State.fwValues_started (s : State) (h : Hdr) : (s.started h).fwValues = s.fwValues := by
  rw [s.started_eq h]; rfl
@[simp] theorem State.stranded_started (s : State) (h : Hdr) (component target c : Nat) : (s.started h).stranded component target c = s.stranded component target c := by
  rw [s.started_eq h]; rfl
@[simp] theorem State.pldmUp_started (s : State) (h : Hdr) : (s.started h).pldmUp = s.pldmUp := by
  rw [s.started_eq h]; rfl
@[simp] theorem State.pldmUpdate_started (s : State) (h : Hdr) : (s.started h).pldmUpdate = s.pldmUpdate := by
  rw [s.started_eq h]; rfl
@[simp] theorem State.smbusAddr_started (s : State) (h : Hdr) : (s.started h).smbusAddr = s.smbusAddr := by
  rw [s.started_eq h]; rfl
@[simp] theorem State.pecGood_started (s : State) (h : Hdr) (t : Target) (frame : Bytes) (pec : Option Nat) : (s.started h).pecGood t frame pec = s.pecGood t frame pec := by
  rw [s.started_eq h]; rfl
@[simp] theorem State.grantedTo_started (s : State) (h : Hdr) (fn : Nat) : (s.started h).grantedTo fn = s.grantedTo fn := by
  rw [s.started_eq h]; rfl
@[simp] theorem State.sourceGrant_started (s : State) (h : Hdr) (src : Src) : (s.started h).sourceGrant src = s.sourceGrant src := by
  rw [s.started_eq h]; rfl
@[simp] theorem State.lanesIn_started (s : State) (h : Hdr) (st : LaneState) : (s.started h).lanesIn st = s.lanesIn st := by
  rw [s.started_eq h]; rfl
@[simp] theorem State.hmaStatus_started (s : State) (h : Hdr) : (s.started h).hmaStatus = s.hmaStatus := by
  rw [s.started_eq h]; rfl
@[simp] theorem State.hmaLoad_started (s : State) (h : Hdr) : (s.started h).hmaLoad = s.hmaLoad := by
  rw [s.started_eq h]; rfl
@[simp] theorem State.hmaPool_started (s : State) (h : Hdr) : (s.started h).hmaPool = s.hmaPool := by
  rw [s.started_eq h]; rfl
@[simp] theorem State.hmaVersion_started (s : State) (h : Hdr) : (s.started h).hmaVersion = s.hmaVersion := by
  rw [s.started_eq h]; rfl
@[simp] theorem State.hmaLane_started (s : State) (h : Hdr) (n : Nat) : (s.started h).hmaLane n = s.hmaLane n := by
  rw [s.started_eq h]; rfl
@[simp] theorem State.pkReply_started (s : State) (h : Hdr) (op : Nat) (input : Bytes) (addr attempts lane : Nat) : (s.started h).pkReply op input addr attempts lane = s.pkReply op input addr attempts lane := by
  rw [s.started_eq h]; rfl
@[simp] theorem State.serviceLanes_started (s : State) (h : Hdr) : (s.started h).serviceLanes = s.serviceLanes := by
  rw [s.started_eq h]; rfl
@[simp] theorem State.classOf_started (s : State) (h : Hdr) (q : Nat) : (s.started h).classOf q = s.classOf q := by
  rw [s.started_eq h]; rfl
@[simp] theorem State.runningCount_started (s : State) (h : Hdr) (p : HOp → Bool) : (s.started h).runningCount p = s.runningCount p := by
  rw [s.started_eq h]; rfl
@[simp] theorem State.poolOf_started (s : State) (h : Hdr) (cluster curve : Nat) : (s.started h).poolOf cluster curve = s.poolOf cluster curve := by
  rw [s.started_eq h]; rfl
@[simp] theorem State.poolTotal_started (s : State) (h : Hdr) (curve : Nat) : (s.started h).poolTotal curve = s.poolTotal curve := by
  rw [s.started_eq h]; rfl
@[simp] theorem State.drawable_started (s : State) (h : Hdr) (cluster curve lane : Nat) : (s.started h).drawable cluster curve lane = s.drawable cluster curve lane := by
  rw [s.started_eq h]; rfl
@[simp] theorem State.lotsFor_started (s : State) (h : Hdr) (cluster curve : Nat) : (s.started h).lotsFor cluster curve = s.lotsFor cluster curve := by
  rw [s.started_eq h]; rfl
@[simp] theorem State.anyDrbg_started (s : State) (h : Hdr) : (s.started h).anyDrbg = s.anyDrbg := by
  rw [s.started_eq h]; rfl
@[simp] theorem State.clusterDrbg_started (s : State) (h : Hdr) : (s.started h).clusterDrbg = s.clusterDrbg := by
  rw [s.started_eq h]; rfl
@[simp] theorem State.drbgFor_started (s : State) (h : Hdr) (cluster : Nat) : (s.started h).drbgFor cluster = s.drbgFor cluster := by
  rw [s.started_eq h]; rfl
@[simp] theorem State.refillFor_started (s : State) (h : Hdr) (cluster : Nat) : (s.started h).refillFor cluster = s.refillFor cluster := by
  rw [s.started_eq h]; rfl
@[simp] theorem State.ownWaits_started (s : State) (h : Hdr) : (s.started h).ownWaits = s.ownWaits := by
  rw [s.started_eq h]; rfl
@[simp] theorem State.mayPlace_started (s : State) (h : Hdr) (o : HOp) : (s.started h).mayPlace o = s.mayPlace o := by
  rw [s.started_eq h]; rfl
@[simp] theorem State.laneFits_started (s : State) (h : Hdr) (o : HOp) (lane : Nat) : (s.started h).laneFits o lane = s.laneFits o lane := by
  rw [s.started_eq h]; rfl
@[simp] theorem State.turnOf_started (s : State) (h : Hdr) (c : WorkClass) : (s.started h).turnOf c = s.turnOf c := by
  rw [s.started_eq h]; rfl
@[simp] theorem State.poweredLanes_started (s : State) (h : Hdr) : (s.started h).poweredLanes = s.poweredLanes := by
  rw [s.started_eq h]; rfl
@[simp] theorem State.ownLanes_started (s : State) (h : Hdr) : (s.started h).ownLanes = s.ownLanes := by
  rw [s.started_eq h]; rfl
@[simp] theorem State.beyondBudget_started (s : State) (h : Hdr) : (s.started h).beyondBudget = s.beyondBudget := by
  rw [s.started_eq h]; rfl
@[simp] theorem State.gateMark_started (s : State) (h : Hdr) (c : WorkClass) : (s.started h).gateMark c = s.gateMark c := by
  rw [s.started_eq h]; rfl
@[simp] theorem State.deprivedOf_started (s : State) (h : Hdr) (c : WorkClass) : (s.started h).deprivedOf c = s.deprivedOf c := by
  rw [s.started_eq h]; rfl
@[simp] theorem State.recentlyDeprived_started (s : State) (h : Hdr) (c : WorkClass) : (s.started h).recentlyDeprived c = s.recentlyDeprived c := by
  rw [s.started_eq h]; rfl
@[simp] theorem State.gateLevel_started (s : State) (h : Hdr) : (s.started h).gateLevel = s.gateLevel := by
  rw [s.started_eq h]; rfl
@[simp] theorem State.hammerUnavailable_started (s : State) (h : Hdr) : (s.started h).hammerUnavailable = s.hammerUnavailable := by
  rw [s.started_eq h]; rfl
@[simp] theorem State.gatedLanes_started (s : State) (h : Hdr) : (s.started h).gatedLanes = s.gatedLanes := by
  rw [s.started_eq h]; rfl
@[simp] theorem State.promotions_started (s : State) (h : Hdr) : (s.started h).promotions = s.promotions := by
  rw [s.started_eq h]; rfl
@[simp] theorem State.replaced_started (s : State) (h : Hdr) (n : Nat) : (s.started h).replaced n = s.replaced n := by
  rw [s.started_eq h]; rfl
@[simp] theorem State.idleLanes_started (s : State) (h : Hdr) : (s.started h).idleLanes = s.idleLanes := by
  rw [s.started_eq h]; rfl
@[simp] theorem State.systemFull_started (s : State) (h : Hdr) : (s.started h).systemFull = s.systemFull := by
  rw [s.started_eq h]; rfl
@[simp] theorem State.ownLane_started (s : State) (h : Hdr) (tried : List Nat) : (s.started h).ownLane tried = s.ownLane tried := by
  rw [s.started_eq h]; rfl
@[simp] theorem State.decisionPair_started (s : State) (h : Hdr) (used : List Nat) : (s.started h).decisionPair used = s.decisionPair used := by
  rw [s.started_eq h]; rfl
@[simp] theorem State.flashRoot_started (s : State) (h : Hdr) (d : Nat) : (s.started h).flashRoot d = s.flashRoot d := by
  rw [s.started_eq h]; rfl
@[simp] theorem State.checkRoot_started (s : State) (h : Hdr) (d : Nat) : (s.started h).checkRoot d = s.checkRoot d := by
  rw [s.started_eq h]; rfl
@[simp] theorem State.leafCount_started (s : State) (h : Hdr) (d : Nat) (st : LeafState) : (s.started h).leafCount d st = s.leafCount d st := by
  rw [s.started_eq h]; rfl
@[simp] theorem State.writtenAfter_started (s : State) (h : Hdr) (d i seq : Nat) : (s.started h).writtenAfter d i seq = s.writtenAfter d i seq := by
  rw [s.started_eq h]; rfl
@[simp] theorem State.wearOf_started (s : State) (h : Hdr) (d i : Nat) : (s.started h).wearOf d i = s.wearOf d i := by
  rw [s.started_eq h]; rfl
@[simp] theorem State.wearMax_started (s : State) (h : Hdr) (d : Nat) : (s.started h).wearMax d = s.wearMax d := by
  rw [s.started_eq h]; rfl
@[simp] theorem State.ratedCycles_started (s : State) (h : Hdr) (d : Nat) : (s.started h).ratedCycles d = s.ratedCycles d := by
  rw [s.started_eq h]; rfl
@[simp] theorem State.wearPct_started (s : State) (h : Hdr) (d : Nat) : (s.started h).wearPct d = s.wearPct d := by
  rw [s.started_eq h]; rfl
@[simp] theorem State.poolInUse_started (s : State) (h : Hdr) : (s.started h).poolInUse = s.poolInUse := by
  rw [s.started_eq h]; rfl
@[simp] theorem State.rewriteSet_started (s : State) (h : Hdr) (o : RfuOp) : (s.started h).rewriteSet o = s.rewriteSet o := by
  rw [s.started_eq h]; rfl
@[simp] theorem State.opSet_started (s : State) (h : Hdr) (o : RfuOp) : (s.started h).opSet o = s.opSet o := by
  rw [s.started_eq h]; rfl
@[simp] theorem State.toStage_started (s : State) (h : Hdr) (o : RfuOp) : (s.started h).toStage o = s.toStage o := by
  rw [s.started_eq h]; rfl
@[simp] theorem State.staging_started (s : State) (h : Hdr) (o : RfuOp) : (s.started h).staging o = s.staging o := by
  rw [s.started_eq h]; rfl
@[simp] theorem State.digestLanes_started (s : State) (h : Hdr) : (s.started h).digestLanes = s.digestLanes := by
  rw [s.started_eq h]; rfl
@[simp] theorem State.streams_started (s : State) (h : Hdr) : (s.started h).streams = s.streams := by
  rw [s.started_eq h]; rfl
@[simp] theorem State.tapRoom_started (s : State) (h : Hdr) (p : Nat) : (s.started h).tapRoom p = s.tapRoom p := by
  rw [s.started_eq h]; rfl
@[simp] theorem State.assembles_started (s : State) (h : Hdr) (d i : Nat) : (s.started h).assembles d i = s.assembles d i := by
  rw [s.started_eq h]; rfl
@[simp] theorem State.decodeLc_started (s : State) (h : Hdr) : (s.started h).decodeLc = s.decodeLc := by
  rw [s.started_eq h]; rfl
@[simp] theorem State.nextRecord_started (s : State) (h : Hdr) (target : Nat) : (s.started h).nextRecord target = s.nextRecord target := by
  rw [s.started_eq h]; rfl
@[simp] theorem State.uds_started (s : State) (h : Hdr) : (s.started h).uds = s.uds := by
  rw [s.started_eq h]; rfl
@[simp] theorem State.otpDigest_started (s : State) (h : Hdr) (w : Nat) : (s.started h).otpDigest w = s.otpDigest w := by
  rw [s.started_eq h]; rfl
@[simp] theorem State.cdi0_started (s : State) (h : Hdr) : (s.started h).cdi0 = s.cdi0 := by
  rw [s.started_eq h]; rfl
@[simp] theorem State.tableMac_started (s : State) (h : Hdr) (t : OwnerTable) : (s.started h).tableMac t = s.tableMac t := by
  rw [s.started_eq h]; rfl
@[simp] theorem State.signersOk_started (s : State) (h : Hdr) (x : Statement) : (s.started h).signersOk x = s.signersOk x := by
  rw [s.started_eq h]; rfl
@[simp] theorem State.signerKey_started (s : State) (h : Hdr) (x : Statement) (kid : Bytes) : (s.started h).signerKey x kid = s.signerKey x kid := by
  rw [s.started_eq h]; rfl
@[simp] theorem State.signatureOk_started (s : State) (h : Hdr) (x : Statement) (g : CoseSig) : (s.started h).signatureOk x g = s.signatureOk x g := by
  rw [s.started_eq h]; rfl
@[simp] theorem State.signaturesOk_started (s : State) (h : Hdr) (x : Statement) : (s.started h).signaturesOk x = s.signaturesOk x := by
  rw [s.started_eq h]; rfl
@[simp] theorem State.challengeOf_started (s : State) (h : Hdr) (p : Nat) : (s.started h).challengeOf p = s.challengeOf p := by
  rw [s.started_eq h]; rfl
@[simp] theorem State.checkStatement_started (s : State) (h : Hdr) (accepts : Statement → Bool) (x : Statement) : (s.started h).checkStatement accepts x = s.checkStatement accepts x := by
  rw [s.started_eq h]; rfl
@[simp] theorem State.wipeKind_started (s : State) (h : Hdr) (target : Nat) : (s.started h).wipeKind target = s.wipeKind target := by
  rw [s.started_eq h]; rfl
@[simp] theorem State.stateBefore_started (s : State) (h : Hdr) (rec_ : Nat) : (s.started h).stateBefore rec_ = s.stateBefore rec_ := by
  rw [s.started_eq h]; rfl
@[simp] theorem State.fillWm_started (s : State) (h : Hdr) : (s.started h).fillWm = s.fillWm := by
  rw [s.started_eq h]; rfl
@[simp] theorem State.repeatWindow_started (s : State) (h : Hdr) : (s.started h).repeatWindow = s.repeatWindow := by
  rw [s.started_eq h]; rfl
@[simp] theorem State.timeMarkParams_started (s : State) (h : Hdr) : (s.started h).timeMarkParams = s.timeMarkParams := by
  rw [s.started_eq h]; rfl
@[simp] theorem State.closeStorm_started (s : State) (h : Hdr) (r : LogRec) : (s.started h).closeStorm r = s.closeStorm r := by
  rw [s.started_eq h]; rfl
@[simp] theorem State.statusRecord_started (s : State) (h : Hdr) (d : Nat) : (s.started h).statusRecord d = s.statusRecord d := by
  rw [s.started_eq h]; rfl
@[simp] theorem State.leafEntry_started (s : State) (h : Hdr) (d i : Nat) : (s.started h).leafEntry d i = s.leafEntry d i := by
  rw [s.started_eq h]; rfl
@[simp] theorem State.deviceStatus_started (s : State) (h : Hdr) (d first count : Nat) : (s.started h).deviceStatus d first count = s.deviceStatus d first count := by
  rw [s.started_eq h]; rfl
@[simp] theorem State.openContexts_started (s : State) (h : Hdr) : (s.started h).openContexts = s.openContexts := by
  rw [s.started_eq h]; rfl
@[simp] theorem State.freeContext_started (s : State) (h : Hdr) (owner : Nat) : (s.started h).freeContext owner = s.freeContext owner := by
  rw [s.started_eq h]; rfl
@[simp] theorem State.meteringCfg_started (s : State) (h : Hdr) : (s.started h).meteringCfg = s.meteringCfg := by
  rw [s.started_eq h]; rfl
@[simp] theorem State.periodRec_started (s : State) (h : Hdr) (p : Period) (flags : Nat) (forced : Bool) : (s.started h).periodRec p flags forced = s.periodRec p flags forced := by
  rw [s.started_eq h]; rfl
@[simp] theorem State.ringRoom_started (s : State) (h : Hdr) (r : PeriodRec) : (s.started h).ringRoom r = s.ringRoom r := by
  rw [s.started_eq h]; rfl
@[simp] theorem State.signingPeriod_started (s : State) (h : Hdr) (id : Nat) : (s.started h).signingPeriod id = s.signingPeriod id := by
  rw [s.started_eq h]; rfl
@[simp] theorem State.meterHeader_started (s : State) (h : Hdr) : (s.started h).meterHeader = s.meterHeader := by
  rw [s.started_eq h]; rfl
@[simp] theorem State.random_started (s : State) (h : Hdr) (n : Nat) : (s.started h).random n = s.random n := by
  rw [s.started_eq h]; rfl
@[simp] theorem State.now_started (s : State) (h : Hdr) : (s.started h).now = s.now := by
  rw [s.started_eq h]; rfl
@[simp] theorem State.pcieUp_started (s : State) (h : Hdr) : (s.started h).pcieUp = s.pcieUp := by
  rw [s.started_eq h]; rfl
@[simp] theorem State.wardenRuns_started (s : State) (h : Hdr) : (s.started h).wardenRuns = s.wardenRuns := by
  rw [s.started_eq h]; rfl
@[simp] theorem State.offsetNow_started (s : State) (h : Hdr) : (s.started h).offsetNow = s.offsetNow := by
  rw [s.started_eq h]; rfl
@[simp] theorem State.wall_started (s : State) (h : Hdr) : (s.started h).wall = s.wall := by
  rw [s.started_eq h]; rfl
@[simp] theorem State.arb_started (s : State) (h : Hdr) (c : Nat) : (s.started h).arb c = s.arb c := by
  rw [s.started_eq h]; rfl
@[simp] theorem State.evidence_started (s : State) (h : Hdr) : (s.started h).evidence = s.evidence := by
  rw [s.started_eq h]; rfl
@[simp] theorem State.recordsUsed_started (s : State) (h : Hdr) : (s.started h).recordsUsed = s.recordsUsed := by
  rw [s.started_eq h]; rfl
@[simp] theorem State.newestRecord_started (s : State) (h : Hdr) : (s.started h).newestRecord = s.newestRecord := by
  rw [s.started_eq h]; rfl
@[simp] theorem State.ownershipCount_started (s : State) (h : Hdr) : (s.started h).ownershipCount = s.ownershipCount := by
  rw [s.started_eq h]; rfl
@[simp] theorem State.transitionPending_started (s : State) (h : Hdr) : (s.started h).transitionPending = s.transitionPending := by
  rw [s.started_eq h]; rfl
@[simp] theorem State.deviceName_started (s : State) (h : Hdr) : (s.started h).deviceName = s.deviceName := by
  rw [s.started_eq h]; rfl
@[simp] theorem State.quenched_started (s : State) (h : Hdr) : (s.started h).quenched = s.quenched := by
  rw [s.started_eq h]; rfl
@[simp] theorem State.image_started (s : State) (h : Hdr) : (s.started h).image = s.image := by
  rw [s.started_eq h]; rfl
@[simp] theorem State.otherSlot_started (s : State) (h : Hdr) : (s.started h).otherSlot = s.otherSlot := by
  rw [s.started_eq h]; rfl
@[simp] theorem State.polSlot_started (s : State) (h : Hdr) (k : Nat) : (s.started h).polSlot k = s.polSlot k := by
  rw [s.started_eq h]; rfl
@[simp] theorem State.staged_started (s : State) (h : Hdr) : (s.started h).staged = s.staged := by
  rw [s.started_eq h]; rfl
@[simp] theorem State.sec_started (s : State) (h : Hdr) (id : Nat) : (s.started h).sec id = s.sec id := by
  rw [s.started_eq h]; rfl
@[simp] theorem State.secRec_started (s : State) (h : Hdr) (id h' w n : Nat) : (s.started h).secRec id h' w n = s.secRec id h' w n := by
  rw [s.started_eq h]; rfl
@[simp] theorem State.grant_started (s : State) (h : Hdr) (q : Nat) : (s.started h).grant q = s.grant q := by
  rw [s.started_eq h]; rfl
@[simp] theorem State.mgmtQueue_started (s : State) (h : Hdr) (t : Target) : (s.started h).mgmtQueue t = s.mgmtQueue t := by
  rw [s.started_eq h]; rfl
@[simp] theorem State.groupManaged_started (s : State) (h : Hdr) (g : Nat) : (s.started h).groupManaged g = s.groupManaged g := by
  rw [s.started_eq h]; rfl
@[simp] theorem State.noRung6_started (s : State) (h : Hdr) : (s.started h).noRung6 = s.noRung6 := by
  rw [s.started_eq h]; rfl
@[simp] theorem State.yieldActive_started (s : State) (h : Hdr) : (s.started h).yieldActive = s.yieldActive := by
  rw [s.started_eq h]; rfl
@[simp] theorem State.policySigner_started (s : State) (h : Hdr) (g : CoseSig) : (s.started h).policySigner g = s.policySigner g := by
  rw [s.started_eq h]; rfl
@[simp] theorem State.policyVerified_started (s : State) (h : Hdr) (g : CoseSig) (input : Bytes) : (s.started h).policyVerified g input = s.policyVerified g input := by
  rw [s.started_eq h]; rfl
@[simp] theorem State.policySigned_started (s : State) (h : Hdr) (g : CoseSig) (input : Bytes) : (s.started h).policySigned g input = s.policySigned g input := by
  rw [s.started_eq h]; rfl
@[simp] theorem State.checkImage_started (s : State) (h : Hdr) (start : Bool) (raw : Bytes) : (s.started h).checkImage start raw = s.checkImage start raw := by
  rw [s.started_eq h]; rfl
@[simp] theorem State.commitBusy_started (s : State) (h : Hdr) (new : Image) : (s.started h).commitBusy new = s.commitBusy new := by
  rw [s.started_eq h]; rfl
@[simp] theorem State.policyStatus_started (s : State) (h : Hdr) : (s.started h).policyStatus = s.policyStatus := by
  rw [s.started_eq h]; rfl
@[simp] theorem State.ruleBytes_started (s : State) (h : Hdr) (n : Nat) : (s.started h).ruleBytes n = s.ruleBytes n := by
  rw [s.started_eq h]; rfl
@[simp] theorem State.csReleased_started (s : State) (h : Hdr) (p k : Nat) : (s.started h).csReleased p k = s.csReleased p k := by
  rw [s.started_eq h]; rfl
@[simp] theorem State.shadow_started (s : State) (h : Hdr) (d : Nat) : (s.started h).shadow d = s.shadow d := by
  rw [s.started_eq h]; rfl
@[simp] theorem State.portWork_started (s : State) (h : Hdr) (p : Nat) : (s.started h).portWork p = s.portWork p := by
  rw [s.started_eq h]; rfl
@[simp] theorem State.urgentWork_started (s : State) (h : Hdr) (p : Nat) : (s.started h).urgentWork p = s.urgentWork p := by
  rw [s.started_eq h]; rfl
@[simp] theorem State.givesWay_started (s : State) (h : Hdr) (o : RfuOp) : (s.started h).givesWay o = s.givesWay o := by
  rw [s.started_eq h]; rfl
@[simp] theorem State.workRuns_started (s : State) (h : Hdr) (p : Nat) : (s.started h).workRuns p = s.workRuns p := by
  rw [s.started_eq h]; rfl
@[simp] theorem State.ownWork_started (s : State) (h : Hdr) (p : Nat) : (s.started h).ownWork p = s.ownWork p := by
  rw [s.started_eq h]; rfl
@[simp] theorem State.pulseDevice_started (s : State) (h : Hdr) (p : Nat) : (s.started h).pulseDevice p = s.pulseDevice p := by
  rw [s.started_eq h]; rfl
@[simp] theorem State.entryXfers_started (s : State) (h : Hdr) (d : Nat) : (s.started h).entryXfers d = s.entryXfers d := by
  rw [s.started_eq h]; rfl
@[simp] theorem State.scanIface_started (s : State) (h : Hdr) (d : Nat) : (s.started h).scanIface d = s.scanIface d := by
  rw [s.started_eq h]; rfl
@[simp] theorem State.scanOpcode_started (s : State) (h : Hdr) (d : Nat) : (s.started h).scanOpcode d = s.scanOpcode d := by
  rw [s.started_eq h]; rfl
@[simp] theorem State.scanMhz_started (s : State) (h : Hdr) (d : Nat) : (s.started h).scanMhz d = s.scanMhz d := by
  rw [s.started_eq h]; rfl
@[simp] theorem State.scanXfer_started (s : State) (h : Hdr) (d i n : Nat) : (s.started h).scanXfer d i n = s.scanXfer d i n := by
  rw [s.started_eq h]; rfl
@[simp] theorem State.writeXfers_started (s : State) (h : Hdr) (d op mhz addr : Nat) (data : Bytes) : (s.started h).writeXfers d op mhz addr data = s.writeXfers d op mhz addr data := by
  rw [s.started_eq h]; rfl
@[simp] theorem State.inWindow_started (s : State) (h : Hdr) (p : Nat) : (s.started h).inWindow p = s.inWindow p := by
  rw [s.started_eq h]; rfl
@[simp] theorem State.waitOver_started (s : State) (h : Hdr) (p since : Nat) : (s.started h).waitOver p since = s.waitOver p since := by
  rw [s.started_eq h]; rfl
@[simp] theorem State.gapExpired_started (s : State) (h : Hdr) (p : Nat) : (s.started h).gapExpired p = s.gapExpired p := by
  rw [s.started_eq h]; rfl
@[simp] theorem State.ownTurn_started (s : State) (h : Hdr) (p since : Nat) : (s.started h).ownTurn p since = s.ownTurn p since := by
  rw [s.started_eq h]; rfl
@[simp] theorem State.canPass_started (s : State) (h : Hdr) (p : Nat) : (s.started h).canPass p = s.canPass p := by
  rw [s.started_eq h]; rfl
@[simp] theorem State.resyncWork_started (s : State) (h : Hdr) (d : Nat) : (s.started h).resyncWork d = s.resyncWork d := by
  rw [s.started_eq h]; rfl
@[simp] theorem State.windowWork_started (s : State) (h : Hdr) (p : Nat) : (s.started h).windowWork p = s.windowWork p := by
  rw [s.started_eq h]; rfl
@[simp] theorem State.windowFits_started (s : State) (h : Hdr) (p : Nat) : (s.started h).windowFits p = s.windowFits p := by
  rw [s.started_eq h]; rfl
@[simp] theorem State.portPins_started (s : State) (h : Hdr) (p : Nat) : (s.started h).portPins p = s.portPins p := by
  rw [s.started_eq h]; rfl
@[simp] theorem State.portModeWord_started (s : State) (h : Hdr) (p : Nat) : (s.started h).portModeWord p = s.portModeWord p := by
  rw [s.started_eq h]; rfl
@[simp] theorem State.portDevWord_started (s : State) (h : Hdr) (d : Nat) : (s.started h).portDevWord d = s.portDevWord d := by
  rw [s.started_eq h]; rfl
@[simp] theorem State.portIdleWait_started (s : State) (h : Hdr) (p : Nat) : (s.started h).portIdleWait p = s.portIdleWait p := by
  rw [s.started_eq h]; rfl
@[simp] theorem State.serviceState_started (s : State) (h : Hdr) : (s.started h).serviceState = s.serviceState := by
  rw [s.started_eq h]; rfl
@[simp] theorem State.swapping_started (s : State) (h : Hdr) : (s.started h).swapping = s.swapping := by
  rw [s.started_eq h]; rfl
@[simp] theorem State.psdFlags_started (s : State) (h : Hdr) : (s.started h).psdFlags = s.psdFlags := by
  rw [s.started_eq h]; rfl
@[simp] theorem State.isResuming_started (s : State) (h : Hdr) (n : Nat) : (s.started h).isResuming n = s.isResuming n := by
  rw [s.started_eq h]; rfl
@[simp] theorem State.trippedMask_started (s : State) (h : Hdr) : (s.started h).trippedMask = s.trippedMask := by
  rw [s.started_eq h]; rfl
@[simp] theorem State.wardenHeader_started (s : State) (h : Hdr) : (s.started h).wardenHeader = s.wardenHeader := by
  rw [s.started_eq h]; rfl
@[simp] theorem State.deviceState_started (s : State) (h : Hdr) : (s.started h).deviceState = s.deviceState := by
  rw [s.started_eq h]; rfl
@[simp] theorem State.portDevByte_started (s : State) (h : Hdr) (d : Nat) : (s.started h).portDevByte d = s.portDevByte d := by
  rw [s.started_eq h]; rfl
@[simp] theorem State.portEntry_started (s : State) (h : Hdr) (p : Nat) : (s.started h).portEntry p = s.portEntry p := by
  rw [s.started_eq h]; rfl
@[simp] theorem State.slotByte_started (s : State) (h : Hdr) (n : Nat) : (s.started h).slotByte n = s.slotByte n := by
  rw [s.started_eq h]; rfl
@[simp] theorem State.flashRec_started (s : State) (h : Hdr) (d : Nat) : (s.started h).flashRec d = s.flashRec d := by
  rw [s.started_eq h]; rfl
@[simp] theorem State.scanActive_started (s : State) (h : Hdr) (d : Nat) : (s.started h).scanActive d = s.scanActive d := by
  rw [s.started_eq h]; rfl
@[simp] theorem State.scanPending_started (s : State) (h : Hdr) (d : Nat) : (s.started h).scanPending d = s.scanPending d := by
  rw [s.started_eq h]; rfl
@[simp] theorem State.deviceEntry_started (s : State) (h : Hdr) (d : Nat) : (s.started h).deviceEntry d = s.deviceEntry d := by
  rw [s.started_eq h]; rfl
@[simp] theorem State.psdPreimage_started (s : State) (h : Hdr) (gen : Nat) : (s.started h).psdPreimage gen = s.psdPreimage gen := by
  rw [s.started_eq h]; rfl
@[simp] theorem State.psdMoved_started (s : State) (h : Hdr) : (s.started h).psdMoved = s.psdMoved := by
  rw [s.started_eq h]; rfl
@[simp] theorem State.psdPending_started (s : State) (h : Hdr) : (s.started h).psdPending = s.psdPending := by
  rw [s.started_eq h]; rfl
@[simp] theorem State.floorSel_started (s : State) (h : Hdr) : (s.started h).floorSel = s.floorSel := by
  rw [s.started_eq h]; rfl
@[simp] theorem State.liveBlockWith_started (s : State) (h : Hdr) (cap floor : Nat) : (s.started h).liveBlockWith cap floor = s.liveBlockWith cap floor := by
  rw [s.started_eq h]; rfl
@[simp] theorem State.liveBlock_started (s : State) (h : Hdr) : (s.started h).liveBlock = s.liveBlock := by
  rw [s.started_eq h]; rfl
@[simp] theorem State.configEpoch_started (s : State) (h : Hdr) : (s.started h).configEpoch = s.configEpoch := by
  rw [s.started_eq h]; rfl
@[simp] theorem State.ownsQueue_started (s : State) (h : Hdr) (fn q : Nat) : (s.started h).ownsQueue fn q = s.ownsQueue fn q := by
  rw [s.started_eq h]; rfl
@[simp] theorem State.unrecorded_started (s : State) (h : Hdr) (g : Nat) (e : AsyncEv) : (s.started h).unrecorded g e = s.unrecorded g e := by
  rw [s.started_eq h]; rfl
@[simp] theorem State.outboxWm_started (s : State) (h : Hdr) : (s.started h).outboxWm = s.outboxWm := by
  rw [s.started_eq h]; rfl
@[simp] theorem State.formKid_started (s : State) (h : Hdr) (alg : Nat) : (s.started h).formKid alg = s.formKid alg := by
  rw [s.started_eq h]; rfl
@[simp] theorem State.receiptRec_started (s : State) (h : Hdr) (q : Nat) : (s.started h).receiptRec q = s.receiptRec q := by
  rw [s.started_eq h]; rfl
@[simp] theorem State.receiptPayload_started (s : State) (h : Hdr) (a : Ask) (seq period flags : Nat) (wall : Int) : (s.started h).receiptPayload a seq period flags wall = s.receiptPayload a seq period flags wall := by
  rw [s.started_eq h]; rfl
@[simp] theorem State.receiptRefusal_started (s : State) (h : Hdr) (a : Ask) (outSize : Nat) : (s.started h).receiptRefusal a outSize = s.receiptRefusal a outSize := by
  rw [s.started_eq h]; rfl
@[simp] theorem State.receiptKeys_started (s : State) (h : Hdr) : (s.started h).receiptKeys = s.receiptKeys := by
  rw [s.started_eq h]; rfl
@[simp] theorem State.cartEntries_started (s : State) (h : Hdr) (d k : Nat) : (s.started h).cartEntries d k = s.cartEntries d k := by
  rw [s.started_eq h]; rfl
@[simp] theorem State.cartSources_started (s : State) (h : Hdr) (d : Nat) : (s.started h).cartSources d = s.cartSources d := by
  rw [s.started_eq h]; rfl
@[simp] theorem State.freePosition_started (s : State) (h : Hdr) : (s.started h).freePosition = s.freePosition := by
  rw [s.started_eq h]; rfl
@[simp] theorem State.nextOp_started (s : State) (h : Hdr) : (s.started h).nextOp = s.nextOp := by
  rw [s.started_eq h]; rfl
@[simp] theorem State.wip_started (s : State) (h : Hdr) (p status : Nat) : (s.started h).wip p status = s.wip p status := by
  rw [s.started_eq h]; rfl
@[simp] theorem State.opcodeTime_started (s : State) (h : Hdr) (p opcode : Nat) : (s.started h).opcodeTime p opcode = s.opcodeTime p opcode := by
  rw [s.started_eq h]; rfl
@[simp] theorem State.transportOk_started (s : State) (h : Hdr) (src : Src) (n : Nat) : (s.started h).transportOk src n = s.transportOk src n := by
  rw [s.started_eq h]; rfl
@[simp] theorem State.recoveryRec_started (s : State) (h : Hdr) (n : Nat) : (s.started h).recoveryRec n = s.recoveryRec n := by
  rw [s.started_eq h]; rfl
@[simp] theorem State.recoveryFlags_started (s : State) (h : Hdr) (n : Nat) : (s.started h).recoveryFlags n = s.recoveryFlags n := by
  rw [s.started_eq h]; rfl
@[simp] theorem State.maxAttempts_started (s : State) (h : Hdr) (n : Nat) : (s.started h).maxAttempts n = s.maxAttempts n := by
  rw [s.started_eq h]; rfl
@[simp] theorem State.vendorKey_started (s : State) (h : Hdr) (n : Nat) : (s.started h).vendorKey n = s.vendorKey n := by
  rw [s.started_eq h]; rfl
@[simp] theorem State.imageRec_started (s : State) (h : Hdr) (d : Nat) : (s.started h).imageRec d = s.imageRec d := by
  rw [s.started_eq h]; rfl
@[simp] theorem State.vendorRec_started (s : State) (h : Hdr) (e : Nat) : (s.started h).vendorRec e = s.vendorRec e := by
  rw [s.started_eq h]; rfl
@[simp] theorem State.cartWait_started (s : State) (h : Hdr) : (s.started h).cartWait = s.cartWait := by
  rw [s.started_eq h]; rfl
@[simp] theorem State.sourceWait_started (s : State) (h : Hdr) : (s.started h).sourceWait = s.sourceWait := by
  rw [s.started_eq h]; rfl
@[simp] theorem State.arb3Check_started (s : State) (h : Hdr) : (s.started h).arb3Check = s.arb3Check := by
  rw [s.started_eq h]; rfl
@[simp] theorem State.canRecover_started (s : State) (h : Hdr) (n : Nat) : (s.started h).canRecover n = s.canRecover n := by
  rw [s.started_eq h]; rfl
@[simp] theorem State.manifestRoot_started (s : State) (h : Hdr) (d : Nat) (m : Manifest) : (s.started h).manifestRoot d m = s.manifestRoot d m := by
  rw [s.started_eq h]; rfl
@[simp] theorem State.ownerSigned_started (s : State) (h : Hdr) (x : RawManifest) : (s.started h).ownerSigned x = s.ownerSigned x := by
  rw [s.started_eq h]; rfl
@[simp] theorem State.vendorSigned_started (s : State) (h : Hdr) (n : Nat) (x : RawManifest) : (s.started h).vendorSigned n x = s.vendorSigned n x := by
  rw [s.started_eq h]; rfl
@[simp] theorem State.density_started (s : State) (h : Hdr) (d : Nat) : (s.started h).density d = s.density d := by
  rw [s.started_eq h]; rfl
@[simp] theorem State.checkManifest_started (s : State) (h : Hdr) (n d : Nat) (b : Bytes) : (s.started h).checkManifest n d b = s.checkManifest n d b := by
  rw [s.started_eq h]; rfl
@[simp] theorem State.manifestSigs_started (s : State) (h : Hdr) (n : Nat) (x : RawManifest) : (s.started h).manifestSigs n x = s.manifestSigs n x := by
  rw [s.started_eq h]; rfl
@[simp] theorem State.vendorLms_started (s : State) (h : Hdr) (n : Nat) (x : RawManifest) : (s.started h).vendorLms n x = s.vendorLms n x := by
  rw [s.started_eq h]; rfl
@[simp] theorem State.stageRoom_started (s : State) (h : Hdr) : (s.started h).stageRoom = s.stageRoom := by
  rw [s.started_eq h]; rfl
@[simp] theorem State.ownsTurn_started (s : State) (h : Hdr) (d : Nat) : (s.started h).ownsTurn d = s.ownsTurn d := by
  rw [s.started_eq h]; rfl
@[simp] theorem State.portUsable_started (s : State) (h : Hdr) (d : Nat) : (s.started h).portUsable d = s.portUsable d := by
  rw [s.started_eq h]; rfl
@[simp] theorem State.fitsWindow_started (s : State) (h : Hdr) (d opcode : Nat) : (s.started h).fitsWindow d opcode = s.fitsWindow d opcode := by
  rw [s.started_eq h]; rfl
@[simp] theorem State.toWrite_started (s : State) (h : Hdr) (d : Nat) : (s.started h).toWrite d = s.toWrite d := by
  rw [s.started_eq h]; rfl
@[simp] theorem State.eraseOp_started (s : State) (h : Hdr) (d : Nat) : (s.started h).eraseOp d = s.eraseOp d := by
  rw [s.started_eq h]; rfl
@[simp] theorem State.programOp_started (s : State) (h : Hdr) (d : Nat) : (s.started h).programOp d = s.programOp d := by
  rw [s.started_eq h]; rfl
@[simp] theorem State.writeMhz_started (s : State) (h : Hdr) (d : Nat) : (s.started h).writeMhz d = s.writeMhz d := by
  rw [s.started_eq h]; rfl
@[simp] theorem State.hasPort_started (s : State) (h : Hdr) (d : Nat) : (s.started h).hasPort d = s.hasPort d := by
  rw [s.started_eq h]; rfl
@[simp] theorem State.sourceId_started (s : State) (h : Hdr) (o : RfuOp) : (s.started h).sourceId o = s.sourceId o := by
  rw [s.started_eq h]; rfl
@[simp] theorem State.storedFrom_started (s : State) (h : Hdr) (d : Nat) (m : Manifest) (first count : Nat) : (s.started h).storedFrom d m first count = s.storedFrom d m first count := by
  rw [s.started_eq h]; rfl
@[simp] theorem State.checksLeft_started (s : State) (h : Hdr) (n : Nat) : (s.started h).checksLeft n = s.checksLeft n := by
  rw [s.started_eq h]; rfl
@[simp] theorem State.checkRecovers_started (s : State) (h : Hdr) (n : Nat) : (s.started h).checkRecovers n = s.checkRecovers n := by
  rw [s.started_eq h]; rfl
@[simp] theorem State.bootWord_started (s : State) (h : Hdr) : (s.started h).bootWord = s.bootWord := by
  rw [s.started_eq h]; rfl
@[simp] theorem State.strSummary_started (s : State) (h : Hdr) : (s.started h).strSummary = s.strSummary := by
  rw [s.started_eq h]; rfl
@[simp] theorem State.busStatus_started (s : State) (h : Hdr) : (s.started h).busStatus = s.busStatus := by
  rw [s.started_eq h]; rfl
@[simp] theorem State.busRetries_started (s : State) (h : Hdr) : (s.started h).busRetries = s.busRetries := by
  rw [s.started_eq h]; rfl
@[simp] theorem State.pinLevel_started (s : State) (h : Hdr) (i : Nat) : (s.started h).pinLevel i = s.pinLevel i := by
  rw [s.started_eq h]; rfl
@[simp] theorem State.pinWord_started (s : State) (h : Hdr) (k : Nat) : (s.started h).pinWord k = s.pinWord k := by
  rw [s.started_eq h]; rfl
@[simp] theorem State.stringsWord_started (s : State) (h : Hdr) (off : Nat) : (s.started h).stringsWord off = s.stringsWord off := by
  rw [s.started_eq h]; rfl
@[simp] theorem State.portWord_started (s : State) (h : Hdr) (p off : Nat) : (s.started h).portWord p off = s.portWord p off := by
  rw [s.started_eq h]; rfl
@[simp] theorem State.scanAssemblies_started (s : State) (h : Hdr) : (s.started h).scanAssemblies = s.scanAssemblies := by
  rw [s.started_eq h]; rfl
@[simp] theorem State.fitWord_started (s : State) (h : Hdr) (off : Nat) : (s.started h).fitWord off = s.fitWord off := by
  rw [s.started_eq h]; rfl
@[simp] theorem State.hammerWord_started (s : State) (h : Hdr) (off : Nat) : (s.started h).hammerWord off = s.hammerWord off := by
  rw [s.started_eq h]; rfl
@[simp] theorem State.wallHeld_started (s : State) (h : Hdr) : (s.started h).wallHeld = s.wallHeld := by
  rw [s.started_eq h]; rfl
@[simp] theorem State.ringFull_started (s : State) (h : Hdr) : (s.started h).ringFull = s.ringFull := by
  rw [s.started_eq h]; rfl
@[simp] theorem State.forgeWord_started (s : State) (h : Hdr) : (s.started h).forgeWord = s.forgeWord := by
  rw [s.started_eq h]; rfl
@[simp] theorem State.rfgWord_started (s : State) (h : Hdr) (off : Nat) : (s.started h).rfgWord off = s.rfgWord off := by
  rw [s.started_eq h]; rfl
@[simp] theorem State.atrStatus_started (s : State) (h : Hdr) : (s.started h).atrStatus = s.atrStatus := by
  rw [s.started_eq h]; rfl
@[simp] theorem State.atrWord_started (s : State) (h : Hdr) (off : Nat) : (s.started h).atrWord off = s.atrWord off := by
  rw [s.started_eq h]; rfl
@[simp] theorem State.rfuStatus_started (s : State) (h : Hdr) : (s.started h).rfuStatus = s.rfuStatus := by
  rw [s.started_eq h]; rfl
@[simp] theorem State.rfuOpWord_started (s : State) (h : Hdr) (j k : Nat) : (s.started h).rfuOpWord j k = s.rfuOpWord j k := by
  rw [s.started_eq h]; rfl
@[simp] theorem State.rfuWord_started (s : State) (h : Hdr) (off : Nat) : (s.started h).rfuWord off = s.rfuWord off := by
  rw [s.started_eq h]; rfl
@[simp] theorem State.cbyStatus_started (s : State) (h : Hdr) : (s.started h).cbyStatus = s.cbyStatus := by
  rw [s.started_eq h]; rfl
@[simp] theorem State.cbyWord_started (s : State) (h : Hdr) (off : Nat) : (s.started h).cbyWord off = s.cbyWord off := by
  rw [s.started_eq h]; rfl
@[simp] theorem State.keySlots_started (s : State) (h : Hdr) (st : Nat) : (s.started h).keySlots st = s.keySlots st := by
  rw [s.started_eq h]; rfl
@[simp] theorem State.cruStatus_started (s : State) (h : Hdr) : (s.started h).cruStatus = s.cruStatus := by
  rw [s.started_eq h]; rfl
@[simp] theorem State.cruWord_started (s : State) (h : Hdr) (off : Nat) : (s.started h).cruWord off = s.cruWord off := by
  rw [s.started_eq h]; rfl
@[simp] theorem State.timeWord_started (s : State) (h : Hdr) : (s.started h).timeWord = s.timeWord := by
  rw [s.started_eq h]; rfl
@[simp] theorem State.emberWord_started (s : State) (h : Hdr) (off : Nat) : (s.started h).emberWord off = s.emberWord off := by
  rw [s.started_eq h]; rfl
@[simp] theorem State.iwdWord_started (s : State) (h : Hdr) : (s.started h).iwdWord = s.iwdWord := by
  rw [s.started_eq h]; rfl
@[simp] theorem State.wwuWord_started (s : State) (h : Hdr) (off : Nat) : (s.started h).wwuWord off = s.wwuWord off := by
  rw [s.started_eq h]; rfl
@[simp] theorem State.lgbWord_started (s : State) (h : Hdr) (off : Nat) : (s.started h).lgbWord off = s.lgbWord off := by
  rw [s.started_eq h]; rfl
@[simp] theorem State.queuesOf_started (s : State) (h : Hdr) (fn : Nat) : (s.started h).queuesOf fn = s.queuesOf fn := by
  rw [s.started_eq h]; rfl
@[simp] theorem State.addresses_started (s : State) (h : Hdr) (fn addr : Nat) : (s.started h).addresses fn addr = s.addresses fn addr := by
  rw [s.started_eq h]; rfl
@[simp] theorem State.reaches_started (s : State) (h : Hdr) (fn addr : Nat) : (s.started h).reaches fn addr = s.reaches fn addr := by
  rw [s.started_eq h]; rfl
@[simp] theorem State.warden_started (s : State) (h : Hdr) (c : Nat) : (s.started h).warden c = s.warden c := by
  rw [s.started_eq h]; rfl
@[simp] theorem State.pendingPorts_started (s : State) (h : Hdr) : (s.started h).pendingPorts = s.pendingPorts := by
  rw [s.started_eq h]; rfl
@[simp] theorem State.commitResult_started (s : State) (h : Hdr) : (s.started h).commitResult = s.commitResult := by
  rw [s.started_eq h]; rfl
@[simp] theorem State.drivesOwn_started (s : State) (h : Hdr) (p : Nat) : (s.started h).drivesOwn p = s.drivesOwn p := by
  rw [s.started_eq h]; rfl
@[simp] theorem State.scanAllowed_started (s : State) (h : Hdr) (x : Scan) : (s.started h).scanAllowed x = s.scanAllowed x := by
  rw [s.started_eq h]; rfl
@[simp] theorem State.scanTurn_started (s : State) (h : Hdr) (x : Scan) : (s.started h).scanTurn x = s.scanTurn x := by
  rw [s.started_eq h]; rfl
@[simp] theorem State.nextScan_started (s : State) (h : Hdr) (d : Nat) : (s.started h).nextScan d = s.nextScan d := by
  rw [s.started_eq h]; rfl
@[simp] theorem State.startScans_started (s : State) (h : Hdr) (p : Nat) : (s.started h).startScans p = s.startScans p := by
  rw [s.started_eq h]; rfl
@[simp] theorem State.nextIdent_started (s : State) (h : Hdr) (d : Nat) : (s.started h).nextIdent d = s.nextIdent d := by
  rw [s.started_eq h]; rfl
@[simp] theorem State.scanBlocks_started (s : State) (h : Hdr) (x : Scan) : (s.started h).scanBlocks x = s.scanBlocks x := by
  rw [s.started_eq h]; rfl
@[simp] theorem State.scanXfers_started (s : State) (h : Hdr) (x : Scan) (blocks : List Nat) : (s.started h).scanXfers x blocks = s.scanXfers x blocks := by
  rw [s.started_eq h]; rfl
@[simp] theorem State.strEntries_started (s : State) (h : Hdr) : (s.started h).strEntries = s.strEntries := by
  rw [s.started_eq h]; rfl
@[simp] theorem State.strEntry_started (s : State) (h : Hdr) (i : Nat) : (s.started h).strEntry i = s.strEntry i := by
  rw [s.started_eq h]; rfl
@[simp] theorem State.slotStrings_started (s : State) (h : Hdr) (n : Nat) : (s.started h).slotStrings n = s.slotStrings n := by
  rw [s.started_eq h]; rfl
@[simp] theorem State.slotOutputs_started (s : State) (h : Hdr) (n : Nat) : (s.started h).slotOutputs n = s.slotOutputs n := by
  rw [s.started_eq h]; rfl
@[simp] theorem State.slotPg_started (s : State) (h : Hdr) (n : Nat) : (s.started h).slotPg n = s.slotPg n := by
  rw [s.started_eq h]; rfl
@[simp] theorem State.slotOnBus_started (s : State) (h : Hdr) (n b : Nat) : (s.started h).slotOnBus n b = s.slotOnBus n b := by
  rw [s.started_eq h]; rfl
@[simp] theorem State.busReset_started (s : State) (h : Hdr) (b : Nat) : (s.started h).busReset b = s.busReset b := by
  rw [s.started_eq h]; rfl
@[simp] theorem State.slotFlags_started (s : State) (h : Hdr) (n : Nat) : (s.started h).slotFlags n = s.slotFlags n := by
  rw [s.started_eq h]; rfl
@[simp] theorem State.slotDefined_started (s : State) (h : Hdr) (n : Nat) : (s.started h).slotDefined n = s.slotDefined n := by
  rw [s.started_eq h]; rfl
@[simp] theorem State.autoRelease_started (s : State) (h : Hdr) (n : Nat) : (s.started h).autoRelease n = s.autoRelease n := by
  rw [s.started_eq h]; rfl
@[simp] theorem State.autoRestore_started (s : State) (h : Hdr) (n : Nat) : (s.started h).autoRestore n = s.autoRestore n := by
  rw [s.started_eq h]; rfl
@[simp] theorem State.slotWinds_started (s : State) (h : Hdr) (n : Nat) : (s.started h).slotWinds n = s.slotWinds n := by
  rw [s.started_eq h]; rfl
@[simp] theorem State.pgAction_started (s : State) (h : Hdr) (n : Nat) : (s.started h).pgAction n = s.pgAction n := by
  rw [s.started_eq h]; rfl
@[simp] theorem State.slotDevices_started (s : State) (h : Hdr) (n : Nat) : (s.started h).slotDevices n = s.slotDevices n := by
  rw [s.started_eq h]; rfl
@[simp] theorem State.deviceSlot_started (s : State) (h : Hdr) (d : Nat) : (s.started h).deviceSlot d = s.deviceSlot d := by
  rw [s.started_eq h]; rfl
@[simp] theorem State.portSlots_started (s : State) (h : Hdr) (p : Nat) : (s.started h).portSlots p = s.portSlots p := by
  rw [s.started_eq h]; rfl
@[simp] theorem State.portDevices_started (s : State) (h : Hdr) (p : Nat) : (s.started h).portDevices p = s.portDevices p := by
  rw [s.started_eq h]; rfl
@[simp] theorem State.expProtocol_started (s : State) (h : Hdr) (b e : Nat) : (s.started h).expProtocol b e = s.expProtocol b e := by
  rw [s.started_eq h]; rfl
@[simp] theorem State.busTick_started (s : State) (h : Hdr) (b : Nat) : (s.started h).busTick b = s.busTick b := by
  rw [s.started_eq h]; rfl
@[simp] theorem State.busUsed_started (s : State) (h : Hdr) (b : Nat) : (s.started h).busUsed b = s.busUsed b := by
  rw [s.started_eq h]; rfl
@[simp] theorem State.edges_started (s : State) (h : Hdr) : (s.started h).edges = s.edges := by
  rw [s.started_eq h]; rfl
@[simp] theorem State.deviceRec_started (s : State) (h : Hdr) (d : Nat) : (s.started h).deviceRec d = s.deviceRec d := by
  rw [s.started_eq h]; rfl
@[simp] theorem State.deviceValid_started (s : State) (h : Hdr) (d : Nat) : (s.started h).deviceValid d = s.deviceValid d := by
  rw [s.started_eq h]; rfl
@[simp] theorem State.deviceBlocks_started (s : State) (h : Hdr) (d : Nat) : (s.started h).deviceBlocks d = s.deviceBlocks d := by
  rw [s.started_eq h]; rfl
@[simp] theorem State.blockExcluded_started (s : State) (h : Hdr) (d i : Nat) : (s.started h).blockExcluded d i = s.blockExcluded d i := by
  rw [s.started_eq h]; rfl
@[simp] theorem State.xbus_started (s : State) (h : Hdr) (b : Nat) : (s.started h).xbus b = s.xbus b := by
  rw [s.started_eq h]; rfl
@[simp] theorem State.sharedResource_started (s : State) (h : Hdr) (cls : Nat) (idxs : List Nat) (islands : List Nat) : (s.started h).sharedResource cls idxs islands = s.sharedResource cls idxs islands := by
  rw [s.started_eq h]; rfl
@[simp] theorem State.tamperRec_started (s : State) (h : Hdr) (i : Nat) : (s.started h).tamperRec i = s.tamperRec i := by
  rw [s.started_eq h]; rfl
@[simp] theorem State.sourceFixed_started (s : State) (h : Hdr) (i : Nat) : (s.started h).sourceFixed i = s.sourceFixed i := by
  rw [s.started_eq h]; rfl
@[simp] theorem State.sourceMode_started (s : State) (h : Hdr) (i : Nat) : (s.started h).sourceMode i = s.sourceMode i := by
  rw [s.started_eq h]; rfl
@[simp] theorem State.sourceResponse_started (s : State) (h : Hdr) (i : Nat) : (s.started h).sourceResponse i = s.sourceResponse i := by
  rw [s.started_eq h]; rfl
@[simp] theorem State.sourceCount_started (s : State) (h : Hdr) (i : Nat) : (s.started h).sourceCount i = s.sourceCount i := by
  rw [s.started_eq h]; rfl
@[simp] theorem State.sourceWindow_started (s : State) (h : Hdr) (i : Nat) : (s.started h).sourceWindow i = s.sourceWindow i := by
  rw [s.started_eq h]; rfl
@[simp] theorem State.platformHeld_started (s : State) (h : Hdr) : (s.started h).platformHeld = s.platformHeld := by
  rw [s.started_eq h]; rfl
@[simp] theorem State.slotMatches_started (s : State) (h : Hdr) (n : Nat) : (s.started h).slotMatches n = s.slotMatches n := by
  rw [s.started_eq h]; rfl
@[simp] theorem State.slotCleared_started (s : State) (h : Hdr) (n : Nat) : (s.started h).slotCleared n = s.slotCleared n := by
  rw [s.started_eq h]; rfl
@[simp] theorem State.isReleased_started (s : State) (h : Hdr) (n : Nat) : (s.started h).isReleased n = s.isReleased n := by
  rw [s.started_eq h]; rfl
@[simp] theorem State.portReleased_started (s : State) (h : Hdr) (p : Nat) : (s.started h).portReleased p = s.portReleased p := by
  rw [s.started_eq h]; rfl
@[simp] theorem State.recoveryEnabled_started (s : State) (h : Hdr) (n : Nat) (recordFlags : Nat) : (s.started h).recoveryEnabled n recordFlags = s.recoveryEnabled n recordFlags := by
  rw [s.started_eq h]; rfl
@[simp] theorem State.slotIsolated_started (s : State) (h : Hdr) (n : Nat) : (s.started h).slotIsolated n = s.slotIsolated n := by
  rw [s.started_eq h]; rfl
@[simp] theorem State.slotPorts_started (s : State) (h : Hdr) (n : Nat) : (s.started h).slotPorts n = s.slotPorts n := by
  rw [s.started_eq h]; rfl
@[simp] theorem State.coupledRound_started (s : State) (h : Hdr) (l : List Nat) : (s.started h).coupledRound l = s.coupledRound l := by
  rw [s.started_eq h]; rfl
@[simp] theorem State.restoreHeld_started (s : State) (h : Hdr) (n : Nat) (x : Slot) : (s.started h).restoreHeld n x = s.restoreHeld n x := by
  rw [s.started_eq h]; rfl
@[simp] theorem State.waitsDependency_started (s : State) (h : Hdr) (n : Nat) : (s.started h).waitsDependency n = s.waitsDependency n := by
  rw [s.started_eq h]; rfl
@[simp] theorem State.edgeMet_started (s : State) (h : Hdr) (e : EdgeRec) : (s.started h).edgeMet e = s.edgeMet e := by
  rw [s.started_eq h]; rfl
@[simp] theorem State.edgesMet_started (s : State) (h : Hdr) (n : Nat) : (s.started h).edgesMet n = s.edgesMet n := by
  rw [s.started_eq h]; rfl
@[simp] theorem State.prereqWaits_started (s : State) (h : Hdr) (n : Nat) : (s.started h).prereqWaits n = s.prereqWaits n := by
  rw [s.started_eq h]; rfl
@[simp] theorem State.readySlot_started (s : State) (h : Hdr) (n : Nat) : (s.started h).readySlot n = s.readySlot n := by
  rw [s.started_eq h]; rfl
@[simp] theorem State.heldNow_started (s : State) (h : Hdr) (n : Nat) : (s.started h).heldNow n = s.heldNow n := by
  rw [s.started_eq h]; rfl
@[simp] theorem State.triggerDue_started (s : State) (h : Hdr) (n : Nat) : (s.started h).triggerDue n = s.triggerDue n := by
  rw [s.started_eq h]; rfl
@[simp] theorem State.mayRelease_started (s : State) (h : Hdr) (n : Nat) : (s.started h).mayRelease n = s.mayRelease n := by
  rw [s.started_eq h]; rfl
@[simp] theorem State.armsAtRelease_started (s : State) (h : Hdr) (n : Nat) : (s.started h).armsAtRelease n = s.armsAtRelease n := by
  rw [s.started_eq h]; rfl
@[simp] theorem State.strSlot_started (s : State) (h : Hdr) (i : Nat) : (s.started h).strSlot i = s.strSlot i := by
  rw [s.started_eq h]; rfl
@[simp] theorem State.busStrings_started (s : State) (h : Hdr) (b : Nat) (e : Option Nat) : (s.started h).busStrings b e = s.busStrings b e := by
  rw [s.started_eq h]; rfl
@[simp] theorem State.attemptDue_started (s : State) (h : Hdr) (b : Nat) : (s.started h).attemptDue b = s.attemptDue b := by
  rw [s.started_eq h]; rfl
@[simp] theorem State.pgLate_started (s : State) (h : Hdr) (n : Nat) : (s.started h).pgLate n = s.pgLate n := by
  rw [s.started_eq h]; rfl
@[simp] theorem State.slotLevels_started (s : State) (h : Hdr) (n : Nat) : (s.started h).slotLevels n = s.slotLevels n := by
  rw [s.started_eq h]; rfl
@[simp] theorem State.slotWord_started (s : State) (h : Hdr) (n : Nat) : (s.started h).slotWord n = s.slotWord n := by
  rw [s.started_eq h]; rfl
@[simp] theorem State.slotCommand_started (s : State) (h : Hdr) (n : Nat) (states : List SlotState) : (s.started h).slotCommand n states = s.slotCommand n states := by
  rw [s.started_eq h]; rfl
@[simp] theorem State.dependencyUnmet_started (s : State) (h : Hdr) (n : Nat) : (s.started h).dependencyUnmet n = s.dependencyUnmet n := by
  rw [s.started_eq h]; rfl
@[simp] theorem State.mctpUp_started (s : State) (h : Hdr) (binding : Nat) : (s.started h).mctpUp binding = s.mctpUp binding := by
  rw [s.started_eq h]; rfl
@[simp] theorem State.eid_started (s : State) (h : Hdr) (binding : Nat) : (s.started h).eid binding = s.eid binding := by
  rw [s.started_eq h]; rfl
@[simp] theorem State.connOf_started (s : State) (h : Hdr) (p : Peer) : (s.started h).connOf p = s.connOf p := by
  rw [s.started_eq h]; rfl
@[simp] theorem State.sessOf_started (s : State) (h : Hdr) (p : Peer) : (s.started h).sessOf p = s.sessOf p := by
  rw [s.started_eq h]; rfl
@[simp] theorem State.gate_started (s : State) (h : Hdr) (p : Peer) (req : Bytes) (stage : Nat) : (s.started h).gate p req stage = s.gate p req stage := by
  rw [s.started_eq h]; rfl
@[simp] theorem State.gateBody_started (s : State) (h : Hdr) (p : Peer) (req : Bytes) (inside outside : Bool) : (s.started h).gateBody p req inside outside = s.gateBody p req inside outside := by
  rw [s.started_eq h]; rfl
@[simp] theorem State.slotCerts_started (s : State) (h : Hdr) (slot : Nat) : (s.started h).slotCerts slot = s.slotCerts slot := by
  rw [s.started_eq h]; rfl
@[simp] theorem State.certChain_started (s : State) (h : Hdr) (slot : Nat) : (s.started h).certChain slot = s.certChain slot := by
  rw [s.started_eq h]; rfl
@[simp] theorem State.slotMask_started (s : State) (h : Hdr) : (s.started h).slotMask = s.slotMask := by
  rw [s.started_eq h]; rfl
@[simp] theorem State.noSigning_started (s : State) (h : Hdr) : (s.started h).noSigning = s.noSigning := by
  rw [s.started_eq h]; rfl
@[simp] theorem State.signsLater_started (s : State) (h : Hdr) : (s.started h).signsLater = s.signsLater := by
  rw [s.started_eq h]; rfl
@[simp] theorem State.spdmSign_started (s : State) (h : Hdr) (version : Nat) (context : String) (m : Bytes) : (s.started h).spdmSign version context m = s.spdmSign version context m := by
  rw [s.started_eq h]; rfl
@[simp] theorem State.boundThen_started (s : State) (h : Hdr) (d : Nat) : (s.started h).boundThen d = s.boundThen d := by
  rw [s.started_eq h]; rfl
@[simp] theorem State.measurement_started (s : State) (h : Hdr) (i : Nat) : (s.started h).measurement i = s.measurement i := by
  rw [s.started_eq h]; rfl
@[simp] theorem State.blocksPresent_started (s : State) (h : Hdr) : (s.started h).blocksPresent = s.blocksPresent := by
  rw [s.started_eq h]; rfl
@[simp] theorem State.summary_started (s : State) (h : Hdr) (t : Nat) : (s.started h).summary t = s.summary t := by
  rw [s.started_eq h]; rfl
@[simp] theorem State.ownerChain_started (s : State) (h : Hdr) (data : Bytes) : (s.started h).ownerChain data = s.ownerChain data := by
  rw [s.started_eq h]; rfl
@[simp] theorem State.evidenceNext_started (s : State) (h : Hdr) : (s.started h).evidenceNext = s.evidenceNext := by
  rw [s.started_eq h]; rfl
@[simp] theorem State.underTest_started (s : State) (h : Hdr) (i : Nat) : (s.started h).underTest i = s.underTest i := by
  rw [s.started_eq h]; rfl
@[simp] theorem State.sampledNow_started (s : State) (h : Hdr) : (s.started h).sampledNow = s.sampledNow := by
  rw [s.started_eq h]; rfl
@[simp] theorem State.meshDriven_started (s : State) (h : Hdr) : (s.started h).meshDriven = s.meshDriven := by
  rw [s.started_eq h]; rfl
@[simp] theorem State.sampleFails_started (s : State) (h : Hdr) (meshReturn switches : Nat) (shieldBroken : Bool) (i : Nat) : (s.started h).sampleFails meshReturn switches shieldBroken i = s.sampleFails meshReturn switches shieldBroken i := by
  rw [s.started_eq h]; rfl
@[simp] theorem State.testFails_started (s : State) (h : Hdr) (meshReturn switches : Nat) (shieldBroken : Bool) (i : Nat) : (s.started h).testFails meshReturn switches shieldBroken i = s.testFails meshReturn switches shieldBroken i := by
  rw [s.started_eq h]; rfl
@[simp] theorem State.tamperStatusWord_started (s : State) (h : Hdr) : (s.started h).tamperStatusWord = s.tamperStatusWord := by
  rw [s.started_eq h]; rfl
@[simp] theorem State.sourceMask_started (s : State) (h : Hdr) (p : Source → Bool) : (s.started h).sourceMask p = s.sourceMask p := by
  rw [s.started_eq h]; rfl
@[simp] theorem State.evidenceWord_started (s : State) (h : Hdr) : (s.started h).evidenceWord = s.evidenceWord := by
  rw [s.started_eq h]; rfl
@[simp] theorem State.tamperWords_started (s : State) (h : Hdr) : (s.started h).tamperWords = s.tamperWords := by
  rw [s.started_eq h]; rfl
@[simp] theorem State.tamperSrcWord_started (s : State) (h : Hdr) (i : Nat) : (s.started h).tamperSrcWord i = s.tamperSrcWord i := by
  rw [s.started_eq h]; rfl
@[simp] theorem State.committedQuench_started (s : State) (h : Hdr) (i : Nat) : (s.started h).committedQuench i = s.committedQuench i := by
  rw [s.started_eq h]; rfl
@[simp] theorem State.ownerSource_started (s : State) (h : Hdr) (src : Src) : (s.started h).ownerSource src = s.ownerSource src := by
  rw [s.started_eq h]; rfl
@[simp] theorem State.slewPpm_started (s : State) (h : Hdr) : (s.started h).slewPpm = s.slewPpm := by
  rw [s.started_eq h]; rfl
@[simp] theorem State.stepLimit_started (s : State) (h : Hdr) : (s.started h).stepLimit = s.stepLimit := by
  rw [s.started_eq h]; rfl
@[simp] theorem State.timeFlags_started (s : State) (h : Hdr) : (s.started h).timeFlags = s.timeFlags := by
  rw [s.started_eq h]; rfl
@[simp] theorem State.stepOffset_started (s : State) (h : Hdr) (w : Int) (d : Nat) : (s.started h).stepOffset w d = s.stepOffset w d := by
  rw [s.started_eq h]; rfl
@[simp] theorem State.stepReference_started (s : State) (h : Hdr) : (s.started h).stepReference = s.stepReference := by
  rw [s.started_eq h]; rfl
@[simp] theorem State.stepRefusal_started (s : State) (h : Hdr) (x : Int) (force : Bool) : (s.started h).stepRefusal x force = s.stepRefusal x force := by
  rw [s.started_eq h]; rfl
@[simp] theorem State.hwChan_started (s : State) (h : Hdr) (n : Nat) : (s.started h).hwChan n = s.hwChan n := by
  rw [s.started_eq h]; rfl
@[simp] theorem State.fraction_started (s : State) (h : Hdr) (n : Nat) : (s.started h).fraction n = s.fraction n := by
  rw [s.started_eq h]; rfl
@[simp] theorem State.chanRec_started (s : State) (h : Hdr) (n : Nat) : (s.started h).chanRec n = s.chanRec n := by
  rw [s.started_eq h]; rfl
@[simp] theorem State.chanPeriod_started (s : State) (h : Hdr) (n : Nat) (r : Bytes) : (s.started h).chanPeriod n r = s.chanPeriod n r := by
  rw [s.started_eq h]; rfl
@[simp] theorem State.chanFirst_started (s : State) (h : Hdr) (n : Nat) (r : Bytes) : (s.started h).chanFirst n r = s.chanFirst n r := by
  rw [s.started_eq h]; rfl
@[simp] theorem State.chanEmber_started (s : State) (h : Hdr) (n : Nat) (c : Channel) : (s.started h).chanEmber n c = s.chanEmber n c := by
  rw [s.started_eq h]; rfl
@[simp] theorem State.chanStopped_started (s : State) (h : Hdr) (n : Nat) (c : Channel) : (s.started h).chanStopped n c = s.chanStopped n c := by
  rw [s.started_eq h]; rfl
@[simp] theorem State.backup_started (s : State) (h : Hdr) (n : Nat) (c : Channel) : (s.started h).backup n c = s.backup n c := by
  rw [s.started_eq h]; rfl
@[simp] theorem State.remainingMs_started (s : State) (h : Hdr) (n : Nat) : (s.started h).remainingMs n = s.remainingMs n := by
  rw [s.started_eq h]; rfl
@[simp] theorem State.chanWord0_started (s : State) (h : Hdr) (n : Nat) : (s.started h).chanWord0 n = s.chanWord0 n := by
  rw [s.started_eq h]; rfl
@[simp] theorem State.chanWord1_started (s : State) (h : Hdr) (n : Nat) : (s.started h).chanWord1 n = s.chanWord1 n := by
  rw [s.started_eq h]; rfl
@[simp] theorem State.armedChannels_started (s : State) (h : Hdr) : (s.started h).armedChannels = s.armedChannels := by
  rw [s.started_eq h]; rfl
@[simp] theorem State.iwdEmber_started (s : State) (h : Hdr) : (s.started h).iwdEmber = s.iwdEmber := by
  rw [s.started_eq h]; rfl

end Sys2Proof.Machine
end

