-- ==== Sys2Proof/Tests/Slice0.lean ====
section
/-! SUPPORT. Tests: ill-formed commands that WellFormed refuses, single steps worked by hand from the spec, and for every
statement states and operands that meet what it assumes. -/
namespace Sys2Proof.Tests
open Sys2Proof Sys2Proof.Machine
set_option Elab.async false
set_option maxRecDepth 100000

/-- Ready, from one evaluation. -/
theorem ready {s : State} {h : Hdr} {op : Op}
    (e : (s.takes h op && (s.admission h op true == 0) && !s.islandStopped op.island) = true) : Ready s h op := by
  simp only [Bool.and_eq_true, beq_iff_eq, Bool.not_eq_true'] at e
  exact ⟨e.1.1, e.1.2, e.2⟩

/-- A running device with no policy, command 1 in flight on queue 0. -/
def w : State :=
  { boot := { pwrOk := true, guardUp := true, controlUp := true, forgeUp := true, reached := true, imageUp := true, imageOp := true, phase := .noPolicy, perst := false }
    spn := { domains := 80, clockRunning := 0x7E, inReset := 0, temper := .tracking, vcoreMv := 750 }
    cme := { queues := [(0, { state := .opened, version := 0x12, flights := [{ cid := 1 }] })] }
    cru := { d0 := { generating := true }, d1 := { generating := true }, entropy := .good }
    emb := { dmt := 10 ^ 12, ramBad := false } }

/-- w with this update in progress. -/
def wu (u : Update) : State := { w with boot := { w.boot with update := some u } }

/-- An operation of a recovery that writes blocks. -/
def recovering : RfuOp := { position := some 0, phase := .write }

/-- The header of command 1 on queue 0. -/
def hq : Hdr := { src := .pcie 0, cid := 1 }

/-- The header of a command with a long result. -/
def hl : Hdr := { src := .pcie 0, cid := 1, resultAddr := 4096 }

/-- A running device under a policy image of these sections, with queue 0 granted to function 0 as OWNER. -/
def wp (secs : Tab Bytes) : State :=
  { w with boot := { w.boot with phase := .operational }
           pol := { slot0 := some { sections := secs.set 0x20 [] (zeros 64 ++ [0, 3, 1, 1, 12, 1, 0, 0]) }, committed := some 0
                    loaded := true, epoch := 1 } }

/-- A policy of three slots: slot 0 with a RESET string, a power-good input and device 0, slot 1 after it by an edge of these
flags, and slot 2 alone. -/
def wsWith (flags : Nat) : State :=
  wp [(0x10, 1 :: zeros 15 ++ 3 :: 1 :: zeros 14), (0x11, 1 :: 0x80 :: zeros 6 ++ 1 :: zeros 7 ++ 1 :: zeros 7), (0x12, 1 :: zeros 3),
      (0x13, 0 :: 1 :: byte flags :: zeros 5 ++ [0xE8, 3, 0, 0])]

/-- The policy of three slots with a plain edge. -/
def ws : State := wsWith 0

/-- ws with these slots. -/
def wslots (l : Tab Slot) : State := { ws with strs := { slots := l } }


/-- A bundle is incompatible with a Warden image that wants a security version above every bundle's. -/
theorem bundle_incompatible {s : State} {b : Bytes} (h : 128 < fld s.boot.runHeader 0xA 2) : s.checkBundle b ≠ none := by
  unfold State.checkBundle
  repeat' split
  all_goals first | (intro e; cases e; done) | (rename_i h1 _ _ _ _ h2; omega)

theorem pk_len (d : Bytes) : pkInLenOk 1 64 (fixLen 64 d) = true := rfl


/-- w with this context of queue 0. -/
def wq (q : Queue) : State := { w with cme := { queues := [(0, q)] } }

/-- A frame that carries one whole command message of one 64-byte entry. -/
def frame1 (type : Nat) (entry : Bytes) : Bytes := frameBytes type 7 0 true true entry

/-- w with this session on target MB0. -/
def wmb (x : Session) : State := { w with cme := { w.cme with mb0 := x } }

/-- w with this attestation state. -/
def wa (a : Attest) : State := { w with atr := a }

/-- w connected to the peer (0, 9) at version 1.2, with its certificates built and a signing key. -/
def wc : State :=
  { (wa { certsReady := true, connections := [{ binding := 0, eid := 9, stage := 2, version := 0x12 }] }) with
    cru := { w.cru with store := { attKey := [1] } } }

/-- The peer of wc outside a session, and in session n. -/
def pc (n : Option Nat := none) : Peer := { binding := 0, eid := 9, session := n }

/-- The connection of that peer. -/
def cc : Connection := { binding := 0, eid := 9, stage := 2, version := 0x12 }

/-- w with a lane in service. -/
def wl : State := { w with hma := { lanes := [(0, { state := .active })] } }

/-- wc with a lane in service. -/
def wcl : State := { wc with hma := { lanes := [(0, { state := .active })] } }

/-- The verification data of a FINISH request stand where the responder looks for them. -/
theorem finish_slice (b : Bytes) : slice ([0x12, 0xE5, 0, 0] ++ verifyData [] "requester" b) 4 48 = verifyData [] "requester" b := by
  have h : (verifyData [] "requester" b).length = 48 := by simp [verifyData]
  exact (congrArg (fixLen · (verifyData [] "requester" b)) h.symm).trans (fixLen_self _)

/-- ws with recovery allowed for slot 0 from every transport, device 0 of one block, its journal record open, and this operation. -/
def wr (o : RfuOp) : State :=
  { wp [(0x10, 1 :: zeros 15), (0x11, 1 :: 0x80 :: zeros 6), (0x30, zeros 32 ++ [0x1F])] with
    apa := { ports := [(0, { bank0 := { profile := [0, 0, 0, 16] } })] }
    rfu := { ops := [o], journal := [(0, { state := .opened, set := [0] })] } }

/-- A manifest that stores block 0 with these leaves. -/
def man (leaves : Bytes) : Manifest := { blockMap := [1], leaves := leaves }

/-- A block's own leaf is what a manifest with that leaf wants of block 0. -/
theorem leaf_matches (b : Bytes) : leafOf b = (man (leafOf b)).leafAt 0 := by
  have h : (leafOf b).length = 32 := by simp [leafOf, leafOfSubs]
  have e : (man (leafOf b)).leafAt 0 = fixLen 32 (leafOf b) := rfl
  rw [e]
  exact ((congrArg (fixLen · (leafOf b)) h.symm).trans (fixLen_self _)).symm

/-- w with this cartridge in slot 3. -/
def wk (c : Cart) : State := { w with cby := { slots := [(3, c)] } }

/-- A property of every position above 66 from one evaluation. -/
theorem above66 {p : Nat → Bool} (h : (List.range 128).all (fun q => q ≤ 66 || !p q) = true) :
    ∀ q, 66 < q → q < 128 → p q = false := by
  intro q h1 h2
  have := List.all_eq_true.mp h q (List.mem_range.mpr h2)
  simp only [Bool.or_eq_true, decide_eq_true_eq, Bool.not_eq_true'] at this
  exact this.resolve_left (by omega)

/-- w with the tamper and time state e. -/
def we (e : Ember) : State := { w with emb := e }

/-- The channel record of queue 0, and one that also lets a register wind and warns 1 ms before. -/
def chRec (flags : Nat) : Bytes := [byte flags, 0, 0, 0, 0xE8, 3, 0, 0, 0, 0, 0, 0, 1, 0, 1, 0]

/-- w with this channel 7. -/
def wch (c : Channel) : State := { w with wwu := { channels := [(7, c)] } }

/-- w with this Logbook. -/
def wlog (l : Lgb) : State := { w with lgb := l }

/-- w with the image of serial 7 staged beside the built-in state. A commit of it binds no port (the commit itself is too long for the
kernel, so a witness takes its one outcome as a premise). -/
def wcommit : State := { w with pol := { slot0 := some { serial := 7 } } }

/-- ws with the image of serial 7 staged, and port 0 guarded under the committed one: a commit of it swaps port 0 later. -/
def wswap : State :=
  { ws with pol := { ws.pol with slot1 := some { serial := 7 } }, apa := { ports := [(0, { bank0 := { record := [1] } })] } }

/-- The update bundle's verdicts before the bundle runs need no lane, so an image that passes its checks is judged good. -/
theorem judge_bundle_none {s : State} {b : Bytes} {v : Nat} (hb : s.boot.bundleIn = false) (h : s.checkComponent 2 b = none) :
    s.judgeComponent 2 b v = (none, s) := by
  simp [State.judgeComponent, h, State.verdict, hb]

/-- An image with a manifest that does not parse is judged by no lane. -/
theorem judge_bundle_bad {s : State} {b : Bytes} {v : Nat} (h : Config.bundleEntries b = none) :
    s.judgeComponent 2 b v = (some .manifest, s) := by
  simp [State.judgeComponent, State.checkComponent, State.checkBundle, h]

/-- The start of the input of LMS_VERIFY: a key of one level of height 5 with 34 chains, and the length of its signature. -/
def lmsIn : Bytes := [0, 0, 0, 1, 0, 0, 0, 5, 0, 0, 0, 4] ++ zeros 48 ++ [0, 0, 5, 0x10]

/-- A KEY_EXCHANGE request whose peer point is the base point of P-384. -/
def keReq : Bytes := [0x12, 0xE4] ++ zeros 38 ++
  (le 48 0xaa87ca22be8b05378eb1c71ef320ad746e1d3b628ba79b9859f741e082542a385502f25dbf55296c3a545e3872760ab7).reverse ++
  (le 48 0x3617de4a96262c6f5d9e98bf9292dc29f8f41dbd289a147ce9da3113b5f0b8c00a60b1ce1d7e819d7a431d7c90ea0e5f).reverse

/-- wcl with a lane of the second cluster too. -/
def wca : State := { wc with hma := { lanes := [(0, { state := .active }), (6, { state := .active })] } }


/-! ### Well-formedness -/

/-- Operands outside their fields are refused, part 1. -/
theorem test_ill_formed_1 :
    (Instr.sessionNegotiate { hq with cid := 65536 } 0 0 0 0).wf = false ∧
    (Instr.sessionNegotiate hq 256 0 0 0).wf = false ∧
    (Instr.sessionNegotiate hq 0 256 0 0).wf = false ∧
    (Instr.sessionNegotiate hq 0 0 (2 ^ 32) 0).wf = false ∧
    (Instr.sessionNegotiate hq 0 0 0 65536).wf = false ∧
    (Instr.capabilities { hq with cid := 65536 } 0).wf = false ∧
    (Instr.capabilities hq (2 ^ 64)).wf = false ∧
    (Instr.echo { hq with cid := 65536 } 0).wf = false ∧
    (Instr.echo hq (2 ^ 64)).wf = false ∧
    (Instr.slotStatus { hq with cid := 65536 } 0 0 0).wf = false ∧
    (Instr.slotStatus hq 256 0 0).wf = false ∧
    (Instr.slotStatus hq 0 256 0).wf = false ∧
    (Instr.slotStatus hq 0 0 (2 ^ 64)).wf = false ∧
    (Instr.slotHold { hq with cid := 65536 } 0).wf = false ∧
    (Instr.slotHold hq 256).wf = false ∧
    (Instr.slotRelease { hq with cid := 65536 } 0).wf = false ∧
    (Instr.slotRelease hq 256).wf = false ∧
    (Instr.slotRecover { hq with cid := 65536 } 0).wf = false ∧
    (Instr.slotRecover hq 256).wf = false ∧
    (Instr.slotUnquarantine { hq with cid := 65536 } 0).wf = false ∧
    (Instr.slotUnquarantine hq 256).wf = false ∧
    (Instr.busRestore { hq with cid := 65536 } 0).wf = false ∧
    (Instr.busRestore hq 256).wf = false ∧
    (Instr.policyStage { hq with cid := 65536 } 0 0 [] 0).wf = false ∧
    (Instr.policyStage hq (2 ^ 32) 0 [] 0).wf = false ∧
    (Instr.policyStage hq 0 (2 ^ 64) [] 0).wf = false ∧
    (Instr.policyStage hq 0 0 [] (2 ^ 32)).wf = false ∧
    (Instr.policyCommit { hq with cid := 65536 } 0 0).wf = false ∧
    (Instr.policyCommit hq 256 0).wf = false ∧
    (Instr.policyCommit hq 0 (2 ^ 64)).wf = false ∧
    (Instr.policyDiscard { hq with cid := 65536 } 0).wf = false ∧
    (Instr.policyDiscard hq (2 ^ 64)).wf = false := by
  decide +kernel

/-- Operands outside their fields are refused, part 2. -/
theorem test_ill_formed_2 :
    (Instr.policyStatus { hq with cid := 65536 } 0).wf = false ∧
    (Instr.policyStatus hq (2 ^ 64)).wf = false ∧
    (Instr.violationCounts { hq with cid := 65536 } 0 0 0).wf = false ∧
    (Instr.violationCounts hq 65536 0 0).wf = false ∧
    (Instr.violationCounts hq 0 65536 0).wf = false ∧
    (Instr.violationCounts hq 0 0 (2 ^ 64)).wf = false ∧
    (Instr.violationReset { hq with cid := 65536 } 0).wf = false ∧
    (Instr.violationReset hq 65536).wf = false ∧
    (Instr.portStatus { hq with cid := 65536 } 0 0).wf = false ∧
    (Instr.portStatus hq 256 0).wf = false ∧
    (Instr.portStatus hq 0 (2 ^ 64)).wf = false ∧
    (Instr.portIdleWindow { hq with cid := 65536 } 0 0).wf = false ∧
    (Instr.portIdleWindow hq 256 0).wf = false ∧
    (Instr.portIdleWindow hq 0 (2 ^ 32)).wf = false ∧
    (Instr.measureStatus { hq with cid := 65536 } 0 0 0).wf = false ∧
    (Instr.measureStatus hq 256 0 0).wf = false ∧
    (Instr.measureStatus hq 0 256 0).wf = false ∧
    (Instr.measureStatus hq 0 0 (2 ^ 64)).wf = false ∧
    (Instr.leafRead { hq with cid := 65536 } 0 0 0 0).wf = false ∧
    (Instr.leafRead hq 256 0 0 0).wf = false ∧
    (Instr.leafRead hq 0 65536 0 0).wf = false ∧
    (Instr.leafRead hq 0 0 65536 0).wf = false ∧
    (Instr.leafRead hq 0 0 0 (2 ^ 64)).wf = false ∧
    (Instr.measureScan { hq with cid := 65536 } 0 0 0 0).wf = false ∧
    (Instr.measureScan hq 256 0 0 0).wf = false ∧
    (Instr.measureScan hq 0 256 0 0).wf = false ∧
    (Instr.measureScan hq 0 0 65536 0).wf = false ∧
    (Instr.measureScan hq 0 0 0 65536).wf = false ∧
    (Instr.wearRead { hq with cid := 65536 } 0 0 0 0).wf = false ∧
    (Instr.wearRead hq 256 0 0 0).wf = false ∧
    (Instr.wearRead hq 0 65536 0 0).wf = false ∧
    (Instr.wearRead hq 0 0 65536 0).wf = false := by
  decide +kernel

/-- Operands outside their fields are refused, part 3. -/
theorem test_ill_formed_3 :
    (Instr.wearRead hq 0 0 0 (2 ^ 64)).wf = false ∧
    (Instr.wearForecast { hq with cid := 65536 } 0 0).wf = false ∧
    (Instr.wearForecast hq 256 0).wf = false ∧
    (Instr.wearForecast hq 0 (2 ^ 64)).wf = false ∧
    (Instr.wearReset { hq with cid := 65536 } 0).wf = false ∧
    (Instr.wearReset hq 256).wf = false ∧
    (Instr.digestOpen { hq with cid := 65536 } 0 0 0 0 []).wf = false ∧
    (Instr.digestOpen hq 256 0 0 0 []).wf = false ∧
    (Instr.digestOpen hq 0 256 0 0 []).wf = false ∧
    (Instr.digestOpen hq 0 0 65536 0 []).wf = false ∧
    (Instr.digestOpen hq 0 0 0 (2 ^ 64) []).wf = false ∧
    (Instr.digestUpdate { hq with cid := 65536 } 0 0 0 [] []).wf = false ∧
    (Instr.digestUpdate hq 65536 0 0 [] []).wf = false ∧
    (Instr.digestUpdate hq 0 65536 0 [] []).wf = false ∧
    (Instr.digestUpdate hq 0 0 (2 ^ 64) [] []).wf = false ∧
    (Instr.digestFinish { hq with cid := 65536 } 0 0 0).wf = false ∧
    (Instr.digestFinish hq 65536 0 0).wf = false ∧
    (Instr.digestFinish hq 0 256 0).wf = false ∧
    (Instr.digestFinish hq 0 0 (2 ^ 64)).wf = false ∧
    (Instr.digestClose { hq with cid := 65536 } 0).wf = false ∧
    (Instr.digestClose hq 65536).wf = false ∧
    (Instr.pkOp { hq with cid := 65536 } 0 0 0 []).wf = false ∧
    (Instr.pkOp hq 256 0 0 []).wf = false ∧
    (Instr.pkOp hq 0 (2 ^ 32) 0 []).wf = false ∧
    (Instr.pkOp hq 0 0 (2 ^ 64) []).wf = false ∧
    (Instr.hammerStatus { hq with cid := 65536 } 0).wf = false ∧
    (Instr.hammerStatus hq (2 ^ 64)).wf = false ∧
    (Instr.hammerLaneTest { hq with cid := 65536 } 0).wf = false ∧
    (Instr.hammerLaneTest hq 256).wf = false ∧
    (Instr.receiptSign { hq with cid := 65536 } 0 0 0 0 0 0 []).wf = false ∧
    (Instr.receiptSign hq 256 0 0 0 0 0 []).wf = false ∧
    (Instr.receiptSign hq 0 256 0 0 0 0 []).wf = false := by
  decide +kernel

/-- Operands outside their fields are refused, part 4. -/
theorem test_ill_formed_4 :
    (Instr.receiptSign hq 0 0 256 0 0 0 []).wf = false ∧
    (Instr.receiptSign hq 0 0 0 (2 ^ 32) 0 0 []).wf = false ∧
    (Instr.receiptSign hq 0 0 0 0 (2 ^ 64) 0 []).wf = false ∧
    (Instr.receiptSign hq 0 0 0 0 0 (2 ^ 64) []).wf = false ∧
    (Instr.receiptBatch { hq with cid := 65536 } 0 0 0 0 0 0 0 []).wf = false ∧
    (Instr.receiptBatch hq 256 0 0 0 0 0 0 []).wf = false ∧
    (Instr.receiptBatch hq 0 256 0 0 0 0 0 []).wf = false ∧
    (Instr.receiptBatch hq 0 0 256 0 0 0 0 []).wf = false ∧
    (Instr.receiptBatch hq 0 0 0 65536 0 0 0 []).wf = false ∧
    (Instr.receiptBatch hq 0 0 0 0 (2 ^ 32) 0 0 []).wf = false ∧
    (Instr.receiptBatch hq 0 0 0 0 0 (2 ^ 64) 0 []).wf = false ∧
    (Instr.receiptBatch hq 0 0 0 0 0 0 (2 ^ 64) []).wf = false ∧
    (Instr.receiptKeys { hq with cid := 65536 } 0).wf = false ∧
    (Instr.receiptKeys hq (2 ^ 64)).wf = false ∧
    (Instr.psdRead { hq with cid := 65536 } 0).wf = false ∧
    (Instr.psdRead hq (2 ^ 64)).wf = false ∧
    (Instr.psdChanges { hq with cid := 65536 } 0 0 0).wf = false ∧
    (Instr.psdChanges hq (2 ^ 64) 0 0).wf = false ∧
    (Instr.psdChanges hq 0 65536 0).wf = false ∧
    (Instr.psdChanges hq 0 0 (2 ^ 64)).wf = false ∧
    (Instr.configDigest { hq with cid := 65536 } 0 0 0).wf = false ∧
    (Instr.configDigest hq 256 0 0).wf = false ∧
    (Instr.configDigest hq 0 (2 ^ 32) 0).wf = false ∧
    (Instr.configDigest hq 0 0 (2 ^ 64)).wf = false ∧
    (Instr.identityCerts { hq with cid := 65536 } 0 0 0).wf = false ∧
    (Instr.identityCerts hq 256 0 0).wf = false ∧
    (Instr.identityCerts hq 0 (2 ^ 32) 0).wf = false ∧
    (Instr.identityCerts hq 0 0 (2 ^ 64)).wf = false ∧
    (Instr.identityCertInstall { hq with cid := 65536 } 0 0 []).wf = false ∧
    (Instr.identityCertInstall hq (2 ^ 32) 0 []).wf = false ∧
    (Instr.identityCertInstall hq 0 (2 ^ 64) []).wf = false ∧
    (Instr.recoverStatus { hq with cid := 65536 } 0).wf = false := by
  decide +kernel

/-- Operands outside their fields are refused, part 5. -/
theorem test_ill_formed_5 :
    (Instr.recoverStatus hq (2 ^ 64)).wf = false ∧
    (Instr.recoverStage { hq with cid := 65536 } 0 0 0 0 [] 0).wf = false ∧
    (Instr.recoverStage hq 256 0 0 0 [] 0).wf = false ∧
    (Instr.recoverStage hq 0 256 0 0 [] 0).wf = false ∧
    (Instr.recoverStage hq 0 0 (2 ^ 32) 0 [] 0).wf = false ∧
    (Instr.recoverStage hq 0 0 0 (2 ^ 64) [] 0).wf = false ∧
    (Instr.recoverStage hq 0 0 0 0 [] (2 ^ 32)).wf = false ∧
    (Instr.recoverData { hq with cid := 65536 } 0 0 0 0 []).wf = false ∧
    (Instr.recoverData hq 256 0 0 0 []).wf = false ∧
    (Instr.recoverData hq 0 65536 0 0 []).wf = false ∧
    (Instr.recoverData hq 0 0 65536 0 []).wf = false ∧
    (Instr.recoverData hq 0 0 0 (2 ^ 64) []).wf = false ∧
    (Instr.recoverFull { hq with cid := 65536 } 0).wf = false ∧
    (Instr.recoverFull hq 256).wf = false ∧
    (Instr.recoverAbort { hq with cid := 65536 } 0).wf = false ∧
    (Instr.recoverAbort hq 256).wf = false ∧
    (Instr.recoverArbAdvance { hq with cid := 65536 } 0).wf = false ∧
    (Instr.recoverArbAdvance hq 256).wf = false ∧
    (Instr.cartStatus { hq with cid := 65536 } 0).wf = false ∧
    (Instr.cartStatus hq (2 ^ 64)).wf = false ∧
    (Instr.cartCatalogue { hq with cid := 65536 } 0 0 0).wf = false ∧
    (Instr.cartCatalogue hq 256 0 0).wf = false ∧
    (Instr.cartCatalogue hq 0 (2 ^ 32) 0).wf = false ∧
    (Instr.cartCatalogue hq 0 0 (2 ^ 64)).wf = false ∧
    (Instr.cartLife { hq with cid := 65536 } 0).wf = false ∧
    (Instr.cartLife hq (2 ^ 64)).wf = false ∧
    (Instr.cartEject { hq with cid := 65536 } 0).wf = false ∧
    (Instr.cartEject hq 256).wf = false ∧
    (Instr.cartRescan { hq with cid := 65536 } 0).wf = false ∧
    (Instr.cartRescan hq 256).wf = false ∧
    (Instr.lcStatus { hq with cid := 65536 }).wf = false ∧
    (Instr.cruChallenge { hq with cid := 65536 } 0).wf = false := by
  decide +kernel

/-- Operands outside their fields are refused, part 6. -/
theorem test_ill_formed_6 :
    (Instr.cruChallenge hq 256).wf = false ∧
    (Instr.lcTransition { hq with cid := 65536 } 0 0 0 [] 0).wf = false ∧
    (Instr.lcTransition hq 256 0 0 [] 0).wf = false ∧
    (Instr.lcTransition hq 0 (2 ^ 32) 0 [] 0).wf = false ∧
    (Instr.lcTransition hq 0 0 (2 ^ 64) [] 0).wf = false ∧
    (Instr.lcTransition hq 0 0 0 [] (2 ^ 32)).wf = false ∧
    (Instr.ownerKeysRead { hq with cid := 65536 } 0).wf = false ∧
    (Instr.ownerKeysRead hq (2 ^ 64)).wf = false ∧
    (Instr.ownerKeyChange { hq with cid := 65536 } 0 0 [] 0).wf = false ∧
    (Instr.ownerKeyChange hq (2 ^ 32) 0 [] 0).wf = false ∧
    (Instr.ownerKeyChange hq 0 (2 ^ 64) [] 0).wf = false ∧
    (Instr.ownerKeyChange hq 0 0 [] (2 ^ 32)).wf = false ∧
    (Instr.debugGrant { hq with cid := 65536 } 0 0 [] 0).wf = false ∧
    (Instr.debugGrant hq (2 ^ 32) 0 [] 0).wf = false ∧
    (Instr.debugGrant hq 0 (2 ^ 64) [] 0).wf = false ∧
    (Instr.debugGrant hq 0 0 [] (2 ^ 32)).wf = false ∧
    (Instr.debugEnd { hq with cid := 65536 }).wf = false ∧
    (Instr.fwStage { hq with cid := 65536 } 0 0 0 0 [] 0).wf = false ∧
    (Instr.fwStage hq 256 0 0 0 [] 0).wf = false ∧
    (Instr.fwStage hq 0 256 0 0 [] 0).wf = false ∧
    (Instr.fwStage hq 0 0 (2 ^ 32) 0 [] 0).wf = false ∧
    (Instr.fwStage hq 0 0 0 (2 ^ 64) [] 0).wf = false ∧
    (Instr.fwStage hq 0 0 0 0 [] (2 ^ 32)).wf = false ∧
    (Instr.fwActivate { hq with cid := 65536 } 0 0).wf = false ∧
    (Instr.fwActivate hq 256 0).wf = false ∧
    (Instr.fwActivate hq 0 256).wf = false ∧
    (Instr.fwStatus { hq with cid := 65536 }).wf = false ∧
    (Instr.fwArbAdvance { hq with cid := 65536 } 0 0 0).wf = false ∧
    (Instr.fwArbAdvance hq 256 0 0).wf = false ∧
    (Instr.fwArbAdvance hq 0 256 0).wf = false ∧
    (Instr.fwArbAdvance hq 0 0 256).wf = false ∧
    (Instr.rngRead { hq with cid := 65536 } 0 0).wf = false := by
  decide +kernel

/-- Operands outside their fields are refused, part 7. -/
theorem test_ill_formed_7 :
    (Instr.rngRead hq (2 ^ 32) 0).wf = false ∧
    (Instr.rngRead hq 0 (2 ^ 64)).wf = false ∧
    (Instr.otpRead { hq with cid := 65536 } 0 0 0).wf = false ∧
    (Instr.otpRead hq 65536 0 0).wf = false ∧
    (Instr.otpRead hq 0 65536 0).wf = false ∧
    (Instr.otpRead hq 0 0 (2 ^ 64)).wf = false ∧
    (Instr.timeRead { hq with cid := 65536 }).wf = false ∧
    (Instr.timeSet { hq with cid := 65536 } 0 0 0 0).wf = false ∧
    (Instr.timeSet hq (2 ^ 64) 0 0 0).wf = false ∧
    (Instr.timeSet hq 0 (2 ^ 64) 0 0).wf = false ∧
    (Instr.timeSet hq 0 0 256 0).wf = false ∧
    (Instr.timeSet hq 0 0 0 256).wf = false ∧
    (Instr.wind { hq with cid := 65536 } 0 0 0 0).wf = false ∧
    (Instr.wind hq 256 0 0 0).wf = false ∧
    (Instr.wind hq 0 256 0 0).wf = false ∧
    (Instr.wind hq 0 0 65536 0).wf = false ∧
    (Instr.wind hq 0 0 0 (2 ^ 32)).wf = false ∧
    (Instr.watchdogStatus { hq with cid := 65536 } 0 0 0).wf = false ∧
    (Instr.watchdogStatus hq 256 0 0).wf = false ∧
    (Instr.watchdogStatus hq 0 256 0).wf = false ∧
    (Instr.watchdogStatus hq 0 0 (2 ^ 64)).wf = false ∧
    (Instr.watchdogArm { hq with cid := 65536 } 0 0).wf = false ∧
    (Instr.watchdogArm hq 256 0).wf = false ∧
    (Instr.watchdogArm hq 0 256).wf = false ∧
    (Instr.tamperStatus { hq with cid := 65536 } 0).wf = false ∧
    (Instr.tamperStatus hq (2 ^ 64)).wf = false ∧
    (Instr.tamperClear { hq with cid := 65536 } 0).wf = false ∧
    (Instr.tamperClear hq (2 ^ 32)).wf = false ∧
    (Instr.tamperTest { hq with cid := 65536 } 0).wf = false ∧
    (Instr.tamperTest hq 256).wf = false ∧
    (Instr.tamperFix { hq with cid := 65536 } 0).wf = false ∧
    (Instr.tamperFix hq (2 ^ 32)).wf = false := by
  decide +kernel

/-- Operands outside their fields are refused, part 8. -/
theorem test_ill_formed_8 :
    (Instr.logStatus { hq with cid := 65536 } 0).wf = false ∧
    (Instr.logStatus hq (2 ^ 64)).wf = false ∧
    (Instr.logRead { hq with cid := 65536 } 0 0 0 0).wf = false ∧
    (Instr.logRead hq (2 ^ 64) 0 0 0).wf = false ∧
    (Instr.logRead hq 0 65536 0 0).wf = false ∧
    (Instr.logRead hq 0 0 256 0).wf = false ∧
    (Instr.logRead hq 0 0 0 (2 ^ 64)).wf = false ∧
    (Instr.logAck { hq with cid := 65536 } 0).wf = false ∧
    (Instr.logAck hq (2 ^ 64)).wf = false ∧
    (Instr.logClear { hq with cid := 65536 } 0).wf = false ∧
    (Instr.logClear hq (2 ^ 64)).wf = false ∧
    (Instr.meterStatus { hq with cid := 65536 } 0).wf = false ∧
    (Instr.meterStatus hq (2 ^ 64)).wf = false ∧
    (Instr.meterRecord { hq with cid := 65536 } 0 0 0).wf = false ∧
    (Instr.meterRecord hq (2 ^ 32) 0 0).wf = false ∧
    (Instr.meterRecord hq 0 (2 ^ 32) 0).wf = false ∧
    (Instr.meterRecord hq 0 0 (2 ^ 64)).wf = false ∧
    (Instr.meterAck { hq with cid := 65536 } 0).wf = false ∧
    (Instr.meterAck hq (2 ^ 32)).wf = false ∧
    (Instr.meterClose { hq with cid := 65536 }).wf = false ∧
    (Instr.faultStatus { hq with cid := 65536 } 0).wf = false ∧
    (Instr.faultStatus hq (2 ^ 64)).wf = false ∧
    (Instr.powerCapSet { hq with cid := 65536 } 0).wf = false ∧
    (Instr.powerCapSet hq 256).wf = false ∧
    (Instr.powerStatus { hq with cid := 65536 }).wf = false ∧
    (Instr.sqTailDoorbell 64 0 0).wf = false ∧
    (Instr.sqTailDoorbell 0 4096 0).wf = false ∧
    (Instr.sqTailDoorbell 0 0 (2 ^ 32)).wf = false ∧
    (Instr.cqHeadDoorbell 64 0 0).wf = false ∧
    (Instr.cqHeadDoorbell 0 4096 0).wf = false ∧
    (Instr.cqHeadDoorbell 0 0 (2 ^ 32)).wf = false ∧
    (Instr.queueOpen 64).wf = false := by
  decide +kernel

/-- Operands outside their fields are refused, part 9. -/
theorem test_ill_formed_9 :
    (Instr.queueClose 64).wf = false ∧
    (Instr.queueReset 64).wf = false ∧
    (Instr.wwuWindWrite 256 0).wf = false ∧
    (Instr.wwuWindWrite 0 (2 ^ 32)).wf = false ∧
    (Instr.lgbCursorWrite (2 ^ 32)).wf = false ∧
    (Instr.rcRegisterRead 64 0).wf = false ∧
    (Instr.registerLowWordRead 64 0).wf = false ∧
    (Instr.registerWrite 64 0 0).wf = false ∧
    (Instr.registerWrite 0 0 (2 ^ 32)).wf = false ∧
    (Instr.islandCrossingTimeout 64 0 none).wf = false ∧
    (Instr.domainSwitchOn 256).wf = false ∧
    (Instr.cartridgeSearch 4 []).wf = false ∧
    (Instr.bundleLoadComplete [] [] (2 ^ 18) 0).wf = false ∧
    (Instr.bundleLoadComplete [] [] 0 (2 ^ 32)).wf = false ∧
    (Instr.policyLoad (2 ^ 32)).wf = false ∧
    (Instr.certificateBuild 4096).wf = false ∧
    (Instr.perstDeassert 16 0).wf = false ∧
    (Instr.perstDeassert 0 64).wf = false ∧
    (Instr.pcieHotReset 16 0).wf = false ∧
    (Instr.pcieHotReset 0 64).wf = false ∧
    (Instr.functionLevelReset 64).wf = false ∧
    (Instr.busMasterDisable 64).wf = false ∧
    (Instr.submissionFetch 4096 []).wf = false ∧
    (Instr.hostReadFault 4096 none 0 0 []).wf = false ∧
    (Instr.hostReadFault 0 none 16 0 []).wf = false ∧
    (Instr.hostReadFault 0 none 0 (2 ^ 64) []).wf = false ∧
    (Instr.completionWrite (.pcie 4096)).wf = false ∧
    (Instr.interruptCoalesceExpiry 4096).wf = false ∧
    (Instr.asyncEventDelivery 64).wf = false ∧
    (Instr.queueCloseTimeout 4096).wf = false ∧
    (Instr.fragmentTimeout (.pcie 4096)).wf = false ∧
    (Instr.smbusBlockRead .mb0 256).wf = false := by
  decide +kernel

/-- Operands outside their fields are refused, part 10. -/
theorem test_ill_formed_10 :
    (Instr.jtagLcTransition 8).wf = false ∧
    (Instr.setEndpointId 5 0 0).wf = false ∧
    (Instr.setEndpointId 0 256 0).wf = false ∧
    (Instr.setEndpointId 0 0 256).wf = false ∧
    (Instr.getEndpointId 5).wf = false ∧
    (Instr.getEndpointUuid 5).wf = false ∧
    (Instr.getMctpVersionSupport 5 0).wf = false ∧
    (Instr.getMctpVersionSupport 0 256).wf = false ∧
    (Instr.getMessageTypeSupport 5).wf = false ∧
    (Instr.mctpUnsupportedCmd 5 0).wf = false ∧
    (Instr.mctpUnsupportedCmd 0 256).wf = false ∧
    (Instr.getVersion { pc with eid := 256 } []).wf = false ∧
    (Instr.getCapabilities { pc with eid := 256 } []).wf = false ∧
    (Instr.negotiateAlgorithms { pc with eid := 256 } []).wf = false ∧
    (Instr.getDigests { pc with eid := 256 } []).wf = false ∧
    (Instr.getCertificate { pc with eid := 256 } []).wf = false ∧
    (Instr.challenge { pc with eid := 256 } [] 0).wf = false ∧
    (Instr.challenge pc [] 16).wf = false ∧
    (Instr.getMeasurements { pc with eid := 256 } [] 0).wf = false ∧
    (Instr.getMeasurements pc [] 16).wf = false ∧
    (Instr.keyExchange { pc with eid := 256 } [] 0).wf = false ∧
    (Instr.keyExchange pc [] 16).wf = false ∧
    (Instr.finish { pc with eid := 256 } []).wf = false ∧
    (Instr.heartbeat { pc with eid := 256 } []).wf = false ∧
    (Instr.keyUpdate { pc with eid := 256 } []).wf = false ∧
    (Instr.endSession { pc with eid := 256 } []).wf = false ∧
    (Instr.spdmUnsupportedRequest { pc with eid := 256 } []).wf = false ∧
    (Instr.spdmSessionIdleTimeout (2 ^ 16)).wf = false ∧
    (Instr.queryDeviceIdentifiers { pc with eid := 256 }).wf = false ∧
    (Instr.getFirmwareParameters { pc with eid := 256 }).wf = false ∧
    (Instr.requestUpdate { pc with eid := 256 } 0 0).wf = false ∧
    (Instr.requestUpdate pc (2 ^ 32) 0).wf = false := by
  decide +kernel

/-- Operands outside their fields are refused, part 11. -/
theorem test_ill_formed_11 :
    (Instr.requestUpdate pc 0 (2 ^ 16)).wf = false ∧
    (Instr.passComponentTable { pc with eid := 256 } 0 0).wf = false ∧
    (Instr.passComponentTable pc (2 ^ 16) 0).wf = false ∧
    (Instr.passComponentTable pc 0 (2 ^ 32)).wf = false ∧
    (Instr.updateComponent { pc with eid := 256 } 0 0).wf = false ∧
    (Instr.updateComponent pc (2 ^ 16) 0).wf = false ∧
    (Instr.updateComponent pc 0 (2 ^ 32)).wf = false ∧
    (Instr.verifyComplete (2 ^ 32)).wf = false ∧
    (Instr.activateFirmware { pc with eid := 256 } false).wf = false ∧
    (Instr.getStatus { pc with eid := 256 }).wf = false ∧
    (Instr.cancelUpdateComponent { pc with eid := 256 }).wf = false ∧
    (Instr.cancelUpdate { pc with eid := 256 }).wf = false ∧
    (Instr.hostCsFall 16 0).wf = false ∧
    (Instr.hostCsFall 0 2).wf = false ∧
    (Instr.hostCsRise 16 0 0).wf = false ∧
    (Instr.hostCsRise 0 2 0).wf = false ∧
    (Instr.hostCsRise 0 0 5).wf = false ∧
    (Instr.portEpochSwap 16).wf = false ∧
    (Instr.hostIdlePoint 16 false).wf = false ∧
    (Instr.resyncPulseEnd 16).wf = false ∧
    (Instr.idleWindowEnd 16).wf = false ∧
    (Instr.idleWaitLog 16).wf = false ∧
    (Instr.hostClockStall 16).wf = false ∧
    (Instr.gapWaitExpiry 16).wf = false ∧
    (Instr.fVddioLoss 16).wf = false ∧
    (Instr.hVddioLoss 16).wf = false ∧
    (Instr.deviceScanStart 32 [] [] false).wf = false ∧
    (Instr.flashStatusPoll 32 0 false).wf = false ∧
    (Instr.flashStatusPoll 0 257 false).wf = false ∧
    (Instr.deviceScanEnd 32 [] false).wf = false ∧
    (Instr.refreshRequest 32).wf = false ∧
    (Instr.verifyRequest 32).wf = false := by
  decide +kernel

/-- Operands outside their fields are refused, part 12. -/
theorem test_ill_formed_12 :
    (Instr.flashStateRecordUpdate 32).wf = false ∧
    (Instr.releaseTrigger 256).wf = false ∧
    (Instr.stringScheduledChange 256).wf = false ∧
    (Instr.extensionTick 4).wf = false ∧
    (Instr.maxDelayExpiry 1024).wf = false ∧
    (Instr.powerGoodChange 256 false).wf = false ∧
    (Instr.powerGoodDebounce 256).wf = false ∧
    (Instr.powerGoodTimeout 256).wf = false ∧
    (Instr.expanderNak 4 0).wf = false ∧
    (Instr.expanderNak 0 32).wf = false ∧
    (Instr.expanderRetry 4 false).wf = false ∧
    (Instr.busRestoreAttempt 4 false).wf = false ∧
    (Instr.hammerOpComplete 18 false).wf = false ∧
    (Instr.knownAnswerTestDone 18 false).wf = false ∧
    (Instr.sparePromotionDone 18 false).wf = false ∧
    (Instr.lanePowerUpReady 18).wf = false ∧
    (Instr.poolRefillDone 18 false).wf = false ∧
    (Instr.operationPositionGrant 32 [] 0).wf = false ∧
    (Instr.operationPositionGrant 0 [] (2 ^ 32)).wf = false ∧
    (Instr.sourceWaitTimeout 32).wf = false ∧
    (Instr.cartridgeWaitTimeout 32).wf = false ∧
    (Instr.blockStaged 32 0 [] false).wf = false ∧
    (Instr.blockStaged 0 8192 [] false).wf = false ∧
    (Instr.blockDoneMark 32 false).wf = false ∧
    (Instr.cartridgeInsertion 4).wf = false ∧
    (Instr.ocrPoll 4 false {} 0).wf = false ∧
    (Instr.ocrPoll 0 false { preEol := 256 } 0).wf = false ∧
    (Instr.ocrPoll 0 false {} (2 ^ 32)).wf = false ∧
    (Instr.cartridgeTransferDone 4 false).wf = false ∧
    (Instr.cartridgeRemoval 4).wf = false ∧
    (Instr.cartridgeSleep 4).wf = false ∧
    (Instr.cartridgeReacquire 4 false []).wf = false := by
  decide +kernel

/-- Operands outside their fields are refused, part 13. -/
theorem test_ill_formed_13 :
    (Instr.cartridgeLifeRead 4 0 0 0).wf = false ∧
    (Instr.cartridgeLifeRead 0 256 0 0).wf = false ∧
    (Instr.cartridgeLifeRead 0 0 256 0).wf = false ∧
    (Instr.cartridgeLifeRead 0 0 0 256).wf = false ∧
    (Instr.tamperDetectorAssert 32).wf = false ∧
    (Instr.tamperSample (2 ^ 24) 0 false 0).wf = false ∧
    (Instr.tamperSample 0 256 false 0).wf = false ∧
    (Instr.tamperSample 0 0 false 4096).wf = false ∧
    (Instr.channelExpiry 256).wf = false ∧
    (Instr.preExpiryWarning 256).wf = false ∧
    (Instr.sleepGuardPass 256).wf = false ∧
    (Instr.recordClose (2 ^ 64)).wf = false ∧
    (Instr.stormClose (2 ^ 64)).wf = false ∧
    (Instr.temperEvaluation 0 (2 ^ 16) 0 0 false false 0).wf = false ∧
    (Instr.temperEvaluation 0 0 101 0 false false 0).wf = false ∧
    (Instr.temperEvaluation 0 0 0 (2 ^ 16) false false 0).wf = false ∧
    (Instr.temperEvaluation 0 0 0 0 false false 101).wf = false ∧
    (Instr.powerCapEvaluation (2 ^ 16)).wf = false ∧
    (Instr.drbgReseed 4 false).wf = false ∧
    (Instr.entropyRetry 4 false).wf = false ∧
    (Instr.challengeExpiry 9).wf = false ∧
    (Instr.blockFault 8 0 0).wf = false ∧
    (Instr.blockFault 0 100000 0).wf = false ∧
    (Instr.blockFault 0 0 256).wf = false ∧
    (Instr.hostSckEdge 16 false 0 0 false 0).wf = false ∧
    (Instr.hostSckEdge 0 false 256 0 false 0).wf = false ∧
    (Instr.hostSckEdge 0 false 0 256 false 0).wf = false ∧
    (Instr.hostSckEdge 0 false 0 0 false 5).wf = false ∧
    (Instr.vddioInRange 16 false).wf = false ∧
    (Instr.tamperDetectorDeassert 32).wf = false ∧
    (Instr.hostReadCompletion 4096 0 []).wf = false ∧
    (Instr.hostReadCompletion 0 65536 []).wf = false := by
  decide +kernel

/-- Operands outside their fields are refused, part 14. -/
theorem test_ill_formed_14 :
    (Instr.dynamicAddressAssignment .mb0 false 128).wf = false ∧
    (Instr.rcRegisterRead 0 (2 ^ 33 + 4096)).wf = false ∧
    (Instr.registerLowWordRead 0 (2 ^ 33 + 4096)).wf = false ∧
    (Instr.registerWrite 0 (2 ^ 33 + 4096) 0).wf = false ∧
    (Instr.frameReceived .mb0 [] (some 256)).wf = false ∧
    (Instr.islandCrossingTimeout 0 0 none).wf = false ∧
    (Instr.islandCrossingTimeout 0 7 none).wf = false ∧
    (Instr.islandCrossingTimeout 0 1 (some { hq with cid := 65536 })).wf = false ∧
    (Instr.hostReadFault 0 (some { hq with cid := 65536 }) 0 0 []).wf = false ∧
    (Instr.islandResetRequest 0).wf = false ∧
    (Instr.islandResetRequest 7).wf = false ∧
    (Instr.islandClockStop 0).wf = false ∧
    (Instr.islandClockStop 7).wf = false ∧
    (Instr.islandClockReturn 0).wf = false ∧
    (Instr.islandClockReturn 7).wf = false ∧
    (Instr.deviceScanEnd 0 [(8192, [])]).wf = false ∧
    (Instr.operationPositionGrant 0 [(4, [])] 0).wf = false ∧
    ({ hq with resultAddr := 2 ^ 64 } : Hdr).wf = false ∧
    ({ pc with binding := 5 } : Peer).wf = false ∧
    ({ sectors := 2 ^ 32 } : CartIdent).wf = false ∧
    ({ lifeA := 256 } : CartIdent).wf = false ∧
    ({ lifeB := 256 } : CartIdent).wf = false ∧
    ({ rpmbCounter := 2 ^ 32 } : CartIdent).wf = false := by
  decide +kernel

/-- A command whose every operand is in range is well formed. -/
theorem test_well_formed : (Instr.slotHold hq 255).wf = true ∧ (Instr.smbusBlockRead .sb0 255).wf = true := by decide +kernel

/-! ### Single steps from the spec's worked examples -/

/-- The next state of a command, for a test. -/
def after (c : Instr) (s : State) : State :=
  match exec c s with
  | .next t => t
  | _ => s

/-- No row of the table has bits, so no word spells a command. -/
theorem test_no_word_spells_a_command : decodeTableWord 8 0xFF = none := rfl

/-- ECHO returns its payload (Table 8-12): the completion carries the 8 bytes in order. -/
theorem test_echo : ((after (.echo hq 0x1122) w).queue 0).done.map (fun c => (c.cid, c.status, c.result.take 2)) =
    [(1, 0, [0x22, 0x11])] := by decide +kernel

/-- The first rise of PWR_OK counts one power cycle. -/
theorem test_first_rise : (after .pwrOkRise State.reset).emb.powerCycles = 1 ∧ (after .pwrOkRise State.reset).boot.pwrOk = true := by
  decide +kernel

/-- An idle step is one tick of the time base (log entry 2). -/
theorem test_idle_step_counts_time : (match step w with
    | .next t => t.emb.dmt
    | _ => 0) = 10 ^ 12 + 1 := by decide +kernel

/-- Q70 of chapter 08's example: depth 256, 4 sixteenths, so a level of 64. -/
def q70 : Queue := { depthLog2 := 8, version := 0x12, wm := 4, state := .opened }

/-- Its ring takes no 256th entry while 255 completions are posted, and its level is 64. -/
theorem test_ring_full : ({ q70 with cqTail := 255 } : Queue).roomToFetch = false ∧ ({ q70 with cqTail := 254 } : Queue).roomToFetch = true ∧
    q70.wmLevel = 64 := by decide +kernel

/-- The doorbell that takes the outstanding entries from 63 to 64 sets the HIT bit and counts 1. -/
theorem test_watermark : ((after (.sqTailDoorbell 0 0 64) (wq { q70 with sqTail := 63 })).queue 0).wmHit = true ∧
    ((after (.sqTailDoorbell 0 0 64) (wq { q70 with sqTail := 63 })).queue 0).wmCount = 1 ∧
    ((after (.sqTailDoorbell 0 0 63) (wq q70)).queue 0).wmHit = false := by decide +kernel

/-- Channel W13 of chapter 14's example at 12,400 ms after its release, with FRACTION_13 2. -/
def w13 (c : Channel) : State :=
  { w with emb := { w.emb with dmt := 12400000 }, otp := [(114, 2 * 2 ^ 26)]
           wwu := { channels := [(13, { c with record := [3, 2, 0, 0, 0xE8, 3, 0, 0, 0x30, 0x75, 0, 0, 100, 0, 20, 0] })] } }

/-- The first wind is accepted: the next window opens at 13,150 ms and the deadline is 13,400 ms. -/
theorem test_first_wind : let t := after (.wind hq 13 0 0 0) (w13 { state := .first, deadline := 30000000 })
    (t.chan 13).turn = 1 ∧ (t.chan 13).state = .running ∧ (t.chan 13).openAt = 13150000 ∧ (t.chan 13).deadline = 13400000 := by
  decide +kernel

/-- A wind that announces 3,600 s of sleep puts W 3,600,000 ms on. -/
theorem test_sleep_wind : let t := after (.wind hq 13 1 2 3600000) (w13 { state := .running, turn := 2, deadline := 12500000 })
    (t.chan 13).turn = 3 ∧ (t.chan 13).state = .sleep ∧ (t.chan 13).deadline = 12400000 + 3600000000 := by decide +kernel

/-- TS16 of chapter 13's example, COUNT 3 in 100 ms: its third event, 64 ms after the first, trips it. -/
def ts16 (ring : List Nat) : State :=
  we { w.emb with dmt := 10080030, tamperCopy := zeros 16 ++ zeros 128 ++ [1, 11, 3, 0, 100, 0, 0, 0], sources := [(16, { ring := ring })] }

theorem test_third_event_trips : ((ts16 [10048030, 10016030]).tamperEvent 16 |>.source 16).tripped = true ∧
    ((ts16 [10016030]).tamperEvent 16 |>.source 16).tripped = false ∧
    ((ts16 [10048030, 9980029]).tamperEvent 16 |>.source 16).tripped = false := by decide +kernel

/-- The CPLD of chapter 06's example: 96 erases a day, 403 days to the alert and 611 to the rating. -/
theorem test_wear_forecast : wearRate [(30 * 86400, 41300), (0, 38420)] = 96 ∧ daysTo (100000 * 80) 41300 96 31 = 403 ∧
    daysTo (100000 * 100) 41300 96 31 = 611 := by decide +kernel

/-! ### What the statements assume is met

Where a statement assumes the verdict of a free function (a signature, a digest, an image's check), the witness takes that
verdict as its one premise, since nothing in the model gives it a value. -/

/-- What PowerLossKeepsWhatItMay assumes is met. -/
theorem witness_PowerLossKeepsWhatItMay :
    (∃ s : State, s.boot.pwrOk = true) ∧
    (∃ s : State, s.boot.pwrOk = false) ∧
    (∃ s : State, (s.boot.fallAt = none ∨ ∃ d, s.boot.fallAt = some d ∧ d + 50 ≤ s.now) ∧ s.boot.pwrOk = false) ∧
    (∃ s : State, ∃ d, s.boot.pwrOk = false ∧ s.boot.fallAt = some d ∧ s.now < d + 50) ∧
    ((∃ s : State, s.boot.pwrOk = false ∧ s.boot.fallAt = none)) :=
  ⟨⟨w, by decide +kernel⟩,
   ⟨{ boot := { fallAt := some 0 }, emb := { dmt := 50 } }, by decide +kernel⟩,
   ⟨{ boot := { fallAt := some 0 }, emb := { dmt := 50 } }, Or.inr ⟨0, rfl, by decide⟩, by decide +kernel⟩,
   ⟨{ boot := { fallAt := some 0 }, emb := { dmt := 49 } }, default, by decide +kernel⟩,
   ⟨State.reset, rfl, rfl⟩⟩

/-- What StartEventsComplete assumes is met. -/
theorem witness_StartEventsComplete :
    (∃ s : State, ∃ t : State, t = { s with spn := { s.spn with domains := s.spn.domains + 1, domainAt := s.now } } ∧ s.mayPower = true ∧ s.spn.domains ≠ 53 ∧ s.spn.domains ≠ 79) ∧
    (∃ s : State, ∃ t : State, t = { s with spn := { s.spn with domains := s.spn.domains + 1, domainAt := s.now } } ∧ s.mayPower = true ∧ s.spn.domains = 53) ∧
    (∃ s : State, ∃ t : State, ∃ u : State, t = { s with spn := { s.spn with domains := s.spn.domains + 1, domainAt := s.now } } ∧ u = ({ t with boot := { t.boot with forgeUp := true } } : State).closeQuenched ∧ s.mayPower = true ∧ s.spn.domains = 79) ∧
    (∃ s : State, s.boot.pwrOk = true ∧ s.boot.guardUp = false ∧ 36 ≤ s.spn.domains) ∧
    (∃ s : State, ∃ u : State, ∃ e, u = (s.startFsp e).firstLc ∧ s.boot.pwrOk = true ∧ s.boot.imageUp = false ∧ s.boot.absent = false ∧ (s.boot.phase = .firstStage ∨ s.boot.phase = .controlRestart) ∧ u.cru.lcState = 6) ∧
    (∃ s : State, ∃ u : State, ∃ f, ∃ g, ∃ e, ∃ v : State, ∃ x : State, u = (s.startFsp e).firstLc ∧ v = (if u.firstCounters.cru.udsLocked then u.firstCounters.startEntropy false g else ((u.firstCounters.startEntropy true g).firstKeys f).openTable) ∧ x = { v with cru := { v.cru with cosignInForce := v.cru.table.cosign }, boot := { v.boot with forgeAsked := true, phase := if s.boot.phase = .firstStage then .lcComplete else .controlRestart } } ∧ s.boot.pwrOk = true ∧ s.boot.imageUp = false ∧ s.boot.absent = false ∧ (s.boot.phase = .firstStage ∨ s.boot.phase = .controlRestart) ∧ u.cru.lcState ≠ 6) ∧
    (∀ (s0 t0 : State) (c0 : Nat), s0.tryCopies [s0.boot.preferred, 1 - s0.boot.preferred] = (t0, some c0) → ∃ s : State, ∃ t : State, ∃ c, s.tryCopies [s.boot.preferred, 1 - s.boot.preferred] = (t, some c)) ∧
    (∃ s : State, ∃ t : State, s.tryCopies [s.boot.preferred, 1 - s.boot.preferred] = (t, none)) ∧
    (∃ s : State, s.boot.phase = .cartridgeSearch ∧ s.boot.searched < 3) ∧
    (∃ s : State, s.boot.phase = .cartridgeSearch ∧ s.boot.searched = 3) ∧
    (∀ (b : Bytes), b ≠ [] ∧ ({ boot := { phase := .cartridgeSearch } } : State).checkWarden b = none ∧ ({ boot := { phase := .cartridgeSearch } } : State).cartHolds 0 1 b = true → ∃ s : State, ∃ b, ∃ c, b ≠ [] ∧ s.cartHolds s.boot.searched 1 b = true ∧ s.checkWarden b = none ∧ c = searchCopy s.boot.copyA.state s.boot.copyB.state ∧ s.boot.phase = .cartridgeSearch ∧ s.boot.imageUp = false ∧ s.searchOver s.boot.searched = false) ∧
    (∀ (b : Bytes), b ≠ [] ∧ ({ boot := { phase := .cartridgeSearch, imageUp := true } } : State).checkBundle b = none ∧ ({ boot := { phase := .cartridgeSearch, imageUp := true } } : State).cartHolds 0 2 b = true → ∃ s : State, ∃ b, ∃ c, b ≠ [] ∧ s.cartHolds s.boot.searched 2 b = true ∧ s.checkBundle b = none ∧ c = searchCopy s.boot.bundleA.state s.boot.bundleB.state ∧ s.boot.phase = .cartridgeSearch ∧ s.boot.imageUp = true ∧ s.searchOver s.boot.searched = false) ∧
    (∃ s : State, s.boot.phase = .serialLoader ∧ s.boot.peerSeen = false ∧ s.boot.lastStatusFrame + 1000000 ≤ s.now) ∧
    (∃ s : State, ∃ u : State, ∃ hd, u = s.takeHeader hd ∧ s.boot.phase = .bundleLoad ∧ s.boot.imageUp = true ∧ u.nextBundle = none) ∧
    (∃ s : State, ∃ u : State, ∃ v : State, ∃ hd, ∃ bs, ∃ c, u = s.takeHeader hd ∧ v = { u with boot := { u.boot with bundleCopy := c } } ∧ s.boot.phase = .bundleLoad ∧ s.boot.imageUp = true ∧ u.nextBundle = some c ∧ readBlocks (v.blocksRead c bs) = none) ∧
    (∀ (b : Bytes) (f0 : BootCause) (s0 : State), s0.boot.phase = .bundleLoad ∧ s0.boot.imageUp = true ∧ (s0.takeHeader []).nextBundle = some 0 ∧ readBlocks (({ s0.takeHeader [] with boot := { (s0.takeHeader []).boot with bundleCopy := 0 } } : State).blocksRead 0 []) = some b ∧ ({ s0.takeHeader [] with boot := { (s0.takeHeader []).boot with bundleCopy := 0 } } : State).checkBundle b = some f0 → ∃ s : State, ∃ u : State, ∃ v : State, ∃ hd, ∃ bs, ∃ c, ∃ b, ∃ f, s.boot.phase = .bundleLoad ∧ s.boot.imageUp = true ∧ u = s.takeHeader hd ∧ u.nextBundle = some c ∧ v = { u with boot := { u.boot with bundleCopy := c } } ∧ readBlocks (v.blocksRead c bs) = some b ∧ v.checkBundle b = some f) ∧
    (∀ (b : Bytes) (s0 : State), s0.boot.phase = .bundleLoad ∧ s0.boot.imageUp = true ∧ (s0.takeHeader []).nextBundle = some 0 ∧ readBlocks (({ s0.takeHeader [] with boot := { (s0.takeHeader []).boot with bundleCopy := 0 } } : State).blocksRead 0 []) = some b ∧ ({ s0.takeHeader [] with boot := { (s0.takeHeader []).boot with bundleCopy := 0 } } : State).checkBundle b = none → ∃ s : State, ∃ u : State, ∃ v : State, ∃ hd, ∃ bs, ∃ c, ∃ b, s.boot.phase = .bundleLoad ∧ s.boot.imageUp = true ∧ u = s.takeHeader hd ∧ u.nextBundle = some c ∧ v = { u with boot := { u.boot with bundleCopy := c } } ∧ readBlocks (v.blocksRead c bs) = some b ∧ v.checkBundle b = none) ∧
    (∃ s : State, ∃ t : State, ∃ v : State, ∃ w, s.tryOwn.chooseImage w = (t, none) ∧ v = (t.builtIn .noPolicy).finishStart .noPolicy ∧ s.boot.phase = .policyLoad ∧ v.waitsLane = false) ∧
    (∀ (t : State) (k : Nat) (s0 : State) (v0 : State), s0.boot.phase = .policyLoad ∧ s0.tryOwn.chooseImage 0 = (t, some (k, true)) ∧ v0.waitsLane = false ∧ v0 = ((((t.commitRecord k true).loadPorts ((t.commitRecord k true).image.getD {})).applySections s0.tryOwn).applyStrings s0.tryOwn).loadSlots.finishStart .operational → ∃ s : State, ∃ t : State, ∃ v : State, ∃ w, ∃ k, ∃ b, ∃ u, s.boot.phase = .policyLoad ∧ v.waitsLane = false ∧ s.tryOwn.chooseImage w = (t, some (k, b)) ∧ u = (if b then t.commitRecord k true else { t with pol := { t.pol with loaded := true } }) ∧ v = (((u.loadPorts (u.image.getD {})).applySections s.tryOwn).applyStrings s.tryOwn).loadSlots.finishStart .operational) ∧
    (∃ s : State, s.boot.imageOp = true ∧ s.boot.controlUp = true ∧ s.boot.runCopy ≤ 1 ∧ (s.warden (1 - s.boot.runCopy)).state = .failed) ∧
    (∃ s : State, ∃ u : State, ∃ v : State, u = (if s.controlRuns.image.isSome then ({ s.controlRuns with boot := { s.controlRuns.boot with phase := .operational } } : State).imageOperational else { s.controlRuns.builtIn .noPolicy with boot := { s.controlRuns.boot with phase := .noPolicy } }) ∧ v = u.resumeStrings.strs.latched.foldl State.actOn { u.resumeStrings with strs := { u.resumeStrings.strs with latched := [] } } ∧ s.boot.phase = .controlRestart ∧ s.boot.imageUp = true) :=
  ⟨⟨{ w with spn := { domains := 40 } }, _, rfl, by decide +kernel⟩,
   ⟨{ w with spn := { domains := 53 } }, _, rfl, by decide +kernel⟩,
   ⟨{ w with spn := { domains := 79 }, boot := { w.boot with forgeAsked := true } }, _, _, rfl, rfl, by decide +kernel⟩,
   ⟨{ w with boot := { pwrOk := true }, spn := { domains := 36 } }, by decide +kernel⟩,
   ⟨{ boot := { pwrOk := true, phase := .firstStage }, spn := { domains := 80 }, otp := [(0, 1)] }, _, default, rfl, by decide +kernel⟩,
   ⟨{ boot := { pwrOk := true, phase := .firstStage }, spn := { domains := 80 } }, _, default, default, default, _, _, rfl, rfl, rfl, by decide +kernel⟩,
   fun s0 t0 c0 hv => ⟨s0, t0, c0, hv⟩,
   ⟨{ w with boot := { pwrOk := true } }, _, rfl⟩,
   ⟨{ boot := { phase := .cartridgeSearch, searched := 2 } }, by decide +kernel⟩,
   ⟨{ boot := { phase := .cartridgeSearch, searched := 3 } }, by decide +kernel⟩,
   fun b hv => ⟨{ boot := { phase := .cartridgeSearch } }, b, _, hv.1, hv.2.2, hv.2.1, rfl, by decide +kernel⟩,
   fun b hv => ⟨{ boot := { phase := .cartridgeSearch, imageUp := true } }, b, _, hv.1, hv.2.2, hv.2.1, rfl, by decide +kernel⟩,
   ⟨{ boot := { phase := .serialLoader }, emb := { dmt := 1000000 } }, by decide +kernel⟩,
   ⟨{ boot := { phase := .bundleLoad, imageUp := true, bundleTried := [0, 1] } }, _, [], rfl, by decide +kernel⟩,
   ⟨{ boot := { phase := .bundleLoad, imageUp := true, header := { read := true, good := true, blocksA := 1, blocksB := 1 } } }, _, _, default, [[[]]], 0, rfl, rfl, by decide +kernel⟩,
   fun b f0 s0 hv => ⟨s0, _, _, [], [], 0, b, f0, hv.1, hv.2.1, rfl, hv.2.2.1, rfl, hv.2.2.2.1, hv.2.2.2.2⟩,
   fun b s0 hv => ⟨s0, _, _, [], [], 0, b, hv.1, hv.2.1, rfl, hv.2.2.1, rfl, hv.2.2.2.1, hv.2.2.2.2⟩,
   ⟨{ boot := { phase := .policyLoad } }, State.tryOwn { boot := { phase := .policyLoad } }, _, 0, rfl, rfl, by decide +kernel⟩,
   fun t k s0 v0 hv => ⟨s0, t, v0, 0, k, true, _, hv.1, hv.2.2.1, hv.2.1, rfl, hv.2.2.2⟩,
   ⟨{ w with boot := { w.boot with runCopy := 1, copyA := { state := .failed } } }, by decide +kernel⟩,
   ⟨{ boot := { phase := .controlRestart, imageUp := true } }, _, _, rfl, rfl, by decide +kernel⟩⟩

/-- What FirmwareCommandsComplete assumes is met. -/
theorem witness_FirmwareCommandsComplete :
    (∃ s : State, ∃ h : Hdr, ∃ c, ∃ g, ∃ n, ∃ a, Ready s h (opFwStage.on (le 1 c ++ le 1 g ++ zeros 2 ++ le 4 n ++ le 8 a)) ∧ 1 ≤ c ∧ c ≤ 2 ∧ g ≤ 2 ∧ (s.boot.phase = .serialLoader ∨ s.readAddrOk h a n = true) ∧ s.islandStopped 2 = false ∧ s.boot.update.isSome = true) ∧
    (∃ s : State, ∃ h : Hdr, ∃ c, ∃ g, ∃ n, ∃ a, Ready s h (opFwStage.on (le 1 c ++ le 1 g ++ zeros 2 ++ le 4 n ++ le 8 a)) ∧ 1 ≤ c ∧ c ≤ 2 ∧ g ≤ 2 ∧ (s.boot.phase = .serialLoader ∨ s.readAddrOk h a n = true) ∧ s.islandStopped 2 = false ∧ s.boot.update = none ∧ s.stageTarget c g = none) ∧
    (∀ (d0 : Bytes), ((w.started hq).tryOwn.emptyCopy 2 1).checkComponent 2 (fixLen 9 d0) = none → ∃ s : State, ∃ h : Hdr, ∃ c, ∃ g, ∃ n, ∃ a, ∃ d, ∃ w, ∃ k, ∃ v, Ready s h (opFwStage.on (le 1 c ++ le 1 g ++ zeros 2 ++ le 4 n ++ le 8 a)) ∧ ((s.started h).tryOwn.emptyCopy c k).judgeComponent c (fixLen n (s.inputOf h (if s.boot.phase = .serialLoader then 0 else a) n d)) w = (none, v) ∧ 1 ≤ c ∧ c ≤ 2 ∧ g ≤ 2 ∧ (s.boot.phase = .serialLoader ∨ s.readAddrOk h a n = true) ∧ s.islandStopped 2 = false ∧ s.boot.update = none ∧ s.stageTarget c g = some k ∧ s.updateYields = false ∧ (s.boot.bundleIn = false ∨ s.hammerUnavailable = false) ∧ v.waitsLane = false) ∧
    (∀ (d0 : Bytes), Config.bundleEntries (fixLen 9 d0) = none → ∃ s : State, ∃ h : Hdr, ∃ c, ∃ g, ∃ n, ∃ a, ∃ d, ∃ w, ∃ k, ∃ f, ∃ v, Ready s h (opFwStage.on (le 1 c ++ le 1 g ++ zeros 2 ++ le 4 n ++ le 8 a)) ∧ ((s.started h).tryOwn.emptyCopy c k).judgeComponent c (fixLen n (s.inputOf h (if s.boot.phase = .serialLoader then 0 else a) n d)) w = (some f, v) ∧ 1 ≤ c ∧ c ≤ 2 ∧ g ≤ 2 ∧ (s.boot.phase = .serialLoader ∨ s.readAddrOk h a n = true) ∧ s.islandStopped 2 = false ∧ s.boot.update = none ∧ s.stageTarget c g = some k ∧ s.updateYields = false ∧ (s.boot.bundleIn = false ∨ s.hammerUnavailable = false) ∧ v.waitsLane = false) ∧
    (∃ s : State, ∃ h : Hdr, ∃ c, ∃ k, Ready s h (opFwActivate.on (le 1 c ++ le 1 k)) ∧ 1 ≤ c ∧ c ≤ 2 ∧ 1 ≤ k ∧ k ≤ 2 ∧ s.islandStopped 2 = false ∧ s.boot.update = none ∧ s.copyState c (k - 1) = .valid ∧ s.updateYields = false) ∧
    (∃ s : State, ∃ h : Hdr, Ready s h opFwStatus) ∧
    (∃ s : State, ∃ h : Hdr, ∃ c, ∃ v, ∃ f, Ready s h (opFwArbAdvance.on (le 1 c ++ le 1 v ++ le 1 f)) ∧ c ≤ 1 ∧ v ≤ 128 ∧ f ≤ 1 ∧ s.boot.update = none ∧ s.stranded (c + 1) v 0 = false ∧ s.stranded (c + 1) v 1 = false) ∧
    (∃ s : State, ∃ h : Hdr, ∃ c, ∃ v, ∃ f, ∃ k, Ready s h (opFwArbAdvance.on (le 1 c ++ le 1 v ++ le 1 f)) ∧ c ≤ 1 ∧ v ≤ 128 ∧ f ≤ 1 ∧ s.boot.update = none ∧ k ≤ 1 ∧ s.stranded (c + 1) v k = true ∧ s.stranded (c + 1) v (1 - k) = false ∧ k ≠ s.preferredCopy (c + 1) ∧ f = 1) ∧
    (∃ s : State, ∃ h : Hdr, ∃ c, ∃ v, ∃ f, ∃ k, Ready s h (opFwArbAdvance.on (le 1 c ++ le 1 v ++ le 1 f)) ∧ c ≤ 1 ∧ v ≤ 128 ∧ f ≤ 1 ∧ s.boot.update = none ∧ k ≤ 1 ∧ s.stranded (c + 1) v k = true ∧ (k = s.preferredCopy (c + 1) ∨ f = 0)) :=
  ⟨⟨{ w with boot := { w.boot with update := some {} } }, hq, 2, 2, default, 1, ready (by decide +kernel), by decide +kernel⟩,
   ⟨{ w with boot := { w.boot with runCopy := 1 } }, hq, 1, 2, default, 1, ready (by decide +kernel), by decide +kernel⟩,
   fun d0 hv => ⟨w, hq, 2, 2, 9, 1, d0, 0, 1, _, ready (by decide +kernel), judge_bundle_none rfl hv, by decide +kernel⟩,
   fun d0 hv => ⟨w, hq, 2, 2, 9, 1, d0, 0, 1, .manifest, _, ready (by decide +kernel), judge_bundle_bad hv, by decide +kernel⟩,
   ⟨{ w with boot := { w.boot with copyB := { state := .valid } } }, hq, 1, 2, ready (by decide +kernel), by decide +kernel⟩,
   ⟨w, hq, ready (by decide +kernel)⟩,
   ⟨w, hq, 1, 128, 1, ready (by decide +kernel), by decide +kernel⟩,
   ⟨{ w with boot := { w.boot with copyA := { state := .valid }, preferred := 1 } }, hq, 0, 1, 1, 0, ready (by decide +kernel), by decide +kernel⟩,
   ⟨{ w with boot := { w.boot with copyA := { state := .valid } } }, hq, 0, 1, 1, 0, ready (by decide +kernel), by decide +kernel⟩⟩

/-- What UpdateAgentIsServed assumes is met. -/
theorem witness_UpdateAgentIsServed :
    (∃ s : State, s.pldmUp = true) ∧
    (∃ s : State, s.pldmUp = true ∧ s.boot.update = none) ∧
    (∃ s : State, s.pldmUp = true ∧ s.pldmUpdate = none) ∧
    (∃ s : State, ∃ u, s.pldmUp = true ∧ s.pldmUpdate = some u) ∧
    (∃ s : State, ∃ u, s.pldmUp = true ∧ s.pldmUpdate = some u ∧ u.pldm = .learn) ∧
    (∃ s : State, ∃ u, ∃ c, ∃ n, ∃ k, s.pldmUp = true ∧ s.pldmUpdate = some u ∧ u.pldm = .ready ∧ (c = 1 ∧ n ≤ 4194304 ∨ c = 2 ∧ n ≤ 3145728) ∧ 1 ≤ n ∧ s.stageTarget c 0 = some k) ∧
    (∃ s : State, ∃ u, s.pldmUp = true ∧ s.pldmUpdate = some u ∧ u.pldm = .download ∧ 0 < min u.maxTransfer (u.size - u.image.length) ∧ s.updateYields = false) ∧
    (∃ s : State, ∃ u, s.pldmUp = true ∧ s.pldmUpdate = some u ∧ u.pldm = .download ∧ s.updateYields = true) ∧
    (∃ s : State, ∃ u, s.pldmUp = true ∧ s.pldmUpdate = some u ∧ u.pldm = .download ∧ u.image.length = u.size) ∧
    (∀ (b : Bytes), (wu { via := .pldm, component := 2, pldm := .verify, image := b }).tryOwn.checkComponent 2 b = none → ∃ s : State, ∃ u, ∃ w, ∃ v, s.pldmUp = true ∧ s.pldmUpdate = some u ∧ u.pldm = .verify ∧ s.tryOwn.judgeComponent u.component u.image w = (none, v) ∧ v.waitsLane = false) ∧
    (∀ (b : Bytes), Config.bundleEntries b = none → ∃ s : State, ∃ u, ∃ w, ∃ v, ∃ f, s.pldmUp = true ∧ s.pldmUpdate = some u ∧ u.pldm = .verify ∧ s.tryOwn.judgeComponent u.component u.image w = (some f, v) ∧ v.waitsLane = false) ∧
    (∃ s : State, ∃ u, s.pldmUp = true ∧ s.pldmUpdate = some u ∧ u.pldm = .apply ∧ s.updateYields = true) ∧
    (∃ s : State, ∃ u, s.pldmUp = true ∧ s.pldmUpdate = some u ∧ u.pldm = .apply ∧ s.updateYields = false) ∧
    (∃ s : State, ∃ u, ∃ k, s.pldmUp = true ∧ s.pldmUpdate = some u ∧ u.pldm = .ready ∧ u.applied = [(1, k)]) ∧
    (∃ s : State, ∃ u, s.pldmUp = true ∧ s.pldmUpdate = some u ∧ (u.pldm = .download ∨ u.pldm = .verify ∨ u.pldm = .apply)) ∧
    (∃ s : State, ∃ u, s.boot.update = some u ∧ u.lastProgress + 600000000 ≤ s.now ∧ u.waiter = none) ∧
    (∃ s : State, ∃ u, ∃ h : Hdr, ∃ a, s.boot.update = some u ∧ u.lastProgress + 600000000 ≤ s.now ∧ u.waiter = some (h, a)) :=
  ⟨⟨w, by decide +kernel⟩,
   ⟨w, by decide +kernel⟩,
   ⟨w, by decide +kernel⟩,
   ⟨{ w with boot := { w.boot with update := some { via := .pldm } } }, { via := .pldm }, by decide +kernel⟩,
   ⟨{ w with boot := { w.boot with update := some { via := .pldm, pldm := .learn } } }, { via := .pldm, pldm := .learn }, by decide +kernel⟩,
   ⟨{ w with boot := { w.boot with update := some { via := .pldm, pldm := .ready } } }, { via := .pldm, pldm := .ready }, 2, 3145728, 0, by decide +kernel⟩,
   ⟨{ w with boot := { w.boot with update := some { via := .pldm, pldm := .download, size := 1, maxTransfer := 32 } } }, { via := .pldm, pldm := .download, size := 1, maxTransfer := 32 }, by decide +kernel⟩,
   ⟨{ wu { via := .pldm, pldm := .download } with rfu := { ops := [recovering] } }, { via := .pldm, pldm := .download }, by decide +kernel⟩,
   ⟨{ w with boot := { w.boot with update := some { via := .pldm, pldm := .download } } }, { via := .pldm, pldm := .download }, by decide +kernel⟩,
   fun b hv => ⟨wu { via := .pldm, component := 2, pldm := .verify, image := b }, { via := .pldm, component := 2, pldm := .verify, image := b }, 0, _, rfl, rfl, rfl, judge_bundle_none rfl hv, rfl⟩,
   fun b hv => ⟨wu { via := .pldm, component := 2, pldm := .verify, image := b }, { via := .pldm, component := 2, pldm := .verify, image := b }, 0, _, .manifest, rfl, rfl, rfl, judge_bundle_bad hv, rfl⟩,
   ⟨{ wu { via := .pldm, pldm := .apply } with rfu := { ops := [recovering] } }, { via := .pldm, pldm := .apply }, by decide +kernel⟩,
   ⟨{ w with boot := { w.boot with update := some { via := .pldm, pldm := .apply } } }, { via := .pldm, pldm := .apply }, by decide +kernel⟩,
   ⟨{ w with boot := { w.boot with update := some { via := .pldm, pldm := .ready, applied := [(1, 2)] } } }, { via := .pldm, pldm := .ready, applied := [(1, 2)] }, 2, by decide +kernel⟩,
   ⟨{ w with boot := { w.boot with update := some { via := .pldm, pldm := .apply } } }, { via := .pldm, pldm := .apply }, by decide +kernel⟩,
   ⟨{ w with boot := { w.boot with update := some {} } }, {}, by decide +kernel⟩,
   ⟨wu { waiter := some (hq, true) }, { waiter := some (hq, true) }, hq, true, by decide +kernel⟩⟩

/-- What SlotCommandsComplete assumes is met. -/
theorem witness_SlotCommandsComplete :
    (∃ s : State, ∃ h : Hdr, ∃ f, ∃ n, ∃ a, ∃ m, Ready s h (opSlotStatus.on (le 1 f ++ le 1 n ++ zeros 2 ++ le 8 a)) ∧ m = (if n = 0 then 256 else n) ∧ s.writeAddrOk h a = true ∧ rangeOk f m 256 = true) ∧
    (∃ s : State, ∃ h : Hdr, ∃ n, Ready s h (opSlotHold.on (le 1 n)) ∧ s.slotCommand n [.released] = 0) ∧
    (∃ s : State, ∃ h : Hdr, ∃ n, Ready s h (opSlotRelease.on (le 1 n)) ∧ s.slotCommand n [.held] = 0 ∧ s.dependencyUnmet n = true) ∧
    (∃ s : State, ∃ h : Hdr, ∃ n, Ready s h (opSlotRelease.on (le 1 n)) ∧ s.slotCommand n [.held] = 0 ∧ s.dependencyUnmet n = false) ∧
    (∃ s : State, ∃ h : Hdr, ∃ n, Ready s h (opSlotRecover.on (le 1 n)) ∧ s.slotCommand n [.released, .held] = 0 ∧ ((s.slot n).state = .held → s.slotIsolated n = false)) ∧
    (∃ s : State, ∃ h : Hdr, ∃ n, ∃ t : State, Ready s h (opSlotUnquarantine.on (le 1 n)) ∧ t = (s.started h).setSlot n .held .command false ∧ s.slotCommand n [.quarantined] = 0 ∧ (s.slot n).changedAt ≠ some s.now) ∧
    (∃ s : State, ∃ h : Hdr, ∃ b, Ready s h (opBusRestore.on (le 1 b)) ∧ b < 4 ∧ (s.xbus b).state ≠ .isolated) ∧
    (∃ s : State, ∃ h : Hdr, ∃ b, Ready s h (opBusRestore.on (le 1 b)) ∧ b < 4 ∧ (s.xbus b).state = .isolated) ∧
    (∃ s : State, ∃ h : Hdr, ∃ n, Ready s h (opSlotHold.on (le 1 n)) ∧ s.image.isSome = true ∧ (s.slot n).state = .absent) ∧
    (∃ s : State, ∃ h : Hdr, ∃ n, Ready s h (opSlotHold.on (le 1 n)) ∧ s.image.isSome = true ∧ (s.slot n).state = .held) :=
  ⟨⟨ws, hq, 255, 1, 64, _, ready (by decide +kernel), rfl, by decide +kernel⟩,
   ⟨wslots [(0, { state := .released })], hq, 0, ready (by decide +kernel), by decide +kernel⟩,
   ⟨ws, hq, 1, ready (by decide +kernel), by decide +kernel⟩,
   ⟨ws, hq, 0, ready (by decide +kernel), by decide +kernel⟩,
   ⟨wslots [(0, { state := .released })], hq, 0, ready (by decide +kernel), by decide +kernel⟩,
   ⟨wslots [(0, { state := .quarantined })], hq, 0, _, ready (by decide +kernel), rfl, by decide +kernel⟩,
   ⟨w, hq, 3, ready (by decide +kernel), by decide +kernel⟩,
   ⟨{ ws with strs := { bus3 := { state := .isolated } } }, hq, 3, ready (by decide +kernel), by decide +kernel⟩,
   ⟨wslots [(255, { state := .absent })], hq, 255, ready (by decide +kernel), by decide +kernel⟩,
   ⟨ws, hq, 0, ready (by decide +kernel), by decide +kernel⟩⟩

/-- What HoldTriggerHoldsTheSlot assumes is met. -/
theorem witness_HoldTriggerHoldsTheSlot :
    (∃ s : State, ∃ n : Nat, ∃ st : SlotState, (s.slot n).state = .released ∧ st ≠ .released) ∧
    (∃ s : State, ∃ n : Nat, ∃ st : SlotState, ∃ m, (s.slot n).state = .released ∧ st ≠ .released ∧ m ≠ n) ∧
    (∃ s : State, ∃ n : Nat, ∃ st : SlotState, ∃ p, (s.slot n).state = .released ∧ st ≠ .released ∧ s.boot.controlUp = true ∧ p ∈ s.slotOutputs n) ∧
    (∃ s : State, ∃ n : Nat, ∃ st : SlotState, (s.slot n).state = .released ∧ st ≠ .released ∧ s.boot.controlUp = false) ∧
    (∃ s : State, ∃ n : Nat, ∃ st : SlotState, (s.slot n).state = .released ∧ st ≠ .released ∧ s.boot.controlUp = false) :=
  ⟨⟨wslots [(0, { state := .released })], 0, .held, by decide +kernel⟩,
   ⟨wslots [(0, { state := .released })], 0, .recovering, 1, by decide +kernel⟩,
   ⟨wslots [(0, { state := .released })], 0, .held, (0, { role := 1 }), by decide +kernel⟩,
   ⟨{ wslots [(0, { state := .released })] with boot := { w.boot with controlUp := false } }, 0, .held, by decide +kernel⟩,
   ⟨{ wslots [(0, { state := .released })] with boot := { w.boot with controlUp := false } }, 0, .held, by decide +kernel⟩⟩

/-- What RecoveringIsLeftAlone assumes is met. -/
theorem witness_RecoveringIsLeftAlone :
    (∃ s : State, ∃ n : Nat, (s.slot n).state = .recovering) ∧
    (∃ s : State, ∃ h : Hdr, ∃ n, Ready s h (opSlotRecover.on (le 1 n)) ∧ (s.slot n).state = .recovering) :=
  ⟨⟨wslots [(0, { state := .recovering })], 0, by decide +kernel⟩,
   ⟨wslots [(0, { state := .recovering })], hq, 0, ready (by decide +kernel), by decide +kernel⟩⟩

/-- What ReleaseAndStringEventsComplete assumes is met. -/
theorem witness_ReleaseAndStringEventsComplete :
    (∃ s : State, ∃ n, (s.boot.controlUp && s.image.isSome) = true ∧ (s.considerSlot n).mayRelease n = true) ∧
    (∃ s : State, ∃ i, ∃ d, ∃ k, ∃ t, t = s.updStr i (fun x => { x with driven := true, slack := k, due := none }) ∧ i < 128 ∧ s.boot.guardUp = true ∧ (s.str i).due = some (d, k) ∧ d ≤ s.now ∧ s.strSlot i = none) ∧
    (∃ s : State, ∃ i, ∃ d, ∃ k, ∃ t, ∃ n, t = s.updStr i (fun x => { x with driven := true, slack := k, due := none }) ∧ i < 128 ∧ s.boot.guardUp = true ∧ (s.str i).due = some (d, k) ∧ d ≤ s.now ∧ s.strSlot i = some n) ∧
    (∃ s : State, ∃ b, b < 4 ∧ s.boot.guardUp = true ∧ s.now % s.busTick b = 0 ∧ ((s.xbus b).state = .up ∨ (s.xbus b).state = .retrying)) ∧
    (∃ s : State, ∃ b, ∃ e, b < 4 ∧ ((s.xbus b).state = .up ∨ (s.xbus b).state = .retrying) ∧ (s.xbus b).retrying e = false ∧ s.boot.guardUp = true ∧ s.expProtocol b e ≠ 0) ∧
    (∃ s : State, ∃ b, ∃ e, ∃ k, ∃ d, ∃ t, t = s.updBus b (fun x => { x with retries := min (x.retries + 1) 255 }) ∧ b < 4 ∧ (s.xbus b).state = .retrying ∧ s.boot.guardUp = true ∧ (s.xbus b).nextRetry = some (e, k, d) ∧ d ≤ s.now) ∧
    (∃ s : State, ∃ b, ∃ e, ∃ k, ∃ d, ∃ t, t = s.updBus b (fun x => { x with retries := min (x.retries + 1) 255 }) ∧ b < 4 ∧ (s.xbus b).state = .retrying ∧ s.boot.guardUp = true ∧ (s.xbus b).nextRetry = some (e, k, d) ∧ d ≤ s.now ∧ k ≠ 7) ∧
    (∃ s : State, ∃ b, ∃ e, ∃ k, ∃ d, ∃ t, t = s.updBus b (fun x => { x with retries := min (x.retries + 1) 255 }) ∧ b < 4 ∧ (s.xbus b).state = .retrying ∧ s.boot.guardUp = true ∧ (s.xbus b).nextRetry = some (e, k, d) ∧ d ≤ s.now ∧ k = 7) ∧
    (∃ s : State, ∃ b, ∃ t, t = s.updBus b (fun x => { x with waiters := [], lastRestore := s.now }) ∧ b < 4 ∧ s.attemptDue b = true) ∧
    (∃ s : State, ∃ b, ∃ t, t = s.updBus b (fun x => { x with waiters := [], lastRestore := s.now }) ∧ b < 4 ∧ s.attemptDue b = true ∧ (s.xbus b).comingUp = false) ∧
    (∃ s : State, ∃ b, ∃ t, t = s.updBus b (fun x => { x with waiters := [], lastRestore := s.now }) ∧ b < 4 ∧ s.attemptDue b = true ∧ (s.xbus b).comingUp = true) ∧
    (∃ s : State, ∃ i, ∃ v, s.boot.guardUp = true ∧ (s.str i).input ≠ v ∧ i < 128) ∧
    (∃ s : State, ∃ i, ∃ v, s.boot.guardUp = true ∧ (s.str i).input ≠ v ∧ 128 ≤ i ∧ i < 256) ∧
    (∃ s : State, ∃ i, ∃ e, e = s.strEntry i ∧ i < 256 ∧ e.role = 3 ∧ s.boot.guardUp = true ∧ (s.str i).since + e.offsetB ≤ s.now ∧ ((s.str i).sampled == e.high) = false ∧ (s.str i).accepted = true) ∧
    (∃ s : State, ∃ i, ∃ e, ∃ t, e = s.strEntry i ∧ t = (s.updStr i (fun x => { x with accepted := true })).updStr i (fun x => { x with pgSeen := x.pgSeen || s.isReleased e.target }) ∧ i < 256 ∧ e.role = 3 ∧ s.boot.guardUp = true ∧ (s.str i).since + e.offsetB ≤ s.now ∧ ((s.str i).sampled == e.high) = true ∧ (s.str i).accepted = false) ∧
    (∃ s : State, ∃ n, ∃ i, s.pgLate n = some i ∧ s.isReleased n = true ∧ s.boot.guardUp = true) ∧
    (∃ s : State, ∃ i, ∃ j, ∃ e, ∃ t, t = s.updEdge i (fun x => { x with misses := (s.edgeMem i).misses + 1, acted := some (s.slot e.src).lastDone }) ∧ s.edges.find? (fun p => p.1 == i) = some (j, e) ∧ s.boot.controlUp = true ∧ e.maxDelay ≠ 0xFFFFFFFF ∧ (s.slot e.src).state = .released ∧ (s.slot e.src).completed = true ∧ (s.edgeMem i).met ≠ some (s.slot e.src).lastDone ∧ (s.edgeMem i).acted ≠ some (s.slot e.src).lastDone ∧ (s.slot e.src).lastDone + e.maxDelay ≤ s.now ∧ e.maxAction = 0) ∧
    (∃ s : State, ∃ i, ∃ j, ∃ e, ∃ t, t = s.updEdge i (fun x => { x with misses := (s.edgeMem i).misses + 1, acted := some (s.slot e.src).lastDone }) ∧ s.edges.find? (fun p => p.1 == i) = some (j, e) ∧ s.boot.controlUp = true ∧ e.maxDelay ≠ 0xFFFFFFFF ∧ (s.slot e.src).state = .released ∧ (s.slot e.src).completed = true ∧ (s.edgeMem i).met ≠ some (s.slot e.src).lastDone ∧ (s.edgeMem i).acted ≠ some (s.slot e.src).lastDone ∧ (s.slot e.src).lastDone + e.maxDelay ≤ s.now ∧ e.maxAction = 1 ∧ (s.edgeMem i).misses < 3) :=
  ⟨⟨{ ws with strs := { slots := [(2, { cleared := true, checked := true })] } }, 2, by decide +kernel⟩,
   ⟨{ ws with strs := { strs := [(5, { due := some (10 ^ 12, true) })] } }, 5, 10 ^ 12, true, _, rfl, by decide +kernel⟩,
   ⟨{ ws with strs := { strs := [(0, { due := some (10 ^ 12, true) })] } }, 0, 10 ^ 12, true, _, 0, rfl, by decide +kernel⟩,
   ⟨{ ws with strs := { bus0 := { state := .up } } }, 0, by decide +kernel⟩,
   ⟨{ ws with strs := { bus0 := { state := .up } } }, 0, 0, by decide +kernel⟩,
   ⟨{ ws with strs := { bus0 := { state := .retrying, retry := [(0, 0, 10 ^ 12)] } } }, 0, 0, 0, 10 ^ 12, _, rfl, by decide +kernel⟩,
   ⟨{ ws with strs := { bus0 := { state := .retrying, retry := [(0, 0, 10 ^ 12)] } } }, 0, 0, 0, 10 ^ 12, _, rfl, by decide +kernel⟩,
   ⟨{ ws with strs := { bus0 := { state := .retrying, retry := [(0, 7, 10 ^ 12)] } } }, 0, 0, 7, 10 ^ 12, _, rfl, by decide +kernel⟩,
   ⟨{ ws with strs := { bus0 := { comingUp := true } } }, 0, _, rfl, by decide +kernel⟩,
   ⟨{ ws with strs := { bus0 := { state := .isolated } } }, 0, _, rfl, by decide +kernel⟩,
   ⟨{ ws with strs := { bus0 := { comingUp := true } } }, 0, _, rfl, by decide +kernel⟩,
   ⟨w, 127, true, by decide +kernel⟩,
   ⟨w, 255, true, by decide +kernel⟩,
   ⟨{ ws with strs := { strs := [(1, { accepted := true, since := 10 ^ 12 })] } }, 1, _, rfl, by decide +kernel⟩,
   ⟨{ ws with strs := { strs := [(1, { sampled := true, since := 10 ^ 12 })] } }, 1, _, _, rfl, rfl, by decide +kernel⟩,
   ⟨wslots [(0, { state := .released, trigAt := 10 ^ 12 })], 0, 1, by decide +kernel⟩,
   ⟨wslots [(0, { state := .released, completed := true, lastDone := 10 ^ 12 - 1000 })], 0, 0, { src := 0, dst := 1, maxDelay := 1000 }, _, rfl, by decide +kernel⟩,
   ⟨{ wsWith 2 with strs := { slots := [(0, { state := .released, completed := true, lastDone := 10 ^ 12 - 1000 })] } }, 0, 0, { src := 0, dst := 1, maxAction := 1, maxDelay := 1000 }, _, rfl, by decide +kernel⟩⟩

/-- What UnguardedPortsAreRefused assumes is met. -/
theorem witness_UnguardedPortsAreRefused :
    (∃ s : State, ∃ h : Hdr, ∃ p, ∃ a, Ready s h (opPortStatus.on (le 1 p ++ zeros 3 ++ le 8 a)) ∧ p < 16 ∧ s.writeAddrOk h a = true ∧ s.portDevices p = []) ∧
    (∃ s : State, ∃ h : Hdr, ∃ p, ∃ d, Ready s h (opPortIdleWindow.on (le 1 p ++ zeros 3 ++ le 4 d)) ∧ p < 16 ∧ 100 ≤ d ∧ d ≤ 1000000 ∧ s.portDevices p = []) :=
  ⟨⟨w, hq, 15, 64, ready (by decide +kernel), by decide +kernel⟩,
   ⟨w, hq, 0, 100, ready (by decide +kernel), by decide +kernel⟩⟩

/-- What PortCommandsComplete assumes is met. -/
theorem witness_PortCommandsComplete :
    (∃ s : State, ∃ h : Hdr, ∃ p, ∃ a, Ready s h (opPortStatus.on (le 1 p ++ zeros 3 ++ le 8 a)) ∧ p < 16 ∧ s.writeAddrOk h a = true ∧ s.portDevices p ≠ []) ∧
    (∃ s : State, ∃ h : Hdr, ∃ p, ∃ d, Ready s h (opPortIdleWindow.on (le 1 p ++ zeros 3 ++ le 4 d)) ∧ p < 16 ∧ 100 ≤ d ∧ d ≤ 1000000 ∧ s.portDevices p ≠ [] ∧ (s.port p).window ≠ none) ∧
    (∃ s : State, ∃ h : Hdr, ∃ p, ∃ d, Ready s h (opPortIdleWindow.on (le 1 p ++ zeros 3 ++ le 4 d)) ∧ p < 16 ∧ 100 ≤ d ∧ d ≤ 1000000 ∧ s.portDevices p ≠ [] ∧ (s.port p).window = none ∧ (s.port p).mode = .own) ∧
    (∃ s : State, ∃ h : Hdr, ∃ p, ∃ d, Ready s h (opPortIdleWindow.on (le 1 p ++ zeros 3 ++ le 4 d)) ∧ p < 16 ∧ 100 ≤ d ∧ d ≤ 1000000 ∧ s.portDevices p ≠ [] ∧ (s.port p).window = none ∧ (s.port p).mode ≠ .own ∧ s.windowWork p = false) ∧
    (∃ s : State, ∃ h : Hdr, ∃ p, ∃ d, Ready s h (opPortIdleWindow.on (le 1 p ++ zeros 3 ++ le 4 d)) ∧ p < 16 ∧ 100 ≤ d ∧ d ≤ 1000000 ∧ s.portDevices p ≠ [] ∧ (s.port p).window = none ∧ (s.port p).mode ≠ .own ∧ s.windowWork p = true) :=
  ⟨⟨ws, hq, 0, 64, ready (by decide +kernel), by decide +kernel⟩,
   ⟨{ ws with apa := { ports := [(0, { mode := .gap, window := some { hdr := hq, durationUs := 100 } })] } }, hq, 0, 100, ready (by decide +kernel), by decide +kernel⟩,
   ⟨{ ws with apa := { ports := [(0, { mode := .own })] } }, hq, 0, 100, ready (by decide +kernel), by decide +kernel⟩,
   ⟨{ ws with apa := { ports := [(0, { mode := .pass })] } }, hq, 0, 1000000, ready (by decide +kernel), by decide +kernel⟩,
   ⟨{ ws with apa := { ports := [(0, { mode := .gap })] }, fit := { scans := [{ kind := .refresh }] } }, hq, 0, 100, ready (by decide +kernel), by decide +kernel⟩⟩

/-- What HostCommandsPassThroughPorts assumes is met. -/
theorem witness_HostCommandsPassThroughPorts :
    (∃ s : State, ∃ t : State, ∃ p, ∃ k, ∃ c : HostCmd, t = s.updPort p (fun x => if k = 0 then { x with csLow0 := true } else { x with csLow1 := true }) ∧ c = { cs := k, bank := (s.port p).active, iface := ((s.port p).dev k).iface, blocked := 0, gated := (s.port p).mode == .frozen || ((s.port p).dev k).resync, startedAt := s.now, lastEdge := s.now } ∧ p < 16 ∧ k < 2 ∧ s.boot.guardUp = true ∧ (s.port p).hVddioOk = true ∧ (s.port p).mode = .own) ∧
    (∃ s : State, ∃ t : State, ∃ p, ∃ k, ∃ c : HostCmd, ∃ w, t = s.updPort p (fun x => if k = 0 then { x with csLow0 := true } else { x with csLow1 := true }) ∧ c = { cs := k, bank := (s.port p).active, iface := ((s.port p).dev k).iface, blocked := 0, gated := (s.port p).mode == .frozen || ((s.port p).dev k).resync, startedAt := s.now, lastEdge := s.now } ∧ p < 16 ∧ k < 2 ∧ s.boot.guardUp = true ∧ (s.port p).hVddioOk = true ∧ (s.port p).mode ≠ .own ∧ (s.port p).window = some w ∧ w.isOpen = true) ∧
    (∃ s : State, ∃ t : State, ∃ p, ∃ k, ∃ c : HostCmd, ∃ u, t = s.updPort p (fun x => if k = 0 then { x with csLow0 := true } else { x with csLow1 := true }) ∧ c = { cs := k, bank := (s.port p).active, iface := ((s.port p).dev k).iface, blocked := 0, gated := (s.port p).mode == .frozen || ((s.port p).dev k).resync, startedAt := s.now, lastEdge := s.now } ∧ (∀ w, (s.port p).window = some w → w.isOpen = false) ∧ p < 16 ∧ k < 2 ∧ s.boot.guardUp = true ∧ (s.port p).hVddioOk = true ∧ (s.port p).mode ≠ .own ∧ (s.port p).pulseUntil = some u) ∧
    (∃ s : State, ∃ t : State, ∃ p, ∃ k, ∃ c : HostCmd, t = s.updPort p (fun x => if k = 0 then { x with csLow0 := true } else { x with csLow1 := true }) ∧ c = { cs := k, bank := (s.port p).active, iface := ((s.port p).dev k).iface, blocked := 0, gated := (s.port p).mode == .frozen || ((s.port p).dev k).resync, startedAt := s.now, lastEdge := s.now } ∧ (∀ w, (s.port p).window = some w → w.isOpen = false) ∧ p < 16 ∧ k < 2 ∧ s.boot.guardUp = true ∧ (s.port p).hVddioOk = true ∧ (s.port p).mode ≠ .own ∧ (s.port p).pulseUntil = none) ∧
    (∃ x : Port, ∃ c : HostCmd, x.cmdOf c.cs = none ∧ (x.cmd = none ∨ x.other = none)) ∧
    (∃ s : State, ∃ p, (s.port p).hVddioOk = true ∧ (s.port p).cmd = none) ∧
    (∃ s : State, ∃ p, ∃ r, ∃ hd, ∃ fd, ∃ late, ∃ m, ∃ c : HostCmd, ∃ c' : HostCmd, ∃ t : State, c' = (s.port p).edgeCmd r hd fd late s.now c ∧ t = s.updPort p (fun x => { x with sckHigh := r, cmd := some c', other := (s.port p).other.map ((s.port p).edgeCmd r hd fd late s.now) }) ∧ (s.port p).hVddioOk = true ∧ (s.port p).cmd = some c ∧ ((m ≠ 1 ∧ m ≠ 2 ∧ m ≠ 4) ∨ c'.blocked ≠ 0)) ∧
    (∃ s : State, ∃ p, ∃ r, ∃ hd, ∃ fd, ∃ late, ∃ m, ∃ c : HostCmd, ∃ c' : HostCmd, ∃ t : State, c' = (s.port p).edgeCmd r hd fd late s.now c ∧ t = s.updPort p (fun x => { x with sckHigh := r, cmd := some c', other := (s.port p).other.map ((s.port p).edgeCmd r hd fd late s.now) }) ∧ (s.port p).hVddioOk = true ∧ (s.port p).cmd = some c ∧ (m = 1 ∨ m = 2 ∨ m = 4) ∧ c'.blocked = 0) ∧
    (∃ s : State, ∃ t : State, ∃ p, ∃ k, t = s.updPort p (fun x => if k = 0 then { x with csLow0 := false, csHighSince := s.now } else { x with csLow1 := false, csHighSince := s.now }) ∧ p < 16 ∧ k < 2 ∧ (s.port p).hVddioOk = true ∧ (s.port p).cmdOf k = none) ∧
    (∃ s : State, ∃ t : State, ∃ p, ∃ k, ∃ c, t = s.updPort p (fun x => if k = 0 then { x with csLow0 := false, csHighSince := s.now } else { x with csLow1 := false, csHighSince := s.now }) ∧ p < 16 ∧ k < 2 ∧ (s.port p).hVddioOk = true ∧ (s.port p).cmdOf k = some c) :=
  ⟨⟨{ w with apa := { ports := [(15, { mode := .own })] } }, _, 15, 1, _, rfl, rfl, by decide +kernel⟩,
   ⟨{ w with apa := { ports := [(15, { mode := .pass, window := some { hdr := hq, isOpen := true } })] } }, _, 15, 1, _, { hdr := hq, isOpen := true }, rfl, rfl, by decide +kernel⟩,
   ⟨{ w with apa := { ports := [(15, { mode := .pass, pulseUntil := some 1 })] } }, _, 15, 1, _, 1, rfl, rfl, (fun _ h => by cases h), by decide +kernel⟩,
   ⟨{ w with apa := { ports := [(15, { mode := .pass })] } }, _, 15, 1, _, rfl, rfl, (fun _ h => by cases h), by decide +kernel⟩,
   ⟨{}, {}, by decide +kernel⟩,
   ⟨w, 0, by decide +kernel⟩,
   ⟨{ w with apa := { ports := [(0, { mode := .pass, cmd := some {} })] } }, 0, true, 0, 0, false, 3, {}, _, _, rfl, rfl, by decide +kernel⟩,
   ⟨{ w with apa := { ports := [(0, { mode := .pass, cmd := some {} })] } }, 0, true, 0, 0, false, 1, {}, _, _, rfl, rfl, by decide +kernel⟩,
   ⟨{ w with apa := { ports := [(15, { mode := .pass, csLow1 := true })] } }, _, 15, 1, rfl, by decide +kernel⟩,
   ⟨{ w with apa := { ports := [(15, { mode := .pass, csLow1 := true, cmd := some { cs := 1 } })] } }, _, 15, 1, { cs := 1 }, rfl, by decide +kernel⟩⟩

/-- What ClockStallIsRecordedOnce assumes is met. -/
theorem witness_ClockStallIsRecordedOnce :
    (∃ s : State, ∃ p, ∃ c, (s.port p).cmd = some c ∧ c.stalled = false ∧ c.lastEdge + 1000000 ≤ s.now ∧ (∀ o, (s.port p).other = some o → o.stallDue s.now = false)) ∧
    (∃ s : State, ∃ p, ∃ o, (∀ c, (s.port p).cmd = some c → c.stallDue s.now = false) ∧ (s.port p).other = some o ∧ o.stalled = false ∧ o.lastEdge + 1000000 ≤ s.now) :=
  ⟨⟨{ w with apa := { ports := [(0, { mode := .pass, cmd := some { lastEdge := 10 ^ 12 - 1000000 } })] } }, 0, { lastEdge := 10 ^ 12 - 1000000 }, by decide +kernel⟩,
   ⟨{ w with apa := { ports := [(0, { mode := .pass, other := some { cs := 1, lastEdge := 10 ^ 12 - 1000000 } })] } }, 0, { cs := 1, lastEdge := 10 ^ 12 - 1000000 }, (fun _ h => by cases h), by decide +kernel⟩⟩

/-- What PortModeEventsComplete assumes is met. -/
theorem witness_PortModeEventsComplete :
    (∃ s : State, ∃ p, p < 16 ∧ s.boot.guardUp = true ∧ (s.port p).hostIdle = true ∧ (s.port p).pulseUntil = none ∧ ((s.commitPending p).port p).pulseUntil = none) ∧
    (∃ s : State, ∃ p, p < 16 ∧ s.boot.guardUp = true ∧ (s.port p).hostIdle = true ∧ (s.port p).pulseUntil = none ∧ ((s.commitPending p).port p).pulseUntil ≠ none) ∧
    (∃ s : State, ∃ p, ∃ d, (s.port p).pulseUntil = some d ∧ d ≤ s.now) ∧
    (∃ s : State, ∃ p, ∃ w, (s.port p).window = some w ∧ w.isOpen = true ∧ (w.openedAt + w.durationUs ≤ s.now ∨ s.windowWork p = false ∨ s.windowFits p = false)) ∧
    (∃ s : State, ∃ p, (s.port p).pending ≠ .none ∧ (s.port p).waitLogged = false ∧ (s.port p).pendingSince + 1000000 ≤ s.now) ∧
    (∃ s : State, ∃ p, p < 16 ∧ (s.port p).mode = .gap ∧ s.urgentWork p = true ∧ s.gapExpired p = true ∧ s.boot.controlUp = true ∧ (s.port p).pending ≠ .own) ∧
    (∃ s : State, ∃ t, ∃ p, t = s.updPort p (fun x => { x with fVddioLost := true, fVddioOk := false }) ∧ p < 16 ∧ s.boot.guardUp = true) ∧
    (∃ s : State, ∃ t, ∃ p, t = s.updPort p (fun x => { x with hVddioOk := false, csLow0 := false, csLow1 := false, csHighSince := s.now }) ∧ p < 16 ∧ s.boot.guardUp = true ∧ (s.port p).cmd = none ∧ (s.port p).other = none) ∧
    (∃ s : State, ∃ t, ∃ p, ∃ c, t = s.updPort p (fun x => { x with hVddioOk := false, csLow0 := false, csLow1 := false, csHighSince := s.now }) ∧ p < 16 ∧ s.boot.guardUp = true ∧ (s.port p).cmd = some c ∧ (s.port p).other = none) ∧
    (∃ s : State, ∃ t, ∃ p, ∃ c, ∃ o, t = s.updPort p (fun x => { x with hVddioOk := false, csLow0 := false, csLow1 := false, csHighSince := s.now }) ∧ p < 16 ∧ s.boot.guardUp = true ∧ (s.port p).cmd = some c ∧ (s.port p).other = some o) ∧
    (∃ s : State, ∃ p, p < 16 ∧ s.boot.guardUp = true) :=
  ⟨⟨w, 15, by decide +kernel⟩,
   ⟨{ w with apa := { ports := [(15, { pending := .resetPulse, dev0 := { resync := true }, bank0 := { profile := zeros 4 ++ [2] } })] } }, 15, by decide +kernel⟩,
   ⟨{ w with apa := { ports := [(0, { pulseUntil := some (10 ^ 12) })] } }, 0, 10 ^ 12, by decide +kernel⟩,
   ⟨{ w with apa := { ports := [(0, { window := some { hdr := hq, isOpen := true, durationUs := 100, openedAt := 10 ^ 12 - 100 } })] } }, 0, { hdr := hq, isOpen := true, durationUs := 100, openedAt := 10 ^ 12 - 100 }, by decide +kernel⟩,
   ⟨{ w with apa := { ports := [(0, { pending := .gap, pendingSince := 10 ^ 12 - 1000000 })] } }, 0, by decide +kernel⟩,
   ⟨{ w with apa := { ports := [(0, { mode := .gap })] }, fit := { scans := [{ kind := .check }] } }, 0, by decide +kernel⟩,
   ⟨w, _, 15, rfl, by decide +kernel⟩,
   ⟨w, _, 15, rfl, by decide +kernel⟩,
   ⟨{ w with apa := { ports := [(0, { mode := .pass, cmd := some {} })] } }, _, 0, {}, rfl, by decide +kernel⟩,
   ⟨{ w with apa := { ports := [(0, { mode := .pass, cmd := some {}, other := some { cs := 1 } })] } }, _, 0, {}, { cs := 1 }, rfl, by decide +kernel⟩,
   ⟨w, 15, by decide +kernel⟩⟩

/-- What RegionVerdictsFollowTheGranules assumes is met. -/
theorem witness_RegionVerdictsFollowTheGranules :
    (∃ c : HostCmd, ∃ b : Bank, (b.entry c.opcode).cls = 2 ∧ c.verdict = .pending) ∧
    (∃ c : HostCmd, ∃ b : Bank, ∃ x : Shadow, ∃ w : Nat, ∃ n : Nat, c.verdict = .pending ∧ (b.entry c.opcode).cls ≠ 2 ∧ n = eraseLen (b.entry c.opcode).eraseSize ∧ (c.addrVerdict b x w).verdict ≠ .allowed) :=
  ⟨⟨{ opcode := 0 }, { profile := zeros 128 ++ [2, 0, 0, 0, 0, 0, 0, 0] }, by decide +kernel⟩,
   ⟨{}, {}, {}, default, 65536, rfl, by decide +kernel⟩⟩

/-- What PolicyCommandsComplete assumes is met. -/
theorem witness_PolicyCommandsComplete :
    (∀ (d0 r0 : Bytes) (img0 : Image) (t0 : State), ({ (w.started hq).tryOwn with pol := { w.pol with staging := none } } : State).judgeImage false ((w.inputOf hq 64 9 d0).take 9) 0 = ((0, r0, img0), t0) ∧ t0.waitsLane = false → ∃ s : State, ∃ h : Hdr, ∃ n, ∃ a, ∃ d : Bytes, ∃ w, ∃ st, ∃ r, ∃ img, ∃ t, ∃ u, Ready s h (opPolicyStage.on (zeros 4 ++ le 4 n ++ le 8 a)) ∧ u = ({ (s.started h).tryOwn with pol := { s.pol with staging := none } } : State) ∧ u.judgeImage false ((s.inputOf h a n d).take n) w = ((st, r, img), t) ∧ t.waitsLane = false ∧ s.readAddrOk h a n = true ∧ (s.started h).stageLive = false ∧ s.swapping = false ∧ s.transitionPending = false ∧ st = 0) ∧
    (∀ (d0 r0 : Bytes) (img0 : Image) (t0 : State), ({ (w.started hq).tryOwn with pol := { w.pol with staging := none } } : State).judgeImage false ((w.inputOf hq 64 9 d0).take 9) 0 = ((0x541, r0, img0), t0) ∧ t0.waitsLane = false → ∃ s : State, ∃ h : Hdr, ∃ n, ∃ a, ∃ d : Bytes, ∃ w, ∃ st, ∃ r, ∃ img, ∃ t, ∃ u, Ready s h (opPolicyStage.on (zeros 4 ++ le 4 n ++ le 8 a)) ∧ u = ({ (s.started h).tryOwn with pol := { s.pol with staging := none } } : State) ∧ u.judgeImage false ((s.inputOf h a n d).take n) w = ((st, r, img), t) ∧ t.waitsLane = false ∧ s.readAddrOk h a n = true ∧ (s.started h).stageLive = false ∧ s.swapping = false ∧ s.transitionPending = false ∧ st ≠ 0) ∧
    (∃ s : State, ∃ h : Hdr, ∃ img, s.pol.writing = some (h, img)) ∧
    ((((wcommit.started hq).commitStaged { serial := 7 } ((0 : Nat).testBit 0)).settleAll).swapping = false → ∃ s : State, ∃ h : Hdr, ∃ f, ∃ n, ∃ img, ∃ u, Ready s h (opPolicyCommit.on (le 1 f ++ zeros 3 ++ le 8 n)) ∧ u = ((s.started h).commitStaged img (f.testBit 0)).settleAll ∧ u.swapping = false ∧ f < 2 ∧ s.staged = some img ∧ img.serial = n ∧ s.commitBusy img = false ∧ s.swapping = false ∧ s.transitionPending = false) ∧
    ((((wswap.started hq).commitStaged { serial := 7 } ((0 : Nat).testBit 0)).settleAll).swapping = true → ∃ s : State, ∃ h : Hdr, ∃ f, ∃ n, ∃ img, ∃ u, Ready s h (opPolicyCommit.on (le 1 f ++ zeros 3 ++ le 8 n)) ∧ u = ((s.started h).commitStaged img (f.testBit 0)).settleAll ∧ u.swapping = true ∧ f < 2 ∧ s.staged = some img ∧ img.serial = n ∧ s.commitBusy img = false ∧ s.swapping = false ∧ s.transitionPending = false) ∧
    (∃ s : State, ∃ h : Hdr, ∃ n, ∃ img, Ready s h (opPolicyDiscard.on (le 8 n)) ∧ s.staged = some img ∧ img.serial = n) ∧
    (∃ s : State, ∃ h : Hdr, ∃ a, Ready s h (opPolicyStatus.on (le 8 a)) ∧ s.writeAddrOk h a = true) ∧
    (∃ s : State, ∃ h : Hdr, ∃ f, ∃ n, ∃ a, Ready s h (opViolationCounts.on (le 2 f ++ le 2 n ++ le 8 a)) ∧ rangeOk f n 257 = true ∧ s.writeAddrOk h a = true) ∧
    (∃ s : State, ∃ h : Hdr, ∃ n, Ready s h (opViolationReset.on (le 2 n)) ∧ n ≤ 256) :=
  ⟨fun d0 r0 img0 t0 hv => ⟨w, hq, 9, 64, d0, 0, 0, r0, img0, t0, _, ready (by decide +kernel), rfl, hv.1, hv.2, by decide +kernel⟩,
   fun d0 r0 img0 t0 hv => ⟨w, hq, 9, 64, d0, 0, 0x541, r0, img0, t0, _, ready (by decide +kernel), rfl, hv.1, hv.2, by decide +kernel⟩,
   ⟨{ w with pol := { writing := some (hq, { serial := 7 }) } }, hq, { serial := 7 }, by decide +kernel⟩,
   fun hv => ⟨wcommit, hq, 0, 7, { serial := 7 }, _, ready (by decide +kernel), rfl, hv, by decide +kernel⟩,
   fun hv => ⟨wswap, hq, 0, 7, { serial := 7 }, _, ready (by decide +kernel), rfl, hv, by decide +kernel⟩,
   ⟨{ w with pol := { slot0 := some { serial := 7 } } }, hq, 7, { serial := 7 }, ready (by decide +kernel), by decide +kernel⟩,
   ⟨w, hq, 64, ready (by decide +kernel), by decide +kernel⟩,
   ⟨w, hq, 256, 1, 64, ready (by decide +kernel), by decide +kernel⟩,
   ⟨w, hq, 256, ready (by decide +kernel), by decide +kernel⟩⟩

/-- What EpochSwitchEventsComplete assumes is met. -/
theorem witness_EpochSwitchEventsComplete :
    (∃ s : State, ∃ p, p < 16 ∧ (s.port p).swapPending = true ∧ s.boot.guardUp = true ∧ ((s.port p).mode = .own ∨ (s.port p).hostIdle = true ∨ ∃ w, (s.port p).window = some w ∧ w.isOpen = true)) ∧
    (∃ s : State, ∃ h : Hdr, s.pol.waiter = some h ∧ s.pol.waitUntil ≤ s.now) ∧
    ((∃ (s : State) (p : Nat), p < 16 ∧ (s.port p).swapPending = true ∧ s.boot.guardUp = true ∧ (s.port p).mode = .pass ∧ (s.port p).hostIdle = true)) :=
  ⟨⟨{ w with apa := { ports := [(15, { swapPending := true })] } }, 15, by decide +kernel⟩,
   ⟨{ w with pol := { waiter := some hq, waitUntil := 10 ^ 12 } }, hq, by decide +kernel⟩,
   ⟨{ w with apa := { ports := [(0, { mode := .pass, swapPending := true })] } }, 0, by decide +kernel⟩⟩

/-- What FinishedContextsRestart assumes is met. -/
theorem witness_FinishedContextsRestart :
    (∃ s : State, ∃ h : Hdr, ∃ n, ∃ k, ∃ a, ∃ l, ∃ d, ∃ c, ∃ b, ∃ e, Ready s h (opDigestUpdate.on (le 2 n ++ le 2 k ++ zeros 4 ++ le 8 a)) ∧ e = descriptors k (s.inputOf h a (16 * k) l) ∧ b = fixLen (e.foldl (fun a d => a + d.2.1) 0) (s.fragments h e d) ∧ 1 ≤ k ∧ k ≤ 4096 ∧ s.readAddrOk h a (16 * k) = true ∧ descListOk e = true ∧ s.fragmentsOk h e = true ∧ (s.started h).laneFor (s.stamp h) = true ∧ (s.started h).ownContext h.src n = some c ∧ c.finished = true) :=
  ⟨{ w with bde := { contexts := [(255, some { finished := true })] } }, hq, 255, 1, 64, zeros 8 ++ [1], [], { finished := true }, _, _, ready (by decide +kernel), rfl, rfl, by decide +kernel⟩

/-- What DigestsAreFinished assumes is met. -/
theorem witness_DigestsAreFinished :
    (∃ s : State, ∃ h : Hdr, ∃ n, ∃ a, ∃ c, Ready s h (opDigestFinish.on (le 2 n ++ le 1 0 ++ zeros 5 ++ le 8 a)) ∧ s.writeAddrOk h a = true ∧ (s.started h).ownContext h.src n = some c ∧ (s.started h).laneFor (s.stamp h) = true) ∧
    (∃ s : State, ∃ h : Hdr, ∃ n, ∃ a, ∃ c, Ready s h (opDigestFinish.on (le 2 n ++ le 1 1 ++ zeros 5 ++ le 8 a)) ∧ s.writeAddrOk h a = true ∧ (s.started h).ownContext h.src n = some c ∧ (s.started h).laneFor (s.stamp h) = true) :=
  ⟨⟨{ w with bde := { contexts := [(0, some {})] } }, hq, 0, 64, {}, ready (by decide +kernel), by decide +kernel⟩,
   ⟨{ w with bde := { contexts := [(0, some {})] } }, hq, 0, 64, {}, ready (by decide +kernel), by decide +kernel⟩⟩

/-- What MeasurementCommandsComplete assumes is met. -/
theorem witness_MeasurementCommandsComplete :
    (∃ s : State, ∃ h : Hdr, ∃ f, ∃ n, ∃ a, Ready s h (opMeasureStatus.on (le 1 f ++ le 1 n ++ zeros 2 ++ le 8 a)) ∧ rangeOk f n 32 = true ∧ s.writeAddrOk h a = true) ∧
    (∃ s : State, ∃ h : Hdr, ∃ d, ∃ f, ∃ n, ∃ a, Ready s h (opLeafRead.on (le 1 d ++ zeros 1 ++ le 2 f ++ le 2 n ++ zeros 2 ++ le 8 a)) ∧ d < 32 ∧ 1 ≤ n ∧ n ≤ 8192 ∧ s.writeAddrOk h a = true ∧ s.deviceStatus d f n = 0) ∧
    (∃ s : State, ∃ h : Hdr, ∃ d, ∃ f, ∃ n, ∃ a, Ready s h (opWearRead.on (le 1 d ++ zeros 1 ++ le 2 f ++ le 2 n ++ zeros 2 ++ le 8 a)) ∧ d < 32 ∧ 1 ≤ n ∧ n ≤ 8192 ∧ s.writeAddrOk h a = true ∧ s.deviceStatus d f n = 0) ∧
    (∃ s : State, ∃ h : Hdr, ∃ d, ∃ a, ∃ ring : List (Nat × Nat), ∃ rate, ∃ last, Ready s h (opWearForecast.on (le 1 d ++ zeros 3 ++ le 8 a)) ∧ ring = s.fit.rings.get d [] ∧ rate = (if ring.length < 2 then Config.freeValue s.draws % 2 ^ 32 else wearRate ring) ∧ last = ((ring.map Prod.fst).head?).getD (Config.freeValue s.draws % 2 ^ 32) ∧ d < 32 ∧ s.writeAddrOk h a = true ∧ s.deviceValid d = true) ∧
    (∃ s : State, ∃ h : Hdr, ∃ d, ∃ k, ∃ f, ∃ n, Ready s h (opMeasureScan.on (le 1 d ++ le 1 k ++ le 2 f ++ le 2 n)) ∧ d < 32 ∧ k < 2 ∧ n ≤ 8192 ∧ s.deviceStatus d f (if n = 0 then s.deviceBlocks d else n) = 0 ∧ s.fit.scans.any (fun x => x.kind == (if k = 0 then ScanKind.refresh else .verify) && x.device == d) = false) ∧
    (∃ s : State, ∃ h : Hdr, ∃ d, Ready s h (opWearReset.on (le 1 d)) ∧ d < 32 ∧ s.deviceValid d = true) ∧
    (∃ s : State, ∃ h : Hdr, ∃ alg, ∃ k, ∃ o, ∃ a, ∃ n, Ready s h (opDigestOpen.on (le 1 alg ++ le 1 k ++ le 2 o ++ le 8 a)) ∧ (k = 0 ∨ s.readAddrOk h a k = true) ∧ digestOpenOk alg k o = true ∧ (s.started h).freeContext ((s.started h).ctxOwner h.src) = some n) ∧
    (∃ s : State, ∃ h : Hdr, ∃ n, ∃ k, ∃ a, ∃ l, ∃ d, ∃ c, ∃ b, ∃ e, Ready s h (opDigestUpdate.on (le 2 n ++ le 2 k ++ zeros 4 ++ le 8 a)) ∧ e = descriptors k (s.inputOf h a (16 * k) l) ∧ b = fixLen (e.foldl (fun a d => a + d.2.1) 0) (s.fragments h e d) ∧ 1 ≤ k ∧ k ≤ 4096 ∧ s.readAddrOk h a (16 * k) = true ∧ descListOk e = true ∧ s.fragmentsOk h e = true ∧ (s.started h).laneFor (s.stamp h) = true ∧ (s.started h).ownContext h.src n = some c ∧ c.finished = false) ∧
    (∃ s : State, ∃ h : Hdr, ∃ n, ∃ c, Ready s h (opDigestClose.on (le 2 n)) ∧ (s.started h).ownContext h.src n = some c) ∧
    ((∃ (s : State) (h : Hdr) (k a : Nat), Ready s h opDigestOpen ∧ digestOpenOk 6 k 0 = true ∧ k = 128 ∧ s.readAddrOk h a k = true)) :=
  ⟨⟨w, hq, 31, 1, 1, ready (by decide +kernel), by decide +kernel⟩,
   ⟨{ w with apa := { ports := [(15, { bank0 := { dev1 := [1] } })] } }, hl, 31, 0, 8192, 64, ready (by decide +kernel), by decide +kernel⟩,
   ⟨{ w with apa := { ports := [(0, { bank0 := { profile := [0, 0, 0, 16], dev0 := [1] } })] } }, hq, 0, 0, 1, 1, ready (by decide +kernel), by decide +kernel⟩,
   ⟨{ w with apa := { ports := [(0, { bank0 := { dev0 := [1] } })] } }, hq, 0, 64, _, _, _, ready (by decide +kernel), rfl, rfl, rfl, by decide +kernel⟩,
   ⟨{ w with apa := { ports := [(0, { bank0 := { dev0 := [1] } })] } }, hq, 0, 1, 0, 0, ready (by decide +kernel), by decide +kernel⟩,
   ⟨{ w with apa := { ports := [(0, { bank0 := { dev0 := [1] } })] } }, hq, 0, ready (by decide +kernel), by decide +kernel⟩,
   ⟨w, hq, 5, 0, 256, 0, 0, ready (by decide +kernel), Or.inl rfl, by decide +kernel⟩,
   ⟨{ w with bde := { contexts := [(0, some {})] } }, hq, 0, 1, 64, zeros 8 ++ [1], [], {}, _, _, ready (by decide +kernel), rfl, rfl, by decide +kernel⟩,
   ⟨{ w with bde := { contexts := [(0, some {})] } }, hq, 0, {}, ready (by decide +kernel), by decide +kernel⟩,
   ⟨w, hq, 128, 1, ready (by decide +kernel), by decide +kernel⟩⟩

/-- What MeasurementEventsComplete assumes is met. -/
theorem witness_MeasurementEventsComplete :
    (∃ s : State, ∃ d, ∃ x, s.boot.guardUp = true ∧ d < 32 ∧ ((s.port (d / 2)).swapPending = false ∨ (s.port (d / 2)).mode ≠ .own) ∧ (s.port (d / 2)).pulseUntil = none ∧ s.nextIdent d = some x) ∧
    (∃ s : State, ∃ d, ∃ x, s.boot.guardUp = true ∧ d < 32 ∧ ((s.port (d / 2)).swapPending = false ∨ (s.port (d / 2)).mode ≠ .own) ∧ (s.port (d / 2)).pulseUntil = none ∧ s.nextIdent d = none ∧ s.nextScan d = some x) ∧
    (∃ s : State, ∃ d, ∃ x, s.boot.guardUp = true ∧ d < 32 ∧ ((s.port (d / 2)).swapPending = false ∨ (s.port (d / 2)).mode ≠ .own) ∧ (s.port (d / 2)).pulseUntil = none ∧ s.nextIdent d = none ∧ s.nextScan d = some x ∧ s.drivesOwn (d / 2) = false) ∧
    (∃ s : State, ∃ d, ∃ x, s.boot.guardUp = true ∧ d < 32 ∧ ((s.port (d / 2)).swapPending = false ∨ (s.port (d / 2)).mode ≠ .own) ∧ (s.port (d / 2)).pulseUntil = none ∧ s.nextIdent d = none ∧ s.nextScan d = some x ∧ s.drivesOwn (d / 2) = true ∧ x.kind ≠ .start) ∧
    (∃ s : State, ∃ d, ∃ x, s.boot.guardUp = true ∧ d < 32 ∧ ((s.port (d / 2)).swapPending = false ∨ (s.port (d / 2)).mode ≠ .own) ∧ (s.port (d / 2)).pulseUntil = none ∧ s.nextIdent d = none ∧ s.nextScan d = some x ∧ s.drivesOwn (d / 2) = true ∧ x.kind = .start ∧ x.identified = true) ∧
    (∃ x : Scan, x.resetAt = none) ∧
    (∃ s : State, ∃ x : Scan, ∃ t, x.resetAt = some t ∧ t ≤ s.now ∧ (s.shadow x.device).confirm = false) ∧
    (∃ s : State, ∃ x : Scan, ∃ j : Bytes, ∃ f : Bytes, ∃ t, t = (s.updShadow x.device (fun y => { y with sfdp := sfdpResult (s.port (x.device / 2)).bank j f })).sendFlash (identXfers x.device (s.port (x.device / 2)).bank.resetIface) ∧ sfdpResult (s.port (x.device / 2)).bank j f ≠ .matches) ∧
    (∃ s : State, ∃ x : Scan, ∃ j : Bytes, ∃ f : Bytes, ∃ t, t = (s.updShadow x.device (fun y => { y with sfdp := sfdpResult (s.port (x.device / 2)).bank j f })).sendFlash (identXfers x.device (s.port (x.device / 2)).bank.resetIface) ∧ sfdpResult (s.port (x.device / 2)).bank j f = .matches ∧ x.kind = .start) ∧
    (∃ s : State, ∃ x : Scan, ∃ j : Bytes, ∃ f : Bytes, ∃ t, t = (s.updShadow x.device (fun y => { y with sfdp := sfdpResult (s.port (x.device / 2)).bank j f })).sendFlash (identXfers x.device (s.port (x.device / 2)).bank.resetIface) ∧ sfdpResult (s.port (x.device / 2)).bank j f = .matches ∧ x.kind ≠ .start) ∧
    (∃ s : State, ∃ d, ∃ r, ∃ x, ∃ u, ∃ y, ∃ new, ∃ t, (s.flushFit d).scanRead x r = (u, y) ∧ new = y.done.drop x.done.length ∧ t = (u.updPort (d / 2) (fun p => { p with window := p.window.map (fun w => { w with operations := w.operations + new.length }) })).sendFlash (s.scanXfers x new) ∧ s.fit.scans.find? (fun x => x.device == d && x.running) = some x ∧ x.entryAt = none ∧ s.scanServed x = true) ∧
    (∃ s : State, ∃ d, ∃ r, ∃ x, ∃ u, ∃ y, ∃ new, ∃ t, (s.flushFit d).scanRead x r = (u, y) ∧ new = y.done.drop x.done.length ∧ t = (u.updPort (d / 2) (fun p => { p with window := p.window.map (fun w => { w with operations := w.operations + new.length }) })).sendFlash (s.scanXfers x new) ∧ s.fit.scans.find? (fun x => x.device == d && x.running) = some x ∧ x.entryAt = none ∧ s.scanServed x = true ∧ t.scanBlocks y = []) ∧
    (∃ s : State, ∃ d, ∃ r, ∃ x, ∃ u, ∃ y, ∃ new, ∃ t, (s.flushFit d).scanRead x r = (u, y) ∧ new = y.done.drop x.done.length ∧ t = (u.updPort (d / 2) (fun p => { p with window := p.window.map (fun w => { w with operations := w.operations + new.length }) })).sendFlash (s.scanXfers x new) ∧ s.fit.scans.find? (fun x => x.device == d && x.running) = some x ∧ x.entryAt = none ∧ s.scanServed x = true ∧ t.scanBlocks y ≠ []) ∧
    (∃ s : State, ∃ d, s.boot.forgeUp = true ∧ s.deviceValid d = true ∧ fld (s.deviceRec d) 12 4 ≠ 0 ∧ (s.flashRec d).staleCount ≠ 0 ∧ (s.flashRec d).oldestStale + fld (s.deviceRec d) 12 4 * 1000000 < s.now) ∧
    (∃ s : State, ∃ d, s.boot.forgeUp = true ∧ s.deviceValid d = true ∧ fld (s.deviceRec d) 16 4 ≠ 0 ∧ s.fit.verifyAt.get d 0 + fld (s.deviceRec d) 16 4 ≤ s.emb.opSeconds) ∧
    (∃ s : State, ∃ t, ∃ e, ∃ rest, t = s.drainTaps ∧ t.fit.events = e :: rest) ∧
    (∃ s : State, ∃ d, s.fit.dirty.any (fun e => e.1 == d) = true) ∧
    (∃ s : State, s.boot.forgeUp = true ∧ s.fit.lastDaily + 86400 ≤ s.emb.opSeconds) :=
  ⟨⟨{ w with fit := { scans := [{ device := 31 }] } }, 31, { device := 31 }, by decide +kernel⟩,
   ⟨{ w with fit := { scans := [{ device := 31, identified := true }] } }, 31, { device := 31, identified := true }, by decide +kernel⟩,
   ⟨{ w with apa := { ports := [(0, { mode := .frozen, window := some { hdr := hq, isOpen := true, openedAt := 10 ^ 12, durationUs := 1000 }, bank0 := { dev0 := [1] } })] }, pol := ws.pol, strs := { slots := [(0, { state := .released })] }, fit := { scans := [{ kind := .refresh }] } }, 0, { kind := .refresh }, by decide +kernel⟩,
   ⟨{ w with fit := { scans := [{ kind := .check, device := 31 }] } }, 31, { kind := .check, device := 31 }, by decide +kernel⟩,
   ⟨{ w with fit := { scans := [{ device := 31, identified := true }] } }, 31, { device := 31, identified := true }, by decide +kernel⟩,
   ⟨{}, by decide +kernel⟩,
   ⟨w, { resetAt := some 1 }, 1, by decide +kernel⟩,
   ⟨w, {}, [], [], _, rfl, by decide +kernel⟩,
   ⟨{ w with apa := { ports := [(0, { bank0 := { profile := [1, 2, 3, 0, 1] } })] } }, {}, [1, 2, 3], [], _, rfl, by decide +kernel⟩,
   ⟨{ w with apa := { ports := [(0, { bank0 := { profile := [1, 2, 3, 0, 1] } })] } }, { kind := .check }, [1, 2, 3], [], _, rfl, by decide +kernel⟩,
   ⟨{ w with fit := { scans := [{ kind := .check, running := true }] } }, 0, [], { kind := .check, running := true }, _, _, _, _, rfl, rfl, rfl, by decide +kernel⟩,
   ⟨{ w with fit := { scans := [{ kind := .check, running := true }] } }, 0, [], { kind := .check, running := true }, _, _, _, _, rfl, rfl, rfl, by decide +kernel⟩,
   ⟨{ w with fit := { scans := [{ kind := .check, running := true }] }, apa := { ports := [(0, { bank0 := { profile := [0, 0, 0, 16], dev0 := [1] } })] } }, 0, [], { kind := .check, running := true }, _, _, _, _, rfl, rfl, rfl, by decide +kernel⟩,
   ⟨{ w with apa := { ports := [(0, { bank0 := { dev0 := 1 :: zeros 11 ++ [1, 0, 0, 0] } })] }, fit := { recs := [(0, { staleCount := 1 })] } }, 0, by decide +kernel⟩,
   ⟨{ w with apa := { ports := [(0, { bank0 := { dev0 := 1 :: zeros 15 ++ [1, 0, 0, 0] } })] }, emb := { dmt := 10 ^ 12, opSeconds := 1 } }, 0, by decide +kernel⟩,
   ⟨{ w with fit := { events := [.doubt 0] } }, _, .doubt 0, [], rfl, by decide +kernel⟩,
   ⟨{ w with fit := { dirty := [(0, 1)] } }, 0, by decide +kernel⟩,
   ⟨{ w with emb := { opSeconds := 86400 } }, by decide +kernel⟩⟩

/-- What HammerCommandsComplete assumes is met. -/
theorem witness_HammerCommandsComplete :
    (∃ s : State, ∃ h : Hdr, ∃ o, ∃ n, ∃ a, ∃ d, ∃ b, Ready s h (opPkOp.on (le 1 o ++ zeros 3 ++ le 4 n ++ le 8 a)) ∧ b = fixLen n (s.inputOf h a n d) ∧ s.readAddrOk h a n = true ∧ 1 ≤ o ∧ o < 0x0D ∧ (pkInLenOk o n b && pkInputOk o b) = false) ∧
    (∃ s : State, ∃ h : Hdr, ∃ o, ∃ n, ∃ a, ∃ d, ∃ b, ∃ q, Ready s h (opPkOp.on (le 1 o ++ zeros 3 ++ le 4 n ++ le 8 a)) ∧ b = fixLen n (s.inputOf h a n d) ∧ q = (s.started h).queueOf h.src ∧ s.readAddrOk h a n = true ∧ 1 ≤ o ∧ o < 0x0D ∧ pkInLenOk o n b = true ∧ pkInputOk o b = true ∧ s.hammerUnavailable = false ∧ (needsRandom o = true → s.clusterDrbg = true)) ∧
    (∃ s : State, ∃ h : Hdr, ∃ n, ∃ a, ∃ d, ∃ b, Ready s h (opPkOp.on (le 1 0x0D ++ zeros 3 ++ le 4 n ++ le 8 a)) ∧ b = fixLen n (s.inputOf h a n d) ∧ s.readAddrOk h a n = true ∧ pkInLenOk 0x0D n b = true ∧ pkInputOk 0x0D b = true ∧ (s.started h).backgroundLane = true) ∧
    (∃ s : State, ∃ h : Hdr, ∃ n, ∃ a, ∃ d, ∃ b, Ready s h (opPkOp.on (le 1 0x0D ++ zeros 3 ++ le 4 n ++ le 8 a)) ∧ b = fixLen n (s.inputOf h a n d) ∧ s.readAddrOk h a n = true ∧ pkInLenOk 0x0D n b = true ∧ pkInputOk 0x0D b = true ∧ (s.started h).backgroundLane = false) ∧
    (∃ s : State, ∃ h : Hdr, ∃ a, Ready s h (opHammerStatus.on (le 8 a)) ∧ s.writeAddrOk h a = true) ∧
    (∃ s : State, ∃ h : Hdr, ∃ l, Ready s h (opHammerLaneTest.on (le 1 l)) ∧ l < 18 ∧ ((s.lane l).state = .retired ∨ (s.lane l).state = .spare)) ∧
    (∃ s : State, ∃ h : Hdr, ∃ l, Ready s h (opHammerLaneTest.on (le 1 l)) ∧ l < 18 ∧ (s.lane l).state ≠ .retired ∧ (s.lane l).state ≠ .spare) ∧
    (∃ s : State, ∃ l, (s.lane l).state = .retired ∧ (s.lane l).testHdr ≠ []) ∧
    (∃ s : State, ∃ l, ∃ o, (∀ c, o.req ≠ .refill c) ∧ (s.lane l).running = some o) ∧
    (∃ s : State, ∃ l, ∃ o, ∃ c, ∃ u, u = s.updLane l (fun x => { x with running := none }) ∧ (s.lane l).running = some o ∧ o.req = .refill c) ∧
    (∃ s : State, ∃ l, (s.lane l).state = .testing) ∧
    (∃ s : State, ∃ l, (s.lane l).state = .spare ∧ (s.lane l).coming = 2) ∧
    (∃ s : State, ∃ l, (s.lane l).state = .gated ∧ (s.lane l).coming = 1) :=
  ⟨⟨w, hq, 1, 64, 64, zeros 64, _, ready (by decide +kernel), rfl, by decide +kernel⟩,
   ⟨wl, hq, 5, 33, 64, [], _, _, ready (by decide +kernel), rfl, rfl, by decide +kernel⟩,
   ⟨w, hq, 1361, 64, lmsIn, _, ready (by decide +kernel), rfl, by decide +kernel⟩,
   ⟨{ w with spn := { w.spn with reinitBlocks := [3] } }, hq, 1361, 64, lmsIn, _, ready (by decide +kernel), rfl, by decide +kernel⟩,
   ⟨w, hq, 64, ready (by decide +kernel), by decide +kernel⟩,
   ⟨{ w with hma := { lanes := [(17, { state := .retired })] } }, hq, 17, ready (by decide +kernel), by decide +kernel⟩,
   ⟨wl, hq, 0, ready (by decide +kernel), by decide +kernel⟩,
   ⟨{ w with hma := { lanes := [(0, { state := .retired, testHdr := [hq] })] } }, 0, by decide +kernel⟩,
   ⟨{ w with hma := { lanes := [(0, { state := .active, running := some {} })] } }, 0, {}, (fun c h => by cases h), by decide +kernel⟩,
   ⟨{ w with hma := { lanes := [(0, { state := .active, running := some { req := .refill 1 } })] } }, 0, { req := .refill 1 }, 1, _, rfl, by decide +kernel⟩,
   ⟨{ w with hma := { lanes := [(0, { state := .testing })] } }, 0, by decide +kernel⟩,
   ⟨{ w with hma := { lanes := [(0, { state := .spare, coming := 2 })] } }, 0, by decide +kernel⟩,
   ⟨{ w with hma := { lanes := [(0, { state := .gated, coming := 1 })] } }, 0, by decide +kernel⟩⟩

/-- What StepRunsTheFrontCommand assumes is met. -/
theorem witness_StepRunsTheFrontCommand :
    (∃ s : State, ∃ c : Instr, ∃ rest : List Instr, s.pending = c :: rest) ∧
    (∃ s : State, s.pending = []) :=
  ⟨⟨{ w with pending := [.pwrOkRise, .perstAssert] }, .pwrOkRise, [.perstAssert], by decide +kernel⟩,
   ⟨w, by decide +kernel⟩⟩

/-- What CommandsNeedAnOpenSource assumes is met. -/
theorem witness_CommandsNeedAnOpenSource :
    (∃ c : Instr, ∃ h : Hdr, ∃ op : Op, ∃ s : State, zcpOf c = some (h, op) ∧ s.takes h op = false) :=
  ⟨.echo hq 0, hq, opEcho.on (le 8 0), State.reset, by decide +kernel⟩

/-- What AdmissionRefusesWithoutEffect assumes is met. -/
theorem witness_AdmissionRefusesWithoutEffect :
    (∃ c : Instr, ∃ h : Hdr, ∃ op : Op, ∃ s : State, zcpOf c = some (h, op) ∧ s.takes h op = true ∧ s.versionOf h.src < op.version) ∧
    (∃ c : Instr, ∃ h : Hdr, ∃ op : Op, ∃ s : State, zcpOf c = some (h, op) ∧ s.takes h op = true ∧ op.version ≤ s.versionOf h.src ∧ s.mayRun h.src op = false) ∧
    (∃ c : Instr, ∃ h : Hdr, ∃ op : Op, ∃ s : State, zcpOf c = some (h, op) ∧ s.takes h op = true ∧ op.version ≤ s.versionOf h.src ∧ s.mayRun h.src op = true ∧ (h.cid = 0xFFFF ∨ h.reserved ≠ 0 ∨ resultAddrOk h op = false)) ∧
    ((∃ (c : Instr) (h : Hdr) (op : Op) (s : State), zcpOf c = some (h, op) ∧ s.takes h op = true ∧ op.version ≤ s.versionOf h.src ∧ s.mayRun h.src op = true ∧ resultAddrOk h op = false)) :=
  ⟨⟨.powerCapSet hq 100, hq, opPowerCapSet.on (le 1 100), wq { state := .opened, flights := [{ cid := 1 }] }, by decide +kernel⟩,
   ⟨.powerCapSet hq 100, hq, opPowerCapSet.on (le 1 100), { w with boot := { w.boot with phase := .operational } }, by decide +kernel⟩,
   ⟨.powerCapSet { hq with cid := 0xFFFF } 100, { hq with cid := 0xFFFF }, opPowerCapSet.on (le 1 100), wq { state := .opened, version := 0x12, flights := [{ cid := 0xFFFF }] }, by decide +kernel⟩,
   ⟨.powerCapSet hl 100, hl, opPowerCapSet.on (le 1 100), w, by decide +kernel⟩⟩

/-- What PrivilegeOrdersTheQueues assumes is met. -/
theorem witness_PrivilegeOrdersTheQueues :
    (∃ op : Op, op ∈ allOps) :=
  ⟨opPowerCapSet, by decide +kernel⟩

/-- What CompletionIsPutInLine assumes is met. -/
theorem witness_CompletionIsPutInLine :
    (∃ s : State, ∃ h : Hdr, ∃ q : Nat, ∃ f : Flight, h.src = .pcie q ∧ s.inFlight h = some f) ∧
    (∃ s : State, ∃ h : Hdr, ∃ q : Nat, ∃ f : Flight, ∃ p, h.src = .pcie q ∧ s.inFlight h = some f ∧ p ≠ q) ∧
    (∃ s : State, ∃ h : Hdr, ∃ q : Nat, ∃ f : Flight, h.src = .pcie q ∧ s.inFlight h = some f) ∧
    ((∃ (s : State) (h : Hdr) (q : Nat) (f : Flight), h.src = .pcie q ∧ s.inFlight h = some f ∧ f.orphan = true)) :=
  ⟨⟨w, hq, default, { cid := 1 }, by decide +kernel⟩,
   ⟨w, hq, default, { cid := 1 }, 1, by decide +kernel⟩,
   ⟨w, hq, default, { cid := 1 }, by decide +kernel⟩,
   ⟨wq { flights := [{ cid := 1, orphan := true }] }, hq, 0, { cid := 1, orphan := true }, by decide +kernel⟩⟩

/-- What TransportCommandsComplete assumes is met. -/
theorem witness_TransportCommandsComplete :
    (∃ s : State, ∃ h : Hdr, ∃ p, Ready s h (opEcho.on (le 8 p))) ∧
    (∃ s : State, ∃ h : Hdr, ∃ a, Ready s h (opCapabilities.on (le 8 a)) ∧ s.writeAddrOk h a = true) ∧
    (∃ s : State, ∃ h : Hdr, ∃ lo, ∃ hi, ∃ b, ∃ n, ∃ v, ∃ q, Ready s h (opSessionNegotiate.on (le 1 lo ++ le 1 hi ++ zeros 2 ++ le 4 b ++ le 2 n)) ∧ h.src = .pcie q ∧ commonVersion lo hi = some v) ∧
    (∃ s : State, ∃ h : Hdr, ∃ lo, ∃ hi, ∃ b, ∃ n, ∃ v, ∃ x, ∃ m, Ready s h (opSessionNegotiate.on (le 1 lo ++ le 1 hi ++ zeros 2 ++ le 4 b ++ le 2 n)) ∧ m = (if n = 0 then fragmentLimit x v else min n (fragmentLimit x v)) ∧ h.src = .framed x ∧ (x = .uart0 → baudOk b = true) ∧ commonVersion lo hi = some v) ∧
    (∃ s : State, ∃ h : Hdr, ∃ lo, ∃ hi, ∃ b, ∃ n, ∃ v, ∃ m, Ready s h (opSessionNegotiate.on (le 1 lo ++ le 1 hi ++ zeros 2 ++ le 4 b ++ le 2 n)) ∧ m = (if n = 0 then 4096 else min n 4096) ∧ h.src = .jtag ∧ commonVersion lo hi = some v) ∧
    (∃ s : State, ∃ h : Hdr, ∃ lo, ∃ hi, ∃ b, ∃ n, Ready s h (opSessionNegotiate.on (le 1 lo ++ le 1 hi ++ zeros 2 ++ le 4 b ++ le 2 n)) ∧ (h.src = .framed .uart0 → baudOk b = true) ∧ commonVersion lo hi = none) :=
  ⟨⟨w, hq, 7, ready (by decide +kernel)⟩,
   ⟨w, hq, 4096, ready (by decide +kernel), by decide +kernel⟩,
   ⟨w, hq, 0x10, 0x12, default, default, 0x12, default, ready (by decide +kernel), by decide +kernel⟩,
   ⟨{ w with boot := { w.boot with phase := .operational }, cme := { w.cme with uart0 := { flights := [{ cid := 0 }] } } }, { src := .framed .uart0 }, 0x10, 0x11, 115200, 0, 0x11, .uart0, _, ready (by decide +kernel), rfl, by decide +kernel⟩,
   ⟨{ w with cme := { w.cme with jtagFlights := [{ cid := 0 }] } }, { src := .jtag }, 0x10, 0x10, 0, 0, 0x10, _, ready (by decide +kernel), rfl, by decide +kernel⟩,
   ⟨w, hq, 0x20, 0x21, default, default, ready (by decide +kernel), by decide +kernel⟩⟩

/-- What DoorbellsMoveTheirIndex assumes is met. -/
theorem witness_DoorbellsMoveTheirIndex :
    (∃ s : State, ∃ fn, ∃ q, ∃ v, s.pcieUp = true ∧ s.ownsQueue fn q = true ∧ (s.queue q).state = .opened ∧ v % 4096 < (s.queue q).depth) ∧
    (∃ s : State, ∃ fn, ∃ q, ∃ v, s.pcieUp = true ∧ s.ownsQueue fn q = true ∧ (s.queue q).state = .opened ∧ (s.queue q).depth ≤ v % 4096) ∧
    (∃ s : State, ∃ fn, ∃ q, ∃ v, s.pcieUp = true ∧ s.ownsQueue fn q = true ∧ (s.queue q).state = .opened ∧ v % 4096 < (s.queue q).depth ∧ (v % 4096 + (s.queue q).depth - (s.queue q).cqHead) % (s.queue q).depth ≤ (s.queue q).posted) ∧
    (∃ s : State, ∃ fn, ∃ q, ∃ v, s.pcieUp = true ∧ s.ownsQueue fn q = true ∧ (s.queue q).state = .opened ∧ ((s.queue q).depth ≤ v % 4096 ∨ (s.queue q).posted < (v % 4096 + (s.queue q).depth - (s.queue q).cqHead) % (s.queue q).depth)) ∧
    (∃ s : State, ∃ fn, ∃ q, s.pcieUp = true ∧ (s.ownsQueue fn q = false ∨ (s.queue q).state ≠ .opened)) :=
  ⟨⟨w, default, default, 15, by decide +kernel⟩,
   ⟨w, default, default, 16, by decide +kernel⟩,
   ⟨wq { state := .opened, cqTail := 3, cqHead := 1 }, default, default, 3, by decide +kernel⟩,
   ⟨w, default, default, 15, by decide +kernel⟩,
   ⟨w, default, 1, by decide +kernel⟩⟩

/-- What QueueControlChangesState assumes is met. -/
theorem witness_QueueControlChangesState :
    (∃ s : State, ∃ fn, ∃ q, ∃ r, q = (s.fnBlock fn).qSelect ∧ r = s.openResult fn q ∧ s.pcieUp = true ∧ r ≠ 0) ∧
    (∃ s : State, ∃ fn, ∃ q, ∃ r, q = (s.fnBlock fn).qSelect ∧ r = s.openResult fn q ∧ s.pcieUp = true ∧ r = 0) ∧
    (∃ s : State, ∃ fn, s.pcieUp = true ∧ s.ownsQueue fn (s.fnBlock fn).qSelect = true) ∧
    (∃ s : State, ∃ q, (s.queue q).state = .opened) ∧
    (∃ s : State, ∃ q, (s.queue q).state = .closing ∧ (s.queue q).closingAt + 100000 ≤ s.now) :=
  ⟨⟨w, default, _, _, rfl, rfl, by decide +kernel⟩,
   ⟨{ w with cme := { fns := [(0, { queues := [(0, { depthLog2 := 4 })] })] } }, default, _, _, rfl, rfl, by decide +kernel⟩,
   ⟨w, default, by decide +kernel⟩,
   ⟨w, 0, by decide +kernel⟩,
   ⟨wq { state := .closing, closingAt := 0 }, default, by decide +kernel⟩⟩

/-- What ResetsCloseTheQueues assumes is met. -/
theorem witness_ResetsCloseTheQueues :
    (∃ s : State, s.pcieUp = true) ∧
    (∃ s : State, ∃ t : State, t = s.pcieReset ∧ s.pcieUp = true ∧ s.boot.perst = false) ∧
    (∃ s : State, s.pcieUp = true) ∧
    (∃ s : State, ∃ fn, ∃ p, s.pcieUp = true ∧ s.usesQueue fn p = true ∧ (s.queue p).state ≠ .error) :=
  ⟨⟨w, by decide +kernel⟩,
   ⟨w, _, rfl, by decide +kernel⟩,
   ⟨w, by decide +kernel⟩,
   ⟨w, default, 0, by decide +kernel⟩⟩

/-- What WideRegistersLatch assumes is met. -/
theorem witness_WideRegistersLatch :
    (∃ s : State, ∃ fn, ∃ a, ∃ v, s.reaches fn a = true ∧ s.wide fn a = some v) ∧
    (∃ s : State, ∃ fn, ∃ a, ∃ v, s.reaches fn a = true ∧ s.wide fn a = some v ∧ fn < 64) ∧
    (∃ s : State, ∃ fn, ∃ a, ∃ v, s.reaches fn a = true ∧ (s.fnBlock fn).latches.get a none = some v) ∧
    (∃ s : State, ∃ fn, ∃ a, ∃ v, ∃ b, s.reaches fn a = true ∧ (s.fnBlock fn).latches.get a none = some v ∧ b ≠ a) ∧
    (∃ s : State, ∃ fn, ∃ a, ∃ v, s.reaches fn a = true ∧ (s.fnBlock fn).latches.get a none = none ∧ s.wide fn a = some v) ∧
    (∃ a, a % 4 ≠ 0) ∧
    ((∃ (s : State) (fn a v : Nat), s.reaches fn a = true ∧ s.wide fn a = some v ∧ s.reaches fn (a + 4) = true ∧ 2 ^ 32 ≤ v)) :=
  ⟨⟨w, default, 0x1C000, 10 ^ 12, by decide +kernel⟩,
   ⟨w, 0, 0x1C000, 10 ^ 12, by decide +kernel⟩,
   ⟨{ w with cme := { w.cme with fns := [(0, { latches := [(0x1C004, some 7)] })] } }, 0, 0x1C004, 7, by decide +kernel⟩,
   ⟨{ w with cme := { w.cme with fns := [(0, { latches := [(0x1C004, some 7)] })] } }, 0, 0x1C004, 7, 0, by decide +kernel⟩,
   ⟨w, default, 0x1C000, 10 ^ 12, by decide +kernel⟩,
   ⟨0x8013, by decide +kernel⟩,
   ⟨w, 0, 0x1C000, 10 ^ 12, by decide +kernel⟩⟩

/-- What RegisterAccessesComplete assumes is met. -/
theorem witness_RegisterAccessesComplete :
    (∃ s : State, ∃ fn, ∃ a, s.reaches fn a = true ∧ (s.fnBlock fn).latches.get a none = none ∧ s.wide fn a = none) ∧
    (∃ s : State, ∃ fn, ∃ a, s.reaches fn a = true) ∧
    (∃ s : State, ∃ fn, ∃ a, s.addresses fn a = true ∧ s.islandStopped (regIsland a) = true) :=
  ⟨⟨w, default, 0x8008, by decide +kernel⟩,
   ⟨w, default, 0x8008, by decide +kernel⟩,
   ⟨{ w with spn := { w.spn with clockRunning := 0x5E } }, default, 0x1C000, by decide +kernel⟩⟩

/-- What FetchedEntriesAreTaken assumes is met. -/
theorem witness_FetchedEntriesAreTaken :
    (∃ s : State, ∃ t : State, ∃ q, ∃ c, ∃ u, t = { s with io := { s.io with fetch := some (s.fetchAddr q) } } ∧ s.ready = true ∧ s.cme.draining = false ∧ s.nextFetch = some (q, c, u)) ∧
    (∃ s : State, ∃ q, ∃ e, opOf (fld e 0 2) = none ∧ (s.queue q).flights.all (fun f => decide (f.uid ≠ s.cme.nextUid)) = true) ∧
    (∃ q, ∃ cid, ∃ h : Hdr, h = ({ src := .pcie q, cid := cid } : Hdr)) ∧
    (∃ s : State, ∃ q, s.mayFetch q = true ∧ s.ready = true) ∧
    (∃ s : State, ∃ p, ∃ h : Hdr, ∃ f, h.src = .pcie p ∧ s.flightFor h = some f ∧ f.started = false ∧ updateContext f = none) :=
  ⟨⟨wq { state := .opened, sqTail := 1 }, _, default, 1, ((wq { state := .opened, sqTail := 1 }).nextFetch.getD (0, 0, {})).2.2, rfl, by decide +kernel⟩,
   ⟨wq {}, default, [0xFF, 0xFF], by decide +kernel⟩,
   ⟨default, default, _, rfl⟩,
   ⟨wq { state := .opened, sqTail := 1 }, default, by decide +kernel⟩,
   ⟨w, default, hq, { cid := 1 }, by decide +kernel⟩⟩

/-- What CompletionsAreWritten assumes is met. -/
theorem witness_CompletionsAreWritten :
    (∃ s : State, ∃ q, ∃ c, ∃ rest, s.boot.controlUp = true ∧ s.boot.drainUntil = none ∧ (s.queue q).done = c :: rest) ∧
    (∃ s : State, ∃ q, (s.queue q).state = .opened) ∧
    (∃ s : State, ∃ x, ∃ c, ∃ rest, s.boot.controlUp = true ∧ s.boot.drainUntil = none ∧ (s.session x).done = c :: rest) ∧
    (∃ s : State, s.cme.uart0.frames ≠ []) ∧
    (∃ s : State, ∃ c, ∃ rest, s.boot.drainUntil = none ∧ s.cme.jtagSession.done = c :: rest) ∧
    (∃ s : State, ∃ q, ∃ d, (s.queue q).coalDue = some d ∧ d ≤ s.now ∧ s.boot.controlUp = true) ∧
    (∃ s : State, ∃ fn, ∃ v, (s.fnBlock fn).msix.enable = true ∧ (s.fnBlock fn).msix.functionMask = false ∧ (s.fnBlock fn).msix.unmasked.contains v = true) ∧
    (∃ s : State, ∃ g, ∃ e, ∃ rest, ∃ q, s.boot.controlUp = true ∧ s.cme.asyncs.get g [] = e :: rest ∧ s.unrecorded g e = false ∧ s.asyncQueue g e = some q ∧ (s.queue q).posted + (s.queue q).inFlight + 1 ≤ (s.queue q).depth - 1) :=
  ⟨⟨wq { state := .opened, done := [{ src := .pcie 0, cid := 1 }] }, default, { src := .pcie 0, cid := 1 }, [], by decide +kernel⟩,
   ⟨w, 0, by decide +kernel⟩,
   ⟨wmb { done := [{ src := .framed .mb0, cid := 1 }], running := some 7 }, .mb0, { src := .framed .mb0, cid := 1 }, [], by decide +kernel⟩,
   ⟨{ w with cme := { w.cme with uart0 := { frames := [[1]] } } }, by decide +kernel⟩,
   ⟨{ w with cme := { w.cme with jtagSession := { done := [{ src := .jtag, cid := 1 }] } } }, { src := .jtag, cid := 1 }, [], by decide +kernel⟩,
   ⟨wq { coalDue := some 5 }, default, 5, by decide +kernel⟩,
   ⟨{ w with cme := { w.cme with fns := [(0, { msix := { enable := true, unmasked := [0] } })] } }, 0, 0, by decide +kernel⟩,
   ⟨{ (wq { state := .opened, async := true }) with cme := { queues := [(0, { state := .opened, async := true })], asyncs := [(0, [{ code := 1 }])] } }, default, { code := 1 }, [], default, by decide +kernel⟩⟩

/-- What FramesAreAnswered assumes is met. -/
theorem witness_FramesAreAnswered :
    (∃ y : Session, ∃ f, (f.length ≠ 12 + fld f 6 2 ∨ y.maxFragment < fld f 6 2 ∨ fld f (8 + fld f 6 2) 4 ≠ crc32c (f.take (8 + fld f 6 2)))) ∧
    (∃ y : Session, ∃ f, f.length = 12 + fld f 6 2 ∧ fld f 6 2 ≤ y.maxFragment ∧ fld f (8 + fld f 6 2) 4 = crc32c (f.take (8 + fld f 6 2)) ∧ fld f 0 1 = 1 ∧ y.running.isSome = true) ∧
    (∃ y : Session, ∃ now, ∃ f, f.length = 12 + fld f 6 2 ∧ fld f 6 2 ≤ y.maxFragment ∧ fld f (8 + fld f 6 2) 4 = crc32c (f.take (8 + fld f 6 2)) ∧ fld f 0 1 = 1 ∧ y.running = none ∧ y.late now = true) ∧
    (∃ s : State, ∃ u : State, ∃ x, ∃ f, ∃ p, u = (if x = .uart0 ∧ frameGood f = true then { s.updSession .uart0 (fun y => { y with revertAt := none }) with boot := { s.boot with peerSeen := s.boot.peerSeen || s.boot.phase == .serialLoader } } else s) ∧ s.framedReady x = true ∧ u.pecGood x f p = false) ∧
    (∃ s : State, ∃ u : State, ∃ x, ∃ f, ∃ p, ∃ y, u = (if x = .uart0 ∧ frameGood f = true then { s.updSession .uart0 (fun y => { y with revertAt := none }) with boot := { s.boot with peerSeen := s.boot.peerSeen || s.boot.phase == .serialLoader } } else s) ∧ (u.session x).receive u.now f = .answer y ∧ s.framedReady x = true ∧ u.pecGood x f p = true) ∧
    (∃ s : State, ∃ u : State, ∃ x, ∃ f, ∃ p, ∃ y, ∃ m, ∃ e, ∃ d, u = (if x = .uart0 ∧ frameGood f = true then { s.updSession .uart0 (fun y => { y with revertAt := none }) with boot := { s.boot with peerSeen := s.boot.peerSeen || s.boot.phase == .serialLoader } } else s) ∧ (u.session x).receive u.now f = .message y m e d ∧ s.framedReady x = true ∧ u.pecGood x f p = true) ∧
    (∃ s : State, ∃ x, ∃ m, ∃ n, ∃ b, (s.session x).building = some (m, n, b) ∧ s.boot.controlUp = true ∧ (s.session x).lastFragAt + 100000 < s.now) ∧
    (∃ s : State, ∃ m, ∃ n, ∃ b, s.cme.jtagSession.building = some (m, n, b) ∧ s.boot.pwrOk = true ∧ s.cme.jtagSession.lastFragAt + 100000 < s.now) ∧
    (∃ s : State, ∃ x : Target, (x = .sb0 ∨ x = .sb1) ∧ s.boot.controlUp = true) ∧
    (∃ s : State, ∃ x : Target, (x = .mb0 ∨ x = .mb1) ∧ s.boot.controlUp = true) ∧
    (∃ s : State, ∃ f, ∃ y, ∃ m, ∃ e, ∃ d, s.boot.pwrOk = true ∧ s.cme.jtagSession.receive s.now f = .message y m e d) ∧
    (∃ s : State, ∃ f, s.boot.pwrOk = true ∧ f.length ≠ 12 + fld f 6 2) ∧
    (∃ s : State, ∃ d, s.cme.uart0.revertAt = some d ∧ d ≤ s.now ∧ s.boot.controlUp = true) ∧
    (∃ s : State, ∃ x : Target, (x = .mb0 ∨ x = .mb1) ∧ s.boot.controlUp = true) ∧
    ((∃ (s : State) (x : Target) (f : Bytes), s.framedReady x = true ∧ f.length = 12 + fld f 6 2 ∧ fld f 6 2 ≤ (s.session x).maxFragment ∧ fld f (8 + fld f 6 2) 4 ≠ crc32c (f.take (8 + fld f 6 2)))) :=
  ⟨⟨{}, [], by decide +kernel⟩,
   ⟨{ running := some 3 }, frame1 1 (zeros 64), by decide +kernel⟩,
   ⟨{ building := some (7, 1, []), lastFragAt := 0 }, 100001, frame1 1 (zeros 64), by decide +kernel⟩,
   ⟨w, _, .sb0, [], some 256, rfl, by decide +kernel⟩,
   ⟨w, _, .mb0, [], none, _, rfl, rfl, by decide +kernel⟩,
   ⟨w, _, .mb0, frame1 1 (zeros 64), none, _, _, _, _, rfl, rfl, by decide +kernel⟩,
   ⟨wmb { building := some (3, 1, []) }, .mb0, 3, 1, [], by decide +kernel⟩,
   ⟨{ w with cme := { w.cme with jtagSession := { building := some (3, 1, []) } } }, 3, 1, [], by decide +kernel⟩,
   ⟨w, .sb0, by decide +kernel⟩,
   ⟨w, .mb1, by decide +kernel⟩,
   ⟨w, frame1 1 (zeros 64), { maxFragment := 4096, running := some 7 }, 7, zeros 64, [], by decide +kernel⟩,
   ⟨w, [1], by decide +kernel⟩,
   ⟨{ w with cme := { w.cme with uart0 := { revertAt := some 5 } } }, 5, by decide +kernel⟩,
   ⟨w, .mb1, by decide +kernel⟩,
   ⟨w, .mb0, zeros 12, by decide +kernel⟩⟩

/-- What OutboxAndIslandLimits assumes is met. -/
theorem witness_OutboxAndIslandLimits :
    (∃ s : State, ∃ m, s.boot.controlUp = true ∧ s.nextOut = some m ∧ m.units.length ≤ 1) ∧
    (∃ s : State, ∃ m, s.boot.controlUp = true ∧ s.nextOut = some m ∧ 1 < m.units.length) ∧
    (∃ s : State, ∃ m, s.boot.controlUp = true ∧ s.nextOut = some m ∧ m.tries < 8) ∧
    (∃ s : State, ∃ m, s.boot.controlUp = true ∧ s.nextOut = some m ∧ m.tries = 8) ∧
    (∃ s : State, ∃ m, s.boot.controlUp = true ∧ s.nextOut = some m ∧ 8 < m.tries) ∧
    (∃ s : State, ∃ i, ∃ h : Hdr, ∃ f, 1 ≤ i ∧ i ≤ 6 ∧ s.flightFor h = some f ∧ f.island = i ∧ f.islandAt + 64 ≤ s.now) ∧
    (∃ s : State, ∃ fn, ∃ i, ∃ a, 1 ≤ i ∧ i ≤ 6 ∧ s.lateAccess fn i = some a) ∧
    (∃ s : State, ∃ fn, ∃ i, ∃ a, 1 ≤ i ∧ i ≤ 6 ∧ s.lateAccess fn i = some a ∧ a.write = none) ∧
    (∃ s : State, ∃ fn, ∃ i, ∃ a, 1 ≤ i ∧ i ≤ 6 ∧ s.lateAccess fn i = some a ∧ a.write ≠ none) :=
  ⟨⟨{ w with cme := { w.cme with outbox := [{ bus := .mb0, units := [[1]] }] } }, { bus := .mb0, units := [[1]] }, by decide +kernel⟩,
   ⟨{ w with cme := { w.cme with outbox := [{ bus := .mb0, units := [[1], [2]] }] } }, { bus := .mb0, units := [[1], [2]] }, by decide +kernel⟩,
   ⟨{ w with cme := { w.cme with outbox := [{ bus := .mb0, tries := 7 }] } }, { bus := .mb0, tries := 7 }, by decide +kernel⟩,
   ⟨{ w with cme := { w.cme with outbox := [{ bus := .mb0, tries := 8 }] } }, { bus := .mb0, tries := 8 }, by decide +kernel⟩,
   ⟨{ w with cme := { w.cme with outbox := [{ bus := .mb0, tries := 9 }] } }, { bus := .mb0, tries := 9 }, by decide +kernel⟩,
   ⟨wq { flights := [{ cid := 1, island := 6 }] }, 6, hq, { cid := 1, island := 6 }, by decide +kernel⟩,
   ⟨{ w with cme := { w.cme with accesses := [{ addr := 0x1C000 }] } }, 0, 5, { addr := 0x1C000 }, by decide +kernel⟩,
   ⟨{ w with cme := { w.cme with accesses := [{ addr := 0x1C000 }] } }, 0, 5, { addr := 0x1C000 }, by decide +kernel⟩,
   ⟨{ w with cme := { w.cme with accesses := [{ addr := 0x1C000, write := some 7 }] } }, 0, 5, { addr := 0x1C000, write := some 7 }, by decide +kernel⟩⟩

/-- What ReceiptsTakeTheirNumbers assumes is met. -/
theorem witness_ReceiptsTakeTheirNumbers :
    (∃ s : State, ∃ h : Hdr, ∃ f, ∃ g, ∃ n, ∃ o, ∃ da, ∃ a, ∃ d, ∃ q, ∃ x, Ready s h (opReceiptSign.on (le 1 f ++ le 1 g ++ le 1 n ++ zeros 1 ++ le 4 o ++ le 8 da ++ le 8 a)) ∧ q = (s.started h).queueOf h.src ∧ f ≤ 2 ∧ g ≤ 4 ∧ digestLenOk n = true ∧ s.readAddrOk h da n = true ∧ s.writeAddrOk h a = true ∧ x = { queue := q, format := if f = 0 then ((s.started h).receiptRec q).1 else f, alg := if g = 0 then ((s.started h).receiptRec q).2.1 else g, outAddr := a, digests := [fixLen n (s.inputOf h da n d)] } ∧ (s.started h).receiptRefusal x o = 0) ∧
    (∃ s : State, ∃ h : Hdr, ∃ f, ∃ g, ∃ n, ∃ o, ∃ da, ∃ a, ∃ d, ∃ q, ∃ x, Ready s h (opReceiptSign.on (le 1 f ++ le 1 g ++ le 1 n ++ zeros 1 ++ le 4 o ++ le 8 da ++ le 8 a)) ∧ q = (s.started h).queueOf h.src ∧ f ≤ 2 ∧ g ≤ 4 ∧ digestLenOk n = true ∧ s.readAddrOk h da n = true ∧ s.writeAddrOk h a = true ∧ x = { queue := q, format := if f = 0 then ((s.started h).receiptRec q).1 else f, alg := if g = 0 then ((s.started h).receiptRec q).2.1 else g, outAddr := a, digests := [fixLen n (s.inputOf h da n d)] } ∧ (s.started h).receiptRefusal x o ≠ 0) ∧
    (∃ s : State, ∃ h : Hdr, ∃ f, ∃ g, ∃ n, ∃ k, ∃ o, ∃ la, ∃ a, ∃ d, ∃ q, ∃ x, Ready s h (opReceiptBatch.on (le 1 f ++ le 1 g ++ le 1 n ++ zeros 1 ++ le 2 k ++ zeros 2 ++ le 4 o ++ zeros 4 ++ le 8 la ++ le 8 a)) ∧ q = (s.started h).queueOf h.src ∧ (f = 0 ∨ f = 2) ∧ g ≤ 4 ∧ 1 ≤ k ∧ k ≤ 256 ∧ digestLenOk n = true ∧ s.readAddrOk h la (n * k) = true ∧ s.writeAddrOk h a = true ∧ x = { queue := q, format := 2, alg := if g = 0 then ((s.started h).receiptRec q).2.1 else g, outAddr := a, isBatch := true, digests := (List.range k).map (fun i => slice (s.inputOf h la (n * k) d) (n * i) n) } ∧ (s.started h).receiptRefusal x o = 0) ∧
    (∃ s : State, ∃ h : Hdr, ∃ f, ∃ g, ∃ n, ∃ k, ∃ o, ∃ la, ∃ a, ∃ d, ∃ q, ∃ x, Ready s h (opReceiptBatch.on (le 1 f ++ le 1 g ++ le 1 n ++ zeros 1 ++ le 2 k ++ zeros 2 ++ le 4 o ++ zeros 4 ++ le 8 la ++ le 8 a)) ∧ q = (s.started h).queueOf h.src ∧ x = { queue := q, format := 2, alg := if g = 0 then ((s.started h).receiptRec q).2.1 else g, outAddr := a, isBatch := true, digests := (List.range k).map (fun i => slice (s.inputOf h la (n * k) d) (n * i) n) } ∧ (f = 0 ∨ f = 2) ∧ g ≤ 4 ∧ 1 ≤ k ∧ k ≤ 256 ∧ digestLenOk n = true ∧ s.readAddrOk h la (n * k) = true ∧ s.writeAddrOk h a = true ∧ (s.started h).receiptRefusal x o ≠ 0) ∧
    (∃ x : Ask, x.queue < 4096) ∧
    (∃ x : Ask, ∃ q, x.queue < 4096 ∧ q ≠ x.queue) ∧
    (∃ s : State, ∃ h : Hdr, ∃ a, Ready s h (opReceiptKeys.on (le 8 a)) ∧ s.writeAddrOk h a = true) ∧
    (∃ s : State, s.boot.forgeUp = true ∧ s.rfg.checkpointAt + 10000 ≤ s.now) :=
  ⟨⟨wl, hq, default, default, 32, 4096, 4096, 8192, [], _, { queue := 0, format := 2, alg := 1, outAddr := 8192, digests := [zeros 32] }, ready (by decide +kernel), rfl, by decide +kernel⟩,
   ⟨w, hq, default, default, 32, 1, 4096, 8192, [], _, { queue := 0, format := 2, alg := 1, outAddr := 8192, digests := [zeros 32] }, ready (by decide +kernel), rfl, by decide +kernel⟩,
   ⟨wl, hq, default, default, 32, 2, 4096, 4096, 8192, [], _, { queue := 0, format := 2, alg := 1, outAddr := 8192, isBatch := true, digests := (List.range 2).map (fun i => slice [] (32 * i) 32) }, ready (by decide +kernel), rfl, by decide +kernel⟩,
   ⟨wl, hq, 2, 1, 32, 2, 1, 4096, 8192, [], _, _, ready (by decide +kernel), rfl, rfl, by decide +kernel⟩,
   ⟨{ queue := 4095 }, by decide +kernel⟩,
   ⟨{ queue := 4095 }, 4094, by decide +kernel⟩,
   ⟨w, hq, 4096, ready (by decide +kernel), by decide +kernel⟩,
   ⟨w, by decide +kernel⟩⟩

/-- What MeteringComplete assumes is met. -/
theorem witness_MeteringComplete :
    (∃ s : State, ∃ h : Hdr, ∃ a, ∃ qs, Ready s h (opMeterStatus.on (le 8 a)) ∧ qs = (s.started h).meteredQueues h.src ∧ s.writeAddrOk h a = true) ∧
    (∃ s : State, ∃ h : Hdr, ∃ p, ∃ o, ∃ a, ∃ r, Ready s h (opMeterRecord.on (le 4 p ++ le 4 o ++ le 8 a)) ∧ s.writeAddrOk h a = true ∧ s.rfg.period.map Period.id ≠ some p ∧ s.rfg.records.find? (fun r => r.id == p && !r.record.isEmpty) = some r ∧ r.record.length ≤ o ∧ ¬ (r.unsigned = true ∧ (s.started h).quenched = true)) ∧
    (∃ s : State, ∃ h : Hdr, ∃ p, ∃ o, ∃ a, ∃ r, Ready s h (opMeterRecord.on (le 4 p ++ le 4 o ++ le 8 a)) ∧ s.writeAddrOk h a = true ∧ s.rfg.period.map Period.id ≠ some p ∧ s.rfg.records.find? (fun r => r.id == p && !r.record.isEmpty) = some r ∧ r.record.length ≤ o ∧ r.unsigned = true ∧ (s.started h).quenched = true) ∧
    (∃ s : State, ∃ h : Hdr, ∃ p, ∃ o, ∃ a, Ready s h (opMeterRecord.on (le 4 p ++ le 4 o ++ le 8 a)) ∧ s.writeAddrOk h a = true ∧ s.rfg.period.map Period.id = some p) ∧
    (∃ s : State, ∃ h : Hdr, ∃ p, ∃ o, ∃ a, Ready s h (opMeterRecord.on (le 4 p ++ le 4 o ++ le 8 a)) ∧ s.writeAddrOk h a = true ∧ s.rfg.period.map Period.id ≠ some p ∧ s.rfg.records.find? (fun r => r.id == p && !r.record.isEmpty) = none) ∧
    (∃ s : State, ∃ h : Hdr, ∃ p, Ready s h (opMeterAck.on (le 4 p)) ∧ p ≤ s.rfg.newestClosed) ∧
    (∃ s : State, ∃ h : Hdr, ∃ p, Ready s h (opMeterAck.on (le 4 p)) ∧ s.rfg.newestClosed < p) ∧
    (∃ s : State, ∃ h : Hdr, ∃ t, Ready s h opMeterClose ∧ t = (s.started h).closePeriod 8 ∧ t.rfg.newestClosed ≠ s.rfg.newestClosed) ∧
    (∃ s : State, ∃ h : Hdr, ∃ t, Ready s h opMeterClose ∧ t = (s.started h).closePeriod 8 ∧ t.rfg.newestClosed = s.rfg.newestClosed) ∧
    (∃ s : State, ∃ p, s.rfg.period = some p ∧ s.boot.forgeUp = true ∧ s.emb.wallSet = true ∧ p.anchored = true ∧ p.endWall ≤ s.wall) ∧
    (∃ s : State, ∃ p, ∃ f, s.rfg.period = some p ∧ s.ringRoom (s.periodRec p f (f.testBit 3)) = true) ∧
    (∃ s : State, ∃ r, s.rfg.records.find? (fun r => r.record.isEmpty) = some r ∧ s.boot.forgeUp = true ∧ s.receiptsOpen r.id = false ∧ s.signingPeriod r.id = false ∧ s.quenched = true) ∧
    (∃ s : State, ∃ r, s.rfg.records.find? (fun r => r.record.isEmpty) = some r ∧ s.boot.forgeUp = true ∧ s.receiptsOpen r.id = false ∧ s.signingPeriod r.id = false ∧ s.cru.store.metering ≠ [] ∧ s.quenched = false ∧ s.hammerUnavailable = false ∧ s.clusterDrbg = true) :=
  ⟨⟨w, hq, 4096, _, ready (by decide +kernel), rfl, by decide +kernel⟩,
   ⟨{ w with rfg := { records := [{ id := 3, record := [1, 2] }], period := some { id := 4 } } }, hq, 3, 2, 4096, { id := 3, record := [1, 2] }, ready (by decide +kernel), by decide +kernel⟩,
   ⟨{ w with emb := { w.emb with latch := true }, rfg := { records := [{ id := 3, record := [1, 2], unsigned := true }] } }, hq, 3, 2, 4096, { id := 3, record := [1, 2], unsigned := true }, ready (by decide +kernel), by decide +kernel⟩,
   ⟨{ w with rfg := { period := some { id := 4 } } }, hq, 4, default, 4096, ready (by decide +kernel), by decide +kernel⟩,
   ⟨w, hq, 4, default, 4096, ready (by decide +kernel), by decide +kernel⟩,
   ⟨{ w with rfg := { newestClosed := 4 } }, hq, 4, ready (by decide +kernel), by decide +kernel⟩,
   ⟨{ w with rfg := { newestClosed := 4 } }, hq, 5, ready (by decide +kernel), by decide +kernel⟩,
   ⟨{ w with rfg := { period := some { id := 4 } } }, hq, _, ready (by decide +kernel), rfl, by decide +kernel⟩,
   ⟨{ w with rfg := { period := some { id := 4 }, newestClosed := 4 } }, hq, _, ready (by decide +kernel), rfl, by decide +kernel⟩,
   ⟨{ w with emb := { w.emb with wallSet := true }, rfg := { period := some { id := 4, anchored := true } } }, { id := 4, anchored := true }, by decide +kernel⟩,
   ⟨{ w with rfg := { period := some { id := 4 } } }, { id := 4 }, 0, by decide +kernel⟩,
   ⟨{ w with emb := { w.emb with latch := true }, rfg := { records := [{ id := 3 }] } }, { id := 3 }, by decide +kernel⟩,
   ⟨{ wl with rfg := { records := [{ id := 3 }] }, cru := { w.cru with store := { metering := [1] }, d1 := { generating := true } } }, { id := 3 }, by decide +kernel⟩⟩

/-- What AttestationCommandsComplete assumes is met. -/
theorem witness_AttestationCommandsComplete :
    (∃ s : State, ∃ h : Hdr, ∃ a, Ready s h (opPsdRead.on (le 8 a)) ∧ s.writeAddrOk h a = true) ∧
    (∃ s : State, ∃ h : Hdr, ∃ g, ∃ n, ∃ a, ∃ l, Ready s h (opPsdChanges.on (le 8 g ++ le 2 n ++ zeros 6 ++ le 8 a)) ∧ l = cutToLast ((s.atr.history.filter (fun r => decide (g ≤ r.gen))).take n) ∧ 1 ≤ n ∧ n ≤ 4096 ∧ s.writeAddrOk h a = true ∧ g < s.atr.oldestGen) ∧
    (∃ s : State, ∃ h : Hdr, ∃ g, ∃ n, ∃ a, ∃ l, Ready s h (opPsdChanges.on (le 8 g ++ le 2 n ++ zeros 6 ++ le 8 a)) ∧ l = cutToLast ((s.atr.history.filter (fun r => decide (g ≤ r.gen))).take n) ∧ 1 ≤ n ∧ n ≤ 4096 ∧ s.writeAddrOk h a = true ∧ s.atr.oldestGen ≤ g) ∧
    (∃ s : State, ∃ h : Hdr, ∃ w, ∃ n, ∃ a, ∃ i : Image, ∃ live, ∃ pre, Ready s h (opConfigDigest.on (le 1 w ++ zeros 3 ++ le 4 n ++ le 8 a)) ∧ (w = 1 → s.staged = some i) ∧ live = (if w = 0 then s.atr.live else if w = 1 then (s.started h).liveBlockWith i.cap (fld (i.sec 0x40) 1 1) else (s.started h).liveBlock) ∧ pre = (if w = 0 then s.atr.cedPre else if w = 1 then cedHead (some i) (s.pol.epoch + 1) ++ sha384 live else cedHead (s.started h).image s.pol.epoch ++ sha384 live) ∧ (sha384 pre ++ pre ++ live).length ≤ n ∧ w < 3 ∧ s.writeAddrOk h a = true) ∧
    (∃ s : State, ∃ h : Hdr, ∃ w, ∃ n, ∃ a, ∃ i : Image, ∃ live, ∃ pre, Ready s h (opConfigDigest.on (le 1 w ++ zeros 3 ++ le 4 n ++ le 8 a)) ∧ (w = 1 → s.staged = some i) ∧ live = (if w = 0 then s.atr.live else if w = 1 then (s.started h).liveBlockWith i.cap (fld (i.sec 0x40) 1 1) else (s.started h).liveBlock) ∧ pre = (if w = 0 then s.atr.cedPre else if w = 1 then cedHead (some i) (s.pol.epoch + 1) ++ sha384 live else cedHead (s.started h).image s.pol.epoch ++ sha384 live) ∧ n < (sha384 pre ++ pre ++ live).length ∧ w < 3 ∧ s.writeAddrOk h a = true) ∧
    (∃ s : State, ∃ h : Hdr, ∃ n, ∃ a, Ready s h (opConfigDigest.on (le 1 1 ++ zeros 3 ++ le 4 n ++ le 8 a)) ∧ s.writeAddrOk h a = true ∧ s.staged = none) ∧
    (∃ s : State, ∃ h : Hdr, ∃ w, ∃ n, ∃ a, ∃ cs : List Bytes, ∃ out, Ready s h (opIdentityCerts.on (le 1 w ++ zeros 3 ++ le 4 n ++ le 8 a)) ∧ cs = (if w = 2 then s.atr.leafCerts else (s.started h).slotCerts w).filter (fun c => !c.isEmpty) ∧ out = cs.flatMap (fun c => le 2 c.length ++ c) ∧ w < 3 ∧ s.writeAddrOk h a = true ∧ out.length ≤ n) ∧
    (∃ s : State, ∃ h : Hdr, ∃ w, ∃ n, ∃ a, ∃ cs : List Bytes, ∃ out, Ready s h (opIdentityCerts.on (le 1 w ++ zeros 3 ++ le 4 n ++ le 8 a)) ∧ cs = (if w = 2 then s.atr.leafCerts else (s.started h).slotCerts w).filter (fun c => !c.isEmpty) ∧ out = cs.flatMap (fun c => le 2 c.length ++ c) ∧ w < 3 ∧ s.writeAddrOk h a = true ∧ n < out.length) ∧
    (∃ s : State, ∃ h : Hdr, ∃ n, ∃ a, Ready s h (opIdentityCertInstall.on (le 4 n ++ zeros 4 ++ le 8 a)) ∧ n ≤ 4096 ∧ (n = 0 ∨ s.readAddrOk h a n = true) ∧ s.cru.lcState ≠ 4) ∧
    (∀ (d0 : Bytes), (({ w with cru := { w.cru with lcState := 4 } } : State).started hq).ownerChain (fixLen 4096 d0) = none → ∃ s : State, ∃ h : Hdr, ∃ n, ∃ a, ∃ d, Ready s h (opIdentityCertInstall.on (le 4 n ++ zeros 4 ++ le 8 a)) ∧ (s.started h).ownerChain (fixLen n (s.inputOf h a n d)) = none ∧ n ≤ 4096 ∧ (n = 0 ∨ s.readAddrOk h a n = true) ∧ s.cru.lcState = 4 ∧ n ≠ 0) ∧
    (∃ s : State, ∃ h : Hdr, ∃ n, ∃ a, ∃ d, ∃ cs, Ready s h (opIdentityCertInstall.on (le 4 n ++ zeros 4 ++ le 8 a)) ∧ n ≤ 4096 ∧ (n = 0 ∨ s.readAddrOk h a n = true) ∧ s.cru.lcState = 4 ∧ (if n = 0 then some [] else (s.started h).ownerChain (fixLen n (s.inputOf h a n d))) = some cs) ∧
    (∃ s : State, s.boot.forgeUp = true) ∧
    (∃ s : State, s.psdPending = true) ∧
    (∀ (s0 t0 : State) (k0 : Nat), s0.boot.reached = true ∧ s0.boot.controlUp = true ∧ s0.atr.certsReady = false ∧ s0.deviceIdSigns s0.attBody = true ∧ s0.hammerUnavailable = false ∧ s0.clusterDrbg = true ∧ s0.tryOwn.signRun (1 + s0.leafBodies.length) k0 = (true, t0) → ∃ s : State, ∃ t : State, ∃ u : State, ∃ v : State, ∃ k, s.boot.reached = true ∧ s.boot.controlUp = true ∧ s.atr.certsReady = false ∧ s.deviceIdSigns s.attBody = true ∧ s.hammerUnavailable = false ∧ s.clusterDrbg = true ∧ s.tryOwn.signRun (1 + s.leafBodies.length) k = (true, t) ∧ u = { t.drawn with cru := { t.cru with store := { t.cru.store with deviceId := [] } } } ∧ v = { u.drawn with atr := { u.atr with attCert := certificate t.attBody t.cru.store.deviceId t.draws, leafCerts := u.leafBodies.map (fun b => certificate b t.cru.store.attKey u.draws), certsReady := true } }) :=
  ⟨⟨w, hq, 4096, ready (by decide +kernel), by decide +kernel⟩,
   ⟨wa { oldestGen := 5 }, hq, 4, 4096, 4096, _, ready (by decide +kernel), rfl, by decide +kernel⟩,
   ⟨wa { oldestGen := 5 }, hq, 5, 1, 4096, _, ready (by decide +kernel), rfl, by decide +kernel⟩,
   ⟨w, hq, 0, 48, 4096, {}, [], [], ready (by decide +kernel), (by intro e <;> cases e), rfl, rfl, (by simp [sha384]), by decide +kernel⟩,
   ⟨w, hq, 0, 0, 4096, {}, [], [], ready (by decide +kernel), (by intro e <;> cases e), rfl, rfl, (by simp [sha384]), by decide +kernel⟩,
   ⟨w, hq, 0, 4096, ready (by decide +kernel), by decide +kernel⟩,
   ⟨w, hq, 0, 0, 4096, _, _, ready (by decide +kernel), rfl, rfl, by decide +kernel⟩,
   ⟨wa { leafCerts := [[1]] }, hq, 2, 2, 4096, _, _, ready (by decide +kernel), rfl, rfl, by decide +kernel⟩,
   ⟨w, hq, 4096, 4096, ready (by decide +kernel), by decide +kernel⟩,
   fun d0 hv => ⟨{ w with cru := { w.cru with lcState := 4 } }, hq, 4096, 4096, d0, ready (by decide +kernel), hv, by decide +kernel⟩,
   ⟨{ w with cru := { w.cru with lcState := 4 } }, hq, 0, 4096, [], [], ready (by decide +kernel), by decide +kernel⟩,
   ⟨w, by decide +kernel⟩,
   ⟨w, by decide +kernel⟩,
   fun s0 t0 k0 hv => ⟨s0, t0, _, _, k0, hv.1, hv.2.1, hv.2.2.1, hv.2.2.2.1, hv.2.2.2.2.1, hv.2.2.2.2.2.1, hv.2.2.2.2.2.2, rfl, rfl⟩⟩

/-- What ControlMessagesAreAnswered assumes is met. -/
theorem witness_ControlMessagesAreAnswered :
    (∃ s : State, ∃ b : Nat, s.boot.controlUp = true ∧ b < 5) ∧
    (∃ s : State, ∃ b : Nat, ∃ op, ∃ e, s.boot.controlUp = true ∧ b < 5 ∧ op ≤ 1 ∧ e ≠ 0 ∧ e < 255) ∧
    (∃ s : State, ∃ b : Nat, ∃ m, s.boot.controlUp = true ∧ b < 5 ∧ m ∈ mctpTypes) ∧
    (∃ s : State, ∃ b : Nat, ∃ m, s.boot.controlUp = true ∧ b < 5 ∧ m ∉ mctpTypes ∧ m ≠ 0xFF) ∧
    (∃ s : State, ∃ b : Nat, s.boot.controlUp = true ∧ b < 5) :=
  ⟨⟨w, 4, by decide +kernel⟩,
   ⟨w, 4, 1, 254, by decide +kernel⟩,
   ⟨w, 4, 6, by decide +kernel⟩,
   ⟨w, 4, 4, by decide +kernel⟩,
   ⟨w, 4, by decide +kernel⟩⟩

/-- What RequestsAreAnswered assumes is met. -/
theorem witness_RequestsAreAnswered :
    (∃ s : State, ∃ t : State, ∃ p, ∃ r, ∃ rsp, rsp = ([0x10, 0x04, 0, 0, 0, 3] ++ le 2 0x1100 ++ le 2 0x1200 ++ le 2 0x1300 : Bytes) ∧ s.mctpUp p.binding = true ∧ p.session = none ∧ reqVersion r = 0x10 ∧ s.connRoom p = some t) ∧
    (∃ s : State, ∃ p, ∃ r, ∃ c, ∃ rsp, rsp = ([byte (reqVersion r), 0x61, 0, 0, 0, 14, 0, 0] ++ le 4 (capFlags (reqVersion r)) ++ (if 0x12 ≤ reqVersion r then le 4 4096 ++ le 4 4096 else []) : Bytes) ∧ s.mctpUp p.binding = true ∧ p.session = none ∧ s.connOf p = some c ∧ c.stage = 0 ∧ c.version = 0 ∧ (reqVersion r = 0x11 ∨ reqVersion r = 0x12 ∨ reqVersion r = 0x13)) ∧
    (∃ s : State, ∃ p, ∃ r, ∃ c, ∃ rsp, rsp = ([byte c.replyVersion, 0x63, 3, 0] ++ le 2 48 ++ [1, if 0x12 ≤ c.replyVersion then 2 else 0] ++ le 4 4 ++ le 4 128 ++ le 4 2 ++ zeros 16 ++ [2, 0x20] ++ le 2 16 ++ [3, 0x20] ++ le 2 2 ++ [5, 0x20] ++ le 2 1 : Bytes) ∧ s.mctpUp p.binding = true ∧ p.session = none ∧ s.connOf p = some c ∧ c.stage = 1 ∧ reqVersion r = c.version ∧ algsOffered r c.replyVersion = true) ∧
    (∃ s : State, ∃ p, ∃ r, ∃ c, ∃ v, ∃ rsp, v = c.replyVersion ∧ rsp = [byte v, 0x01, if v = 0x13 then 3 else 0, byte s.slotMask] ++ sha384 (s.certChain 0) ++ (if s.slotMask = 3 then sha384 (s.certChain 1) else []) ∧ s.mctpUp p.binding = true ∧ p.session = none ∧ s.connOf p = some c ∧ c.stage = 2 ∧ reqVersion r = c.version ∧ s.atr.certsReady = true) ∧
    (∀ (n0 : Nat), n0 < (wc.certChain 0).length → ∃ s : State, ∃ p, ∃ r, ∃ c, ∃ v, ∃ k, ∃ left, ∃ part, ∃ rsp, v = c.replyVersion ∧ fld r 4 2 < (s.certChain k).length ∧ left = (s.certChain k).drop (fld r 4 2) ∧ part = left.take (min 1024 (fld r 6 2)) ∧ rsp = [byte v, 0x02, byte k, 0] ++ le 2 part.length ++ le 2 (left.length - part.length) ++ part ∧ s.mctpUp p.binding = true ∧ p.session = none ∧ s.connOf p = some c ∧ c.stage = 2 ∧ reqVersion r = c.version ∧ s.atr.certsReady = true ∧ k = fld r 2 1 % 16 ∧ s.slotMask.testBit k = true) ∧
    (∃ s : State, ∃ p, ∃ r, ∃ c, ∃ v, v = c.replyVersion ∧ s.mctpUp p.binding = true ∧ p.session = none ∧ s.connOf p = some c ∧ c.stage = 2 ∧ reqVersion r = c.version ∧ s.atr.certsReady = false) ∧
    (∃ s : State, ∃ p, ∃ r, ∃ c, ∃ v, ∃ rsp, v = c.replyVersion ∧ rsp = [byte v, 0x60, byte s.blocksPresent.length, 0, 0] ++ le 3 0 ++ s.random 32 ++ [0, 0] ++ reqContext v r 4 ∧ s.mctpUp p.binding = true ∧ p.session = none ∧ s.connOf p = some c ∧ c.stage = 2 ∧ reqVersion r = c.version ∧ (fld r 2 1).testBit 0 = false ∧ fld r 3 1 = 0) ∧
    (∃ s : State, ∃ p, ∃ r, ∃ c, ∃ v, v = c.replyVersion ∧ s.mctpUp p.binding = true ∧ p.session = none ∧ s.connOf p = some c ∧ c.stage = 2 ∧ reqVersion r = c.version ∧ (fld r 2 1).testBit 0 = true ∧ s.noSigning = true ∧ fld r 3 1 = 0 ∧ s.slotMask.testBit (fld r 36 1 % 16) = true) ∧
    (∃ s : State, ∃ p, ∃ r, ∃ c, ∃ v, v = c.replyVersion ∧ s.mctpUp p.binding = true ∧ p.session = none ∧ s.connOf p = some c ∧ c.stage = 2 ∧ reqVersion r = c.version ∧ (fld r 2 1).testBit 0 = true ∧ s.noSigning = false ∧ s.signsLater = true ∧ fld r 3 1 = 0 ∧ s.slotMask.testBit (fld r 36 1 % 16) = true) ∧
    (∃ s : State, ∃ p, ∃ r, ∃ c, ∃ v, ∃ l, ∃ u : State, ∃ sum, ∃ k, ∃ head, ∃ sig, v = c.replyVersion ∧ s.tryOwn.spdmOp 0x02 l = (true, u) ∧ head = [byte v, 0x03, byte k, byte u.slotMask] ++ sha384 (u.certChain k) ++ u.random 32 ++ sum ++ [0, 0] ++ reqContext v r 36 ∧ sig = u.drawn.spdmSign v "responder-challenge_auth signing" (c.transcript ++ c.certMsgs ++ r ++ head) ∧ s.mctpUp p.binding = true ∧ p.session = none ∧ s.connOf p = some c ∧ c.stage = 2 ∧ reqVersion r = c.version ∧ s.noSigning = false ∧ s.signsLater = false ∧ s.summary (fld r 3 1) = some sum ∧ k = fld r 2 1 % 16 ∧ s.slotMask.testBit k = true) ∧
    (∃ s : State, ∃ p, ∃ r, ∃ c, ∃ v, ∃ sum, v = c.replyVersion ∧ s.mctpUp p.binding = true ∧ p.session = none ∧ s.connOf p = some c ∧ c.stage = 2 ∧ reqVersion r = c.version ∧ s.noSigning = false ∧ s.signsLater = false ∧ s.summary (fld r 2 1) = some sum ∧ s.slotMask.testBit (fld r 3 1 % 16) = true ∧ pointOk p384 48 (0x04 :: slice r 40 96) = false) ∧
    (∃ s : State, ∃ p, ∃ r, ∃ c, ∃ v, ∃ sum, v = c.replyVersion ∧ s.mctpUp p.binding = true ∧ p.session = none ∧ s.connOf p = some c ∧ c.stage = 2 ∧ reqVersion r = c.version ∧ s.noSigning = false ∧ s.signsLater = false ∧ s.summary (fld r 2 1) = some sum ∧ s.slotMask.testBit (fld r 3 1 % 16) = true ∧ pointOk p384 48 (0x04 :: slice r 40 96) = true ∧ 8 ≤ s.atr.sessions.length) ∧
    (∃ s : State, ∃ p, ∃ r, ∃ c, ∃ v, ∃ l, ∃ sum, ∃ w : State, v = c.replyVersion ∧ s.tryOwn.keyOps l = (true, w) ∧ s.mctpUp p.binding = true ∧ p.session = none ∧ s.connOf p = some c ∧ c.stage = 2 ∧ reqVersion r = c.version ∧ s.noSigning = false ∧ s.signsLater = false ∧ s.summary (fld r 2 1) = some sum ∧ s.slotMask.testBit (fld r 3 1 % 16) = true ∧ pointOk p384 48 (0x04 :: slice r 40 96) = true ∧ s.atr.sessions.length < 8 ∧ w.waitsLane = false) ∧
    (∃ s : State, ∃ n, s.systemFull = false ∧ s.ownLane [] = some n) ∧
    (∃ s : State, ∃ p, ∃ r, ∃ c, ∃ n, ∃ x, s.mctpUp p.binding = true ∧ p.session = some n ∧ s.connOf p = some c ∧ c.stage = 2 ∧ reqVersion r = c.version ∧ s.sessOf p = some x ∧ x.established = true) ∧
    (∃ s : State, ∃ p, ∃ r, ∃ c, ∃ n, ∃ x, s.mctpUp p.binding = true ∧ p.session = some n ∧ s.connOf p = some c ∧ c.stage = 2 ∧ reqVersion r = c.version ∧ s.sessOf p = some x ∧ x.established = true ∧ 1 ≤ fld r 2 1 ∧ fld r 2 1 ≤ 3) ∧
    (∃ s : State, ∃ p, s.mctpUp p.binding = true ∧ p.session = none ∧ s.connOf p = none) ∧
    (∃ s : State, ∃ x, x ∈ s.atr.sessions ∧ x.lastMsg + 120000000 ≤ s.now) ∧
    ((∃ (s : State) (p : Peer) (r : Bytes) (c : Connection) (n : Nat) (x : SpdmSession), s.mctpUp p.binding = true ∧ p.session = some n ∧ s.connOf p = some c ∧ c.stage = 2 ∧ reqVersion r = c.version ∧ s.sessOf p = some x ∧ x.established = false ∧ (fld r 2 1).testBit 0 = false ∧ slice r 4 48 = verifyData x.secret "requester" (x.transcript ++ r.take 4))) :=
  ⟨⟨wc, (wc.connRoom pc).getD wc, pc, [0x10], _, rfl, by decide +kernel⟩,
   ⟨{ wc with atr := { wc.atr with connections := [{ cc with stage := 0, version := 0 }] } }, pc, [0x13], { cc with stage := 0, version := 0 }, _, rfl, by decide +kernel⟩,
   ⟨{ wc with atr := { wc.atr with connections := [{ cc with stage := 1 }] } }, pc, [0x12, 0xE3, 4, 0, 60, 0, 1, 2, 128] ++ zeros 3 ++ [2] ++ zeros 19 ++ [2, 32, 16, 0, 3, 32, 2, 0, 4, 32, 128, 0, 5, 32, 1, 0], { cc with stage := 1 }, _, rfl, by decide +kernel⟩,
   ⟨wc, pc, [0x12], cc, _, _, rfl, rfl, by decide +kernel⟩,
   fun n0 hv => ⟨wc, pc, [0x12, 0x82, 0, 0] ++ le 2 0, cc, _, 0, _, _, _, rfl, (Nat.lt_of_le_of_lt (Nat.zero_le n0) hv), rfl, rfl, rfl, by decide +kernel⟩,
   ⟨{ wc with atr := { wc.atr with certsReady := false } }, pc, [0x12], cc, _, rfl, by decide +kernel⟩,
   ⟨wc, pc, [0x12], cc, _, _, rfl, rfl, by decide +kernel⟩,
   ⟨{ wc with emb := { wc.emb with latch := true } }, pc, [0x12, 0xE0, 1], cc, _, rfl, by decide +kernel⟩,
   ⟨{ wc with atr := { wc.atr with certsReady := false } }, pc, [0x12, 0xE0, 1], cc, _, rfl, by decide +kernel⟩,
   ⟨wcl, pc, [0x12], cc, _, 0, _, [], 0, _, _, rfl, rfl, rfl, rfl, by decide +kernel⟩,
   ⟨wca, pc, [0x12], cc, _, [], rfl, by decide +kernel⟩,
   ⟨{ wca with atr := { wca.atr with sessions := [{}, {}, {}, {}, {}, {}, {}, {}] } }, pc, keReq, cc, _, [], rfl, by decide +kernel⟩,
   ⟨wca, pc, keReq, cc, _, 0, [], _, rfl, rfl, by decide +kernel⟩,
   ⟨wl, 0, by decide +kernel⟩,
   ⟨{ wc with atr := { wc.atr with sessions := [{ id := 3, eid := 9, established := true }] } }, pc (some 3), [0x12], cc, 3, { id := 3, eid := 9, established := true }, by decide +kernel⟩,
   ⟨{ wc with atr := { wc.atr with sessions := [{ id := 3, eid := 9, established := true }] } }, pc (some 3), [0x12, 0xE9, 3], cc, 3, { id := 3, eid := 9, established := true }, by decide +kernel⟩,
   ⟨w, pc, by decide +kernel⟩,
   ⟨{ wc with emb := { wc.emb with dmt := 120000000 }, atr := { wc.atr with sessions := [{ id := 3 }] } }, { id := 3 }, by decide +kernel⟩,
   ⟨{ wc with atr := { wc.atr with sessions := [{ id := 3, eid := 9 }] } }, pc (some 3), [0x12, 0xE5, 0, 0] ++ verifyData [] "requester" ([] ++ [0x12, 0xE5, 0, 0]), cc, 3, { id := 3, eid := 9 }, by decide +kernel, rfl, by decide +kernel, rfl, by decide +kernel, by decide +kernel, rfl, by decide +kernel, finish_slice _⟩⟩

/-- What RecoveryCommandsComplete assumes is met. -/
theorem witness_RecoveryCommandsComplete :
    (∃ s : State, ∃ h : Hdr, ∃ a, ∃ l, Ready s h (opRecoverStatus.on (le 8 a)) ∧ l = (List.range 32).filter (fun d => (s.journal d).state != .free) ∧ s.writeAddrOk h a = true) ∧
    (∃ s : State, ∃ h : Hdr, ∃ d, ∃ k, ∃ n, ∃ a, ∃ b : Bytes, ∃ v, ∃ o, ∃ op, ∃ r, op = (if k = 1 then { opRecoverStage with version := 0x12 } else opRecoverStage).on (le 1 d ++ le 1 k ++ zeros 2 ++ le 4 n ++ le 8 a) ∧ Ready s h op ∧ (k = 0 → ∃ q, h.src = .pcie q) ∧ r = (s.started h).tryOwn.stageManifest d o.slot (if k = 1 then 2 else 1) a ((s.inputOf h a n b).take n) v ∧ k ≤ 1 ∧ d < 32 ∧ 0 < n ∧ s.readAddrOk h a n = true ∧ s.rfuOp d = some o ∧ s.transportOk h.src o.slot = true ∧ (o.phase = .search ∨ o.phase = .waitSource) ∧ r.2.waitsLane = false) ∧
    (∃ s : State, ∃ h : Hdr, ∃ d, ∃ k, ∃ n, ∃ a, ∃ b : Bytes, ∃ v, ∃ o, ∃ op, ∃ r, op = (if k = 1 then { opRecoverStage with version := 0x12 } else opRecoverStage).on (le 1 d ++ le 1 k ++ zeros 2 ++ le 4 n ++ le 8 a) ∧ Ready s h op ∧ (k = 0 → ∃ q, h.src = .pcie q) ∧ r = (s.started h).tryOwn.stageManifest d o.slot (if k = 1 then 2 else 1) a ((s.inputOf h a n b).take n) v ∧ k ≤ 1 ∧ d < 32 ∧ 0 < n ∧ s.readAddrOk h a n = true ∧ s.rfuOp d = some o ∧ s.transportOk h.src o.slot = true ∧ o.phase ≠ .search ∧ o.phase ≠ .waitSource ∧ o.phase ≠ .idle) ∧
    (∀ (s0 t0 : State) (x0 : RawManifest) (o0 : RfuOp) (st0 : Nat), s0.judgeManifest 0 0 [] 0 = ((st0, some x0), t0) ∧ (t0.chooseSource 0 1 0 (0 + dataOffset x0.len) x0).rfuOp 0 = some o0 → ∃ s : State, ∃ t : State, ∃ d, ∃ n, ∃ w, ∃ a, ∃ b, ∃ v, ∃ st, ∃ x, ∃ o, s.judgeManifest n d b v = ((st, some x), t) ∧ (t.chooseSource d w 0 (a + dataOffset x.len) x).rfuOp d = some o) ∧
    (∃ s : State, ∃ t : State, ∃ d, ∃ n, ∃ b, ∃ v, ∃ st, s.judgeManifest n d b v = ((st, none), t)) ∧
    (∃ s : State, ∃ h : Hdr, ∃ d, ∃ f, ∃ n, ∃ a, ∃ b : Bytes, ∃ o, ∃ m, ∃ r, ∃ t, Ready s h (opRecoverData.on (le 1 d ++ zeros 1 ++ le 2 f ++ le 2 n ++ zeros 2 ++ le 8 a)) ∧ (s.started h).offerBlocks d m { hdr := s.stamp h, first := f, count := n, data := s.inputOf h a (65536 * n) b } = (some r, t) ∧ d < 32 ∧ 0 < n ∧ n ≤ 64 ∧ s.readAddrOk h a (65536 * n) = true ∧ s.rfuOp d = some o ∧ o.manifest = some m ∧ o.source = 2 ∧ (o.phase = .waitPort ∨ o.phase = .write) ∧ (s.storedFrom d m f n).length = n ∧ o.dataWait = []) ∧
    (∃ s : State, ∃ h : Hdr, ∃ d, ∃ f, ∃ n, ∃ a, ∃ o, ∃ m, Ready s h (opRecoverData.on (le 1 d ++ zeros 1 ++ le 2 f ++ le 2 n ++ zeros 2 ++ le 8 a)) ∧ d < 32 ∧ 0 < n ∧ n ≤ 64 ∧ s.readAddrOk h a (65536 * n) = true ∧ s.rfuOp d = some o ∧ o.manifest = some m ∧ o.source = 2 ∧ (o.phase = .waitPort ∨ o.phase = .write) ∧ (s.storedFrom d m f n).length = n ∧ o.dataWait ≠ []) ∧
    (∃ s : State, ∃ h : Hdr, ∃ n, Ready s h (opRecoverFull.on (le 1 n)) ∧ (s.slot n).state = .held ∧ (s.started h).slotIsolated n = true) ∧
    (∃ s : State, ∃ h : Hdr, ∃ n, Ready s h (opRecoverFull.on (le 1 n)) ∧ (s.started h).slotCommand n [.released, .held] = 0 ∧ (s.slot n).state ≠ .recovering ∧ ¬ ((s.slot n).state = .held ∧ (s.started h).slotIsolated n = true)) ∧
    (∃ s : State, ∃ h : Hdr, ∃ n, Ready s h (opRecoverFull.on (le 1 n)) ∧ (s.slot n).state = .recovering) ∧
    (∃ s : State, ∃ h : Hdr, ∃ n, Ready s h (opRecoverAbort.on (le 1 n)) ∧ (∀ o ∈ s.rfu.ops, o.slot ≠ n)) ∧
    (∃ s : State, ∃ h : Hdr, ∃ n, ∃ o, Ready s h (opRecoverAbort.on (le 1 n)) ∧ o ∈ s.rfu.ops ∧ o.slot = n ∧ (((s.started h).stopOps n true).slot n).state = .recovering) ∧
    (∃ s : State, ∃ h : Hdr, ∃ n, ∃ o, Ready s h (opRecoverAbort.on (le 1 n)) ∧ o ∈ s.rfu.ops ∧ o.slot = n ∧ (((s.started h).stopOps n true).slot n).state ≠ .recovering) ∧
    (∃ s : State, ∃ h : Hdr, ∃ v, Ready s h (opRecoverArbAdvance.on (le 1 v)) ∧ v ≤ 128) ∧
    (∃ s : State, ∃ h : Hdr, ∃ a, Ready s h (opCartStatus.on (le 8 a)) ∧ s.writeAddrOk h a = true) ∧
    (∃ s : State, ∃ h : Hdr, ∃ k, ∃ n, ∃ a, Ready s h (opCartCatalogue.on (le 1 k ++ zeros 3 ++ le 4 n ++ le 8 a)) ∧ k < 4 ∧ s.writeAddrOk h a = true ∧ (s.cart k).raw.length ≤ n ∧ (s.cart k).present = true) ∧
    (∃ s : State, ∃ h : Hdr, ∃ k, ∃ n, ∃ a, Ready s h (opCartCatalogue.on (le 1 k ++ zeros 3 ++ le 4 n ++ le 8 a)) ∧ k < 4 ∧ s.writeAddrOk h a = true ∧ (s.cart k).raw.length ≤ n ∧ (s.cart k).present = false) ∧
    (∃ s : State, ∃ h : Hdr, ∃ a, Ready s h (opCartLife.on (le 8 a)) ∧ s.writeAddrOk h a = true) ∧
    (∃ s : State, ∃ h : Hdr, ∃ k, Ready s h (opCartEject.on (le 1 k)) ∧ k < 4 ∧ (s.cart k).present = false) ∧
    (∃ s : State, ∃ h : Hdr, ∃ k, Ready s h (opCartEject.on (le 1 k)) ∧ k < 4 ∧ (s.cart k).present = true ∧ s.cartInUse k = true) ∧
    (∃ s : State, ∃ h : Hdr, ∃ k, Ready s h (opCartEject.on (le 1 k)) ∧ k < 4 ∧ (s.cart k).present = true ∧ s.cartInUse k = false) ∧
    (∃ s : State, ∃ h : Hdr, ∃ k, Ready s h (opCartRescan.on (le 1 k)) ∧ k < 4 ∧ (s.cart k).present = false) ∧
    (∃ s : State, ∃ h : Hdr, ∃ k, Ready s h (opCartRescan.on (le 1 k)) ∧ k < 4 ∧ (s.cart k).present = true ∧ s.cartInUse k = false) :=
  ⟨⟨w, hq, 4096, _, ready (by decide +kernel), rfl, by decide +kernel⟩,
   ⟨wr { phase := .search }, hq, 0, 0, 64, 4096, [], 0, { phase := .search }, _, _, rfl, ready (by decide +kernel), (fun _ => ⟨0, rfl⟩), rfl, by decide +kernel⟩,
   ⟨wr { phase := .write }, hq, 0, 0, 64, 4096, [], 0, { phase := .write }, _, _, rfl, ready (by decide +kernel), (fun _ => ⟨0, rfl⟩), rfl, by decide +kernel⟩,
   fun s0 t0 x0 o0 st0 hv => ⟨s0, t0, 0, 0, 1, 0, [], 0, st0, x0, o0, hv.1, hv.2⟩,
   ⟨w, _, 0, 0, [], 0, _, rfl⟩,
   ⟨wr { phase := .write, source := 2, manifest := some (man []), staged := [{ block := 0 }] }, hq, 0, 0, 1, 4096, [], { phase := .write, source := 2, manifest := some (man []), staged := [{ block := 0 }] }, man [], _, _, ready (by decide +kernel), rfl, by decide +kernel⟩,
   ⟨wr { phase := .write, source := 2, manifest := some (man []), dataWait := [{ hdr := hq }] }, hq, 0, 0, 1, 4096, { phase := .write, source := 2, manifest := some (man []), dataWait := [{ hdr := hq }] }, man [], ready (by decide +kernel), by decide +kernel⟩,
   ⟨{ wp [(0x10, zeros 2048 ++ 1 :: zeros 15), (0x11, 1 :: 0x80 :: zeros 6), (0x30, zeros 32 ++ [0x1F])] with strs := { bus0 := { state := .isolated } } }, hq, 0, ready (by decide +kernel), by decide +kernel⟩,
   ⟨wslots [(0, { state := .held })], hq, 0, ready (by decide +kernel), by decide +kernel⟩,
   ⟨wslots [(0, { state := .recovering })], hq, 0, ready (by decide +kernel), by decide +kernel⟩,
   ⟨w, hq, 0, ready (by decide +kernel), (fun o h => by cases h)⟩,
   ⟨{ wslots [(0, { state := .recovering })] with rfu := { ops := [{}] } }, hq, 0, {}, ready (by decide +kernel), by decide +kernel⟩,
   ⟨{ wslots [(0, { state := .held })] with rfu := { ops := [{}] } }, hq, 0, {}, ready (by decide +kernel), by decide +kernel⟩,
   ⟨w, hq, 128, ready (by decide +kernel), by decide +kernel⟩,
   ⟨w, hq, 4096, ready (by decide +kernel), by decide +kernel⟩,
   ⟨wk { present := true, raw := [1, 2] }, hq, 3, 2, 4096, ready (by decide +kernel), by decide +kernel⟩,
   ⟨w, hq, default, default, 4096, ready (by decide +kernel), by decide +kernel⟩,
   ⟨w, hq, 4096, ready (by decide +kernel), by decide +kernel⟩,
   ⟨w, hq, 3, ready (by decide +kernel), by decide +kernel⟩,
   ⟨{ wk { present := true } with rfu := { ops := [{ source := 0, cartSlot := 3, phase := .write, manifest := some {} }] } }, hq, 3, ready (by decide +kernel), by decide +kernel⟩,
   ⟨wk { present := true }, hq, 3, ready (by decide +kernel), by decide +kernel⟩,
   ⟨w, hq, 3, ready (by decide +kernel), by decide +kernel⟩,
   ⟨wk { present := true }, hq, 3, ready (by decide +kernel), by decide +kernel⟩⟩

/-- What RecoveryEventsComplete assumes is met. -/
theorem witness_RecoveryEventsComplete :
    (∃ s : State, ∃ d, ∃ o, s.rfuOp d = some o ∧ s.boot.controlUp = true ∧ o.phase = .search) ∧
    (∃ s : State, ∃ d, ∃ o, ∃ x, ∃ p, s.rfuOp d = some o ∧ s.boot.controlUp = true ∧ o.phase = .idle ∧ s.nextOp = some x ∧ x.device = d ∧ s.freePosition = some p) ∧
    (∃ s : State, ∃ d, ∃ o, s.rfuOp d = some o ∧ s.boot.controlUp = true ∧ o.phase = .waitSource ∧ o.waitSince + s.sourceWait ≤ s.now) ∧
    (∃ s : State, ∃ d, ∃ o, s.rfuOp d = some o ∧ s.boot.controlUp = true ∧ o.phase = .search ∧ o.wantDigest ≠ [] ∧ o.anySource = false ∧ o.waitSince + s.cartWait ≤ s.now) ∧
    (∃ s : State, ∃ t : State, ∃ u : State, ∃ d, ∃ o, ∃ m, ∃ i, ∃ b : Bytes, s.rfuOp d = some o ∧ o.manifest = some m ∧ u = { s with io := { s.io with stagedFrom := some (if o.source = 0 then o.cartSlot else 4, o.blockAddr m i) } } ∧ t = (if o.source = 0 then u.useCart o.cartSlot b.length else u) ∧ b.length = 65536 ∧ leafOf b = m.leafAt i ∧ s.boot.controlUp = true ∧ (o.phase = .waitPort ∨ o.phase = .write) ∧ o.source ≠ 2 ∧ (o.source = 0 → (s.cart o.cartSlot).answers = true) ∧ o.stopping = false ∧ i ∈ s.toStage o ∧ s.stageRoom ≠ 0 ∧ s.streamLane d ≠ none) ∧
    (∃ s : State, ∃ t : State, ∃ u : State, ∃ d, ∃ o, ∃ m, ∃ i, ∃ b : Bytes, u = { s with io := { s.io with stagedFrom := some (if o.source = 0 then o.cartSlot else 4, o.blockAddr m i) } } ∧ t = (if o.source = 0 then u.useCart o.cartSlot b.length else u) ∧ ¬ (b.length = 65536 ∧ leafOf b = m.leafAt i) ∧ s.rfuOp d = some o ∧ o.manifest = some m ∧ s.boot.controlUp = true ∧ (o.phase = .waitPort ∨ o.phase = .write) ∧ o.source ≠ 2 ∧ (o.source = 0 → (s.cart o.cartSlot).answers = true) ∧ o.stopping = false ∧ i ∈ s.toStage o ∧ s.stageRoom ≠ 0 ∧ s.streamLane d ≠ none ∧ o.reread = some i) ∧
    (∃ s : State, ∃ t : State, ∃ u : State, ∃ d, ∃ o, ∃ m, ∃ i, ∃ b : Bytes, u = { s with io := { s.io with stagedFrom := some (if o.source = 0 then o.cartSlot else 4, o.blockAddr m i) } } ∧ t = (if o.source = 0 then u.useCart o.cartSlot b.length else u) ∧ ¬ (b.length = 65536 ∧ leafOf b = m.leafAt i) ∧ s.rfuOp d = some o ∧ o.manifest = some m ∧ s.boot.controlUp = true ∧ (o.phase = .waitPort ∨ o.phase = .write) ∧ o.source ≠ 2 ∧ (o.source = 0 → (s.cart o.cartSlot).answers = true) ∧ o.stopping = false ∧ i ∈ s.toStage o ∧ s.stageRoom ≠ 0 ∧ s.streamLane d ≠ none ∧ o.reread ≠ some i) ∧
    (∃ s : State, ∃ t : State, ∃ u : State, ∃ d, ∃ o, ∃ i, ∃ x : Nat, t = s.updJournal d (fun j => { j with done := j.set.filter (fun x => j.done.contains x || x == i), doneCount := j.doneCount + 1 }) ∧ u = ({ t with rfu := { t.rfu with blocksWritten := satAdd 32 t.rfu.blocksWritten 1 } } : State).updOp d (fun o => { o with writing := none, pages := 0, blockDone := false, staged := o.staged.filter (fun x => x.block != i) }) ∧ s.rfuOp d = some o ∧ o.writing = some i ∧ o.blockDone = true ∧ s.boot.controlUp = true) ∧
    (∃ s : State, ∃ d, d < 32 ∧ s.boot.guardUp = true) ∧
    (∃ s : State, ∃ d, ∃ v, (s.shadow d).confirm = true ∧ (s.shadow d).confirmFrom ≤ s.now ∧ statusValid v = true ∧ s.wip (d / 2) v = false) :=
  ⟨⟨wr { phase := .search }, default, { phase := .search }, by decide +kernel⟩,
   ⟨wr {}, default, {}, {}, default, by decide +kernel⟩,
   ⟨wr { phase := .waitSource }, default, { phase := .waitSource }, by decide +kernel⟩,
   ⟨wr { phase := .search, wantDigest := [1] }, default, { phase := .search, wantDigest := [1] }, by decide +kernel⟩,
   ⟨wr { phase := .write, source := 1, manifest := some (man (leafOf (List.replicate 65536 0))) }, _, _, default, { phase := .write, source := 1, manifest := some (man (leafOf (List.replicate 65536 0))) }, man (leafOf (List.replicate 65536 0)), default, List.replicate 65536 0, rfl, rfl, rfl, rfl, List.length_replicate, leaf_matches _, by decide +kernel⟩,
   ⟨wr { phase := .write, source := 1, manifest := some (man []), reread := some 0 }, _, _, 0, { phase := .write, source := 1, manifest := some (man []), reread := some 0 }, man [], 0, [], rfl, rfl, (fun h => absurd h.1 (by decide)), by decide +kernel⟩,
   ⟨wr { phase := .write, source := 1, manifest := some (man []) }, _, _, 0, { phase := .write, source := 1, manifest := some (man []) }, man [], 0, [], rfl, rfl, (fun h => absurd h.1 (by decide)), by decide +kernel⟩,
   ⟨wr { phase := .write, writing := some 0, blockDone := true }, _, _, 0, { phase := .write, writing := some 0, blockDone := true }, 0, 0, rfl, rfl, by decide +kernel⟩,
   ⟨w, 31, by decide +kernel⟩,
   ⟨{ w with apa := { ports := [(0, { dev0 := { confirm := true } })] } }, 0, 0, by decide +kernel⟩⟩

/-- What CartridgeEventsComplete assumes is met. -/
theorem witness_CartridgeEventsComplete :
    (∃ s : State, ∃ k : Nat, ∃ t, t = s.updCart k (fun x => { x with present := true, detLow := true, detSince := s.now }) ∧ k < 4 ∧ s.boot.pwrOk = true ∧ (s.cart k).present = false) ∧
    (∀ (i : CartIdent), (wk { state := .identifying }).identGood i = true → ∃ s : State, ∃ k : Nat, ∃ i, s.identGood i = true ∧ k < 4 ∧ s.boot.pwrOk = true ∧ (s.cart k).state = .identifying ∧ (s.cart k).ocrSince ≤ s.now ∧ ((s.cart k).lastPoll < (s.cart k).ocrSince ∨ (s.cart k).lastPoll + 10000 ≤ s.now)) ∧
    (∃ s : State, ∃ k : Nat, ∃ i, k < 4 ∧ s.boot.pwrOk = true ∧ (s.cart k).state = .identifying ∧ (s.cart k).ocrSince ≤ s.now ∧ ((s.cart k).lastPoll < (s.cart k).ocrSince ∨ (s.cart k).lastPoll + 10000 ≤ s.now) ∧ s.identGood i = false) ∧
    (∃ s : State, ∃ k : Nat, k < 4 ∧ s.boot.pwrOk = true ∧ (s.cart k).state = .identifying ∧ (s.cart k).ocrSince ≤ s.now ∧ ((s.cart k).lastPoll < (s.cart k).ocrSince ∨ (s.cart k).lastPoll + 10000 ≤ s.now) ∧ (s.cart k).ocrSince + 1000000 ≤ s.now) ∧
    (∃ s : State, ∃ k : Nat, ∃ t, t = s.updCart k (fun x => { x with lastPoll := s.now }) ∧ k < 4 ∧ s.boot.pwrOk = true ∧ (s.cart k).state = .identifying ∧ (s.cart k).ocrSince ≤ s.now ∧ ((s.cart k).lastPoll < (s.cart k).ocrSince ∨ (s.cart k).lastPoll + 10000 ≤ s.now) ∧ s.now < (s.cart k).ocrSince + 1000000) ∧
    (∃ s : State, ∃ k : Nat, k < 4 ∧ s.boot.pwrOk = true ∧ (s.cart k).usable = true) ∧
    (∃ s : State, ∃ k : Nat, k < 4 ∧ s.boot.pwrOk = true ∧ (s.cart k).usable = true ∧ (s.cart k).retries < 3) ∧
    (∃ s : State, ∃ k : Nat, ∃ t : State, ∃ u : State, t = s.updCart k (fun x => { x with retries := 0, lastUsed := s.now }) ∧ u = ({ t with cby := { t.cby with errorHit := true, crcErrors := satAdd 32 t.cby.crcErrors 1 } } : State).updLife (s.cart k).cid (fun e => { e with crcErrors := satAdd 16 e.crcErrors 1 }) ∧ k < 4 ∧ s.boot.pwrOk = true ∧ (s.cart k).usable = true ∧ 3 ≤ (s.cart k).retries ∧ u.reader k = none) ∧
    (∃ s : State, ∃ k : Nat, ∃ t : State, ∃ u : State, ∃ d, ∃ i, t = s.updCart k (fun x => { x with retries := 0, lastUsed := s.now }) ∧ u = ({ t with cby := { t.cby with errorHit := true, crcErrors := satAdd 32 t.cby.crcErrors 1 } } : State).updLife (s.cart k).cid (fun e => { e with crcErrors := satAdd 16 e.crcErrors 1 }) ∧ k < 4 ∧ s.boot.pwrOk = true ∧ (s.cart k).usable = true ∧ 3 ≤ (s.cart k).retries ∧ u.reader k = some (d, i)) ∧
    (∃ s : State, ∃ k : Nat, ∃ c, ∃ t, t = (s.removeCart k).updCart k (fun x => { x with present := true, detLow := true, detSince := s.now }) ∧ k < 4 ∧ s.boot.pwrOk = true ∧ (s.cart k).usable = true ∧ c ≠ (s.cart k).cid) ∧
    (∃ s : State, ∃ k : Nat, k < 4 ∧ s.boot.pwrOk = true ∧ (s.cart k).usable = true ∧ (s.cart k).reacquire = none) ∧
    (∃ s : State, ∃ k : Nat, k < 4 ∧ s.boot.pwrOk = true ∧ (s.cart k).usable = true ∧ (s.cart k).answers = true ∧ (s.cart k).lastLifeRead + 86400 ≤ s.emb.opSeconds) ∧
    (∃ s : State, ∃ k : Nat, k < 4 ∧ s.boot.pwrOk = true ∧ (s.cart k).present = true) ∧
    (∃ s : State, ∃ k : Nat, k < 4 ∧ s.boot.pwrOk = true ∧ (s.cart k).state = .ready ∧ (s.cart k).lastUsed + 2000000 ≤ s.now) :=
  ⟨⟨w, 3, _, rfl, by decide +kernel⟩,
   fun i hv => ⟨wk { state := .identifying }, 3, i, hv, by decide +kernel⟩,
   ⟨wk { state := .identifying }, 3, {}, by decide +kernel⟩,
   ⟨wk { state := .identifying }, 3, by decide +kernel⟩,
   ⟨wk { state := .identifying, ocrSince := 10 ^ 12 }, 3, _, rfl, by decide +kernel⟩,
   ⟨wk { state := .asleep }, 3, by decide +kernel⟩,
   ⟨wk { state := .ready, retries := 2 }, 3, by decide +kernel⟩,
   ⟨wk { state := .ready, retries := 3 }, 3, _, _, rfl, rfl, by decide +kernel⟩,
   ⟨{ wr { phase := .write, source := 0, cartSlot := 3, position := some 0, manifest := some (man []) } with cby := { slots := [(3, { state := .ready, retries := 3 })] } }, 3, _, _, 0, 0, rfl, rfl, by decide +kernel⟩,
   ⟨wk { state := .asleep, cid := [1] }, 3, [2], _, rfl, by decide +kernel⟩,
   ⟨wk { state := .ready }, 3, by decide +kernel⟩,
   ⟨{ wk { state := .ready, checked := true } with emb := { w.emb with opSeconds := 86400 } }, 3, by decide +kernel⟩,
   ⟨wk { present := true }, 3, by decide +kernel⟩,
   ⟨wk { state := .ready }, 3, by decide +kernel⟩⟩

/-- What CountersReadTheirHighestPosition assumes is met. -/
theorem witness_CountersReadTheirHighestPosition :
    (∃ c : Nat, c < 4) ∧
    (∃ s : State, ∃ c : Nat, c < 4 ∧ (∀ p, p < 128 → (s.otpWord (96 + 2 * c + p / 64)).testBit (p % 64) = false)) ∧
    (∃ s : State, ∃ c : Nat, ∃ p, (∀ q, p < q → q < 128 → (s.otpWord (96 + 2 * c + q / 64)).testBit (q % 64) = false) ∧ c < 4 ∧ p < 128 ∧ (s.otpWord (96 + 2 * c + p / 64)).testBit (p % 64) = true) ∧
    (∃ c : Nat, ∃ v, c < 4 ∧ v ≤ 128) ∧
    (∃ c : Nat, ∃ w : Nat, c < 4 ∧ w ≠ 96 + 2 * c ∧ w ≠ 97 + 2 * c) ∧
    (∃ s : State, ∃ c : Nat, ∃ p, c < 4 ∧ p < s.arb c) :=
  ⟨⟨3, by decide +kernel⟩,
   ⟨State.reset, 3, by decide +kernel⟩,
   ⟨{ State.reset with otp := [(103, 4)] }, 3, 66, above66 (by decide +kernel), by decide +kernel⟩,
   ⟨3, 128, by decide +kernel⟩,
   ⟨3, 0, by decide +kernel⟩,
   ⟨{ State.reset with otp := [(103, 4)] }, 3, 66, by decide +kernel⟩⟩

/-- What LifeCycleCommandsComplete assumes is met. -/
theorem witness_LifeCycleCommandsComplete :
    (∃ s : State, ∃ h : Hdr, Ready s h opLcStatus) ∧
    (∃ s : State, ∃ h : Hdr, ∃ p, ∃ t : State, Ready s h (opCruChallenge.on (le 1 p)) ∧ t = (s.started h).useD0.drawn ∧ 1 ≤ p ∧ p ≤ 8 ∧ s.cru.d0.generating = true) ∧
    (∃ s : State, ∃ h : Hdr, ∃ p, ∃ t : State, Ready s h (opCruChallenge.on (le 1 p)) ∧ t = (s.started h).useD0.drawn ∧ 1 ≤ p ∧ p ≤ 8 ∧ s.cru.d0.generating = false) ∧
    (∀ (d0 : Bytes) (x0 : Statement) (t0 : State), (w.started hq).tryOwn.present ((w.inputOf hq 4096 64 d0).take 64) 0 (fun x => targetPurpose 4 x.purpose) = (0, x0, t0) ∧ t0.nextRecord 4 = some 3 ∧ (({ t0.blowIntent 4 3 with cru := { (t0.blowIntent 4 3).cru with lcHit := true, newKey := x0.newKey } } : State).blowCodeword 4 3).restartSoon.waitsLane = false → ∃ s : State, ∃ h : Hdr, ∃ g, ∃ n, ∃ a, ∃ d : Bytes, ∃ v, ∃ x, ∃ t : State, ∃ u : State, ∃ w : State, ∃ i, Ready s h (opLcTransition.on (le 1 g ++ zeros 3 ++ le 4 n ++ le 8 a)) ∧ (s.started h).tryOwn.present ((s.inputOf h a n d).take n) v (fun x => targetPurpose g x.purpose) = (0, x, t) ∧ t.nextRecord g = some i ∧ u = t.blowIntent g i ∧ w = (({ u with cru := { u.cru with lcHit := true, newKey := x.newKey } } : State).blowCodeword g i).restartSoon ∧ w.waitsLane = false ∧ s.readAddrOk h a n = true ∧ (s.started h).transitionRefusal g = 0) ∧
    (∀ (d0 : Bytes) (x0 : Statement) (t0 : State), (w.started hq).tryOwn.present ((w.inputOf hq 4096 64 d0).take 64) 0 (fun x => targetPurpose 4 x.purpose) = (0x590, x0, t0) ∧ t0.waitsLane = false → ∃ s : State, ∃ h : Hdr, ∃ g, ∃ n, ∃ a, ∃ d : Bytes, ∃ v, ∃ x, ∃ t, ∃ st, Ready s h (opLcTransition.on (le 1 g ++ zeros 3 ++ le 4 n ++ le 8 a)) ∧ (s.started h).tryOwn.present ((s.inputOf h a n d).take n) v (fun x => targetPurpose g x.purpose) = (st, x, t) ∧ t.waitsLane = false ∧ s.readAddrOk h a n = true ∧ (s.started h).transitionRefusal g = 0 ∧ st ≠ 0) ∧
    (∃ s : State, ∃ h : Hdr, ∃ g, ∃ n, ∃ a, Ready s h (opLcTransition.on (le 1 g ++ zeros 3 ++ le 4 n ++ le 8 a)) ∧ s.readAddrOk h a n = true ∧ (s.started h).transitionRefusal g ≠ 0) ∧
    (∃ s : State, ∃ h : Hdr, ∃ a, Ready s h (opOwnerKeysRead.on (le 8 a)) ∧ s.writeAddrOk h a = true) ∧
    (∀ (d0 : Bytes) (x0 : Statement) (t0 : State) (k0 : OwnerTable), (w.started hq).tryOwn.present ((w.inputOf hq 4096 64 d0).take 64) 0 (fun x => decide (6 ≤ x.purpose)) = (0, x0, t0) ∧ t0.waitsLane = false ∧ t0.keyChange x0 = (0, k0) → ∃ s : State, ∃ h : Hdr, ∃ n, ∃ a, ∃ d : Bytes, ∃ v, ∃ x, ∃ t, ∃ k, Ready s h (opOwnerKeyChange.on (zeros 4 ++ le 4 n ++ le 8 a)) ∧ (s.started h).tryOwn.present ((s.inputOf h a n d).take n) v (fun x => decide (6 ≤ x.purpose)) = (0, x, t) ∧ t.waitsLane = false ∧ t.keyChange x = (0, k) ∧ s.readAddrOk h a n = true) ∧
    (∀ (d0 : Bytes) (x0 : Statement) (t0 : State) (k0 : OwnerTable), (w.started hq).tryOwn.present ((w.inputOf hq 4096 64 d0).take 64) 0 (fun x => decide (6 ≤ x.purpose)) = (0, x0, t0) ∧ t0.waitsLane = false ∧ t0.keyChange x0 = (0x592, k0) → ∃ s : State, ∃ h : Hdr, ∃ n, ∃ a, ∃ d : Bytes, ∃ v, ∃ x, ∃ t, ∃ k, ∃ st, Ready s h (opOwnerKeyChange.on (zeros 4 ++ le 4 n ++ le 8 a)) ∧ (s.started h).tryOwn.present ((s.inputOf h a n d).take n) v (fun x => decide (6 ≤ x.purpose)) = (0, x, t) ∧ t.waitsLane = false ∧ t.keyChange x = (st, k) ∧ s.readAddrOk h a n = true ∧ st ≠ 0) ∧
    (∃ s : State, ∃ h : Hdr, ∃ n, ∃ a, Ready s h (opDebugGrant.on (zeros 4 ++ le 4 n ++ le 8 a)) ∧ s.readAddrOk h a n = true ∧ s.cru.granted = true) ∧
    (∀ (d0 : Bytes) (x0 : Statement) (t0 : State), (w.started hq).tryOwn.present ((w.inputOf hq 4096 64 d0).take 64) 0 (fun x => x.purpose == 5) = (0, x0, t0) ∧ t0.waitsLane = false → ∃ s : State, ∃ h : Hdr, ∃ n, ∃ a, ∃ d : Bytes, ∃ v, ∃ x, ∃ t : State, ∃ u : State, ∃ w : State, ∃ g, Ready s h (opDebugGrant.on (zeros 4 ++ le 4 n ++ le 8 a)) ∧ (s.started h).tryOwn.present ((s.inputOf h a n d).take n) v (fun x => x.purpose == 5) = (0, x, t) ∧ u = (if 4 ≤ x.level then { t.eraseSigningKeys with cru := { t.eraseSigningKeys.cru with keysWithdrawn := true } } else t) ∧ g = leNat (slice (sha384 ((s.inputOf h a n d).take n)) 0 8) ∧ w = { u with cru := { u.cru with debugLevel := x.level, granted := true, grantId := g, grantHit := true } } ∧ t.waitsLane = false ∧ s.readAddrOk h a n = true ∧ s.cru.granted = false) ∧
    (∃ s : State, ∃ h : Hdr, Ready s h opDebugEnd) ∧
    (∃ s : State, s.cru.granted = true) ∧
    (∃ s : State, ∃ h : Hdr, ∃ n, ∃ a, Ready s h (opRngRead.on (le 4 n ++ zeros 4 ++ le 8 a)) ∧ 1 ≤ n ∧ n ≤ 4096 ∧ s.writeAddrOk h a = true ∧ s.cru.d0.generating = true) ∧
    (∃ s : State, ∃ h : Hdr, ∃ n, ∃ a, Ready s h (opRngRead.on (le 4 n ++ zeros 4 ++ le 8 a)) ∧ 1 ≤ n ∧ n ≤ 4096 ∧ s.writeAddrOk h a = true ∧ s.cru.d0.generating = false) ∧
    (∃ s : State, ∃ h : Hdr, ∃ f, ∃ n, ∃ a, ∃ ws, Ready s h (opOtpRead.on (le 2 f ++ le 2 n ++ zeros 4 ++ le 8 a)) ∧ ws = (List.range n).map (· + f) ∧ rangeOk f n 1024 = true ∧ s.writeAddrOk h a = true) ∧
    (∃ s : State, ∃ p, (s.cru.challenges.get p {}).nonce ≠ [] ∧ (s.cru.challenges.get p {}).expires ≤ s.now) ∧
    (∃ s : State, ∃ t : State, ∃ g, ∃ i, t = s.blowIntent g i ∧ s.boot.pwrOk = true ∧ s.cru.debugLevel = 1 ∧ s.transitionPending = false ∧ s.nextRecord g = some i ∧ (g = s.cru.lcState + 1 ∧ g ≤ 3 ∨ g = 6 ∧ s.cru.lcState ≤ 2)) ∧
    ((∃ (s : State) (g i : Nat), s.boot.pwrOk = true ∧ s.cru.debugLevel = 1 ∧ s.transitionPending = false ∧ s.nextRecord g = some i ∧ g = s.cru.lcState + 1 ∧ g ≤ 3)) :=
  ⟨⟨w, hq, ready (by decide +kernel)⟩,
   ⟨w, hl, 8, _, ready (by decide +kernel), rfl, by decide +kernel⟩,
   ⟨{ w with cru := {} }, hl, 8, _, ready (by decide +kernel), rfl, by decide +kernel⟩,
   fun d0 x0 t0 hv => ⟨w, hq, 4, 64, 4096, d0, 0, x0, t0, _, _, 3, ready (by decide +kernel), hv.1, hv.2.1, rfl, rfl, hv.2.2, by decide +kernel⟩,
   fun d0 x0 t0 hv => ⟨w, hq, 4, 64, 4096, d0, 0, x0, t0, 0x590, ready (by decide +kernel), hv.1, hv.2, by decide +kernel⟩,
   ⟨{ w with boot := { w.boot with update := some {} } }, hq, 4, default, 4096, ready (by decide +kernel), by decide +kernel⟩,
   ⟨w, hq, 4096, ready (by decide +kernel), by decide +kernel⟩,
   fun d0 x0 t0 k0 hv => ⟨w, hq, 64, 4096, d0, 0, x0, t0, k0, ready (by decide +kernel), hv.1, hv.2.1, hv.2.2, by decide +kernel⟩,
   fun d0 x0 t0 k0 hv => ⟨w, hq, 64, 4096, d0, 0, x0, t0, k0, 0x592, ready (by decide +kernel), hv.1, hv.2.1, hv.2.2, by decide +kernel⟩,
   ⟨{ w with cru := { w.cru with granted := true } }, hq, default, 4096, ready (by decide +kernel), by decide +kernel⟩,
   fun d0 x0 t0 hv => ⟨w, hq, 64, 4096, d0, 0, x0, t0, _, _, _, ready (by decide +kernel), hv.1, rfl, rfl, rfl, hv.2, by decide +kernel⟩,
   ⟨w, hq, ready (by decide +kernel)⟩,
   ⟨{ w with cru := { w.cru with granted := true } }, by decide +kernel⟩,
   ⟨w, hq, 4096, 4096, ready (by decide +kernel), by decide +kernel⟩,
   ⟨{ w with cru := {} }, hq, 1, 4096, ready (by decide +kernel), by decide +kernel⟩,
   ⟨w, hq, 1023, 1, 4096, _, ready (by decide +kernel), rfl, by decide +kernel⟩,
   ⟨{ w with cru := { w.cru with challenges := [(5, { nonce := [1] })] } }, 5, by decide +kernel⟩,
   ⟨{ State.reset with boot := { pwrOk := true }, cru := { debugLevel := 1 } }, _, 6, 0, rfl, by decide +kernel⟩,
   ⟨{ State.reset with boot := { pwrOk := true }, cru := { debugLevel := 1, lcState := 2 } }, 3, 0, by decide +kernel⟩⟩

/-- What EntropyEventsComplete assumes is met. -/
theorem witness_EntropyEventsComplete :
    (∃ s : State, ∃ k : Nat, ∃ a : Crucible, ∃ b : Crucible, a = s.cru.updDrbg k (fun _ => Drbg.reseeded s.now) ∧ b = s.cru.updDrbg k (fun d => { d with lastReseed := s.now }) ∧ k < 4) ∧
    (∃ s : State, ∃ k : Nat, ∃ a : Crucible, ∃ b : Crucible, a = s.cru.updDrbg k (fun _ => Drbg.reseeded s.now) ∧ b = s.cru.updDrbg k (fun d => { d with lastReseed := s.now }) ∧ k < 4 ∧ (s.cru.drbg k).generating = true ∧ (65536 ≤ (s.cru.drbg k).requests ∨ (s.cru.drbg k).lastReseed + 100000 ≤ s.now)) ∧
    (∃ s : State, ∃ k : Nat, ∃ a : Crucible, ∃ b : Crucible, ∃ c : Crucible, a = s.cru.updDrbg k (fun _ => Drbg.reseeded s.now) ∧ b = s.cru.updDrbg k (fun d => { d with lastReseed := s.now }) ∧ c = s.cru.updDrbg k (fun d => { d with generating := false, stoppedAt := s.now, lastReseed := s.now }) ∧ k < 4 ∧ (s.cru.drbg k).generating = true ∧ (65536 ≤ (s.cru.drbg k).requests ∨ (s.cru.drbg k).lastReseed + 100000 ≤ s.now)) ∧
    (∃ s : State, ∃ k : Nat, ∃ a : Crucible, ∃ b : Crucible, a = s.cru.updDrbg k (fun _ => Drbg.reseeded s.now) ∧ b = s.cru.updDrbg k (fun d => { d with lastReseed := s.now }) ∧ k < 4 ∧ (s.cru.drbg k).generating = false ∧ s.cru.entropy ≠ .starting ∧ (s.cru.drbg k).lastReseed + 100000 ≤ s.now) ∧
    (∃ s : State, ∃ k : Nat, ∃ a : Crucible, ∃ b : Crucible, a = s.cru.updDrbg k (fun _ => Drbg.reseeded s.now) ∧ b = s.cru.updDrbg k (fun d => { d with lastReseed := s.now }) ∧ k < 4 ∧ (s.cru.drbg k).generating = false ∧ s.cru.entropy ≠ .starting ∧ (s.cru.drbg k).lastReseed + 100000 ≤ s.now ∧ (s.anyDrbg = true ∨ s.now < s.cru.lastStop + 1000000 ∨ s.cru.entropy = .failed)) ∧
    (∃ s : State, ∃ k : Nat, ∃ a : Crucible, ∃ b : Crucible, a = s.cru.updDrbg k (fun _ => Drbg.reseeded s.now) ∧ b = s.cru.updDrbg k (fun d => { d with lastReseed := s.now }) ∧ k < 4 ∧ (s.cru.drbg k).generating = false ∧ s.cru.entropy ≠ .starting ∧ (s.cru.drbg k).lastReseed + 100000 ≤ s.now ∧ s.anyDrbg = false ∧ s.cru.lastStop + 1000000 ≤ s.now ∧ s.cru.entropy ≠ .failed) ∧
    ((∃ (s : State) (k : Nat), k < 4 ∧ (s.cru.drbg k).generating = true ∧ 65536 ≤ (s.cru.drbg k).requests)) ∧
    ((∃ s : State, s.cru.entropy = .degraded ∧ (∀ j, j < 4 → j ≠ 3 → (s.cru.drbg j).generating = true) ∧ (s.cru.drbg 3).generating = false)) :=
  ⟨⟨w, 3, _, _, rfl, rfl, by decide +kernel⟩,
   ⟨w, 0, _, _, rfl, rfl, by decide +kernel⟩,
   ⟨w, 0, _, _, _, rfl, rfl, rfl, by decide +kernel⟩,
   ⟨w, 3, _, _, rfl, rfl, by decide +kernel⟩,
   ⟨w, 3, _, _, rfl, rfl, by decide +kernel⟩,
   ⟨{ w with cru := { entropy := .good } }, 3, _, _, rfl, rfl, by decide +kernel⟩,
   ⟨{ w with cru := { w.cru with d3 := { generating := true, requests := 65536 } } }, 3, by decide +kernel⟩,
   ⟨{ w with cru := { w.cru with entropy := .degraded, d0 := { generating := true }, d1 := { generating := true }, d2 := { generating := true } } }, rfl, by decide +kernel, rfl⟩⟩

/-- What TamperCommandsComplete assumes is met. -/
theorem witness_TamperCommandsComplete :
    (∃ s : State, ∃ h : Hdr, ∃ a, Ready s h (opTamperStatus.on (le 8 a)) ∧ s.writeAddrOk h a = true) ∧
    (∃ s : State, ∃ h : Hdr, ∃ m, ∃ named, ∃ good, ∃ u : State, ∃ v : State, ∃ w : State, ∃ r, ∃ i, Ready s h (opTamperClear.on (le 4 m)) ∧ named = (List.range 32).filter (fun i => m.testBit i) ∧ good = named.filter (fun i => !(s.source i).active) ∧ u = good.foldl (fun t i => t.updSource i (fun x => { x with tripped := false, ring := [] })) (s.started h) ∧ v = (if good.any (fun i => (s.source i).tripped) then u.stirPsd 0x040 else u) ∧ w = (if v.platformHeld then v.endPlatformHold.settleAll else v) ∧ r = le 4 (good.foldl (fun a i => a + 2 ^ i) 0) ∧ i < 32) ∧
    (∃ s : State, ∃ h : Hdr, ∃ m, ∃ named, ∃ good, ∃ u : State, ∃ v : State, ∃ w : State, ∃ r, Ready s h (opTamperClear.on (le 4 m)) ∧ named = (List.range 32).filter (fun i => m.testBit i) ∧ good = named.filter (fun i => !(s.source i).active) ∧ u = good.foldl (fun t i => t.updSource i (fun x => { x with tripped := false, ring := [] })) (s.started h) ∧ v = (if good.any (fun i => (s.source i).tripped) then u.stirPsd 0x040 else u) ∧ w = (if v.platformHeld then v.endPlatformHold.settleAll else v) ∧ r = le 4 (good.foldl (fun a i => a + 2 ^ i) 0) ∧ good.length = named.length) ∧
    (∃ s : State, ∃ h : Hdr, ∃ m, ∃ named, ∃ good, ∃ u : State, ∃ v : State, ∃ w : State, ∃ r, Ready s h (opTamperClear.on (le 4 m)) ∧ named = (List.range 32).filter (fun i => m.testBit i) ∧ good = named.filter (fun i => !(s.source i).active) ∧ u = good.foldl (fun t i => t.updSource i (fun x => { x with tripped := false, ring := [] })) (s.started h) ∧ v = (if good.any (fun i => (s.source i).tripped) then u.stirPsd 0x040 else u) ∧ w = (if v.platformHeld then v.endPlatformHold.settleAll else v) ∧ r = le 4 (good.foldl (fun a i => a + 2 ^ i) 0) ∧ good.length ≠ named.length) ∧
    (∃ s : State, ∃ h : Hdr, ∃ i, Ready s h (opTamperTest.on (le 1 i)) ∧ isTestable i = true ∧ s.emb.test.isSome = true) ∧
    (∃ s : State, ∃ h : Hdr, ∃ i, Ready s h (opTamperTest.on (le 1 i)) ∧ isTestable i = true ∧ s.emb.test = none) ∧
    (∃ s : State, ∃ h : Hdr, ∃ m, Ready s h (opTamperFix.on (le 4 m)) ∧ s.cru.lcState ≠ 4) ∧
    (∃ s : State, ∃ h : Hdr, ∃ m, ∃ i, Ready s h (opTamperFix.on (le 4 m)) ∧ i < 32 ∧ m.testBit i = true ∧ s.committedQuench i = false) ∧
    (∃ s : State, ∃ h : Hdr, ∃ m : Nat, ∃ t : State, ∃ u : State, Ready s h (opTamperFix.on (le 4 m)) ∧ t = (s.started h).blow 112 (m % 2 ^ 32) ∧ u = t.log .control 0x0A03 0 0 0 { value := t.otpWord 112 % 2 ^ 32 } ∧ s.cru.lcState = 4 ∧ (∀ i, i < 32 → m.testBit i = true → s.committedQuench i = true)) ∧
    (∃ w, w ≠ 112) ∧
    ((∃ (s : State) (h : Hdr) (m : Nat), Ready s h (opTamperClear.on (le 4 m)) ∧ m ≠ 0 ∧ ∀ i, i < 32 → m.testBit i = true → (s.source i).active = false)) ∧
    ((∃ (s : State) (h : Hdr) (m : Nat), Ready s h (opTamperFix.on (le 4 m)) ∧ s.cru.lcState = 4 ∧ m ≠ 0 ∧ ∀ i, i < 32 → m.testBit i = true → s.committedQuench i = true)) :=
  ⟨⟨w, hq, 4096, ready (by decide +kernel), by decide +kernel⟩,
   ⟨we { w.emb with sources := [(9, { tripped := true })] }, hq, 512, _, _, _, _, _, _, 9, ready (by decide +kernel), rfl, rfl, rfl, rfl, rfl, rfl, by decide +kernel⟩,
   ⟨we { w.emb with sources := [(9, { tripped := true })] }, hq, 512, _, _, _, _, _, _, ready (by decide +kernel), rfl, rfl, rfl, rfl, rfl, rfl, by decide +kernel⟩,
   ⟨we { w.emb with sources := [(9, { tripped := true, active := true })] }, hq, 512, _, _, _, _, _, _, ready (by decide +kernel), rfl, rfl, rfl, rfl, rfl, rfl, by decide +kernel⟩,
   ⟨we { w.emb with test := some {} }, hq, 31, ready (by decide +kernel), by decide +kernel⟩,
   ⟨w, hq, 13, ready (by decide +kernel), by decide +kernel⟩,
   ⟨w, hq, default, ready (by decide +kernel), by decide +kernel⟩,
   ⟨ws, hq, 1, 0, ready (by decide +kernel), by decide +kernel⟩,
   ⟨{ w with cru := { w.cru with lcState := 4 } }, hq, 0, _, _, ready (by decide +kernel), rfl, rfl, by decide +kernel⟩,
   ⟨0, by decide +kernel⟩,
   ⟨we { w.emb with sources := [(9, { tripped := true })] }, hq, 512, ready (by decide +kernel), by decide, by decide +kernel⟩,
   ⟨{ wp [(0x32, zeros 16 ++ [2, 0, 1, 0, 0, 0, 0, 0])] with cru := { w.cru with lcState := 4 } }, hq, 1, ready (by decide +kernel), rfl, by decide, by decide +kernel⟩⟩

/-- What TamperEventsComplete assumes is met. -/
theorem witness_TamperEventsComplete :
    (∃ s : State, ∃ i, ((s.source i).deassertAt = none ∨ ∃ t, (s.source i).deassertAt = some t ∧ t + 1 ≤ s.now) ∧ i < 14 ∧ i ≠ 12 ∧ (s.boot.pwrOk = true ∨ watchedAlways i = true) ∧ s.underTest i = false ∧ s.sourceMode i ≠ 0 ∧ (s.source i).active = false) ∧
    (∃ s : State, ∃ i, i < 14 ∧ i ≠ 12 ∧ (s.boot.pwrOk = true ∨ watchedAlways i = true) ∧ s.underTest i = false ∧ s.sourceMode i ≠ 0 ∧ (s.source i).active = true) ∧
    (∃ s : State, ∃ i, i < 14 ∧ i ≠ 12 ∧ (s.boot.pwrOk = true ∨ watchedAlways i = true) ∧ s.underTest i = true) ∧
    (∃ s : State, ∃ i, i < 14 ∧ i ≠ 12 ∧ (s.source i).active = true ∧ s.underTest i = false) ∧
    (∃ s : State, ∃ u : State, ∃ t : State, ∃ v, u = { s with emb := ({ s.emb with vbatMv := v } : Ember).starve (!s.boot.pwrOk) } ∧ t = { u with emb := { u.emb with lastSample := s.now - s.now % 32000, meshDrive := u.meshDriven } } ∧ s.emb.lastSample + 32000 ≤ s.now) ∧
    (∃ s : State, ∃ u : State, ∃ v, u = { s with emb := ({ s.emb with vbatMv := v } : Ember).starve (!s.boot.pwrOk) } ∧ s.now < s.emb.lastSample + 32000) ∧
    (∃ s : State, ∃ x, s.emb.test = some x ∧ isSampled x.source = true ∧ x.sampled = false) ∧
    (∃ i, 16 ≤ i ∧ i < 24) ∧
    (∃ i, 24 ≤ i ∧ i < 32) ∧
    (∃ s : State, ∃ a : State, ∃ t : State, ∃ u : State, ∃ x : State, ∃ w, ∃ p, ∃ k, s.emb.test = some w ∧ p = (w.detected.isSome && w.released) ∧ k = w.detected.getD (Config.freeValue s.draws % 65536) ∧ a = (if w.detected.isSome then s else s.drawn) ∧ t = ((({ a with emb := { a.emb with test := none } } : State).updSource w.source (fun x => { x with lastTest := if p then 1 else 2 })).log .guard 0x0A02 0 8 w.source { cause := if p then 1 else 2, value := k }) ∧ u = (if p then t else t.tamperEvent 15) ∧ x = (if (u.source w.source).active then u.tamperEvent w.source else u) ∧ w.hdr = none) ∧
    (∃ s : State, ∃ a : State, ∃ t : State, ∃ u : State, ∃ x : State, ∃ w, ∃ p, ∃ k, ∃ h : Hdr, s.emb.test = some w ∧ p = (w.detected.isSome && w.released) ∧ k = w.detected.getD (Config.freeValue s.draws % 65536) ∧ a = (if w.detected.isSome then s else s.drawn) ∧ t = ((({ a with emb := { a.emb with test := none } } : State).updSource w.source (fun x => { x with lastTest := if p then 1 else 2 })).log .guard 0x0A02 0 8 w.source { cause := if p then 1 else 2, value := k }) ∧ u = (if p then t else t.tamperEvent 15) ∧ x = (if (u.source w.source).active then u.tamperEvent w.source else u) ∧ w.hdr = some h) ∧
    (∃ s : State, ∃ i, s.boot.pwrOk = true ∧ fld s.emb.tamperCopy 0 4 ≠ 0 ∧ s.emb.test = none ∧ s.emb.testAt + 1 ≤ s.emb.opSeconds ∧ s.emb.opSeconds < s.emb.testPeriod + fld s.emb.tamperCopy 0 4 ∧ (List.range 32).find? (fun i => decide (s.emb.testNext ≤ i) && isTestable i && s.sourceMode i != 0) = some i) ∧
    ((∃ s : State, (s.source 5).deassertAt ≠ none ∧ (s.source 5).active = false ∧ ∃ t, (s.source 5).deassertAt = some t ∧ t + 1 ≤ s.now)) :=
  ⟨⟨w, 13, Or.inl rfl, by decide +kernel⟩,
   ⟨we { w.emb with sources := [(0, { active := true })] }, default, by decide +kernel⟩,
   ⟨we { w.emb with test := some { source := 13 } }, 13, by decide +kernel⟩,
   ⟨we { w.emb with sources := [(13, { active := true })] }, 13, by decide +kernel⟩,
   ⟨w, _, _, default, rfl, rfl, by decide +kernel⟩,
   ⟨we { w.emb with lastSample := 10 ^ 12 }, _, 3000, rfl, by decide +kernel⟩,
   ⟨we { w.emb with test := some { source := 16 } }, { source := 16 }, by decide +kernel⟩,
   ⟨23, by decide +kernel⟩,
   ⟨31, by decide +kernel⟩,
   ⟨we { w.emb with test := some { source := 31, detected := some 5, released := true } }, _, _, _, _, _, _, _, rfl, rfl, rfl, rfl, rfl, rfl, rfl, by decide +kernel⟩,
   ⟨we { w.emb with test := some { source := 31, detected := some 5, hdr := some hq } }, _, _, _, _, _, _, _, _, rfl, rfl, rfl, rfl, rfl, rfl, rfl, rfl⟩,
   ⟨we { w.emb with tamperCopy := [9] ++ zeros 39 ++ [1], opSeconds := 5, testNext := 3 }, 3, by decide +kernel⟩,
   ⟨we { w.emb with sources := [(5, { deassertAt := some 7 })] }, by decide +kernel, by decide +kernel, 7, by decide +kernel, by decide +kernel⟩⟩

/-- What ExhaustedEpochRefusesBackwardSteps assumes is met. -/
theorem witness_ExhaustedEpochRefusesBackwardSteps :
    (∃ s : State, ∃ h : Hdr, ∃ w : Nat, ∃ a : Nat, ∃ f : Nat, ∃ d : Nat, ∃ x : Int, x = s.stepOffset (toSigned 64 w) d ∧ Ready s h (opTimeSet.on (le 8 w ++ le 8 a ++ le 1 0 ++ le 1 f)) ∧ s.emb.epoch = 65535 ∧ f ≤ 3 ∧ (f = 0 ∨ s.ownerSource h.src = true) ∧ d = (if a = 0 then s.now else a) ∧ d ≤ s.now ∧ (s.now : Int) * 1000 + x < s.stepReference) ∧
    (∃ s : State, ∃ h : Hdr, ∃ w : Nat, ∃ a : Nat, ∃ f : Nat, ∃ d : Nat, ∃ x : Int, x = s.stepOffset (toSigned 64 w) d ∧ Ready s h (opTimeSet.on (le 8 w ++ le 8 a ++ le 1 0 ++ le 1 f)) ∧ s.emb.epoch = 65535 ∧ f ≤ 3 ∧ (f = 0 ∨ s.ownerSource h.src = true) ∧ d = (if a = 0 then s.now else a) ∧ d ≤ s.now ∧ s.stepReference ≤ (s.now : Int) * 1000 + x ∧ (s.stepLimit = 0 ∨ s.emb.wallSet = false ∨ f.testBit 0 = true ∨ ((s.now : Int) * 1000 + x - s.wall).natAbs ≤ s.stepLimit * 1000000000)) ∧
    (∃ s : State, ∃ h : Hdr, ∃ w : Nat, ∃ a : Nat, ∃ f : Nat, ∃ d : Nat, ∃ x : Int, x = s.stepOffset (toSigned 64 w) d ∧ Ready s h (opTimeSet.on (le 8 w ++ le 8 a ++ le 1 1 ++ le 1 f)) ∧ s.emb.epoch = 65535 ∧ f ≤ 3 ∧ (f = 0 ∨ s.ownerSource h.src = true) ∧ d = (if a = 0 then s.now else a) ∧ d ≤ s.now ∧ s.emb.wallSet = true ∧ (toSigned 64 w - ((d : Int) * 1000 + s.offsetNow)).natAbs ≤ 1000000000) :=
  ⟨⟨we { w.emb with epoch := 65535, wallSet := true, offset := 10 ^ 9 }, hq, default, default, default, 10 ^ 12, _, rfl, ready (by decide +kernel), by decide +kernel⟩,
   ⟨we { w.emb with epoch := 65535, wallSet := true, offset := 10 ^ 9 }, hq, 2 * 10 ^ 15, default, default, 10 ^ 12, _, rfl, ready (by decide +kernel), by decide +kernel⟩,
   ⟨we { w.emb with epoch := 65535, wallSet := true }, hq, 5007, 5, default, 5, _, rfl, ready (by decide +kernel), by decide +kernel⟩⟩

/-- What TimeCommandsComplete assumes is met. -/
theorem witness_TimeCommandsComplete :
    (∃ s : State, ∃ h : Hdr, Ready s h opTimeRead) ∧
    (∃ s : State, ∃ h : Hdr, ∃ w, ∃ a, ∃ f, Ready s h (opTimeSet.on (le 8 w ++ le 8 a ++ le 1 0 ++ le 1 f)) ∧ f ≤ 3 ∧ (f = 0 ∨ s.ownerSource h.src = true) ∧ s.now < a) ∧
    (∃ s : State, ∃ h : Hdr, ∃ w, ∃ a, ∃ f, ∃ x, ∃ u : State, Ready s h (opTimeSet.on (le 8 w ++ le 8 a ++ le 1 0 ++ le 1 f)) ∧ u = ((s.started h).drawn.stepWall x).2.2 ∧ f ≤ 3 ∧ (f = 0 ∨ s.ownerSource h.src = true) ∧ a ≤ s.now ∧ x = s.stepOffset (toSigned 64 w) (if a = 0 then s.now else a) ∧ s.stepRefusal x (f.testBit 0) = 0) ∧
    (∃ s : State, ∃ h : Hdr, ∃ n, ∃ k, ∃ t, Ready s h (opWind.on (le 1 n ++ le 1 0 ++ le 2 k ++ le 4 0)) ∧ t = ((s.started h).acceptWind n false 0).2 ∧ n < 256 ∧ (s.started h).queueOf h.src = fld (s.chan n).record 2 2 ∧ (s.started h).queueOf h.src ≠ 0xFFFF ∧ (s.chan n).armed = true ∧ (s.chan n).state ≠ .paused ∧ k = (s.chan n).turn ∧ ((s.chan n).state = .first ∨ (s.chan n).openAt ≤ s.now) ∧ (s.chan n).state ≠ .sleep ∧ (s.chan n).state ≠ .reacquire ∧ (s.chan n).afterExpiry = false) ∧
    (∃ s : State, ∃ h : Hdr, ∃ n, ∃ k, ∃ t, ∃ m, Ready s h (opWind.on (le 1 n ++ le 1 0 ++ le 2 k ++ le 4 0)) ∧ t = ((s.started h).acceptWind n false 0).2 ∧ n < 256 ∧ (s.started h).queueOf h.src = fld (s.chan n).record 2 2 ∧ (s.started h).queueOf h.src ≠ 0xFFFF ∧ (s.chan n).armed = true ∧ (s.chan n).state ≠ .paused ∧ k = (s.chan n).turn ∧ ((s.chan n).state = .first ∨ (s.chan n).openAt ≤ s.now) ∧ (s.chan n).state ≠ .sleep ∧ (s.chan n).state ≠ .reacquire ∧ (s.chan n).afterExpiry = false ∧ m ≠ n) ∧
    (∃ s : State, ∃ h : Hdr, ∃ n, ∃ k, Ready s h (opWind.on (le 1 n ++ le 1 0 ++ le 2 k ++ le 4 0)) ∧ n < 256 ∧ (s.started h).queueOf h.src = fld (s.chan n).record 2 2 ∧ (s.started h).queueOf h.src ≠ 0xFFFF ∧ (s.chan n).armed = true ∧ (s.chan n).state ≠ .paused ∧ k ≠ (s.chan n).turn) ∧
    (∃ s : State, ∃ h : Hdr, ∃ n, ∃ k, Ready s h (opWind.on (le 1 n ++ le 1 0 ++ le 2 k ++ le 4 0)) ∧ n < 256 ∧ (s.started h).queueOf h.src = fld (s.chan n).record 2 2 ∧ (s.started h).queueOf h.src ≠ 0xFFFF ∧ (s.chan n).armed = true ∧ (s.chan n).state = .paused) ∧
    (∃ s : State, ∃ h : Hdr, ∃ n, ∃ k, Ready s h (opWind.on (le 1 n ++ le 1 0 ++ le 2 k ++ le 4 0)) ∧ (s.chan n).armed = true ∧ (s.started h).queueOf h.src ≠ fld (s.chan n).record 2 2) ∧
    (∃ s : State, ∃ h : Hdr, ∃ f, ∃ n, ∃ a, Ready s h (opWatchdogStatus.on (le 1 f ++ le 1 n ++ zeros 2 ++ le 8 a)) ∧ rangeOk f (if n = 0 then 256 else n) 256 = true ∧ s.writeAddrOk h a = true) ∧
    (∃ s : State, ∃ h : Hdr, ∃ n, ∃ b, Ready s h (opWatchdogArm.on (le 1 n ++ le 1 b)) ∧ b < 2 ∧ s.isReleased n = false) ∧
    (∃ s : State, ∃ h : Hdr, ∃ n, ∃ t, Ready s h (opWatchdogArm.on (le 1 n ++ le 1 1)) ∧ t = (s.started h).armChan n ∧ s.isReleased n = true) ∧
    (∃ s : State, ∃ h : Hdr, ∃ n, ∃ t, Ready s h (opWatchdogArm.on (le 1 n ++ le 1 0)) ∧ t = (s.started h).disarm n ∧ s.isReleased n = true ∧ s.hwChan n = false) ∧
    (∃ s : State, ∃ h : Hdr, ∃ n, ∃ t, Ready s h (opWatchdogArm.on (le 1 n ++ le 1 0)) ∧ t = (s.started h).disarm n ∧ s.isReleased n = true ∧ s.hwChan n = true) ∧
    ((∃ (s : State) (x : Int), s.stepRefusal x false = 0 ∧ (s.now : Int) * 1000 + x < s.stepReference)) :=
  ⟨⟨w, hq, ready (by decide +kernel)⟩,
   ⟨w, hq, default, 10 ^ 12 + 1, 3, ready (by decide +kernel), by decide +kernel⟩,
   ⟨w, hq, 10 ^ 15 + 9, default, default, 9, _, ready (by decide +kernel), rfl, by decide +kernel⟩,
   ⟨wch { state := .first, record := chRec 1, turn := 65535 }, hq, 7, 65535, _, ready (by decide +kernel), rfl, by decide +kernel⟩,
   ⟨wch { state := .first, record := chRec 1, turn := 65535 }, hq, 7, 65535, _, default, ready (by decide +kernel), rfl, by decide +kernel⟩,
   ⟨wch { state := .first, record := chRec 1 }, hq, 7, 1, ready (by decide +kernel), by decide +kernel⟩,
   ⟨wch { state := .paused, record := chRec 1 }, hq, 7, default, ready (by decide +kernel), by decide +kernel⟩,
   ⟨wch { state := .first, record := [1, 0, 1] }, hq, 7, default, ready (by decide +kernel), by decide +kernel⟩,
   ⟨w, hq, default, default, 4096, ready (by decide +kernel), by decide +kernel⟩,
   ⟨w, hq, 7, default, ready (by decide +kernel), by decide +kernel⟩,
   ⟨wslots [(7, { state := .released })], hq, 7, _, ready (by decide +kernel), rfl, by decide +kernel⟩,
   ⟨wslots [(7, { state := .released })], hq, 7, _, ready (by decide +kernel), rfl, by decide +kernel⟩,
   ⟨{ wslots [(7, { state := .released })] with otp := [(113, 128)] }, hq, 7, _, ready (by decide +kernel), rfl, by decide +kernel⟩,
   ⟨we { w.emb with wallSet := true, offset := 5 }, 4, by decide +kernel⟩⟩

/-- What WatchdogEventsComplete assumes is met. -/
theorem witness_WatchdogEventsComplete :
    (∃ s : State, ∃ n, ∃ k, n < 256 ∧ s.boot.controlUp = true ∧ (s.chan n).armed = true ∧ (s.chan n).state ≠ .paused ∧ (recFlags (s.chan n).record).testBit 2 = true ∧ k % 65536 = (s.chan n).turn) ∧
    (∃ s : State, ∃ n, ∃ k, n < 256 ∧ s.boot.controlUp = true ∧ (s.chan n).armed = true ∧ (s.chan n).state ≠ .paused ∧ (recFlags (s.chan n).record).testBit 2 = true ∧ k % 65536 ≠ (s.chan n).turn) ∧
    (∃ s : State, ∃ n, s.boot.controlUp = true ∧ (s.chan n).deadline ≤ s.now ∧ ((s.chan n).state = .first ∨ (s.chan n).state = .running)) ∧
    (∃ s : State, ∃ n, s.boot.controlUp = true ∧ (s.chan n).deadline ≤ s.now ∧ (s.chan n).state = .reacquire) ∧
    (∃ s : State, ∃ n, recAction (s.chan n).record = 0 ∧ (s.chan n).expiries < 255) ∧
    (∃ s : State, ∃ t : State, ∃ u : State, ∃ n, t = s.updChan n (fun c => { c with warned := true }) ∧ u = { t with wwu := { t.wwu with preHit := true } } ∧ s.boot.controlUp = true ∧ (s.chan n).state = .running ∧ (s.chan n).warned = false ∧ s.now < (s.chan n).deadline ∧ 0 < fld (s.chan n).record 12 2 ∧ (s.chan n).deadline ≤ s.now + fld (s.chan n).record 12 2 * 1000) ∧
    (∃ s : State, ∃ n, s.boot.controlUp = true ∧ (s.chan n).state = .sleep ∧ (s.chan n).deadline + guardUs (s.chan n).record ≤ s.now) ∧
    (∃ s : State, ∃ t : State, ∃ e : Bool, t = (if e then { s with wwu := { s.wwu with emberStopped := false } } else { s with wwu := { s.wwu with refStopped := false } }) ∧ s.boot.pwrOk = true) ∧
    (∃ s : State, ∃ a : State, ∃ b : State, ∃ c : State, ∃ e, a = (if e then { s with wwu := { s.wwu with emberStopped := true } } else { s with wwu := { s.wwu with refStopped := true } }) ∧ b = a.armedChannels.foldl State.watchClock a ∧ c = (if b.iwdEmber = e ∧ b.wwu.iwd.running = true ∧ b.wwu.iwd.onBackup = false then ({ b with wwu := { b.wwu with iwd := { b.wwu.iwd with onBackup := true, stopHit := true } } } : State).log .control 0x0903 3 0 0 else b) ∧ s.boot.pwrOk = true ∧ (c.wwu.emberStopped && c.wwu.refStopped) = false) ∧
    (∃ s : State, ∃ a : State, ∃ b : State, ∃ c : State, ∃ e : Bool, a = (if e then { s with wwu := { s.wwu with emberStopped := true } } else { s with wwu := { s.wwu with refStopped := true } }) ∧ b = a.armedChannels.foldl State.watchClock a ∧ c = (if b.iwdEmber = e ∧ b.wwu.iwd.running = true ∧ b.wwu.iwd.onBackup = false then ({ b with wwu := { b.wwu with iwd := { b.wwu.iwd with onBackup := true, stopHit := true } } } : State).log .control 0x0903 3 0 0 else b) ∧ s.boot.pwrOk = true ∧ (c.wwu.emberStopped && c.wwu.refStopped) = true) ∧
    (∃ s : State, s.wardenRuns = true) ∧
    (∃ s : State, s.wwu.iwd.running = true ∧ s.wwu.iwd.hardTimer = none ∧ s.wwu.iwd.expiries < 255) ∧
    (∃ s : State, ∃ d, s.wwu.iwd.hardTimer = some d ∧ d ≤ s.now ∧ s.wardenRuns = true) ∧
    (∃ s : State, s.boot.pwrOk = true ∧ s.emb.mramAt + 1000000 ≤ s.now) ∧
    (∃ s : State, ∃ w, s.emb.slew = some w ∧ w.applied s.now = w.total) :=
  ⟨⟨wch { state := .first, record := chRec 5 }, 7, default, by decide +kernel⟩,
   ⟨wch { state := .first, record := chRec 5 }, 7, 1, by decide +kernel⟩,
   ⟨wch { state := .running, record := chRec 1 }, 7, by decide +kernel⟩,
   ⟨wch { state := .reacquire, record := chRec 1 }, 7, by decide +kernel⟩,
   ⟨wch { state := .running, record := chRec 1, expiries := 254 }, 7, by decide +kernel⟩,
   ⟨wch { state := .running, record := chRec 1, deadline := 10 ^ 12 + 1000 }, _, _, 7, rfl, rfl, by decide +kernel⟩,
   ⟨wch { state := .sleep, record := chRec 1 }, 7, by decide +kernel⟩,
   ⟨w, _, true, rfl, by decide +kernel⟩,
   ⟨{ w with wwu := { w.wwu with refStopped := false } }, _, _, _, default, rfl, rfl, rfl, by decide +kernel⟩,
   ⟨{ w with wwu := { w.wwu with refStopped := true } }, _, _, _, true, rfl, rfl, rfl, by decide +kernel⟩,
   ⟨w, by decide +kernel⟩,
   ⟨{ w with wwu := { iwd := { running := true, expiries := 254 } } }, by decide +kernel⟩,
   ⟨{ w with wwu := { iwd := { running := true, hardTimer := some 5 } } }, 5, by decide +kernel⟩,
   ⟨w, by decide +kernel⟩,
   ⟨we { w.emb with slew := some { total := 5, ppm := 100 } }, { total := 5, ppm := 100 }, by decide +kernel⟩⟩

/-- What LogCommandsComplete assumes is met. -/
theorem witness_LogCommandsComplete :
    (∃ s : State, ∃ h : Hdr, ∃ a, Ready s h (opLogStatus.on (le 8 a)) ∧ s.writeAddrOk h a = true) ∧
    (∃ s : State, ∃ h : Hdr, ∃ f, ∃ n, ∃ g, ∃ a, ∃ l, ∃ x, Ready s h (opLogRead.on (le 8 f ++ le 2 n ++ le 1 g ++ zeros 5 ++ le 8 a)) ∧ l = (s.lgb.records.filter (fun r => decide (f ≤ r.seq))).take n ∧ x = (if g = 1 then l.takeWhile (fun r => !r.isOpen) else l) ∧ 1 ≤ n ∧ n ≤ 4096 ∧ g < 2 ∧ s.writeAddrOk h a = true) ∧
    (∃ s : State, ∃ h : Hdr, ∃ n, Ready s h (opLogAck.on (le 8 n)) ∧ s.lgb.newest < n) ∧
    (∃ s : State, ∃ h : Hdr, ∃ n, Ready s h (opLogAck.on (le 8 n)) ∧ n ≤ s.lgb.newest) ∧
    (∃ s : State, ∃ h : Hdr, ∃ n, ∃ k, ∃ t : State, Ready s h (opLogClear.on (le 8 n)) ∧ k = (s.lgb.records.filter (fun r => decide (r.seq ≤ n))).length ∧ t = { s.started h with lgb := { s.lgb with records := s.lgb.records.filter (fun r => decide (n < r.seq)) } } ∧ s.lgb.ackedSeq < n) ∧
    (∃ s : State, ∃ h : Hdr, ∃ n, ∃ k, ∃ t : State, Ready s h (opLogClear.on (le 8 n)) ∧ k = (s.lgb.records.filter (fun r => decide (r.seq ≤ n))).length ∧ t = { s.started h with lgb := { s.lgb with records := s.lgb.records.filter (fun r => decide (n < r.seq)) } } ∧ n ≤ s.lgb.ackedSeq) ∧
    (∃ s : State, ∃ v, ∃ k, k = v % 2 ^ 32 * 2 ^ 32 + s.lgb.cursorLow ∧ s.pcieUp = true) :=
  ⟨⟨w, hq, 4096, ready (by decide +kernel), by decide +kernel⟩,
   ⟨w, hq, default, 4096, 1, 4096, _, _, ready (by decide +kernel), rfl, rfl, by decide +kernel⟩,
   ⟨w, hq, 1, ready (by decide +kernel), by decide +kernel⟩,
   ⟨wlog { nextSeq := 6 }, hq, 5, ready (by decide +kernel), by decide +kernel⟩,
   ⟨wlog { ackedSeq := 6 }, hq, 7, _, _, ready (by decide +kernel), rfl, rfl, by decide +kernel⟩,
   ⟨wlog { ackedSeq := 6 }, hq, 6, _, _, ready (by decide +kernel), rfl, rfl, by decide +kernel⟩,
   ⟨w, default, _, rfl, by decide +kernel⟩⟩

/-- What RecordsAreNumbered assumes is met. -/
theorem witness_RecordsAreNumbered :
    (∃ s : State, ∃ e, ∃ l, s.lgb.staging = e :: l ∧ s.boot.controlUp = true) ∧
    (∃ s : State, ∃ e : LogEv, e.rung = 0 ∧ s.lgb.records.length < s.lgb.places) ∧
    (∃ s : State, ∃ r, r ∈ s.lgb.records ∧ r.storm = false ∧ r.dmt + r.lastDelta + 1000 * r.windowMs ≤ s.now) ∧
    (∃ s : State, ∃ r, r ∈ s.lgb.records ∧ r.storm = true ∧ r.isOpen = true ∧ r.dmt + 1000 ≤ s.now) ∧
    (∃ s : State, s.boot.controlUp = true ∧ s.lgb.lastMark + 2 ^ 31 ≤ s.now) :=
  ⟨⟨wlog { staging := [{ code := 0x0501, rung := 0 }] }, { code := 0x0501, rung := 0 }, [], by decide +kernel⟩,
   ⟨wlog { staging := [{ code := 0x0501, rung := 0 }] }, { code := 0x0501, rung := 0 }, by decide +kernel⟩,
   ⟨wlog { records := [{ seq := 3, isOpen := true, windowMs := 10 }] }, { seq := 3, isOpen := true, windowMs := 10 }, by decide +kernel⟩,
   ⟨wlog { records := [{ seq := 3, isOpen := true, storm := true }] }, { seq := 3, isOpen := true, storm := true }, by decide +kernel⟩,
   ⟨w, by decide +kernel⟩⟩

/-- What FaultCommandsComplete assumes is met. -/
theorem witness_FaultCommandsComplete :
    (∃ s : State, ∃ h : Hdr, ∃ a, Ready s h (opFaultStatus.on (le 8 a)) ∧ s.writeAddrOk h a = true) ∧
    (∃ s : State, ∃ h : Hdr, ∃ c, ∃ t : State, Ready s h (opPowerCapSet.on (le 1 c)) ∧ t = { s.started h with spn := { s.spn with capSetting := c, byCommand := true } } ∧ 64 ≤ c ∧ c ≤ 152) ∧
    (∃ s : State, ∃ h : Hdr, Ready s h opPowerStatus) ∧
    (∃ s : State, ∃ t : State, ∃ j, ∃ c : Nat, ∃ u : Nat, ∃ w : Nat, ∃ l : Bool, ∃ k : Nat, ∃ raise, ∃ busy, ∃ calm, raise = (decide (24 < w ∨ 70 < u ∨ 70 < k) || l) ∧ busy = (decide (12 < w ∨ 35 < u ∨ 35 < k) || l) ∧ calm = (if busy then s.now else s.spn.calmSince) ∧ t = { s with spn := { s.spn with tj := j, currentTenMa := c % 65536, temperAt := s.now, calmSince := calm, bellowsPct := min k 100 }, hma := { s.hma with utilPct := min u 100, waitE := min w 255 } } ∧ s.boot.controlUp = true ∧ s.spn.temper ≠ .startup ∧ s.spn.temperAt + 100 ≤ s.now ∧ s.spn.temper = .avsHold) ∧
    (∃ s : State, ∃ t : State, ∃ j, ∃ c, ∃ u, ∃ w, ∃ l, ∃ k, ∃ raise, ∃ busy, ∃ calm, raise = (decide (24 < w ∨ 70 < u ∨ 70 < k) || l) ∧ busy = (decide (12 < w ∨ 35 < u ∨ 35 < k) || l) ∧ calm = (if busy then s.now else s.spn.calmSince) ∧ t = { s with spn := { s.spn with tj := j, currentTenMa := c % 65536, temperAt := s.now, calmSince := calm, bellowsPct := min k 100 }, hma := { s.hma with utilPct := min u 100, waitE := min w 255 } } ∧ s.boot.controlUp = true ∧ s.spn.temper ≠ .startup ∧ s.spn.temperAt + 100 ≤ s.now ∧ s.spn.temper ≠ .avsHold) ∧
    (∃ s : State, s.floorMv ≤ s.spn.vcoreMv) ∧
    (∃ s : State, s.boot.controlUp = true ∧ s.spn.temper = .avsHold ∧ s.spn.avsRetryAt ≤ s.now) ∧
    (∃ s : State, s.boot.controlUp = true ∧ s.spn.capAt + 100 ≤ s.now) ∧
    (∃ c : Nat, 120 ≤ c) :=
  ⟨⟨w, hq, 4096, ready (by decide +kernel), by decide +kernel⟩,
   ⟨w, hq, 152, _, ready (by decide +kernel), rfl, by decide +kernel⟩,
   ⟨w, hq, ready (by decide +kernel)⟩,
   ⟨{ w with spn := { w.spn with temper := .avsHold } }, _, default, 152, 0, 25, true, 0, _, _, _, rfl, rfl, rfl, rfl, by decide +kernel⟩,
   ⟨w, _, default, default, default, default, default, default, _, _, _, rfl, rfl, rfl, rfl, by decide +kernel⟩,
   ⟨w, by decide +kernel⟩,
   ⟨{ w with spn := { w.spn with temper := .avsHold } }, by decide +kernel⟩,
   ⟨w, by decide +kernel⟩,
   ⟨120, by decide +kernel⟩⟩

/-- What FaultEventsComplete assumes is met. -/
theorem witness_FaultEventsComplete :
    (∃ s : State, ∃ t : State, ∃ n, ∃ k, ∃ r, ∃ b, b = blockOf n k ∧ t = s.corrected r ∧ s.boot.pwrOk = true ∧ 1 ≤ n ∧ n ≤ 7 ∧ (s.spn.lastFault.keys.contains b = false ∨ s.spn.lastFault.get b 0 + 1000000 < s.now)) ∧
    (∃ s : State, s.boot.pwrOk = true) ∧
    (∃ s : State, ∃ k, k < 256 ∧ 0 < s.spn.windSpares) ∧
    (∃ s : State, ∃ k, k < 4096 ∧ 0 < s.spn.queueSpares) ∧
    (∃ s : State, ∃ b, ∃ l, s.spn.reinitBlocks = b :: l) ∧
    (∃ s : State, ∃ t : State, ∃ a, a = s.spn.activePair ∧ t = { s with spn := { s.spn with lockFails := s.spn.lockFails.set a (s.spn.lockFails.getD a 0 + 1) } } ∧ s.wardenRuns = true ∧ s.spn.takeoverTo = none ∧ s.spn.standbyReady = true ∧ s.spn.lockFails.getD a 0 < 2) ∧
    (∃ s : State, ∃ t : State, ∃ a, a = s.spn.activePair ∧ t = { s with spn := { s.spn with lockFails := s.spn.lockFails.set a (s.spn.lockFails.getD a 0 + 1) } } ∧ s.wardenRuns = true ∧ s.spn.takeoverTo = none ∧ s.spn.standbyReady = true ∧ 2 ≤ s.spn.lockFails.getD a 0) ∧
    (∃ s : State, ∃ t : State, ∃ a, a = s.spn.activePair ∧ t = { s with spn := { s.spn with lockFails := s.spn.lockFails.set a (s.spn.lockFails.getD a 0 + 1) } } ∧ s.wardenRuns = true ∧ s.spn.takeoverTo = none ∧ s.spn.standbyReady = false) ∧
    (∃ s : State, ∃ t : State, ∃ p, t = { s with spn := { s.spn with takeoverTo := none } } ∧ s.spn.takeoverTo = some p) ∧
    (∃ s : State, ∃ t : State, ∃ p, t = { s with spn := { s.spn with testingPair := none } } ∧ s.spn.testingPair = some p) ∧
    (∃ i, 1 ≤ i ∧ i ≤ 6) ∧
    (∃ s : State, ∃ i, 1 ≤ i ∧ i ≤ 6 ∧ s.boot.pwrOk = true) ∧
    (∃ s : State, ∃ i, ∃ t : State, t = ((s.waitersOn i).foldl (fun t h => t.timeOut h i) s).flushCrossing i ∧ 1 ≤ i ∧ i ≤ 6) ∧
    ((∃ (s : State) (i : Nat), 1 ≤ i ∧ i ≤ 6 ∧ s.islandStopped i = true)) :=
  ⟨⟨w, _, 7, 0, default, _, rfl, rfl, by decide +kernel⟩,
   ⟨w, by decide +kernel⟩,
   ⟨w, 255, by decide +kernel⟩,
   ⟨w, 4095, by decide +kernel⟩,
   ⟨{ w with spn := { w.spn with reinitBlocks := [4, 5] } }, 4, [5], by decide +kernel⟩,
   ⟨{ w with spn := { w.spn with standbyReady := true, lockFails := [1, 0] } }, _, _, rfl, rfl, by decide +kernel⟩,
   ⟨{ w with spn := { w.spn with standbyReady := true, lockFails := [2, 0] } }, _, _, rfl, rfl, by decide +kernel⟩,
   ⟨w, _, _, rfl, rfl, by decide +kernel⟩,
   ⟨{ w with spn := { w.spn with takeoverTo := some 1 } }, _, 1, rfl, by decide +kernel⟩,
   ⟨{ w with spn := { w.spn with testingPair := some 1 } }, _, 1, rfl, by decide +kernel⟩,
   ⟨6, by decide +kernel⟩,
   ⟨w, 6, by decide +kernel⟩,
   ⟨w, 6, _, rfl, by decide +kernel⟩,
   ⟨{ w with spn := { w.spn with clockRunning := 0 } }, 6, by decide +kernel⟩⟩

/-- What ResetHoldsTheBuiltInState assumes is met. -/
theorem witness_ResetHoldsTheBuiltInState :
    ((∀ r : Bool, ∃ u : State, Goes (.pwrOkRise r) State.reset u ∧ u.boot.pwrOk = true)) :=
  fun r => by cases r <;> exact ⟨_, rfl, by decide +kernel⟩

/-- What StepKeepsTheOtpArray assumes is met. -/
theorem witness_StepKeepsTheOtpArray :
    (∃ s : State, ∃ t : State, OtpSound s.otp ∧ step s = .next t) :=
  ⟨{ State.reset with otp := [(3, 5)], emb := { State.reset.emb with opUs := 5 } }, _, ⟨by decide +kernel, by decide +kernel⟩, rfl⟩

/-- What CommandsOnlyBlowBits assumes is met. -/
theorem witness_CommandsOnlyBlowBits :
    (∃ c : Instr, ∃ s : State, ∃ t : State, Goes c s t) :=
  ⟨.echo hq 0, w, _, rfl⟩

end Sys2Proof.Tests
end

section
/-! SUPPORT. Register accesses and doorbells: what the three register rows answer at an address that ends at once, that
waits, or that a function cannot reach; what a read finds latched; and the two doorbells of an open queue. -/
namespace Sys2Proof.Machine

/-! ### Register accesses (R8 to R12, R309) -/

/-- An access ends at once exactly when its address can be reached and no island on its way has stopped (R309). -/
theorem State.reaches_iff (s : State) (fn a : Nat) :
    s.reaches fn a = true ↔ s.addresses fn a = true ∧ s.islandStopped (regIsland a) = false := by
  simp [State.reaches]

/-- No function reaches an address that is not naturally aligned. -/
theorem State.addresses_unaligned (s : State) (fn : Nat) {a : Nat} (h : a % 4 ≠ 0) : s.addresses fn a = false := by
  simp [State.addresses, h]

theorem goes_rcRegisterRead_of_reaches {s : State} {fn a : Nat} (h : s.reaches fn a = true) :
    Goes (.rcRegisterRead fn a) s (s.readReg fn a) := by
  obtain ⟨haddr, hclock⟩ := (s.reaches_iff fn a).1 h
  show execRcRegisterRead fn a s = _
  simp [execRcRegisterRead, haddr, hclock]

theorem goes_registerLowWordRead_of_reaches {s : State} {fn a v : Nat} (h : s.reaches fn a = true) (hw : s.wide fn a = some v) :
    Goes (.registerLowWordRead fn a) s (s.readLow fn a v) := by
  obtain ⟨haddr, hclock⟩ := (s.reaches_iff fn a).1 h
  show execRegisterLowWordRead fn a s = _
  simp [execRegisterLowWordRead, hw, haddr, hclock]

theorem goes_registerWrite_of_reaches {s : State} {fn a : Nat} (v : Nat) (h : s.reaches fn a = true) :
    Goes (.registerWrite fn a v) s (s.regWrite fn a (v % 2 ^ 32)) := by
  obtain ⟨haddr, hclock⟩ := (s.reaches_iff fn a).1 h
  show execRegisterWrite fn a v s = _
  simp [execRegisterWrite, haddr, hclock]

theorem goes_rcRegisterRead_of_stopped {s : State} {fn a : Nat} (h : s.addresses fn a = true)
    (hclock : s.islandStopped (regIsland a) = true) : Goes (.rcRegisterRead fn a) s (s.awaitAccess fn a none) := by
  show execRcRegisterRead fn a s = _
  simp [execRcRegisterRead, h, hclock]

theorem goes_registerWrite_of_stopped {s : State} {fn a : Nat} (v : Nat) (h : s.addresses fn a = true)
    (hclock : s.islandStopped (regIsland a) = true) :
    Goes (.registerWrite fn a v) s (s.awaitAccess fn a (some (v % 2 ^ 32))) := by
  show execRegisterWrite fn a v s = _
  simp [execRegisterWrite, h, hclock]

theorem goes_rcRegisterRead_of_not_addresses {s : State} {fn a : Nat} (h : s.addresses fn a = false) :
    Goes (.rcRegisterRead fn a) s s := by
  show execRcRegisterRead fn a s = _
  simp [execRcRegisterRead, h]

theorem goes_registerLowWordRead_of_not_addresses {s : State} {fn a : Nat} (h : s.addresses fn a = false) :
    Goes (.registerLowWordRead fn a) s s := by
  show execRegisterLowWordRead fn a s = _
  cases hw : s.wide fn a <;> simp [execRegisterLowWordRead, hw, h]

theorem goes_registerWrite_of_not_addresses {s : State} {fn a : Nat} (v : Nat) (h : s.addresses fn a = false) :
    Goes (.registerWrite fn a v) s s := by
  show execRegisterWrite fn a v s = _
  simp [execRegisterWrite, h]

/-! ### What a read finds (R12) -/

theorem State.readReg_of_latched {s : State} {fn a v : Nat} (h : (s.fnBlock fn).latches.get a none = some v) :
    s.readReg fn a = (s.latch fn a none).returns v := by
  simp [State.readReg, h]

theorem State.readReg_of_wide {s : State} {fn a v : Nat} (h : (s.fnBlock fn).latches.get a none = none)
    (hw : s.wide fn a = some v) : s.readReg fn a = s.readLow fn a v := by
  simp [State.readReg, h, hw]

theorem State.readReg_of_narrow {s : State} {fn a : Nat} (h : (s.fnBlock fn).latches.get a none = none)
    (hw : s.wide fn a = none) : s.readReg fn a = (s.regClear fn a).returns (s.regWord fn a) := by
  simp [State.readReg, h, hw]

@[simp] theorem State.fnBlock_returns (s : State) (v n : Nat) : (s.returns v).fnBlock n = s.fnBlock n := rfl

@[simp] theorem State.readData_returns (s : State) (v : Nat) : (s.returns v).io.readData = some v := rfl

@[simp] theorem State.latches_latch_same (s : State) (fn a : Nat) (v : Option Nat) :
    ((s.latch fn a v).fnBlock fn).latches.get a none = v := by
  simp [State.latch]

theorem State.latches_latch_ne (s : State) (fn : Nat) {a b : Nat} (v : Option Nat) (h : b ≠ a) :
    ((s.latch fn a v).fnBlock fn).latches.get b none = (s.fnBlock fn).latches.get b none := by
  simp [State.latch, Tab.get_set_ne _ _ _ h]

/-! ### The registers of PF0's blocks that a read clears (R10) -/

/-- Away from the 64-bit registers, an address of PF0's register blocks reads its block's word. -/
theorem State.regWord_of_block {s : State} {fn a : Nat} (hlow : 0x10000 ≤ a) (hhigh : a < bar2Space) (hw : s.wide fn a = none)
    (hw' : s.wide fn (a - 4) = none) : s.regWord fn a = s.blockWord a := by
  have hcfg : ¬ cfgSpace ≤ a := by simp only [bar2Space, cfgSpace] at *; omega
  have hdoor : ¬ a < 0x8000 := by omega
  have hfn : ¬ a < 0x10000 := by omega
  simp [State.regWord, hw, hw', hcfg, Nat.not_le.2 hhigh, hdoor, hfn]

/-- Ten counters of type RC in PF0's register blocks, those that O33 names. -/
def rcCounters : List Nat :=
  [0x13004, 0x14004, 0x19030, 0x19034, 0x1A020, 0x1B014, 0x1B018, 0x1D008, 0x1D00C, 0x18018]

/-- The word of PF0's block at the address of such a counter is 0 once a read has cleared it. -/
theorem State.blockWord_regClear (s : State) : ∀ a ∈ rcCounters, (s.regClear 0 a).blockWord a = 0 := by
  simp only [rcCounters, List.forall_mem_cons]
  exact ⟨rfl, rfl, rfl, rfl, rfl, rfl, rfl, rfl, rfl, rfl, nofun⟩

/-- Neither these counters nor the words before them belong to a 64-bit register. -/
theorem State.wide_rcCounter (s : State) :
    ∀ a ∈ rcCounters, 0x10000 ≤ a ∧ a < bar2Space ∧ s.wide 0 a = none ∧ s.wide 0 (a - 4) = none := by
  simp [rcCounters, bar2Space, State.wide]

/-- A write to the outbox register touches its HIT bit alone (R8, R303). -/
theorem State.regWrite_outbox (s : State) (v : Nat) :
    s.regWrite 0 0x17000 v = { s with cme := { s.cme with outboxHit := w1cBit s.cme.outboxHit v 14 } } := by
  simp [State.regWrite, cfgSpace, bar2Space]

/-! ### The depth watermark (R302) -/

@[simp] theorem State.queue_tellGroup (s : State) (code rung q p : Nat) : (s.tellGroup code rung q).queue p = s.queue p := rfl

@[simp] theorem State.fnBlock_tellGroup (s : State) (code rung q n : Nat) : (s.tellGroup code rung q).fnBlock n = s.fnBlock n := rfl

/-- A measure crosses the watermark of its queue, which is then noted and told, or changes nothing. -/
theorem State.depthCrossing_cases (s : State) (q before : Nat) :
    s.depthCrossing q before = s ∨ s.depthCrossing q before =
      (s.updQueue q (fun x => { x with wmHit := true, wmCount := satAdd 16 x.wmCount 1 })).tellGroup 0x0003 6 q := by
  simp only [State.depthCrossing]
  split
  · exact .inr rfl
  · exact .inl rfl

@[simp] theorem State.fnBlock_depthCrossing (s : State) (q before n : Nat) : (s.depthCrossing q before).fnBlock n = s.fnBlock n := by
  rcases s.depthCrossing_cases q before with h | h <;> simp [h]

/-- A crossing is noted at its own queue alone. -/
theorem State.queue_depthCrossing_ne (s : State) {q p : Nat} (before : Nat) (hp : p ≠ q) :
    (s.depthCrossing q before).queue p = s.queue p := by
  rcases s.depthCrossing_cases q before with h | h <;> simp [h, State.queue_updQueue_ne _ _ hp]

/-- A crossing changes the watermark's bit and count, and no index of its queue. -/
@[simp] theorem State.queue_depthCrossing_indices (s : State) (q before : Nat) :
    ((s.depthCrossing q before).queue q).sqTail = (s.queue q).sqTail ∧
    ((s.depthCrossing q before).queue q).sqDoorbell = (s.queue q).sqDoorbell := by
  rcases s.depthCrossing_cases q before with h | h <;> simp [h]

/-! ### Doorbells (R281, R291, R311) -/

section OpenQueue
variable {s : State} {fn q : Nat} (v : Nat) (hup : s.pcieUp = true) (hown : s.ownsQueue fn q = true)
  (hopen : (s.queue q).state = .opened)
include hup hown hopen

theorem goes_sqTailDoorbell_of_lt_depth (hv : v % 4096 < (s.queue q).depth) :
    Goes (.sqTailDoorbell fn q v) s
      (((s.updQueue q (fun x => { x with sqDoorbell := v % 4096 })).updQueue q (fun x => { x with sqTail := v % 4096 })).depthCrossing
        q (s.queue q).outstanding) := by
  show execSqTailDoorbell fn q v s = _
  simp [execSqTailDoorbell, hup, hown, hopen, Nat.not_le.2 hv]

theorem goes_sqTailDoorbell_of_depth_le (hv : (s.queue q).depth ≤ v % 4096) :
    Goes (.sqTailDoorbell fn q v) s
      (((s.updQueue q (fun x => { x with sqDoorbell := v % 4096 })).queueError q 2).queueErrorEntry q 2) := by
  show execSqTailDoorbell fn q v s = _
  simp [execSqTailDoorbell, hup, hown, hopen, hv]

theorem goes_cqHeadDoorbell_of_posted (hv : v % 4096 < (s.queue q).depth)
    (hp : (v % 4096 + (s.queue q).depth - (s.queue q).cqHead) % (s.queue q).depth ≤ (s.queue q).posted) :
    Goes (.cqHeadDoorbell fn q v) s
      ((s.updQueue q (fun x => { x with cqDoorbell := v % 4096 })).updQueue q (fun x => { x with cqHead := v % 4096 })) := by
  show execCqHeadDoorbell fn q v s = _
  simp [execCqHeadDoorbell, hup, hown, hopen, Nat.not_le.2 hv, Nat.not_lt.2 hp]

theorem goes_cqHeadDoorbell_of_not_posted (hv : (s.queue q).depth ≤ v % 4096 ∨
      (s.queue q).posted < (v % 4096 + (s.queue q).depth - (s.queue q).cqHead) % (s.queue q).depth) :
    Goes (.cqHeadDoorbell fn q v) s ((s.updQueue q (fun x => { x with cqDoorbell := v % 4096 })).queueError q 3) := by
  show execCqHeadDoorbell fn q v s = _
  simp [execCqHeadDoorbell, hup, hown, hopen, hv]

end OpenQueue

section StrayDoorbell
variable {s : State} {fn q : Nat} (v : Nat) (hup : s.pcieUp = true)
  (hstray : s.ownsQueue fn q = false ∨ (s.queue q).state ≠ .opened)
include hup hstray

theorem goes_sqTailDoorbell_stray :
    Goes (.sqTailDoorbell fn q v) s (s.updFn fn (fun b => { b with stray := satAdd 32 b.stray 1 })) := by
  show execSqTailDoorbell fn q v s = _
  rcases hstray with h | h <;> simp [execSqTailDoorbell, hup, h]

theorem goes_cqHeadDoorbell_stray :
    Goes (.cqHeadDoorbell fn q v) s (s.updFn fn (fun b => { b with stray := satAdd 32 b.stray 1 })) := by
  show execCqHeadDoorbell fn q v s = _
  rcases hstray with h | h <;> simp [execCqHeadDoorbell, hup, h]

end StrayDoorbell

/-! ### The statements -/

/-- Settles O29: each write of a doorbell meets one case of its row, and the watermark that a new tail crosses touches neither
index, no other queue and no function's registers. -/
theorem doorbellsMoveTheirIndex : Obligations.DoorbellsMoveTheirIndex := by
  unfold Obligations.DoorbellsMoveTheirIndex
  refine ⟨fun s fn q v hup hown hopen => ⟨fun hv => ?_, goes_sqTailDoorbell_of_depth_le v hup hown hopen⟩,
    fun s fn q v hup hown hopen =>
      ⟨goes_cqHeadDoorbell_of_posted v hup hown hopen, goes_cqHeadDoorbell_of_not_posted v hup hown hopen⟩,
    fun s fn q v hup hstray => ⟨goes_sqTailDoorbell_stray v hup hstray, goes_cqHeadDoorbell_stray v hup hstray⟩⟩
  refine ⟨_, goes_sqTailDoorbell_of_lt_depth v hup hown hopen hv, rfl, by simp, by simp, fun p hp => ?_, by simp⟩
  simp only [State.queue_depthCrossing_ne _ _ hp, State.queue_updQueue_ne _ _ hp]

/-- Settles O32: a read goes by what is latched at its address and, with nothing latched, by the 64-bit register there. -/
theorem wideRegistersLatch : Obligations.WideRegistersLatch := by
  unfold Obligations.WideRegistersLatch
  refine ⟨fun s fn a v hr hw => ⟨goes_registerLowWordRead_of_reaches hr hw, rfl, fun _ => ?_⟩,
    fun s fn a v hr hl => ⟨?_, s.latches_latch_same fn a none, fun b hb => s.latches_latch_ne fn none hb⟩,
    fun s fn a v hr hl hw => ?_, fun s fn a v ha => ?_⟩
  · simp [State.readLow]
  · exact State.readReg_of_latched hl ▸ goes_rcRegisterRead_of_reaches hr
  · exact State.readReg_of_wide hl hw ▸ goes_rcRegisterRead_of_reaches hr
  · have haddr := s.addresses_unaligned fn ha
    exact ⟨goes_registerLowWordRead_of_not_addresses haddr, goes_rcRegisterRead_of_not_addresses haddr,
      goes_registerWrite_of_not_addresses v haddr⟩

/-- Settles O33: a read of a word that is not latched goes to the word itself, and the counters named are words of PF0's blocks
that the read leaves at 0. -/
theorem registerAccessesComplete : Obligations.RegisterAccessesComplete := by
  unfold Obligations.RegisterAccessesComplete
  refine ⟨fun s fn a hr hl hw => ?_, fun s a ha => ?_, fun s fn a v hr => goes_registerWrite_of_reaches v hr,
    fun s fn a v haddr hclock => ⟨goes_rcRegisterRead_of_stopped haddr hclock, goes_registerWrite_of_stopped v haddr hclock⟩,
    State.regWrite_outbox⟩
  · exact State.readReg_of_narrow hl hw ▸ goes_rcRegisterRead_of_reaches hr
  · obtain ⟨hlow, hhigh, hw, hw'⟩ := (s.regClear 0 a).wide_rcCounter a ha
    rw [State.regWord_of_block hlow hhigh hw hw', s.blockWord_regClear a ha]

end Sys2Proof.Machine
end

section
/-! SUPPORT. A slot that leaves RELEASED: what the change of its state, the hold trigger and the end of its wind-up channel
each make of the slot, its strings and its channel. -/
namespace Sys2Proof.Machine

/-! ### What a change of state makes of the slots (R85, Table 3-9) -/

/-- What a slot holds once it has changed its state at a time: a departure from RELEASED is counted up to 255. -/
def Slot.enter (x : Slot) (now : Nat) (st : SlotState) (why : Reason) (checked : Bool) : Slot :=
  { x with state := st, reason := why, checked := checked, changedAt := if x.state == st then x.changedAt else some now,
           holds := if x.state == .released && st != .released then min (x.holds + 1) 255 else x.holds }

/-- A departure from RELEASED is counted. -/
theorem Slot.holds_enter_of_released {x : Slot} {st : SlotState} (now : Nat) (why : Reason) (checked : Bool)
    (h : x.state = .released) (hst : st ≠ .released) : (x.enter now st why checked).holds = min (x.holds + 1) 255 := by
  simp [Slot.enter, h, hst]

section SetSlot
variable (s : State) (n : Nat) (st : SlotState) (why : Reason) (checked : Bool)

/-- A change of a slot's state touches, of chapter 3's unit, the slot and the CHANGE bit. -/
theorem State.strs_setSlot : ∃ c, (s.setSlot n st why checked).strs =
    { s.strs with slots := s.strs.slots.upd n {} (fun x => x.enter s.now st why checked), change := c } := by
  unfold State.setSlot
  dsimp only
  split
  · exact ⟨s.strs.change, rfl⟩
  · refine ⟨s.strs.change || (s.slot n).state != st, ?_⟩
    simp only [State.logSuperseded, State.log_keeps, State.strs_ite, ite_self]
    rfl

theorem State.slot_setSlot_same : (s.setSlot n st why checked).slot n = (s.slot n).enter s.now st why checked := by
  obtain ⟨c, h⟩ := s.strs_setSlot n st why checked
  simp [State.slot, h]

theorem State.slot_setSlot_ne {m : Nat} (hm : m ≠ n) : (s.setSlot n st why checked).slot m = s.slot m := by
  obtain ⟨c, h⟩ := s.strs_setSlot n st why checked
  simp [State.slot, h, Tab.get_upd_ne _ _ _ hm]

@[simp] theorem State.str_setSlot (i : Nat) : (s.setSlot n st why checked).str i = s.str i := by
  obtain ⟨c, h⟩ := s.strs_setSlot n st why checked
  simp [State.str, h]

@[simp] theorem State.cutShort_setSlot : (s.setSlot n st why checked).strs.cutShort = s.strs.cutShort := by
  obtain ⟨c, h⟩ := s.strs_setSlot n st why checked
  simp [h]

@[simp] theorem State.now_setSlot : (s.setSlot n st why checked).now = s.now := by simp [State.now]

end SetSlot

/-! ### What the hold trigger makes of the strings (R103) -/

/-- The strings of a slot are read from the policy alone. -/
theorem State.slotOutputs_congr {s t : State} (h : t.pol = s.pol) (n : Nat) : t.slotOutputs n = s.slotOutputs n := by
  simp only [State.slotOutputs, State.slotStrings, State.strEntries, State.sec, State.image, h]

/-- s with string p.1 due to go taut at its hold offset, where it is slack, and with no change due otherwise. -/
def State.tautenStr (s : State) (p : Nat × StrEntry) : State :=
  s.updStr p.1 (fun x => { x with due := if x.slack then some (s.now + p.2.offsetB, false) else none })

@[simp] theorem State.now_tautenStr (s : State) (p : Nat × StrEntry) : (s.tautenStr p).now = s.now := by
  simp [State.tautenStr, State.now]

@[simp] theorem State.slot_tautenStr (s : State) (p : Nat × StrEntry) (m : Nat) : (s.tautenStr p).slot m = s.slot m := by
  simp [State.tautenStr]

@[simp] theorem State.due_tautenStr_same (s : State) (p : Nat × StrEntry) :
    ((s.tautenStr p).str p.1).due = if (s.str p.1).slack then some (s.now + p.2.offsetB, false) else none := by
  simp [State.tautenStr]

theorem State.str_tautenStr_ne (s : State) {p : Nat × StrEntry} {i : Nat} (h : i ≠ p.1) : (s.tautenStr p).str i = s.str i := by
  simp [State.tautenStr, State.str_updStr_ne _ _ h]

/-- A change that becomes due moves no string yet. -/
@[simp] theorem State.slack_tautenStr (s : State) (p : Nat × StrEntry) (i : Nat) :
    ((s.tautenStr p).str i).slack = (s.str i).slack := by
  by_cases h : i = p.1
  · subst h; simp [State.tautenStr]
  · rw [s.str_tautenStr_ne h]

@[simp] theorem State.slot_foldl_tautenStr (l : List (Nat × StrEntry)) (s : State) (m : Nat) :
    (l.foldl State.tautenStr s).slot m = s.slot m := by
  induction l generalizing s with
  | nil => rfl
  | cons p l ih => simp [ih]

theorem State.str_foldl_tautenStr_of_notMem {l : List (Nat × StrEntry)} {i : Nat} (s : State) (h : i ∉ l.map Prod.fst) :
    (l.foldl State.tautenStr s).str i = s.str i := by
  induction l generalizing s with
  | nil => rfl
  | cons p l ih =>
    obtain ⟨hp, hl⟩ : i ≠ p.1 ∧ i ∉ l.map Prod.fst := by simpa using h
    rw [List.foldl_cons, ih _ hl, s.str_tautenStr_ne hp]

/-- Each string of a list is then due by one of its entries in the list: the last that names it. -/
theorem State.due_foldl_tautenStr {l : List (Nat × StrEntry)} {i : Nat} (s : State) (h : i ∈ l.map Prod.fst) :
    ∃ e, (i, e) ∈ l ∧ ((l.foldl State.tautenStr s).str i).due =
      if (s.str i).slack then some (s.now + e.offsetB, false) else none := by
  induction l generalizing s with
  | nil => exact absurd h List.not_mem_nil
  | cons p l ih =>
    by_cases hl : i ∈ l.map Prod.fst
    · obtain ⟨e, he, hdue⟩ := ih (s.tautenStr p) hl
      exact ⟨e, List.mem_cons_of_mem _ he, by simpa using hdue⟩
    · obtain rfl : i = p.1 := (List.mem_cons.1 h).resolve_right hl
      refine ⟨p.2, List.mem_cons_self, ?_⟩
      rw [List.foldl_cons, State.str_foldl_tautenStr_of_notMem _ hl, State.due_tautenStr_same]

/-- What the hold trigger makes of its slot (R103). -/
def Slot.trigger (x : Slot) (now : Nat) : Slot :=
  { x with seq := .holding, trigAt := now, gateWait := false, completed := false, readyAt := 0 }

/-- A hold trigger tautens the slot's output strings and begins its hold sequence. -/
theorem State.holdTrigger_eq (s : State) (n : Nat) :
    s.holdTrigger n = ((s.slotOutputs n).foldl State.tautenStr s).updSlot n
      (fun x => x.trigger ((s.slotOutputs n).foldl State.tautenStr s).now) := rfl

@[simp] theorem State.slot_holdTrigger_same (s : State) (n : Nat) :
    (s.holdTrigger n).slot n = (s.slot n).trigger ((s.slotOutputs n).foldl State.tautenStr s).now := by
  simp [State.holdTrigger_eq]

theorem State.slot_holdTrigger_ne (s : State) {n m : Nat} (hm : m ≠ n) : (s.holdTrigger n).slot m = s.slot m := by
  rw [s.holdTrigger_eq, State.slot_updSlot_ne _ _ hm, State.slot_foldl_tautenStr]

theorem State.due_holdTrigger (s : State) {n : Nat} {p : Nat × StrEntry} (hp : p ∈ s.slotOutputs n) :
    ∃ e, (p.1, e) ∈ s.slotOutputs n ∧ ((s.holdTrigger n).str p.1).due =
      if (s.str p.1).slack then some (s.now + e.offsetB, false) else none := by
  rw [s.holdTrigger_eq, State.str_updSlot]
  exact State.due_foldl_tautenStr s (List.mem_map_of_mem hp)

/-! ### What a hold while the Control Region is down leaves for later (R16, R108) -/

/-- What a hold that waits for the restart's end makes of its slot. -/
def Slot.triggerLater (x : Slot) : Slot := { x with seq := .none, gateWait := false, completed := false, readyAt := 0 }

@[simp] theorem State.slot_holdLater_same (s : State) (n : Nat) : (s.holdLater n).slot n = (s.slot n).triggerLater := by
  rw [State.holdLater, State.slot_updSlot_same]; rfl

theorem State.slot_holdLater_ne (s : State) {n m : Nat} (hm : m ≠ n) : (s.holdLater n).slot m = s.slot m := by
  rw [State.holdLater, State.slot_updSlot_ne _ _ hm]; rfl

@[simp] theorem State.str_holdLater (s : State) (n i : Nat) : (s.holdLater n).str i = s.str i := rfl

@[simp] theorem State.cutShort_holdLater (s : State) (n : Nat) :
    (s.holdLater n).strs.cutShort = s.strs.cutShort ++ [(n, false)] := rfl

/-! ### The wind-up channel (R463) -/

@[simp] theorem State.state_chan_disarm_same (s : State) (n : Nat) : ((s.disarm n).chan n).state = .idle := by
  simp [State.disarm, State.chan]

theorem State.chan_disarm_ne (s : State) {n m : Nat} (hm : m ≠ n) : (s.disarm n).chan m = s.chan m := by
  simp [State.disarm, State.chan, Tab.get_upd_ne _ _ _ hm]

/-! ### Leaving RELEASED -/

/-- s with slot n in its new state at the instant of the hold, before its hold sequence is seen to. -/
def State.unrelease (s : State) (n : Nat) (st : SlotState) (why : Reason) : State :=
  let t := s.setSlot n st why (s.slot n).checked
  t.updSlot n (fun x => { x with heldAt := some t.now })

section Unrelease
variable (s : State) (n : Nat) (st : SlotState) (why : Reason)

@[simp] theorem State.slot_unrelease_same : (s.unrelease n st why).slot n =
    { (s.slot n).enter s.now st why (s.slot n).checked with heldAt := some s.now } := by
  simp [State.unrelease, State.slot_setSlot_same]

theorem State.slot_unrelease_ne {m : Nat} (hm : m ≠ n) : (s.unrelease n st why).slot m = s.slot m := by
  rw [State.unrelease, State.slot_updSlot_ne _ _ hm, State.slot_setSlot_ne _ _ _ _ _ hm]

@[simp] theorem State.str_unrelease (i : Nat) : (s.unrelease n st why).str i = s.str i := by
  simp [State.unrelease]

@[simp] theorem State.cutShort_unrelease : (s.unrelease n st why).strs.cutShort = s.strs.cutShort :=
  s.cutShort_setSlot n st why _

@[simp] theorem State.now_unrelease : (s.unrelease n st why).now = s.now := by simp [State.unrelease, State.now]

@[simp] theorem State.slotOutputs_unrelease (m : Nat) : (s.unrelease n st why).slotOutputs m = s.slotOutputs m :=
  State.slotOutputs_congr (by simp [State.unrelease]) m

/-- s with slot n out of RELEASED and its hold sequence begun, or kept for the end of the restart (R103, R108). -/
def State.sequenceHold : State :=
  if s.boot.controlUp then (s.unrelease n st why).holdTrigger n else (s.unrelease n st why).holdLater n

theorem State.sequenceHold_of_up (hup : s.boot.controlUp = true) : s.sequenceHold n st why = (s.unrelease n st why).holdTrigger n := by
  simp [State.sequenceHold, hup]

theorem State.sequenceHold_of_down (hdown : s.boot.controlUp = false) :
    s.sequenceHold n st why = (s.unrelease n st why).holdLater n := by
  simp [State.sequenceHold, hdown]

@[simp] theorem State.chan_sequenceHold (m : Nat) : (s.sequenceHold n st why).chan m = s.chan m := by
  simp [State.chan, State.sequenceHold, State.unrelease]

/-- The hold sequence keeps what the change of state gave the slot. -/
theorem State.slot_sequenceHold_same :
    ((s.sequenceHold n st why).slot n).state = st ∧ ((s.sequenceHold n st why).slot n).reason = why ∧
    ((s.sequenceHold n st why).slot n).holds = ((s.slot n).enter s.now st why (s.slot n).checked).holds := by
  unfold State.sequenceHold
  split
  · simp [Slot.trigger, Slot.enter]
  · simp [Slot.triggerLater, Slot.enter]

theorem State.slot_sequenceHold_ne {m : Nat} (hm : m ≠ n) : (s.sequenceHold n st why).slot m = s.slot m := by
  unfold State.sequenceHold
  split
  · rw [State.slot_holdTrigger_ne _ hm, s.slot_unrelease_ne n st why hm]
  · rw [State.slot_holdLater_ne _ hm, s.slot_unrelease_ne n st why hm]

/-- After the hold sequence a departure from RELEASED ends the channel and looks at the ports. -/
theorem State.leaveReleased_eq : s.leaveReleased n st why =
    (((s.sequenceHold n st why).disarm n).slotPorts n).foldl State.portAfterHold ((s.sequenceHold n st why).disarm n) := by
  have hboot : (s.unrelease n st why).boot = s.boot := by simp [State.unrelease]
  rw [State.sequenceHold, ← hboot]
  rfl

@[simp] theorem State.strs_leaveReleased : (s.leaveReleased n st why).strs = (s.sequenceHold n st why).strs := by
  simp [State.leaveReleased_eq]

@[simp] theorem State.slot_leaveReleased (m : Nat) : (s.leaveReleased n st why).slot m = (s.sequenceHold n st why).slot m := by
  simp [State.slot]

@[simp] theorem State.str_leaveReleased (i : Nat) : (s.leaveReleased n st why).str i = (s.sequenceHold n st why).str i := by
  simp [State.str]

theorem State.chan_leaveReleased (m : Nat) : (s.leaveReleased n st why).chan m = ((s.sequenceHold n st why).disarm n).chan m := by
  simp [State.chan, State.leaveReleased_eq]

end Unrelease

/-- Settles O6: the hold sequence and the end of the channel leave the slot as its change of state made it, and the strings
are due by the hold trigger or, while the Control Region is down, as they were. -/
theorem holdTriggerHoldsTheSlot : Obligations.HoldTriggerHoldsTheSlot := by
  unfold Obligations.HoldTriggerHoldsTheSlot
  intro s n st why hreleased hst
  obtain ⟨hstate, hreason, hholds⟩ := s.slot_sequenceHold_same n st why
  simp only [State.slot_leaveReleased, State.str_leaveReleased, State.strs_leaveReleased, State.chan_leaveReleased]
  refine ⟨hstate, hreason, ?_, State.state_chan_disarm_same _ n, fun m hm => ⟨s.slot_sequenceHold_ne n st why hm, ?_⟩,
    fun p hp hup => ?_, fun hdown => ?_⟩
  · rw [hholds, Slot.holds_enter_of_released _ _ _ hreleased hst]
  · rw [State.chan_disarm_ne _ hm, State.chan_sequenceHold]
  · simpa [s.sequenceHold_of_up n st why hup] using (s.unrelease n st why).due_holdTrigger (by simpa using hp)
  · simp [s.sequenceHold_of_down n st why hdown]

end Sys2Proof.Machine
end

section
/-! SUPPORT. The temper loop and the power cap: the bounds of the supply's next command, what each evaluation answers, and
that the work and the scans that an evaluation of the cap places or holds off touch no more of the Spine than its yields. -/
namespace Sys2Proof.Machine

/-! ### The supply's next command (R24, R26) -/

/-- A command asked for is one of at most 10 mV from the present one and not below the floor. -/
theorem State.nextVcore_bounds {s : State} (raise lower : Bool) (hfloor : s.floorMv ≤ s.spn.vcoreMv) :
    s.nextVcore raise lower ≤ s.spn.vcoreMv + 10 ∧ s.spn.vcoreMv ≤ s.nextVcore raise lower + 10 ∧
    s.floorMv ≤ s.nextVcore raise lower := by
  unfold State.nextVcore
  dsimp only
  generalize (if raise then _ else _) = asked
  have hwant : s.floorMv ≤ max s.floorMv (min asked (max s.floorMv s.spn.ceilingMv)) := Nat.le_max_left _ _
  generalize max s.floorMv (min asked (max s.floorMv s.spn.ceilingMv)) = want at hwant ⊢
  split
  · omega
  · split <;> omega

/-! ### What an evaluation of the cap keeps of the Spine (R522, R523) -/

/-- The Spine but for its yields. -/
def Spn.butYields (x : Spn) : Spn := { x with yields := [], yieldCount := 0 }

/-- A part of the Spine that every step of a run keeps is kept by the run. -/
theorem butYields_foldl {α : Type} {f : State → α → State} (h : ∀ t a, (f t a).spn.butYields = t.spn.butYields) (l : List α)
    (s : State) : (l.foldl f s).spn.butYields = s.spn.butYields :=
  List.foldlRecOn (motive := fun t => t.spn.butYields = s.spn.butYields) l f rfl fun t ht a _ => (h t a).trans ht

@[simp] theorem State.butYields_startYield (s : State) (r : Region) (winner yielder cls idx tag : Nat) :
    (s.startYield r winner yielder cls idx tag).spn.butYields = s.spn.butYields := by
  unfold State.startYield
  split
  · rfl
  · rw [(State.log_keeps _ _ _ _ _ _ _).1]; rfl

@[simp] theorem State.butYields_yieldEnd (s : State) (r : Region) (cls idx tag : Nat) :
    (s.yieldEnd r cls idx tag).spn.butYields = s.spn.butYields := by
  unfold State.yieldEnd
  dsimp only
  rw [State.spn_foldl (by simp)]
  rfl

@[simp] theorem State.butYields_depriveOp (s : State) (o : HOp) : (s.depriveOp o).spn.butYields = s.spn.butYields := by
  unfold State.depriveOp
  split
  · rw [State.butYields_startYield]
  · rfl

@[simp] theorem State.butYields_markDeprived (s : State) : s.markDeprived.spn.butYields = s.spn.butYields :=
  butYields_foldl State.butYields_depriveOp _ s

@[simp] theorem State.butYields_placeWork (s : State) : s.placeWork.spn.butYields = s.spn.butYields := by
  simp [State.placeWork]

@[simp] theorem State.butYields_pauseForCap (s : State) : s.pauseForCap.spn.butYields = s.spn.butYields := by
  unfold State.pauseForCap
  dsimp only
  split
  · exact butYields_foldl (fun t x => State.butYields_yieldEnd t _ _ _ _) _ s
  · refine butYields_foldl (fun t x => ?_) _ s
    split <;> simp

/-- What an evaluation of the cap reads and shows: the average power, its instant, the thermal cap, the setting and the HIT
bit. -/
def Spn.capReading (x : Spn) : Nat × Nat × Nat × Nat × Bool := (x.power, x.capAt, x.thermalCap, x.capSetting, x.capHit)

/-- The yields are no part of the reading. -/
theorem Spn.capReading_congr {x y : Spn} (h : x.butYields = y.butYields) : x.capReading = y.capReading :=
  (congrArg Spn.capReading h :)

/-- A step of Table 16-8 is taken in the ceiling, the budget, the digest pairs and the overrun's instant alone. -/
@[simp] theorem State.capReading_capStepUp (s : State) : s.capStepUp.spn.capReading = s.spn.capReading := by
  unfold State.capStepUp
  dsimp only
  split
  · rfl
  split
  · rfl
  split
  · rfl
  split
  · rfl
  split
  · rfl
  split
  · rw [(State.log_keeps _ _ _ _ _ _ _).1]; rfl
  · rfl

@[simp] theorem State.capReading_capStepDown (s : State) : s.capStepDown.spn.capReading = s.spn.capReading := by
  unfold State.capStepDown
  split <;> rfl

/-- The cap that an evaluation finds in force: the lower of the setting and the thermal cap of now (R522). -/
def State.capNow (s : State) : Nat := min s.spn.capSetting (thermalCapAt s.spn.tj)

/-- s with what an evaluation of the cap measures: the power, the thermal cap, HIT and since when the power is 0.5 W below. -/
def State.measureCap (s : State) (p : Nat) : State :=
  let s' : State := { s with spn := { s.spn with power := p, capAt := s.now, thermalCap := thermalCapAt s.spn.tj } }
  let t : State := if s.capNow ≤ p then { s' with spn := { s'.spn with capHit := true } } else s'
  { t with spn := { t.spn with belowSince := if p + 4 ≤ s.capNow then some (t.spn.belowSince.getD t.now) else none } }

/-- s with the step of Table 16-8 that the power p asks for at a cap: the next one, or the last undone (R522, R523). -/
def State.stepCap (s : State) (cap p : Nat) : State :=
  if cap < p then s.capStepUp
  else match s.spn.belowSince with
    | some t =>
      if t + 10000 ≤ s.now ∧ 0 < s.spn.capStep then { s.capStepDown with spn := { s.capStepDown.spn with belowSince := some s.now } } else s
    | none => s

theorem State.capReading_measureCap (s : State) (p : Nat) : (s.measureCap p).spn.capReading =
    (p, s.now, thermalCapAt s.spn.tj, s.spn.capSetting, decide (s.capNow ≤ p) || s.spn.capHit) := by
  by_cases h : s.capNow ≤ p <;> simp [State.measureCap, Spn.capReading, h]

@[simp] theorem State.capReading_stepCap (s : State) (cap p : Nat) : (s.stepCap cap p).spn.capReading = s.spn.capReading := by
  unfold State.stepCap
  split
  · exact s.capReading_capStepUp
  split
  · split
    · exact s.capReading_capStepDown
    · rfl
  · rfl

/-- An evaluation of the cap that is due measures, takes its step, and places the work that the new budget allows. -/
theorem goes_powerCapEvaluation {s : State} (p : Nat) (hup : s.boot.controlUp = true) (hdue : s.spn.capAt + 100 ≤ s.now) :
    Goes (.powerCapEvaluation p) s ((((s.measureCap p).stepCap s.capNow p).setBudget
      ((s.measureCap p).stepCap s.capNow p).budgetNow).placeWork.pauseForCap) := by
  show execPowerCapEvaluation p s = _
  rw [execPowerCapEvaluation, if_neg (by simp [hup, hdue])]
  rfl

/-- The budget, the work placed under it and the scans held off leave the reading as the measurement made it. -/
theorem State.capReading_evaluation (s : State) (b p : Nat) :
    (((s.measureCap p).stepCap s.capNow p).setBudget b).placeWork.pauseForCap.spn.capReading =
      (p, s.now, thermalCapAt s.spn.tj, s.spn.capSetting, decide (s.capNow ≤ p) || s.spn.capHit) := by
  rw [Spn.capReading_congr (State.butYields_pauseForCap _), Spn.capReading_congr (State.butYields_placeWork _),
    (State.setBudget_keeps _ _).1, State.capReading_stepCap, State.capReading_measureCap]

/-! ### The commands of Table 16-11 -/

section Commands
variable {s : State} {h : Hdr}

theorem reads_faultStatus {a : Nat} (hr : Ready s h (opFaultStatus.on (le 8 a))) (ha : s.writeAddrOk h a = true) :
    Reads (.faultStatus h a) h (okOut a (le 4 (s.started h).serviceWord ++ le 4 s.spn.corrected ++ le 4 s.remapWord ++
      le 4 s.islandWord ++ le 4 s.crossWord ++ le 4 ((s.started h).domainWord 0) ++ le 4 ((s.started h).domainWord 1) ++
      le 4 ((s.started h).domainWord 2) ++ le 4 s.crossWord2)) s := by
  show execFaultStatus h a s = _
  simp [execFaultStatus, ha, commandR_ready hr]

theorem reads_powerStatus (hr : Ready s h opPowerStatus) : Reads (.powerStatus h) h
    (ok (le 4 s.temperWord ++ le 4 (s.started h).powerWord ++ le 4 s.powerCfgWord ++ le 2 s.spn.currentTenMa ++ [0, 0])) s := by
  show execPowerStatus h s = _
  simp [execPowerStatus, commandR_ready hr]

theorem ends_powerCapSet {c : Nat} (hr : Ready s h (opPowerCapSet.on (le 1 c))) (hlow : 64 ≤ c) (hhigh : c ≤ 152) :
    Ends (.powerCapSet h c) h
      (ok (le 1 (min c s.spn.thermalCap) ++ le 1 (laneBudget (min c s.spn.thermalCap)) ++ [0, 0])) s
      ({ s.started h with spn := { s.spn with capSetting := c, byCommand := true } } : State).refreshCed := by
  show execPowerCapSet h c s = _
  simp [execPowerCapSet, hlow, hhigh, commandC_ready hr, State.effectiveCap]

end Commands

/-! ### The temper loop (R26, R27) -/

/-- An evaluation of the loop asks for more supply: a threshold is passed, or a scan is late (R26). -/
def asksRaise (util wait bellows : Nat) (late : Bool) : Bool := decide (24 < wait ∨ 70 < util ∨ 70 < bellows) || late

/-- A condition of R26 holds at half its threshold, so that the supply is not lowered (log entry 28). -/
def halfBusy (util wait bellows : Nat) (late : Bool) : Bool := decide (12 < wait ∨ 35 < util ∨ 35 < bellows) || late

/-- The time since which no condition has held at half its threshold, as an evaluation leaves it. -/
def State.calmFrom (s : State) (busy : Bool) : Nat := if busy then s.now else s.spn.calmSince

/-- s with what the sensors show at an evaluation of the loop. -/
def State.sense (s : State) (tj : Int) (current util wait : Nat) (late : Bool) (bellows : Nat) : State :=
  { s with spn := { s.spn with tj := tj, currentTenMa := current % 65536, temperAt := s.now,
                               calmSince := s.calmFrom (halfBusy util wait bellows late), bellowsPct := min bellows 100 },
           hma := { s.hma with utilPct := min util 100, waitE := min wait 255 } }

section Evaluation
variable {s : State} (tj : Int) (current util wait : Nat) (late : Bool) (bellows : Nat)
  (hup : s.boot.controlUp = true) (hstart : s.spn.temper ≠ .startup) (hdue : s.spn.temperAt + 100 ≤ s.now)
include hup hstart hdue

theorem goes_temperEvaluation_of_held (ack : Bool) (hhold : s.spn.temper = .avsHold) :
    Goes (.temperEvaluation tj current util wait late ack bellows) s (s.sense tj current util wait late bellows) := by
  show execTemperEvaluation tj current util wait late ack s bellows = _
  rw [execTemperEvaluation, if_neg (by simp [hup, hstart, hdue])]
  exact if_pos hhold

/-- Away from AVS_HOLD, the regulator's answer decides between the next command and the hold of the last. -/
theorem execTemperEvaluation_of_not_held (ack : Bool) (hhold : s.spn.temper ≠ .avsHold) :
    execTemperEvaluation tj current util wait late ack s bellows =
      let t := s.sense tj current util wait late bellows
      if ack then .next (t.setVcore (t.nextVcore (asksRaise util wait bellows late)
        (!halfBusy util wait bellows late && decide (s.calmFrom (halfBusy util wait bellows late) + 10000 ≤ s.now))))
      else .next t.avsHold := by
  rw [execTemperEvaluation, if_neg (by simp [hup, hstart, hdue])]
  exact if_neg hhold

end Evaluation

@[simp] theorem State.spn_avsHold (s : State) :
    s.avsHold.spn = { s.spn with temper := .avsHold, avsFault := true, avsRetryAt := s.now + 10000 } := by
  simp [State.avsHold]

section Retry
variable {s : State} (hup : s.boot.controlUp = true) (hhold : s.spn.temper = .avsHold) (hdue : s.spn.avsRetryAt ≤ s.now)
include hup hhold hdue

theorem goes_avsRetry_acknowledged : Goes (.avsRetry true) s (s.setVcore s.spn.vcoreMv) := by
  show execAvsRetry true s = _
  simp [execAvsRetry, hup, hhold, Nat.not_lt.2 hdue]

theorem goes_avsRetry_unacknowledged :
    Goes (.avsRetry false) s { s with spn := { s.spn with avsRetryAt := s.now + 10000 } } := by
  show execAvsRetry false s = _
  simp [execAvsRetry, hup, hhold, Nat.not_lt.2 hdue]

end Retry

/-- Settles O56: the commands answer what the started command reads; the loop takes what the sensors show and moves the supply
by its bounds, and an evaluation of the cap leaves its reading for the words. The hold at each evaluation and the halved
thresholds (log entry 28), and the one step of an evaluation of the cap (log entry 29), are the model's choice. -/
theorem faultCommandsComplete : Obligations.FaultCommandsComplete := by
  unfold Obligations.FaultCommandsComplete
  refine ⟨fun s h a hr ha => reads_faultStatus hr ha, fun s h c t hr hlow hhigh ht => ht ▸ ends_powerCapSet hr hlow hhigh,
    fun s h hr => reads_powerStatus hr, ?_, fun s r b hf => State.nextVcore_bounds r b hf, fun s v => ⟨rfl, by simp⟩,
    fun s hup hhold hdue => ⟨goes_avsRetry_acknowledged hup hhold hdue, goes_avsRetry_unacknowledged hup hhold hdue⟩,
    fun s p hup hdue => ?_, fun c hc => if_pos hc, rfl⟩
  · intro s t j c u w l k raise busy calm hup hstart hdue hraise hbusy hcalm ht
    subst hraise hbusy hcalm ht
    exact ⟨fun hhold a => goes_temperEvaluation_of_held j c u w l k hup hstart hdue a hhold,
      fun hhold => ⟨execTemperEvaluation_of_not_held j c u w l k hup hstart hdue true hhold,
        execTemperEvaluation_of_not_held j c u w l k hup hstart hdue false hhold⟩⟩
  · refine ⟨_, goes_powerCapEvaluation p hup hdue, ?_⟩
    have h := s.capReading_evaluation ((s.measureCap p).stepCap s.capNow p).budgetNow p
    simp only [Spn.capReading, Prod.mk.injEq] at h
    obtain ⟨hpower, hat, hthermal, hsetting, hhit⟩ := h
    exact ⟨hpower, hat, hthermal, fun hp => hhit.trans (by simp [State.capNow, hp]), hsetting⟩

end Sys2Proof.Machine
end

section
/-! SUPPORT. Chapter 2 and Table 8-19: what the resets of the PCIe island and of a function, and a cleared Bus Master Enable,
leave of the queues. -/

namespace Sys2Proof

/-- A key that a table does not list reads the default. -/
theorem Tab.get_of_not_mem_keys {α : Type} {t : Tab α} {k : Nat} (d : α) (h : k ∉ keys t) : get t k d = d := by
  induction t with
  | nil => rfl
  | cons p t ih =>
    obtain ⟨hne, ht⟩ := not_or.1 (mt List.mem_cons.2 h)
    simp [get, Ne.symm hne, ih ht]

namespace Machine

/-! ### Runs over queues -/

/-- A queue that the Command Engine holds no context of is at its reset value. -/
theorem State.queue_of_not_mem_usedQueues {s : State} {q : Nat} (h : q ∉ s.usedQueues) : s.queue q = {} :=
  Tab.get_of_not_mem_keys _ h

section Runs
variable {f : State → Nat → State} {q : Nat} (hne : ∀ s a, a ≠ q → (f s a).queue q = s.queue q)
include hne

/-- A run of steps that each leave every queue but their own leaves a queue that is not among them. -/
theorem State.queue_foldl_of_not_mem {l : List Nat} (hq : q ∉ l) (s : State) : (l.foldl f s).queue q = s.queue q := by
  induction l generalizing s with
  | nil => rfl
  | cons a l ih =>
    obtain ⟨ha, hl⟩ := not_or.1 (mt List.mem_cons.2 hq)
    rw [List.foldl_cons, ih hl, hne s a (Ne.symm ha)]

/-- What each such step makes of its own queue holds of every queue of the run after it. -/
theorem State.queue_foldl_of_mem {p : Queue → Prop} (hp : ∀ s, p ((f s q).queue q)) {l : List Nat} (hq : q ∈ l) (s : State) :
    p ((l.foldl f s).queue q) := by
  induction l generalizing s with
  | nil => exact absurd hq List.not_mem_nil
  | cons a l ih =>
    by_cases hl : q ∈ l
    · exact ih hl _
    · obtain rfl : q = a := (List.mem_cons.1 hq).resolve_right hl
      rw [List.foldl_cons, State.queue_foldl_of_not_mem hne hl]
      exact hp s

end Runs

/-! ### Resets (Table 8-19, R207) -/

theorem State.queue_resetQueue_same (s : State) (q : Nat) : (s.resetQueue q).queue q = (s.queue q).reset := by
  simp only [State.resetQueue]
  split <;> simp

theorem State.queue_resetQueue_ne (s : State) {q p : Nat} (h : p ≠ q) : (s.resetQueue p).queue q = s.queue q := by
  simp only [State.resetQueue]
  split <;> simp [State.queue_updQueue_ne _ _ h.symm]

@[simp] theorem Queue.state_reset (x : Queue) : x.reset.state = .closed := rfl

/-- Every queue that is reset is CLOSED, and so is one that needed no reset. -/
theorem State.state_foldl_resetQueue {s : State} {q : Nat} {l : List Nat} (h : q ∈ l ∨ (s.queue q).state = .closed) :
    ((l.foldl State.resetQueue s).queue q).state = .closed := by
  have hne := fun (s : State) a (ha : a ≠ q) => s.queue_resetQueue_ne ha
  by_cases hq : q ∈ l
  · exact State.queue_foldl_of_mem (p := fun x => x.state = .closed) hne (fun s => by simp [State.queue_resetQueue_same]) hq s
  · rw [State.queue_foldl_of_not_mem hne hq]
    exact h.resolve_left hq

/-- Closing every digest context leaves none (R207). -/
theorem State.context_closeContexts_all (s : State) (n : Nat) : (s.closeContexts (fun _ => true)).context n = none := by
  simp only [State.context, State.closeContexts]
  induction s.bde.contexts with
  | nil => rfl
  | cons e l ih =>
    obtain ⟨k, c⟩ := e
    cases c <;> simpa [List.filter_cons] using ih

@[simp] theorem State.queue_closeContexts (s : State) (p : Context → Bool) (q : Nat) : (s.closeContexts p).queue q = s.queue q := rfl

/-- A reset of the PCIe island leaves every queue CLOSED (R45, Table 8-19). -/
theorem State.queue_pcieReset (s : State) (q : Nat) : (s.pcieReset.queue q).state = .closed := by
  show ((s.usedQueues.foldl State.resetQueue s).queue q).state = .closed
  refine State.state_foldl_resetQueue ?_
  by_cases hq : q ∈ s.usedQueues
  · exact .inl hq
  · exact .inr (by rw [State.queue_of_not_mem_usedQueues hq])

/-- A queue that a function uses is one that the Command Engine holds a context of. -/
theorem State.mem_usedQueues_of_usesQueue {s : State} {fn q : Nat} (h : s.usesQueue fn q = true) : q ∈ s.usedQueues := by
  refine Decidable.byContradiction fun hq => ?_
  simp [State.usesQueue, State.queue_of_not_mem_usedQueues hq] at h

/-- s with the queues, the digest contexts, the control block and the waiting accesses of a function at their reset values. -/
def State.resetFunction (s : State) (fn : Nat) : State :=
  let t := (s.usedQueues.filter (fun q => s.usesQueue fn q || s.ownsQueue fn q)).foldl State.resetQueue s
  let u := (t.closeContexts (fun c => c.fn == fn)).updFn fn (fun _ => {})
  { u with cme := { u.cme with accesses := t.cme.accesses.filter (fun a => a.fn != fn) } }

theorem goes_functionLevelReset {s : State} (fn : Nat) (hup : s.pcieUp = true) :
    Goes (.functionLevelReset fn) s (s.resetFunction fn) := by
  show execFunctionLevelReset fn s = _
  exact if_neg (by simp [hup])

theorem State.fnBlock_resetFunction (s : State) (fn : Nat) : (s.resetFunction fn).fnBlock fn = {} := by
  show (State.updFn _ fn (fun _ => {})).fnBlock fn = {}
  exact State.fnBlock_updFn_same _ fn _

/-- A function-level reset closes the queues of its function. -/
theorem State.queue_resetFunction_of_mine {s : State} {fn q : Nat} (h : (s.usesQueue fn q || s.ownsQueue fn q) = true) :
    ((s.resetFunction fn).queue q).state = .closed := by
  refine State.state_foldl_resetQueue (s := s) ?_
  by_cases hused : q ∈ s.usedQueues
  · exact .inl (List.mem_filter.2 ⟨hused, h⟩)
  · exact .inr (by rw [State.queue_of_not_mem_usedQueues hused])

theorem State.queue_resetFunction_of_other {s : State} {fn q : Nat} (h : (s.usesQueue fn q || s.ownsQueue fn q) = false) :
    (s.resetFunction fn).queue q = s.queue q :=
  State.queue_foldl_of_not_mem (fun s _ ha => s.queue_resetQueue_ne ha) (by simp [List.mem_filter, h]) s

/-! ### Bus Master Enable (R311) -/

theorem State.queue_queueError_same (s : State) (q c : Nat) :
    (s.queueError q c).queue q = { (s.queue q).abandon with state := .error, lastCause := c } := by
  simp [State.queueError]

theorem State.queue_queueError_ne (s : State) {q p : Nat} (c : Nat) (h : p ≠ q) : (s.queueError p c).queue q = s.queue q := by
  simp [State.queueError, State.queue_updQueue_ne _ _ h.symm]

/-- A queue in use that is not in ERROR is OPEN or CLOSING. -/
theorem State.opened_or_closing_of_usesQueue {s : State} {fn q : Nat} (h : s.usesQueue fn q = true)
    (herr : (s.queue q).state ≠ .error) : (s.queue q).state = .opened ∨ (s.queue q).state = .closing := by
  obtain ⟨-, hclosed⟩ : (s.queue q).fn = fn ∧ (s.queue q).state ≠ .closed := by simpa [State.usesQueue] using h
  cases hs : (s.queue q).state <;> simp_all

theorem goes_busMasterDisable {s : State} {fn p : Nat} (hup : s.pcieUp = true) (huses : s.usesQueue fn p = true)
    (herr : (s.queue p).state ≠ .error) : Goes (.busMasterDisable fn) s
      (((s.queuesFor fn).foldl (fun t q => t.queueError q 4) s).updFn fn (fun b => { b with bmeLost := true })) := by
  have hopen : (s.usedQueues.any (fun q => s.usesQueue fn q && ((s.queue q).state == .opened || (s.queue q).state == .closing))) = true :=
    List.any_eq_true.2 ⟨p, State.mem_usedQueues_of_usesQueue huses, by
      simpa [huses] using State.opened_or_closing_of_usesQueue huses herr⟩
  show execBusMasterDisable fn s = _
  simp [execBusMasterDisable, hup, hopen]

/-- Settles O31: each row resets or fails the queues of a list by a run over it, which does to a queue of the list what its
step does and leaves every other queue. -/
theorem resetsCloseTheQueues : Obligations.ResetsCloseTheQueues := by
  unfold Obligations.ResetsCloseTheQueues
  refine ⟨fun s hup => ?_, fun s t hup hperst ht r l => ?_, fun b r l => rfl,
    fun s => ⟨rfl, s.queue_pcieReset, fun n => rfl, State.context_closeContexts_all _⟩, fun s r l => rfl,
    fun s fn hup => ⟨_, goes_functionLevelReset fn hup, s.fnBlock_resetFunction fn,
      fun _ => State.queue_resetFunction_of_mine, fun _ => State.queue_resetFunction_of_other⟩, fun s fn p hup huses herr =>
      ⟨_, goes_busMasterDisable hup huses herr, by simp, fun q hq hmine => ?_, fun q hother => ?_⟩⟩
  · show execPerstAssert s = _
    exact if_pos hup
  · show execPcieHotReset s r l = _
    simp [execPcieHotReset, hup, hperst, ht]
  · rw [State.queue_updFn]
    exact State.queue_foldl_of_mem (p := fun x => x.state = .error ∧ x.lastCause = 4) (fun s a ha => s.queue_queueError_ne 4 ha)
      (fun s => by simp [State.queue_queueError_same]) (List.mem_filter.2 ⟨List.mem_range.2 hq, hmine⟩) s
  · rw [State.queue_updFn]
    exact State.queue_foldl_of_not_mem (fun s a ha => s.queue_queueError_ne 4 ha) (by simp [State.queuesFor, hother]) s

end Machine
end Sys2Proof
end

section
/-! SUPPORT. Chapter 2's firmware copies and updates: what writing, emptying and preferring a copy leaves of the boot record,
how a row whose own work found its lanes ends, and what each message of the PLDM update agent is answered. -/
namespace Sys2Proof.Machine

/-! ### The copies of a component (R79) -/

section Copies
variable (s : State) (component c : Nat)

/-- The copies' states are part of the boot record. -/
theorem State.copyState_congr {s t : State} (h : t.boot = s.boot) (component c : Nat) :
    t.copyState component c = s.copyState component c := by
  simp [State.copyState, State.warden, State.bundle, h]

/-- The preferred copies are part of the boot record. -/
theorem State.preferredCopy_congr {s t : State} (h : t.boot = s.boot) (component : Nat) :
    t.preferredCopy component = s.preferredCopy component := by
  simp [State.preferredCopy, h]

theorem State.warden_updWarden_same (f : WardenCopy → WardenCopy) : (s.updWarden c f).warden c = f (s.warden c) := by
  simp only [State.updWarden, State.warden]
  split <;> rfl

theorem State.bundle_setBundle_same (x : BundleCopy) : (s.setBundle c x).bundle c = x := by
  simp only [State.setBundle, State.bundle]
  split <;> rfl

/-- A copy is EMPTY while it is written (R79). -/
theorem State.copyState_emptyCopy : (s.emptyCopy component c).copyState component c = .empty := by
  by_cases h : component = 1
  · simp [State.copyState, State.emptyCopy, h, State.warden_updWarden_same]
  · simp only [State.copyState, State.emptyCopy, h, if_false]
    exact congrArg BundleCopy.state (s.bundle_setBundle_same c { staging := true })

/-- A copy that has been written is VALID. -/
theorem State.copyState_writeCopy (image : Bytes) : (s.writeCopy component c image).copyState component c = .valid := by
  by_cases h : component = 1
  · simp only [State.copyState, State.writeCopy, h, if_true]
    split
    · exact congrArg WardenCopy.state (s.warden_updWarden_same c fun _ => { state := .valid, image := image })
    · simp [State.warden_updWarden_same]
  · simp only [State.copyState, State.writeCopy, h, if_false]
    exact congrArg BundleCopy.state (s.bundle_setBundle_same c { state := .valid, svn := bundleSvn image, minWarden := bundleMinWarden image })

/-- No change of a copy prefers one. -/
theorem State.preferredCopy_updWarden (f : WardenCopy → WardenCopy) (k : Nat) :
    (s.updWarden c f).preferredCopy k = s.preferredCopy k := by
  simp only [State.updWarden]
  split <;> rfl

theorem State.preferredCopy_setBundle (x : BundleCopy) (k : Nat) : (s.setBundle c x).preferredCopy k = s.preferredCopy k := by
  simp only [State.setBundle]
  split <;> rfl

theorem State.preferredCopy_emptyCopy (k : Nat) : (s.emptyCopy component c).preferredCopy k = s.preferredCopy k := by
  simp only [State.emptyCopy]
  split
  · exact s.preferredCopy_updWarden c _ k
  · exact s.preferredCopy_setBundle c _ k

theorem State.preferredCopy_writeCopy (image : Bytes) (k : Nat) :
    (s.writeCopy component c image).preferredCopy k = s.preferredCopy k := by
  simp only [State.writeCopy]
  split
  · split
    · exact s.preferredCopy_updWarden c _ k
    · exact s.preferredCopy_updWarden c _ k
  · exact s.preferredCopy_setBundle c _ k

/-- A copy made preferred is the preferred one (R81). -/
theorem State.preferredCopy_prefer : (s.prefer component c).preferredCopy component = c := by
  simp only [State.preferredCopy, State.prefer]
  split <;> rfl

end Copies

/-! ### The update in progress (R83) -/

@[simp] theorem State.boot_setUpdate (s : State) (u : Option Update) : (s.setUpdate u).boot = { s.boot with update := u } := rfl

@[simp] theorem State.boot_endUpdate (s : State) : s.endUpdate.boot = { s.boot with update := none } := by
  simp [State.endUpdate]

@[simp] theorem State.copyState_setUpdate (s : State) (u : Option Update) (component c : Nat) :
    (s.setUpdate u).copyState component c = s.copyState component c := rfl

@[simp] theorem State.copyState_pldm (s : State) (b cc component c : Nat) (body : Bytes) :
    (s.pldm b cc body).copyState component c = s.copyState component c := State.copyState_congr (by simp) component c

/-! ### Rows that try their own work on the lanes -/

/-- A row's work has found its lanes or needed none, in a state that no waiting row leaves. -/
theorem State.ownWait_of_not_waitsLane {t : State} (h : t.waitsLane = false) :
    t.hma.ownWait = .none ∨ t.hma.ownWait = .trying := by
  cases hw : t.hma.ownWait <;> simp_all [State.waitsLane, State.ownWaits]

/-- A row whose work has found its lanes leaves the boot record as its outcome has it. -/
theorem State.boot_ownDone (s : State) {t : State} (h : t.waitsLane = false) : (s.ownDone t).boot = t.boot := by
  rcases State.ownWait_of_not_waitsLane h with hw | hw <;> simp [State.ownDone, hw]

/-! ### The update agent (R82, R83) -/

/-- The update that a request of an agent begins. -/
def Update.requested (p : Peer) (m components now : Nat) : Update :=
  { via := .pldm, binding := p.binding, component := 0, copy := 0, lastProgress := now,
    maxTransfer := min (bindingLimit p.binding) m, pldm := .learn, left := components }

/-- The update with the download of a component into copy k begun. -/
def Update.downloads (u : Update) (c k n now : Nat) : Update :=
  { u with component := c, copy := k + 1, size := n, image := [], verified := false, pldm := .download, lastProgress := now }

/-- The update with one component of its table passed. -/
def Update.passed (u : Update) (now : Nat) : Update :=
  { u with left := u.left - 1, pldm := if u.left - 1 = 0 then .ready else .learn, lastProgress := now }

/-- The update with its component applied. -/
def Update.appliedAt (u : Update) (now : Nat) : Update :=
  { u with pldm := .ready, image := [], applied := u.applied ++ [(u.component, u.copy)], lastProgress := now }

section Agent
variable {s : State} (p : Peer) (hup : s.pldmUp = true)
include hup

theorem goes_queryDeviceIdentifiers :
    Goes (.queryDeviceIdentifiers p) s (s.pldm p.binding 0 Config.pldmIdentifiers) := if_pos hup

theorem goes_getFirmwareParameters : Goes (.getFirmwareParameters p) s (s.pldm p.binding 0 (le 4 0 ++ le 2 2 ++
    le 2 0xFFFF ++ le 2 1 ++ le 4 s.boot.fwVersion ++ le 4 (fld (s.warden s.boot.preferred).image 0x10 4) ++ le 2 0x0002 ++
    le 2 0xFFFF ++ le 2 2 ++ le 4 s.hma.bundleSvn ++ le 4 (s.bundle s.boot.bundlePreferred).svn ++ le 2 0x0010)) :=
  if_neg (by simp [hup])

/-- A request with no update in progress begins one. -/
theorem goes_requestUpdate (m c : Nat) (hnone : s.boot.update = none) : Goes (.requestUpdate p m c) s
    ((s.setUpdate (some (Update.requested p m c s.now))).pldm p.binding 0 (le 2 0 ++ [0])) := by
  show execRequestUpdate p m c s = _
  simp [execRequestUpdate, hup, hnone, Update.requested]

theorem goes_getStatus : Goes (.getStatus p) s (s.pldm p.binding 0 [byte ((s.pldmUpdate.map (fun u => u.pldm.code)).getD 0)]) :=
  if_neg (by simp [hup])

theorem goes_cancelUpdate_of_none (hnone : s.pldmUpdate = none) : Goes (.cancelUpdate p) s (s.pldm p.binding 0x80) := by
  show execCancelUpdate p s = _
  simp [execCancelUpdate, hup, hnone]

variable {u : Update} (hu : s.pldmUpdate = some u)
include hu

theorem goes_cancelUpdate_of_some : Goes (.cancelUpdate p) s (s.endUpdate.pldm p.binding 0) := by
  show execCancelUpdate p s = _
  simp [execCancelUpdate, hup, hu]

theorem goes_passComponentTable (c k : Nat) (hlearn : u.pldm = .learn) : Goes (.passComponentTable p c k) s
    ((s.setUpdate (some (u.passed s.now))).pldm p.binding 0 [byte (b2n (!(c == 1 || c == 2))), byte (if (c == 1 || c == 2) then 0 else 6)]) := by
  show execPassComponentTable p c k s = _
  simp [execPassComponentTable, hup, hu, hlearn, Update.passed]

/-- A component in range begins its download into the copy not in use. -/
theorem goes_updateComponent {c n k : Nat} (hready : u.pldm = .ready) (hsize : c = 1 ∧ n ≤ 4194304 ∨ c = 2 ∧ n ≤ 3145728)
    (hn : 1 ≤ n) (hk : s.stageTarget c 0 = some k) : Goes (.updateComponent p c n) s
      (((s.emptyCopy c k).setUpdate (some (u.downloads c k n s.now))).pldm p.binding 0 [0, 0]) := by
  show execUpdateComponent p c n s = _
  rcases hsize with ⟨rfl, hmax⟩ | ⟨rfl, hmax⟩ <;> simp [execUpdateComponent, hup, hu, hready, hn, hmax, hk, Update.downloads]

theorem goes_requestFirmwareData (d : Bytes) (hdownload : u.pldm = .download) (hyield : s.updateYields = false)
    (hn : 0 < min u.maxTransfer (u.size - u.image.length)) : Goes (.requestFirmwareData d) s (s.setUpdate (some { u with
      image := u.image ++ fixLen (min u.maxTransfer (u.size - u.image.length)) d, lastProgress := s.now })) := by
  show execRequestFirmwareData d s = _
  simp only [execRequestFirmwareData, hu]
  simp [hup, hdownload, hyield, hn]

theorem goes_requestFirmwareData_of_yields (d : Bytes) (hdownload : u.pldm = .download) (hyield : s.updateYields = true) :
    Goes (.requestFirmwareData d) s s.pldmYields := by
  show execRequestFirmwareData d s = _
  simp [execRequestFirmwareData, hup, hu, hdownload, hyield]

theorem goes_transferComplete (hdownload : u.pldm = .download) (hall : u.image.length = u.size) : Goes .transferComplete s
    ((s.setUpdate (some { u with pldm := .verify, lastProgress := s.now })).pldm u.binding 0) := by
  show execTransferComplete s = _
  simp [execTransferComplete, hup, hu, hdownload, hall]

theorem goes_verifyComplete_of_passes {w : Nat} {v : State} (hverify : u.pldm = .verify)
    (hjudge : s.tryOwn.judgeComponent u.component u.image w = (none, v)) : Goes (.verifyComplete w) s
      (s.ownDone ((v.setUpdate (some { u with verified := true, pldm := .apply, lastProgress := v.now })).pldm u.binding 0)) := by
  show execVerifyComplete s w = _
  simp [execVerifyComplete, hup, hu, hverify, ownRow, hjudge]

theorem goes_verifyComplete_of_fails {w : Nat} {f : BootCause} {v : State} (hverify : u.pldm = .verify)
    (hjudge : s.tryOwn.judgeComponent u.component u.image w = (some f, v)) : Goes (.verifyComplete w) s
      (s.ownDone (v.pldm u.binding (max f.code 1))) := by
  show execVerifyComplete s w = _
  simp [execVerifyComplete, hup, hu, hverify, ownRow, hjudge]

theorem goes_applyComplete_of_yields (happly : u.pldm = .apply) (hyield : s.updateYields = true) :
    Goes .applyComplete s s.pldmYields := by
  show execApplyComplete s = _
  simp [execApplyComplete, hup, hu, happly, hyield]

theorem goes_applyComplete (happly : u.pldm = .apply) (hyield : s.updateYields = false) : Goes .applyComplete s
    (((s.writeCopy u.component (u.copy - 1) u.image).setUpdate (some (u.appliedAt s.now))).pldm u.binding 0) := by
  show execApplyComplete s = _
  simp [execApplyComplete, hup, hu, happly, hyield, Update.appliedAt]

/-- Self-contained activation of an applied Warden image prefers its copy and begins the drain (R81). -/
theorem goes_activateFirmware_of_warden {k : Nat} (hready : u.pldm = .ready) (happlied : u.applied = [(1, k)]) :
    Goes (.activateFirmware p true) s (((s.prefer 1 (k - 1)).endUpdate.pldm p.binding 0 (le 2 0)).askRestart) := by
  show execActivateFirmware p true s = _
  simp [execActivateFirmware, hup, hu, hready, happlied]

theorem goes_cancelUpdateComponent (hbusy : u.pldm = .download ∨ u.pldm = .verify ∨ u.pldm = .apply) :
    Goes (.cancelUpdateComponent p) s
      ((s.setUpdate (some { u with pldm := .ready, image := [], verified := false, lastProgress := s.now })).pldm p.binding 0) := by
  show execCancelUpdateComponent p s = _
  simp [execCancelUpdateComponent, hup, hu, hbusy]

end Agent

section Timeout
variable {s : State} {u : Update} (hu : s.boot.update = some u) (hlate : u.lastProgress + 600000000 ≤ s.now)
include hu hlate

/-- 600 s without progress end an update (R83). -/
theorem goes_fwUpdateTimeout_of_no_waiter (hw : u.waiter = none) : Goes .fwUpdateTimeout s s.endUpdate := by
  show execFwUpdateTimeout s = _
  simp [execFwUpdateTimeout, hu, hlate, hw]

/-- They end the command of it that waits too. -/
theorem goes_fwUpdateTimeout_of_waiter {h : Hdr} {a : Bool} (hw : u.waiter = some (h, a)) :
    Goes .fwUpdateTimeout s (complete h { status := 0x0801, rung := 3, carriedOut := false } s.endUpdate) := by
  show execFwUpdateTimeout s = _
  simp [execFwUpdateTimeout, hu, hlate, hw]

end Timeout

/-- Settles O4: each message of the update agent meets one case of its row in the update's state; the copies are those of the
boot record, which no answer touches. That the timeout ends a waiting command with 0x0801 and CARRIED_OUT 0, and that the PLDM
steps wait for a recovery, is the model's choice (log entry 61). -/
theorem updateAgentIsServed : Obligations.UpdateAgentIsServed := by
  unfold Obligations.UpdateAgentIsServed
  refine ⟨fun s p hup => ⟨goes_queryDeviceIdentifiers p hup, goes_getFirmwareParameters p hup, fun m c hnone => ?_,
      fun hnone => ⟨?_, goes_cancelUpdate_of_none p hup hnone⟩⟩,
    fun s p u hup hu => ⟨?_, goes_cancelUpdate_of_some p hup hu, fun c k hlearn => ?_, fun c n k hready hsize hn hk => ?_,
      fun d hdownload hn hyield => goes_requestFirmwareData hup hu d hdownload hyield hn,
      fun d hdownload hyield => goes_requestFirmwareData_of_yields hup hu d hdownload hyield,
      goes_transferComplete hup hu,
      fun w v hverify hjudge _ => goes_verifyComplete_of_passes hup hu hverify hjudge,
      fun w v f hverify hjudge _ => goes_verifyComplete_of_fails hup hu hverify hjudge,
      goes_applyComplete_of_yields hup hu, fun happly hyield => ?_, fun k hready happlied => ?_,
      goes_cancelUpdateComponent p hup hu⟩,
    fun s u hu hlate hw => goes_fwUpdateTimeout_of_no_waiter hu hlate hw,
    fun s u h a hu hlate hw => goes_fwUpdateTimeout_of_waiter hu hlate hw⟩
  · exact ⟨_, .requested p m c s.now, goes_requestUpdate p hup m c hnone, by simp, rfl, rfl, rfl, rfl⟩
  · simpa [hnone, byte] using goes_getStatus p hup
  · simpa [hu] using goes_getStatus p hup
  · exact ⟨_, u.passed s.now, goes_passComponentTable p hup hu c k hlearn, by simp, rfl, by simp [Update.passed, Nat.sub_eq_zero_iff_le]⟩
  · exact ⟨_, u.downloads c k n s.now, goes_updateComponent p hup hu hready hsize hn hk, by simp, rfl, rfl, rfl, rfl, rfl,
      by simp [State.copyState_emptyCopy]⟩
  · exact ⟨_, u.appliedAt s.now, goes_applyComplete hup hu happly hyield, by simp, rfl, by simp [State.copyState_writeCopy], rfl⟩
  · exact ⟨_, goes_activateFirmware_of_warden p hup hu hready happlied, by simp [State.askRestart, State.restartSoon],
      by simp [State.askRestart, State.restartSoon, State.prefer], rfl⟩

end Sys2Proof.Machine
end

section
/-! SUPPORT. The firmware commands of Table 2-13: what each carries out, in the states that its statement names. -/
namespace Sys2Proof.Machine

/-! ### Commands that try their own work on the lanes -/

@[simp] theorem State.noteService_self (s : State) : State.noteService s s = s := by
  simp [State.noteService]

/-- A row whose work needed no lane leaves no trace of having tried. -/
@[simp] theorem State.ownDone_tryOwn (s : State) : s.ownDone s.tryOwn = s := s.noteService_self

theorem State.hammerUnavailable_tryOwn (s : State) : s.tryOwn.hammerUnavailable = s.hammerUnavailable := rfl

theorem State.islandStopped_tryOwn (s : State) (i : Nat) : s.tryOwn.islandStopped i = s.islandStopped i := rfl

theorem State.preferredCopy_tryOwn (s : State) (c : Nat) : s.tryOwn.preferredCopy c = s.preferredCopy c := rfl

@[simp] theorem State.waitsLane_tryOwn (s : State) : s.tryOwn.waitsLane = false := rfl

/-- A command whose body needs no lane ends as the body says. -/
theorem ownBody_of_tryOwn {body : Hdr → State → Option Reply × State} {h : Hdr} {t : State} {r : Option Reply}
    (hb : body h t.tryOwn = (r, t.tryOwn)) : ownBody body h t = (r, t) := by
  simp [ownBody, hb]

/-- A command whose body has found its lanes ends as the body says. -/
theorem ownBody_of_not_waitsLane {body : Hdr → State → Option Reply × State} {h : Hdr} {t u : State} {r : Option Reply}
    (hb : body h t.tryOwn = (r, u)) (hu : u.waitsLane = false) : ownBody body h t = (r, t.ownDone u) := by
  simp [ownBody, hb, hu]

/-- Whether work waits for a lane is part of the Hammer array, and so is whether lanes are in service. -/
theorem State.waitsLane_congr {s t : State} (h : t.hma = s.hma) : t.waitsLane = s.waitsLane := by
  simp [State.waitsLane, State.ownWaits, h]

theorem State.hammerUnavailable_congr {s t : State} (h : t.hma = s.hma) : t.hammerUnavailable = s.hammerUnavailable := by
  simp [State.hammerUnavailable, State.serviceLanes, State.lane, h]

/-- A ready command whose body answers a reply ends with it. -/
theorem command_ends {op : Op} {h : Hdr} {s t : State} {r : Reply} {body : Hdr → State → Option Reply × State} (hr : Ready s h op)
    (hb : body (s.stamp h) (s.started h) = (some r, t)) : command op h true s body = complete (s.stamp h) r t := by
  rw [command_ready hr, hb]

/-! ### Staging and activating (R78, R79, R81) -/

theorem State.preferredCopy_setUpdate (s : State) (u : Option Update) (c : Nat) :
    (s.setUpdate u).preferredCopy c = s.preferredCopy c := rfl

@[simp] theorem State.bundleIn_emptyCopy (s : State) (component c : Nat) :
    (s.emptyCopy component c).boot.bundleIn = s.boot.bundleIn := by
  simp only [State.emptyCopy, State.updWarden, State.setBundle]
  split <;> split <;> rfl

/-- s with the image of an update written into its copy, and the update going on without it. -/
def State.writeStaged (s : State) (u : Update) : State :=
  (s.writeCopy u.component (u.copy - 1) u.image).setUpdate (some { u with image := [], waiter := none, lastProgress := s.now })

@[simp] theorem State.hma_writeStaged (s : State) (u : Update) : (s.writeStaged u).hma = s.hma := by
  simp [State.writeStaged]

theorem State.copyState_writeStaged (s : State) (u : Update) : (s.writeStaged u).copyState u.component (u.copy - 1) = .valid :=
  s.copyState_writeCopy _ _ _

theorem State.preferredCopy_writeStaged (s : State) (u : Update) (c : Nat) :
    (s.writeStaged u).preferredCopy c = s.preferredCopy c :=
  s.preferredCopy_writeCopy _ _ _ c

section Stage
variable {s v : State} {u : Update} (hlanes : s.boot.bundleIn = false ∨ s.hammerUnavailable = false)
include hlanes

/-- Lanes that the emptied copy's state needs are there where they were before. -/
theorem State.lanes_emptyCopy (component c : Nat) :
    ¬ ((s.emptyCopy component c).boot.bundleIn = true ∧ (s.emptyCopy component c).hammerUnavailable = true) := by
  rw [State.bundleIn_emptyCopy, State.hammerUnavailable_congr (s := s) (by simp)]
  rcases hlanes with h | h <;> simp [h]

/-- An image that passes is written. -/
theorem State.stageImage_of_passes
    (hj : (s.emptyCopy u.component (u.copy - 1)).judgeComponent u.component u.image u.verdicts = (none, v)) :
    s.stageImage u = (ok, v.writeStaged u) := by
  simp only [State.stageImage, State.writeStaged, if_neg (State.lanes_emptyCopy hlanes _ _), hj]

/-- An image that fails ends the update. -/
theorem State.stageImage_of_fails {f : BootCause}
    (hj : (s.emptyCopy u.component (u.copy - 1)).judgeComponent u.component u.image u.verdicts = (some f, v)) :
    s.stageImage u = (err (Config.imageStatus f.code), v.endUpdate) := by
  simp only [State.stageImage, if_neg (State.lanes_emptyCopy hlanes _ _), hj]

end Stage

/-- A VALID copy is preferred, and a Warden image asks for a restart (R81). -/
theorem State.activateCopy_of_valid {s : State} {c k : Nat} (hv : s.copyState c (k - 1) = .valid) :
    s.activateCopy c k = (ok, if c = 1 then (s.prefer c (k - 1)).endUpdate.askRestart else (s.prefer c (k - 1)).endUpdate) := by
  simp [State.activateCopy, hv]

/-! ### FW_STAGE -/

/-- The update that FW_STAGE begins for copy k of component c. -/
def stagedUpdate (s : State) (h : Hdr) (c k n a : Nat) (d : Bytes) (w : Nat) : Update :=
  { via := if s.boot.phase = .serialLoader then .serial else .zcp, component := c, copy := k + 1, lastProgress := s.now,
    image := fixLen n (s.inputOf h (if s.boot.phase = .serialLoader then 0 else a) n d), verdicts := w }

section FwStage
variable {s : State} {h : Hdr} {c g n a : Nat} (hc : 1 ≤ c ∧ c ≤ 2 ∧ g ≤ 2)
  (ha : s.boot.phase = .serialLoader ∨ s.readAddrOk h a n = true)
include hc ha

theorem fwStage_inRange :
    (decide (1 ≤ c ∧ c ≤ 2 ∧ g ≤ 2) && (s.boot.phase == .serialLoader || s.readAddrOk h a n)) = true := by
  simpa [hc] using ha

variable (hr : Ready s h (opFwStage.on (le 1 c ++ le 1 g ++ zeros 2 ++ le 4 n ++ le 8 a))) (hi : s.islandStopped 2 = false)
  (d : Bytes) (w : Nat)
include hr hi

theorem reads_fwStage_of_updating (hu : s.boot.update.isSome = true) : Reads (.fwStage h c g n a d w) h (err 0x0410) s := by
  show execFwStage h c g n a d s w = _
  simp only [execFwStage, fwStage_inRange hc ha]
  refine congrArg _ (command_ends hr (ownBody_of_tryOwn ?_))
  simp [State.islandStopped_tryOwn, hi, hu]

variable (hu : s.boot.update = none)
include hu

theorem reads_fwStage_of_no_target (hk : s.stageTarget c g = none) : Reads (.fwStage h c g n a d w) h (err 0x0411) s := by
  show execFwStage h c g n a d s w = _
  simp only [execFwStage, fwStage_inRange hc ha]
  refine congrArg _ (command_ends hr (ownBody_of_tryOwn ?_))
  have hk' : (s.started h).tryOwn.stageTarget c g = none := (s.stageTarget_started h c g).trans hk
  simp [State.islandStopped_tryOwn, hi, hu, hk']

/-- FW_STAGE of a copy that may be written, with no recovery to yield to, ends as the staging of its image does. -/
theorem ends_fwStage {k : Nat} {r : Reply} {v : State} (hk : s.stageTarget c g = some k) (hy : s.updateYields = false)
    (hv : (s.started h).tryOwn.stageImage (stagedUpdate s h c k n a d w) = (r, v)) (hl : v.waitsLane = false) :
    Ends (.fwStage h c g n a d w) h r s ((s.started h).ownDone v) := by
  show execFwStage h c g n a d s w = _
  simp only [execFwStage, fwStage_inRange hc ha]
  refine congrArg _ (command_ends hr (ownBody_of_not_waitsLane ?_ hl))
  have hk' : (s.started h).tryOwn.stageTarget c g = some k := (s.stageTarget_started h c g).trans hk
  have hy' : (s.started h).tryOwn.updateYields = false := (s.updateYields_started h).trans hy
  have hnow : (s.started h).tryOwn.now = s.now := s.now_started h
  simp only [stagedUpdate] at hv
  simp [State.islandStopped_tryOwn, hi, hu, hk', hy', hnow, hv]

variable {k : Nat} {v : State} (hk : s.stageTarget c g = some k) (hy : s.updateYields = false)
  (hlanes : s.boot.bundleIn = false ∨ s.hammerUnavailable = false) (hl : v.waitsLane = false)
include hk hy hlanes hl

/-- An image that passes leaves its copy VALID and the update in progress. -/
theorem ends_fwStage_of_passes (hj : ((s.started h).tryOwn.emptyCopy c k).judgeComponent c
      (fixLen n (s.inputOf h (if s.boot.phase = .serialLoader then 0 else a) n d)) w = (none, v)) :
    ∃ t : State, Ends (.fwStage h c g n a d w) h ok s t ∧ t.copyState c k = .valid ∧
      (∃ u, t.boot.update = some u ∧ u.component = c ∧ u.copy = k + 1) ∧ t.preferredCopy c = s.preferredCopy c := by
  have hstage := State.stageImage_of_passes (s := (s.started h).tryOwn) (u := stagedUpdate s h c k n a d w)
    (by simpa [State.hammerUnavailable_tryOwn] using hlanes) hj
  have hwait := (State.waitsLane_congr (s := v) (t := v.writeStaged (stagedUpdate s h c k n a d w)) (by simp)).trans hl
  have hboot := State.boot_ownDone (s.started h) hwait
  refine ⟨_, ends_fwStage hc ha hr hi d w hu hk hy hstage hwait, ?_, ⟨_, congrArg Boot.update hboot, rfl, rfl⟩, ?_⟩
  · rw [State.copyState_congr hboot]
    exact v.copyState_writeStaged (stagedUpdate s h c k n a d w)
  · rw [State.preferredCopy_congr hboot, State.preferredCopy_writeStaged, State.preferredCopy_congr (State.judgeComponent_to hj).2.1,
      State.preferredCopy_emptyCopy, State.preferredCopy_tryOwn, State.preferredCopy_started]

/-- An image that fails leaves its copy EMPTY and no update. -/
theorem ends_fwStage_of_fails {f : BootCause} (hj : ((s.started h).tryOwn.emptyCopy c k).judgeComponent c
      (fixLen n (s.inputOf h (if s.boot.phase = .serialLoader then 0 else a) n d)) w = (some f, v)) :
    ∃ t : State, Ends (.fwStage h c g n a d w) h (err (Config.imageStatus f.code)) s t ∧ t.copyState c k = .empty ∧
      t.boot.update = none ∧ t.preferredCopy c = s.preferredCopy c := by
  have hstage := State.stageImage_of_fails (s := (s.started h).tryOwn) (u := stagedUpdate s h c k n a d w)
    (by simpa [State.hammerUnavailable_tryOwn] using hlanes) hj
  have hwait := (State.waitsLane_congr (s := v) (t := v.endUpdate) (by simp)).trans hl
  have hboot : ((s.started h).ownDone v.endUpdate).boot = (((s.started h).tryOwn.emptyCopy c k).setUpdate none).boot := by
    rw [State.boot_ownDone (s.started h) hwait, State.boot_endUpdate, (State.judgeComponent_to hj).2.1, State.boot_setUpdate]
  refine ⟨_, ends_fwStage hc ha hr hi d w hu hk hy hstage hwait, ?_, congrArg Boot.update hboot, ?_⟩
  · rw [State.copyState_congr hboot]
    exact State.copyState_emptyCopy _ c k
  · rw [State.preferredCopy_congr hboot, State.preferredCopy_setUpdate, State.preferredCopy_emptyCopy, State.preferredCopy_tryOwn,
      State.preferredCopy_started]

end FwStage

/-! ### FW_ACTIVATE, FW_STATUS and FW_ARB_ADVANCE -/

/-- FW_ACTIVATE of a VALID copy, with no update in progress and no recovery to yield to, prefers it (R81). -/
theorem ends_fwActivate {s : State} {h : Hdr} {c k : Nat} (hr : Ready s h (opFwActivate.on (le 1 c ++ le 1 k)))
    (hc : 1 ≤ c ∧ c ≤ 2 ∧ 1 ≤ k ∧ k ≤ 2) (hi : s.islandStopped 2 = false) (hu : s.boot.update = none)
    (hv : s.copyState c (k - 1) = .valid) (hy : s.updateYields = false) :
    Ends (.fwActivate h c k) h ok s (if c = 1 then ((s.started h).prefer c (k - 1)).endUpdate.askRestart
      else ((s.started h).prefer c (k - 1)).endUpdate) := by
  have hactivate := State.activateCopy_of_valid (s := s.started h) (c := c) (k := k) (by simpa using hv)
  show execFwActivate h c k s = _
  simp only [execFwActivate, hc, and_self, decide_true]
  refine congrArg _ (command_ends hr ?_)
  simp [hi, hu, hv, hy, hactivate]

theorem reads_fwStatus {s : State} {h : Hdr} (hr : Ready s h opFwStatus) :
    Reads (.fwStatus h) h (ok (fixLen 24 (Config.fwStatus s.fwValues))) s := by
  show execFwStatus h s = _
  simp [execFwStatus, commandR_ready hr]

section ArbAdvance
variable {s : State} {h : Hdr} {c v f : Nat} (hr : Ready s h (opFwArbAdvance.on (le 1 c ++ le 1 v ++ le 1 f)))
  (hc : c ≤ 1) (hv : v ≤ 128) (hf : f ≤ 1) (hu : s.boot.update = none)

/-- The copies that an advance would strand, of which none or one is named. -/
theorem State.filter_stranded_of_none {n : Nat} (h0 : s.stranded n v 0 = false) (h1 : s.stranded n v 1 = false) :
    ([0, 1] : List Nat).filter (s.stranded n v) = [] := by
  simp [h0, h1]

theorem State.filter_stranded_of_one {n k : Nat} (hk : k ≤ 1) (h0 : s.stranded n v k = true) (h1 : s.stranded n v (1 - k) = false) :
    ([0, 1] : List Nat).filter (s.stranded n v) = [k] := by
  obtain rfl | rfl : k = 0 ∨ k = 1 := by omega
  · simp [h0, show s.stranded n v 1 = false from h1]
  · simp [h0, show s.stranded n v 0 = false from h1]

include hr hc hv hf hu

/-- An advance that the copies it strands allow counts up, and marks them FAILED (R80). -/
theorem ends_fwArbAdvance (hbad : (([0, 1] : List Nat).filter (s.stranded (c + 1) v)).any
      (fun k => k == s.preferredCopy (c + 1) || f == 0) = false) : Ends (.fwArbAdvance h c v f) h ok s
      (((([0, 1] : List Nat).filter (s.stranded (c + 1) v)).foldl (fun u k => u.strand (c + 1) k) (s.started h)).advanceArb c v) := by
  show execFwArbAdvance h c v f s = _
  have hstarted : (s.started h).stranded (c + 1) v = s.stranded (c + 1) v := funext fun k => by simp
  simp only [execFwArbAdvance, hc, hv, hf, and_self, decide_true, commandC_ready hr, hstarted, State.preferredCopy_started, hbad]
  simp [hu]

/-- One that would strand the preferred copy, or any copy while FLAGS bit 0 is clear, is refused (R80). -/
theorem reads_fwArbAdvance_of_stranded (hbad : (([0, 1] : List Nat).filter (s.stranded (c + 1) v)).any
      (fun k => k == s.preferredCopy (c + 1) || f == 0) = true) : Reads (.fwArbAdvance h c v f) h (err 0x0412) s := by
  show execFwArbAdvance h c v f s = _
  have hstarted : (s.started h).stranded (c + 1) v = s.stranded (c + 1) v := funext fun k => by simp
  simp only [execFwArbAdvance, hc, hv, hf, and_self, decide_true, commandC_ready hr, hstarted, State.preferredCopy_started, hbad]
  simp [hu]

end ArbAdvance

/-- Settles O3: each command runs in one case of its row; what it does to a copy, the boot record keeps. A failed image's EMPTY
copy without an update (log entry 61) and its status (log entry 23), and the 24 bytes of FW_STATUS (log entry 24), are the model's
choice. -/
theorem firmwareCommandsComplete : Obligations.FirmwareCommandsComplete := by
  unfold Obligations.FirmwareCommandsComplete
  refine ⟨fun s h c g n a d w k hr hc hc' hg ha hi => ⟨reads_fwStage_of_updating ⟨hc, hc', hg⟩ ha hr hi d w,
      reads_fwStage_of_no_target ⟨hc, hc', hg⟩ ha hr hi d w, fun hu hk hy hlanes v hj hl =>
        ends_fwStage_of_passes ⟨hc, hc', hg⟩ ha hr hi d w hu hk hy hlanes hl hj, fun f v hu hk hy hlanes hj hl =>
        ends_fwStage_of_fails ⟨hc, hc', hg⟩ ha hr hi d w hu hk hy hlanes hl hj⟩,
    fun s h c k hr hc hc' hk hk' hi hu hv hy => ?_, fun s h hr => reads_fwStatus hr,
    fun s h c v f k hr hc hv hf hu => ⟨fun h0 h1 => ?_, fun hk h0 h1 hpref hflag => ?_, fun hk h0 hbad => ?_⟩⟩
  · have hend := ends_fwActivate hr ⟨hc, hc', hk, hk'⟩ hi hu hv hy
    obtain rfl | rfl : c = 1 ∨ c = 2 := by omega
    · exact ⟨_, hend, by simp [State.preferredCopy, State.prefer, State.askRestart, State.restartSoon],
        by simp [State.askRestart, State.restartSoon],
        fun _ => ⟨rfl, by simp [State.askRestart, State.restartSoon, State.now]⟩, nofun⟩
    · exact ⟨_, hend, by simp [State.preferredCopy, State.prefer], by simp, nofun, by simp [State.prefer]⟩
  · have hbad := State.filter_stranded_of_none h0 h1
    simpa [hbad] using ends_fwArbAdvance hr hc hv hf hu (by simp [hbad])
  · have hbad := State.filter_stranded_of_one hk h0 h1
    simpa [hbad] using ends_fwArbAdvance hr hc hv hf hu (by simp [hbad, hpref, hflag])
  · have hmem : k ∈ ([0, 1] : List Nat).filter (s.stranded (c + 1) v) := List.mem_filter.2 ⟨by simp; omega, h0⟩
    exact reads_fwArbAdvance_of_stranded hr hc hv hf hu (List.any_eq_true.2 ⟨k, hmem, by simpa using hbad⟩)

end Sys2Proof.Machine
end

section
/-! SUPPORT. Chapter 2's power rows: what a fall of PWR_OK keeps, and how a rise of it begins a device start. -/
namespace Sys2Proof.Machine

/-! ### What main power's loss keeps (R46, R539) -/

section Dark
variable (s : State)

@[simp] theorem State.dmt_dark : s.dark.emb.dmt = s.emb.dmt := rfl
@[simp] theorem State.now_dark : s.dark.now = s.now := rfl

/-- The check of battery RAM, the crystal's event and PowerCycles belong to the Ember Region, which main power's loss leaves. -/
theorem State.ember_dark : s.dark.emb.ramBad = s.emb.ramBad ∧ s.dark.emb.xtalEvent = s.emb.xtalEvent ∧
    s.dark.emb.powerCycles = s.emb.powerCycles := ⟨rfl, rfl, rfl⟩

/-- No region runs without main power. -/
theorem State.regions_dark : s.dark.boot.controlUp = false ∧ s.dark.boot.guardUp = false := ⟨rfl, rfl⟩

@[simp] theorem State.seq_closeStorm (r : LogRec) : (s.closeStorm r).seq = r.seq := by
  unfold State.closeStorm
  split <;> rfl

/-- The Logbook's records are closed, and keep their numbers (R493). -/
theorem State.seqs_dark : s.dark.lgb.records.map LogRec.seq = s.lgb.records.map LogRec.seq := by
  simp [State.dark, Lgb.deviceStart]

end Dark

theorem goes_pwrOkFall_of_on {s : State} (h : s.boot.pwrOk = true) : Goes .pwrOkFall s s.losePower := if_pos h

theorem goes_pwrOkFall_of_off {s : State} (h : s.boot.pwrOk = false) :
    Goes .pwrOkFall s { s with boot := { s.boot with risePending := false } } := if_neg (by simp [h])

/-- A brown-out is an event on one of the two supplies' sources, which a free value picks (log entry 3). -/
theorem goes_brownOut {s : State} (h : s.boot.pwrOk = true) : Goes .brownOut s
    (s.losePower.drawn.tamperEvent (if Config.freeValue s.draws % 2 = 0 then 0 else 3)) := if_pos h

/-! ### The device start (R45, R48, R476, R477) -/

/-- With battery RAM and the crystal good, DMT goes on, and MRAM takes it. -/
theorem State.settleDmt_of_good {s : State} (hram : s.emb.ramBad = false) (hxtal : s.emb.xtalEvent = false) :
    s.settleDmt = s.writeDmt := by
  simp [State.settleDmt, hram, hxtal]

/-- A rise of PWR_OK before which 50 µs have passed begins a device start (R539). -/
theorem goes_pwrOkRise_of_due {s : State} (r : Bool) (hoff : s.boot.pwrOk = false)
    (hdue : s.boot.fallAt = none ∨ ∃ d, s.boot.fallAt = some d ∧ d + 50 ≤ s.now) :
    Goes (.pwrOkRise r) s ({ s with emb := { s.emb with ramBad := s.emb.ramBad || r } } : State).startDevice := by
  show execPwrOkRise s r = _
  rcases hdue with hnone | ⟨d, hd, hpassed⟩
  · simp [execPwrOkRise, hoff, hnone]
  · have hpassed' : d + 50 ≤ s.emb.dmt := hpassed
    simp [execPwrOkRise, hoff, hd, State.now, hpassed']

theorem goes_pwrOkRise_of_early {s : State} {d : Nat} (r : Bool) (hoff : s.boot.pwrOk = false) (hd : s.boot.fallAt = some d)
    (hearly : s.now < d + 50) : Goes (.pwrOkRise r) s
      { s with boot := { s.boot with risePending := true }, emb := { s.emb with ramBad := s.emb.ramBad || r } } := by
  have hearly' : ¬ d + 50 ≤ s.emb.dmt := Nat.not_le.2 hearly
  show execPwrOkRise s r = _
  simp [execPwrOkRise, hoff, hd, State.now, hearly']

/-- A device start with battery RAM and the crystal good: the two Ember domains are on, and DMT and OTP go on. -/
theorem State.startDevice_of_good {s : State} (hram : s.emb.ramBad = false) (hxtal : s.emb.xtalEvent = false) :
    s.startDevice.boot.pwrOk = true ∧ s.startDevice.boot.controlUp = false ∧ s.startDevice.boot.guardUp = false ∧
    s.startDevice.spn.domains = 2 ∧ s.startDevice.otp = s.otp ∧ s.startDevice.emb.dmt = s.emb.dmt ∧
    s.startDevice.emb.powerCycles = satAdd 24 s.emb.powerCycles 1 := by
  obtain ⟨hramDark, hxtalDark, hcycles⟩ := s.ember_dark
  simp [State.startDevice, State.settleDmt_of_good, hramDark, hxtalDark, hcycles, hram, hxtal,
    State.writeDmt, s.regions_dark]

/-- Settles O1: main power's loss resets every region but Ember to what MRAM and OTP hold, and a rise goes on from there by the
time since the fall. -/
theorem powerLossKeepsWhatItMay : Obligations.PowerLossKeepsWhatItMay := by
  unfold Obligations.PowerLossKeepsWhatItMay
  refine ⟨fun s hon => ⟨_, goes_pwrOkFall_of_on hon, rfl, rfl, rfl, rfl, rfl, rfl, rfl, rfl, rfl, rfl, rfl, rfl, rfl, rfl, rfl, rfl,
      rfl, rfl, rfl, rfl, rfl, rfl, State.seqs_dark _, rfl⟩, fun s hoff => goes_pwrOkFall_of_off hoff,
    fun s hoff hdue r => ⟨_, goes_pwrOkRise_of_due r hoff hdue, fun hram hr hxtal => ?_⟩,
    fun s d hoff hd hearly r => goes_pwrOkRise_of_early r hoff hd hearly,
    fun s hon => ⟨_, ?_, goes_brownOut hon⟩⟩
  · exact State.startDevice_of_good (s := { s with emb := { s.emb with ramBad := s.emb.ramBad || r } }) (by simp [hram, hr]) hxtal
  · split <;> simp

end Sys2Proof.Machine
end

section
/-! SUPPORT. Chapter 2's device start: each row from the domains to OPERATIONAL or NO_POLICY, in the case of its row that its
statement names. -/
namespace Sys2Proof.Machine

/-! ### The domains and the built-in default (R48, R50, R519) -/

/-- s with its next domain switched on now. -/
def State.nextDomain (s : State) : State := { s with spn := { s.spn with domains := s.spn.domains + 1, domainAt := s.now } }

/-- s with the Control Region's last domain on: the first stage begins, and the clocks of the islands run. -/
def State.controlPowered (s : State) : State :=
  { s.nextDomain with
    boot := { s.boot with phase := .firstStage, linkTraining := !s.boot.perst }
    spn := { s.nextDomain.spn with clockRunning := s.spn.clockRunning ||| (2 + 4 + 8 + 64), inReset := s.spn.inReset &&& 16 } }

/-- The Control Region's last domain lets the clocks of the islands that it powers run. -/
theorem State.clocks_controlPowered (s : State) : ∀ i ∈ [1, 2, 3, 6], s.controlPowered.spn.clockRunning.testBit i = true := by
  have hbits : ∀ i ∈ [1, 2, 3, 6], (2 + 4 + 8 + 64).testBit i = true := by decide
  exact fun i hi => by simp only [State.controlPowered, Nat.testBit_or, hbits i hi, Bool.or_true]

section Domains
variable {s : State} (f : Nat) (hmay : s.mayPower = true)
include hmay

theorem goes_domainSwitchOn (h54 : s.spn.domains ≠ 53) (h80 : s.spn.domains ≠ 79) :
    Goes (.domainSwitchOn f) s (s.nextDomain.releaseDigest s.spn.domains f) := by
  show execDomainSwitchOn s f = _
  simp [execDomainSwitchOn, hmay, h54, h80, State.nextDomain]

theorem goes_domainSwitchOn_of_control (h54 : s.spn.domains = 53) : Goes (.domainSwitchOn f) s s.controlPowered := by
  show execDomainSwitchOn s f = _
  simp [execDomainSwitchOn, hmay, h54, State.controlPowered, State.nextDomain]

/-- The Forge Region's last domain has the Warden copies tried where the first stage has asked for it. -/
theorem goes_domainSwitchOn_of_forge {u : State} (h80 : s.spn.domains = 79)
    (hu : u = ({ s.nextDomain with boot := { s.boot with forgeUp := true } } : State).closeQuenched) :
    Goes (.domainSwitchOn f) s (if u.boot.forgeAsked = true ∧ u.boot.imageUp = false then u.verifyCopies else u) := by
  show execDomainSwitchOn s f = _
  simp [execDomainSwitchOn, hmay, h80, State.nextDomain, hu]

end Domains

/-- s with the built-in default applied. -/
def State.guarded (s : State) : State :=
  { s with boot := { s.boot with guardUp := true },
           spn := { s.spn with clockRunning := s.spn.clockRunning ||| 16, inReset := s.spn.inReset &&& (0x7E - 16) } }

/-- The built-in default lets the clock of the XB's island run. -/
theorem State.clock_guarded (s : State) : s.guarded.spn.clockRunning.testBit 4 = true := by
  have hbit : (16).testBit 4 = true := by decide
  simp only [State.guarded, Nat.testBit_or, hbit, Bool.or_true]

theorem goes_guardDefaultApplied {s : State} (hon : s.boot.pwrOk = true) (hguard : s.boot.guardUp = false)
    (hdomains : 36 ≤ s.spn.domains) : Goes .guardDefaultApplied s s.guarded := by
  show execGuardDefaultApplied s = _
  simp [execGuardDefaultApplied, hon, hguard, hdomains, State.guarded]

/-! ### The first stage (R53 to R59) -/

@[simp] theorem State.udsLocked_startEntropy (s : State) (all good : Bool) :
    (s.startEntropy all good).cru.udsLocked = s.cru.udsLocked := by
  cases all <;> rfl

/-- The sources and the keys that the first stage opens: a locked UDS has the entropy of D0 alone started, and no key derived. -/
theorem State.firstSecrets_eq (s : State) (f : Bytes) (good : Bool) :
    (if (s.startEntropy (!s.cru.udsLocked) good).cru.udsLocked then s.startEntropy (!s.cru.udsLocked) good
      else ((s.startEntropy (!s.cru.udsLocked) good).firstKeys f).openTable) =
    if s.cru.udsLocked then s.startEntropy false good else ((s.startEntropy true good).firstKeys f).openTable := by
  cases h : s.cru.udsLocked <;> simp [h]

section FirstStage
variable {s : State} (f : Bytes) (g e : Bool) (hon : s.boot.pwrOk = true) (himage : s.boot.imageUp = false)
  (habsent : s.boot.absent = false) (hphase : s.boot.phase = .firstStage ∨ s.boot.phase = .controlRestart)
include hon himage habsent hphase

/-- The first stage is not held off. -/
theorem firstStage_runs : (!s.boot.pwrOk || s.boot.imageUp || s.boot.absent ||
    !(s.boot.phase == .firstStage || s.boot.phase == .controlRestart)) = false := by
  rcases hphase with h | h <;> simp [hon, himage, habsent, h]

theorem goes_firstStage_of_scrapped {u : State} (hu : u = (s.startFsp e).firstLc) (hlc : u.cru.lcState = 6) :
    Goes (.firstStage f g e) s { u.builtIn .powerOn with boot := { u.boot with phase := .scrapped, controlUp := false } } := by
  subst hu
  show execFirstStage f g s e = _
  simp only [execFirstStage, firstStage_runs hon himage habsent hphase, hlc]
  rfl

/-- The first stage of any other part opens the keys and the owner table, unless the UDS is locked, and asks for the Forge Region. -/
theorem goes_firstStage {u v x : State} (hu : u = (s.startFsp e).firstLc) (hlc : u.cru.lcState ≠ 6)
    (hv : v = if u.firstCounters.cru.udsLocked then u.firstCounters.startEntropy false g
      else ((u.firstCounters.startEntropy true g).firstKeys f).openTable)
    (hx : x = { v with
      cru := { v.cru with cosignInForce := v.cru.table.cosign }
      boot := { v.boot with forgeAsked := true, phase := if s.boot.phase = .firstStage then .lcComplete else .controlRestart } }) :
    Goes (.firstStage f g e) s (if x.boot.forgeUp then x.verifyCopies else x) := by
  show execFirstStage f g s e = _
  simp only [execFirstStage, firstStage_runs hon himage habsent hphase, Bool.false_eq_true, if_false, ← hu, if_neg hlc,
    State.firstSecrets_eq, ← hv, beq_iff_eq, hx]

end FirstStage

/-! ### The Warden copies (R58, R59, R73) -/

theorem State.verifyCopies_of_some {s t : State} {c : Nat} (h : s.tryCopies [s.boot.preferred, 1 - s.boot.preferred] = (t, some c)) :
    s.verifyCopies = t.startWarden c (if t.boot.serialCopy = some c then 3 else c) := by
  simp [State.verifyCopies, h]

theorem State.verifyCopies_of_none {s t : State} (h : s.tryCopies [s.boot.preferred, 1 - s.boot.preferred] = (t, none)) :
    s.verifyCopies = t.controlRuns.beginSearch := by
  simp [State.verifyCopies, h]

/-- The running copy repairs the FAILED other one (R62). -/
def State.repairCopy (s : State) : State :=
  { s.updWarden (1 - s.boot.runCopy) (fun _ => { state := .valid, image := (s.warden s.boot.runCopy).image }) with
    boot := { (s.updWarden (1 - s.boot.runCopy) (fun _ => { state := .valid, image := (s.warden s.boot.runCopy).image })).boot with
      repaired := true } }

theorem goes_wardenCopyRepair {s : State} (hop : s.boot.imageOp = true) (hup : s.boot.controlUp = true)
    (hfailed : (s.warden (1 - s.boot.runCopy)).state = .failed) :
    Goes .wardenCopyRepair s (s.repairCopy.log .control 0x0F05 5 0 0 { index2 := 1 - s.boot.runCopy }) :=
  if_pos ⟨hop, hup, hfailed⟩

theorem State.warden_updWarden_ne (s : State) {c k : Nat} (f : WardenCopy → WardenCopy) (hc : c ≤ 1) (hk : k ≤ 1) (h : k ≠ c) :
    (s.updWarden c f).warden k = s.warden k := by
  obtain ⟨rfl, rfl⟩ | ⟨rfl, rfl⟩ : (c = 0 ∧ k = 1) ∨ (c = 1 ∧ k = 0) := by omega
  · rfl
  · rfl

theorem State.warden_log (s : State) (r : Region) (code rung cls idx : Nat) (q : Quantities) (c : Nat) :
    (s.log r code rung cls idx q).warden c = s.warden c := by
  simp [State.warden]

theorem State.warden_repairCopy_other (s : State) : s.repairCopy.warden (1 - s.boot.runCopy) =
    { state := .valid, image := (s.warden s.boot.runCopy).image } :=
  s.warden_updWarden_same (1 - s.boot.runCopy) _

theorem State.warden_repairCopy_running {s : State} (h : s.boot.runCopy ≤ 1) :
    s.repairCopy.warden s.boot.runCopy = s.warden s.boot.runCopy :=
  s.warden_updWarden_ne _ (by omega) h (by omega)

/-! ### The cartridges and the serial loader (R73 to R75) -/

/-- After a slot that holds nothing further comes the next one, and the serial loader after the last (R73, R75). -/
theorem State.nextCartridge_of_lt {s : State} (h : s.boot.searched < 3) :
    s.nextCartridge = { s with boot := { s.boot with searched := s.boot.searched + 1, searchAt := s.now } } :=
  if_pos (by omega)

theorem State.nextCartridge_of_last {s : State} (h : s.boot.searched = 3) : s.nextCartridge =
    { s with boot := { s.boot with searched := 4, phase := .serialLoader, peerSeen := false, lastStatusFrame := s.now } } := by
  simp [State.nextCartridge, h]

/-- A bundle that is written is VALID, with its security version. -/
theorem State.bundle_writeBundle (s : State) (c : Nat) (b : Bytes) : (s.writeBundle c b).bundle c =
    { state := .valid, svn := bundleSvn b, minWarden := bundleMinWarden b } := s.bundle_setBundle_same c _

/-- s with a bundle from a cartridge written into copy c, which the loader tries next (R74). -/
def State.loadFound (s : State) (c : Nat) (b : Bytes) : State :=
  { s.writeBundle c b with
    boot := { (s.writeBundle c b).boot with
      phase := .bundleLoad, bundleTried := [1 - c], header := { (s.writeBundle c b).boot.header with preferred := c } } }

theorem State.bundle_loadFound (s : State) (c : Nat) (b : Bytes) : (s.loadFound c b).bundle c = (s.writeBundle c b).bundle c := rfl

section Search
variable {s : State} (hphase : s.boot.phase = .cartridgeSearch)
include hphase

theorem goes_cartridgeSearch_of_empty : Goes (.cartridgeSearch s.boot.searched []) s s.nextCartridge := by
  show execCartridgeSearch s.boot.searched [] s = _
  simp [execCartridgeSearch, hphase]

variable {b : Bytes} (hb : b ≠ []) (hover : s.searchOver s.boot.searched = false)
include hb hover

/-- A Warden image that passes is written and started. -/
theorem goes_cartridgeSearch_of_warden (himage : s.boot.imageUp = false) (hhold : s.cartHolds s.boot.searched 1 b = true)
    (hcheck : s.checkWarden b = none) : Goes (.cartridgeSearch s.boot.searched b) s
      ((s.updWarden (searchCopy s.boot.copyA.state s.boot.copyB.state) (fun _ => { state := .valid, image := b })).startWarden
        (searchCopy s.boot.copyA.state s.boot.copyB.state) 2) := by
  show execCartridgeSearch s.boot.searched b s = _
  simp [execCartridgeSearch, hphase, hb, hover, himage, hhold, hcheck]

/-- A bundle that passes is written into copy c, which is tried next. -/
theorem goes_cartridgeSearch_of_bundle {c : Nat} (himage : s.boot.imageUp = true) (hhold : s.cartHolds s.boot.searched 2 b = true)
    (hcheck : s.checkBundle b = none) (hc : c = searchCopy s.boot.bundleA.state s.boot.bundleB.state) :
    Goes (.cartridgeSearch s.boot.searched b) s (s.loadFound c b) := by
  show execCartridgeSearch s.boot.searched b s = _
  simp [execCartridgeSearch, hphase, hb, hover, himage, hhold, hcheck, hc, State.loadFound]

end Search

theorem goes_serialStatusFrame {s : State} (hphase : s.boot.phase = .serialLoader) (hpeer : s.boot.peerSeen = false)
    (hdue : s.boot.lastStatusFrame + 1000000 ≤ s.now) : Goes .serialStatusFrame s
      { s.drawn with boot := { s.boot with lastStatusFrame := s.now }, io := { s.io with frame := Config.statusFrame s.draws } } :=
  if_pos ⟨hphase, by simp [hpeer], hdue⟩

/-! ### The lane bundle (R67, R74) -/

section Bundle
variable {s : State} (hd : List Bytes) (bs : List (List Bytes)) (l p : Nat) (hphase : s.boot.phase = .bundleLoad)
  (himage : s.boot.imageUp = true)
include hphase himage

theorem goes_bundleLoadComplete_of_none (hnext : (s.takeHeader hd).nextBundle = none) :
    Goes (.bundleLoadComplete hd bs l p) s (s.takeHeader hd).searchBundle := by
  show execBundleLoadComplete hd bs l p s = _
  simp [execBundleLoadComplete, hphase, himage, hnext]

variable {v : State} {c : Nat} (hnext : (s.takeHeader hd).nextBundle = some c)
  (hv : v = { s.takeHeader hd with boot := { (s.takeHeader hd).boot with bundleCopy := c } })
include hnext hv

theorem goes_bundleLoadComplete_of_unread (hread : readBlocks (v.blocksRead c bs) = none) :
    Goes (.bundleLoadComplete hd bs l p) s (v.bundleFails c .bundleCrc) := by
  show execBundleLoadComplete hd bs l p s = _
  rw [execBundleLoadComplete, if_neg (by simp [hphase, himage])]
  simp only [hnext, ← hv, hread]

theorem goes_bundleLoadComplete_of_fails {b : Bytes} {f : BootCause} (hread : readBlocks (v.blocksRead c bs) = some b)
    (hcheck : v.checkBundle b = some f) : Goes (.bundleLoadComplete hd bs l p) s (v.bundleFails c f) := by
  show execBundleLoadComplete hd bs l p s = _
  rw [execBundleLoadComplete, if_neg (by simp [hphase, himage])]
  simp only [hnext, ← hv, hread, hcheck]

theorem goes_bundleLoadComplete_of_passes {b : Bytes} (hread : readBlocks (v.blocksRead c bs) = some b)
    (hcheck : v.checkBundle b = none) :
    Goes (.bundleLoadComplete hd bs l p) s (State.noteService s (v.takeBundle b l p)) := by
  show execBundleLoadComplete hd bs l p s = _
  rw [execBundleLoadComplete, if_neg (by simp [hphase, himage])]
  simp only [hnext, ← hv, hread, hcheck]

end Bundle

/-! ### The policy load (R164) -/

section PolicyLoad
variable {s t : State} {w : Nat} (hphase : s.boot.phase = .policyLoad)
include hphase

theorem goes_policyLoad_of_none (hchoose : s.tryOwn.chooseImage w = (t, none)) :
    Goes (.policyLoad w) s (s.ownDone ((t.builtIn .noPolicy).finishStart .noPolicy)) := by
  show execPolicyLoad s w = _
  simp [execPolicyLoad, hphase, ownRow, hchoose]

theorem goes_policyLoad_of_some {k : Nat} {b : Bool} {u : State} (hchoose : s.tryOwn.chooseImage w = (t, some (k, b)))
    (hu : u = if b then t.commitRecord k true else { t with pol := { t.pol with loaded := true } }) :
    Goes (.policyLoad w) s (s.ownDone
      ((((u.loadPorts (u.image.getD {})).applySections s.tryOwn).applyStrings s.tryOwn).loadSlots.finishStart .operational)) := by
  subst hu
  show execPolicyLoad s w = _
  simp [execPolicyLoad, hphase, ownRow, hchoose]

end PolicyLoad

/-! ### The end of a Control Region restart (R16, R511) -/

/-- The Control Region runs again under the image in force, or in NO_POLICY. -/
def State.restarted (s : State) : State :=
  if s.controlRuns.image.isSome then
    ({ s.controlRuns with boot := { s.controlRuns.boot with phase := .operational } } : State).imageOperational
  else { s.controlRuns.builtIn .noPolicy with boot := { s.controlRuns.boot with phase := .noPolicy } }

theorem goes_controlRestartComplete {s u v : State} (hphase : s.boot.phase = .controlRestart) (himage : s.boot.imageUp = true)
    (hu : u = s.restarted)
    (hv : v = u.resumeStrings.strs.latched.foldl State.actOn
      { u.resumeStrings with strs := { u.resumeStrings.strs with latched := [] } }) :
    Goes .controlRestartComplete s (State.noteService s ((((List.range 256).foldl (fun t n => t.judgeSlot n)
      v.resumeChannels.resumeOps).reachOperational.refreshCed.startPeriod_).settleAll)) := by
  show execControlRestartComplete s = _
  rw [execControlRestartComplete, if_neg (by simp [hphase, himage])]
  subst hv hu
  by_cases hhas : s.controlRuns.image.isSome = true
  · simp only [State.restarted, hhas, if_true]
  · simp only [State.restarted, hhas, if_false, (State.builtIn_keeps s.controlRuns .noPolicy).2.1, Bool.false_eq_true]

/-- Settles O2: each row of a device start runs in the case that its clause names. Which domains follow the first stage, that
the copies are verified at the 80th domain and from when an island's clock runs (log entry 57) are the model's choice. -/
theorem startEventsComplete : Obligations.StartEventsComplete := by
  unfold Obligations.StartEventsComplete
  refine ⟨fun s t f hmay ht => ⟨fun h54 h80 => ht ▸ goes_domainSwitchOn f hmay h54 h80,
      fun h54 => ⟨_, goes_domainSwitchOn_of_control f hmay h54, rfl, ?_, ?_⟩,
      fun u h80 hu => goes_domainSwitchOn_of_forge f hmay h80 (by rw [hu, ht]; rfl)⟩,
    fun s hon hguard hdomains => ⟨_, goes_guardDefaultApplied hon hguard hdomains, rfl, ?_, rfl⟩,
    fun s u f g e hon himage habsent hphase hu => ⟨fun hlc => goes_firstStage_of_scrapped f g e hon himage habsent hphase hu hlc,
      fun v x hlc hv hx => goes_firstStage f g e hon himage habsent hphase hu hlc hv hx⟩,
    fun s t c h => State.verifyCopies_of_some h, fun s t h => ?_,
    fun s b c hphase => ⟨fun hlt => ?_, fun hlast => ?_, fun himage hb hover hhold hcheck hc => ?_,
      fun himage hb hover hhold hcheck hc => ?_⟩,
    fun s hphase hpeer hdue => goes_serialStatusFrame hphase hpeer hdue,
    fun s u v hd bs l p c hphase himage hu => ?_,
    fun s t v w hphase _ => ⟨fun hchoose hv => hv ▸ goes_policyLoad_of_none hphase hchoose,
      fun k b u hchoose hu hv => hv ▸ goes_policyLoad_of_some hphase hchoose hu⟩,
    fun s hop hup hcopy hfailed => ?_,
    fun s u v hphase himage hu hv => goes_controlRestartComplete hphase himage hu hv⟩
  · simp [State.controlPowered, State.nextDomain, h54]
  · exact s.clocks_controlPowered
  · exact s.clock_guarded
  · simp [State.verifyCopies_of_none h, State.beginSearch]
  · exact State.nextCartridge_of_lt hlt ▸ goes_cartridgeSearch_of_empty hphase
  · have hempty := goes_cartridgeSearch_of_empty hphase
    rwa [State.nextCartridge_of_last hlast, hlast] at hempty
  · exact hc ▸ goes_cartridgeSearch_of_warden hphase hb hover himage hhold hcheck
  · exact ⟨_, goes_cartridgeSearch_of_bundle hphase hb hover himage hhold hcheck hc, rfl, rfl,
      by rw [State.bundle_loadFound, State.bundle_writeBundle], by rw [State.bundle_loadFound, State.bundle_writeBundle]⟩
  · subst hu
    exact ⟨goes_bundleLoadComplete_of_none hd bs l p hphase himage, fun hnext hv =>
      ⟨goes_bundleLoadComplete_of_unread hd bs l p hphase himage hnext hv,
        fun b f => goes_bundleLoadComplete_of_fails hd bs l p hphase himage hnext hv,
        fun b => goes_bundleLoadComplete_of_passes hd bs l p hphase himage hnext hv⟩⟩
  · exact ⟨_, goes_wardenCopyRepair hop hup hfailed, by rw [State.warden_log, State.warden_repairCopy_other],
      by rw [State.warden_log, State.warden_repairCopy_other],
      by rw [State.warden_log, State.warden_repairCopy_running hcopy], by simp [State.repairCopy]⟩

end Sys2Proof.Machine
end

section
/-! SUPPORT. The slot and bus commands of Table 3-14: when each applies, and what it carries out then. -/
namespace Sys2Proof.Machine

/-! ### When a slot command applies (R115) -/

/-- A slot command applies under a policy, to a slot that is defined and in one of the states that the command names. -/
theorem State.slotCommand_eq_zero_iff {s : State} {n : Nat} {states : List SlotState} :
    s.slotCommand n states = 0 ↔ s.image.isSome = true ∧ (s.slot n).state ≠ .absent ∧ (s.slot n).state ∈ states := by
  cases himage : s.image <;> by_cases habsent : (s.slot n).state = .absent <;> simp [State.slotCommand, himage, habsent]

theorem State.slotCommand_of_absent {s : State} {n : Nat} (states : List SlotState) (himage : s.image.isSome = true)
    (habsent : (s.slot n).state = .absent) : s.slotCommand n states = 0x0420 := by
  simp [State.slotCommand, himage, habsent]

theorem State.slotCommand_of_notMem {s : State} {n : Nat} {states : List SlotState} (hdefined : (s.slot n).state ≠ .absent)
    (hstate : (s.slot n).state ∉ states) : s.slotCommand n states = 0x0421 := by
  simp [State.slotCommand, hdefined, hstate]

/-- A request for a state that ranks no lower than the slot's own is not superseded (R87). -/
theorem State.superseded_of_rank_le {s : State} {n : Nat} {target : SlotState} (why : Reason)
    (h : (s.slot n).state.rank ≤ target.rank) : s.superseded n target why = s :=
  if_neg fun hlt => Nat.not_lt.2 h hlt.2

/-! ### Which slots an isolated bus holds (R112) -/

/-- Which buses carry a string of a slot is read from the policy alone. -/
theorem State.slotOnBus_congr {s t : State} (h : t.pol = s.pol) (n b : Nat) : t.slotOnBus n b = s.slotOnBus n b := by
  simp only [State.slotOnBus, State.slotStrings, State.strEntries, State.sec, State.image, h]

@[simp] theorem State.xbus_setSlot (s : State) (n : Nat) (st : SlotState) (why : Reason) (checked : Bool) (b : Nat) :
    (s.setSlot n st why checked).xbus b = s.xbus b := by
  obtain ⟨c, h⟩ := s.strs_setSlot n st why checked
  simp only [State.xbus, h]

/-- A change of a slot's state isolates no slot. -/
@[simp] theorem State.slotIsolated_setSlot (s : State) (n : Nat) (st : SlotState) (why : Reason) (checked : Bool) (m : Nat) :
    (s.setSlot n st why checked).slotIsolated m = s.slotIsolated m := by
  simp [State.slotIsolated, State.slotOnBus_congr (s := s) (t := s.setSlot n st why checked) (by simp)]

/-! ### The commands -/

/-- A ready command whose body answers no reply goes on and waits. -/
theorem command_goes {op : Op} {h : Hdr} {s t : State} {body : Hdr → State → Option Reply × State} (hr : Ready s h op)
    (hb : body (s.stamp h) (s.started h) = (none, t)) : command op h true s body = t := by
  rw [command_ready hr, hb]

/-- A ready command that always ends, with the reply and the effect that its body gives. -/
theorem commandC_ends {op : Op} {h : Hdr} {s t : State} {r : Reply} {body : Hdr → State → Reply × State} (hr : Ready s h op)
    (hb : body (s.stamp h) (s.started h) = (r, t)) : commandC op h true s body = complete (s.stamp h) r t := by
  rw [commandC_ready hr, hb]

section Commands
variable {s : State} {h : Hdr}

theorem reads_slotStatus {f n a : Nat} (hr : Ready s h (opSlotStatus.on (le 1 f ++ le 1 n ++ zeros 2 ++ le 8 a)))
    (ha : s.writeAddrOk h a = true) (hrange : rangeOk f (if n = 0 then 256 else n) 256 = true) :
    Reads (.slotStatus h f n a) h (okOut a ((List.range (if n = 0 then 256 else n)).flatMap (fun i =>
      le 4 (s.slotWord (f + i)) ++ zeros 4 ++ le 8 (s.slot (f + i)).lastDone))) s := by
  show execSlotStatus h f n a s = _
  simp only [execSlotStatus, hrange, ha, Bool.and_self, commandR_ready hr, State.slotWord_started, State.slot_started]

variable {n : Nat}

theorem ends_slotHold (hr : Ready s h (opSlotHold.on (le 1 n))) (happlies : s.slotCommand n [.released] = 0) :
    Ends (.slotHold h n) h ok s (((s.started h).holdSlot n .command).settle) := by
  show execSlotHold h n s = _
  exact congrArg _ (commandC_ends hr (by simp [happlies]))

/-- SLOT_HOLD that does not apply ends with its status, and changes nothing where the slot's state ranks no higher than
HELD. -/
theorem reads_slotHold_of_refused {st : Nat} (hr : Ready s h (opSlotHold.on (le 1 n)))
    (hrefused : s.slotCommand n [.released] = st) (hst : st ≠ 0) (hrank : (s.slot n).state.rank ≤ SlotState.rank .held) :
    Reads (.slotHold h n) h (err st) s := by
  have hkept : (s.started h).superseded n .held .command = s.started h := State.superseded_of_rank_le _ (by simpa using hrank)
  show execSlotHold h n s = _
  exact congrArg _ (commandC_ends hr (by simp [hrefused, hst, hkept]))

section Release
variable (hr : Ready s h (opSlotRelease.on (le 1 n))) (happlies : s.slotCommand n [.held] = 0)
include hr happlies

theorem ends_slotRelease_of_unmet (hunmet : s.dependencyUnmet n = true) :
    Ends (.slotRelease h n) h { status := 0x0423 } s
      (((s.started h).updSlot n (fun x => { x with cleared := true, needsRelease := false })).settle) := by
  show execSlotRelease h n s = _
  exact congrArg _ (command_ends hr (by simp [happlies, hunmet]))

theorem goes_slotRelease_of_met (hmet : s.dependencyUnmet n = false) :
    Goes (.slotRelease h n) s ((((s.started h).updSlot n (fun x => { x with cleared := true, needsRelease := false })).updSlot n
      (fun x => { x with waiters := x.waiters ++ [s.stamp h] })).settle) := by
  show execSlotRelease h n s = _
  exact congrArg Host.Outcome.next (command_goes hr (by simp [happlies, hmet]))

end Release

theorem ends_slotRecover (hr : Ready s h (opSlotRecover.on (le 1 n))) (happlies : s.slotCommand n [.released, .held] = 0)
    (hbus : (s.slot n).state = .held → s.slotIsolated n = false) :
    Ends (.slotRecover h n) h ok s (((s.started h).recoverSlot n .command false).settle) := by
  obtain ⟨-, -, hstate⟩ := State.slotCommand_eq_zero_iff.1 happlies
  have hrecovering : (s.slot n).state ≠ .recovering := fun he => by simp [he] at hstate
  have hmay : ¬ ((s.slot n).state = .held ∧ s.slotIsolated n = true) := fun ⟨hheld, hiso⟩ => by simp [hbus hheld] at hiso
  show execSlotRecover h n s = _
  exact congrArg _ (commandC_ends hr (by simp [happlies, hrecovering, hmay]))

theorem ends_slotUnquarantine (hr : Ready s h (opSlotUnquarantine.on (le 1 n))) (happlies : s.slotCommand n [.quarantined] = 0)
    (hsince : (s.slot n).changedAt ≠ some s.now) :
    Ends (.slotUnquarantine h n) h ok s
      (if s.slotIsolated n = true then ((s.started h).setSlot n .held .command false).updSlot n (fun x => { x with checkDue := true })
        else ((s.started h).setSlot n .held .command false).enterChecking n .check).settle := by
  show execSlotUnquarantine h n s = _
  exact congrArg _ (commandC_ends hr (by simp [happlies, hsince]))

variable {b : Nat}

theorem reads_busRestore (hr : Ready s h (opBusRestore.on (le 1 b))) (hb : b < 4) (hbus : (s.xbus b).state ≠ .isolated) :
    Reads (.busRestore h b) h ok s := by
  show execBusRestore h b s = _
  rw [execBusRestore, decide_eq_true hb]
  exact congrArg _ (command_ends hr (by simp [hbus]))

theorem goes_busRestore (hr : Ready s h (opBusRestore.on (le 1 b))) (hb : b < 4) (hbus : (s.xbus b).state = .isolated) :
    Goes (.busRestore h b) s ((s.started h).updBus b (fun x => { x with waiters := x.waiters ++ [s.stamp h] })) := by
  show execBusRestore h b s = _
  rw [execBusRestore, decide_eq_true hb]
  exact congrArg _ (command_goes hr (by simp [hbus]))

end Commands

/-- Settles O5: a command whose slot is in a state that it names, or whose bus is ISOLATED, runs its body; SLOT_HOLD of a slot
that is ABSENT or HELD supersedes nothing. That BUS_RESTORE of another bus does nothing (log entry 91), that 0x0421 refuses
SLOT_RECOVER of a HELD slot on an isolated bus (log entry 102) and that one DMT value is one instant (log entry 84) are the
model's choice. -/
theorem slotCommandsComplete : Obligations.SlotCommandsComplete := by
  unfold Obligations.SlotCommandsComplete
  refine ⟨fun s h f n a m hr ha hm hrange => ?_, fun s h n => ends_slotHold, fun s h n => ends_slotRelease_of_unmet,
    fun s h n => goes_slotRelease_of_met, fun s h n => ends_slotRecover, fun s h n t hr happlies hsince ht => ?_,
    fun s h b hr hb => ⟨reads_busRestore hr hb, goes_busRestore hr hb⟩,
    fun s h n hr himage => ⟨fun habsent => ?_, fun hheld => ?_⟩⟩
  · subst hm
    exact reads_slotStatus hr ha hrange
  · subst ht
    exact ends_slotUnquarantine hr happlies hsince
  · exact reads_slotHold_of_refused hr (State.slotCommand_of_absent _ himage habsent) (by decide) (by simp [habsent, SlotState.rank])
  · exact reads_slotHold_of_refused hr (State.slotCommand_of_notMem (by simp [hheld]) (by simp [hheld])) (by decide) (by simp [hheld])

end Sys2Proof.Machine
end

section
/-! SUPPORT. The events of chapter 3: release triggers, string changes, extension buses, power-good and maximum delays, each in
the cases of its row that its statement names. -/
namespace Sys2Proof.Machine

/-! ### Releases and string changes (R100, R101, R105) -/

theorem goes_releaseTrigger {s : State} {n : Nat} (hup : (s.boot.controlUp && s.image.isSome) = true)
    (hmay : (s.considerSlot n).mayRelease n = true) : Goes (.releaseTrigger n) s ((s.considerSlot n).releaseSlot n).settle := by
  show execReleaseTrigger n s = _
  simp only [execReleaseTrigger, hup, if_true, hmay]

/-- The slot that a string names is read from the policy alone. -/
@[simp] theorem State.strSlot_updStr (s : State) (i j : Nat) (f : Str → Str) : (s.updStr j f).strSlot i = s.strSlot i := rfl

/-- A string whose change is due takes its scheduled level. -/
theorem State.applyDue_of_le {s : State} {i d : Nat} {k : Bool} (hdue : (s.str i).due = some (d, k)) (hd : d ≤ s.now) :
    s.applyDue i = s.updStr i (fun x => { x with driven := true, slack := k, due := none }) := by
  simp only [State.applyDue, hdue, if_pos hd]

section MoveString
variable {s : State} {i d : Nat} {k : Bool} (hdue : (s.str i).due = some (d, k)) (hd : d ≤ s.now)
include hdue hd

/-- A string that names no slot only takes its level. -/
theorem State.moveString_of_no_slot (hslot : s.strSlot i = none) :
    s.moveString i = s.updStr i (fun x => { x with driven := true, slack := k, due := none }) := by
  simp only [State.moveString, State.applyDue_of_le hdue hd, State.strSlot_updStr, hslot]

/-- The change of a string that names a slot may end that slot's sequence. -/
theorem State.moveString_of_slot {n : Nat} (hslot : s.strSlot i = some n) :
    s.moveString i = (s.updStr i (fun x => { x with driven := true, slack := k, due := none })).sequenceEnd n := by
  simp only [State.moveString, State.applyDue_of_le hdue hd, State.strSlot_updStr, hslot]

end MoveString

theorem goes_stringScheduledChange {s : State} {i : Nat} (hi : i < 128) (hguard : s.boot.guardUp = true) :
    Goes (.stringScheduledChange i) s (s.moveString i).settle := by
  show execStringScheduledChange i s = _
  exact if_pos ⟨hi, hguard⟩

/-! ### The extension buses (R102, R111, R112) -/

/-- The ticks serve a bus that is UP or RETRYING (R111). -/
theorem XBus.served_iff (x : XBus) : (x.state == .up || x.state == .retrying) = true ↔ x.state = .up ∨ x.state = .retrying := by
  simp

theorem goes_extensionTick {s : State} {b : Nat} (hb : b < 4) (hguard : s.boot.guardUp = true) (htick : s.now % s.busTick b = 0)
    (hserved : (s.xbus b).state = .up ∨ (s.xbus b).state = .retrying) : Goes (.extensionTick b) s
      (((List.range 8).filter (fun e => !(s.xbus b).retrying e)).foldl (fun t e => t.serveExpander b e) s).settle := by
  show execExtensionTick b s = _
  exact if_pos ⟨hb, hguard, htick, (s.xbus b).served_iff.2 hserved⟩

theorem goes_expanderNak {s : State} {b e : Nat} (hb : b < 4) (hserved : (s.xbus b).state = .up ∨ (s.xbus b).state = .retrying)
    (hfirst : (s.xbus b).retrying e = false) (hguard : s.boot.guardUp = true) (hfitted : s.expProtocol b e ≠ 0) :
    Goes (.expanderNak b e) s
      (s.updBus b (fun x => { x with state := .retrying, retry := x.retry ++ [(e, 0, s.now + 50)] })) := by
  show execExpanderNak b e s = _
  exact if_pos ⟨hb, (s.xbus b).served_iff.2 hserved, by simp [hfirst], hguard, hfitted⟩

section Retry
variable {s : State} {b e k d : Nat} (hb : b < 4) (hstate : (s.xbus b).state = .retrying) (hguard : s.boot.guardUp = true)
  (hnext : (s.xbus b).nextRetry = some (e, k, d)) (hd : d ≤ s.now)
include hb hstate hguard hnext hd

/-- A retry that is due is counted, and goes on by its acknowledgement and its number. -/
theorem execExpanderRetry_of_due (ack : Bool) : execExpanderRetry b ack s =
    let t := s.updBus b (fun x => { x with retries := min (x.retries + 1) 255 })
    let rest := (s.xbus b).retry.filter (fun r => r.1 != e)
    if ack then .next (((t.logLate b e).updBus b (fun x =>
      { x with state := if rest.isEmpty then .up else .retrying, retry := rest })).serveExpander b e).settle
    else if k = 7 then .next (t.isolateBus b).settle
    else .next (t.updBus b (fun x => { x with retry := rest ++ [(e, k + 1, s.now + 50 * 2 ^ (k + 1))] })) := by
  have hdue : ¬ (4 ≤ b ∨ (s.xbus b).state != .retrying ∨ s.now < d ∨ !s.boot.guardUp) := by
    simp [hstate, hguard, Nat.not_lt.2 hd, hb]
  have hnow (f : XBus → XBus) : (s.updBus b f).now = s.now := by simp [State.now]
  simp only [execExpanderRetry, hnext, if_neg hdue, hnow, retryGap]

theorem goes_expanderRetry_acknowledged : Goes (.expanderRetry b true) s
    (((((s.updBus b (fun x => { x with retries := min (x.retries + 1) 255 })).logLate b e).updBus b (fun x => { x with
      state := if ((s.xbus b).retry.filter (fun r => r.1 != e)).isEmpty then .up else .retrying,
      retry := (s.xbus b).retry.filter (fun r => r.1 != e) })).serveExpander b e).settle) :=
  execExpanderRetry_of_due hb hstate hguard hnext hd true

theorem goes_expanderRetry_last (hk : k = 7) : Goes (.expanderRetry b false) s
    ((s.updBus b (fun x => { x with retries := min (x.retries + 1) 255 })).isolateBus b).settle :=
  (execExpanderRetry_of_due hb hstate hguard hnext hd false).trans (if_pos hk)

theorem goes_expanderRetry_unacknowledged (hk : k ≠ 7) : Goes (.expanderRetry b false) s
    ((s.updBus b (fun x => { x with retries := min (x.retries + 1) 255 })).updBus b (fun x => { x with
      retry := (s.xbus b).retry.filter (fun r => r.1 != e) ++ [(e, k + 1, s.now + 50 * 2 ^ (k + 1))] })) :=
  (execExpanderRetry_of_due hb hstate hguard hnext hd false).trans (if_neg hk)

end Retry

/-! ### Restoring a bus (R113) -/

/-- The changed bus is what the change makes of it. -/
@[simp] theorem State.xbus_updBus_same (s : State) (b : Nat) (f : XBus → XBus) : (s.updBus b f).xbus b = f (s.xbus b) := by
  match b with
  | 0 | 1 | 2 | _ + 3 => rfl

section Restore
variable {s : State} {b : Nat} (hb : b < 4) (hdue : s.attemptDue b = true)
include hb hdue

theorem goes_busRestoreAttempt_acknowledged : Goes (.busRestoreAttempt b true) s (completeAll (s.xbus b).waiters ok
    ((s.updBus b (fun x => { x with waiters := [], lastRestore := s.now })).busUp b)).settle := by
  show execBusRestoreAttempt b true s = _
  simp only [execBusRestoreAttempt, hb, hdue, and_self, if_true]

theorem goes_busRestoreAttempt_unacknowledged (hup : (s.xbus b).comingUp = false) : Goes (.busRestoreAttempt b false) s
    (completeAll (s.xbus b).waiters (err 0x0422) (s.updBus b (fun x => { x with waiters := [], lastRestore := s.now }))) := by
  show execBusRestoreAttempt b false s = _
  simp [execBusRestoreAttempt, hb, hdue, hup]

theorem goes_busRestoreAttempt_of_comingUp (hup : (s.xbus b).comingUp = true) : Goes (.busRestoreAttempt b false) s
    ((s.updBus b (fun x => { x with waiters := [], lastRestore := s.now })).isolateBus b).settle := by
  show execBusRestoreAttempt b false s = _
  simp [execBusRestoreAttempt, hb, hdue, hup]

end Restore

/-! ### Power-good (R109, R110) -/

theorem goes_powerGoodChange_direct {s : State} {i : Nat} {v : Bool} (hguard : s.boot.guardUp = true) (hv : (s.str i).input ≠ v)
    (hi : i < 128) :
    Goes (.powerGoodChange i v) s (s.updStr i (fun x => { x with input := v, sampled := v, since := s.now })) := by
  show execPowerGoodChange i v s = _
  rw [execPowerGoodChange, if_pos ⟨by omega, hguard, hv⟩]
  simp only [if_pos hi]

/-- The level of an extension string waits for its bus's tick to be sampled. -/
theorem goes_powerGoodChange_extension {s : State} {i : Nat} {v : Bool} (hguard : s.boot.guardUp = true)
    (hv : (s.str i).input ≠ v) (hlow : 128 ≤ i) (hi : i < 256) :
    Goes (.powerGoodChange i v) s (s.updStr i (fun x => { x with input := v })) := by
  show execPowerGoodChange i v s = _
  rw [execPowerGoodChange, if_pos ⟨hi, hguard, hv⟩]
  simp only [if_neg (Nat.not_lt.2 hlow)]

@[simp] theorem State.isReleased_updStr (s : State) (i n : Nat) (f : Str → Str) : (s.updStr i f).isReleased n = s.isReleased n := rfl

section Debounce
variable {s : State} {i : Nat} (hi : i < 256) (hrole : (s.strEntry i).role = 3) (hguard : s.boot.guardUp = true)
  (hlasted : (s.str i).since + (s.strEntry i).offsetB ≤ s.now)
include hi hrole hguard hlasted

theorem goes_powerGoodDebounce_lost (hlevel : ((s.str i).sampled == (s.strEntry i).high) = false)
    (haccepted : (s.str i).accepted = true) : Goes (.powerGoodDebounce i) s
      ((s.updStr i (fun x => { x with accepted := false })).powerGoodLost (s.strEntry i).target i).settle := by
  show execPowerGoodDebounce i s = _
  simp [execPowerGoodDebounce, hi, hrole, hguard, hlasted, hlevel, haccepted]

theorem goes_powerGoodDebounce_accepted {t : State} (hlevel : ((s.str i).sampled == (s.strEntry i).high) = true)
    (haccepted : (s.str i).accepted = false)
    (ht : t = (s.updStr i (fun x => { x with accepted := true })).updStr i
      (fun x => { x with pgSeen := x.pgSeen || s.isReleased (s.strEntry i).target })) :
    Goes (.powerGoodDebounce i) s (if (s.strEntry i).gate && (s.slot (s.strEntry i).target).state == .released &&
      (s.slot (s.strEntry i).target).gateWait then t.gateAccepted (s.strEntry i).target else t).settle := by
  subst ht
  show execPowerGoodDebounce i s = _
  simp [execPowerGoodDebounce, hi, hrole, hguard, hlasted, hlevel, haccepted]

end Debounce

theorem goes_powerGoodTimeout {s : State} {n i : Nat} (hlate : s.pgLate n = some i) (hreleased : s.isReleased n = true)
    (hguard : s.boot.guardUp = true) :
    Goes (.powerGoodTimeout n) s ((s.updStr i (fun y => { y with pgTimedOut := true })).powerGoodLost n i).settle := by
  show execPowerGoodTimeout n s = _
  simp only [execPowerGoodTimeout, hlate, hreleased, hguard, Bool.and_self, if_true]

/-! ### Maximum delays (R106) -/

/-- s with one more miss of edge i, acted on for the prerequisite's last completion and logged with its action. -/
def State.missDelay (s : State) (i : Nat) (e : EdgeRec) (action : Nat) : State :=
  (s.updEdge i (fun x => { x with misses := (s.edgeMem i).misses + 1, acted := some (s.slot e.src).lastDone })).log
    .guard 0x0104 3 3 e.dst { index2 := e.src, value := action }

section MaxDelay
variable {s : State} {i j : Nat} {e : EdgeRec} (hedge : s.edges.find? (fun p => p.1 == i) = some (j, e))
  (hup : s.boot.controlUp = true) (hmax : e.maxDelay ≠ 0xFFFFFFFF) (hreleased : (s.slot e.src).state = .released)
  (hdone : (s.slot e.src).completed = true) (hunmet : (s.edgeMem i).met ≠ some (s.slot e.src).lastDone)
  (hnew : (s.edgeMem i).acted ≠ some (s.slot e.src).lastDone) (hpast : (s.slot e.src).lastDone + e.maxDelay ≤ s.now)
include hedge hup hmax hreleased hdone hunmet hnew hpast

/-- A miss is counted and logged with its action; HOLD_PREREQ holds the prerequisite until the dependant's checks allow it. -/
theorem execMaxDelayExpiry_of_missed {action : Nat}
    (haction : (if e.maxAction = 1 ∧ 4 ≤ (s.edgeMem i).misses + 1 then 0 else e.maxAction) = action) (hlogs : action ≠ 2) :
    execMaxDelayExpiry i s = if action = 1 then
        .next ((((s.missDelay i e action).updEdge i (fun x => { x with holdsPrereq := true })).holdSlot
          e.src .maxDelay).updSlot e.src (fun x => { x with restore := true })).settle
      else .next (s.missDelay i e action) := by
  have hmissed : (!s.boot.controlUp || e.maxDelay == 0xFFFFFFFF || (s.slot e.src).state != .released ||
      !(s.slot e.src).completed || (s.edgeMem i).met == some (s.slot e.src).lastDone ||
      (s.edgeMem i).acted == some (s.slot e.src).lastDone || decide (s.now < (s.slot e.src).lastDone + e.maxDelay)) = false := by
    simp only [hup, beq_eq_false_iff_ne.2 hmax, hreleased, hdone, beq_eq_false_iff_ne.2 hunmet, beq_eq_false_iff_ne.2 hnew,
      decide_eq_false (Nat.not_lt.2 hpast), bne_self_eq_false, Bool.not_true, Bool.or_self]
  unfold execMaxDelayExpiry
  simp only [hedge, hmissed, haction, if_neg Bool.false_ne_true, if_neg hlogs]
  rfl

theorem goes_maxDelayExpiry_of_log (haction : e.maxAction = 0) : Goes (.maxDelayExpiry i) s (s.missDelay i e 0) :=
  execMaxDelayExpiry_of_missed hedge hup hmax hreleased hdone hunmet hnew hpast (action := 0) (by simp [haction]) (by decide)

theorem goes_maxDelayExpiry_of_holdPrereq (haction : e.maxAction = 1) (hfew : (s.edgeMem i).misses < 3) :
    Goes (.maxDelayExpiry i) s ((((s.missDelay i e 1).updEdge i (fun x => { x with holdsPrereq := true })).holdSlot
      e.src .maxDelay).updSlot e.src (fun x => { x with restore := true })).settle :=
  execMaxDelayExpiry_of_missed hedge hup hmax hreleased hdone hunmet hnew hpast (action := 1)
    ((if_neg (by omega)).trans haction) (by decide)

end MaxDelay

/-- Settles O8: each event meets one case of its row: its guard holds, and what it finds of the string, the bus or the edge
chooses the next state. What the DEPENDENCY_MAX records of a missed delay (log entry 76) and of late changes (log entry 90) hold
is the model's choice. -/
theorem releaseAndStringEventsComplete : Obligations.ReleaseAndStringEventsComplete := by
  unfold Obligations.ReleaseAndStringEventsComplete
  refine ⟨fun s n => goes_releaseTrigger, fun s i d k t hi hguard hdue hd ht => ⟨fun hslot => ?_, fun n hslot => ?_⟩,
    fun s b => goes_extensionTick, fun s b e => goes_expanderNak, fun s b e k d t hb hstate hguard hnext hd ht => ?_,
    fun s b t hb hdue ht => ?_,
    fun s i v hguard hv => ⟨goes_powerGoodChange_direct hguard hv, goes_powerGoodChange_extension hguard hv⟩,
    fun s i e hi he hrole hguard hlasted => ?_, fun s n i => goes_powerGoodTimeout,
    fun s i j e t hedge hup hmax hreleased hdone hunmet hnew hpast ht => ?_⟩
  · exact ht ▸ State.moveString_of_no_slot hdue hd hslot ▸ goes_stringScheduledChange hi hguard
  · exact ht ▸ State.moveString_of_slot hdue hd hslot ▸ goes_stringScheduledChange hi hguard
  · subst ht
    exact ⟨goes_expanderRetry_unacknowledged hb hstate hguard hnext hd, goes_expanderRetry_last hb hstate hguard hnext hd,
      goes_expanderRetry_acknowledged hb hstate hguard hnext hd⟩
  · subst ht
    exact ⟨goes_busRestoreAttempt_acknowledged hb hdue, goes_busRestoreAttempt_unacknowledged hb hdue,
      goes_busRestoreAttempt_of_comingUp hb hdue⟩
  · subst he
    exact ⟨goes_powerGoodDebounce_lost hi hrole hguard hlasted, fun t => goes_powerGoodDebounce_accepted hi hrole hguard hlasted⟩
  · subst ht
    exact ⟨goes_maxDelayExpiry_of_log hedge hup hmax hreleased hdone hunmet hnew hpast,
      goes_maxDelayExpiry_of_holdPrereq hedge hup hmax hreleased hdone hunmet hnew hpast⟩

end Sys2Proof.Machine
end

section
/-! SUPPORT. Chapter 4: the two commands of Table 4-19, the host's commands on a port, the clock stall, and the events of a
port's mode, each in the cases of its row that its statement names. -/
namespace Sys2Proof.Machine

/-! ### PORT_STATUS and PORT_IDLE_WINDOW (R148, R154) -/

/-- A ready command that only reads ends with the reply that its body gives. -/
theorem commandR_reads {op : Op} {h : Hdr} {s : State} {r : Reply} {body : Hdr → State → Reply} (hr : Ready s h op)
    (hb : body (s.stamp h) (s.started h) = r) : commandR op h true s body = complete (s.stamp h) r (s.started h) := by
  rw [commandR_ready hr, hb]

section PortCommands
variable {s : State} {h : Hdr} {p : Nat} (hp : p < 16)
include hp

section Status
variable {a : Nat} (hr : Ready s h (opPortStatus.on (le 1 p ++ zeros 3 ++ le 8 a))) (ha : s.writeAddrOk h a = true)
include hr ha

theorem reads_portStatus_of_unguarded (hnone : s.portDevices p = []) : Reads (.portStatus h p a) h (err 0x0430) s := by
  show execPortStatus h p a s = _
  rw [execPortStatus, decide_eq_true hp, ha]
  exact congrArg _ (commandR_reads hr (by simp [hnone]))

theorem reads_portStatus (hguarded : s.portDevices p ≠ []) : Reads (.portStatus h p a) h
    (okOut a (le 4 (s.portModeWord p) ++ le 4 (s.portDevWord (2 * p)) ++ le 4 (s.portDevWord (2 * p + 1)) ++
      le 4 (s.shadow (2 * p)).suspAddr ++ le 4 (s.shadow (2 * p + 1)).suspAddr ++ le 4 (s.portIdleWait p) ++ zeros 8)) s := by
  show execPortStatus h p a s = _
  rw [execPortStatus, decide_eq_true hp, ha]
  exact congrArg _ (commandR_reads hr (by simp [hguarded]))

end Status

section IdleWindow
variable {d : Nat} (hr : Ready s h (opPortIdleWindow.on (le 1 p ++ zeros 3 ++ le 4 d))) (hmin : 100 ≤ d) (hmax : d ≤ 1000000)
include hr hmin hmax

theorem reads_portIdleWindow_of_unguarded (hnone : s.portDevices p = []) :
    Reads (.portIdleWindow h p d) h (err 0x0430) s := by
  show execPortIdleWindow h p d s = _
  rw [execPortIdleWindow, decide_eq_true ⟨hp, hmin, hmax⟩]
  exact congrArg _ (command_ends hr (by simp [hnone]))

variable (hguarded : s.portDevices p ≠ [])
include hguarded

theorem reads_portIdleWindow_of_declared (hdeclared : (s.port p).window ≠ none) :
    Reads (.portIdleWindow h p d) h (err 0x0431) s := by
  show execPortIdleWindow h p d s = _
  rw [execPortIdleWindow, decide_eq_true ⟨hp, hmin, hmax⟩]
  exact congrArg _ (command_ends hr (by simp [hguarded, Option.isSome_iff_ne_none.2 hdeclared]))

variable (hwindow : (s.port p).window = none)
include hwindow

theorem reads_portIdleWindow_of_own (hown : (s.port p).mode = .own) : Reads (.portIdleWindow h p d) h (err 0x0432) s := by
  show execPortIdleWindow h p d s = _
  rw [execPortIdleWindow, decide_eq_true ⟨hp, hmin, hmax⟩]
  exact congrArg _ (command_ends hr (by simp [hguarded, hwindow, hown]))

variable (hmode : (s.port p).mode ≠ .own)
include hmode

theorem reads_portIdleWindow_of_no_work (hwork : s.windowWork p = false) :
    Reads (.portIdleWindow h p d) h (ok (zeros 8)) s := by
  show execPortIdleWindow h p d s = _
  rw [execPortIdleWindow, decide_eq_true ⟨hp, hmin, hmax⟩]
  exact congrArg _ (command_ends hr (by simp [hguarded, hwindow, hmode, hwork]))

/-- With work for it, the window is declared and its command waits for its end. -/
theorem goes_portIdleWindow (hwork : s.windowWork p = true) : Goes (.portIdleWindow h p d) s
    ((s.started h).updPort p (fun x => { x with window := some { hdr := s.stamp h, durationUs := d } })) := by
  show execPortIdleWindow h p d s = _
  rw [execPortIdleWindow, decide_eq_true ⟨hp, hmin, hmax⟩]
  exact congrArg Host.Outcome.next (command_goes hr (by simp [hguarded, hwindow, hmode, hwork]))

end IdleWindow
end PortCommands

/-! ### A fall of a host chip select (R125, R126, R144, R150) -/

theorem State.inWindow_of_some {s : State} {p : Nat} {w : Window} (hw : (s.port p).window = some w) : s.inWindow p = w.isOpen := by
  simp only [State.inWindow, hw]

/-- A port whose window, if any, is not open is in no window. -/
theorem State.inWindow_of_not_open {s : State} {p : Nat} (h : ∀ w, (s.port p).window = some w → w.isOpen = false) :
    s.inWindow p = false := by
  cases hw : (s.port p).window with
  | none => simp only [State.inWindow, hw]
  | some w => rw [State.inWindow_of_some hw, h w hw]

@[simp] theorem State.now_updPort (s : State) (p : Nat) (f : Port → Port) : (s.updPort p f).now = s.now := rfl

@[simp] theorem State.now_report (s : State) (r : Region) (e : LogEv) : (s.report r e).now = s.now := by simp [State.now]

@[simp] theorem State.now_intrusion (s : State) (p : Nat) (inWindow : Bool) : (s.intrusion p inWindow).now = s.now := by
  simp [State.now]

/-- Why a command that begins on chip select k of port p reaches no flash: 3 OWN, 2 a window or a reset pulse, 1 the gate, and 0
it does. -/
def State.blocks (s : State) (p k : Nat) : Nat :=
  if (s.port p).mode == .own then 3
  else if s.inWindow p || (s.port p).pulseUntil.isSome then 2
  else if !s.csReleased p k then 1 else 0

/-- The command that a fall of chip select k of port p begins. -/
def State.newCmd (s : State) (p k blocked : Nat) : HostCmd :=
  { cs := k, bank := (s.port p).active, iface := ((s.port p).dev k).iface, blocked := blocked,
    gated := (s.port p).mode == .frozen || ((s.port p).dev k).resync, startedAt := s.now, lastEdge := s.now }

/-- s with chip select k of port p low. -/
def State.lowerCs (s : State) (p k : Nat) : State :=
  s.updPort p (fun x => if k = 0 then { x with csLow0 := true } else { x with csLow1 := true })

section Fall
variable {s : State} {p k : Nat}

theorem State.blocks_of_own (hown : (s.port p).mode = .own) : s.blocks p k = 3 := by
  simp [State.blocks, hown]

theorem State.blocks_of_window (hmode : (s.port p).mode ≠ .own) (hopen : s.inWindow p = true) : s.blocks p k = 2 := by
  simp [State.blocks, hmode, hopen]

theorem State.blocks_of_pulse (hmode : (s.port p).mode ≠ .own) (hpulse : (s.port p).pulseUntil.isSome = true) :
    s.blocks p k = 2 := by
  simp [State.blocks, hmode, hpulse]

/-- Outside OWN, windows and pulses the gate alone blocks a command (R125). -/
theorem State.blocks_of_gate (hmode : (s.port p).mode ≠ .own) (hopen : s.inWindow p = false)
    (hpulse : (s.port p).pulseUntil = none) : s.blocks p k = if s.csReleased p k then 0 else 1 := by
  cases hrel : s.csReleased p k <;> simp [State.blocks, hmode, hopen, hpulse, hrel]

variable (hp : p < 16) (hk : k < 2) (hguard : s.boot.guardUp = true) (hsupply : (s.port p).hVddioOk = true)
include hp hk hguard hsupply

/-- A fall of a chip select begins a command, and is counted as an intrusion where a window or a pulse blocks it. -/
theorem goes_hostCsFall : Goes (.hostCsFall p k) s
    ((if s.blocks p k = 2 then (s.lowerCs p k).intrusion p (s.inWindow p) else s.lowerCs p k).updPort p
      (fun x => x.beginCmd (s.newCmd p k (s.blocks p k)))) := by
  show execHostCsFall p k s = _
  rw [execHostCsFall, if_neg (by simp [hp, hk, hguard, hsupply])]
  have hnow : (if s.blocks p k = 2 then (s.lowerCs p k).intrusion p (s.inWindow p) else s.lowerCs p k).now = s.now := by
    split <;> simp [State.lowerCs]
  rw [State.newCmd, ← hnow]
  rfl

/-- A command that no window and no pulse blocks is no intrusion. -/
theorem goes_hostCsFall_of_blocks {b : Nat} (hb : s.blocks p k = b) (hne : b ≠ 2) :
    Goes (.hostCsFall p k) s ((s.lowerCs p k).updPort p (fun x => x.beginCmd (s.newCmd p k b))) := by
  simpa only [hb, if_neg hne] using goes_hostCsFall hp hk hguard hsupply

theorem goes_hostCsFall_of_intrusion {b : Bool} (hb : s.blocks p k = 2) (hw : s.inWindow p = b) :
    Goes (.hostCsFall p k) s (((s.lowerCs p k).intrusion p b).updPort p (fun x => x.beginCmd (s.newCmd p k 2))) := by
  simpa only [hb, hw, if_true] using goes_hostCsFall hp hk hguard hsupply

end Fall

/-- A command that begins is its chip select's command: at most one of the port's two places is taken, and by the other chip
select's (log entry 42). -/
theorem Port.cmdOf_beginCmd {x : Port} {c : HostCmd} (hnone : x.cmdOf c.cs = none) (hplace : x.cmd = none ∨ x.other = none) :
    (x.beginCmd c).cmdOf c.cs = some c := by
  have hfree : ¬ (x.cmdOf c.cs).isSome = true := by simp [hnone]
  cases hcmd : x.cmd with
  | none =>
    have hbegun : x.beginCmd c = { x with cmd := some c } := by simp only [Port.beginCmd, if_neg hfree, hcmd]; rfl
    simp [hbegun, Port.cmdOf]
  | some d =>
    have hother : x.other = none := by simpa [hcmd] using hplace
    have hne : d.cs ≠ c.cs := by simpa [Port.cmdOf, hcmd, hother] using hnone
    have hbegun : x.beginCmd c = { x with other := some c } := by simp only [Port.beginCmd, if_neg hfree, hcmd]; rfl
    simp [hbegun, Port.cmdOf, hcmd, hne]

/-! ### An edge of the host's clock, and the rise of a chip select (R119, R132, R135) -/

theorem goes_hostSckEdge_of_idle {s : State} {p : Nat} (r : Bool) (hd fd : Nat) (late : Bool) (m : Nat)
    (hidle : (s.port p).cmd = none) : Goes (.hostSckEdge p r hd fd late m) s s := by
  show execHostSckEdge p r hd fd late m s = _
  simp only [execHostSckEdge, hidle]

/-- s with one edge taken by each command under way on port p, of which c began first. -/
def State.edged (s : State) (p : Nat) (r : Bool) (hd fd : Nat) (late : Bool) (c : HostCmd) : State :=
  s.updPort p (fun x => { x with sckHigh := r, cmd := some ((s.port p).edgeCmd r hd fd late s.now c),
                                 other := (s.port p).other.map ((s.port p).edgeCmd r hd fd late s.now) })

section Edge
variable {s : State} {p : Nat} (r : Bool) (hd fd : Nat) (late : Bool) {m : Nat} {c c' : HostCmd}
  (hsupply : (s.port p).hVddioOk = true) (hcmd : (s.port p).cmd = some c)
  (hc' : c' = (s.port p).edgeCmd r hd fd late s.now c)
include hsupply hcmd hc'

theorem goes_hostSckEdge_of_agree (hagree : (m ≠ 1 ∧ m ≠ 2 ∧ m ≠ 4) ∨ c'.blocked ≠ 0) :
    Goes (.hostSckEdge p r hd fd late m) s (s.edged p r hd fd late c) := by
  subst hc'
  show execHostSckEdge p r hd fd late m s = _
  simp only [execHostSckEdge, hcmd, hsupply, Bool.not_true, if_false, Bool.false_eq_true]
  exact if_neg fun ⟨hm, hb⟩ => by omega

theorem goes_hostSckEdge_of_differ (hm : m = 1 ∨ m = 2 ∨ m = 4) (hpasses : c'.blocked = 0) :
    Goes (.hostSckEdge p r hd fd late m) s
      ((((s.edged p r hd fd late c).updPort p (fun x => { x with
        cmd := some ((c'.disagree (s.port p).bank ((s.port p).dev c'.cs) m).makeCut late r) })).freezePort p
          (le 1 c'.opcode ++ le 1 c'.ext ++ le 1 m ++ le 1 (b2n c'.passes))).settle) := by
  subst hc'
  show execHostSckEdge p r hd fd late m s = _
  simp only [execHostSckEdge, hcmd, hsupply, Bool.not_true, if_false, Bool.false_eq_true]
  exact if_pos ⟨hm, hpasses⟩

end Edge

/-- s with chip select k of port p high. -/
def State.raiseCs (s : State) (p k : Nat) : State :=
  s.updPort p (fun x => if k = 0 then { x with csLow0 := false, csHighSince := s.now }
    else { x with csLow1 := false, csHighSince := s.now })

section Rise
variable {s : State} {p k : Nat} (n : Nat) (hp : p < 16) (hk : k < 2) (hsupply : (s.port p).hVddioOk = true)
include hp hk hsupply

theorem goes_hostCsRise_of_idle (hidle : (s.port p).cmdOf k = none) : Goes (.hostCsRise p k n) s (s.raiseCs p k) := by
  show execHostCsRise p k n s = _
  rw [execHostCsRise, if_neg (by simp [hp, hk, hsupply])]
  simp only [hidle]
  rfl

theorem goes_hostCsRise {c : HostCmd} (hcmd : (s.port p).cmdOf k = some c) :
    Goes (.hostCsRise p k n) s ((s.raiseCs p k).endCommand p c n false).settle := by
  show execHostCsRise p k n s = _
  rw [execHostCsRise, if_neg (by simp [hp, hk, hsupply])]
  simp only [hcmd]
  rfl

end Rise

/-! ### A stalled host clock (R152) -/

/-- A port changes by what a change makes of it alone. -/
theorem State.updPort_congr {s : State} {p : Nat} {f g : Port → Port} (h : f (s.port p) = g (s.port p)) :
    s.updPort p f = s.updPort p g := by
  have hget : f (s.apa.ports.get p {}) = g (s.apa.ports.get p {}) := h
  simp only [State.updPort, Tab.upd, hget]

theorem HostCmd.stallDue_iff (c : HostCmd) (now : Nat) :
    c.stallDue now = true ↔ c.stalled = false ∧ c.lastEdge + 1000000 ≤ now := by
  simp [HostCmd.stallDue]

/-- The command, marked where its stall is due. -/
def HostCmd.markStall (now : Nat) (c : HostCmd) : HostCmd := if c.stallDue now then { c with stalled := true } else c

/-- A command whose stall is not due is left as it is, and so is no command. -/
theorem HostCmd.markStall_map_of_not_due {now : Nat} {o : Option HostCmd} (h : ∀ c, o = some c → c.stallDue now = false) :
    o.map (HostCmd.markStall now) = o := by
  cases o with
  | none => rfl
  | some c => simp [HostCmd.markStall, h c rfl]

/-- s with the stalls of port p that are due marked. -/
def State.markStalls (s : State) (p : Nat) : State :=
  s.updPort p (fun x => { x with cmd := x.cmd.map (HostCmd.markStall s.now), other := x.other.map (HostCmd.markStall s.now) })

/-- The event of a host clock stall on port p. -/
def State.stallEvent (s : State) (p : Nat) : LogEv :=
  { code := 0x0204, rung := 6, cls := 1, idx := p, params := ({ cause := 3 } : Quantities).layout s.now,
    island := ({ cause := 3 } : Quantities).island }

/-- s with a stall of port p counted and recorded. -/
def State.countStall (s : State) (p : Nat) : State :=
  (s.updPort p (fun x => { x with stalls := min (x.stalls + 1) 255 })).report .guard (s.stallEvent p)

section Stall
variable {s : State} {p : Nat}

theorem goes_hostClockStall_of_none_due (hcmd : ∀ c, (s.port p).cmd = some c → c.stallDue s.now = false)
    (hother : ∀ o, (s.port p).other = some o → o.stallDue s.now = false) : Goes (.hostClockStall p) s s := by
  show execHostClockStall p s = _
  rw [execHostClockStall, if_pos]
  simp only [List.isEmpty_iff, List.filter_eq_nil_iff, Bool.not_eq_true]
  intro c hc
  have hplace : (s.port p).cmd = some c ∨ (s.port p).other = some c := by simpa [eq_comm] using hc
  exact hplace.elim (hcmd c) (hother c)

/-- One stall that is due is marked, counted and recorded. -/
theorem goes_hostClockStall_of_one_due {c : HostCmd}
    (hone : ([(s.port p).cmd, (s.port p).other].filterMap id).filter (fun c => c.stallDue s.now) = [c]) :
    Goes (.hostClockStall p) s ((s.markStalls p).countStall p) := by
  show execHostClockStall p s = _
  simp only [execHostClockStall, hone]
  rfl

theorem goes_hostClockStall_of_cmd {c : HostCmd} (hcmd : (s.port p).cmd = some c) (hdue : c.stallDue s.now = true)
    (hother : ∀ o, (s.port p).other = some o → o.stallDue s.now = false) :
    Goes (.hostClockStall p) s ((s.updPort p (fun x => { x with cmd := some { c with stalled := true } })).countStall p) := by
  have hmark : s.markStalls p = s.updPort p (fun x => { x with cmd := some { c with stalled := true } }) := by
    refine State.updPort_congr ?_
    simp only [HostCmd.markStall_map_of_not_due hother, hcmd, Option.map_some, HostCmd.markStall, hdue, if_true]
  refine hmark ▸ goes_hostClockStall_of_one_due (c := c) ?_
  cases ho : (s.port p).other with
  | none => simp [hcmd, hdue]
  | some o => simp [hcmd, hdue, hother o ho]

theorem goes_hostClockStall_of_other {o : HostCmd} (hother : (s.port p).other = some o) (hdue : o.stallDue s.now = true)
    (hcmd : ∀ c, (s.port p).cmd = some c → c.stallDue s.now = false) :
    Goes (.hostClockStall p) s ((s.updPort p (fun x => { x with other := some { o with stalled := true } })).countStall p) := by
  have hmark : s.markStalls p = s.updPort p (fun x => { x with other := some { o with stalled := true } }) := by
    refine State.updPort_congr ?_
    simp only [HostCmd.markStall_map_of_not_due hcmd, hother, Option.map_some, HostCmd.markStall, hdue, if_true]
  refine hmark ▸ goes_hostClockStall_of_one_due (c := o) ?_
  cases hc : (s.port p).cmd with
  | none => simp [hother, hdue]
  | some c => simp [hother, hdue, hcmd c hc]

end Stall

/-! ### Host-idle points, pulses and windows (R126, R130, R143, R148) -/

theorem goes_hostIdlePoint {s : State} {p : Nat} (b : Bool) (hp : p < 16) (hguard : s.boot.guardUp = true)
    (hidle : (s.port p).hostIdle = true) (hpulse : (s.port p).pulseUntil = none) : Goes (.hostIdlePoint p b) s
      (((if ((s.commitPending p).port p).pulseUntil.isSome then s.commitPending p
        else (s.commitPending p).openWindow p).planPulse p).settleCut b) := by
  show execHostIdlePoint p s b = _
  rw [execHostIdlePoint, if_neg (by simp [hp, hguard, hidle, hpulse])]

theorem goes_resyncPulseEnd {s : State} {p d : Nat} (hpulse : (s.port p).pulseUntil = some d) (hd : d ≤ s.now) :
    Goes (.resyncPulseEnd p) s (((s.updPort p (fun x => { x with
      pulseUntil := none, dev0 := x.dev0.reset (s.port p).bank,
      dev1 := x.dev1.reset (s.port p).bank })).yieldEnd .guard 1 p).settle) := by
  show execResyncPulseEnd p s = _
  simp only [execResyncPulseEnd, hpulse, if_pos hd]

theorem goes_idleWindowEnd {s : State} {p : Nat} {w : Window} (hw : (s.port p).window = some w) (hopen : w.isOpen = true)
    (hover : w.openedAt + w.durationUs ≤ s.now ∨ s.windowWork p = false ∨ s.windowFits p = false) :
    Goes (.idleWindowEnd p) s (s.closeWindow p).settle := by
  show execIdleWindowEnd p s = _
  simp only [execIdleWindowEnd, hw]
  exact if_pos (by simpa [hopen, or_assoc] using hover)

/-- The event of a pending change of port p that has waited 1 s (R130). -/
def State.waitEvent (s : State) (p : Nat) : LogEv :=
  let q : Quantities := { cause := 1, index2 := (s.port p).pending.code, value := min (s.now - (s.port p).pendingSince) 0xFFFFFFFF }
  { code := 0x0204, rung := 6, cls := 1, idx := p, params := q.layout s.now, island := q.island }

theorem goes_idleWaitLog {s : State} {p : Nat} (hpending : (s.port p).pending ≠ .none) (hlogged : (s.port p).waitLogged = false)
    (hlate : (s.port p).pendingSince + 1000000 ≤ s.now) : Goes (.idleWaitLog p) s
      ((s.updPort p (fun x => { x with waitLogged := true })).report .guard (s.waitEvent p)) := by
  show execIdleWaitLog p s = _
  rw [execIdleWaitLog, if_neg (by simp [hpending, hlogged, hlate])]
  rfl

theorem goes_gapWaitExpiry {s : State} {p : Nat} (hp : p < 16) (hmode : (s.port p).mode = .gap) (hwork : s.urgentWork p = true)
    (hlate : s.gapExpired p = true) (hup : s.boot.controlUp = true) (hpending : (s.port p).pending ≠ .own) :
    Goes (.gapWaitExpiry p) s (s.setPending p .own) := by
  show execGapWaitExpiry p s = _
  exact if_pos (by simp [hp, hmode, hwork, hlate, hup, hpending])

/-! ### Supplies (R529) -/

/-- s with the host's supply of port p lost: both chip selects read high. -/
def State.loseHost (s : State) (p : Nat) : State :=
  s.updPort p (fun x => { x with hVddioOk := false, csLow0 := false, csLow1 := false, csHighSince := s.now })

section Supplies
variable {s : State} {p : Nat} (hp : p < 16) (hguard : s.boot.guardUp = true)
include hp hguard

theorem goes_fVddioLoss {t : State} (ht : t = s.updPort p (fun x => { x with fVddioLost := true, fVddioOk := false })) :
    Goes (.fVddioLoss p) s ((t.portDevices p).foldl (fun t d => t.enterResync d 6) t).settle := by
  subst ht
  show execFVddioLoss p s = _
  exact if_neg (by simp [hp, hguard])

theorem goes_vddioInRange_host : Goes (.vddioInRange p false) s (s.updPort p (fun x => { x with hVddioOk := true })) :=
  if_neg (by simp [hp, hguard])

theorem goes_vddioInRange_flash : Goes (.vddioInRange p true) s
    (((s.updPort p (fun x => { x with fVddioOk := true })).planPulse p).settle) :=
  if_neg (by simp [hp, hguard])

theorem goes_hVddioLoss_of_idle (hcmd : (s.port p).cmd = none) (hother : (s.port p).other = none) :
    Goes (.hVddioLoss p) s (s.loseHost p) := by
  show execHVddioLoss p s = _
  rw [execHVddioLoss, if_neg (by simp [hp, hguard])]
  simp only [hcmd, hother]
  rfl

/-- Without the host's supply every command under way ends, and none is a violation. -/
theorem goes_hVddioLoss_of_some {c : HostCmd} {cs : List HostCmd} (hcmds : [(s.port p).cmd, (s.port p).other].filterMap id = c :: cs) :
    Goes (.hVddioLoss p) s ((c :: cs).foldl (fun t c => t.endCommand p c 0 true) (s.loseHost p)).settle := by
  show execHVddioLoss p s = _
  rw [execHVddioLoss, if_neg (by simp [hp, hguard])]
  simp only [hcmds]
  rfl

end Supplies

/-! ### The statements -/

/-- Settles O9: on a port without a bound device each of the two commands ends at its first test. -/
theorem unguardedPortsAreRefused : Obligations.UnguardedPortsAreRefused := by
  unfold Obligations.UnguardedPortsAreRefused
  exact ⟨fun s h p a hr hp ha hnone => reads_portStatus_of_unguarded hp hr ha hnone,
    fun s h p d hr hp hmin hmax hnone => reads_portIdleWindow_of_unguarded hp hr hmin hmax hnone⟩

/-- Settles O10: the started command finds the port as it was, and each test of PORT_IDLE_WINDOW in turn decides. -/
theorem portCommandsComplete : Obligations.PortCommandsComplete := by
  unfold Obligations.PortCommandsComplete
  refine ⟨fun s h p a hr hp ha hguarded => reads_portStatus hp hr ha hguarded, fun s h p d hr hp hmin hmax hguarded => ?_⟩
  exact ⟨reads_portIdleWindow_of_declared hp hr hmin hmax hguarded, reads_portIdleWindow_of_own hp hr hmin hmax hguarded,
    reads_portIdleWindow_of_no_work hp hr hmin hmax hguarded, goes_portIdleWindow hp hr hmin hmax hguarded⟩

/-- Settles O11: what blocks a new command decides the fall, how the decoders differ decides the edge, and the command of the
chip select the rise. That a chip select which falls beside the other's command has one of its own is the model's choice (log
entry 42). -/
theorem hostCommandsPassThroughPorts : Obligations.HostCommandsPassThroughPorts := by
  unfold Obligations.HostCommandsPassThroughPorts
  refine ⟨fun s t p k c hp hk hguard hsupply ht hc => ?_, fun x c => Port.cmdOf_beginCmd,
    fun s p r hd fd late m hsupply => ⟨goes_hostSckEdge_of_idle r hd fd late m, fun c c' t hcmd hc' ht => ?_⟩,
    fun s t p k n hp hk hsupply ht => ?_⟩
  · subst ht hc
    have hfall {b : Nat} (hb : s.blocks p k = b) (hne : b ≠ 2) := goes_hostCsFall_of_blocks hp hk hguard hsupply hb hne
    have hintrusion {b : Bool} (hb : s.blocks p k = 2) (hw : s.inWindow p = b) :=
      goes_hostCsFall_of_intrusion hp hk hguard hsupply hb hw
    refine ⟨fun hown => hfall (State.blocks_of_own hown) (by decide), fun w hmode hw hopen => ?_, fun u hmode hclosed hpulse => ?_,
      fun hmode hclosed hpulse => ?_⟩
    · have hin : s.inWindow p = true := (State.inWindow_of_some hw).trans hopen
      exact hintrusion (State.blocks_of_window hmode hin) hin
    · exact hintrusion (State.blocks_of_pulse hmode (by simp [hpulse])) (State.inWindow_of_not_open hclosed)
    · have hgate : (if s.csReleased p k = true then 0 else 1) ≠ 2 := by split <;> decide
      exact hfall (State.blocks_of_gate hmode (State.inWindow_of_not_open hclosed) hpulse) hgate
  · subst ht
    subst hc'
    exact ⟨goes_hostSckEdge_of_agree r hd fd late hsupply hcmd rfl, goes_hostSckEdge_of_differ r hd fd late hsupply hcmd rfl⟩
  · subst ht
    exact ⟨goes_hostCsRise_of_idle n hp hk hsupply, fun c => goes_hostCsRise n hp hk hsupply⟩

/-- Settles O12: the stall that is due is marked, counted and recorded at rung 6, and the mark keeps it from being due again. -/
theorem clockStallIsRecordedOnce : Obligations.ClockStallIsRecordedOnce := by
  unfold Obligations.ClockStallIsRecordedOnce
  refine ⟨fun s p c hcmd hnew hlate hother => ⟨s.stallEvent p, _, rfl, ?_, rfl, ?_⟩,
    fun s p o hother hnew hlate hcmd => ⟨s.stallEvent p, _, rfl, ?_, rfl, ?_⟩⟩
  · exact goes_hostClockStall_of_cmd hcmd ((c.stallDue_iff _).2 ⟨hnew, hlate⟩) hother
  · exact goes_hostClockStall_of_none_due (by simp [HostCmd.stallDue]) (by simpa using hother)
  · exact goes_hostClockStall_of_other hother ((o.stallDue_iff _).2 ⟨hnew, hlate⟩) hcmd
  · exact goes_hostClockStall_of_none_due (by simpa using hcmd) (by simp [HostCmd.stallDue])

/-- Settles O13: each event meets one case of its row: its guard holds, and what the port holds chooses the next state. That the
loss of the host's supply ends each command as a rise of its chip select without a violation is the model's choice (log entry
45). -/
theorem portModeEventsComplete : Obligations.PortModeEventsComplete := by
  unfold Obligations.PortModeEventsComplete
  refine ⟨fun s p hp hguard hidle hpulse => ?_, fun s p d => goes_resyncPulseEnd, fun s p w => goes_idleWindowEnd,
    fun s p hpending hlogged hlate => ⟨s.waitEvent p, _, rfl, goes_idleWaitLog hpending hlogged hlate, rfl⟩,
    fun s p => goes_gapWaitExpiry, fun s t p hp hguard => goes_fVddioLoss hp hguard, fun s t p hp hguard ht => ?_,
    fun s p hp hguard => ⟨goes_vddioInRange_host hp hguard, goes_vddioInRange_flash hp hguard⟩⟩
  · have hgoes (b : Bool) := goes_hostIdlePoint b hp hguard hidle hpulse
    refine ⟨fun b hnone => ?_, fun b hsome => ?_⟩
    · simpa [hnone] using hgoes b
    · simpa [Option.isSome_iff_ne_none.2 hsome] using hgoes b
  · subst ht
    refine ⟨goes_hVddioLoss_of_idle hp hguard, fun c hcmd hother => ?_, fun c o hcmd hother => ?_⟩
    · exact goes_hVddioLoss_of_some hp hguard (c := c) (cs := []) (by simp [hcmd, hother])
    · exact goes_hVddioLoss_of_some hp hguard (c := c) (cs := [o]) (by simp [hcmd, hother])

end Sys2Proof.Machine
end

section
/-! SUPPORT. Chapter 6: the scans of a device, the tracker and the wear record, each row in the cases that its statement
names. -/
namespace Sys2Proof.Tab

/-- A run that changes each of some keys once, by what it held, leaves a key outside them and changes one among them. -/
theorem get_foldl_ins {α : Type} (g : Nat → α → α) (z : α) {ks : List Nat} (hks : ks.Nodup) (t : Tab α) (k : Nat) :
    (ks.foldl (fun t k => t.ins k (g k (t.get k z))) t).get k z = if k ∈ ks then g k (t.get k z) else t.get k z := by
  induction ks generalizing t with
  | nil => rfl
  | cons a ks ih =>
    obtain ⟨ha, hks⟩ := List.nodup_cons.1 hks
    rw [List.foldl_cons, ih hks]
    by_cases hk : k = a
    · subst hk
      simp [ha]
    · simp [hk, get_ins_ne _ _ _ hk]

end Sys2Proof.Tab

namespace Sys2Proof.Machine

/-! ### DEVICE_SCAN_START (R145 to R147, R228) -/

section ScanStart
variable {s : State} {d : Nat} (j f : Bytes) (hguard : s.boot.guardUp = true) (hd : d < 32)
  (hswap : (s.port (d / 2)).swapPending = false ∨ (s.port (d / 2)).mode ≠ .own) (hpulse : (s.port (d / 2)).pulseUntil = none)
include hguard hd hswap hpulse

/-- A START scan whose identification comes next takes its step, unless the decoders disagree. -/
theorem goes_deviceScanStart_ident {x : Scan} (hident : s.nextIdent d = some x) (b : Bool) : Goes (.deviceScanStart d j f b) s
    (if b then (s.ownDisagreement (d / 2) 0x9F).settleAll else s.identStep x j f) := by
  show execDeviceScanStart d j f s b = _
  rw [execDeviceScanStart, if_neg (by rcases hswap with h | h <;> simp [hguard, hd, h, hpulse])]
  simp only [hident]
  cases b <;> rfl

variable {x : Scan} (hident : s.nextIdent d = none) (hscan : s.nextScan d = some x)
include hident hscan

/-- The scan whose turn it is goes on by what the port drives and by its kind, unless the decoders disagree. -/
theorem execDeviceScanStart_scan (b : Bool) : execDeviceScanStart d j f s b =
    if b then .next (s.ownDisagreement (d / 2) (if s.drivesOwn (d / 2) && !x.identified then 0x9F else s.scanOpcode d)).settleAll
    else if !s.drivesOwn (d / 2) then .next (s.updScan x (fun y => { y with running := true, entryAt := none }))
    else if x.kind != .start then .next (s.identStep x j f)
    else if x.identified then .next (s.beginScan x)
    else .next s := by
  rw [execDeviceScanStart, if_neg (by rcases hswap with h | h <;> simp [hguard, hd, h, hpulse])]
  simp only [hident, hscan]

theorem goes_deviceScanStart_disagree : Goes (.deviceScanStart d j f true) s
    (s.ownDisagreement (d / 2) (if s.drivesOwn (d / 2) && !x.identified then 0x9F else s.scanOpcode d)).settleAll :=
  execDeviceScanStart_scan j f hguard hd hswap hpulse hident hscan true

theorem goes_deviceScanStart_outside_own (hdrives : s.drivesOwn (d / 2) = false) : Goes (.deviceScanStart d j f false) s
    (s.updScan x (fun y => { y with running := true, entryAt := none })) :=
  (execDeviceScanStart_scan j f hguard hd hswap hpulse hident hscan false).trans (by simp [hdrives])

theorem goes_deviceScanStart_own (hdrives : s.drivesOwn (d / 2) = true) (hkind : x.kind ≠ .start) :
    Goes (.deviceScanStart d j f false) s (s.identStep x j f) :=
  (execDeviceScanStart_scan j f hguard hd hswap hpulse hident hscan false).trans (by simp [hdrives, hkind])

theorem goes_deviceScanStart_checked (hdrives : s.drivesOwn (d / 2) = true) (hkind : x.kind = .start)
    (hchecked : x.identified = true) : Goes (.deviceScanStart d j f false) s (s.beginScan x) :=
  (execDeviceScanStart_scan j f hguard hd hswap hpulse hident hscan false).trans (by simp [hdrives, hkind, hchecked])

end ScanStart

/-! ### The reset and the reads of a scan's part (R145 to R147) -/

theorem State.identStep_of_no_reset {s : State} {x : Scan} (j f : Bytes) (hreset : x.resetAt = none) :
    s.identStep x j f = s.beginReset x := by
  simp only [State.identStep, hreset]

theorem State.identStep_of_recovered {s : State} {x : Scan} (j f : Bytes) {t : Nat} (hreset : x.resetAt = some t) (ht : t ≤ s.now)
    (hconfirmed : (s.shadow x.device).confirm = false) : s.identStep x j f = s.scanIdentified x j f := by
  simp only [State.identStep, hreset]
  exact if_neg (by simp [ht, hconfirmed])

section Identified
variable {s : State} {x : Scan} {j f : Bytes}

/-- s with the result of the SFDP check in the shadow, and the reads that gave it sent. -/
def State.identRead (s : State) (x : Scan) (j f : Bytes) : State :=
  (s.updShadow x.device (fun y => { y with sfdp := sfdpResult (s.port (x.device / 2)).bank j f })).sendFlash
    (identXfers x.device (s.port (x.device / 2)).bank.resetIface)

theorem State.scanIdentified_of_wrong_part (hwrong : sfdpResult (s.port (x.device / 2)).bank j f ≠ .matches) :
    s.scanIdentified x j f = ((s.identRead x j f).wrongPart x).beginStarts (x.device / 2) :=
  if_pos (bne_iff_ne.2 hwrong)

variable (hmatch : sfdpResult (s.port (x.device / 2)).bank j f = .matches)
include hmatch

theorem State.scanIdentified_of_start (hkind : x.kind = .start) :
    s.scanIdentified x j f = ((s.identRead x j f).updScan x (fun y => { y with identified := true })).beginStarts (x.device / 2) :=
  (if_neg (by simp [hmatch])).trans (if_pos (by simp [hkind]))

theorem State.scanIdentified_of_later (hkind : x.kind ≠ .start) : s.scanIdentified x j f = (s.identRead x j f).beginScan x :=
  (if_neg (by simp [hmatch])).trans (if_neg (by simp [hkind]))

end Identified

/-! ### DEVICE_SCAN_END (R228 to R230) -/

section ScanEnd
variable {s : State} {d : Nat} (r : List (Nat × Bytes)) {x : Scan}
  (hrun : s.fit.scans.find? (fun x => x.device == d && x.running) = some x) (hentry : x.entryAt = none)
  (hserved : s.scanServed x = true)
include hrun hentry hserved

theorem goes_deviceScanEnd_disagree :
    Goes (.deviceScanEnd d r true) s (s.ownDisagreement (d / 2) (s.scanOpcode d)).settleAll := by
  show execDeviceScanEnd d r s true = _
  simp only [execDeviceScanEnd, hrun, hentry, hserved]
  rfl

/-- The blocks that a scan read are counted in the window and sent; the scan ends when none of its blocks is left. -/
theorem goes_deviceScanEnd {u t : State} {y : Scan} (hread : (s.flushFit d).scanRead x r = (u, y))
    (ht : t = (u.updPort (d / 2) (fun p => { p with window := p.window.map (fun w =>
      { w with operations := w.operations + (y.done.drop x.done.length).length }) })).sendFlash
        (s.scanXfers x (y.done.drop x.done.length))) :
    Goes (.deviceScanEnd d r false) s (if t.scanBlocks y = [] then (t.endScan y).drainTaps
      else t.updScan x (fun _ => { y with running := t.drivesOwn (d / 2) || t.fitsWindow d (t.scanOpcode d) })) := by
  subst ht
  show execDeviceScanEnd d r s false = _
  simp only [execDeviceScanEnd, hrun, hentry, hserved, hread, List.isEmpty_iff]
  exact (apply_ite Host.Outcome.next _ _ _).symm

end ScanEnd

/-! ### REFRESH and VERIFY (R230) -/

theorem goes_refreshRequest {s : State} {d : Nat} (hup : s.boot.forgeUp = true) (hvalid : s.deviceValid d = true)
    (hinterval : fld (s.deviceRec d) 12 4 ≠ 0) (hstale : (s.flashRec d).staleCount ≠ 0)
    (hlate : (s.flashRec d).oldestStale + fld (s.deviceRec d) 12 4 * 1000000 < s.now) :
    Goes (.refreshRequest d) s ((s.queueScan { kind := .refresh, device := d }).pauseForCap.planPort (d / 2)) := by
  show execRefreshRequest d s = _
  exact if_pos (by simp [hup, hvalid, hinterval, hstale, hlate])

theorem goes_verifyRequest {s : State} {d : Nat} (hup : s.boot.forgeUp = true) (hvalid : s.deviceValid d = true)
    (hinterval : fld (s.deviceRec d) 16 4 ≠ 0) (hlate : s.fit.verifyAt.get d 0 + fld (s.deviceRec d) 16 4 ≤ s.emb.opSeconds) :
    Goes (.verifyRequest d) s
      ((({ s with fit := { s.fit with verifyAt := s.fit.verifyAt.set d 0 s.emb.opSeconds } } : State).queueScan
        { kind := .verify, device := d }).pauseForCap.planPort (d / 2)) := by
  show execVerifyRequest d s = _
  exact if_pos (by simp [hup, hvalid, hinterval, hlate])

/-! ### The tracker (R222, R232) -/

theorem goes_fitLeafEvent {s t : State} {e : FitEv} {rest : List FitEv} (ht : t = s.drainTaps) (hevents : t.fit.events = e :: rest) :
    Goes .fitLeafEvent s (({ t with fit := { t.fit with events := rest } } : State).applyFit e) := by
  subst ht
  show execFitLeafEvent s = _
  simp only [execFitLeafEvent, hevents]

theorem goes_flashStateRecordUpdate {s : State} {d : Nat} (hdirty : s.fit.dirty.any (fun e => e.1 == d) = true) :
    Goes (.flashStateRecordUpdate d) s (s.updateRecord d).settle :=
  if_pos hdirty

/-! ### The wear rings (R240) -/

/-- The bound devices (R240). -/
def State.boundDevices (s : State) : List Nat := (List.range 32).filter (fun d => (s.deviceSlot d).isSome)

/-- The wear ring of a device with the present highest wear count at its head. -/
def State.wearEntered (s : State) (d : Nat) (ring : List (Nat × Nat)) : List (Nat × Nat) :=
  ((s.emb.opSeconds, (s.wearMax d).1) :: ring).take 32

/-- The wear rings with one more entry for each bound device. -/
def State.wearRings (s : State) : Tab (List (Nat × Nat)) :=
  s.boundDevices.foldl (fun r d => r.ins d (s.wearEntered d (r.get d []))) s.fit.rings

theorem State.get_wearRings {s : State} {d : Nat} (hd : d < 32) (hbound : (s.deviceSlot d).isSome = true) :
    s.wearRings.get d [] = s.wearEntered d (s.fit.rings.get d []) := by
  have hmem : d ∈ s.boundDevices := by simp [State.boundDevices, hd, hbound]
  have hnodup : s.boundDevices.Nodup := List.nodup_range.filter _
  rw [State.wearRings, Tab.get_foldl_ins s.wearEntered [] hnodup, if_pos hmem]

theorem goes_wearDailyRecord {s : State} (hup : s.boot.forgeUp = true) (hdue : s.fit.lastDaily + 86400 ≤ s.emb.opSeconds) :
    Goes .wearDailyRecord s { s with fit := { s.fit with rings := s.wearRings, lastDaily := s.emb.opSeconds } } := by
  show execWearDailyRecord s = _
  exact if_pos ⟨hup, hdue⟩

/-- Settles O20: each event meets one case of its row: its guard holds, and what the scan, the port or the part's answer is
chooses the next state; the run over the bound devices enters each ring once. That a scan takes a part of its blocks and goes on
(log entry 46), and that an operand of these rows says whether the decoders disagree (log entry 74), is the model's choice. -/
theorem measurementEventsComplete : Obligations.MeasurementEventsComplete := by
  unfold Obligations.MeasurementEventsComplete
  refine ⟨fun s d j f x hguard hd hswap hpulse => ⟨fun hident => ?_, fun hident hscan => ?_⟩,
    fun s x j f => ⟨State.identStep_of_no_reset j f, fun t => State.identStep_of_recovered j f⟩,
    fun s x j f t ht => ?_, fun s d r x u y new t hrun hentry hserved hread hnew ht => ?_, fun s d => goes_refreshRequest,
    fun s d => goes_verifyRequest, fun s t e rest => goes_fitLeafEvent, fun s d => goes_flashStateRecordUpdate,
    fun s hup hdue => ⟨_, goes_wearDailyRecord hup hdue, rfl, rfl, fun d => State.get_wearRings⟩⟩
  · exact ⟨goes_deviceScanStart_ident j f hguard hd hswap hpulse hident false,
      goes_deviceScanStart_ident j f hguard hd hswap hpulse hident true⟩
  · exact ⟨goes_deviceScanStart_outside_own j f hguard hd hswap hpulse hident hscan,
      goes_deviceScanStart_own j f hguard hd hswap hpulse hident hscan,
      goes_deviceScanStart_checked j f hguard hd hswap hpulse hident hscan,
      goes_deviceScanStart_disagree j f hguard hd hswap hpulse hident hscan⟩
  · subst ht
    exact ⟨State.scanIdentified_of_wrong_part, State.scanIdentified_of_start, State.scanIdentified_of_later⟩
  · subst hnew
    have hend := goes_deviceScanEnd r hrun hentry hserved hread ht
    exact ⟨fun hnone => by simpa only [if_pos hnone] using hend, fun hsome => by simpa only [if_neg hsome] using hend,
      goes_deviceScanEnd_disagree r hrun hentry hserved⟩

end Sys2Proof.Machine
end

section
/-! SUPPORT. The events of recovery: positions, the two waits, staged and written blocks, and what a status byte of the port's
own read means, each in the cases of its row that its statement names. -/
namespace Sys2Proof.Machine

/-! ### OPERATION_POSITION_GRANT (R374, R383) -/

section Grant
variable {s : State} {d : Nat} {o : RfuOp} (ms : List (Nat × Bytes)) (v : Nat) (hop : s.rfuOp d = some o)
  (hup : s.boot.controlUp = true)
include hop hup

theorem goes_operationPositionGrant_of_search (hphase : o.phase = .search) :
    Goes (.operationPositionGrant d ms v) s (s.ownDone (s.tryOwn.search d ms v).settleAll) := by
  show execOperationPositionGrant d ms s v = _
  simp [execOperationPositionGrant, hop, hup, hphase, ownRow]

/-- The operation whose turn it is takes the free position. -/
theorem goes_operationPositionGrant_of_idle {x : RfuOp} {p : Nat} (hphase : o.phase = .idle) (hturn : s.nextOp = some x)
    (hx : x.device = d) (hfree : s.freePosition = some p) :
    Goes (.operationPositionGrant d ms v) s (s.ownDone (s.tryOwn.beginOp d p ms v).settleAll) := by
  show execOperationPositionGrant d ms s v = _
  simp [execOperationPositionGrant, hop, hup, hphase, hturn, hx, hfree, ownRow]

end Grant

/-! ### The waits for a source and for a cartridge (R376, R383, R406) -/

section Waits
variable {s : State} {d : Nat} {o : RfuOp} (hop : s.rfuOp d = some o) (hup : s.boot.controlUp = true)
include hop hup

theorem goes_sourceWaitTimeout (hphase : o.phase = .waitSource) (hlate : o.waitSince + s.sourceWait ≤ s.now) :
    Goes (.sourceWaitTimeout d) s (s.failOp d).settleAll := by
  show execSourceWaitTimeout d s = _
  simp only [execSourceWaitTimeout, hop]
  exact if_pos (by simp [hphase, hup, hlate])

theorem goes_cartridgeWaitTimeout (hphase : o.phase = .search) (hwant : o.wantDigest ≠ []) (hany : o.anySource = false)
    (hlate : o.waitSince + s.cartWait ≤ s.now) :
    Goes (.cartridgeWaitTimeout d) s (s.updOp d (fun o => { o with anySource := true, waitSince := 0 })) := by
  show execCartridgeWaitTimeout d s = _
  simp only [execCartridgeWaitTimeout, hop]
  exact if_pos (by simp [hphase, hwant, hany, hup, hlate])

end Waits

/-! ### BLOCK_STAGED (R379, R386) -/

/-- An operation stages while it has its source and some block is left to stage. -/
theorem State.staging_of_mem {s : State} {o : RfuOp} {i : Nat} (hphase : o.phase = .waitPort ∨ o.phase = .write)
    (hgoing : o.stopping = false) (hi : i ∈ s.toStage o) : s.staging o = true := by
  rcases hphase with h | h <;> simp [State.staging, h, hgoing, List.ne_nil_of_mem hi]

/-- s with block i of an operation fetched from its source: the address sent, and the cartridge used. -/
def State.fetchBlock (s : State) (o : RfuOp) (m : Manifest) (i n : Nat) : State :=
  let u : State := { s with io := { s.io with stagedFrom := some (if o.source = 0 then o.cartSlot else 4, o.blockAddr m i) } }
  if o.source = 0 then u.useCart o.cartSlot n else u

@[simp] theorem State.rfuOp_fetchBlock (s : State) (o : RfuOp) (m : Manifest) (i n d : Nat) :
    (s.fetchBlock o m i n).rfuOp d = s.rfuOp d := by
  simp only [State.fetchBlock, State.rfuOp]
  split <;> simp

/-- Operation o of device d, with manifest m, asks for block i: it stages from a source that answers, in host memory or in a
cartridge, with a staging buffer and a lane for its stream (R386). -/
structure State.Asks (s : State) (d : Nat) (o : RfuOp) (m : Manifest) (i : Nat) : Prop where
  op : s.rfuOp d = some o
  manifest : o.manifest = some m
  up : s.boot.controlUp = true
  phase : o.phase = .waitPort ∨ o.phase = .write
  source : o.source ≠ 2
  answers : o.source = 0 → (s.cart o.cartSlot).answers = true
  going : o.stopping = false
  block : i ∈ s.toStage o
  room : s.stageRoom ≠ 0
  lane : s.streamLane d ≠ none

section Staged
variable {s : State} {d i : Nat} {o : RfuOp} {m : Manifest} {b : Bytes} (x : Bool) (hasks : s.Asks d o m i)
include hasks

/-- A block that was asked for is staged when it matches its leaf, and is a read error otherwise. -/
theorem execBlockStaged_of_asked : execBlockStaged d i b s x =
    if b.length = 65536 ∧ leafOf b = m.leafAt i then .next (((s.fetchBlock o m i b.length).stage d i b).settleCut x)
    else .next ((s.fetchBlock o m i b.length).readError d i).settleAll := by
  obtain ⟨hop, hm, hup, hphase, hsource, hanswers, hgoing, hi, hroom, hlane⟩ := hasks
  have hstaging := State.staging_of_mem hphase hgoing hi
  have hguard : ¬ (!s.boot.controlUp ∨ !s.staging o ∨ o.source = 2 ∨ !(s.toStage o).contains i ∨ s.stageRoom = 0 ∨
      (s.streamLane d).isNone ∨ (o.source = 0 ∧ !(s.cart o.cartSlot).answers)) := by
    simpa [hup, hstaging, hsource, hi, hroom, hlane] using hanswers
  simp only [execBlockStaged, hop, hm, if_neg hguard]
  rfl

theorem goes_blockStaged_of_match (hmatch : b.length = 65536 ∧ leafOf b = m.leafAt i) :
    Goes (.blockStaged d i b x) s (((s.fetchBlock o m i b.length).stage d i b).settleCut x) :=
  (execBlockStaged_of_asked x hasks).trans (if_pos hmatch)

variable (hbad : ¬ (b.length = 65536 ∧ leafOf b = m.leafAt i))
include hbad

/-- A second failure of a block abandons the source (R386). -/
theorem goes_blockStaged_of_reread (hreread : o.reread = some i) :
    Goes (.blockStaged d i b x) s ((s.fetchBlock o m i b.length).abandonSource d).settleAll := by
  have herror : (s.fetchBlock o m i b.length).readError d i = (s.fetchBlock o m i b.length).abandonSource d := by
    simp [State.readError, hasks.op, hreread]
  exact herror ▸ (execBlockStaged_of_asked x hasks).trans (if_neg hbad)

theorem goes_blockStaged_of_first_failure (hreread : o.reread ≠ some i) : Goes (.blockStaged d i b x) s
    ((s.fetchBlock o m i b.length).updOp d (fun o => { o with reread := some i })).settleAll := by
  have herror : (s.fetchBlock o m i b.length).readError d i =
      (s.fetchBlock o m i b.length).updOp d (fun o => { o with reread := some i }) := by
    simp [State.readError, hasks.op, hreread]
  exact herror ▸ (execBlockStaged_of_asked x hasks).trans (if_neg hbad)

end Staged

/-! ### BLOCK_DONE_MARK (R393) -/

/-- s with the done-mark of block i set, and its data dropped. -/
def State.markDone (s : State) (d i : Nat) : State :=
  let t := s.updJournal d (fun j => { j with
    done := j.set.filter (fun x => j.done.contains x || x == i), doneCount := j.doneCount + 1 })
  ({ t with rfu := { t.rfu with blocksWritten := satAdd 32 t.rfu.blocksWritten 1 } } : State).updOp d
    (fun o => { o with writing := none, pages := 0, blockDone := false, staged := o.staged.filter (fun x => x.block != i) })

theorem goes_blockDoneMark {s : State} {d i : Nat} {o : RfuOp} (x : Bool) (hop : s.rfuOp d = some o) (hwriting : o.writing = some i)
    (hdone : o.blockDone = true) (hup : s.boot.controlUp = true) : Goes (.blockDoneMark d x) s
      ((if o.stopping then (s.markDone d i).endOp d .aborted else s.markDone d i).settleCut x) := by
  show execBlockDoneMark d s x = _
  simp only [execBlockDoneMark, hop, hwriting, hdone, hup]
  rfl

/-! ### FLASH_STATUS_POLL (R129, R132) -/

theorem goes_flashStatusPoll {s : State} {d : Nat} (v : Nat) (hd : d < 32) (hguard : s.boot.guardUp = true) (b : Bool) :
    Goes (.flashStatusPoll d v b) s (if b then (s.ownDisagreement (d / 2) ((s.port (d / 2)).bank.opcodeOf 17)).settleAll
      else (s.pollStatus d v).settleAll) := by
  show execFlashStatusPoll d v s b = _
  rw [execFlashStatusPoll, if_neg (by simp [hd, hguard])]
  cases b <;> rfl

@[simp] theorem State.port_readStatus (s : State) (d : Nat) (i : Iface) (p : Nat) : (s.readStatus d i).port p = s.port p := by
  simp [State.readStatus, State.port]

@[simp] theorem Port.bank_updDev (x : Port) (k : Nat) (f : Shadow → Shadow) : (x.updDev k f).bank = x.bank := by
  unfold Port.updDev
  split <;> rfl

@[simp] theorem State.bank_updShadow (s : State) (d : Nat) (f : Shadow → Shadow) (p : Nat) :
    ((s.updShadow d f).port p).bank = (s.port p).bank := by
  by_cases hp : p = d / 2
  · subst hp
    simp only [State.updShadow, State.port_updPort_same]
    exact Port.bank_updDev _ _ _
  · rw [State.updShadow, State.port_updPort_ne _ _ hp]

/-- Where a device's status shows write-in-progress is read from the bank of its port alone. -/
theorem State.wip_congr {s t : State} {p : Nat} (h : (t.port p).bank = (s.port p).bank) (v : Nat) : t.wip p v = s.wip p v := by
  simp only [State.wip, h]

/-- A status byte with write-in-progress clear confirms the software reset (R129). -/
theorem State.pollConfirm_of_ready {s : State} {d v : Nat} (hvalid : statusValid v = true) (hwip : s.wip (d / 2) v = false) :
    s.pollConfirm d v = s.updShadow d (fun x => { x with confirm := false }) := by
  have hclear := (State.wip_congr (s.bank_updShadow d (fun x => { x with confirm := false }) (d / 2)) v).trans hwip
  exact if_pos (by simp [hvalid, hclear])

/-- A reset that waits for its confirmation takes every status read of its device, once the recovery time is over. -/
theorem State.pollStatus_of_confirm {s : State} {d : Nat} (v : Nat) (hconfirm : (s.shadow d).confirm = true)
    (hrecovered : (s.shadow d).confirmFrom ≤ s.now) :
    s.pollStatus d v = (s.readStatus d (s.port (d / 2)).bank.resetIface).pollConfirm d v :=
  (if_pos hconfirm).trans (if_neg (Nat.not_lt.2 hrecovered))

/-- Settles O44: each event meets one case of its row: its guard holds, and what the operation, the block read or the status
byte is chooses the next state. That an operand of these rows says whether the decoders disagree is the model's choice (log entry
74). -/
theorem recoveryEventsComplete : Obligations.RecoveryEventsComplete := by
  unfold Obligations.RecoveryEventsComplete
  refine ⟨fun s d o ms v hop hup => ⟨goes_operationPositionGrant_of_search ms v hop hup,
      fun x p => goes_operationPositionGrant_of_idle ms v hop hup⟩,
    fun s d o hop hup => ⟨goes_sourceWaitTimeout hop hup, goes_cartridgeWaitTimeout hop hup⟩,
    fun s t u d o m i b x hop hm hup hphase hsource hanswers hgoing hi hroom hlane hu ht => ?_,
    fun s t u d o i x hop hwriting hdone hup ht hu => ?_,
    fun s d v hd hguard => ⟨goes_flashStatusPoll v hd hguard false, goes_flashStatusPoll v hd hguard true⟩,
    fun s d v hconfirm hrecovered hvalid hwip => ?_⟩
  · subst ht hu
    have hasks : s.Asks d o m i := ⟨hop, hm, hup, hphase, hsource, hanswers, hgoing, hi, hroom, hlane⟩
    exact ⟨fun hlength hleaf => goes_blockStaged_of_match x hasks ⟨hlength, hleaf⟩, goes_blockStaged_of_reread x hasks,
      goes_blockStaged_of_first_failure x hasks⟩
  · subst hu ht
    exact goes_blockDoneMark x hop hwriting hdone hup
  · rw [State.pollStatus_of_confirm v hconfirm hrecovered]
    exact State.pollConfirm_of_ready hvalid ((State.wip_congr (by simp) v).trans hwip)

end Sys2Proof.Machine
end

section
/-! SUPPORT. The address verdict of a program and of a sized erase: the entries that decide it, and how it denies. -/
namespace Sys2Proof.Machine

/-- Every 4 KiB granule of a run has an attribute exactly when none is found that lacks it. -/
theorem Bank.lacking_eq_none_iff (b : Bank) (k addr n bit : Nat) :
    b.lacking k addr n bit = none ↔ ∀ g, g < n → hasAttr (b.arrayAt k (addr + 4096 * g)) bit = true := by
  simp [Bank.lacking]

/-- A suspended erase covers the 64 KiB block of an address (R139). -/
def Shadow.suspends (x : Shadow) (addr : Nat) : Bool :=
  (x.susp == .erase || x.susp == .both) && addr / 65536 == x.suspAddr / 65536

theorem Shadow.suspends_iff (x : Shadow) (addr : Nat) :
    x.suspends addr = true ↔ (x.susp = .erase ∨ x.susp = .both) ∧ addr / 65536 = x.suspAddr / 65536 := by
  simp [Shadow.suspends]

/-- The ARRAY address that a command with its address captured names, within the device. -/
def HostCmd.arrayAddr (c : HostCmd) (b : Bank) (w : Nat) : Nat := c.addr * 2 ^ (w - c.addrBits) % b.size

section Verdict
variable {c : HostCmd} {b : Bank} (x : Shadow) (w : Nat)

/-- The verdict on a program: its start address alone is looked at (R139, R179). -/
theorem HostCmd.addrVerdict_of_program (hcls : (b.entry c.opcode).cls = 2) : (c.addrVerdict b x w).verdict =
    if x.suspends (c.arrayAddr b w) then .denied 1
    else if hasAttr (b.arrayAt c.cs (c.arrayAddr b w)) 2 then .allowed else .denied 1 := by
  simp only [HostCmd.addrVerdict, if_pos hcls, apply_ite HostCmd.verdict, HostCmd.deny]
  rfl

/-- The verdict on a sized erase: the first granule that lacks ERASE denies it (R179). -/
theorem HostCmd.addrVerdict_of_erase {n : Nat} (hcls : (b.entry c.opcode).cls ≠ 2) (hn : n = eraseLen (b.entry c.opcode).eraseSize) :
    (c.addrVerdict b x w).verdict =
      if b.lacking c.cs (c.arrayAddr b w / n * n) (n / 4096) 3 = none then .allowed else .denied 1 := by
  subst hn
  simp only [HostCmd.addrVerdict, if_neg hcls, HostCmd.arrayAddr]
  split
  · next r hr => simp [hr, HostCmd.deny]
  · next hr => simp [hr]

end Verdict

/-- Settles O14: a program meets two tests at its start address, and a sized erase the search for a granule without ERASE. -/
theorem regionVerdictsFollowTheGranules : Obligations.RegionVerdictsFollowTheGranules := by
  unfold Obligations.RegionVerdictsFollowTheGranules
  refine ⟨fun c b x w hcls _ => ?_, fun c b x w n hcls hn _ => ?_⟩
  · rw [HostCmd.addrVerdict_of_program x w hcls, ← Shadow.suspends_iff, ← HostCmd.arrayAddr]
    cases x.suspends (c.arrayAddr b w) <;> simp
  · rw [HostCmd.addrVerdict_of_erase x w hcls hn, ← HostCmd.arrayAddr, ← Bank.lacking_eq_none_iff]
    by_cases hnone : b.lacking c.cs (c.arrayAddr b w / n * n) (n / 4096) 3 = none <;> simp [hnone]

end Sys2Proof.Machine
end

section
/-! SUPPORT. The epoch switch: a port's swap of its banks, and the limit of the commit that waits for it. -/
namespace Sys2Proof.Machine

/-- A port whose swap is pending swaps in OWN, in an open window, or with both host chip selects high (R165, R167). -/
theorem goes_portEpochSwap {s : State} {p : Nat} (hp : p < 16) (hpending : (s.port p).swapPending = true)
    (hguard : s.boot.guardUp = true) (hmay : (s.port p).mode = .own ∨ (s.port p).hostIdle = true ∨
      ∃ w, (s.port p).window = some w ∧ w.isOpen = true) :
    Goes (.portEpochSwap p) s ((s.swapPort p).switchDone).settleAll := by
  show execPortEpochSwap p s = _
  refine if_pos ⟨hp, hpending, hguard, ?_⟩
  rcases hmay with hown | hidle | ⟨w, hw, hopen⟩
  · simp [hown]
  · simp [hidle]
  · simp [hw, hopen]

/-- A commit that still waits 1 s after its commit point ends, and the switch goes on (R169). -/
theorem goes_policyCommitTimeout {s : State} {h : Hdr} (hwaiter : s.pol.waiter = some h) (hlate : s.pol.waitUntil ≤ s.now) :
    Goes .policyCommitTimeout s (complete h { err 0x0442 s.commitResult with carriedOut := true }
      { s with pol := { s.pol with waiter := none } }) := by
  show execPolicyCommitTimeout s = _
  simp only [execPolicyCommitTimeout, hwaiter, if_pos hlate]

/-- Settles O16: each event meets its guard. -/
theorem epochSwitchEventsComplete : Obligations.EpochSwitchEventsComplete := by
  unfold Obligations.EpochSwitchEventsComplete
  exact ⟨fun s p hp hpending hguard hmay => goes_portEpochSwap hp hpending hguard hmay,
    fun s h hwaiter hlate => goes_policyCommitTimeout hwaiter hlate⟩

end Sys2Proof.Machine
end

section
/-! SUPPORT. The policy and violation commands of Table 5-15: the policy store's slots, and what each command carries out. -/
namespace Sys2Proof.Machine

/-! ### The slots of the policy store (R160) -/

@[simp] theorem State.polSlot_putSlot_otherSlot (s : State) (i : Option Image) :
    (s.putSlot s.otherSlot i).polSlot s.otherSlot = i := by
  simp only [State.polSlot, State.putSlot]
  split <;> rfl

@[simp] theorem State.committed_putSlot (s : State) (k : Nat) (i : Option Image) :
    (s.putSlot k i).pol.committed = s.pol.committed := by
  simp only [State.putSlot]
  split <;> rfl

/-- The state in which the write of a checked image is complete. -/
def State.stageWritten (s : State) (img : Image) : State :=
  { s.putSlot s.otherSlot (some img) with
    pol := { (s.putSlot s.otherSlot (some img)).pol with staging := none, writing := none } }

theorem State.serveStage_of_writing {s : State} {h : Hdr} {img : Image} (hw : s.pol.writing = some (h, img)) :
    s.serveStage = complete h (ok (le 8 img.serial)) (s.stageWritten img) := by
  simp only [State.serveStage, hw, State.stageWritten]

theorem State.polSlot_beginWrite (s : State) (h : Hdr) (img : Image) : (s.beginWrite h img).polSlot s.otherSlot = none :=
  s.polSlot_putSlot_otherSlot none

theorem State.polSlot_stageWritten (s : State) (img : Image) : (s.stageWritten img).polSlot s.otherSlot = some img :=
  s.polSlot_putSlot_otherSlot (some img)

/-! ### POLICY_STAGE (R159, R160) -/

/-- A ready command leaves what its body leaves, and ends exactly when the body answers a reply. -/
theorem command_of_body {op : Op} {h : Hdr} {s t : State} {o : Option Reply} {body : Hdr → State → Option Reply × State}
    (hr : Ready s h op) (hb : body (s.stamp h) (s.started h) = (o, t)) :
    command op h true s body = o.elim t (fun r => complete (s.stamp h) r t) := by
  cases o with
  | none => exact command_goes hr hb
  | some r => exact command_ends hr hb

/-- s with no POLICY_STAGE reading its image. -/
def State.forgetStaging (s : State) : State := { s with pol := { s.pol with staging := none } }

section PolicyStage
variable {s t : State} {h : Hdr} {n a w st : Nat} {d r : Bytes} {img : Image}
  (hr : Ready s h (opPolicyStage.on (zeros 4 ++ le 4 n ++ le 8 a))) (ha : s.readAddrOk h a n = true)
  (hlive : (s.started h).stageLive = false) (hswap : s.swapping = false) (htrans : s.transitionPending = false)
  (hjudge : (s.started h).tryOwn.forgetStaging.judgeImage false ((s.inputOf h a n d).take n) w = ((st, r, img), t))
include hr ha hlive hswap htrans hjudge

/-- POLICY_STAGE goes by the verdict on its image once no other stage runs and no switch or transition is under way. -/
theorem execPolicyStage_of_judged {o : Option Reply} {u : State} (hverdict : (if st ≠ 0 then (some (err st r), t)
      else (none, t.beginWrite (s.stamp h) img)) = (o, u)) (hlane : u.waitsLane = false) : execPolicyStage h n a d s w =
    .next (o.elim ((s.started h).ownDone u) (fun r => complete (s.stamp h) r ((s.started h).ownDone u))) := by
  simp only [execPolicyStage, ha]
  refine congrArg _ (command_of_body hr (ownBody_of_not_waitsLane ?_ hlane))
  have hlive' : (s.started h).tryOwn.stageLive = false := hlive
  have hswap' : (s.started h).tryOwn.forgetStaging.swapping = false := (s.swapping_started h).trans hswap
  have htrans' : (s.started h).tryOwn.forgetStaging.transitionPending = false := (s.transitionPending_started h).trans htrans
  simp only [State.forgetStaging] at hjudge hswap' htrans'
  simpa only [hlive', hswap', htrans', hjudge, Bool.false_and, Bool.false_eq_true, if_false] using hverdict

/-- An image that passes every check begins to be written. -/
theorem goes_policyStage_of_passes (hlane : t.waitsLane = false) (hst : st = 0) :
    Goes (.policyStage h n a d w) s ((s.started h).ownDone (t.beginWrite (s.stamp h) img)) :=
  execPolicyStage_of_judged (o := none) hr ha hlive hswap htrans hjudge (if_neg (fun hne => hne hst))
    ((State.waitsLane_congr (by simp)).trans hlane)

/-- An image that fails a check ends the command with that check's status. -/
theorem ends_policyStage_of_fails (hlane : t.waitsLane = false) (hst : st ≠ 0) :
    Ends (.policyStage h n a d w) h (err st r) s ((s.started h).ownDone t) :=
  execPolicyStage_of_judged (o := some (err st r)) hr ha hlive hswap htrans hjudge (if_pos hst) hlane

end PolicyStage

/-! ### POLICY_COMMIT and POLICY_DISCARD (R161, R162, R169) -/

section PolicyCommit
variable {s u : State} {h : Hdr} {f n : Nat} {img : Image}
  (hr : Ready s h (opPolicyCommit.on (le 1 f ++ zeros 3 ++ le 8 n))) (hf : f < 2) (hstaged : s.staged = some img)
  (hserial : img.serial = n) (hbusy : s.commitBusy img = false) (hswap : s.swapping = false)
  (htrans : s.transitionPending = false) (hu : u = ((s.started h).commitStaged img (f.testBit 0)).settleAll)
include hr hf hstaged hserial hbusy hswap htrans hu

/-- POLICY_COMMIT of the staged image goes by what its commit leaves to swap (R169). -/
theorem execPolicyCommit_of_staged {o : Option Reply} {v : State} (hswaps : (if u.swapping then
      (none, { u with pol := { u.pol with waiter := some (s.stamp h), waitUntil := u.now + 1000000 } })
      else (some (ok u.commitResult), u)) = (o, v)) :
    execPolicyCommit h f n s = .next (o.elim v (fun r => complete (s.stamp h) r v)) := by
  simp only [execPolicyCommit, hf, decide_true]
  refine congrArg _ (command_of_body hr ?_)
  simpa only [State.staged_started, State.commitBusy_started, State.swapping_started, State.transitionPending_started, hstaged,
    hserial, hbusy, hswap, htrans, ← hu, ne_eq, not_true_eq_false, Bool.false_eq_true, if_false] using hswaps

theorem ends_policyCommit_of_swapped (hswapped : u.swapping = false) : Ends (.policyCommit h f n) h (ok u.commitResult) s u :=
  execPolicyCommit_of_staged (o := some (ok u.commitResult)) hr hf hstaged hserial hbusy hswap htrans hu
    (if_neg (Bool.eq_false_iff.1 hswapped))

theorem goes_policyCommit_of_swapping (hswapping : u.swapping = true) : Goes (.policyCommit h f n) s
    { u with pol := { u.pol with waiter := some (s.stamp h), waitUntil := u.now + 1000000 } } :=
  execPolicyCommit_of_staged (o := none) hr hf hstaged hserial hbusy hswap htrans hu (if_pos hswapping)

end PolicyCommit

theorem ends_policyDiscard {s : State} {h : Hdr} {n : Nat} {img : Image} (hr : Ready s h (opPolicyDiscard.on (le 8 n)))
    (hstaged : s.staged = some img) (hserial : img.serial = n) :
    Ends (.policyDiscard h n) h ok s ((s.started h).putSlot s.otherSlot none) := by
  show execPolicyDiscard h n s = _
  simp [execPolicyDiscard, commandC_ready hr, hstaged, hserial]

/-! ### POLICY_STATUS, VIOLATION_COUNTS and VIOLATION_RESET (Table 5-15) -/

@[simp] theorem State.policyStatus_length (s : State) : s.policyStatus.length = 64 := by
  simp [State.policyStatus]

section Counts
variable {s : State} {h : Hdr}

theorem reads_policyStatus {a : Nat} (hr : Ready s h (opPolicyStatus.on (le 8 a))) (ha : s.writeAddrOk h a = true) :
    Reads (.policyStatus h a) h (okOut a s.policyStatus) s := by
  show execPolicyStatus h a s = _
  simp only [execPolicyStatus, ha, commandR_ready hr, State.policyStatus_started]

theorem reads_violationCounts {f n a : Nat} (hr : Ready s h (opViolationCounts.on (le 2 f ++ le 2 n ++ le 8 a)))
    (hrange : rangeOk f n 257 = true) (ha : s.writeAddrOk h a = true) :
    Reads (.violationCounts h f n a) h (okOut a ((List.range n).flatMap (fun i => s.ruleBytes (f + i)))) s := by
  show execViolationCounts h f n a s = _
  simp only [execViolationCounts, hrange, ha, Bool.and_true, commandR_ready hr, State.ruleBytes_started]

/-- s with the window count of rule n at 0. -/
def State.clearRule (s : State) (n : Nat) : State :=
  { s with pol := { s.pol with rules := s.pol.rules.upd n {} RuleCount.cleared } }

theorem ends_violationReset {n : Nat} (hr : Ready s h (opViolationReset.on (le 2 n))) (hn : n ≤ 256) :
    Ends (.violationReset h n) h ok s ((s.started h).clearRule n) := by
  show execViolationReset h n s = _
  simp only [execViolationReset, hn, decide_true, commandC_ready hr]
  rfl

theorem State.rules_clearRule_same (s : State) (n : Nat) :
    (s.clearRule n).pol.rules.get n {} = { s.pol.rules.get n {} with subs := [] } := Tab.get_upd_same _ _ _ _

theorem State.rules_clearRule_ne (s : State) {n m : Nat} (h : m ≠ n) :
    (s.clearRule n).pol.rules.get m {} = s.pol.rules.get m {} := Tab.get_upd_ne _ _ _ h

end Counts

/-- Settles O15: each command runs in one case of its row; a write touches only the slot that is not committed, and a cleared rule
keeps all but its window. That the slot holds no image until the write ends at a later tick is the model's choice (log entry 96). -/
theorem policyCommandsComplete : Obligations.PolicyCommandsComplete := by
  unfold Obligations.PolicyCommandsComplete
  refine ⟨fun s h n a d w st r img t u hr ha hlive hswap htrans hu hjudge hlane => ?_,
    fun s h img => ⟨s.polSlot_beginWrite h img, s.committed_putSlot _ _, rfl⟩,
    fun s h img hw => ⟨_, State.serveStage_of_writing hw, s.polSlot_stageWritten img, s.committed_putSlot _ _, rfl⟩,
    fun s h f n img u hr hf hstaged hserial hbusy hswap htrans hu =>
      ⟨ends_policyCommit_of_swapped hr hf hstaged hserial hbusy hswap htrans hu,
        goes_policyCommit_of_swapping hr hf hstaged hserial hbusy hswap htrans hu⟩,
    fun s h n img hr hstaged hserial => ends_policyDiscard hr hstaged hserial,
    fun s h a hr ha => ⟨s.policyStatus_length, reads_policyStatus hr ha⟩,
    fun s h f n a hr hrange ha => reads_violationCounts hr hrange ha,
    fun s h n hr hn => ⟨_, ends_violationReset hr hn, ?_⟩⟩
  · have hforget : u = (s.started h).tryOwn.forgetStaging := by
      rw [hu, State.forgetStaging, (State.tryOwn_keeps _).2.2.2.2.1, (s.started_keeps h).2.2.2.2.1]
    subst hforget
    exact ⟨goes_policyStage_of_passes hr ha hlive hswap htrans hjudge hlane,
      ends_policyStage_of_fails hr ha hlive hswap htrans hjudge hlane⟩
  · have hpol : (s.started h).pol = s.pol := by simp
    rw [State.rules_clearRule_same, hpol]
    exact ⟨rfl, rfl, rfl, fun m hm => by rw [State.rules_clearRule_ne _ hm, hpol]⟩

end Sys2Proof.Machine
end

section
/-! SUPPORT. Chapter 6's commands (Table 6-14): measurement, wear and the host digest contexts, each in the case of its row that
its statement names. -/
namespace Sys2Proof.Machine

/-! ### MEASURE_STATUS, LEAF_READ and MEASURE_SCAN (R242) -/

section Measurement
variable {s : State} {h : Hdr} {d f n a : Nat}

theorem reads_measureStatus (hr : Ready s h (opMeasureStatus.on (le 1 f ++ le 1 n ++ zeros 2 ++ le 8 a)))
    (hrange : rangeOk f n 32 = true) (ha : s.writeAddrOk h a = true) : Reads (.measureStatus h f n a) h
      (okOut a ((((List.range n).map (· + f)).filter (fun d => (s.deviceSlot d).isSome)).flatMap s.statusRecord)) s := by
  show execMeasureStatus h f n a s = _
  have hrecord : (s.started h).statusRecord = s.statusRecord := funext fun d => s.statusRecord_started h d
  simp only [execMeasureStatus, hrange, ha, Bool.and_true, commandR_ready hr, State.deviceSlot_started, hrecord]

/-- LEAF_READ of blocks that the device has copies their leaves. -/
theorem reads_leafRead (hr : Ready s h (opLeafRead.on (le 1 d ++ zeros 1 ++ le 2 f ++ le 2 n ++ zeros 2 ++ le 8 a)))
    (hrange : d < 32 ∧ 1 ≤ n ∧ n ≤ 8192) (ha : s.writeAddrOk h a = true) (hdevice : s.deviceStatus d f n = 0) :
    Reads (.leafRead h d f n a) h
      (okOut a ((List.range n).flatMap (fun i => s.leafEntry d (f + i))) (s.flashRoot d ++ [0, 0])) s := by
  show execLeafRead h d f n a s = _
  simp only [execLeafRead, hrange, and_self, decide_true, ha, Bool.and_true, commandR_ready hr, State.deviceStatus_started,
    hdevice, ne_eq, not_true_eq_false, if_false, State.leafEntry_started, State.flashRoot_started]

/-- The kind of scan that MEASURE_SCAN asks for. -/
def scanKindOf (k : Nat) : ScanKind := if k = 0 then .refresh else .verify

/-- MEASURE_SCAN of a kind that is not queued or running for the device queues the scan that it waits for. -/
theorem goes_measureScan {k : Nat} (hr : Ready s h (opMeasureScan.on (le 1 d ++ le 1 k ++ le 2 f ++ le 2 n)))
    (hrange : d < 32 ∧ k < 2 ∧ n ≤ 8192) (hdevice : s.deviceStatus d f (if n = 0 then s.deviceBlocks d else n) = 0)
    (hfree : s.fit.scans.any (fun x => x.kind == scanKindOf k && x.device == d) = false) :
    Goes (.measureScan h d k f n) s (((s.started h).queueScan
      { kind := scanKindOf k, device := d, first := f, count := n, waiters := [s.stamp h] }).pauseForCap.planPort (d / 2)) := by
  have hfit : (s.started h).fit = s.fit := by simp
  show execMeasureScan h d k f n s = _
  simp only [execMeasureScan, hrange, and_self, decide_true]
  refine congrArg _ (command_goes hr ?_)
  simp only [scanKindOf] at hfree ⊢
  simp only [State.deviceStatus_started, State.deviceBlocks_started, hdevice, hfit, hfree, ne_eq, not_true_eq_false,
    Bool.false_eq_true, if_false]

end Measurement

/-! ### WEAR_READ, WEAR_FORECAST and WEAR_RESET (R240, R242) -/

section Wear
variable {s : State} {h : Hdr} {d a : Nat}

theorem reads_wearRead {f n : Nat} (hr : Ready s h (opWearRead.on (le 1 d ++ zeros 1 ++ le 2 f ++ le 2 n ++ zeros 2 ++ le 8 a)))
    (hrange : d < 32 ∧ 1 ≤ n ∧ n ≤ 8192) (ha : s.writeAddrOk h a = true) (hdevice : s.deviceStatus d f n = 0) :
    Reads (.wearRead h d f n a) h (okOut a ((List.range n).flatMap (fun i => le 4 (s.wearOf d (f + i))))) s := by
  show execWearRead h d f n a s = _
  simp only [execWearRead, hrange, and_self, decide_true, ha, Bool.and_true, commandR_ready hr, State.deviceStatus_started,
    hdevice, ne_eq, not_true_eq_false, if_false, State.wearOf_started]

/-- The 32 bytes of a forecast of device d, from its ring, RATE and the time of the ring's newest entry. -/
def State.forecast (s : State) (d : Nat) (ring : List (Nat × Nat)) (rate last : Nat) : Bytes :=
  le 4 (s.wearMax d).1 ++ le 2 (s.wearMax d).2 ++ zeros 2 ++ le 4 rate ++
    le 4 (daysTo (s.ratedCycles d * s.wearPct d) (s.wearMax d).1 rate ring.length) ++
    le 4 (daysTo (s.ratedCycles d * 100) (s.wearMax d).1 rate ring.length) ++ le 4 ring.length ++ le 4 last ++ zeros 4

/-- WEAR_FORECAST computes from the ring, and draws a free value where the ring has fewer than two entries (log entry 3). -/
theorem ends_wearForecast {ring : List (Nat × Nat)} (hr : Ready s h (opWearForecast.on (le 1 d ++ zeros 3 ++ le 8 a)))
    (hd : d < 32) (ha : s.writeAddrOk h a = true) (hvalid : s.deviceValid d = true) (hring : s.fit.rings.get d [] = ring) :
    Ends (.wearForecast h d a) h (okOut a (s.forecast d ring
        (if ring.length < 2 then Config.freeValue s.draws % 2 ^ 32 else wearRate ring)
        ((ring.map Prod.fst).head?.getD (Config.freeValue s.draws % 2 ^ 32)))) s
      (if ring.length < 2 then (s.started h).drawn else s.started h) := by
  have hfit : (s.started h).fit = s.fit := by simp
  have hdraws : (s.started h).draws = s.draws := by simp
  show execWearForecast h d a s = _
  simp only [execWearForecast, hd, decide_true, ha, Bool.and_true]
  refine congrArg _ (commandC_ends hr ?_)
  simp only [State.deviceValid_started, hvalid, Bool.not_true, Bool.false_eq_true, if_false, hfit, hring, hdraws,
    State.wearMax_started, State.ratedCycles_started, State.wearPct_started]
  cases ring <;> rfl

/-- s with the counts and the ring of device d at 0, and its levels armed again. -/
def State.clearWear (s : State) (d : Nat) : State :=
  { s with fit := { s.fit with wear := s.fit.wear.filter (fun e => e.1 / 8192 != d), rings := s.fit.rings.del d,
                               wearLevel := s.fit.wearLevel.del d } }

/-- The state in which WEAR_RESET of device d has cleared its wear and logged the highest count that it had (log entry 20). -/
def State.wearReset (s : State) (d : Nat) : State :=
  (s.clearWear d).log .forge 0x0302 2 2 d { cause := 3, value := (s.wearMax d).1 }

@[simp] theorem State.fit_wearReset (s : State) (d : Nat) : (s.wearReset d).fit = (s.clearWear d).fit := by
  simp [State.wearReset]

/-- Clearing a device's wear changes the tracker and the Logbook alone. -/
theorem State.wearReset_only (s : State) (d : Nat) : { s.wearReset d with fit := s.fit, lgb := s.lgb } = s :=
  congrArg (fun t : State => { t with fit := s.fit }) ((s.clearWear d).log_only _ _ _ _ _ _)

theorem ends_wearReset (hr : Ready s h (opWearReset.on (le 1 d))) (hd : d < 32) (hvalid : s.deviceValid d = true) :
    Ends (.wearReset h d) h ok s ((s.started h).wearReset d) := by
  show execWearReset h d s = _
  simp only [execWearReset, hd, decide_true]
  refine congrArg _ (commandC_ends hr ?_)
  simp only [State.deviceValid_started, hvalid, Bool.not_true, Bool.false_eq_true, if_false]
  rfl

end Wear

/-! ### The host digest contexts (R207 to R211) -/

@[simp] theorem Context.feed_of_finished {c : Context} (b : Bytes) (hc : c.finished = true) :
    c.feed b = { c with fed := b, finished := false } := if_pos hc

@[simp] theorem Context.feed_of_not_finished {c : Context} (b : Bytes) (hc : c.finished = false) :
    c.feed b = { c with fed := c.fed ++ b } := if_neg (Bool.eq_false_iff.1 hc)

/-- Metering counts are no part of a context. -/
@[simp] theorem State.context_updCount (s : State) (q : Nat) (f : QCount → QCount) (n : Nat) :
    (s.updCount q f).context n = s.context n := by simp [State.context]

/-- The bytes of a descriptor list's fragments. -/
def listBytes (e : List (Nat × Nat × Nat)) : Nat := e.foldl (fun a d => a + d.2.1) 0

/-- s with n bytes metered to the queue of a source, and context k fed to be c. -/
def State.feedContext (s : State) (src : Src) (n k : Nat) (c : Context) : State :=
  (s.updCount (s.queueOf src) (fun x => { x with digestBytes := x.digestBytes + n })).setContext k (some c)

@[simp] theorem State.context_feedContext_same (s : State) (src : Src) (n k : Nat) (c : Context) :
    (s.feedContext src n k c).context k = some c := State.context_setContext_same _ k _

theorem State.context_feedContext_ne (s : State) (src : Src) (n : Nat) {k m : Nat} (c : Context) (h : m ≠ k) :
    (s.feedContext src n k c).context m = s.context m :=
  (State.context_setContext_ne _ _ h).trans (s.context_updCount _ _ m)

section DigestContexts
variable {s : State} {h : Hdr} {n a : Nat} {c : Context}

theorem ends_digestOpen {alg k o : Nat} (d : Bytes) (hr : Ready s h (opDigestOpen.on (le 1 alg ++ le 1 k ++ le 2 o ++ le 8 a)))
    (hok : digestOpenOk alg k o = true) (ha : k = 0 ∨ s.readAddrOk h a k = true)
    (hfree : (s.started h).freeContext ((s.started h).ctxOwner h.src) = some n) :
    Ends (.digestOpen h alg k o a d) h (ok (le 2 n)) s ((s.started h).setContext n
      (some { fn := (s.started h).ctxOwner h.src, alg := alg, key := fixLen k (s.inputOf h a k d), outLen := o })) := by
  have hkey : (k == 0 || s.readAddrOk h a k) = true := by simpa using ha
  show execDigestOpen h alg k o a d s = _
  simp only [execDigestOpen, hok, hkey, Bool.and_true]
  refine congrArg _ (commandC_ends hr ?_)
  simp only [State.stamp, hfree]

theorem ends_digestClose (hr : Ready s h (opDigestClose.on (le 2 n))) (hown : (s.started h).ownContext h.src n = some c) :
    Ends (.digestClose h n) h ok s ((s.started h).setContext n none) := by
  refine congrArg _ (commandC_ends hr ?_)
  simp only [State.stamp, hown]

/-- DIGEST_FINISH of a context writes its digest, and by its CLOSE flag leaves the context finished or closes it (R210). -/
theorem ends_digestFinish {f : Nat} (hr : Ready s h (opDigestFinish.on (le 2 n ++ le 1 f ++ zeros 5 ++ le 8 a))) (hf : f < 2)
    (ha : s.writeAddrOk h a = true) (hown : (s.started h).ownContext h.src n = some c)
    (hlane : (s.started h).laneFor (s.stamp h) = true) :
    Ends (.digestFinish h n f a) h (okOut a c.digest (le 2 c.length)) s
      ((s.started h).setContext n (if f.testBit 0 then none else some { c with finished := true })) := by
  have hown' : (s.started h).ownContext (s.stamp h).src n = some c := hown
  show execDigestFinish h n f a s = _
  simp only [execDigestFinish, hf, decide_true, ha, Bool.and_true]
  refine congrArg _ (command_ends hr ?_)
  simp only [hown', hlane, Bool.not_true, Bool.false_eq_true, if_false]

/-- DIGEST_UPDATE with a good descriptor list feeds the bytes of its fragments to the context that it names (R208, R211). -/
theorem ends_digestUpdate {k : Nat} {l : Bytes} {e : List (Nat × Nat × Nat)} (d : Bytes)
    (hr : Ready s h (opDigestUpdate.on (le 2 n ++ le 2 k ++ zeros 4 ++ le 8 a))) (hpos : 1 ≤ k) (hk : k ≤ 4096)
    (ha : s.readAddrOk h a (16 * k) = true) (he : e = descriptors k (s.inputOf h a (16 * k) l)) (hlist : descListOk e = true)
    (hinside : s.fragmentsOk h e = true) (hlane : (s.started h).laneFor (s.stamp h) = true)
    (hown : (s.started h).ownContext h.src n = some c) {c' : Context}
    (hfeed : c.feed (fixLen (listBytes e) (s.fragments h e d)) = c') :
    Ends (.digestUpdate h n k a l d) h (ok (le 8 c'.fed.length)) s ((s.started h).feedContext h.src (listBytes e) n c') := by
  subst hfeed
  have hown' : (s.started h).ownContext (s.stamp h).src n = some c := hown
  have hsize : ¬ 4096 < k := by omega
  show execDigestUpdate h n k a l d s = _
  simp only [execDigestUpdate, if_neg hsize, ← he, hpos, decide_true, ha, Bool.and_true]
  refine congrArg _ (command_ends hr ?_)
  simp only [hsize, hlist, hinside, hown', hlane, Bool.not_true, Bool.false_eq_true, or_self, if_false]
  rfl

end DigestContexts

/-! ### The statements -/

/-- Settles O17: a finished context starts again with the bytes that it is fed. -/
theorem finishedContextsRestart : Obligations.FinishedContextsRestart := by
  unfold Obligations.FinishedContextsRestart
  intro s h n k a l d c b e hr hpos hk ha he hlist hinside hlane hown hfinished hb
  subst hb
  exact ⟨_, ends_digestUpdate d hr hpos hk ha he hlist hinside hlane hown (Context.feed_of_finished _ hfinished),
    State.context_feedContext_same _ _ _ n _⟩

/-- Settles O18: the two values of CLOSE are the two cases of DIGEST_FINISH. -/
theorem digestsAreFinished : Obligations.DigestsAreFinished := by
  unfold Obligations.DigestsAreFinished
  exact fun s h n a c ha hown hlane => ⟨fun hr => ends_digestFinish hr (by decide) ha hown hlane,
    fun hr => ends_digestFinish hr (by decide) ha hown hlane⟩

/-- Settles O19: each command runs in one case of its row; a wear reset leaves every other device's ring and level, and an update
every other context. CHANGES 0 in the result of LEAF_READ (log entry 47) and the values that WEAR_FORECAST draws where its ring
gives none (log entry 3) are the model's choice. -/
theorem measurementCommandsComplete : Obligations.MeasurementCommandsComplete := by
  unfold Obligations.MeasurementCommandsComplete
  refine ⟨fun s h f n a hr hrange ha => reads_measureStatus hr hrange ha,
    fun s h d f n a hr hd hpos hn ha hdevice => reads_leafRead hr ⟨hd, hpos, hn⟩ ha hdevice,
    fun s h d f n a hr hd hpos hn ha hdevice => reads_wearRead hr ⟨hd, hpos, hn⟩ ha hdevice,
    fun s h d a ring rate last hr hd ha hvalid hring hrate hlast => ?_,
    fun s h d k f n hr hd hk hn hdevice hfree => goes_measureScan hr ⟨hd, hk, hn⟩ hdevice hfree,
    fun s h d hr hd hvalid => ⟨_, ends_wearReset hr hd hvalid, ?_⟩,
    fun s h alg k o a d n hr hok ha hfree => ends_digestOpen d hr hok ha hfree,
    fun s h n k a l d c b e hr hpos hk ha he hlist hinside hlane hown hopen hb => ?_,
    fun s h n c hr hown => ends_digestClose hr hown⟩
  · subst hrate hlast
    exact ⟨_, ends_wearForecast hr hd ha hvalid hring.symm, rfl⟩
  · have hfit : (s.started h).fit = s.fit := by simp
    have hlgb : (s.started h).lgb = s.lgb := by simp
    have honly := (s.started h).wearReset_only d
    rw [hfit, hlgb] at honly
    rw [State.fit_wearReset, State.clearWear, hfit]
    exact ⟨rfl, Tab.get_del_same _ d _, Tab.get_del_same _ d _, fun e hne => ⟨Tab.get_del_ne _ _ hne, Tab.get_del_ne _ _ hne⟩, honly⟩
  · subst hb
    exact ⟨_, ends_digestUpdate d hr hpos hk ha he hlist hinside hlane hown (Context.feed_of_not_finished _ hopen),
      State.context_feedContext_same _ _ _ n _,
      fun m hm => (State.context_feedContext_ne _ _ _ _ hm).trans (s.context_started h m)⟩

end Sys2Proof.Machine
end

section
/-! SUPPORT. Chapter 7: PK_OP, the commands of Table 7-13 and the events of the Hammer lanes, each in the case of its row that
its statement names. -/
namespace Sys2Proof.Machine

/-! ### PK_OP (R247) -/

/-- Metering counts are part of the receipt forge. -/
theorem State.updCount_only (s : State) (q : Nat) (f : QCount → QCount) : { s.updCount q f with rfg := s.rfg } = s := by
  unfold State.updCount
  split <;> rfl

section PkOp
variable {s : State} {h : Hdr} {o n a : Nat} {d b : Bytes}

theorem reads_pkOp_of_bad_input (hr : Ready s h (opPkOp.on (le 1 o ++ zeros 3 ++ le 4 n ++ le 8 a))) (ha : s.readAddrOk h a n = true)
    (ho : 1 ≤ o ∧ o ≤ 0x0D) (hb : fixLen n (s.inputOf h a n d) = b) (hbad : (pkInLenOk o n b && pkInputOk o b) = false) :
    Reads (.pkOp h o n a d) h (err 0x0160) s := by
  have hcode : ¬ (o < 1 ∨ 0x0D < o) := by omega
  have hrefused : (!pkInLenOk o n b || !pkInputOk o b) = true := by rw [← Bool.not_and, hbad]; rfl
  show execPkOp h o n a d s = _
  simp only [execPkOp, ha, hb]
  refine congrArg _ (command_ends hr ?_)
  simp only [if_neg hcode, hrefused, if_true]

/-- The operation that a PK_OP asks for, with its input already read. -/
def State.pkOperation (s : State) (h : Hdr) (o n a : Nat) (b : Bytes) : HOp :=
  { op := o, cls := s.classOf (s.queueOf h.src), queue := s.queueOf h.src, input := b, req := .pkOp h a (a + n + padTo 64 n) }

/-- A good PK_OP other than LMS_VERIFY, with a lane in service and the randomness that it needs, is submitted. -/
theorem goes_pkOp (hr : Ready s h (opPkOp.on (le 1 o ++ zeros 3 ++ le 4 n ++ le 8 a))) (ha : s.readAddrOk h a n = true)
    (ho : 1 ≤ o ∧ o < 0x0D) (hb : fixLen n (s.inputOf h a n d) = b) (hlen : pkInLenOk o n b = true) (hin : pkInputOk o b = true)
    (hlanes : s.hammerUnavailable = false) (hrandom : needsRandom o = true → s.clusterDrbg = true) :
    Goes (.pkOp h o n a d) s ((s.started h).submitOp ((s.started h).pkOperation (s.stamp h) o n a b)) := by
  have hcode : ¬ (o < 1 ∨ 0x0D < o) := by omega
  have hlms : o ≠ 0x0D := by omega
  have hdraws : (needsRandom o && !s.clusterDrbg) = false := by
    cases hneeds : needsRandom o with
    | false => rfl
    | true => rw [hrandom hneeds]; rfl
  show execPkOp h o n a d s = _
  simp only [execPkOp, ha, hb]
  refine congrArg _ (command_goes hr ?_)
  simp only [if_neg hcode, hlen, hin, if_neg hlms, State.hammerUnavailable_started, hlanes, State.clusterDrbg_started, hdraws,
    Bool.not_true, Bool.or_self, Bool.false_eq_true, if_false]
  rfl

/-- A good LMS_VERIFY ends at once where a Bellows lane is shared and free of other work (R205, R247). -/
theorem ends_lmsVerify (hr : Ready s h (opPkOp.on (le 1 0x0D ++ zeros 3 ++ le 4 n ++ le 8 a))) (ha : s.readAddrOk h a n = true)
    (hb : fixLen n (s.inputOf h a n d) = b) (hlen : pkInLenOk 0x0D n b = true) (hin : pkInputOk 0x0D b = true)
    (hlane : (s.started h).backgroundLane = true) :
    Ends (.pkOp h 0x0D n a d) h ((s.started h).lmsReply (s.stamp h) b (a + n + padTo 64 n)).1 s
      ((s.started h).lmsReply (s.stamp h) b (a + n + padTo 64 n)).2 := by
  show execPkOp h 0x0D n a d s = _
  simp only [execPkOp, ha, hb]
  refine congrArg _ (command_ends hr ?_)
  simp [hlen, hin, hlane]

/-- s with an LMS verification waiting for a Bellows lane. -/
def State.awaitLms (s : State) (h : Hdr) (b : Bytes) (outAt : Nat) : State :=
  { s with bde := { s.bde with lms := s.bde.lms ++ [{ hdr := h, input := b, outAt := outAt }] } }

/-- A good LMS_VERIFY waits where no Bellows lane is free for it (R205, R247). -/
theorem goes_lmsVerify (hr : Ready s h (opPkOp.on (le 1 0x0D ++ zeros 3 ++ le 4 n ++ le 8 a))) (ha : s.readAddrOk h a n = true)
    (hb : fixLen n (s.inputOf h a n d) = b) (hlen : pkInLenOk 0x0D n b = true) (hin : pkInputOk 0x0D b = true)
    (hlane : (s.started h).backgroundLane = false) :
    Goes (.pkOp h 0x0D n a d) s ((s.started h).awaitLms (s.stamp h) b (a + n + padTo 64 n)) := by
  show execPkOp h 0x0D n a d s = _
  simp only [execPkOp, ha, hb]
  refine congrArg _ (command_goes hr ?_)
  simp [hlen, hin, hlane, State.awaitLms]

end PkOp

/-! ### HAMMER_STATUS and HAMMER_LANE_TEST (Table 7-13) -/

section Commands
variable {s : State} {h : Hdr} {a l : Nat}

theorem reads_hammerStatus (hr : Ready s h (opHammerStatus.on (le 8 a))) (ha : s.writeAddrOk h a = true) :
    Reads (.hammerStatus h a) h (okOut a (le 4 s.hmaStatus ++ le 4 s.hmaLoad ++ le 4 s.hmaPool ++ le 4 s.hmaVersion ++
      le 4 0x3FFE ++ zeros 12 ++ (List.range 18).flatMap (fun n =>
        le 4 (s.hmaLane n) ++ le 8 (s.lane n).opsDone ++ le 2 (s.lane n).lifetimeFails ++ zeros 2))) s := by
  show execHammerStatus h a s = _
  simp only [execHammerStatus, ha, commandR_ready hr, State.hmaStatus_started, State.hmaLoad_started, State.hmaPool_started,
    State.hmaVersion_started, State.hmaLane_started, State.lane_started]

/-- The extended test of a RETIRED or SPARE lane begins; a spare on its way to ACTIVE stays so. -/
theorem goes_hammerLaneTest (hr : Ready s h (opHammerLaneTest.on (le 1 l))) (hl : l < 18)
    (hidle : (s.lane l).state = .retired ∨ (s.lane l).state = .spare) :
    Goes (.hammerLaneTest h l) s ((s.started h).updLane l
      (fun x => { x with coming := if x.coming = 2 then 2 else 3, testHdr := x.testHdr ++ [s.stamp h] })) := by
  have htestable : ((s.lane l).state == .retired || (s.lane l).state == .spare) = true := by simpa using hidle
  show execHammerLaneTest h l s = _
  simp only [execHammerLaneTest, hl, decide_true]
  refine congrArg _ (command_goes hr ?_)
  simp only [State.lane_started, htestable, Bool.not_true, Bool.false_eq_true, if_false]

theorem reads_hammerLaneTest_of_busy (hr : Ready s h (opHammerLaneTest.on (le 1 l))) (hl : l < 18)
    (hretired : (s.lane l).state ≠ .retired) (hspare : (s.lane l).state ≠ .spare) :
    Reads (.hammerLaneTest h l) h (err 0x0460) s := by
  show execHammerLaneTest h l s = _
  simp only [execHammerLaneTest, hl, decide_true]
  refine congrArg _ (command_ends hr ?_)
  simp [hretired, hspare]

end Commands

/-! ### The end of a test (R261, R263, Table 7-13) -/

section Tests
variable {s : State} {l : Nat}

/-- A TESTING lane that passes is ACTIVE and its pairs are proven; one that does not fails (R261). -/
theorem State.testDone_of_testing (hl : (s.lane l).state = .testing) (passed : Bool) : s.testDone l passed =
    if passed then (((s.updLane l (fun x => { x with state := .active, testOp := 0 })).provePairs l).placeWork)
    else ((s.laneFails l).refuseAll).placeWork := if_pos hl

/-- s after lane l has passed its extended test: no command waits for the test any more, and the pass is logged. -/
def State.testPassed (s : State) (l : Nat) : State :=
  (s.updLane l (fun x => { x with coming := if x.coming = 2 then 2 else 0, testHdr := [] })).log .forge 0x0304 3 6 l
    { cause := 1, value := 1 }

/-- s after the extended test that makes the RETIRED lane l SPARE. -/
def State.testedSpare (s : State) (l : Nat) : State :=
  (s.testPassed l).updLane l (fun x => { x with state := .spare, fails := 2 })

theorem State.lane_testedSpare_ne {m : Nat} (hm : m ≠ l) : (s.testedSpare l).lane m = s.lane m := by
  rw [State.testedSpare, State.lane_updLane_ne _ _ hm, State.testPassed, State.lane_log, State.lane_updLane_ne _ _ hm]

/-- A RETIRED lane that passes its extended test is SPARE, and the commands that wait for the test end. -/
theorem State.testDone_of_retired (hl : (s.lane l).state = .retired) (hwait : (s.lane l).testHdr ≠ []) :
    s.testDone l true = completeAll (s.lane l).testHdr (ok [1]) (s.testedSpare l) := by
  have htesting : (s.lane l).state ≠ .testing := by simp [hl]
  simp only [State.testDone, if_neg htesting]
  cases hs : (s.lane l).testHdr with
  | nil => exact absurd hs hwait
  | cons => simp only [if_true, if_pos hl]; rfl

end Tests

/-! ### The end of an operation and of a refill (R250, R253, R260, R276) -/

section Operations
variable {s : State} {l : Nat} {o : HOp}

/-- An operation that runs for a requester, its lane freed, delivers its result or is retried. -/
theorem State.opComplete_of_running (hrun : (s.lane l).running = some o) (hreq : ∀ c, o.req ≠ .refill c) (holds : Bool) :
    s.opComplete l holds =
      if holds then ((s.updLane l (fun x => { x.good with running := none })).deliverOp l o).placeWork
      else ((((s.updLane l (fun x => { x with running := none })).invariantFailed l o.op).retryOp l o).refuseAll).placeWork := by
  unfold State.opComplete
  rw [hrun]
  dsimp only
  split
  · next c hrefill => exact absurd hrefill (hreq c)
  · rfl

/-- s with one more pair of class c from lane l, not yet tested, while the pool of the lane's cluster has room (R250). -/
def State.addPair (s : State) (l c : Nat) : State :=
  if s.poolOf (clusterOf l) c < 1024 then
    { s with hma := { s.hma with pairs := s.hma.pairs.upd (lotKey (clusterOf l) c l) {} (fun x => { x with untested := x.untested + 1 }) } }
  else s

theorem State.refillDone_of_holds {c : Nat} (hrun : (s.lane l).running = some o) (hreq : o.req = .refill c) :
    s.refillDone l true = ((s.updLane l (fun x => { x with running := none })).addPair l c).placeWork := by
  simp only [State.refillDone, hrun, hreq, if_true, State.addPair]

end Operations

/-! ### Spares and gated lanes (R245, R267, R273) -/

section Lanes
variable {s : State} {l : Nat}

theorem State.promotionDone_of_passed (hstate : (s.lane l).state = .spare) (hcoming : (s.lane l).coming = 2) :
    s.promotionDone l true = (s.updLane l (fun x => { x with state := .active, coming := 0 })).placeWork := by
  simp [State.promotionDone, hstate, hcoming]

theorem goes_lanePowerUpReady (hstate : (s.lane l).state = .gated) (hcoming : (s.lane l).coming = 1) :
    Goes (.lanePowerUpReady l) s (s.updLane l (fun x => { x with state := .active, coming := 0 })).placeWork :=
  if_pos ⟨hstate, hcoming⟩

end Lanes

/-! ### What the ends note (R506) -/

section Events
variable {s t : State} {l : Nat} {b : Bool}

theorem goes_hammerOpComplete (ht : s.opComplete l b = t) : Goes (.hammerOpComplete l b) s (State.noteService s t) :=
  ht ▸ rfl

theorem goes_poolRefillDone (ht : s.refillDone l b = t) : Goes (.poolRefillDone l b) s (State.noteService s t) :=
  ht ▸ rfl

theorem goes_knownAnswerTestDone (ht : s.testDone l b = t) : Goes (.knownAnswerTestDone l b) s (State.noteService s t) :=
  ht ▸ rfl

theorem goes_sparePromotionDone (ht : s.promotionDone l b = t) : Goes (.sparePromotionDone l b) s (State.noteService s t) :=
  ht ▸ rfl

end Events

/-! ### The statement -/

/-- Settles O21: each command runs in one case of its row, and each event of a lane meets the case that the lane's state or the
operation that runs on it chooses. That hashing takes no time, so that an LMS_VERIFY with a shared lane ends within its row (log
entry 85), is the model's choice. -/
theorem hammerCommandsComplete : Obligations.HammerCommandsComplete := by
  unfold Obligations.HammerCommandsComplete
  refine ⟨fun s h o n a d b hr ha hpos ho hb => ⟨reads_pkOp_of_bad_input hr ha ⟨hpos, Nat.le_of_lt ho⟩ hb.symm,
      fun q hlen hin hlanes hrandom hq => ?_⟩,
    fun s h n a d b hr ha hb hlen hin => ⟨fun hlane => ⟨_, ends_lmsVerify hr ha hb.symm hlen hin hlane, ?_⟩,
      fun hlane => ⟨_, goes_lmsVerify hr ha hb.symm hlen hin hlane, ?_⟩⟩,
    fun s h a hr ha => reads_hammerStatus hr ha,
    fun s h l hr hl => ⟨goes_hammerLaneTest hr hl, reads_hammerLaneTest_of_busy hr hl⟩,
    fun s l hl hwait => ⟨s.testedSpare l, goes_knownAnswerTestDone (State.testDone_of_retired hl hwait), ?_⟩,
    fun s l o hrun hreq => ⟨goes_hammerOpComplete (State.opComplete_of_running hrun hreq true),
      goes_hammerOpComplete (State.opComplete_of_running hrun hreq false)⟩,
    fun s l o c u hrun hreq hu => ?_,
    fun s l hl => ⟨goes_knownAnswerTestDone (State.testDone_of_testing hl true),
      goes_knownAnswerTestDone (State.testDone_of_testing hl false)⟩,
    fun s l hstate hcoming => goes_sparePromotionDone (State.promotionDone_of_passed hstate hcoming),
    fun s l hstate hcoming => goes_lanePowerUpReady hstate hcoming⟩
  · subst hq
    exact goes_pkOp hr ha ⟨hpos, ho⟩ hb.symm hlen hin hlanes hrandom
  · have hrfg : (s.started h).rfg = s.rfg := by simp
    rw [← hrfg]
    exact State.updCount_only _ _ _
  · have hbde : (s.started h).bde = s.bde := by simp
    rw [← hbde]
    exact ⟨rfl, rfl⟩
  · exact ⟨by simp [State.testedSpare], by simp [State.testedSpare], fun m hm => State.lane_testedSpare_ne hm⟩
  · subst hu
    exact goes_poolRefillDone (State.refillDone_of_holds hrun hreq)

end Sys2Proof.Machine
end

section
/-! SUPPORT. Chapter 8's command path: how a row of Table 18-2 is taken up and refused, where the completion of a command that
ends goes, and what the transport's own commands answer. -/
namespace Sys2Proof.Machine

/-! ### Admission (R286, R289) -/

/-- Every row that is a ZCP command goes through `command`, under the header and the opcode of its row. -/
theorem exec_of_zcp {c : Instr} {h : Hdr} {op : Op} (hz : zcpOf c = some (h, op)) (s : State) :
    ∃ inRange body, exec c s = .next (command op h inRange s body) := by
  cases c <;> cases hz <;> exact ⟨_, _, rfl⟩

/-- A ZCP row that is taken up and that a check of R289 refuses, whatever its own parameters, has no effect but its completion. -/
theorem reads_of_refused {c : Instr} {h : Hdr} {op : Op} {s : State} {st : Nat} (hz : zcpOf c = some (h, op))
    (ht : s.takes h op = true) (hst : st ≠ 0) (ha : ∀ inRange, s.admission h op inRange = st) : Reads c h (err st) s := by
  obtain ⟨inRange, body, hexec⟩ := exec_of_zcp hz s
  show exec c s = _
  rw [hexec, command_refused ht (ha inRange ▸ hst), ha inRange]

section Checks
variable {s : State} {h : Hdr} {op : Op} (inRange : Bool)

theorem State.admission_of_old_version (hv : s.versionOf h.src < op.version) : s.admission h op inRange = 0x0103 :=
  if_pos hv

theorem State.admission_of_low_privilege (hv : op.version ≤ s.versionOf h.src) (hp : s.mayRun h.src op = false) :
    s.admission h op inRange = 0x0201 := by
  simp [State.admission, Nat.not_lt.2 hv, hp]

theorem State.admission_of_bad_field (hv : op.version ≤ s.versionOf h.src) (hp : s.mayRun h.src op = true)
    (hf : h.cid = 0xFFFF ∨ h.reserved ≠ 0 ∨ resultAddrOk h op = false) : s.admission h op inRange = 0x0102 := by
  rcases hf with hf | hf | hf <;> simp [State.admission, Nat.not_lt.2 hv, hp, hf]

end Checks

theorem State.mayRun_pcie_iff (s : State) (q : Nat) (op : Op) :
    s.mayRun (.pcie q) op = true ↔ op.priv ≤ (s.grant q).priv := decide_eq_true_iff

/-- The lowest privileges of Table 18-2 are those of R286, OBSERVER 0 to OWNER 3. -/
theorem priv_le_of_mem_allOps : ∀ op ∈ allOps, op.priv ≤ 3 := by decide

/-! ### Completion (R288, R292, R294) -/

theorem complete_of_orphan {s : State} {h : Hdr} {f : Flight} (r : Reply) (hf : s.inFlight h = some f) (ho : f.orphan = true) :
    complete h r s = s.updFlights h.src (fun l => l.eraseP (fun f => decide (f.uid = h.uid))) := by
  simp [complete, hf, ho]

theorem complete_of_not_orphan {s : State} {h : Hdr} {f : Flight} (r : Reply) (hf : s.inFlight h = some f)
    (ho : f.orphan = false) : complete h r s =
      (s.updFlights h.src (fun l => l.eraseP (fun f => decide (f.uid = h.uid)))).putDone h.src (r.completion h) := by
  simp [complete, hf, ho]

/-- A command of a PCIe queue that ends leaves every other queue as it was. -/
theorem queue_complete_ne {h : Hdr} {q p : Nat} (r : Reply) (s : State) (hsrc : h.src = .pcie q) (hp : p ≠ q) :
    (complete h r s).queue p = s.queue p := by
  unfold complete
  split
  · rfl
  · dsimp only
    split <;> simp [hsrc, State.updFlights, State.putDone, State.queue_updQueue_ne _ _ hp]

/-- A command of a PCIe queue that ends leaves every framed session as it was. -/
theorem session_complete_pcie {h : Hdr} {q : Nat} (r : Reply) (s : State) (hsrc : h.src = .pcie q) (x : Target) :
    (complete h r s).session x = s.session x := by
  unfold complete
  split
  · rfl
  · dsimp only
    split <;> simp [hsrc, State.updFlights, State.putDone]

/-- The queue of a command that ends: the command is no longer in flight, and its completion is last in line unless R294 lets
it have none. -/
theorem queue_complete_same {s : State} {h : Hdr} {q : Nat} {f : Flight} (r : Reply) (hsrc : h.src = .pcie q)
    (hf : s.inFlight h = some f) :
    ((complete h r s).queue q).done = (s.queue q).done ++ (if f.orphan then [] else [r.completion h]) ∧
    ((complete h r s).queue q).flights = (s.queue q).flights.eraseP (fun f => decide (f.uid = h.uid)) := by
  cases ho : f.orphan
  · simp [complete_of_not_orphan r hf ho, hsrc, State.updFlights, State.putDone]
  · simp [complete_of_orphan r hf ho, hsrc, State.updFlights]

/-! ### The transport's own commands (R297 to R299) -/

@[simp] theorem State.src_stamp (s : State) (h : Hdr) : (s.stamp h).src = h.src := rfl

/-- Starting a command changes no part of a queue but its commands in flight. -/
@[simp] theorem State.version_queue_started (s : State) (h : Hdr) (q : Nat) : ((s.started h).queue q).version = (s.queue q).version := by
  unfold State.started State.updFlights
  split
  · next p _ =>
    by_cases hq : q = p
    · subst hq; simp
    · rw [State.queue_updQueue_ne _ _ hq]
  · simp
  · rfl

/-- Starting a command changes no part of a framed session but its commands in flight. -/
@[simp] theorem State.baud_session_started (s : State) (h : Hdr) (x : Target) : ((s.started h).session x).baud = (s.session x).baud := by
  unfold State.started State.updFlights
  split
  · simp
  · next y _ =>
    by_cases hx : x = y
    · subst hx; simp
    · rw [State.session_updSession_ne _ _ hx]
  · cases x <;> rfl

/-- Of the parameters of SESSION_NEGOTIATE only a baud rate that UART0 cannot reach is out of range (R299). -/
theorem sessionNegotiate_inRange {h : Hdr} {b : Nat} (hbaud : h.src = .framed .uart0 → baudOk b = true) :
    (h.src != .framed .uart0 || baudOk b) = true := by
  by_cases hsrc : h.src = .framed .uart0
  · simp [hbaud hsrc]
  · simp [hsrc]

section Commands
variable {s : State} {h : Hdr}

theorem reads_echo {p : Nat} (hr : Ready s h (opEcho.on (le 8 p))) : Reads (.echo h p) h (ok (le 8 p)) s :=
  congrArg _ (commandR_ready hr)

theorem reads_capabilities {a : Nat} (hr : Ready s h (opCapabilities.on (le 8 a))) (ha : s.writeAddrOk h a = true) :
    Reads (.capabilities h a) h (okOut a ((s.started h).capabilities h.src)) s := by
  show execCapabilities h a s = _
  simp only [execCapabilities, ha, commandR_ready hr, State.src_stamp]

section Negotiate
variable {lo hi b n : Nat}
  (hr : Ready s h (opSessionNegotiate.on (le 1 lo ++ le 1 hi ++ zeros 2 ++ le 4 b ++ le 2 n)))
include hr

theorem reads_sessionNegotiate_of_no_common (hbaud : h.src = .framed .uart0 → baudOk b = true)
    (hv : commonVersion lo hi = none) : Reads (.sessionNegotiate h lo hi b n) h (err 0x0103) s := by
  show execSessionNegotiate h lo hi b n s = _
  simp only [execSessionNegotiate, sessionNegotiate_inRange hbaud]
  exact congrArg _ (commandC_ends hr (by simp only [hv]))

theorem reads_sessionNegotiate_pcie {q v : Nat} (hsrc : h.src = .pcie q) (hv : commonVersion lo hi = some v) :
    Reads (.sessionNegotiate h lo hi b n) h (ok (le 1 (s.queue q).version)) s := by
  show execSessionNegotiate h lo hi b n s = _
  simp only [execSessionNegotiate, sessionNegotiate_inRange (b := b) (fun hu => nomatch hsrc.symm.trans hu)]
  exact congrArg _ (commandC_ends hr (by simp only [hv, State.src_stamp, hsrc, State.version_queue_started]))

theorem ends_sessionNegotiate_framed {v m : Nat} {x : Target} (hsrc : h.src = .framed x) (hbaud : x = .uart0 → baudOk b = true)
    (hv : commonVersion lo hi = some v) (hm : (if n = 0 then fragmentLimit x v else min n (fragmentLimit x v)) = m) :
    Ends (.sessionNegotiate h lo hi b n) h
      (ok (le 1 v ++ [0] ++ le 2 m ++ le 4 (if x = .uart0 then (if b = 0 then (s.session x).baud else b) else 0))) s
      ((s.started h).updSession x (fun y => { y with version := v, maxFragment := m, nextBaud := if x = .uart0 then b else 0 })) := by
  have hrange : h.src = .framed .uart0 → baudOk b = true := fun hu => hbaud (by simpa [hsrc] using hu)
  show execSessionNegotiate h lo hi b n s = _
  simp only [execSessionNegotiate, sessionNegotiate_inRange hrange]
  refine congrArg _ (commandC_ends hr ?_)
  by_cases hx : x = .uart0
  · subst hx
    simp only [hv, State.src_stamp, hsrc, hm, if_true, State.session_updSession_same, State.baud_session_started]
  · simp only [hv, State.src_stamp, hsrc, hm, hx, if_false]

theorem ends_sessionNegotiate_jtag {v m : Nat} (hsrc : h.src = .jtag) (hv : commonVersion lo hi = some v)
    (hm : (if n = 0 then 4096 else min n 4096) = m) :
    Ends (.sessionNegotiate h lo hi b n) h (ok (le 1 v ++ [0] ++ le 2 m ++ le 4 0)) s
      { s.started h with cme := { (s.started h).cme with
          jtagSession := { (s.started h).cme.jtagSession with version := v, maxFragment := m } } } := by
  show execSessionNegotiate h lo hi b n s = _
  simp only [execSessionNegotiate, sessionNegotiate_inRange (b := b) (fun hu => nomatch hsrc.symm.trans hu)]
  exact congrArg _ (commandC_ends hr (by simp only [hv, State.src_stamp, hsrc, hm]))

end Negotiate
end Commands

/-! ### The statements -/

/-- Settles O25: a row that is taken up is refused by the first check that it fails, before its own checks and its effect. -/
theorem admissionRefusesWithoutEffect : Obligations.AdmissionRefusesWithoutEffect := by
  unfold Obligations.AdmissionRefusesWithoutEffect
  exact fun c h op s hz ht =>
    ⟨fun hv => reads_of_refused hz ht (by decide) fun r => State.admission_of_old_version r hv,
      fun hv hp => reads_of_refused hz ht (by decide) fun r => State.admission_of_low_privilege r hv hp,
      fun hv hp hf => reads_of_refused hz ht (by decide) fun r => State.admission_of_bad_field r hv hp hf⟩

/-- Settles O26: the privilege check of a PCIe queue compares two ranks. -/
theorem privilegeOrdersTheQueues : Obligations.PrivilegeOrdersTheQueues := by
  unfold Obligations.PrivilegeOrdersTheQueues
  exact fun s q op hop => ⟨s.mayRun_pcie_iff q op, priv_le_of_mem_allOps op hop⟩

/-- Settles O27: a command that ends touches the commands in flight and the line of its own queue. -/
theorem completionIsPutInLine : Obligations.CompletionIsPutInLine := by
  unfold Obligations.CompletionIsPutInLine
  intro s h r q f hsrc hf
  obtain ⟨hdone, hflights⟩ := queue_complete_same r hsrc hf
  exact ⟨hdone, hflights, rfl, rfl, rfl, fun p hp => queue_complete_ne r s hsrc hp,
    session_complete_pcie r s hsrc, complete_only h r s⟩

/-- Settles O28: each command runs in one case of its row. Which baud rates UART0 reaches (log entry 12) and the fragment limit of
the mailbox (log entry 101) are the model's choice. -/
theorem transportCommandsComplete : Obligations.TransportCommandsComplete := by
  unfold Obligations.TransportCommandsComplete
  exact ⟨fun s h p hr => reads_echo hr, fun s h a hr ha => reads_capabilities hr ha,
    fun s h lo hi b n v q hr hsrc hv => reads_sessionNegotiate_pcie hr hsrc hv,
    fun s h lo hi b n v x m hr hsrc hbaud hv hm => ends_sessionNegotiate_framed hr hsrc hbaud hv hm.symm,
    fun s h lo hi b n v m hr hsrc hv hm => ⟨_, ends_sessionNegotiate_jtag hr hsrc hv hm.symm, rfl, rfl⟩,
    fun s h lo hi b n hr hbaud hv => reads_sessionNegotiate_of_no_common hr hbaud hv⟩

end Sys2Proof.Machine
end

section
/-! SUPPORT. Chapter 8's rings: how a queue opens and closes, how its entries come in, and how finished completions, deferred
messages and asynchronous events go out. -/
namespace Sys2Proof.Machine

/-! ### Opening and closing (R293, R294) -/

section Control
variable {s : State} {fn q : Nat}

theorem goes_queueOpen_of_refused (hup : s.pcieUp = true) (hr : s.openResult fn (s.fnBlock fn).qSelect ≠ 0) :
    Goes (.queueOpen fn) s (s.updQRegs fn (s.fnBlock fn).qSelect
      (fun x => { x with result := s.openResult fn (s.fnBlock fn).qSelect })) := by
  show execQueueOpen fn s = _
  simp [execQueueOpen, hup, hr]

theorem goes_queueOpen_of_good (hup : s.pcieUp = true) (hr : s.openResult fn (s.fnBlock fn).qSelect = 0) :
    Goes (.queueOpen fn) s ((s.updQRegs fn (s.fnBlock fn).qSelect (fun x => { x with result := 0 })).updQueue
      (s.fnBlock fn).qSelect (fun x => x.openWith fn (s.qRegs fn (s.fnBlock fn).qSelect))) := by
  show execQueueOpen fn s = _
  simp [execQueueOpen, hup, hr]

theorem goes_queueClose (hup : s.pcieUp = true) (hown : s.ownsQueue fn (s.fnBlock fn).qSelect = true) :
    Goes (.queueClose fn) s (s.closeQueue (s.fnBlock fn).qSelect) := by
  show execQueueClose fn s = _
  simp [execQueueClose, hup, hown]

theorem goes_queueReset (hup : s.pcieUp = true) (hown : s.ownsQueue fn (s.fnBlock fn).qSelect = true) :
    Goes (.queueReset fn) s (s.updQueue (s.fnBlock fn).qSelect Queue.closeNow) := by
  show execQueueReset fn s = _
  simp [execQueueReset, hup, hown]

theorem goes_queueCloseTimeout (hclosing : (s.queue q).state = .closing) (hdue : (s.queue q).closingAt + 100000 ≤ s.now) :
    Goes (.queueCloseTimeout q) s (s.updQueue q Queue.closeNow) := by
  show execQueueCloseTimeout q s = _
  simp [execQueueCloseTimeout, hclosing, hdue]

/-- CLOSE of an open queue closes it at once when nothing is in flight, and has it wait otherwise. -/
theorem State.state_closeQueue (hopen : (s.queue q).state = .opened) :
    ((s.closeQueue q).queue q).state = if (s.queue q).inFlight = 0 then QState.closed else .closing := by
  by_cases hidle : (s.queue q).inFlight = 0 <;> simp [State.closeQueue, hopen, hidle, Queue.closeNow]

end Control

/-! ### Entries (R289 to R291, R295) -/

theorem goes_submissionFetch {s : State} {q c : Nat} {u : Turn} (e : Bytes) (hready : s.ready = true)
    (hfetching : s.cme.draining = false) (hnext : s.nextFetch = some (q, c, u)) :
    Goes (.submissionFetch q e) s
      (((({ s with io := { s.io with fetch := some (s.fetchAddr q) } } : State).setFetchTurn c u).updQueue q
        (fun x => { x with sqHead := (x.sqHead + 1) % x.depth })).takeEntry (.pcie q) (fixLen 64 e) []) := by
  show execSubmissionFetch q e s = _
  simp [execSubmissionFetch, hready, hfetching, hnext]

/-- A command that joins those in flight is the last of them, under the next number. -/
theorem State.queue_addFlight (s : State) (q : Nat) (f : Flight) : (s.addFlight (.pcie q) f).queue q =
    { s.queue q with flights := (s.queue q).flights ++ [{ f with uid := s.cme.nextUid }] } :=
  s.queue_updQueue_same q (fun x => { x with flights := x.flights ++ [{ f with uid := s.cme.nextUid }] })

/-- Its number names it, where no other command in flight there has that number. -/
theorem State.inFlight_addFlight {s : State} {q : Nat} (f : Flight) {h : Hdr} (hsrc : h.src = .pcie q) (huid : h.uid = s.cme.nextUid)
    (hfresh : ∀ g ∈ (s.queue q).flights, g.uid ≠ s.cme.nextUid) :
    (s.addFlight (.pcie q) f).inFlight h = some { f with uid := s.cme.nextUid } := by
  have hothers : (s.queue q).flights.find? (fun g => decide (g.uid = s.cme.nextUid)) = none :=
    List.find?_eq_none.2 fun g hg => by simp [hfresh g hg]
  simp [State.inFlight, State.flights, hsrc, huid, State.queue_addFlight, List.find?_append, hothers]

/-- An entry whose opcode no command has ends as it is taken, behind the completions that wait on its queue. -/
theorem State.done_takeEntry_of_unknown {s : State} {q : Nat} {e : Bytes} (d : Bytes) (hop : opOf (fld e 0 2) = none)
    (hfresh : ∀ g ∈ (s.queue q).flights, g.uid ≠ s.cme.nextUid) :
    ((s.takeEntry (.pcie q) e d).queue q).done = (s.queue q).done ++
      [(err 0x0101).completion { hdrOf (.pcie q) e with uid := s.cme.nextUid }] := by
  simp only [State.takeEntry, hop]
  rw [(queue_complete_same _ rfl (State.inFlight_addFlight _ rfl rfl hfresh)).1, State.queue_addFlight]
  rfl

/-! ### Reads of host memory (R290, R311, R331) -/

theorem goes_hostReadFault_of_fetch {s : State} {q : Nat} (k a : Nat) (fed : Bytes) (hfetch : s.mayFetch q = true)
    (hready : s.ready = true) : Goes (.hostReadFault q none k a fed) s
      (((s.readFaulted (s.queue q).fn a k).queueError q 1).queueErrorEntry q 1) := by
  show execHostReadFault q none k a fed s = _
  simp [execHostReadFault, hfetch, hready]

/-- The failed read of a command other than DIGEST_UPDATE ends it. -/
theorem ends_hostReadFault {s : State} {p : Nat} {h : Hdr} {f : Flight} (q k a : Nat) (fed : Bytes) (hsrc : h.src = .pcie p)
    (hf : s.flightFor h = some f) (hwaits : f.started = false) (hkind : updateContext f = none) :
    Ends (.hostReadFault q (some h) k a fed) h (err 0x0701) s
      (if readsReceipt f then (s.readFaulted (s.queue p).fn a k).countRefused p else s.readFaulted (s.queue p).fn a k) := by
  show execHostReadFault q (some h) k a fed s = _
  simp [execHostReadFault, hf, hwaits, hkind, hsrc, State.fnOf, State.queueOf]

/-! ### The message of a completion (R300, R301) -/

theorem State.raiseMsix_of_unmasked {s : State} {fn v : Nat} (hon : (s.fnBlock fn).msix.enable = true)
    (hfn : (s.fnBlock fn).msix.functionMask = false) (hv : (s.fnBlock fn).msix.unmasked.contains v = true) :
    s.raiseMsix fn v = { s with io := { s.io with msix := some (fn, v) } } := by
  simp only [State.raiseMsix, hon, hfn, hv, Bool.not_true, Bool.or_self, Bool.false_eq_true, if_false]

/-- A message leaves every queue as it was. -/
@[simp] theorem State.queue_raiseMsix (s : State) (fn v q : Nat) : (s.raiseMsix fn v).queue q = s.queue q := by
  simp only [State.raiseMsix]
  split
  · rfl
  · split <;> rfl

/-- A message leaves what was written to host memory. -/
@[simp] theorem State.dma_raiseMsix (s : State) (fn v : Nat) : (s.raiseMsix fn v).io.dma = s.io.dma := by
  simp only [State.raiseMsix]
  split
  · rfl
  · split <;> rfl

/-- A written completion moves the due time of its queue's message or leaves it, and then sends the message or does not. -/
theorem State.signal_cases (s : State) (q : Nat) (c : Completion) :
    ∃ u : State, (u = s ∨ ∃ due : Queue → Option Nat, u = s.updQueue q (fun x => { x with coalDue := due x })) ∧
      (s.signal q c = u ∨ ∃ fn v, s.signal q c = u.raiseMsix fn v) := by
  simp only [State.signal]
  split
  · exact ⟨s, .inl rfl, .inl rfl⟩
  · split
    · exact ⟨_, .inr ⟨_, rfl⟩, .inr ⟨_, _, rfl⟩⟩
    · split
      · exact ⟨s, .inl rfl, .inl rfl⟩
      · split
        · exact ⟨_, .inr ⟨_, rfl⟩, .inl rfl⟩
        · exact ⟨s, .inl rfl, .inr ⟨_, _, rfl⟩⟩

/-- The message of a completion changes no state or index of a queue, and nothing that was written to host memory. -/
theorem State.signal_ring (s : State) (q : Nat) (c : Completion) :
    ((s.signal q c).queue q).state = (s.queue q).state ∧ ((s.signal q c).queue q).cqTail = (s.queue q).cqTail ∧
    (s.signal q c).io.dma = s.io.dma := by
  obtain ⟨u, hu, hsent⟩ := s.signal_cases q c
  have hkept : (u.queue q).state = (s.queue q).state ∧ (u.queue q).cqTail = (s.queue q).cqTail ∧ u.io.dma = s.io.dma := by
    rcases hu with rfl | ⟨due, rfl⟩
    · exact ⟨rfl, rfl, rfl⟩
    · simp only [State.queue_updQueue_same, State.updQueue_keeps, and_self]
  rcases hsent with hsent | ⟨fn, v, hsent⟩
  · rw [hsent]
    exact hkept
  · rw [hsent, State.queue_raiseMsix, State.dma_raiseMsix]
    exact hkept

theorem goes_interruptCoalesceExpiry {s : State} {q d : Nat} (hdue : (s.queue q).coalDue = some d) (hd : d ≤ s.now)
    (hup : s.boot.controlUp = true) : Goes (.interruptCoalesceExpiry q) s
      ((s.updQueue q (fun x => { x with coalDue := none })).raiseMsix (s.queue q).fn (s.queue q).vector) := by
  show execInterruptCoalesceExpiry q s = _
  simp [execInterruptCoalesceExpiry, hdue, hd, hup]

/-! ### Finished completions (R288, R292, R306) -/

/-- A completion is written on a ring at its next place, and the place moves on. -/
theorem State.writeEntry_ring (s : State) (q : Nat) (c : Completion) :
    (s.writeEntry q c).io.dma = (c.writes (s.queue q)).map (fun w => ((s.queue q).fn, w)) ∧
    ((s.writeEntry q c).queue q).cqTail = ((s.queue q).cqTail + 1) % (s.queue q).depth ∧
    ((s.writeEntry q c).queue q).state = (s.queue q).state := by
  obtain ⟨hstate, htail, hdma⟩ := (({ s with
    io := { s.io with dma := (c.writes (s.queue q)).map (fun w => ((s.queue q).fn, w)) } } : State).updQueue q Queue.postedOne).signal_ring q c
  rw [State.queue_updQueue_same] at hstate htail
  exact ⟨hdma, htail, hstate⟩

theorem State.closeDone_of_not_closing {s : State} {q : Nat} (hq : (s.queue q).state ≠ .closing) : s.closeDone q = s := by
  simp [State.closeDone, hq]

/-- COMPLETION_WRITE while no restart is asked for writes the completion and does nothing more (R81). -/
theorem goes_completionWrite {s t : State} {src : Src} (hw : s.writeCompletion src = t) (hdrain : t.boot.drainUntil = none) :
    Goes (.completionWrite src) s t := by
  show execCompletionWrite src s = _
  simp [execCompletionWrite, hw, State.drainStep, hdrain]

section Write
variable {s : State} {c : Completion} {rest : List Completion} (hdrain : s.boot.drainUntil = none)
include hdrain

theorem goes_completionWrite_pcie {q : Nat} (hup : s.boot.controlUp = true) (hdone : (s.queue q).done = c :: rest) :
    Goes (.completionWrite (.pcie q)) s (((s.updQueue q (fun x => { x with done := rest })).writeEntry q c).closeDone q) :=
  goes_completionWrite (by simp [State.writeCompletion, hup, hdone]) (by simp [hdrain])

theorem goes_completionWrite_framed {x : Target} (hup : s.boot.controlUp = true) (hdone : (s.session x).done = c :: rest) :
    Goes (.completionWrite (.framed x)) s ((s.updSession x (fun y => y.respond c s.now)).sendUart x) :=
  goes_completionWrite (by simp [State.writeCompletion, hup, hdone]) (by simp [hdrain])

theorem goes_completionWrite_jtag (hdone : s.cme.jtagSession.done = c :: rest) :
    Goes (.completionWrite .jtag) s { s with cme := { s.cme with
      jtagSession := { s.cme.jtagSession.respond c s.now with frames := [] }
      jtagResponse := (s.cme.jtagSession.respond c s.now).frames.flatten } } :=
  goes_completionWrite (by simp [State.writeCompletion, hdone]) hdrain

end Write

/-- What UART0 has to send leaves at once behind its start bytes, and nothing is left to send (Table 8-17). -/
theorem State.sendUart_of_frames {s : State} (hf : s.cme.uart0.frames ≠ []) :
    s.sendUart .uart0 = { s.updSession .uart0 (fun x => { x with frames := [], ibi := false }) with
      io := { s.io with frame := s.cme.uart0.frames.flatMap (fun f => [0x5A, 0xA5] ++ f) } } := by
  simp [State.sendUart, hf]

/-- The response of a completion follows the frames that a session has not given up yet, and is kept. -/
theorem Session.respond_response (y : Session) (c : Completion) (now : Nat) :
    (y.respond c now).lastResponse = c.response ∧ (y.respond c now).done = y.done.drop 1 ∧
    (y.respond c now).frames = y.frames ++ framesOf 2 (y.running.getD 0) y.maxFragment c.response := by
  unfold Session.respond
  dsimp only
  split <;> exact ⟨rfl, rfl, rfl⟩

/-! ### Asynchronous events (R304, R305) -/

/-- The oldest event of a group goes out where its record is written and its queue has room. -/
theorem goes_asyncEventDelivery {s : State} {g q : Nat} {e : AsyncEv} {rest : List AsyncEv} (hup : s.boot.controlUp = true)
    (hl : s.cme.asyncs.get g [] = e :: rest) (hrec : s.unrecorded g e = false) (hq : s.asyncQueue g e = some q)
    (hroom : (s.queue q).posted + (s.queue q).inFlight + 1 ≤ (s.queue q).depth - 1) :
    Goes (.asyncEventDelivery g) s (({ s with cme := { s.cme with asyncs := s.cme.asyncs.set g [] rest } } : State).writeEntry q
      { src := .pcie q, cid := 0xFFFF, isAsync := true, rung := 7, result := e.result (s.queue q).version }) := by
  show execAsyncEventDelivery g s = _
  simp only [execAsyncEventDelivery, hup, hl, Bool.not_true, Bool.false_eq_true, if_false]
  rw [List.find?_cons_of_pos]
  · simp only [hq, List.erase_cons_head]
    rfl
  · simp only [hrec, hq, hroom, decide_true, Bool.not_false, Bool.and_self]

/-! ### The statements -/

/-- Settles O30: each row meets its guard, and a closed queue has abandoned what was in flight. -/
theorem queueControlChangesState : Obligations.QueueControlChangesState := by
  unfold Obligations.QueueControlChangesState
  refine ⟨fun s fn q r hup hq hr => ?_, fun x fn y => ⟨rfl, rfl, rfl, rfl, rfl, rfl, rfl, rfl⟩,
    fun s fn hup hown => ⟨goes_queueClose hup hown, goes_queueReset hup hown⟩, fun s q hopen => State.state_closeQueue hopen,
    fun s q hclosing hdue => goes_queueCloseTimeout hclosing hdue, fun x => ⟨rfl, rfl, ?_⟩⟩
  · subst hq hr
    exact ⟨goes_queueOpen_of_refused hup, fun hr => hr ▸ goes_queueOpen_of_good hup hr⟩
  · simp [Queue.closeNow, Queue.abandon]

/-- Settles O34: a fetch and a read each meet one case of their row, and an entry with an unknown opcode is the last of its queue
to join those in flight, so its number names it alone. -/
theorem fetchedEntriesAreTaken : Obligations.FetchedEntriesAreTaken := by
  unfold Obligations.FetchedEntriesAreTaken
  refine ⟨fun s t q c u e hready hfetching hnext ht => ht ▸ goes_submissionFetch e hready hfetching hnext,
    fun s q e d hop hfresh => ⟨_, rfl, rfl, rfl, State.done_takeEntry_of_unknown d hop ?_⟩,
    fun s q cid d h hh => hh ▸ rfl,
    fun s q k a fed hfetch hready => goes_hostReadFault_of_fetch k a fed hfetch hready,
    fun s q p h k a fed f hsrc hf hwaits hkind => ends_hostReadFault q k a fed hsrc hf hwaits hkind⟩
  simpa using hfresh

/-- Settles O35: the oldest completion of each source goes out by the case of its source, and what a queue's message does leaves
its ring. That an asynchronous event waits for its record is the model's choice (log entry 100). -/
theorem completionsAreWritten : Obligations.CompletionsAreWritten := by
  unfold Obligations.CompletionsAreWritten
  refine ⟨fun s q c rest hup hdrain hdone => goes_completionWrite_pcie hdrain hup hdone, fun s q c hopen => ?_,
    fun s x c rest hup hdrain hdone => goes_completionWrite_framed hdrain hup hdone, fun s hf => ?_, Session.respond_response,
    fun s c rest hdrain hdone => goes_completionWrite_jtag hdrain hdone,
    fun s q d hdue hd hup => goes_interruptCoalesceExpiry hdue hd hup,
    fun s fn v hon hfn hv => State.raiseMsix_of_unmasked hon hfn hv,
    fun s g e rest q hup hl hrec hq hroom => goes_asyncEventDelivery hup hl hrec hq hroom⟩
  · obtain ⟨hdma, htail, hstate⟩ := s.writeEntry_ring q c
    exact ⟨hdma, htail, State.closeDone_of_not_closing (by simp [hstate, hopen])⟩
  · rw [State.sendUart_of_frames hf]
    exact ⟨rfl, rfl⟩

end Sys2Proof.Machine
end

section
/-! SUPPORT. Chapter 8's framed paths: what the JTAG mailbox answers to a bad frame, the tries of the outbox, and the crossings
that are not acknowledged. -/
namespace Sys2Proof.Machine

/-! ### Frames in the mailbox (R307, R438) -/

/-- A frame whose length does not match is answered with a NAK behind the frames that the session has not given up. -/
theorem Session.receive_of_bad_length (y : Session) (now : Nat) {f : Bytes} (hf : f.length ≠ 12 + fld f 6 2) :
    y.receive now f = .answer (y.nak (fld f 2 1) 0x0104) := by
  simp [Session.receive, hf]

/-- A NAK in the mailbox fills its response register together with the frames that its session holds. -/
theorem goes_jtagMailboxFrame_of_bad_length {s : State} {f : Bytes} (hup : s.boot.pwrOk = true) (hf : f.length ≠ 12 + fld f 6 2) :
    Goes (.jtagMailboxFrame f) s { s with cme := { s.cme with
      jtagSession := { s.cme.jtagSession with building := none, frames := [] },
      jtagResponse := s.cme.jtagSession.frames.flatten ++ nakFrame (fld f 2 1) 0x0104 } } := by
  show execJtagMailboxFrame f s = _
  simp [execJtagMailboxFrame, hup, Session.receive_of_bad_length _ _ hf, Session.nak]

/-- The part with PWR_OK up, whose mailbox session holds a frame that nothing has taken. -/
def heldMailboxFrame : State :=
  { boot := { pwrOk := true }, cme := { jtagSession := { maxFragment := 4096, frames := [[0]] } } }

/-! ### The outbox (R308) -/

section Outbox
variable {s : State} {m : OutMsg} (hup : s.boot.controlUp = true) (hm : s.nextOut = some m)
include hup hm

theorem goes_outboxRetry_of_last_unit (hu : m.units.length ≤ 1) : Goes (.outboxRetry true) s
    { s with cme := { s.cme with outbox := s.cme.outbox.erase m }, io := { s.io with mctp := m.units.take 1 } } := by
  show execOutboxRetry true s = _
  simp [execOutboxRetry, hup, hm, hu]

theorem goes_outboxRetry_of_more_units (hu : 1 < m.units.length) : Goes (.outboxRetry true) s { s with
    cme := { s.cme with outbox := s.cme.outbox.map (fun x => if x = m then
      { m with units := m.units.drop 1, tries := if 9 ≤ m.tries then 9 else 0, dueAt := s.now } else x) },
    io := { s.io with mctp := m.units.take 1 } } := by
  show execOutboxRetry true s = _
  simp [execOutboxRetry, hup, hm, Nat.not_le.2 hu]

theorem goes_outboxRetry_of_tries_left (ht : m.tries < 8) : Goes (.outboxRetry false) s { s with cme := { s.cme with
    outbox := s.cme.outbox.map (fun x => if x = m then
      { m with tries := m.tries + 1, dueAt := s.now + retryWait (m.tries + 1) } else x) } } := by
  show execOutboxRetry false s = _
  simp [execOutboxRetry, hup, hm, ht]

theorem goes_outboxRetry_of_last_try (ht : m.tries = 8) : Goes (.outboxRetry false) s (s.holdMessage m) := by
  show execOutboxRetry false s = _
  simp [execOutboxRetry, hup, hm, ht]

theorem goes_outboxRetry_of_held (ht : 8 < m.tries) : Goes (.outboxRetry false) s { s with cme := { s.cme with
    outbox := s.cme.outbox.map (fun x => if x = m then { m with dueAt := s.now + 1000000 } else x) } } := by
  show execOutboxRetry false s = _
  simp [execOutboxRetry, hup, hm, Nat.not_lt.2 (Nat.le_of_lt ht), Nat.ne_of_gt ht]

end Outbox

/-! ### Crossings that are not acknowledged (R309) -/

section Crossing
variable {s : State} {i : Nat} (fn : Nat) (hpos : 1 ≤ i) (hi : i ≤ 6)
include hpos hi

theorem ends_islandCrossingTimeout {h : Hdr} {f : Flight} (hf : s.flightFor h = some f) (hisland : f.island = i)
    (hlate : f.islandAt + 64 ≤ s.now) :
    Ends (.islandCrossingTimeout fn i (some h)) h (err 0x0704 (le 1 i)) s (s.countTimeout (s.fnOf h.src) i) := by
  have hone : ¬ (i = 0 ∨ 6 < i) := by omega
  show execIslandCrossingTimeout fn i (some h) s = _
  simp only [execIslandCrossingTimeout, hone, hf, hisland, hlate, and_self, if_true, if_false]
  rfl

theorem goes_islandCrossingTimeout_of_access {a : RegAccess} (ha : s.lateAccess fn i = some a) :
    Goes (.islandCrossingTimeout fn i none) s (s.endAccess a i) := by
  have hone : ¬ (i = 0 ∨ 6 < i) := by omega
  show execIslandCrossingTimeout fn i none s = _
  simp only [execIslandCrossingTimeout, hone, ha, if_false]

end Crossing

/-- A crossing that is not acknowledged counts once in CME_ISLAND_TIMEOUTS, whatever function can see it. -/
theorem State.islandTimeouts_countTimeout (s : State) (fn : Option Nat) (i : Nat) :
    (s.countTimeout fn i).cme.islandTimeouts = satAdd 32 s.cme.islandTimeouts 1 := by
  cases fn with
  | none => rfl
  | some n =>
    simp only [State.countTimeout]
    split <;> rfl

theorem State.readData_endAccess_of_read (s : State) {a : RegAccess} (i : Nat) (ha : a.write = none) :
    (s.endAccess a i).io.readData = some 0xFFFFFFFF := by
  simp [State.endAccess, ha]

theorem State.io_endAccess_of_write (s : State) {a : RegAccess} (i : Nat) (ha : a.write ≠ none) :
    (s.endAccess a i).io = s.io := by
  simp [State.endAccess, ha]

/-! ### The statements -/

/-- Refutes O36: a frame of a wrong length in the mailbox is answered with a NAK alone only where the mailbox's session holds no
frame, which the statement does not assume; in `heldMailboxFrame` the frame that it holds goes ahead of the NAK. -/
theorem not_framesAreAnswered : ¬ Obligations.FramesAreAnswered := by
  unfold Obligations.FramesAreAnswered
  rintro ⟨-, -, -, -, -, -, -, -, -, -, hshort, -⟩
  have hf : ([] : Bytes).length ≠ 12 + fld [] 6 2 := by decide
  obtain ⟨t, hgoes, hresponse, -⟩ := hshort heldMailboxFrame [] rfl hf
  have hnext := Host.Outcome.next.inj (hgoes.symm.trans (goes_jtagMailboxFrame_of_bad_length rfl hf))
  rw [hnext] at hresponse
  have hheld : heldMailboxFrame.cme.jtagSession.frames.flatten = [] := List.append_left_eq_self.1 hresponse
  exact absurd hheld (by decide)

/-- Settles O37: a retry meets one case of its message's state, and a timeout one case of what waited. -/
theorem outboxAndIslandLimits : Obligations.OutboxAndIslandLimits := by
  unfold Obligations.OutboxAndIslandLimits
  exact ⟨fun s m hup hm => ⟨goes_outboxRetry_of_last_unit hup hm, goes_outboxRetry_of_more_units hup hm,
      goes_outboxRetry_of_tries_left hup hm, goes_outboxRetry_of_last_try hup hm, goes_outboxRetry_of_held hup hm⟩,
    fun s fn i h f hpos hi hf hisland hlate => ends_islandCrossingTimeout fn hpos hi hf hisland hlate,
    fun s fn i => s.islandTimeouts_countTimeout fn i,
    fun s fn i a hpos hi ha => ⟨goes_islandCrossingTimeout_of_access fn hpos hi ha, s.readData_endAccess_of_read i,
      s.io_endAccess_of_write i⟩⟩

end Sys2Proof.Machine
end

section
/-! SUPPORT. The receipt forge (chapter 9): a receipt command's outcomes and the numbers that its snapshot takes, the metering
commands, and how a period closes and its record is signed. -/
namespace Sys2Proof.Machine

theorem State.rfg_started (s : State) (h : Hdr) : (s.started h).rfg = s.rfg := by simp

/-! ### Sequence numbers (R315, R316) -/

/-- What makes up the sequence numbers: the base, and the next number of each queue. -/
def State.numbers (s : State) : Nat × (Nat → Nat) := (s.rfg.base, fun q => (s.rfg.counts.get q {}).nextSeq)

/-- The numbers lie in the forge. -/
theorem State.numbers_congr {s t : State} (hrfg : t.rfg = s.rfg) : t.numbers = s.numbers := by
  simp only [State.numbers, hrfg]

/-- Changing a queue's counts changes the next number of that queue alone. -/
theorem State.numbers_updCount (s : State) {q : Nat} (f : QCount → QCount) (hq : q < 4096) :
    (s.updCount q f).numbers =
      (s.numbers.1, fun p => if p = q then (f (s.rfg.counts.get q {})).nextSeq else s.numbers.2 p) := by
  simp only [State.updCount, if_pos hq, State.numbers]
  refine congrArg _ (funext fun p => ?_)
  by_cases hp : p = q
  · subst hp
    rw [if_pos rfl, Tab.get_upd_same]
  · rw [if_neg hp, Tab.get_upd_ne _ _ _ hp]

/-- A change of counts that keeps the next number keeps every number. -/
theorem State.numbers_countIn (s : State) (id q : Nat) {f : QCount → QCount} (hf : ∀ c, (f c).nextSeq = c.nextSeq) :
    (s.countIn id q f).numbers = s.numbers := by
  unfold State.countIn
  split
  · by_cases hq : q < 4096
    · rw [s.numbers_updCount f hq, hf]
      refine congrArg _ (funext fun p => ?_)
      by_cases hp : p = q
      · subst hp
        exact if_pos rfl
      · exact if_neg hp
    · rw [State.updCount, if_neg hq]
  · rfl

/-- Ending a command takes no number. -/
theorem State.numbers_complete (s : State) (h : Hdr) (r : Reply) : (complete h r s).numbers = s.numbers :=
  State.numbers_congr (by simp)

/-- The record of a voided receipt takes no number. -/
theorem State.numbers_logVoid (s : State) (q seq status : Nat) : (s.logVoid q seq status).numbers = s.numbers :=
  State.numbers_congr (by simp)

/-- Submitting operations takes no number. -/
theorem State.numbers_foldl_submitOp {α : Type} (o : State → α → HOp) (l : List α) (s : State) :
    (l.foldl (fun t a => t.submitOp (o t a)) s).numbers = s.numbers :=
  State.numbers_congr (by simp)

/-- A voided receipt keeps its number, and none is taken (R331). -/
theorem State.numbers_voidReceipt (s : State) (b : Building) (status : Nat) : (s.voidReceipt b status).numbers = s.numbers := by
  simp only [State.voidReceipt, State.numbers_complete, State.numbers_logVoid]
  exact State.numbers_countIn _ _ _ fun _ => rfl

/-- A receipt's wall time raises LAST_WALL and LAST_EPOCH at most (R325). -/
theorem State.numbers_receiptWall (s : State) : s.receiptWall.2.2.numbers = s.numbers := by
  unfold State.receiptWall
  split
  · rfl
  · split <;> rfl

/-- A snapshot takes the next number of its queue, also where it is voided at once (R315, R331). -/
theorem State.numbers_snapshot (s : State) (h : Hdr) (x : Ask) (hq : x.queue < 4096) :
    (s.snapshot h x).numbers = (s.numbers.1, fun p => if p = x.queue then s.numbers.2 x.queue + 1 else s.numbers.2 p) := by
  have htaken (f : QCount → QCount) (hf : ∀ c, (f c).nextSeq = c.nextSeq + 1) : (s.receiptWall.2.2.updCount x.queue f).numbers =
      (s.numbers.1, fun p => if p = x.queue then s.numbers.2 x.queue + 1 else s.numbers.2 p) := by
    rw [State.numbers_updCount _ f hq, hf, ← s.numbers_receiptWall]
    rfl
  simp only [State.snapshot, apply_ite State.numbers, State.numbers_voidReceipt, State.numbers_foldl_submitOp, ite_self]
  refine htaken _ fun c => ?_
  rfl

/-! ### The receipt commands (Table 9-8) -/

section ReceiptCommands
variable {s : State} {h : Hdr}

/-- What RECEIPT_SIGN asks for on queue q, with the queue's record in the place of FORMAT 0 and ALG 0 (R318). -/
def State.signAsk (s : State) (q f g a : Nat) (digest : Bytes) : Ask :=
  { queue := q, format := if f = 0 then (s.receiptRec q).1 else f, alg := if g = 0 then (s.receiptRec q).2.1 else g, outAddr := a,
    digests := [digest] }

/-- What RECEIPT_BATCH asks for on queue q: a batch is of format 2 (R324). -/
def State.batchAsk (s : State) (q g a : Nat) (digests : List Bytes) : Ask :=
  { queue := q, format := 2, alg := if g = 0 then (s.receiptRec q).2.1 else g, outAddr := a, isBatch := true, digests := digests }

/-- What becomes of a ready row that asks for receipt x in o bytes: its snapshot is taken, or it waits for a lane, when no check
of Table 9-7 refuses it; a check that refuses it ends it, and it is counted. -/
def ReceiptOutcome (c : Instr) (h : Hdr) (s : State) (x : Ask) (o : Nat) : Prop :=
  ((s.started h).receiptRefusal x o = 0 → Goes c s
    (if (s.started h).laneFor (s.stamp h) = true then (s.started h).snapshot (s.stamp h) x
      else (s.started h).waitLane (s.stamp h) .bellows)) ∧
  ((s.started h).receiptRefusal x o ≠ 0 →
    Ends c h (err ((s.started h).receiptRefusal x o)) s ((s.started h).countRefused x.queue))

theorem receiptOutcome_of_startReceipt {c : Instr} {op : Op} {body : Hdr → State → Option Reply × State} {x : Ask} {o : Nat}
    (hr : Ready s h op) (hc : exec c s = .next (command op h true s body))
    (hbody : body (s.stamp h) (s.started h) = (s.started h).startReceipt (s.stamp h) x o) : ReceiptOutcome c h s x o := by
  refine ⟨fun hpasses => hc.trans (congrArg _ (command_goes hr (hbody.trans ?_))),
    fun hrefused => hc.trans (congrArg _ (command_ends hr (hbody.trans (if_pos hrefused))))⟩
  cases hlane : (s.started h).laneFor (s.stamp h) <;> simp [State.startReceipt, hpasses, hlane]

theorem receiptOutcome_receiptSign {f g n o da a : Nat} (d : Bytes)
    (hr : Ready s h (opReceiptSign.on (le 1 f ++ le 1 g ++ le 1 n ++ zeros 1 ++ le 4 o ++ le 8 da ++ le 8 a)))
    (hrange : f ≤ 2 ∧ g ≤ 4) (hn : digestLenOk n = true) (hda : s.readAddrOk h da n = true) (ha : s.writeAddrOk h a = true) :
    ReceiptOutcome (.receiptSign h f g n o da a d) h s
      ((s.started h).signAsk ((s.started h).queueOf h.src) f g a (fixLen n (s.inputOf h da n d))) o := by
  have hrow : exec (.receiptSign h f g n o da a d) s = execReceiptSign h f g n o da a d s := rfl
  simp only [execReceiptSign, decide_eq_true hrange, hn, hda, ha, Bool.and_true] at hrow
  exact receiptOutcome_of_startReceipt hr hrow rfl

theorem receiptOutcome_receiptBatch {f g n k o la a : Nat} (d : Bytes)
    (hr : Ready s h (opReceiptBatch.on
      (le 1 f ++ le 1 g ++ le 1 n ++ zeros 1 ++ le 2 k ++ zeros 2 ++ le 4 o ++ zeros 4 ++ le 8 la ++ le 8 a)))
    (hrange : (f = 0 ∨ f = 2) ∧ g ≤ 4 ∧ 1 ≤ k ∧ k ≤ 256) (hn : digestLenOk n = true) (hla : s.readAddrOk h la (n * k) = true)
    (ha : s.writeAddrOk h a = true) :
    ReceiptOutcome (.receiptBatch h f g n k o la a d) h s ((s.started h).batchAsk ((s.started h).queueOf h.src) g a
      ((List.range k).map (fun i => slice (s.inputOf h la (n * k) d) (n * i) n))) o := by
  have hrow : exec (.receiptBatch h f g n k o la a d) s = execReceiptBatch h f g n k o la a d s := rfl
  simp only [execReceiptBatch, decide_eq_true hrange, hn, hla, ha, Bool.and_true] at hrow
  exact receiptOutcome_of_startReceipt hr hrow rfl

theorem reads_receiptKeys {a : Nat} (hr : Ready s h (opReceiptKeys.on (le 8 a))) (ha : s.writeAddrOk h a = true) :
    Reads (.receiptKeys h a) h (okOut a (s.started h).receiptKeys (le 4 (s.started h).receiptKeys.length)) s := by
  show execReceiptKeys h a s = _
  simp only [execReceiptKeys, ha, commandR_ready hr]

/-- The checkpoint is due every 10 ms while the forge runs (R316, R326, R363). -/
theorem goes_forgeCheckpoint (hup : s.boot.forgeUp = true) (hdue : s.rfg.checkpointAt + 10000 ≤ s.now) :
    Goes .forgeCheckpoint s s.writeCheckpoint := by
  show execForgeCheckpoint s = _
  exact if_pos ⟨hup, hdue⟩

end ReceiptCommands

/-! ### The metering commands (Table 9-12) -/

section MeterCommands
variable {s : State} {h : Hdr}

theorem reads_meterStatus {a : Nat} (hr : Ready s h (opMeterStatus.on (le 8 a))) (ha : s.writeAddrOk h a = true) :
    Reads (.meterStatus h a) h (okOut a ((s.started h).meterHeader ++
      ((s.started h).meteredQueues h.src).flatMap (fun q => (s.rfg.counts.get q {}).entry q))
      (le 2 ((s.started h).meteredQueues h.src).length)) s := by
  show execMeterStatus h a s = _
  simp only [execMeterStatus, ha, commandR_ready hr, State.rfg_started, State.stamp]

section MeterRecord
variable {p o a : Nat} (hr : Ready s h (opMeterRecord.on (le 4 p ++ le 4 o ++ le 8 a))) (ha : s.writeAddrOk h a = true)
include hr ha

theorem reads_meterRecord_of_open (hopen : s.rfg.period.map Period.id = some p) : Reads (.meterRecord h p o a) h (err 0x0481) s := by
  show execMeterRecord h p o a s = _
  simp only [execMeterRecord, ha]
  exact congrArg _ (commandR_reads hr (by simp only [State.rfg_started, hopen, if_true]))

theorem reads_meterRecord_of_not_held (hopen : s.rfg.period.map Period.id ≠ some p)
    (hnone : s.rfg.records.find? (fun r => r.id == p && !r.record.isEmpty) = none) :
    Reads (.meterRecord h p o a) h (err 0x0480) s := by
  show execMeterRecord h p o a s = _
  simp only [execMeterRecord, ha]
  exact congrArg _ (commandR_reads hr (by simp only [State.rfg_started, hopen, hnone, if_false]))

variable {r : PeriodRec} (hopen : s.rfg.period.map Period.id ≠ some p)
  (hheld : s.rfg.records.find? (fun r => r.id == p && !r.record.isEmpty) = some r) (hfits : r.record.length ≤ o)
include hopen hheld hfits

theorem reads_meterRecord_of_held :
    Reads (.meterRecord h p o a) h (if r.unsigned = true ∧ (s.started h).quenched = true
      then { okOut a r.record (le 4 r.record.length) with status := 0x0470 } else okOut a r.record (le 4 r.record.length)) s := by
  show execMeterRecord h p o a s = _
  simp only [execMeterRecord, ha]
  exact congrArg _ (commandR_reads hr (by simp only [State.rfg_started, hopen, hheld, Nat.not_lt.2 hfits, if_false]))

end MeterRecord

/-- s with the acknowledged mark raised to period p, and the open period as given. -/
def State.acknowledge (s : State) (p : Nat) (o : Option Period) : State :=
  { s with rfg := { s.rfg with acked := max s.rfg.acked p, period := o } }

/-- METER_ACK of a closed period raises the mark, and moves at most the end of the open period (R343). -/
theorem ends_meterAck {p : Nat} (hr : Ready s h (opMeterAck.on (le 4 p))) (hclosed : p ≤ s.rfg.newestClosed) :
    ∃ o, Ends (.meterAck h p) h ok s ((s.started h).acknowledge p o) := by
  have hacked : ¬ (s.started h).rfg.newestClosed < p := by rw [State.rfg_started]; omega
  have hrow : exec (.meterAck h p) s = execMeterAck h p s := rfl
  simp only [execMeterAck, commandC_ready hr, if_neg hacked] at hrow
  split at hrow
  · split at hrow <;> exact ⟨_, hrow⟩
  · exact ⟨_, hrow⟩

theorem reads_meterAck_of_not_closed {p : Nat} (hr : Ready s h (opMeterAck.on (le 4 p))) (hopen : s.rfg.newestClosed < p) :
    Reads (.meterAck h p) h (err 0x0480) s := by
  refine congrArg _ (commandC_ends hr (if_pos ?_))
  rwa [State.rfg_started]

section MeterClose
variable {t : State} (hr : Ready s h opMeterClose) (ht : t = (s.started h).closePeriod 8)
include hr ht

theorem ends_meterClose_of_closed (hclosed : t.rfg.newestClosed ≠ s.rfg.newestClosed) :
    Ends (.meterClose h) h (ok (le 4 t.rfg.newestClosed)) s t := by
  subst ht
  rw [← s.rfg_started h] at hclosed
  exact congrArg _ (commandC_ends hr (if_neg hclosed))

/-- METER_CLOSE that leaves the period open ends with 0x0481 (log entry 53). -/
theorem ends_meterClose_of_extended (hopen : t.rfg.newestClosed = s.rfg.newestClosed) :
    Ends (.meterClose h) h (err 0x0481) s t := by
  subst ht
  rw [← s.rfg_started h] at hopen
  exact congrArg _ (commandC_ends hr (if_pos hopen))

end MeterClose

end MeterCommands

/-! ### Periods (R336, R344) -/

section Periods
variable {s : State}

theorem goes_periodBoundary {p : Period} (hp : s.rfg.period = some p) (hup : s.boot.forgeUp = true) (hset : s.emb.wallSet = true)
    (hanchored : p.anchored = true) (hend : p.endWall ≤ s.wall) : Goes .periodBoundary s (s.closePeriod 0) := by
  show execPeriodBoundary s = _
  simp only [execPeriodBoundary, hp, hup, hset, hanchored, hend, and_self, if_true]

/-- A close with room in the ring appends the period's record, and the period is the newest closed. -/
theorem State.closePeriod_of_ringRoom {p : Period} {f : Nat} (hp : s.rfg.period = some p)
    (hroom : s.ringRoom (s.periodRec p f (f.testBit 3)) = true) :
    (s.closePeriod f).rfg.newestClosed = p.id ∧ (s.closePeriod f).rfg.records = s.rfg.records ++ [s.periodRec p f (f.testBit 3)] := by
  simp only [State.closePeriod, hp, hroom, Bool.not_true, Bool.false_eq_true, if_false]
  exact ⟨rfl, rfl⟩

section RecordSign
variable {r : PeriodRec} (hr : s.rfg.records.find? (fun r => r.record.isEmpty) = some r) (hup : s.boot.forgeUp = true)
  (hreceipts : s.receiptsOpen r.id = false) (hsigning : s.signingPeriod r.id = false)
include hr hup hreceipts hsigning

/-- After a quench the record is kept unsigned (R344). -/
theorem goes_periodRecordSign_of_quenched (hquenched : s.quenched = true) : Goes .periodRecordSign s (s.finishPeriod r.id) := by
  show execPeriodRecordSign s = _
  simp only [execPeriodRecordSign, hr, hup, hreceipts, hsigning, hquenched, Bool.not_true, Bool.or_self, Bool.false_eq_true, if_false,
    if_true]

theorem goes_periodRecordSign_of_key (hkey : s.cru.store.metering ≠ []) (hquenched : s.quenched = false)
    (hhammer : s.hammerUnavailable = false) (hdrbg : s.clusterDrbg = true) :
    Goes .periodRecordSign s (s.submitOp { op := 0x02, cls := .system, req := .period r.id }) := by
  have hheld : s.cru.store.metering.isEmpty = false := by simpa using hkey
  show execPeriodRecordSign s = _
  simp only [execPeriodRecordSign, hr, hup, hreceipts, hsigning, hquenched, hheld, hhammer, hdrbg, Bool.not_true, Bool.or_self,
    Bool.false_eq_true, if_false]

end RecordSign

end Periods

/-! ### The statements -/

/-- Settles O38: what the checks of Table 9-7 answer chooses a receipt command's case, and a snapshot changes its own queue's next
number alone. That a command which finds no lane waits until its row is sent again is the model's choice (log entry 85). -/
theorem receiptsTakeTheirNumbers : Obligations.ReceiptsTakeTheirNumbers := by
  unfold Obligations.ReceiptsTakeTheirNumbers
  refine ⟨fun s h f g n o da a d q x hr hf hg hn hda ha hq hx => ?_,
    fun s h f g n k o la a d q x hr hf hg hpos hk hn hla ha hq hx => ?_,
    fun s h x hqueue => ?_,
    fun s h a hr ha => reads_receiptKeys hr ha,
    fun s hup hdue => goes_forgeCheckpoint hup hdue⟩
  · subst hx hq
    exact receiptOutcome_receiptSign d hr ⟨hf, hg⟩ hn hda ha
  · subst hx hq
    exact receiptOutcome_receiptBatch d hr ⟨hf, hg, hpos, hk⟩ hn hla ha
  · obtain ⟨hbase, hnext⟩ := Prod.mk.inj (s.numbers_snapshot h x hqueue)
    exact ⟨(congrFun hnext x.queue).trans (if_pos rfl), fun q hne => (congrFun hnext q).trans (if_neg hne), hbase⟩

/-- Settles O39: each command runs in one case of its row, and each event meets its guard. That METER_CLOSE answers 0x0481 where the
ring has no room for the record is the model's choice (log entry 53). -/
theorem meteringComplete : Obligations.MeteringComplete := by
  unfold Obligations.MeteringComplete
  refine ⟨fun s h a qs hr ha hqs => hqs ▸ reads_meterStatus hr ha,
    fun s h p o a r hr ha hopen hheld hfits => ?_,
    fun s h p o a hr ha => ⟨reads_meterRecord_of_open hr ha, reads_meterRecord_of_not_held hr ha⟩,
    fun s h p hr => ⟨fun hclosed => ?_, reads_meterAck_of_not_closed hr⟩,
    fun s h t hr ht => ⟨ends_meterClose_of_closed hr ht, ends_meterClose_of_extended hr ht⟩,
    fun s p hp hup hset hanchored hend => goes_periodBoundary hp hup hset hanchored hend,
    fun s p f hp hroom => State.closePeriod_of_ringRoom hp hroom,
    fun s r hr hup hreceipts hsigning => ⟨goes_periodRecordSign_of_quenched hr hup hreceipts hsigning,
      goes_periodRecordSign_of_key hr hup hreceipts hsigning⟩⟩
  · have hreads := reads_meterRecord_of_held hr ha hopen hheld hfits
    exact ⟨fun hkept => by rwa [if_neg hkept] at hreads, fun hunsigned hquenched => by rwa [if_pos ⟨hunsigned, hquenched⟩] at hreads⟩
  · obtain ⟨o, hends⟩ := ends_meterAck hr hclosed
    refine ⟨_, hends, ?_, ?_⟩
    · rw [State.acknowledge, State.rfg_started]
    · rw [← s.rfg_started h]
      rfl

end Sys2Proof.Machine
end

section
/-! SUPPORT. Chapter 10's attestation: the commands of Table 10-12, the generations of the Platform State Digest, and the one build
of the certificates. -/
namespace Sys2Proof.Machine

theorem State.atr_started (s : State) (h : Hdr) : (s.started h).atr = s.atr := by simp

theorem State.cru_started (s : State) (h : Hdr) : (s.started h).cru = s.cru := by simp

/-! ### PSD_READ and PSD_CHANGES (R365, R366, R370) -/

section PsdCommands
variable {s : State} {h : Hdr} {a : Nat} (ha : s.writeAddrOk h a = true)
include ha

theorem reads_psdRead (hr : Ready s h (opPsdRead.on (le 8 a))) :
    Reads (.psdRead h a) h (okOut a s.atr.preimage (le 8 s.atr.gen ++ s.atr.psd.take 16)) s := by
  show execPsdRead h a s = _
  rw [execPsdRead, ha]
  exact congrArg _ (commandR_reads hr (by rw [State.atr_started]))

variable {g n : Nat} (hr : Ready s h (opPsdChanges.on (le 8 g ++ le 2 n ++ zeros 6 ++ le 8 a))) (hn : 1 ≤ n ∧ n ≤ 4096)
include hr hn

theorem ends_psdChanges_of_lost (hlost : g < s.atr.oldestGen) : Ends (.psdChanges h g n a) h (err 0x0490) s
    { s.started h with atr := { s.atr with lostHit := true } } := by
  show execPsdChanges h g n a s = _
  rw [execPsdChanges, ha, decide_eq_true hn]
  refine congrArg _ (commandC_ends hr ?_)
  rw [State.atr_started, if_pos hlost]

theorem reads_psdChanges {l : List PsdChange} (hl : l = cutToLast ((s.atr.history.filter (fun r => decide (g ≤ r.gen))).take n))
    (hheld : s.atr.oldestGen ≤ g) : Reads (.psdChanges h g n a) h (okOut a (l.flatMap PsdChange.bytes)
      (le 2 l.length ++ zeros 6 ++ le 8 ((l.getLast?.map (fun r => r.gen + 1)).getD g))) s := by
  show execPsdChanges h g n a s = _
  rw [execPsdChanges, ha, decide_eq_true hn]
  refine congrArg _ (commandC_ends hr ?_)
  rw [State.atr_started, if_neg (Nat.not_lt.2 hheld), ← hl]
  dsimp only
  cases l.getLast? <;> rfl

end PsdCommands

/-! ### CONFIG_DIGEST (R368, R370) -/

/-- The live configuration block that CONFIG_DIGEST gives: the current CED's, the one that image i would have, or that of now. -/
def State.digestLive (s : State) (w : Nat) (i : Image) : Bytes :=
  if w = 0 then s.atr.live else if w = 1 then s.liveBlockWith i.cap (fld (i.sec 0x40) 1 1) else s.liveBlock

/-- The CED preimage that goes with it. -/
def State.digestPre (s : State) (w : Nat) (i : Image) : Bytes :=
  if w = 0 then s.atr.cedPre else if w = 1 then cedHead (some i) (s.pol.epoch + 1) ++ sha384 (s.digestLive w i)
  else cedHead s.image s.pol.epoch ++ sha384 (s.digestLive w i)

/-- What CONFIG_DIGEST writes: the CED, its preimage and its live configuration block. -/
def State.digestOut (s : State) (w : Nat) (i : Image) : Bytes :=
  sha384 (s.digestPre w i) ++ s.digestPre w i ++ s.digestLive w i

section ConfigDigest
variable {s : State} {h : Hdr} {w n a : Nat} (hr : Ready s h (opConfigDigest.on (le 1 w ++ zeros 3 ++ le 4 n ++ le 8 a)))
  (hw : w < 3) (ha : s.writeAddrOk h a = true)
include hr hw ha

theorem reads_configDigest {i : Image} (hstaged : w = 1 → s.staged = some i) : Reads (.configDigest h w n a) h
    (if n < ((s.started h).digestOut w i).length then err 0x0370
      else okOut a ((s.started h).digestOut w i) (le 4 ((s.started h).digestOut w i).length)) s := by
  show execConfigDigest h w n a s = _
  rw [execConfigDigest, ha, decide_eq_true hw]
  refine congrArg _ (commandR_reads hr ?_)
  match w, hw with
  | 0, _ => rfl
  | 1, _ =>
    have hs : (s.started h).staged = some i := (s.staged_started h).trans (hstaged rfl)
    simp only [hs]
    rfl
  | 2, _ => rfl

end ConfigDigest

theorem reads_configDigest_of_unstaged {s : State} {h : Hdr} {n a : Nat}
    (hr : Ready s h (opConfigDigest.on (le 1 1 ++ zeros 3 ++ le 4 n ++ le 8 a))) (ha : s.writeAddrOk h a = true)
    (hstaged : s.staged = none) : Reads (.configDigest h 1 n a) h (err 0x0440) s := by
  show execConfigDigest h 1 n a s = _
  rw [execConfigDigest, ha]
  refine congrArg _ (commandR_reads hr (if_pos ⟨rfl, ?_⟩))
  rw [State.staged_started, hstaged, Option.isNone_none]

/-! ### The certificates of the slots (R350, R370) -/

theorem reads_identityCerts {s : State} {h : Hdr} {w n a : Nat} {cs : List Bytes} {out : Bytes}
    (hr : Ready s h (opIdentityCerts.on (le 1 w ++ zeros 3 ++ le 4 n ++ le 8 a))) (hw : w < 3) (ha : s.writeAddrOk h a = true)
    (hcs : cs = (if w = 2 then s.atr.leafCerts else (s.started h).slotCerts w).filter (fun c => !c.isEmpty))
    (hout : out = cs.flatMap (fun c => le 2 c.length ++ c)) : Reads (.identityCerts h w n a) h
      (if n < out.length then err 0x0370 else okOut a out (le 4 out.length ++ le 1 cs.length)) s := by
  show execIdentityCerts h w n a s = _
  rw [execIdentityCerts, ha, decide_eq_true hw]
  refine congrArg _ (commandR_reads hr ?_)
  rw [State.atr_started, ← hcs, hout]

section CertInstall
variable {s : State} {h : Hdr} {n a : Nat} (hn : n ≤ 4096) (ha : n = 0 ∨ s.readAddrOk h a n = true)
include hn ha

theorem identityCertInstall_inRange : decide (n = 0 ∨ n ≤ 4096 ∧ s.readAddrOk h a n = true) = true :=
  decide_eq_true (ha.imp_right fun ha => ⟨hn, ha⟩)

variable {d : Bytes} (hr : Ready s h (opIdentityCertInstall.on (le 4 n ++ zeros 4 ++ le 8 a)))
include hr

theorem reads_identityCertInstall_of_not_owned (hlc : s.cru.lcState ≠ 4) :
    Reads (.identityCertInstall h n a d) h (err 0x0491) s := by
  show execIdentityCertInstall h n a d s = _
  rw [execIdentityCertInstall, identityCertInstall_inRange hn ha]
  refine congrArg _ (commandC_ends hr (if_pos ?_))
  rwa [State.cru_started]

variable (hlc : s.cru.lcState = 4)
include hlc

theorem reads_identityCertInstall_of_no_chain (hpos : n ≠ 0)
    (hchain : (s.started h).ownerChain (fixLen n (s.inputOf h a n d)) = none) :
    Reads (.identityCertInstall h n a d) h (err 0x0570) s := by
  show execIdentityCertInstall h n a d s = _
  rw [execIdentityCertInstall, identityCertInstall_inRange hn ha]
  refine congrArg _ (commandC_ends hr ?_)
  simp only [State.cru_started, hlc, hchain, if_neg hpos, ne_eq, not_true, if_false]

theorem ends_identityCertInstall_of_chain {cs : List Bytes}
    (hchain : (if n = 0 then some [] else (s.started h).ownerChain (fixLen n (s.inputOf h a n d))) = some cs) :
    Ends (.identityCertInstall h n a d) h ok s
      (({ s.started h with atr := { s.atr with slot1 := cs } } : State).log .control 0x0501 2 0 0) := by
  show execIdentityCertInstall h n a d s = _
  rw [execIdentityCertInstall, identityCertInstall_inRange hn ha]
  refine congrArg _ (commandC_ends hr ?_)
  simp only [State.cru_started, State.atr_started, hlc, hchain, ne_eq, not_true, if_false]

end CertInstall

/-! ### The generations (R362, R363, R365) -/

theorem goes_psdRecomputation {s : State} (hup : s.boot.forgeUp = true) : Goes .psdRecomputation s s.recompute := if_pos hup

/-- The ring of change records holds 4,096 at most (R365). -/
theorem length_appendHistory_le (ring add : List PsdChange) (oldest : Nat) : (appendHistory ring add oldest).1.length ≤ 4096 := by
  simp only [appendHistory, List.length_drop]
  omega

/-- A recomputation that is due makes the next generation, past those that a device start skips (R363). -/
theorem State.recompute_of_pending {s : State} (hpending : s.psdPending = true) :
    s.recompute.atr.gen = s.atr.gen + 1 + s.atr.skip ∧ s.recompute.atr.skip = 0 ∧
    s.recompute.atr.preimage = s.psdPreimage (s.atr.gen + 1 + s.atr.skip) ∧ s.recompute.atr.psd = sha384 s.recompute.atr.preimage ∧
    s.recompute.atr.history.length ≤ 4096 := by
  rw [State.recompute, if_pos hpending]
  dsimp only
  exact ⟨rfl, rfl, rfl, rfl, length_appendHistory_le _ _ _⟩

/-! ### The build of the certificates (R348, R349) -/

/-- s with the DeviceID key erased. -/
def State.forgetDeviceId (s : State) : State :=
  { s with cru := { s.cru with store := { s.cru.store with deviceId := [] } } }

/-- s with the Alias certificate, and with the leaf certificates that the Alias key signs. -/
def State.certified (s : State) (att : Bytes) : State :=
  { s.drawn with atr := { s.atr with
      attCert := att, leafCerts := s.leafBodies.map (fun b => certificate b s.cru.store.attKey s.draws), certsReady := true } }

/-- A build whose signatures all succeed signs the Alias certificate with the DeviceID key, erases that key, and signs the leaf
certificates with the Alias key. -/
theorem goes_certificateBuild {s t v : State} {k : Nat} (hreached : s.boot.reached = true) (hup : s.boot.controlUp = true)
    (hnew : s.atr.certsReady = false) (hkey : s.deviceIdSigns s.attBody = true) (hlanes : s.hammerUnavailable = false)
    (hdrbg : s.clusterDrbg = true) (hsigned : s.tryOwn.signRun (1 + s.leafBodies.length) k = (true, t))
    (hv : v = t.drawn.forgetDeviceId.certified (certificate t.attBody t.cru.store.deviceId t.draws)) :
    Goes (.certificateBuild k) s (s.ownDone (if v.quenched then v.eraseSigningKeys else v)) := by
  have hrun : s.tryOwn.signRun (1 + s.tryOwn.leafBodies.length) k = (true, t) := hsigned
  subst hv
  show execCertificateBuild s k = _
  simp only [execCertificateBuild, hreached, hup, hnew, hkey, hlanes, hdrbg, Bool.not_true, Bool.or_self, Bool.false_eq_true, or_self,
    if_false, ownRow, hrun]
  rfl

/-! ### The statement -/

/-- Settles O40: each command runs in one case of its row, and each event meets its guard. That one row makes all certificates at
once is the model's choice (log entry 108). -/
theorem attestationCommandsComplete : Obligations.AttestationCommandsComplete := by
  unfold Obligations.AttestationCommandsComplete
  refine ⟨fun s h a hr ha => reads_psdRead ha hr,
    fun s h g n a l hr hmin hmax ha hl => ⟨ends_psdChanges_of_lost ha hr ⟨hmin, hmax⟩, reads_psdChanges ha hr ⟨hmin, hmax⟩ hl⟩,
    fun s h w n a i live pre hr hw ha hstaged hlive hpre => ?_,
    fun s h n a hr ha hstaged => reads_configDigest_of_unstaged hr ha hstaged,
    fun s h w n a cs out hr hw ha hcs hout => ?_,
    fun s h n a d hr hn ha => ⟨reads_identityCertInstall_of_not_owned hn ha hr, reads_identityCertInstall_of_no_chain hn ha hr,
      fun cs hlc => ends_identityCertInstall_of_chain hn ha hr hlc⟩,
    fun s => goes_psdRecomputation, fun s => State.recompute_of_pending,
    fun s t u v k hreached hup hnew hkey hlanes hdrbg hsigned hu hv => ?_⟩
  · have hreads := reads_configDigest hr hw ha hstaged
    have hout : (s.started h).digestOut w i = sha384 pre ++ pre ++ live := by
      rw [hpre, hlive, State.digestOut, State.digestPre, State.digestLive, State.atr_started, (s.started_keeps h).2.2.2.2.1]
    rw [hout] at hreads
    exact ⟨fun hfits => by rwa [if_neg (Nat.not_lt.2 hfits)] at hreads, fun hlarge => by rwa [if_pos hlarge] at hreads⟩
  · have hreads := reads_identityCerts hr hw ha hcs hout
    exact ⟨fun hfits => by rwa [if_neg (Nat.not_lt.2 hfits)] at hreads, fun hlarge => by rwa [if_pos hlarge] at hreads⟩
  · subst hu
    exact goes_certificateBuild hreached hup hnew hkey hlanes hdrbg hsigned hv

end Sys2Proof.Machine
end

section
/-! SUPPORT. The SPDM responder (R352 to R358): what a peer's request finds at the gate, and the answer to each request of
Table 10-4. -/
namespace Sys2Proof.Machine

/-! ### The sessions at the end of a row -/

@[simp] theorem State.sessions_stirPsd (s : State) (o : Nat) : (s.stirPsd o).atr.sessions = s.atr.sessions := by
  unfold State.stirPsd
  split <;> rfl

@[simp] theorem State.sessions_noteService (s t : State) : (State.noteService s t).atr.sessions = t.atr.sessions := by
  simp only [State.noteService]
  split <;> split <;> simp

/-- A row whose work has found its lanes or needed none leaves the sessions as its outcome has them. -/
theorem State.sessions_ownDone (s : State) {t : State} (h : t.waitsLane = false) : (s.ownDone t).atr.sessions = t.atr.sessions := by
  rcases State.ownWait_of_not_waitsLane h with hw | hw <;> simp [State.ownDone, hw]

/-! ### What a request finds at the gate (R355, R356) -/

section Gate
variable {s : State} {p : Peer} {r : Bytes} {c : Connection} {stage : Nat} (hconn : s.connOf p = some c) (hstage : c.stage = stage)
include hconn hstage

/-- A request outside a session, at its connection's stage, is checked for its version alone. -/
theorem State.gate_of_outside (hsession : p.session = none) :
    s.gate p r stage = (if reqVersion r ≠ c.version then 0x41 else 0, c) := by
  simp only [State.gate, hconn, hstage, hsession, Option.isSome_none, Bool.false_eq_true, false_and, if_false, ne_eq, not_true]
  split <;> rfl

/-- A request in a session that exists is checked for its version alone too. -/
theorem State.gate_of_session {x : SpdmSession} (hsess : s.sessOf p = some x) :
    s.gate p r stage = (if reqVersion r ≠ c.version then 0x41 else 0, c) := by
  simp only [State.gate, hconn, hstage, hsess, Option.isNone_some, Bool.false_eq_true, and_false, if_false, ne_eq, not_true]
  split <;> rfl

end Gate

section GateBody
variable {s : State} {p : Peer} {r : Bytes} {c : Connection} (hconn : s.connOf p = some c) (hstage : c.stage = 2)
  (hversion : reqVersion r = c.version)
include hconn hstage hversion

/-- A connected peer's request outside a session passes where the row may come outside one. -/
theorem State.gateBody_of_outside (hsession : p.session = none) (inside : Bool) : s.gateBody p r inside true = (0, c) := by
  simp [State.gateBody, State.gate_of_outside hconn hstage hsession, State.sessOf, hsession, hversion]

/-- A request in an established session passes where the row may come in one. -/
theorem State.gateBody_of_established {x : SpdmSession} (hsess : s.sessOf p = some x) (hestablished : x.established = true)
    (outside : Bool) : s.gateBody p r true outside = (0, c) := by
  simp [State.gateBody, State.gate_of_session hconn hstage hsess, hsess, hestablished, hversion]

end GateBody

/-! ### What a row that tries its own work on the lanes reads: the device as it was before -/

@[simp] theorem State.gateBody_tryOwn (s : State) (p : Peer) (r : Bytes) (inside outside : Bool) :
    s.tryOwn.gateBody p r inside outside = s.gateBody p r inside outside := rfl

@[simp] theorem State.mctpUp_tryOwn (s : State) (b : Nat) : s.tryOwn.mctpUp b = s.mctpUp b := rfl

@[simp] theorem State.slotMask_tryOwn (s : State) : s.tryOwn.slotMask = s.slotMask := rfl

@[simp] theorem State.noSigning_tryOwn (s : State) : s.tryOwn.noSigning = s.noSigning := rfl

@[simp] theorem State.signsLater_tryOwn (s : State) : s.tryOwn.signsLater = s.signsLater := rfl

/-! ### The connection (R355, Table 10-5) -/

section Connection
variable {s : State} {p : Peer} {r rsp : Bytes} (hup : s.mctpUp p.binding = true) (hsession : p.session = none)
include hup hsession

theorem goes_getVersion {t : State} (hversion : reqVersion r = 0x10) (hroom : s.connRoom p = some t)
    (hrsp : rsp = [0x10, 0x04, 0, 0, 0, 3] ++ le 2 0x1100 ++ le 2 0x1200 ++ le 2 0x1300) :
    Goes (.getVersion p r) s (({ t with atr := { t.atr with connections := t.atr.connections ++
      [{ binding := p.binding, eid := p.eid, lastUsed := s.now, transcript := r ++ rsp }] } } : State).clear p rsp) := by
  subst hrsp
  show execGetVersion p r s = _
  simp [execGetVersion, hup, hsession, hversion, hroom]

variable {c : Connection} (hconn : s.connOf p = some c)
include hconn

/-- A connection begins with version 0, which is none of those that GET_CAPABILITIES may ask for. -/
theorem goes_getCapabilities (hstage : c.stage = 0) (hnew : c.version = 0)
    (hversion : reqVersion r = 0x11 ∨ reqVersion r = 0x12 ∨ reqVersion r = 0x13)
    (hrsp : rsp = [byte (reqVersion r), 0x61, 0, 0, 0, 14, 0, 0] ++ le 4 (capFlags (reqVersion r)) ++
      (if 0x12 ≤ reqVersion r then le 4 4096 ++ le 4 4096 else [])) :
    Goes (.getCapabilities p r) s ((s.updConn p (fun c =>
      { c with stage := 1, version := reqVersion r, lastUsed := s.now, transcript := c.transcript ++ r ++ rsp })).clear p rsp) := by
  subst hrsp
  have hgate : s.gate p r 0 = (0x41, c) := by
    rw [State.gate_of_outside hconn hstage hsession, if_pos (by omega)]
  show execGetCapabilities p r s = _
  simp [execGetCapabilities, hup, hsession, hgate, hversion]

theorem goes_negotiateAlgorithms (hstage : c.stage = 1) (hversion : reqVersion r = c.version)
    (hoffered : algsOffered r c.replyVersion = true)
    (hrsp : rsp = [byte c.replyVersion, 0x63, 3, 0] ++ le 2 48 ++ [1, if 0x12 ≤ c.replyVersion then 2 else 0] ++ le 4 4 ++
      le 4 128 ++ le 4 2 ++ zeros 16 ++ [2, 0x20] ++ le 2 16 ++ [3, 0x20] ++ le 2 2 ++ [5, 0x20] ++ le 2 1) :
    Goes (.negotiateAlgorithms p r) s ((s.updConn p (fun c =>
      { c with stage := 2, lastUsed := s.now, transcript := c.transcript ++ r ++ rsp })).clear p rsp) := by
  subst hrsp
  have hgate : s.gate p r 1 = (0, c) := by
    rw [State.gate_of_outside hconn hstage hsession, if_neg (not_not.2 hversion)]
  show execNegotiateAlgorithms p r s = _
  simp [execNegotiateAlgorithms, hup, hsession, hgate, hoffered]

end Connection

/-! ### Requests of a connected peer outside a session (R350, R354, R357) -/

section Connected
variable {s : State} {p : Peer} {r : Bytes} {c : Connection} (hup : s.mctpUp p.binding = true) (hsession : p.session = none)
  (hconn : s.connOf p = some c) (hstage : c.stage = 2) (hversion : reqVersion r = c.version)
include hup hsession hconn hstage hversion

theorem goes_getDigests_of_built {rsp : Bytes} (hbuilt : s.atr.certsReady = true)
    (hrsp : rsp = [byte c.replyVersion, 0x01, if c.replyVersion = 0x13 then 3 else 0, byte s.slotMask] ++ sha384 (s.certChain 0) ++
      (if s.slotMask = 3 then sha384 (s.certChain 1) else [])) :
    Goes (.getDigests p r) s ((s.updConn p (fun c =>
      { c with lastUsed := s.now, certMsgs := c.certMsgs ++ r ++ rsp })).respond p rsp) := by
  subst hrsp
  show execGetDigests p r s = _
  simp [execGetDigests, hup, State.gateBody_of_outside hconn hstage hversion hsession, hbuilt]

theorem goes_getDigests_of_not_built (hbuilt : s.atr.certsReady = false) :
    Goes (.getDigests p r) s (s.notReady p c.replyVersion 0x81) := by
  show execGetDigests p r s = _
  simp [execGetDigests, hup, State.gateBody_of_outside hconn hstage hversion hsession, hbuilt]

theorem goes_getCertificate {k : Nat} {left part rsp : Bytes} (hbuilt : s.atr.certsReady = true) (hk : k = fld r 2 1 % 16)
    (hslot : s.slotMask.testBit k = true) (hoffset : fld r 4 2 < (s.certChain k).length)
    (hleft : left = (s.certChain k).drop (fld r 4 2)) (hpart : part = left.take (min 1024 (fld r 6 2)))
    (hrsp : rsp = [byte c.replyVersion, 0x02, byte k, 0] ++ le 2 part.length ++ le 2 (left.length - part.length) ++ part) :
    Goes (.getCertificate p r) s ((s.updConn p (fun c =>
      { c with lastUsed := s.now, certMsgs := c.certMsgs ++ r ++ rsp })).respond p rsp) := by
  subst hrsp hpart hleft hk
  show execGetCertificate p r s = _
  simp [execGetCertificate, hup, State.gateBody_of_outside hconn hstage hversion hsession, hbuilt, hslot, hoffset]

section Measurements
variable {l : Nat} (hop : fld r 3 1 = 0)
include hop

/-- Operation 0 answers the number of blocks and no block. -/
theorem goes_getMeasurements_of_unsigned {rsp : Bytes} (hunsigned : (fld r 2 1).testBit 0 = false)
    (hrsp : rsp = [byte c.replyVersion, 0x60, byte s.blocksPresent.length, 0, 0] ++ le 3 0 ++ s.random 32 ++ [0, 0] ++
      reqContext c.replyVersion r 4) :
    Goes (.getMeasurements p r l) s (s.ownDone ((s.tryOwn.drawn.updConn p (fun y =>
      { y with lastUsed := s.now, measMsgs := c.measMsgs ++ r ++ rsp })).respond p rsp)) := by
  subst hrsp
  show execGetMeasurements p r l s = _
  simp only [execGetMeasurements, ownRow, State.getMeasurements, State.signedOp, State.gateBody_tryOwn, State.mctpUp_tryOwn,
    State.gateBody_of_outside hconn hstage hversion hsession, hup, hunsigned, hop, Bool.not_true, Bool.false_eq_true, false_and,
    if_false, if_true, ne_eq, not_true]
  rfl

variable (hsigned : (fld r 2 1).testBit 0 = true) (hslot : s.slotMask.testBit (fld r 36 1 % 16) = true)
include hsigned hslot

theorem goes_getMeasurements_of_noSigning (hnever : s.noSigning = true) :
    Goes (.getMeasurements p r l) s (s.ownDone (s.tryOwn.spdmError p c.replyVersion 0x05)) := by
  show execGetMeasurements p r l s = _
  simp [execGetMeasurements, ownRow, State.getMeasurements, State.gateBody_of_outside hconn hstage hversion hsession, hup,
    hsigned, hop, hslot, hnever]

theorem goes_getMeasurements_of_signsLater (hsigns : s.noSigning = false) (hlater : s.signsLater = true) :
    Goes (.getMeasurements p r l) s (s.ownDone (s.tryOwn.notReady p c.replyVersion 0xE0)) := by
  show execGetMeasurements p r l s = _
  simp [execGetMeasurements, ownRow, State.getMeasurements, State.gateBody_of_outside hconn hstage hversion hsession, hup,
    hsigned, hop, hslot, hsigns, hlater]

end Measurements

section Signed
variable {l : Nat} {sum : Bytes} (hsigns : s.noSigning = false) (hnow : s.signsLater = false)
include hsigns hnow

/-- What a row that is always signed asks before its work on the lanes. -/
theorem State.signed_admitted {k m : Nat} (hsum : s.summary m = some sum) (hslot : s.slotMask.testBit k = true) :
    s.tryOwn.mctpUp p.binding = true ∧ s.tryOwn.gateBody p r false true = (0, c) ∧ s.tryOwn.noSigning = false ∧
    s.tryOwn.signsLater = false ∧ s.tryOwn.summary m = some sum ∧ s.tryOwn.slotMask.testBit k = true :=
  ⟨hup, State.gateBody_of_outside (s := s.tryOwn) hconn hstage hversion hsession false, hsigns, hnow, hsum, hslot⟩

theorem goes_challenge {u : State} {k : Nat} {head sig : Bytes} (hsum : s.summary (fld r 3 1) = some sum)
    (hk : k = fld r 2 1 % 16) (hslot : s.slotMask.testBit k = true) (hsigned : s.tryOwn.spdmOp 0x02 l = (true, u))
    (hhead : head = [byte c.replyVersion, 0x03, byte k, byte u.slotMask] ++ sha384 (u.certChain k) ++ u.random 32 ++ sum ++ [0, 0] ++
      reqContext c.replyVersion r 36)
    (hsig : sig = u.drawn.spdmSign c.replyVersion "responder-challenge_auth signing" (c.transcript ++ c.certMsgs ++ r ++ head)) :
    Goes (.challenge p r l) s (s.ownDone ((u.drawn.drawn.updConn p (fun c =>
      { c with lastUsed := u.now, certMsgs := [], measMsgs := [] })).respond p (head ++ sig))) := by
  subst hsig hhead hk
  show execChallenge p r l s = _
  simp only [execChallenge, ownRow, State.challengeAuth, hsigned, Bool.not_true, Bool.false_eq_true, if_false, ne_eq, not_true,
    State.signed_admitted hup hsession hconn hstage hversion hsigns hnow hsum hslot]

variable (hsum : s.summary (fld r 2 1) = some sum) (hslot : s.slotMask.testBit (fld r 3 1 % 16) = true)
include hsum hslot

/-- A point that is not on the curve is an InvalidRequest (log entry 129). -/
theorem goes_keyExchange_of_bad_point (hpoint : pointOk p384 48 (0x04 :: slice r 40 96) = false) :
    Goes (.keyExchange p r l) s (s.ownDone (s.tryOwn.spdmError p c.replyVersion 0x01)) := by
  show execKeyExchange p r l s = _
  simp only [execKeyExchange, ownRow, State.keyExchange, hpoint, Bool.not_true, Bool.not_false, Bool.false_eq_true, if_false, if_true,
    ne_eq, not_true, State.signed_admitted hup hsession hconn hstage hversion hsigns hnow hsum hslot]

variable (hpoint : pointOk p384 48 (0x04 :: slice r 40 96) = true)
include hpoint

theorem goes_keyExchange_of_full (hfull : 8 ≤ s.atr.sessions.length) : Goes (.keyExchange p r l) s (s.ownDone
    (({ s.tryOwn with atr := { s.atr with limitHit := true } } : State).spdmError p c.replyVersion 0x0A)) := by
  have hlimit : 8 ≤ s.tryOwn.atr.sessions.length := hfull
  show execKeyExchange p r l s = _
  simp only [execKeyExchange, ownRow, State.keyExchange, hpoint, hlimit, Bool.not_true, Bool.false_eq_true, if_false, if_true, ne_eq,
    not_true, State.signed_admitted hup hsession hconn hstage hversion hsigns hnow hsum hslot]
  rfl

/-- With room and with the array the answer adds a session that FINISH has still to establish. -/
theorem goes_keyExchange_of_room {w : State} (hroom : s.atr.sessions.length < 8) (hlanes : s.tryOwn.keyOps l = (true, w))
    (hfound : w.waitsLane = false) :
    ∃ (t : State) (x : SpdmSession), Goes (.keyExchange p r l) s t ∧ t.atr.sessions = w.atr.sessions ++ [x] ∧
      x.id = fld r 4 2 + 65536 * w.atr.nextSession ∧ x.established = false ∧ x.lastMsg = w.now ∧ x.binding = p.binding ∧
      x.eid = p.eid := by
  have hlimit : ¬ 8 ≤ s.tryOwn.atr.sessions.length := Nat.not_le.2 hroom
  have hrow : exec (.keyExchange p r l) s = execKeyExchange p r l s := rfl
  simp only [execKeyExchange, ownRow, State.keyExchange, hpoint, hlimit, hlanes, Bool.not_true, Bool.false_eq_true, if_false, ne_eq,
    not_true, State.signed_admitted hup hsession hconn hstage hversion hsigns hnow hsum hslot] at hrow
  refine ⟨_, ?x, hrow, (State.sessions_ownDone s ?lanes).trans ?sessions, ?fields⟩
  case lanes => exact (State.waitsLane_congr (s := w) (by simp [State.drawn])).trans hfound
  case sessions =>
    rw [(State.clear_keeps _ _ _).2.2.2.2.2.2.2.2.2.1]
    rfl
  case fields => exact ⟨rfl, rfl, rfl, rfl, rfl⟩

end Signed

end Connected

/-! ### Work of the responder on the lanes (R256, R260) -/

/-- An operation that no lane fails takes the first idle lane. -/
theorem State.spdmOp_of_idle {s : State} {op n : Nat} (hfull : s.systemFull = false) (hlane : s.ownLane [] = some n) :
    s.spdmOp op 0 = (true, (s.beginWork n op []).tookLanes.updLane n Lane.good) := by
  simp [State.spdmOp, State.runOwn, hfull, hlane]

/-! ### Requests in a session (R356) -/

section InSession
variable {s : State} {p : Peer} {r : Bytes} {c : Connection} {x : SpdmSession} (hup : s.mctpUp p.binding = true)
  (hconn : s.connOf p = some c) (hstage : c.stage = 2) (hversion : reqVersion r = c.version) (hsess : s.sessOf p = some x)
include hup hconn hstage hversion hsess

section Established
variable (hestablished : x.established = true)
include hestablished

theorem goes_heartbeat : Goes (.heartbeat p r) s (s.respond p [byte c.replyVersion, 0x68, 0, 0]) := by
  show execHeartbeat p r s = _
  simp [execHeartbeat, hup, State.gateBody_of_established hconn hstage hversion hsess hestablished]

variable {n : Nat} (hsession : p.session = some n)
include hsession

theorem goes_keyUpdate (hmin : 1 ≤ fld r 2 1) (hmax : fld r 2 1 ≤ 3) : Goes (.keyUpdate p r) s
    ((s.updSess n (fun y => { y with
      updates := y.updates + (if fld r 2 1 ≤ 2 then 1 else 0),
      rspUpdates := y.rspUpdates + (if fld r 2 1 = 2 then 1 else 0) })).respond p
      [byte c.replyVersion, 0x69, byte (fld r 2 1), byte (fld r 3 1)]) := by
  have hop : ¬ (fld r 2 1 = 0 ∨ 3 < fld r 2 1) := by omega
  show execKeyUpdate p r s = _
  simp [execKeyUpdate, hup, State.gateBody_of_established hconn hstage hversion hsess hestablished, hop, hsession]

theorem goes_endSession :
    Goes (.endSession p r) s ((s.respond p [byte c.replyVersion, 0x6C, 0, 0]).endSession n) := by
  show execEndSession p r s = _
  simp [execEndSession, hup, State.gateBody_of_established hconn hstage hversion hsess hestablished, hsession]

end Established

/-- FINISH without a requester's signature establishes its session when the verification data is right. -/
theorem goes_finish (hnew : x.established = false) (hunsigned : (fld r 2 1).testBit 0 = false)
    (hproof : slice r 4 48 = verifyData x.secret "requester" (x.transcript ++ r.take 4)) :
    Goes (.finish p r) s
      ((s.respond p [byte c.replyVersion, 0x65, 0, 0]).updSess x.id (fun y => { y with established := true })) := by
  have hgate : s.gate p r 2 = (0, c) := by
    rw [State.gate_of_session hconn hstage hsess, if_neg (not_not.2 hversion)]
  show execFinish p r s = _
  simp [execFinish, hup, hgate, hsess, hnew, hunsigned, hproof]

end InSession

/-! ### Requests outside Table 10-4, and idle sessions (R352, R356) -/

theorem goes_spdmUnsupportedRequest {s : State} {p : Peer} {r : Bytes} (hup : s.mctpUp p.binding = true)
    (hconn : s.connOf p = none) : Goes (.spdmUnsupportedRequest p r) s (s.spdmError p 0x10 0x07 (fld r 1 1)) := by
  show execSpdmUnsupportedRequest p r s = _
  simp [execSpdmUnsupportedRequest, hup, hconn]

theorem goes_spdmSessionIdleTimeout {s : State} {x : SpdmSession} (hx : x ∈ s.atr.sessions) (hidle : x.lastMsg + 120000000 ≤ s.now) :
    Goes (.spdmSessionIdleTimeout x.id) s (s.endSession x.id) :=
  if_pos (List.any_eq_true.2 ⟨x, hx, by simp [hidle]⟩)

/-! ### The statement -/

/-- Settles O42: each request passes the gate of its row and meets one case of it. The layouts and error codes are DSP0274's (log
entry 27); that a signed answer which cannot be made yet is ResponseNotReady (log entry 108), and a bad point an InvalidRequest
(log entry 129), is the model's choice. -/
theorem requestsAreAnswered : Obligations.RequestsAreAnswered := by
  unfold Obligations.RequestsAreAnswered
  refine ⟨fun s t p r rsp hup hsession hversion hroom hrsp => goes_getVersion hup hsession hversion hroom hrsp,
    fun s p r c rsp hup hsession hconn hstage hnew hversion hrsp =>
      goes_getCapabilities hup hsession hconn hstage hnew hversion hrsp,
    fun s p r c rsp hup hsession hconn hstage hversion hoffered hrsp =>
      goes_negotiateAlgorithms hup hsession hconn hstage hversion hoffered hrsp,
    fun s p r c v hup hsession hconn hstage hversion hv => ?connected,
    fun s op n hfull hlane => State.spdmOp_of_idle hfull hlane,
    fun s p r c n x hup hsession hconn hstage hversion hsess => ?inSession,
    fun s p r hup hsession hconn => goes_spdmUnsupportedRequest hup hconn,
    fun s x hx hidle => goes_spdmSessionIdleTimeout hx hidle⟩
  case connected =>
    subst hv
    exact ⟨fun rsp hbuilt hrsp => goes_getDigests_of_built hup hsession hconn hstage hversion hbuilt hrsp,
      fun k left part rsp hbuilt hk hslot hoffset hleft hpart hrsp =>
        goes_getCertificate hup hsession hconn hstage hversion hbuilt hk hslot hoffset hleft hpart hrsp,
      fun hbuilt => goes_getDigests_of_not_built hup hsession hconn hstage hversion hbuilt,
      fun l rsp hunsigned hop hrsp => goes_getMeasurements_of_unsigned hup hsession hconn hstage hversion hop hunsigned hrsp,
      fun l hsigned hnever hop hslot =>
        goes_getMeasurements_of_noSigning hup hsession hconn hstage hversion hop hsigned hslot hnever,
      fun l hsigned hsigns hlater hop hslot =>
        goes_getMeasurements_of_signsLater hup hsession hconn hstage hversion hop hsigned hslot hsigns hlater,
      fun l u sum k head sig hsigns hnow hsum hk hslot hsigned hhead hsig =>
        goes_challenge hup hsession hconn hstage hversion hsigns hnow hsum hk hslot hsigned hhead hsig,
      fun l sum hsigns hnow hsum hslot =>
        ⟨goes_keyExchange_of_bad_point hup hsession hconn hstage hversion hsigns hnow hsum hslot,
          goes_keyExchange_of_full hup hsession hconn hstage hversion hsigns hnow hsum hslot,
          fun w hpoint => goes_keyExchange_of_room hup hsession hconn hstage hversion hsigns hnow hsum hslot hpoint⟩⟩
  case inSession =>
    exact ⟨fun hestablished => ⟨goes_heartbeat hup hconn hstage hversion hsess hestablished,
        goes_keyUpdate hup hconn hstage hversion hsess hestablished hsession,
        goes_endSession hup hconn hstage hversion hsess hestablished hsession⟩,
      goes_finish hup hconn hstage hversion hsess⟩

end Sys2Proof.Machine
end

section
/-! SUPPORT. What a step may do to the OTP array and to the queue of waiting commands: blow bits at places that exist, and nothing to
the queue. -/
namespace Sys2Proof

/-! ### Where the entries of a changed table come from -/

namespace Tab
variable {α : Type}

theorem mem_of_mem_del {t : Tab α} {k : Nat} {p : Nat × α} (h : p ∈ del t k) : p ∈ t := by
  induction t with
  | nil => exact h
  | cons q t ih =>
    obtain ⟨j, v⟩ := q
    by_cases hj : j = k
    · simp only [del, hj, if_true] at h
      exact List.mem_cons_of_mem _ (ih h)
    · simp only [del, hj, if_false, List.mem_cons] at h
      exact List.mem_cons.2 (h.imp id ih)

theorem mem_of_mem_ins {t : Tab α} {k : Nat} {v : α} {p : Nat × α} (h : p ∈ ins t k v) : p = (k, v) ∨ p ∈ t := by
  induction t with
  | nil => simpa [ins] using h
  | cons q t ih =>
    obtain ⟨j, w⟩ := q
    unfold ins at h
    split at h
    · simpa using h
    · split at h
      · simp only [List.mem_cons] at h ⊢
        tauto
      · simp only [List.mem_cons] at h ⊢
        tauto

theorem mem_of_mem_set [DecidableEq α] {t : Tab α} {k : Nat} {d v : α} {p : Nat × α} (h : p ∈ set t k d v) :
    p = (k, v) ∨ p ∈ t := by
  unfold set at h
  split at h
  · exact .inr (mem_of_mem_del h)
  · exact mem_of_mem_ins h

/-- A key reads its default or the value of an entry. -/
theorem get_eq_or_mem (t : Tab α) (k : Nat) (d : α) : get t k d = d ∨ (k, get t k d) ∈ t := by
  induction t with
  | nil => exact .inl rfl
  | cons q t ih =>
    obtain ⟨j, w⟩ := q
    by_cases hj : j = k
    · simp [get, hj]
    · simp only [get, hj, if_false, List.mem_cons]
      exact ih.imp id .inr

end Tab

namespace Machine

/-! ### Blown bits (R412, R414) -/

/-- An array that comes from another by blowing bits at places that exist: it is sound where that was, and keeps every bit. -/
structure OtpGrows (a b : Tab Nat) : Prop where
  sound : OtpSound a → OtpSound b
  kept : OtpKept a b

@[simp] theorem OtpGrows.refl (a : Tab Nat) : OtpGrows a a := ⟨id, fun _ _ => id⟩

theorem OtpGrows.trans {a b c : Tab Nat} (h : OtpGrows a b) (h' : OtpGrows b c) : OtpGrows a c :=
  ⟨h'.sound ∘ h.sound, fun w i => h'.kept w i ∘ h.kept w i⟩

/-- A word of a sound array has 64 bits. -/
theorem OtpSound.get_lt {o : Tab Nat} (h : OtpSound o) (w : Nat) : o.get w 0 < 2 ^ 64 := by
  rcases o.get_eq_or_mem w 0 with h0 | hmem
  · simp [h0]
  · exact (h.places _ hmem).2

theorem otpGrows_otpBlown (o : Tab Nat) (w mask : Nat) : OtpGrows o (otpBlown o w mask) := by
  unfold otpBlown
  split
  · next hw =>
    refine ⟨fun h => ⟨Tab.wf_set _ _ h.canonical, fun p hp => ?_⟩, fun v i hi => ?_⟩
    · rcases Tab.mem_of_mem_set hp with rfl | hmem
      · exact ⟨hw, Nat.or_lt_two_pow (h.get_lt w) (Nat.mod_lt _ (by decide))⟩
      · exact h.places p hmem
    · by_cases hv : v = w
      · subst hv; simp [hi]
      · rwa [Tab.get_set_ne _ _ _ hv]
  · exact .refl o

/-- From s, at most bits have been blown, and the same commands wait. -/
structure Blows (s t : State) : Prop where
  otp : OtpGrows s.otp t.otp
  pending : t.pending = s.pending

/-- A row answers a next state in which at most bits have been blown. -/
def Answers (s : State) (r : Res) : Prop := ∃ t, r = .next t ∧ Blows s t

@[simp] theorem blows_iff {s t : State} : Blows s t ↔ OtpGrows s.otp t.otp ∧ t.pending = s.pending :=
  ⟨fun h => ⟨h.1, h.2⟩, fun h => ⟨h.1, h.2⟩⟩

@[simp] theorem answers_next {s t : State} : Answers s (.next t) ↔ Blows s t :=
  ⟨fun ⟨_, he, h⟩ => by cases he; exact h, fun h => ⟨t, rfl, h⟩⟩

/-! ### The operations that blow bits -/

section Writers
variable {a : Tab Nat} {s : State} (h : OtpGrows a s.otp)
include h

@[simp] theorem otpGrows_blow (w m : Nat) : OtpGrows a (s.blow w m).otp := h.trans (otpGrows_otpBlown _ _ _)

theorem otpGrows_foldl {α : Type} {f : State → α → State} (hf : ∀ (s : State) x, OtpGrows s.otp (f s x).otp) (l : List α) :
    OtpGrows a (l.foldl f s).otp := by
  induction l generalizing s with
  | nil => exact h
  | cons x l ih => exact ih (h.trans (hf s x))

@[simp] theorem otpGrows_blowPosition (w p : Nat) : OtpGrows a (s.blowPosition w p).otp := otpGrows_blow h _ _

@[simp] theorem otpGrows_advanceArb (c v : Nat) : OtpGrows a (s.advanceArb c v).otp :=
  otpGrows_foldl h (fun t p => by split <;> simp) _

@[simp] theorem otpGrows_blowCodeword (g i : Nat) : OtpGrows a (s.blowCodeword g i).otp :=
  otpGrows_blow (otpGrows_blow (otpGrows_blow (otpGrows_blow h _ _) _ _) _ _) _ _

@[simp] theorem otpGrows_blowIntent (g i : Nat) : OtpGrows a (s.blowIntent g i).otp := otpGrows_blow h _ _

@[simp] theorem otpGrows_blowAll : OtpGrows a s.blowAll.otp := otpGrows_foldl h (fun t i => by simp) _

@[simp] theorem otpGrows_wipe (g i : Nat) : OtpGrows a (s.wipe g i).otp := by
  unfold State.wipe; dsimp only; (repeat' split) <;> simp [h]

@[simp] theorem otpGrows_fillCounter (w n : Nat) : OtpGrows a (s.fillCounter w n).otp :=
  otpGrows_foldl h (fun t p => by split <;> simp) _

@[simp] theorem otpGrows_autoAdvances : OtpGrows a s.autoAdvances.otp := by
  unfold State.autoAdvances; dsimp only; (repeat' split) <;> simp [h]

@[simp] theorem otpGrows_imageOperational : OtpGrows a s.imageOperational.otp := by simp [State.imageOperational, h]

@[simp] theorem otpGrows_countEvidence : OtpGrows a s.countEvidence.otp := by
  unfold State.countEvidence; (repeat' split) <;> simp [h]

@[simp] theorem otpGrows_trip (i n : Nat) : OtpGrows a (s.trip i n).otp := by
  unfold State.trip; dsimp only; (repeat' split) <;> simp [h]

@[simp] theorem otpGrows_tamperEvent (i : Nat) : OtpGrows a (s.tamperEvent i).otp := by
  unfold State.tamperEvent; dsimp only; (repeat' split) <;> simp [h]

@[simp] theorem otpGrows_commitStaged (i : Image) (b : Bool) : OtpGrows a (s.commitStaged i b).otp := by
  unfold State.commitStaged; dsimp only; (repeat' split) <;> simp [h]

@[simp] theorem otpGrows_settleDmt : OtpGrows a s.settleDmt.otp := by
  unfold State.settleDmt; dsimp only; (repeat' split) <;> simp [h]

@[simp] theorem otpGrows_startDevice : OtpGrows a s.startDevice.otp := by
  unfold State.startDevice; simp [h]

@[simp] theorem otpGrows_firstLc : OtpGrows a s.firstLc.otp := by
  unfold State.firstLc; dsimp only; (repeat' split) <;> simp [h]

@[simp] theorem otpGrows_firstCounters : OtpGrows a s.firstCounters.otp := by
  have hc := otpGrows_foldl h (f := fun t c => t.fillCounter (96 + 2 * c) 128) (fun t c => by simp) [0, 1, 2, 3]
  have he := otpGrows_fillCounter hc 104 512
  unfold State.firstCounters
  dsimp only
  exact otpGrows_foldl he (f := fun t _ => t.countEvidence) (fun t _ => by simp) _

@[simp] theorem otpGrows_finishStart (p : Phase) : OtpGrows a (s.finishStart p).otp := by
  unfold State.finishStart; dsimp only; (repeat' split) <;> simp [h]

@[simp] theorem otpGrows_riseStep : OtpGrows a s.riseStep.otp := by
  unfold State.riseStep; (repeat' split) <;> simp [h]

@[simp] theorem otpGrows_tick : OtpGrows a (tick s).otp := by
  unfold tick; split <;> simp [h]

end Writers

/-! ### What a command and a row of the lanes' own work keep -/

theorem Blows.refl (s : State) : Blows s s := ⟨.refl _, rfl⟩

/-- A command blows no more than its body does from the state in which it has started. -/
theorem answers_command {s : State} {op : Op} {h : Hdr} {r : Bool} {body : Hdr → State → Option Reply × State}
    (hb : ∀ k t, Blows t (body k t).2) : Answers s (.next (command op h r s body)) := by
  have hstart : Blows s (body (s.stamp h) (s.started h)).2 := by simpa using hb (s.stamp h) (s.started h)
  rw [answers_next]
  unfold command
  split
  · exact .refl s
  · dsimp only
    split
    · simp
    · split
      · simp
      · split
        · next e => simpa [e] using hstart
        · next e => simpa [e] using hstart

theorem answers_commandC {s : State} {op : Op} {h : Hdr} {r : Bool} {body : Hdr → State → Reply × State}
    (hb : ∀ k t, Blows t (body k t).2) : Answers s (.next (commandC op h r s body)) := answers_command hb

theorem answers_commandR {s : State} {op : Op} {h : Hdr} {r : Bool} {body : Hdr → State → Reply} :
    Answers s (.next (commandR op h r s body)) := answers_command fun _ => .refl

theorem blows_ownDone {s t : State} (h : Blows s t) : Blows s (s.ownDone t) := by
  rw [blows_iff] at h
  unfold State.ownDone
  split <;> simp [h]

/-- A row whose own work tries the lanes blows no more than that work does. -/
theorem answers_ownRow {s : State} {row : State → State} (h : Blows s.tryOwn (row s.tryOwn)) : Answers s (.next (ownRow s row)) :=
  ⟨_, rfl, blows_ownDone ⟨h.otp, h.pending⟩⟩

theorem blows_ownBody {body : Hdr → State → Option Reply × State} (hb : ∀ k t, Blows t (body k t).2) (k : Hdr) (t : State) :
    Blows t (ownBody body k t).2 := by
  have hwork : Blows t (t.ownDone (body k t.tryOwn).2) := blows_ownDone ⟨(hb k t.tryOwn).otp, (hb k t.tryOwn).pending⟩
  rw [blows_iff] at hwork
  unfold ownBody
  dsimp only
  split <;> simp [hwork]

end Machine
end Sys2Proof
end

section
/-! SUPPORT. Every row of the table answers a next state, in which at most bits of the OTP array have been blown. Each row
is followed along its own branches, in each of which the laws of the operations say what becomes of the array and of the queue; the
commands that only read are all `answers_commandR`. -/
namespace Sys2Proof.Machine

/-! ### Rows of the Platform State Digest (chapter 10) -/

theorem answers_psdRecomputation (s : State) : Answers s (execPsdRecomputation s) := by
  unfold execPsdRecomputation; split <;> simp

theorem answers_psdChanges (h : Hdr) (fromGen max hostAddr : Nat) (s : State) :
    Answers s (execPsdChanges h fromGen max hostAddr s) :=
  answers_commandC fun _ _ => by split <;> simp

/-! ### Rows of metering (chapter 9) -/

theorem answers_periodBoundary (s : State) : Answers s (execPeriodBoundary s) := by
  unfold execPeriodBoundary; (repeat' split) <;> simp

theorem answers_periodRecordSign (s : State) : Answers s (execPeriodRecordSign s) := by
  unfold execPeriodRecordSign; (repeat' split) <;> simp

theorem answers_meterAck (h : Hdr) (periodId : Nat) (s : State) : Answers s (execMeterAck h periodId s) :=
  answers_commandC fun _ _ => by dsimp only; (repeat' split) <;> simp

theorem answers_meterClose (h : Hdr) (s : State) : Answers s (execMeterClose h s) :=
  answers_commandC fun _ _ => by dsimp only; split <;> simp

/-! ### Rows of queues (chapter 8) -/

theorem answers_sqTailDoorbell (fn queue value : Nat) (s : State) : Answers s (execSqTailDoorbell fn queue value s) := by
  unfold execSqTailDoorbell; dsimp only; (repeat' split) <;> simp

theorem answers_cqHeadDoorbell (fn queue value : Nat) (s : State) : Answers s (execCqHeadDoorbell fn queue value s) := by
  unfold execCqHeadDoorbell; dsimp only; (repeat' split) <;> simp

theorem answers_queueOpen (fn : Nat) (s : State) : Answers s (execQueueOpen fn s) := by
  unfold execQueueOpen; dsimp only; (repeat' split) <;> simp

theorem answers_queueClose (fn : Nat) (s : State) : Answers s (execQueueClose fn s) := by
  unfold execQueueClose; dsimp only; split <;> simp

theorem answers_queueReset (fn : Nat) (s : State) : Answers s (execQueueReset fn s) := by
  unfold execQueueReset; dsimp only; split <;> simp

theorem answers_queueCloseTimeout (queue : Nat) (s : State) : Answers s (execQueueCloseTimeout queue s) := by
  unfold execQueueCloseTimeout; dsimp only; split <;> simp

theorem answers_functionLevelReset (fn : Nat) (s : State) : Answers s (execFunctionLevelReset fn s) := by
  unfold execFunctionLevelReset; split <;> simp

theorem answers_busMasterDisable (fn : Nat) (s : State) : Answers s (execBusMasterDisable fn s) := by
  unfold execBusMasterDisable; (repeat' split) <;> simp

theorem answers_perstAssert (s : State) : Answers s (execPerstAssert s) := by
  unfold execPerstAssert; dsimp only; split <;> simp

theorem answers_perstDeassert (s : State) (rate lanes : Nat) : Answers s (execPerstDeassert s rate lanes) := by
  simp [execPerstDeassert]

theorem answers_pcieHotReset (s : State) (rate lanes : Nat) : Answers s (execPcieHotReset s rate lanes) := by
  unfold execPcieHotReset; split <;> simp

theorem answers_submissionFetch (queue : Nat) (entry : Bytes) (s : State) : Answers s (execSubmissionFetch queue entry s) := by
  unfold execSubmissionFetch; (repeat' split) <;> simp

theorem answers_hostReadCompletion (queue cid : Nat) (data : Bytes) (s : State) :
    Answers s (execHostReadCompletion queue cid data s) := by
  simp [execHostReadCompletion]

theorem answers_hostReadFault (queue : Nat) (cmd : Option Hdr) (kind addr : Nat) (fed : Bytes) (s : State) :
    Answers s (execHostReadFault queue cmd kind addr fed s) := by
  unfold execHostReadFault; dsimp only; (repeat' split) <;> simp

theorem answers_interruptCoalesceExpiry (queue : Nat) (s : State) : Answers s (execInterruptCoalesceExpiry queue s) := by
  unfold execInterruptCoalesceExpiry; dsimp only; (repeat' split) <;> simp

theorem answers_asyncEventDelivery (group : Nat) (s : State) : Answers s (execAsyncEventDelivery group s) := by
  unfold execAsyncEventDelivery; dsimp only; (repeat' split) <;> simp

/-! ### Rows of receipts (chapter 9) -/

theorem answers_receiptSign (h : Hdr) (format alg digestLen outSize digestAddr outAddr : Nat) (data : Bytes) (s : State) :
    Answers s (execReceiptSign h format alg digestLen outSize digestAddr outAddr data s) :=
  answers_command fun _ _ => by simp

theorem answers_receiptBatch (h : Hdr) (format alg digestLen count outSize listAddr outAddr : Nat) (data : Bytes) (s : State) :
    Answers s (execReceiptBatch h format alg digestLen count outSize listAddr outAddr data s) :=
  answers_command fun _ _ => by simp

theorem answers_forgeCheckpoint (s : State) : Answers s (execForgeCheckpoint s) := by
  unfold execForgeCheckpoint; split <;> simp

/-! ### Rows of the Hammer array (chapter 7) -/

theorem answers_pkOp (h : Hdr) (operation inLen bufAddr : Nat) (data : Bytes) (s : State) :
    Answers s (execPkOp h operation inLen bufAddr data s) :=
  answers_command fun _ _ => by dsimp only; (repeat' split) <;> simp

theorem answers_hammerLaneTest (h : Hdr) (lane : Nat) (s : State) : Answers s (execHammerLaneTest h lane s) :=
  answers_command fun _ _ => by dsimp only; split <;> simp

theorem answers_hammerOpComplete (lane : Nat) (holds : Bool) (s : State) : Answers s (execHammerOpComplete lane holds s) := by
  simp [execHammerOpComplete]

theorem answers_poolRefillDone (lane : Nat) (holds : Bool) (s : State) : Answers s (execPoolRefillDone lane holds s) := by
  simp [execPoolRefillDone]

theorem answers_knownAnswerTestDone (lane : Nat) (passed : Bool) (s : State) :
    Answers s (execKnownAnswerTestDone lane passed s) := by
  simp [execKnownAnswerTestDone]

theorem answers_sparePromotionDone (lane : Nat) (passed : Bool) (s : State) : Answers s (execSparePromotionDone lane passed s) := by
  simp [execSparePromotionDone]

theorem answers_drbgReseed (unit : Nat) (gathered : Bool) (s : State) : Answers s (execDrbgReseed unit gathered s) := by
  unfold execDrbgReseed; dsimp only; (repeat' split) <;> simp

theorem answers_entropyRetry (unit : Nat) (gathered : Bool) (s : State) : Answers s (execEntropyRetry unit gathered s) := by
  unfold execEntropyRetry; dsimp only; (repeat' split) <;> simp

theorem answers_lanePowerUpReady (lane : Nat) (s : State) : Answers s (execLanePowerUpReady lane s) := by
  unfold execLanePowerUpReady; dsimp only; split <;> simp

/-! ### Rows of framed paths (chapter 8) -/

theorem answers_frameReceived (target : Target) (frame : Bytes) (s : State) (pec : Option Nat) :
    Answers s (execFrameReceived target frame s pec) := by
  unfold execFrameReceived; dsimp only; (repeat' split) <;> simp

theorem answers_smbusBlockRead (target : Target) (code : Nat) (s : State) : Answers s (execSmbusBlockRead target code s) := by
  unfold execSmbusBlockRead; split <;> simp

theorem answers_i3cPrivateRead (target : Target) (s : State) : Answers s (execI3cPrivateRead target s) := by
  unfold execI3cPrivateRead; split <;> simp

theorem answers_baudRevert (s : State) : Answers s (execBaudRevert s) := by
  unfold execBaudRevert; (repeat' split) <;> simp

theorem answers_jtagMailboxFrame (frame : Bytes) (s : State) : Answers s (execJtagMailboxFrame frame s) := by
  unfold execJtagMailboxFrame; (repeat' split) <;> simp

theorem answers_fragmentTimeout (src : Src) (s : State) : Answers s (execFragmentTimeout src s) := by
  unfold execFragmentTimeout; dsimp only; (repeat' split) <;> simp

theorem answers_dynamicAddressAssignment (target : Target) (mctp : Bool) (address : Nat) (s : State) :
    Answers s (execDynamicAddressAssignment target mctp address s) := by
  unfold execDynamicAddressAssignment; (repeat' split) <;> simp

theorem answers_smbusClockLowTimeout (target : Target) (s : State) : Answers s (execSmbusClockLowTimeout target s) := by
  unfold execSmbusClockLowTimeout; split <;> simp

theorem answers_sessionNegotiate (h : Hdr) (minVersion maxVersion baud maxFragment : Nat) (s : State) :
    Answers s (execSessionNegotiate h minVersion maxVersion baud maxFragment s) :=
  answers_commandC fun _ _ => by (repeat' split) <;> simp

theorem answers_outboxRetry (accepted : Bool) (s : State) : Answers s (execOutboxRetry accepted s) := by
  unfold execOutboxRetry; (repeat' split) <;> simp

/-! ### Rows of the wind-up channels (chapter 14) -/

theorem answers_wind (h : Hdr) (channel flags key sleepMs : Nat) (s : State) : Answers s (execWind h channel flags key sleepMs s) :=
  answers_commandC fun _ _ => by dsimp only; (repeat' split) <;> simp

theorem answers_wwuWindWrite (channel key : Nat) (s : State) : Answers s (execWwuWindWrite channel key s) := by
  unfold execWwuWindWrite; dsimp only; (repeat' split) <;> simp

theorem answers_watchdogArm (h : Hdr) (channel action : Nat) (s : State) : Answers s (execWatchdogArm h channel action s) :=
  answers_commandC fun _ _ => by (repeat' split) <;> simp

theorem answers_channelExpiry (channel : Nat) (s : State) : Answers s (execChannelExpiry channel s) := by
  unfold execChannelExpiry; dsimp only; (repeat' split) <;> simp

theorem answers_preExpiryWarning (channel : Nat) (s : State) : Answers s (execPreExpiryWarning channel s) := by
  unfold execPreExpiryWarning; dsimp only; split <;> simp

theorem answers_sleepGuardPass (channel : Nat) (s : State) : Answers s (execSleepGuardPass channel s) := by
  unfold execSleepGuardPass; dsimp only; split <;> simp

theorem answers_clockStopDetect (ember : Bool) (s : State) : Answers s (execClockStopDetect ember s) := by
  unfold execClockStopDetect; dsimp only; (repeat' split) <;> simp

theorem answers_clockReturn (ember : Bool) (s : State) : Answers s (execClockReturn ember s) := by
  unfold execClockReturn; dsimp only; (repeat' split) <;> simp

theorem answers_iwdExpiry (s : State) : Answers s (execIwdExpiry s) := by
  unfold execIwdExpiry; split <;> simp

/-! ### Rows of restarts -/

theorem answers_completionWrite (src : Src) (s : State) : Answers s (execCompletionWrite src s) := by
  simp [execCompletionWrite]

theorem answers_iwdHardTimerExpiry (s : State) : Answers s (execIwdHardTimerExpiry s) := by
  unfold execIwdHardTimerExpiry; (repeat' split) <;> simp

/-! ### Rows of the Crucible (chapter 12) -/

theorem answers_cruChallenge (h : Hdr) (purpose : Nat) (s : State) : Answers s (execCruChallenge h purpose s) :=
  answers_commandC fun _ _ => by split <;> simp

theorem answers_lcTransition (h : Hdr) (target length hostAddr : Nat) (data : Bytes) (s : State) (verdicts : Nat) :
    Answers s (execLcTransition h target length hostAddr data s verdicts) :=
  answers_command (blows_ownBody fun _ _ => by dsimp only; (repeat' split) <;> simp)

theorem answers_jtagLcTransition (lcTarget : Nat) (s : State) : Answers s (execJtagLcTransition lcTarget s) := by
  unfold execJtagLcTransition; dsimp only; (repeat' split) <;> simp

theorem answers_ownerKeyChange (h : Hdr) (length hostAddr : Nat) (data : Bytes) (s : State) (verdicts : Nat) :
    Answers s (execOwnerKeyChange h length hostAddr data s verdicts) :=
  answers_command (blows_ownBody fun _ _ => by dsimp only; (repeat' split) <;> simp)

theorem answers_debugGrant (h : Hdr) (length hostAddr : Nat) (data : Bytes) (s : State) (verdicts : Nat) :
    Answers s (execDebugGrant h length hostAddr data s verdicts) :=
  answers_command (blows_ownBody fun _ _ => by dsimp only; (repeat' split) <;> simp)

theorem answers_debugEnd (h : Hdr) (s : State) : Answers s (execDebugEnd h s) :=
  answers_commandC fun _ _ => by simp

theorem answers_rngRead (h : Hdr) (length hostAddr : Nat) (s : State) : Answers s (execRngRead h length hostAddr s) :=
  answers_commandC fun _ _ => by split <;> simp

theorem answers_challengeExpiry (purpose : Nat) (s : State) : Answers s (execChallengeExpiry purpose s) := by
  unfold execChallengeExpiry; dsimp only; split <;> simp

/-! ### Rows of host commands on a port (chapters 4 and 5) -/

theorem answers_hostCsFall (port cs : Nat) (s : State) : Answers s (execHostCsFall port cs s) := by
  unfold execHostCsFall; dsimp only; split <;> simp

theorem answers_hostSckEdge (port : Nat) (rise : Bool) (hostDq flashDq : Nat) (late : Bool) (differ : Nat) (s : State) :
    Answers s (execHostSckEdge port rise hostDq flashDq late differ s) := by
  unfold execHostSckEdge; dsimp only; (repeat' split) <;> simp

theorem answers_hostCsRise (port cs differ : Nat) (s : State) : Answers s (execHostCsRise port cs differ s) := by
  unfold execHostCsRise; dsimp only; (repeat' split) <;> simp

theorem answers_hostClockStall (port : Nat) (s : State) : Answers s (execHostClockStall port s) := by
  unfold execHostClockStall; dsimp only; split <;> simp

/-! ### Rows of port modes (chapter 4) -/

theorem answers_hostIdlePoint (port : Nat) (s : State) (disagree : Bool) : Answers s (execHostIdlePoint port s disagree) := by
  unfold execHostIdlePoint; dsimp only; split <;> simp

theorem answers_resyncPulseEnd (port : Nat) (s : State) : Answers s (execResyncPulseEnd port s) := by
  unfold execResyncPulseEnd; (repeat' split) <;> simp

theorem answers_idleWindowEnd (port : Nat) (s : State) : Answers s (execIdleWindowEnd port s) := by
  unfold execIdleWindowEnd; (repeat' split) <;> simp

theorem answers_idleWaitLog (port : Nat) (s : State) : Answers s (execIdleWaitLog port s) := by
  unfold execIdleWaitLog; dsimp only; split <;> simp

theorem answers_gapWaitExpiry (port : Nat) (s : State) : Answers s (execGapWaitExpiry port s) := by
  unfold execGapWaitExpiry; dsimp only; split <;> simp

theorem answers_fVddioLoss (port : Nat) (s : State) : Answers s (execFVddioLoss port s) := by
  unfold execFVddioLoss; split <;> simp

theorem answers_hVddioLoss (port : Nat) (s : State) : Answers s (execHVddioLoss port s) := by
  unfold execHVddioLoss; dsimp only; (repeat' split) <;> simp

theorem answers_vddioInRange (port : Nat) (flashSide : Bool) (s : State) : Answers s (execVddioInRange port flashSide s) := by
  unfold execVddioInRange; (repeat' split) <;> simp

theorem answers_portIdleWindow (h : Hdr) (port durationUs : Nat) (s : State) : Answers s (execPortIdleWindow h port durationUs s) :=
  answers_command fun _ _ => by dsimp only; (repeat' split) <;> simp

/-! ### Rows of slots and strings (chapter 3) -/

theorem answers_releaseTrigger (slot : Nat) (s : State) : Answers s (execReleaseTrigger slot s) := by
  unfold execReleaseTrigger; dsimp only; (repeat' split) <;> simp

theorem answers_stringScheduledChange (string : Nat) (s : State) : Answers s (execStringScheduledChange string s) := by
  unfold execStringScheduledChange; split <;> simp

theorem answers_extensionTick (bus : Nat) (s : State) : Answers s (execExtensionTick bus s) := by
  unfold execExtensionTick; dsimp only; split <;> simp

theorem answers_expanderNak (bus expander : Nat) (s : State) : Answers s (execExpanderNak bus expander s) := by
  unfold execExpanderNak; dsimp only; split <;> simp

theorem answers_expanderRetry (bus : Nat) (ack : Bool) (s : State) : Answers s (execExpanderRetry bus ack s) := by
  unfold execExpanderRetry; dsimp only; (repeat' split) <;> simp

theorem answers_busRestoreAttempt (bus : Nat) (ack : Bool) (s : State) : Answers s (execBusRestoreAttempt bus ack s) := by
  unfold execBusRestoreAttempt; dsimp only; (repeat' split) <;> simp

theorem answers_powerGoodChange (string : Nat) (level : Bool) (s : State) : Answers s (execPowerGoodChange string level s) := by
  unfold execPowerGoodChange; split <;> simp

theorem answers_powerGoodDebounce (string : Nat) (s : State) : Answers s (execPowerGoodDebounce string s) := by
  unfold execPowerGoodDebounce; dsimp only; (repeat' split) <;> simp

theorem answers_powerGoodTimeout (slot : Nat) (s : State) : Answers s (execPowerGoodTimeout slot s) := by
  unfold execPowerGoodTimeout; (repeat' split) <;> simp

theorem answers_maxDelayExpiry (edge : Nat) (s : State) : Answers s (execMaxDelayExpiry edge s) := by
  unfold execMaxDelayExpiry; dsimp only; (repeat' split) <;> simp

theorem answers_slotHold (h : Hdr) (slot : Nat) (s : State) : Answers s (execSlotHold h slot s) :=
  answers_commandC fun _ _ => by dsimp only; split <;> simp

theorem answers_slotRelease (h : Hdr) (slot : Nat) (s : State) : Answers s (execSlotRelease h slot s) :=
  answers_command fun _ _ => by dsimp only; (repeat' split) <;> simp

theorem answers_slotRecover (h : Hdr) (slot : Nat) (s : State) : Answers s (execSlotRecover h slot s) :=
  answers_commandC fun _ _ => by dsimp only; (repeat' split) <;> simp

theorem answers_slotUnquarantine (h : Hdr) (slot : Nat) (s : State) : Answers s (execSlotUnquarantine h slot s) :=
  answers_commandC fun _ _ => by dsimp only; (repeat' split) <;> simp

theorem answers_busRestore (h : Hdr) (bus : Nat) (s : State) : Answers s (execBusRestore h bus s) :=
  answers_command fun _ _ => by split <;> simp

/-! ### Rows of the policy image (chapter 5) -/

theorem answers_policyStage (h : Hdr) (length hostAddr : Nat) (data : Bytes) (s : State) (verdicts : Nat) :
    Answers s (execPolicyStage h length hostAddr data s verdicts) :=
  answers_command (blows_ownBody fun _ _ => by dsimp only; (repeat' split) <;> simp)

theorem answers_policyCommit (h : Hdr) (flags serial : Nat) (s : State) : Answers s (execPolicyCommit h flags serial s) :=
  answers_command fun _ _ => by dsimp only; (repeat' split) <;> simp

theorem answers_portEpochSwap (port : Nat) (s : State) : Answers s (execPortEpochSwap port s) := by
  unfold execPortEpochSwap; dsimp only; (repeat' split) <;> simp

theorem answers_policyCommitTimeout (s : State) : Answers s (execPolicyCommitTimeout s) := by
  unfold execPolicyCommitTimeout; (repeat' split) <;> simp

theorem answers_policyDiscard (h : Hdr) (serial : Nat) (s : State) : Answers s (execPolicyDiscard h serial s) :=
  answers_commandC fun _ _ => by split <;> simp

theorem answers_violationReset (h : Hdr) (rule : Nat) (s : State) : Answers s (execViolationReset h rule s) :=
  answers_commandC fun _ _ => by simp

/-! ### Rows of the Cartridge Bay (chapter 11) -/

theorem answers_cartridgeInsertion (slot : Nat) (s : State) : Answers s (execCartridgeInsertion slot s) := by
  unfold execCartridgeInsertion; split <;> simp

theorem answers_cartridgeRemoval (slot : Nat) (s : State) : Answers s (execCartridgeRemoval slot s) := by
  unfold execCartridgeRemoval; split <;> simp

theorem answers_ocrPoll (slot : Nat) (ready : Bool) (ident : CartIdent) (s : State) (v : Nat) :
    Answers s (execOcrPoll slot ready ident s v) := by
  unfold execOcrPoll
  dsimp only
  split
  · simp
  split
  · exact answers_ownRow (by split <;> simp)
  split <;> simp

theorem answers_cartridgeTransferDone (slot : Nat) (good : Bool) (s : State) :
    Answers s (execCartridgeTransferDone slot good s) := by
  unfold execCartridgeTransferDone; dsimp only; (repeat' split) <;> simp

theorem answers_cartridgeSleep (slot : Nat) (s : State) : Answers s (execCartridgeSleep slot s) := by
  unfold execCartridgeSleep; split <;> simp

theorem answers_cartridgeReacquire (slot : Nat) (ready : Bool) (s : State) (cid : Bytes) :
    Answers s (execCartridgeReacquire slot ready s cid) := by
  unfold execCartridgeReacquire; dsimp only; (repeat' split) <;> simp

theorem answers_cartridgeLifeRead (slot preEol lifeA lifeB : Nat) (s : State) :
    Answers s (execCartridgeLifeRead slot preEol lifeA lifeB s) := by
  unfold execCartridgeLifeRead; split <;> simp

theorem answers_cartEject (h : Hdr) (slot : Nat) (s : State) : Answers s (execCartEject h slot s) :=
  answers_commandC fun _ _ => by (repeat' split) <;> simp

theorem answers_cartRescan (h : Hdr) (slot : Nat) (s : State) : Answers s (execCartRescan h slot s) :=
  answers_command fun _ _ => by (repeat' split) <;> simp

/-! ### Rows of scans and flash state records (chapter 6) -/

theorem answers_deviceScanStart (device : Nat) (jedec sfdp : Bytes) (s : State) (disagree : Bool) :
    Answers s (execDeviceScanStart device jedec sfdp s disagree) := by
  unfold execDeviceScanStart; dsimp only; (repeat' split) <;> simp

theorem answers_deviceScanEnd (device : Nat) (read : List (Nat × Bytes)) (s : State) (disagree : Bool) :
    Answers s (execDeviceScanEnd device read s disagree) := by
  unfold execDeviceScanEnd; dsimp only; (repeat' split) <;> simp

theorem answers_refreshRequest (device : Nat) (s : State) : Answers s (execRefreshRequest device s) := by
  unfold execRefreshRequest; dsimp only; split <;> simp

theorem answers_verifyRequest (device : Nat) (s : State) : Answers s (execVerifyRequest device s) := by
  unfold execVerifyRequest; dsimp only; split <;> simp

theorem answers_fitLeafEvent (s : State) : Answers s (execFitLeafEvent s) := by
  unfold execFitLeafEvent; dsimp only; split <;> simp

theorem answers_flashStateRecordUpdate (device : Nat) (s : State) : Answers s (execFlashStateRecordUpdate device s) := by
  unfold execFlashStateRecordUpdate; split <;> simp

theorem answers_wearDailyRecord (s : State) : Answers s (execWearDailyRecord s) := by
  unfold execWearDailyRecord; split <;> simp

/-! ### Rows of recovery (chapter 11) -/

theorem answers_operationPositionGrant (device : Nat) (ms : List (Nat × Bytes)) (s : State) (v : Nat) :
    Answers s (execOperationPositionGrant device ms s v) := by
  unfold execOperationPositionGrant
  split
  · simp
  split
  · simp
  split
  · exact answers_ownRow (by simp)
  split
  · split
    · exact answers_ownRow (by simp)
    · simp
  · simp

theorem answers_sourceWaitTimeout (device : Nat) (s : State) : Answers s (execSourceWaitTimeout device s) := by
  unfold execSourceWaitTimeout; (repeat' split) <;> simp

theorem answers_cartridgeWaitTimeout (device : Nat) (s : State) : Answers s (execCartridgeWaitTimeout device s) := by
  unfold execCartridgeWaitTimeout; (repeat' split) <;> simp

theorem answers_blockStaged (device block : Nat) (data : Bytes) (s : State) (disagree : Bool) :
    Answers s (execBlockStaged device block data s disagree) := by
  unfold execBlockStaged; (repeat' split) <;> simp

theorem answers_blockDoneMark (device : Nat) (s : State) (disagree : Bool) : Answers s (execBlockDoneMark device s disagree) := by
  unfold execBlockDoneMark; (repeat' split) <;> simp

theorem answers_flashStatusPoll (device status : Nat) (s : State) (disagree : Bool) :
    Answers s (execFlashStatusPoll device status s disagree) := by
  unfold execFlashStatusPoll; (repeat' split) <;> simp

theorem answers_recoverStage (h : Hdr) (device flags length hostAddr : Nat) (data : Bytes) (s : State) (verdicts : Nat) :
    Answers s (execRecoverStage h device flags length hostAddr data s verdicts) :=
  answers_command (blows_ownBody fun _ _ => by dsimp only; (repeat' split) <;> simp)

/-- The blocks of a RECOVER_DATA that are offered, or one that waits its turn, blow nothing. -/
theorem blows_offer {t : State} {d : Nat} {m : Manifest} {w : DataWait} (c : Prop) [Decidable c] :
    Blows t (if c then t.offerBlocks d m w else (none, t)).2 := by
  split <;> simp

theorem answers_recoverData (h : Hdr) (device first count hostAddr : Nat) (data : Bytes) (s : State) :
    Answers s (execRecoverData h device first count hostAddr data s) :=
  answers_command fun k t => by
    dsimp only
    split
    · simp
    · next o _ =>
      split
      · simp
      · next m _ =>
        have hoffer := blows_offer (t := t) (d := device) (m := m)
          (w := { hdr := k, first, count, data := s.inputOf h hostAddr (65536 * count) data }) (o.dataWait.isEmpty = true)
        split
        · simp
        split
        · simp
        split <;> next e =>
          rw [e] at hoffer
          simpa using hoffer

theorem answers_recoverFull (h : Hdr) (slot : Nat) (s : State) : Answers s (execRecoverFull h slot s) :=
  answers_commandC fun _ _ => by dsimp only; (repeat' split) <;> simp

theorem answers_recoverAbort (h : Hdr) (slot : Nat) (s : State) : Answers s (execRecoverAbort h slot s) :=
  answers_commandC fun _ _ => by split <;> simp

theorem answers_recoverArbAdvance (h : Hdr) (targetSvn : Nat) (s : State) : Answers s (execRecoverArbAdvance h targetSvn s) :=
  answers_commandC fun _ _ => by simp

/-! ### Rows of tamper sources (chapter 13) -/

theorem answers_tamperDetectorAssert (source : Nat) (s : State) : Answers s (execTamperDetectorAssert source s) := by
  unfold execTamperDetectorAssert; dsimp only; (repeat' split) <;> simp

theorem answers_tamperDetectorDeassert (source : Nat) (s : State) : Answers s (execTamperDetectorDeassert source s) := by
  unfold execTamperDetectorDeassert; split <;> simp

theorem answers_tamperSample (m : Nat) (s : State) (w : Nat) (b : Bool) (v : Nat) : Answers s (execTamperSample m s w b v) := by
  unfold execTamperSample
  dsimp only
  split
  · simp
  · rw [answers_next, blows_iff]
    refine ⟨otpGrows_foldl (by simp) (fun t i => by simp) _, by simp⟩

theorem answers_tamperTest (h : Hdr) (source : Nat) (s : State) : Answers s (execTamperTest h source s) :=
  answers_command fun _ _ => by split <;> simp

theorem answers_tamperTestWindowEnd (s : State) : Answers s (execTamperTestWindowEnd s) := by
  unfold execTamperTestWindowEnd; dsimp only; (repeat' split) <;> simp

theorem answers_tamperScheduledTest (s : State) : Answers s (execTamperScheduledTest s) := by
  unfold execTamperScheduledTest; dsimp only; (repeat' split) <;> simp

theorem answers_tamperClear (h : Hdr) (mask : Nat) (s : State) : Answers s (execTamperClear h mask s) :=
  answers_commandC fun _ _ => by dsimp only; split <;> simp

theorem answers_tamperFix (h : Hdr) (mask : Nat) (s : State) : Answers s (execTamperFix h mask s) :=
  answers_commandC fun _ _ => by dsimp only; split <;> simp

/-! ### Rows of the Logbook (chapter 15) -/

theorem answers_logRecordWrite (s : State) : Answers s (execLogRecordWrite s) := by
  unfold execLogRecordWrite; (repeat' split) <;> simp

theorem answers_recordClose (seq : Nat) (s : State) : Answers s (execRecordClose seq s) := by
  simp [execRecordClose]

theorem answers_stormClose (seq : Nat) (s : State) : Answers s (execStormClose seq s) := by
  simp [execStormClose]

theorem answers_timeMark (s : State) : Answers s (execTimeMark s) := by
  unfold execTimeMark; split <;> simp

theorem answers_lgbCursorWrite (high : Nat) (s : State) : Answers s (execLgbCursorWrite high s) := by
  unfold execLgbCursorWrite; split <;> simp

theorem answers_logAck (h : Hdr) (uptoSeq : Nat) (s : State) : Answers s (execLogAck h uptoSeq s) :=
  answers_commandC fun _ _ => by split <;> simp

theorem answers_logClear (h : Hdr) (uptoSeq : Nat) (s : State) : Answers s (execLogClear h uptoSeq s) :=
  answers_commandC fun _ _ => by split <;> simp

/-! ### Rows of device time (chapter 14) -/

theorem answers_timeSet (h : Hdr) (wallNs atDmt mode flags : Nat) (s : State) :
    Answers s (execTimeSet h wallNs atDmt mode flags s) :=
  answers_commandC fun _ _ => by dsimp only; (repeat' split) <;> simp

theorem answers_timeSlewEnd (s : State) : Answers s (execTimeSlewEnd s) := by
  unfold execTimeSlewEnd; (repeat' split) <;> simp

theorem answers_dmtCheckpoint (s : State) : Answers s (execDmtCheckpoint s) := by
  unfold execDmtCheckpoint; split <;> simp

/-! ### Rows of power and device start (chapters 2 and 16) -/

theorem answers_pwrOkRise (s : State) (ramFails : Bool) : Answers s (execPwrOkRise s ramFails) := by
  unfold execPwrOkRise; dsimp only; (repeat' split) <;> simp

theorem answers_pwrOkFall (s : State) : Answers s (execPwrOkFall s) := by
  unfold execPwrOkFall; split <;> simp

theorem answers_brownOut (s : State) : Answers s (execBrownOut s) := by
  unfold execBrownOut; split <;> simp

theorem answers_guardDefaultApplied (s : State) : Answers s (execGuardDefaultApplied s) := by
  unfold execGuardDefaultApplied; split <;> simp

theorem answers_firstStage (fsp : Bytes) (entropyGood : Bool) (s : State) (eccError : Bool) :
    Answers s (execFirstStage fsp entropyGood s eccError) := by
  unfold execFirstStage; dsimp only; (repeat' split) <;> simp

theorem answers_domainSwitchOn (s : State) (digestFails : Nat) : Answers s (execDomainSwitchOn s digestFails) := by
  unfold execDomainSwitchOn; dsimp only; (repeat' split) <;> simp

theorem answers_cartridgeSearch (slot : Nat) (image : Bytes) (s : State) : Answers s (execCartridgeSearch slot image s) := by
  unfold execCartridgeSearch; (repeat' split) <;> simp

theorem answers_serialStatusFrame (s : State) : Answers s (execSerialStatusFrame s) := by
  unfold execSerialStatusFrame; split <;> simp

theorem answers_bundleLoadComplete (header : List Bytes) (blocks : List (List Bytes)) (laneFails portFails : Nat) (s : State) :
    Answers s (execBundleLoadComplete header blocks laneFails portFails s) := by
  unfold execBundleLoadComplete; dsimp only; (repeat' split) <;> simp

theorem answers_policyLoad (s : State) (v : Nat) : Answers s (execPolicyLoad s v) := by
  unfold execPolicyLoad
  split
  · simp
  refine answers_ownRow ?_
  have hchoice : Blows s.tryOwn (s.tryOwn.chooseImage v).1 := by simp
  dsimp only
  split
  · next t e =>
    rw [e] at hchoice
    have ht : Blows s t := ⟨hchoice.otp, hchoice.pending⟩
    simp [ht.otp, ht.pending]
  · next t k fb e =>
    rw [e] at hchoice
    have ht : Blows s t := ⟨hchoice.otp, hchoice.pending⟩
    split <;> simp [ht.otp, ht.pending]

theorem answers_wardenCopyRepair (s : State) : Answers s (execWardenCopyRepair s) := by
  unfold execWardenCopyRepair; dsimp only; split <;> simp

theorem answers_certificateBuild (s : State) (k : Nat) : Answers s (execCertificateBuild s k) := by
  unfold execCertificateBuild
  split
  · simp
  split
  · simp
  refine answers_ownRow ?_
  have hrun : Blows s.tryOwn (s.tryOwn.signRun (1 + s.tryOwn.leafBodies.length) k).2 := by simp
  split
  · next e => simpa [e] using hrun
  · next e =>
    rw [e, blows_iff] at hrun
    dsimp only
    split <;> simpa using hrun

theorem answers_controlRestartComplete (s : State) : Answers s (execControlRestartComplete s) := by
  unfold execControlRestartComplete; dsimp only; (repeat' split) <;> simp

/-! ### Rows of firmware updates (chapter 2) -/

theorem answers_fwStage (h : Hdr) (component target length hostAddr : Nat) (data : Bytes) (s : State) (verdicts : Nat) :
    Answers s (execFwStage h component target length hostAddr data s verdicts) :=
  answers_command (blows_ownBody fun _ _ => by (repeat' split) <;> simp)

theorem answers_fwActivate (h : Hdr) (component copy : Nat) (s : State) : Answers s (execFwActivate h component copy s) :=
  answers_command fun _ _ => by dsimp only; (repeat' split) <;> simp

theorem answers_fwArbAdvance (h : Hdr) (counter targetSvn flags : Nat) (s : State) :
    Answers s (execFwArbAdvance h counter targetSvn flags s) :=
  answers_commandC fun _ _ => by dsimp only; (repeat' split) <;> simp

theorem answers_queryDeviceIdentifiers (peer : Peer) (s : State) : Answers s (execQueryDeviceIdentifiers peer s) := by
  unfold execQueryDeviceIdentifiers; split <;> simp

theorem answers_getFirmwareParameters (peer : Peer) (s : State) : Answers s (execGetFirmwareParameters peer s) := by
  unfold execGetFirmwareParameters; split <;> simp

theorem answers_requestUpdate (peer : Peer) (maxTransfer components : Nat) (s : State) :
    Answers s (execRequestUpdate peer maxTransfer components s) := by
  unfold execRequestUpdate; (repeat' split) <;> simp

theorem answers_passComponentTable (peer : Peer) (component _stamp : Nat) (s : State) :
    Answers s (execPassComponentTable peer component _stamp s) := by
  unfold execPassComponentTable; (repeat' split) <;> simp

theorem answers_updateComponent (peer : Peer) (component size : Nat) (s : State) :
    Answers s (execUpdateComponent peer component size s) := by
  unfold execUpdateComponent; dsimp only; (repeat' split) <;> simp

theorem answers_requestFirmwareData (data : Bytes) (s : State) : Answers s (execRequestFirmwareData data s) := by
  unfold execRequestFirmwareData; dsimp only; (repeat' split) <;> simp

theorem answers_transferComplete (s : State) : Answers s (execTransferComplete s) := by
  unfold execTransferComplete; (repeat' split) <;> simp

theorem answers_verifyComplete (s : State) (v : Nat) : Answers s (execVerifyComplete s v) := by
  unfold execVerifyComplete
  split
  · next u _ =>
    split
    · refine answers_ownRow ?_
      have hjudged : Blows s.tryOwn (s.tryOwn.judgeComponent u.component u.image v).2 := by simp
      split <;> next e => simpa [e] using hjudged
    · simp
  · simp

theorem answers_applyComplete (s : State) : Answers s (execApplyComplete s) := by
  unfold execApplyComplete; (repeat' split) <;> simp

theorem answers_activateFirmware (peer : Peer) (selfContained : Bool) (s : State) :
    Answers s (execActivateFirmware peer selfContained s) := by
  unfold execActivateFirmware; dsimp only; (repeat' split) <;> simp

theorem answers_getStatus (peer : Peer) (s : State) : Answers s (execGetStatus peer s) := by
  unfold execGetStatus; split <;> simp

theorem answers_cancelUpdateComponent (peer : Peer) (s : State) : Answers s (execCancelUpdateComponent peer s) := by
  unfold execCancelUpdateComponent; (repeat' split) <;> simp

theorem answers_cancelUpdate (peer : Peer) (s : State) : Answers s (execCancelUpdate peer s) := by
  unfold execCancelUpdate; (repeat' split) <;> simp

theorem answers_fwUpdateTimeout (s : State) : Answers s (execFwUpdateTimeout s) := by
  unfold execFwUpdateTimeout; (repeat' split) <;> simp

/-! ### Rows of faults (chapter 16) -/

theorem answers_powerCapSet (h : Hdr) (cap : Nat) (s : State) : Answers s (execPowerCapSet h cap s) :=
  answers_commandC fun _ _ => by simp

theorem answers_temperEvaluation (tj : Int) (current utilPct waitE : Nat) (scanLate ack : Bool) (s : State) (bellowsPct : Nat) :
    Answers s (execTemperEvaluation tj current utilPct waitE scanLate ack s bellowsPct) := by
  unfold execTemperEvaluation; dsimp only; (repeat' split) <;> simp

theorem answers_avsRetry (ack : Bool) (s : State) : Answers s (execAvsRetry ack s) := by
  unfold execAvsRetry; (repeat' split) <;> simp

theorem answers_powerCapEvaluation (power : Nat) (s : State) : Answers s (execPowerCapEvaluation power s) := by
  unfold execPowerCapEvaluation; dsimp only; (repeat' split) <;> simp

theorem answers_blockFault (kind index : Nat) (s : State) (resends : Nat) : Answers s (execBlockFault kind index s resends) := by
  unfold execBlockFault; (repeat' split) <;> simp

theorem answers_regionReinitDone (s : State) : Answers s (execRegionReinitDone s) := by
  unfold execRegionReinitDone; split <;> simp

theorem answers_lockstepMismatch (s : State) : Answers s (execLockstepMismatch s) := by
  unfold execLockstepMismatch; dsimp only; (repeat' split) <;> simp

theorem answers_wardenTakeoverDone (good : Bool) (s : State) : Answers s (execWardenTakeoverDone good s) := by
  unfold execWardenTakeoverDone; (repeat' split) <;> simp

theorem answers_wardenSelfTestDone (passed : Bool) (s : State) : Answers s (execWardenSelfTestDone passed s) := by
  unfold execWardenSelfTestDone; (repeat' split) <;> simp

/-! ### Rows of measurement and digest contexts (chapter 6) -/

theorem answers_measureScan (h : Hdr) (device kind first count : Nat) (s : State) :
    Answers s (execMeasureScan h device kind first count s) :=
  answers_command fun _ _ => by dsimp only; (repeat' split) <;> simp

theorem answers_wearForecast (h : Hdr) (device hostAddr : Nat) (s : State) : Answers s (execWearForecast h device hostAddr s) :=
  answers_commandC fun _ _ => by split <;> simp

theorem answers_wearReset (h : Hdr) (device : Nat) (s : State) : Answers s (execWearReset h device s) :=
  answers_commandC fun _ _ => by split <;> simp

theorem answers_digestOpen (h : Hdr) (alg keyLen outLen keyAddr : Nat) (data : Bytes) (s : State) :
    Answers s (execDigestOpen h alg keyLen outLen keyAddr data s) :=
  answers_commandC fun _ _ => by split <;> simp

theorem answers_digestUpdate (h : Hdr) (context descCount listAddr : Nat) (list data : Bytes) (s : State) :
    Answers s (execDigestUpdate h context descCount listAddr list data s) :=
  answers_command fun _ _ => by (repeat' split) <;> simp

theorem answers_digestFinish (h : Hdr) (context flags hostAddr : Nat) (s : State) :
    Answers s (execDigestFinish h context flags hostAddr s) :=
  answers_command fun _ _ => by (repeat' split) <;> simp

theorem answers_digestClose (h : Hdr) (context : Nat) (s : State) : Answers s (execDigestClose h context s) :=
  answers_commandC fun _ _ => by split <;> simp

/-! ### Rows of the SPDM responder (chapter 10) -/

theorem answers_setEndpointId (binding op eid : Nat) (s : State) : Answers s (execSetEndpointId binding op eid s) := by
  unfold execSetEndpointId; (repeat' split) <;> simp

theorem answers_getEndpointId (binding : Nat) (s : State) : Answers s (execGetEndpointId binding s) := by
  unfold execGetEndpointId; split <;> simp

theorem answers_getEndpointUuid (binding : Nat) (s : State) : Answers s (execGetEndpointUuid binding s) := by
  unfold execGetEndpointUuid; split <;> simp

theorem answers_getMctpVersionSupport (binding msgType : Nat) (s : State) :
    Answers s (execGetMctpVersionSupport binding msgType s) := by
  unfold execGetMctpVersionSupport; (repeat' split) <;> simp

theorem answers_getMessageTypeSupport (binding : Nat) (s : State) : Answers s (execGetMessageTypeSupport binding s) := by
  unfold execGetMessageTypeSupport; split <;> simp

theorem answers_mctpUnsupportedCmd (binding _code : Nat) (s : State) : Answers s (execMctpUnsupportedCmd binding _code s) := by
  unfold execMctpUnsupportedCmd; split <;> simp

/-- Room for a connection is made in the Attestation Responder alone. -/
theorem blows_connRoom {s t : State} {p : Peer} (h : s.connRoom p = some t) : Blows s t := by
  unfold State.connRoom State.evictConn at h
  dsimp only at h
  split at h
  · cases h; exact ⟨.refl _, rfl⟩
  · split at h
    · cases h
    · cases h; exact ⟨.refl _, rfl⟩

theorem answers_getVersion (peer : Peer) (req : Bytes) (s : State) : Answers s (execGetVersion peer req s) := by
  unfold execGetVersion
  split
  · simp
  split
  · simp
  split
  · simp
  split
  · simp
  · next hroom => simpa using blows_connRoom hroom

theorem answers_getCapabilities (peer : Peer) (req : Bytes) (s : State) : Answers s (execGetCapabilities peer req s) := by
  unfold execGetCapabilities; dsimp only; (repeat' split) <;> simp

theorem answers_negotiateAlgorithms (peer : Peer) (req : Bytes) (s : State) : Answers s (execNegotiateAlgorithms peer req s) := by
  unfold execNegotiateAlgorithms; dsimp only; (repeat' split) <;> simp

theorem answers_getDigests (peer : Peer) (req : Bytes) (s : State) : Answers s (execGetDigests peer req s) := by
  unfold execGetDigests; dsimp only; (repeat' split) <;> simp

theorem answers_getCertificate (peer : Peer) (req : Bytes) (s : State) : Answers s (execGetCertificate peer req s) := by
  unfold execGetCertificate; dsimp only; (repeat' split) <;> simp

theorem answers_getMeasurements (peer : Peer) (req : Bytes) (k : Nat) (s : State) : Answers s (execGetMeasurements peer req k s) :=
  answers_ownRow (by simp)

theorem answers_challenge (peer : Peer) (req : Bytes) (k : Nat) (s : State) : Answers s (execChallenge peer req k s) :=
  answers_ownRow (by simp)

theorem answers_keyExchange (peer : Peer) (req : Bytes) (k : Nat) (s : State) : Answers s (execKeyExchange peer req k s) :=
  answers_ownRow (by simp)

theorem answers_finish (peer : Peer) (req : Bytes) (s : State) : Answers s (execFinish peer req s) := by
  unfold execFinish; dsimp only; (repeat' split) <;> simp

theorem answers_heartbeat (peer : Peer) (req : Bytes) (s : State) : Answers s (execHeartbeat peer req s) := by
  unfold execHeartbeat; dsimp only; (repeat' split) <;> simp

theorem answers_keyUpdate (peer : Peer) (req : Bytes) (s : State) : Answers s (execKeyUpdate peer req s) := by
  unfold execKeyUpdate; dsimp only; (repeat' split) <;> simp

theorem answers_endSession (peer : Peer) (req : Bytes) (s : State) : Answers s (execEndSession peer req s) := by
  unfold execEndSession; dsimp only; (repeat' split) <;> simp

theorem answers_spdmUnsupportedRequest (peer : Peer) (req : Bytes) (s : State) :
    Answers s (execSpdmUnsupportedRequest peer req s) := by
  unfold execSpdmUnsupportedRequest; split <;> simp

theorem answers_spdmSessionIdleTimeout (session : Nat) (s : State) : Answers s (execSpdmSessionIdleTimeout session s) := by
  unfold execSpdmSessionIdleTimeout; split <;> simp

theorem answers_identityCertInstall (h : Hdr) (length hostAddr : Nat) (data : Bytes) (s : State) :
    Answers s (execIdentityCertInstall h length hostAddr data s) :=
  answers_commandC fun _ _ => by (repeat' split) <;> simp

/-! ### Rows of registers and islands (chapters 8 and 16) -/

theorem answers_rcRegisterRead (fn addr : Nat) (s : State) : Answers s (execRcRegisterRead fn addr s) := by
  unfold execRcRegisterRead; (repeat' split) <;> simp

theorem answers_registerLowWordRead (fn addr : Nat) (s : State) : Answers s (execRegisterLowWordRead fn addr s) := by
  unfold execRegisterLowWordRead; (repeat' split) <;> simp

theorem answers_registerWrite (fn addr value : Nat) (s : State) : Answers s (execRegisterWrite fn addr value s) := by
  unfold execRegisterWrite; (repeat' split) <;> simp

theorem answers_islandCrossingTimeout (fn island : Nat) (cmd : Option Hdr) (s : State) :
    Answers s (execIslandCrossingTimeout fn island cmd s) := by
  unfold execIslandCrossingTimeout; (repeat' split) <;> simp

theorem answers_islandResetRequest (island : Nat) (s : State) : Answers s (execIslandResetRequest island s) := by
  unfold execIslandResetRequest; dsimp only; (repeat' split) <;> simp

theorem answers_islandClockStop (island : Nat) (s : State) : Answers s (execIslandClockStop island s) := by
  unfold execIslandClockStop; split <;> simp

theorem answers_islandClockReturn (island : Nat) (s : State) : Answers s (execIslandClockReturn island s) := by
  unfold execIslandClockReturn; split <;> simp

/-! ### Every row -/

/-- Every row answers, and has blown at most bits at places that exist. -/
theorem answers_exec (c : Instr) (s : State) : Answers s (exec c s) := by
  cases c with
  | sessionNegotiate => exact answers_sessionNegotiate ..
  | capabilities => exact answers_commandR
  | echo => exact answers_commandR
  | slotStatus => exact answers_commandR
  | slotHold => exact answers_slotHold ..
  | slotRelease => exact answers_slotRelease ..
  | slotRecover => exact answers_slotRecover ..
  | slotUnquarantine => exact answers_slotUnquarantine ..
  | busRestore => exact answers_busRestore ..
  | policyStage => exact answers_policyStage ..
  | policyCommit => exact answers_policyCommit ..
  | policyDiscard => exact answers_policyDiscard ..
  | policyStatus => exact answers_commandR
  | violationCounts => exact answers_commandR
  | violationReset => exact answers_violationReset ..
  | portStatus => exact answers_commandR
  | portIdleWindow => exact answers_portIdleWindow ..
  | measureStatus => exact answers_commandR
  | leafRead => exact answers_commandR
  | measureScan => exact answers_measureScan ..
  | wearRead => exact answers_commandR
  | wearForecast => exact answers_wearForecast ..
  | wearReset => exact answers_wearReset ..
  | digestOpen => exact answers_digestOpen ..
  | digestUpdate => exact answers_digestUpdate ..
  | digestFinish => exact answers_digestFinish ..
  | digestClose => exact answers_digestClose ..
  | pkOp => exact answers_pkOp ..
  | hammerStatus => exact answers_commandR
  | hammerLaneTest => exact answers_hammerLaneTest ..
  | receiptSign => exact answers_receiptSign ..
  | receiptBatch => exact answers_receiptBatch ..
  | receiptKeys => exact answers_commandR
  | psdRead => exact answers_commandR
  | psdChanges => exact answers_psdChanges ..
  | configDigest => exact answers_commandR
  | identityCerts => exact answers_commandR
  | identityCertInstall => exact answers_identityCertInstall ..
  | recoverStatus => exact answers_commandR
  | recoverStage => exact answers_recoverStage ..
  | recoverData => exact answers_recoverData ..
  | recoverFull => exact answers_recoverFull ..
  | recoverAbort => exact answers_recoverAbort ..
  | recoverArbAdvance => exact answers_recoverArbAdvance ..
  | cartStatus => exact answers_commandR
  | cartCatalogue => exact answers_commandR
  | cartLife => exact answers_commandR
  | cartEject => exact answers_cartEject ..
  | cartRescan => exact answers_cartRescan ..
  | lcStatus => exact answers_commandR
  | cruChallenge => exact answers_cruChallenge ..
  | lcTransition => exact answers_lcTransition ..
  | ownerKeysRead => exact answers_commandR
  | ownerKeyChange => exact answers_ownerKeyChange ..
  | debugGrant => exact answers_debugGrant ..
  | debugEnd => exact answers_debugEnd ..
  | fwStage => exact answers_fwStage ..
  | fwActivate => exact answers_fwActivate ..
  | fwStatus => exact answers_commandR
  | fwArbAdvance => exact answers_fwArbAdvance ..
  | rngRead => exact answers_rngRead ..
  | otpRead => exact answers_commandR
  | timeRead => exact answers_commandR
  | timeSet => exact answers_timeSet ..
  | wind => exact answers_wind ..
  | watchdogStatus => exact answers_commandR
  | watchdogArm => exact answers_watchdogArm ..
  | tamperStatus => exact answers_commandR
  | tamperClear => exact answers_tamperClear ..
  | tamperTest => exact answers_tamperTest ..
  | tamperFix => exact answers_tamperFix ..
  | logStatus => exact answers_commandR
  | logRead => exact answers_commandR
  | logAck => exact answers_logAck ..
  | logClear => exact answers_logClear ..
  | meterStatus => exact answers_commandR
  | meterRecord => exact answers_commandR
  | meterAck => exact answers_meterAck ..
  | meterClose => exact answers_meterClose ..
  | faultStatus => exact answers_commandR
  | powerCapSet => exact answers_powerCapSet ..
  | powerStatus => exact answers_commandR
  | sqTailDoorbell => exact answers_sqTailDoorbell ..
  | cqHeadDoorbell => exact answers_cqHeadDoorbell ..
  | queueOpen => exact answers_queueOpen ..
  | queueClose => exact answers_queueClose ..
  | queueReset => exact answers_queueReset ..
  | wwuWindWrite => exact answers_wwuWindWrite ..
  | lgbCursorWrite => exact answers_lgbCursorWrite ..
  | rcRegisterRead => exact answers_rcRegisterRead ..
  | registerLowWordRead => exact answers_registerLowWordRead ..
  | registerWrite => exact answers_registerWrite ..
  | islandCrossingTimeout => exact answers_islandCrossingTimeout ..
  | pwrOkRise => exact answers_pwrOkRise ..
  | pwrOkFall => exact answers_pwrOkFall ..
  | brownOut => exact answers_brownOut ..
  | domainSwitchOn => exact answers_domainSwitchOn ..
  | guardDefaultApplied => exact answers_guardDefaultApplied ..
  | firstStage => exact answers_firstStage ..
  | cartridgeSearch => exact answers_cartridgeSearch ..
  | serialStatusFrame => exact answers_serialStatusFrame ..
  | bundleLoadComplete => exact answers_bundleLoadComplete ..
  | policyLoad => exact answers_policyLoad ..
  | wardenCopyRepair => exact answers_wardenCopyRepair ..
  | certificateBuild => exact answers_certificateBuild ..
  | controlRestartComplete => exact answers_controlRestartComplete ..
  | perstAssert => exact answers_perstAssert ..
  | perstDeassert => exact answers_perstDeassert ..
  | pcieHotReset => exact answers_pcieHotReset ..
  | functionLevelReset => exact answers_functionLevelReset ..
  | busMasterDisable => exact answers_busMasterDisable ..
  | submissionFetch => exact answers_submissionFetch ..
  | hostReadFault => exact answers_hostReadFault ..
  | completionWrite => exact answers_completionWrite ..
  | interruptCoalesceExpiry => exact answers_interruptCoalesceExpiry ..
  | asyncEventDelivery => exact answers_asyncEventDelivery ..
  | queueCloseTimeout => exact answers_queueCloseTimeout ..
  | frameReceived => exact answers_frameReceived ..
  | fragmentTimeout => exact answers_fragmentTimeout ..
  | smbusBlockRead => exact answers_smbusBlockRead ..
  | i3cPrivateRead => exact answers_i3cPrivateRead ..
  | baudRevert => exact answers_baudRevert ..
  | outboxRetry => exact answers_outboxRetry ..
  | jtagMailboxFrame => exact answers_jtagMailboxFrame ..
  | jtagLcTransition => exact answers_jtagLcTransition ..
  | setEndpointId => exact answers_setEndpointId ..
  | getEndpointId => exact answers_getEndpointId ..
  | getEndpointUuid => exact answers_getEndpointUuid ..
  | getMctpVersionSupport => exact answers_getMctpVersionSupport ..
  | getMessageTypeSupport => exact answers_getMessageTypeSupport ..
  | mctpUnsupportedCmd b c => exact answers_mctpUnsupportedCmd b c s
  | getVersion => exact answers_getVersion ..
  | getCapabilities => exact answers_getCapabilities ..
  | negotiateAlgorithms => exact answers_negotiateAlgorithms ..
  | getDigests => exact answers_getDigests ..
  | getCertificate => exact answers_getCertificate ..
  | challenge => exact answers_challenge ..
  | getMeasurements => exact answers_getMeasurements ..
  | keyExchange => exact answers_keyExchange ..
  | finish => exact answers_finish ..
  | heartbeat => exact answers_heartbeat ..
  | keyUpdate => exact answers_keyUpdate ..
  | endSession => exact answers_endSession ..
  | spdmUnsupportedRequest => exact answers_spdmUnsupportedRequest ..
  | spdmSessionIdleTimeout => exact answers_spdmSessionIdleTimeout ..
  | queryDeviceIdentifiers => exact answers_queryDeviceIdentifiers ..
  | getFirmwareParameters => exact answers_getFirmwareParameters ..
  | requestUpdate => exact answers_requestUpdate ..
  | passComponentTable p c k => exact answers_passComponentTable p c k s
  | updateComponent => exact answers_updateComponent ..
  | requestFirmwareData => exact answers_requestFirmwareData ..
  | transferComplete => exact answers_transferComplete ..
  | verifyComplete => exact answers_verifyComplete ..
  | applyComplete => exact answers_applyComplete ..
  | activateFirmware => exact answers_activateFirmware ..
  | getStatus => exact answers_getStatus ..
  | cancelUpdateComponent => exact answers_cancelUpdateComponent ..
  | cancelUpdate => exact answers_cancelUpdate ..
  | fwUpdateTimeout => exact answers_fwUpdateTimeout ..
  | hostCsFall => exact answers_hostCsFall ..
  | hostCsRise => exact answers_hostCsRise ..
  | portEpochSwap => exact answers_portEpochSwap ..
  | policyCommitTimeout => exact answers_policyCommitTimeout ..
  | hostIdlePoint => exact answers_hostIdlePoint ..
  | resyncPulseEnd => exact answers_resyncPulseEnd ..
  | idleWindowEnd => exact answers_idleWindowEnd ..
  | idleWaitLog => exact answers_idleWaitLog ..
  | hostClockStall => exact answers_hostClockStall ..
  | gapWaitExpiry => exact answers_gapWaitExpiry ..
  | fVddioLoss => exact answers_fVddioLoss ..
  | hVddioLoss => exact answers_hVddioLoss ..
  | deviceScanStart => exact answers_deviceScanStart ..
  | flashStatusPoll => exact answers_flashStatusPoll ..
  | deviceScanEnd => exact answers_deviceScanEnd ..
  | refreshRequest => exact answers_refreshRequest ..
  | verifyRequest => exact answers_verifyRequest ..
  | fitLeafEvent => exact answers_fitLeafEvent ..
  | flashStateRecordUpdate => exact answers_flashStateRecordUpdate ..
  | psdRecomputation => exact answers_psdRecomputation ..
  | wearDailyRecord => exact answers_wearDailyRecord ..
  | releaseTrigger => exact answers_releaseTrigger ..
  | stringScheduledChange => exact answers_stringScheduledChange ..
  | extensionTick => exact answers_extensionTick ..
  | maxDelayExpiry e => exact answers_maxDelayExpiry e s
  | powerGoodChange => exact answers_powerGoodChange ..
  | powerGoodDebounce => exact answers_powerGoodDebounce ..
  | powerGoodTimeout => exact answers_powerGoodTimeout ..
  | expanderNak => exact answers_expanderNak ..
  | expanderRetry => exact answers_expanderRetry ..
  | busRestoreAttempt => exact answers_busRestoreAttempt ..
  | hammerOpComplete => exact answers_hammerOpComplete ..
  | knownAnswerTestDone => exact answers_knownAnswerTestDone ..
  | sparePromotionDone => exact answers_sparePromotionDone ..
  | lanePowerUpReady => exact answers_lanePowerUpReady ..
  | poolRefillDone => exact answers_poolRefillDone ..
  | forgeCheckpoint => exact answers_forgeCheckpoint ..
  | periodBoundary => exact answers_periodBoundary ..
  | periodRecordSign => exact answers_periodRecordSign ..
  | operationPositionGrant => exact answers_operationPositionGrant ..
  | sourceWaitTimeout => exact answers_sourceWaitTimeout ..
  | cartridgeWaitTimeout => exact answers_cartridgeWaitTimeout ..
  | blockStaged => exact answers_blockStaged ..
  | blockDoneMark => exact answers_blockDoneMark ..
  | cartridgeInsertion => exact answers_cartridgeInsertion ..
  | ocrPoll => exact answers_ocrPoll ..
  | cartridgeTransferDone => exact answers_cartridgeTransferDone ..
  | cartridgeRemoval => exact answers_cartridgeRemoval ..
  | cartridgeSleep => exact answers_cartridgeSleep ..
  | cartridgeReacquire => exact answers_cartridgeReacquire ..
  | cartridgeLifeRead => exact answers_cartridgeLifeRead ..
  | tamperDetectorAssert => exact answers_tamperDetectorAssert ..
  | tamperSample => exact answers_tamperSample ..
  | tamperTestWindowEnd => exact answers_tamperTestWindowEnd ..
  | tamperScheduledTest => exact answers_tamperScheduledTest ..
  | channelExpiry => exact answers_channelExpiry ..
  | preExpiryWarning => exact answers_preExpiryWarning ..
  | sleepGuardPass => exact answers_sleepGuardPass ..
  | clockStopDetect => exact answers_clockStopDetect ..
  | clockReturn => exact answers_clockReturn ..
  | iwdExpiry => exact answers_iwdExpiry ..
  | iwdHardTimerExpiry => exact answers_iwdHardTimerExpiry ..
  | dmtCheckpoint => exact answers_dmtCheckpoint ..
  | timeMark => exact answers_timeMark ..
  | logRecordWrite => exact answers_logRecordWrite ..
  | recordClose => exact answers_recordClose ..
  | stormClose => exact answers_stormClose ..
  | temperEvaluation => exact answers_temperEvaluation ..
  | avsRetry => exact answers_avsRetry ..
  | powerCapEvaluation => exact answers_powerCapEvaluation ..
  | drbgReseed => exact answers_drbgReseed ..
  | entropyRetry => exact answers_entropyRetry ..
  | challengeExpiry => exact answers_challengeExpiry ..
  | blockFault => exact answers_blockFault ..
  | regionReinitDone => exact answers_regionReinitDone ..
  | lockstepMismatch => exact answers_lockstepMismatch ..
  | wardenTakeoverDone => exact answers_wardenTakeoverDone ..
  | wardenSelfTestDone => exact answers_wardenSelfTestDone ..
  | islandResetRequest => exact answers_islandResetRequest ..
  | islandClockStop => exact answers_islandClockStop ..
  | hostSckEdge => exact answers_hostSckEdge ..
  | islandClockReturn => exact answers_islandClockReturn ..
  | vddioInRange => exact answers_vddioInRange ..
  | tamperDetectorDeassert => exact answers_tamperDetectorDeassert ..
  | timeSlewEnd => exact answers_timeSlewEnd ..
  | hostReadCompletion => exact answers_hostReadCompletion ..
  | dynamicAddressAssignment => exact answers_dynamicAddressAssignment ..
  | smbusClockLowTimeout => exact answers_smbusClockLowTimeout ..

theorem blows_of_goes {c : Instr} {s t : State} (h : Goes c s t) : Blows s t := by
  obtain ⟨u, he, hu⟩ := answers_exec c s
  cases (show Host.Outcome.next u = .next t from he.symm.trans h)
  exact hu

/-- A step takes the command at the front, or lets a tick of the time base pass. -/
theorem otpGrows_of_step {s t : State} (h : step s = .next t) : OtpGrows s.otp t.otp := by
  unfold step at h
  split at h
  · cases h
    exact otpGrows_tick (.refl _)
  · exact (blows_of_goes h).otp

/-! ### The statements -/

/-- Settles O22: a step looks at the front of the queue alone. -/
theorem stepRunsTheFrontCommand : Obligations.StepRunsTheFrontCommand := by
  unfold Obligations.StepRunsTheFrontCommand
  exact ⟨fun s c rest hq => by simp only [step, hq], fun s hq => by simp only [step, hq]⟩

/-- Settles O23: no row faults or refuses; the spec gives every row an effect, and a row that is not due answers its state (log
entry 11). -/
theorem everyCommandAnswers : Obligations.EveryCommandAnswers := by
  unfold Obligations.EveryCommandAnswers
  intro c s
  obtain ⟨t, ht, _⟩ := answers_exec c s
  exact ⟨t, ht⟩

/-- Settles O24: every ZCP row goes through `command`, which leaves a row that is not taken up without effect (log entry 6). -/
theorem commandsNeedAnOpenSource : Obligations.CommandsNeedAnOpenSource := by
  unfold Obligations.CommandsNeedAnOpenSource
  intro c h op s hz ht
  obtain ⟨inRange, body, hexec⟩ := exec_of_zcp hz s
  show exec c s = _
  rw [hexec, command_waits ht]

/-- Settles O59: a step blows at most bits at places that exist. -/
theorem stepKeepsTheOtpArray : Obligations.StepKeepsTheOtpArray := by
  unfold Obligations.StepKeepsTheOtpArray
  exact fun s t hs h => (otpGrows_of_step h).sound hs

/-- Settles O60: a row blows at most bits, and leaves the queue of waiting commands to the step. -/
theorem commandsOnlyBlowBits : Obligations.CommandsOnlyBlowBits := by
  unfold Obligations.CommandsOnlyBlowBits
  exact fun c s t h => ⟨(blows_of_goes h).otp.kept, (blows_of_goes h).pending⟩

end Sys2Proof.Machine
end

section
/-! SUPPORT. The unary counters of OTP, and what a rise from the reset state reaches; with them the statements on the counters, on
the reset state, on the control messages and on a slot in RECOVERING. -/
namespace Sys2Proof.Machine

/-! ### Unary counters (R434) -/

/-- Position p of the counter at OTP word w is blown. -/
def State.blown (s : State) (w p : Nat) : Bool := (s.otpWord (w + p / 64)).testBit (p % 64)

theorem State.otpWord_blow_same (s : State) {w : Nat} (hw : w < 1024) (m : Nat) :
    (s.blow w m).otpWord w = s.otpWord w ||| m % 2 ^ 64 := by
  simp [State.otpWord, State.blow, otpBlown, hw]

theorem State.otpWord_blow_ne (s : State) {w v : Nat} (hv : v ≠ w) (m : Nat) : (s.blow w m).otpWord v = s.otpWord v := by
  unfold State.otpWord State.blow otpBlown
  split
  · exact Tab.get_set_ne _ _ _ hv
  · rfl

/-- Blowing a position blows that one and no other. -/
theorem State.blown_blowPosition (s : State) {w p : Nat} (hw : w + p / 64 < 1024) (q : Nat) :
    (s.blowPosition w p).blown w q = (s.blown w q || decide (q = p)) := by
  have hmask : 2 ^ (p % 64) % 2 ^ 64 = 2 ^ (p % 64) := Nat.mod_eq_of_lt (Nat.pow_lt_pow_right (by decide) (Nat.mod_lt _ (by decide)))
  unfold State.blown State.blowPosition
  by_cases hword : q / 64 = p / 64
  · have hbit : p % 64 = q % 64 ↔ q = p := by omega
    rw [hword, State.otpWord_blow_same _ hw, hmask, Nat.testBit_or, Nat.testBit_two_pow]
    simp [hbit]
  · have hne : q ≠ p := fun h => hword (by rw [h])
    rw [State.otpWord_blow_ne _ (by omega)]
    simp [hne]

/-- Blowing the positions below m that a condition asks for blows those and no other. -/
theorem State.blown_foldl (s : State) {w m : Nat} (hw : w + m / 64 < 1024) {f : State → Nat → State} (ask : Nat → Bool)
    (hf : ∀ (t : State) p q, p < m → (f t p).blown w q = (t.blown w q || (decide (q = p) && ask p))) (q : Nat) :
    ((List.range m).foldl f s).blown w q = (s.blown w q || (decide (q < m) && ask q)) := by
  induction m with
  | zero => simp
  | succ m ih =>
    have ihm := ih (by omega) fun t p q hp => hf t p q (by omega)
    rw [List.range_succ, List.foldl_append, List.foldl_cons, List.foldl_nil, hf _ _ _ (Nat.lt_succ_self m), ihm]
    by_cases hq : q = m
    · subst hq; simp
    · have hlt : q < m + 1 ↔ q < m := by omega
      simp [hq, hlt]

/-- A counter's value is the least number that no blown position reaches. -/
theorem lt_topPosition_iff (s : State) (w n q : Nat) : q < topPosition s w n ↔ ∃ p, q ≤ p ∧ p < n ∧ s.blown w p = true := by
  unfold topPosition
  induction n with
  | zero => simp
  | succ n ih =>
    rw [List.range_succ, List.foldl_append, List.foldl_cons, List.foldl_nil]
    split
    · next hblown =>
      refine ⟨fun h => ⟨n, by omega, by omega, hblown⟩, fun ⟨p, hqp, hpn, _⟩ => by omega⟩
    · next hblown =>
      rw [ih]
      refine ⟨fun ⟨p, hqp, hpn, hp⟩ => ⟨p, hqp, by omega, hp⟩, fun ⟨p, hqp, hpn, hp⟩ => ⟨p, hqp, ?_, hp⟩⟩
      have hne : p ≠ n := fun h => hblown (h ▸ hp)
      omega

theorem topPosition_le (s : State) (w n : Nat) : topPosition s w n ≤ n := by
  refine Nat.le_of_not_lt fun h => ?_
  obtain ⟨p, hnp, hpn, _⟩ := (lt_topPosition_iff s w n n).1 h
  omega

theorem topPosition_eq_zero {s : State} {w n : Nat} (h : ∀ p, p < n → s.blown w p = false) : topPosition s w n = 0 := by
  refine Nat.eq_zero_of_not_pos fun hpos => ?_
  obtain ⟨p, _, hpn, hp⟩ := (lt_topPosition_iff s w n 0).1 hpos
  simp [h p hpn] at hp

theorem topPosition_eq_succ {s : State} {w n p : Nat} (hpn : p < n) (hp : s.blown w p = true)
    (hnone : ∀ q, p < q → q < n → s.blown w q = false) : topPosition s w n = p + 1 := by
  refine Nat.le_antisymm (Nat.le_of_not_lt fun h => ?_) ((lt_topPosition_iff s w n p).2 ⟨p, le_rfl, hpn, hp⟩)
  obtain ⟨q, hpq, hqn, hq⟩ := (lt_topPosition_iff s w n (p + 1)).1 h
  simp [hnone q hpq hqn] at hq

section Counter
variable (s : State) {c : Nat} (hc : c < 4)
include hc

theorem State.blown_advanceArb (v q : Nat) :
    (s.advanceArb c v).blown (96 + 2 * c) q = (s.blown (96 + 2 * c) q || (decide (q < min v 128) && decide (s.arb c ≤ q))) := by
  refine State.blown_foldl s (by omega) (fun p => decide (s.arb c ≤ p)) (fun t p q hp => ?_) q
  split
  · next h => simp [State.blown_blowPosition t (w := 96 + 2 * c) (p := p) (by omega), h]
  · next h => simp [h]

theorem State.arb_advanceArb {v : Nat} (hv : v ≤ 128) : (s.advanceArb c v).arb c = max v (s.arb c) := by
  refine eq_of_forall_lt_iff fun q => ?_
  have harb : q < s.arb c ↔ _ := lt_topPosition_iff s (96 + 2 * c) 128 q
  rw [lt_max_iff, harb]
  refine (lt_topPosition_iff _ _ _ _).trans ?_
  simp only [State.blown_advanceArb s hc, Bool.or_eq_true, Bool.and_eq_true, decide_eq_true_eq]
  constructor
  · rintro ⟨p, hqp, hp, hblown | ⟨hpv, -⟩⟩
    · exact .inr ⟨p, hqp, hp, hblown⟩
    · exact .inl (by omega)
  · rintro (hqv | ⟨p, hqp, hp, hblown⟩)
    · by_cases hle : s.arb c ≤ v - 1
      · exact ⟨v - 1, by omega, by omega, .inr ⟨by omega, hle⟩⟩
      · obtain ⟨p, hqp, hp, hblown⟩ := harb.1 (by omega)
        exact ⟨p, hqp, hp, .inl hblown⟩
    · exact ⟨p, hqp, hp, .inl hblown⟩

theorem State.otpWord_advanceArb (v : Nat) {w : Nat} (hlo : w ≠ 96 + 2 * c) (hhi : w ≠ 97 + 2 * c) :
    (s.advanceArb c v).otpWord w = s.otpWord w := by
  refine List.foldlRecOn (motive := fun t : State => t.otpWord w = s.otpWord w) _ _ rfl fun t ht p hp => ?_
  have hp128 : p < min v 128 := List.mem_range.1 hp
  split
  · rw [State.blowPosition, State.otpWord_blow_ne _ (by omega), ht]
  · exact ht

theorem State.blown_fillCounter (q : Nat) : (s.fillCounter (96 + 2 * c) 128).blown (96 + 2 * c) q =
    (s.blown (96 + 2 * c) q || decide (q < s.arb c)) := by
  have htop := topPosition_le s (96 + 2 * c) 128
  rw [← Bool.and_true (decide (q < s.arb c))]
  refine State.blown_foldl s (by omega) (fun _ => true) (fun t p q hp => ?_) q
  split
  · next h =>
    by_cases hq : q = p
    · subst hq; simpa [State.blown] using h
    · simp [hq]
  · simp [State.blown_blowPosition t (w := 96 + 2 * c) (p := p) (by omega)]

theorem State.arb_fillCounter : (s.fillCounter (96 + 2 * c) 128).arb c = s.arb c := by
  have htop : s.arb c ≤ 128 := topPosition_le _ _ _
  refine eq_of_forall_lt_iff fun q => ?_
  have harb : q < s.arb c ↔ _ := lt_topPosition_iff s (96 + 2 * c) 128 q
  refine (lt_topPosition_iff _ _ _ _).trans ?_
  simp only [State.blown_fillCounter s hc, Bool.or_eq_true, decide_eq_true_eq]
  refine ⟨fun ⟨p, hqp, hp, h⟩ => ?_, fun h => ?_⟩
  · exact h.elim (fun hblown => harb.2 ⟨p, hqp, hp, hblown⟩) fun hlt => by omega
  · obtain ⟨p, hqp, hp, hblown⟩ := harb.1 h
    exact ⟨p, hqp, hp, .inl hblown⟩

end Counter

/-- Settles O46: a counter's value is read from which positions are blown, and an advance and a completion say of each position
whether they blow it. -/
theorem countersReadTheirHighestPosition : Obligations.CountersReadTheirHighestPosition := by
  unfold Obligations.CountersReadTheirHighestPosition
  intro s c hc
  refine ⟨topPosition_eq_zero, fun p hp hblown => topPosition_eq_succ hp hblown, topPosition_le _ _ _,
    fun v => s.arb_advanceArb hc, fun v w => s.otpWord_advanceArb hc v, s.arb_fillCounter hc, fun p hp => ?_⟩
  have hblown := s.blown_fillCounter hc p
  simpa [State.blown, hp] using hblown

/-! ### The first rise (R45, R456, log entry 7) -/

theorem goes_pwrOkRise_reset (ramFails : Bool) : Goes (.pwrOkRise ramFails) State.reset State.reset.startDevice :=
  goes_pwrOkRise_of_due ramFails rfl (.inl rfl)

/-- What the first device start has: an evaluation of this one start. -/
theorem State.startDevice_reset :
    State.reset.startDevice.spn.domains = 2 ∧ State.reset.startDevice.emb.powerCycles = 1 ∧
    State.reset.startDevice.boot.pwrOk = true ∧ State.reset.startDevice.boot.guardUp = false ∧
    State.reset.startDevice.strs = {} ∧ State.reset.startDevice.apa = {} ∧ State.reset.startDevice.pol = {} ∧
    State.reset.startDevice.cme.queues = [] ∧ State.reset.startDevice.otp = [(104, 1)] := by
  decide +kernel

/-- Regions at their reset values hold the built-in default (R49, R50). -/
theorem State.builtIn_of_regions {t : State} (hguard : t.boot.guardUp = false) (hstrs : t.strs = {}) (hapa : t.apa = {})
    (hpol : t.pol = {}) (hqueues : t.cme.queues = []) :
    (∀ n, (t.slot n).state = .held) ∧ (∀ i, (t.str i).driven = false) ∧
    (∀ p, (t.port p).mode = .own ∧ t.portPins p = {} ∧ (t.port p).bank = {}) ∧ t.image = none ∧
    (∀ q, (t.queue q).state = .closed) := by
  simp [State.slot, State.str, State.port, State.portPins, State.image, State.queue, hguard, hstrs, hapa, hpol, hqueues, Tab.get,
    Port.bank]

/-- Settles O58: the reset state and the state of the first start hold the built-in default, and the one trip of TS14 is the only
bit blown. That reset is the state without main power, MRAM and OTP never written, is the model's choice (log entry 7). -/
theorem resetHoldsTheBuiltInState : Obligations.ResetHoldsTheBuiltInState := by
  unfold Obligations.ResetHoldsTheBuiltInState
  obtain ⟨hdomains, hcycles, hpwr, hguard, hstrs, hapa, hpol, hqueues, hotp⟩ := State.startDevice_reset
  refine ⟨rfl, rfl, ⟨rfl, by simp [State.reset]⟩, ⟨tick State.reset, rfl, by decide +kernel⟩,
    fun r => ⟨_, goes_pwrOkRise_reset r, hdomains, hcycles, hpwr, fun t ht => ?_⟩⟩
  rcases ht with rfl | rfl
  · obtain ⟨hslot, hstr, hport, himage, hqueue⟩ := State.builtIn_of_regions (t := State.reset) rfl rfl rfl rfl rfl
    exact ⟨hslot, hstr, hport, fun w => rfl, himage, hqueue⟩
  · obtain ⟨hslot, hstr, hport, himage, hqueue⟩ := State.builtIn_of_regions hguard hstrs hapa hpol hqueues
    refine ⟨hslot, hstr, hport, fun w => ?_, himage, hqueue⟩
    by_cases hw : w = 104
    · simp [State.otpWord, hotp, Tab.get, hpwr, hw]
    · simp [State.otpWord, hotp, Tab.get, hw, Ne.symm hw]

/-! ### The control messages (R351, R353, log entry 27) -/

/-- Settles O41: on a binding of Table 10-3, with the Control Region up, each message takes the branch that answers it. The
layouts of the answers are DSP0236's, which is the model's choice (log entry 27). -/
theorem controlMessagesAreAnswered : Obligations.ControlMessagesAreAnswered := by
  unfold Obligations.ControlMessagesAreAnswered
  intro s b hup hb
  have hon : s.mctpUp b = true := by simp [State.mctpUp, hup, hb]
  refine ⟨fun op e hop h0 he => ?_, if_pos hon, if_pos hon, fun m hm => ?_, fun m hm hbase => ?_, if_pos hon, fun c => if_pos hon⟩
  · show execSetEndpointId b op e s = _
    simp [execSetEndpointId, hon, hop, h0, he]
  · show execGetMctpVersionSupport b m s = _
    simp [execGetMctpVersionSupport, hon, hm]
  · show execGetMctpVersionSupport b m s = _
    simp [execGetMctpVersionSupport, hon, hm, hbase]

/-! ### A slot in RECOVERING (R375) -/

/-- A cause that names a slot in RECOVERING is reported at rung 3 with the state that stands. -/
theorem State.logSuperseded_reports (s : State) (n : Nat) (why : Reason) :
    ∃ e : LogEv, e.rung = 3 ∧ s.logSuperseded n why = s.report .control e := ⟨_, rfl, rfl⟩

theorem State.recoverSlot_of_recovering {s : State} {n : Nat} (h : (s.slot n).state = .recovering) (why : Reason) (full : Bool) :
    s.recoverSlot n why full = s.logSuperseded n why := by
  simp [State.recoverSlot, h]

theorem ends_slotRecover_of_recovering {s : State} {h : Hdr} {n : Nat} (hr : Ready s h (opSlotRecover.on (le 1 n)))
    (hstate : (s.slot n).state = .recovering) :
    Ends (.slotRecover h n) h (err 0x0421) s ((s.started h).logSuperseded n .command) := by
  show execSlotRecover h n s = _
  exact congrArg _ (commandC_ends hr (by simp [hstate]))

/-- Settles O7: the one operation that starts a recovery, and SLOT_RECOVER, leave a slot in RECOVERING with no more than the
report of the cause. -/
theorem recoveringIsLeftAlone : Obligations.RecoveringIsLeftAlone := by
  unfold Obligations.RecoveringIsLeftAlone
  refine ⟨fun s n why full hstate => ?_, fun s h n hr hstate => ?_⟩
  · rw [State.recoverSlot_of_recovering hstate]
    exact s.logSuperseded_reports n why
  · obtain ⟨e, hrung, he⟩ := (s.started h).logSuperseded_reports n .command
    exact ⟨e, hrung, he ▸ ends_slotRecover_of_recovering hr hstate⟩

end Sys2Proof.Machine
end

section
/-! SUPPORT. A change of one DRBG, and the events of reseeding and of the retry (R432, R433). -/
namespace Sys2Proof.Machine

/-! ### One DRBG of four -/

section One
variable (c : Crucible) (k : Nat) (f : Drbg → Drbg)

@[simp] theorem Crucible.drbg_updDrbg_same : (c.updDrbg k f).drbg k = f (c.drbg k) := by
  unfold Crucible.updDrbg Crucible.drbg
  split <;> simp_all

@[simp] theorem Crucible.updDrbg_keeps : (c.updDrbg k f).entropy = c.entropy ∧ (c.updDrbg k f).entropyHit = c.entropyHit ∧
    (c.updDrbg k f).reseeds = c.reseeds := by
  unfold Crucible.updDrbg
  split <;> simp

theorem Crucible.all_generating : ([0, 1, 2, 3] : List Nat).all (fun j => (c.drbg j).generating) =
    (c.d0.generating && c.d1.generating && c.d2.generating && c.d3.generating) := by
  simp [Crucible.drbg, Bool.and_assoc]

variable {f}

/-- A change that neither starts nor stops a DRBG leaves which of them generate. -/
theorem State.anyDrbg_updDrbg (s : State) (hf : ∀ d, (f d).generating = d.generating) :
    ({ s with cru := s.cru.updDrbg k f } : State).anyDrbg = s.anyDrbg := by
  unfold State.anyDrbg Crucible.updDrbg
  split <;> simp [hf]

/-- A change that stops no DRBG leaves when the last of them stopped. -/
theorem Crucible.lastStop_updDrbg (hf : ∀ d, (f d).stoppedAt = d.stoppedAt) : (c.updDrbg k f).lastStop = c.lastStop := by
  unfold Crucible.lastStop Crucible.updDrbg
  split <;> simp [hf]

end One

/-! ### The two events -/

section Events
variable {s : State} {k : Nat} (hk : k < 4)
include hk

theorem goes_drbgReseed_gathered (hgen : (s.cru.drbg k).generating = true)
    (hdue : 65536 ≤ (s.cru.drbg k).requests ∨ (s.cru.drbg k).lastReseed + 100000 ≤ s.now) :
    Goes (.drbgReseed k true) s
      { s with cru := { s.cru.updDrbg k (fun _ => Drbg.reseeded s.now) with reseeds := satAdd 32 s.cru.reseeds 1 } } := by
  have hdue' : ¬ ((s.cru.drbg k).requests < 65536 ∧ s.now < (s.cru.drbg k).lastReseed + 100000) := by omega
  show execDrbgReseed k true s = _
  simp [execDrbgReseed, hk, hgen, hdue']

theorem goes_drbgReseed_failed (hgen : (s.cru.drbg k).generating = true)
    (hdue : 65536 ≤ (s.cru.drbg k).requests ∨ (s.cru.drbg k).lastReseed + 100000 ≤ s.now) :
    Goes (.drbgReseed k false) s ({ s with cru :=
      { s.cru.updDrbg k (fun d => { d with generating := false, stoppedAt := s.now, lastReseed := s.now }) with
        entropy := if s.cru.entropy = .failed then .failed else .degraded, entropyHit := true } } : State).refuseRandom := by
  have hdue' : ¬ ((s.cru.drbg k).requests < 65536 ∧ s.now < (s.cru.drbg k).lastReseed + 100000) := by omega
  show execDrbgReseed k false s = _
  simp [execDrbgReseed, hk, hgen, hdue']

variable (hstopped : (s.cru.drbg k).generating = false) (hstarted : s.cru.entropy ≠ .starting)
  (hdue : (s.cru.drbg k).lastReseed + 100000 ≤ s.now)
include hstopped hstarted hdue

theorem goes_entropyRetry_gathered {a : Crucible} (ha : a = s.cru.updDrbg k (fun _ => Drbg.reseeded s.now)) :
    Goes (.entropyRetry k true) s ({ s with cru := { a with
      reseeds := satAdd 32 s.cru.reseeds 1
      entropy := if s.cru.entropy = .degraded ∧ ([0, 1, 2, 3] : List Nat).all (fun j => (a.drbg j).generating) = true then .good
        else s.cru.entropy } } : State).placeWork := by
  subst ha
  show execEntropyRetry k true s = _
  simp [execEntropyRetry, hk, hstopped, hstarted, Nat.not_lt.2 hdue, Crucible.all_generating, -List.all_cons]

theorem goes_entropyRetry_failed {b : Crucible} (hb : b = s.cru.updDrbg k (fun d => { d with lastReseed := s.now })) :
    Goes (.entropyRetry k false) s
      (if s.anyDrbg = false ∧ s.cru.lastStop + 1000000 ≤ s.now ∧ s.cru.entropy ≠ .failed then
        ({ s with cru := { b with entropy := .failed, entropyHit := true } } : State).log .control 0x0804 2 0 0
      else { s with cru := b }) := by
  subst hb
  have hany := s.anyDrbg_updDrbg (f := fun d => { d with lastReseed := s.now }) k fun _ => rfl
  have hstop := s.cru.lastStop_updDrbg (f := fun d => { d with lastReseed := s.now }) k fun _ => rfl
  have hnow : ({ s with cru := s.cru.updDrbg k (fun d => { d with lastReseed := s.now }) } : State).now = s.now := rfl
  have hwaited : ¬ (4 ≤ k ∨ (s.cru.drbg k).generating = true ∨ (s.cru.entropy == .starting) = true ∨
      s.now < (s.cru.drbg k).lastReseed + 100000) := by simp [hk, hstopped, hstarted, hdue]
  show execEntropyRetry k false s = _
  simp only [execEntropyRetry, hwaited, hany, hstop, hnow]
  by_cases hlast : s.anyDrbg = false ∧ s.cru.lastStop + 1000000 ≤ s.now ∧ s.cru.entropy ≠ .failed
  · simp [hlast]
  · simp [hlast]

end Events

/-- Settles O48: a due DRBG that gathers enough is fresh, and one that does not has stopped; the retry's flags are read from those that
generate after it. -/
theorem entropyEventsComplete : Obligations.EntropyEventsComplete := by
  unfold Obligations.EntropyEventsComplete
  intro s k a b hk ha hb
  refine ⟨ha ▸ Crucible.drbg_updDrbg_same .., fun hgen hdue =>
      ⟨ha ▸ goes_drbgReseed_gathered hk hgen hdue, fun c hc => ⟨?_, ?_⟩⟩,
    fun hstopped hstarted hdue => ⟨goes_entropyRetry_gathered hk hstopped hstarted hdue ha, fun hlives => ?_,
      fun hnone hlate hnot => ?_⟩⟩
  · simp [hc]
  · exact hc ▸ goes_drbgReseed_failed hk hgen hdue
  · have hlives' : ¬ (s.anyDrbg = false ∧ s.cru.lastStop + 1000000 ≤ s.now ∧ s.cru.entropy ≠ .failed) :=
      fun ⟨hnone, hlate, hnot⟩ => hlives.elim (by simp [hnone]) (Or.rec (Nat.not_lt.2 hlate) hnot)
    simpa [hlives'] using goes_entropyRetry_failed hk hstopped hstarted hdue hb
  · simpa [hnone, hlate, hnot] using goes_entropyRetry_failed hk hstopped hstarted hdue hb

end Sys2Proof.Machine
end

section
/-! SUPPORT. The wind-up channels: what a period, a wind and an expiry leave of a channel (R463 to R473), and with them the commands
and the events of the watchdogs and of device time. -/
namespace Sys2Proof.Machine

/-! ### The stop monitor and the periods -/

theorem State.chan_watchClock_ne (s : State) {n m : Nat} (hm : m ≠ n) : (s.watchClock n).chan m = s.chan m := by
  unfold State.watchClock
  dsimp only
  split
  · rw [State.chan_log]
    exact s.chan_updChan_ne (fun c => { c with onBackup := true }) hm
  · rfl

/-- The stop monitor changes no more of a channel than the clock that it counts on (R469). -/
theorem State.chan_watchClock_same (s : State) (n : Nat) :
    (s.watchClock n).chan n = { s.chan n with onBackup := ((s.watchClock n).chan n).onBackup } := by
  have hself : (s.watchClock n).chan n = s.chan n ∨ (s.watchClock n).chan n = { s.chan n with onBackup := true } := by
    unfold State.watchClock
    dsimp only
    split
    · rw [State.chan_log]
      exact .inr (s.chan_updChan_same n (fun c => { c with onBackup := true }))
    · exact .inl rfl
  rcases hself with h | h <;> rw [h]

theorem State.chan_armChan (s : State) (n : Nat) :
    (s.armChan n).chan n = { s.chan n with
      state := .first, turn := 0, start := s.now, openAt := s.now, deadline := s.now + s.chanFirst n (s.chanRec n), record := s.chanRec n
      warned := false, afterExpiry := false, onBackup := ((s.armChan n).chan n).onBackup } := by
  unfold State.armChan
  rw [State.chan_watchClock_same, State.chan_updChan_same]

/-- A normal period of a channel (R465). -/
theorem State.chan_startPeriod (s : State) (n : Nat) (whole : Bool) :
    (s.startPeriod n whole).chan n = { s.chan n with
      state := .running, start := s.now
      openAt := if whole then s.now else s.now + closedPart (s.fraction n) (s.chanPeriod n (s.chan n).record)
      deadline := s.now + s.chanPeriod n (s.chan n).record, warned := false, afterExpiry := false
      onBackup := ((s.startPeriod n whole).chan n).onBackup } := by
  unfold State.startPeriod
  rw [State.chan_watchClock_same, State.chan_updChan_same]

theorem State.chan_startPeriod_ne (s : State) {n m : Nat} (hm : m ≠ n) (whole : Bool) : (s.startPeriod n whole).chan m = s.chan m := by
  unfold State.startPeriod
  rw [State.chan_watchClock_ne _ hm, State.chan_updChan_ne _ _ hm]

/-! ### Winds (R464, R465) -/

/-- s with a wind of channel n counted in its TURN. -/
def State.countWind (s : State) (n : Nat) : State :=
  s.updChan n (fun c => { c with turn := (c.turn + 1) % 65536, lastWind := s.now })

/-- A wind in the open part of a channel that does not sleep starts the next period. -/
theorem State.acceptWind_of_open {s : State} {n : Nat} (hopen : (s.chan n).state = .first ∨ (s.chan n).openAt ≤ s.now)
    (hsleep : (s.chan n).state ≠ .sleep) (hreacquire : (s.chan n).state ≠ .reacquire)
    (hafter : (s.chan n).afterExpiry = false) (ms : Nat) :
    s.acceptWind n false ms = (0, (s.countWind n).startPeriod n false) := by
  have hnotClosed : ¬ ((s.chan n).state = .running ∧ s.now < (s.chan n).openAt) := by
    rintro ⟨hrunning, hclosed⟩
    rcases hopen with h | h
    · simp [hrunning] at h
    · omega
  simp [State.acceptWind, hnotClosed, hsleep, hreacquire, hafter, State.countWind]

section OpenWind
variable (s : State) (n : Nat)

/-- The channel after such a wind. -/
theorem State.chan_countWind_startPeriod : ((s.countWind n).startPeriod n false).chan n = { s.chan n with
    state := .running, turn := ((s.chan n).turn + 1) % 65536, lastWind := s.now, start := s.now
    openAt := s.now + closedPart (s.fraction n) (s.chanPeriod n (s.chan n).record)
    deadline := s.now + s.chanPeriod n (s.chan n).record, warned := false, afterExpiry := false
    onBackup := (((s.countWind n).startPeriod n false).chan n).onBackup } := by
  rw [State.chan_startPeriod, State.countWind, State.chan_updChan_same]
  rfl

theorem State.chan_countWind_startPeriod_ne {m : Nat} (hm : m ≠ n) : ((s.countWind n).startPeriod n false).chan m = s.chan m := by
  rw [State.chan_startPeriod_ne _ hm, State.countWind, State.chan_updChan_ne _ _ hm]

end OpenWind

section WindCommand
variable {s : State} {h : Hdr} {n k : Nat} (hr : Ready s h (opWind.on (le 1 n ++ le 1 0 ++ le 2 k ++ le 4 0)))
  (harmed : (s.chan n).armed = true)
include hr harmed

theorem ends_wind_of_otherQueue (hqueue : s.queueOf h.src ≠ fld (s.chan n).record 2 2) :
    Ends (.wind h n 0 k 0) h (err 0x0202) s (s.started h).badWind := by
  show execWind h n 0 k 0 s = _
  exact congrArg _ (commandC_ends hr (by simp [harmed, hqueue]))

variable (hqueue : s.queueOf h.src = fld (s.chan n).record 2 2) (hsome : s.queueOf h.src ≠ 0xFFFF)
include hqueue hsome

theorem ends_wind_of_paused (hpaused : (s.chan n).state = .paused) :
    Ends (.wind h n 0 k 0) h (err 0x04D0) s (s.started h).badWind := by
  have hrec : fld (s.chan n).record 2 2 ≠ 0xFFFF := hqueue ▸ hsome
  show execWind h n 0 k 0 s = _
  exact congrArg _ (commandC_ends hr (by simp [harmed, hqueue, hrec, hpaused]))

variable (hidle : (s.chan n).state ≠ .idle) (hpaused : (s.chan n).state ≠ .paused)
include hidle hpaused

theorem ends_wind_of_wrongKey (hkey : k ≠ (s.chan n).turn) :
    Ends (.wind h n 0 k 0) h (err 0x0622) s (s.started h).badWind := by
  have hrec : fld (s.chan n).record 2 2 ≠ 0xFFFF := hqueue ▸ hsome
  show execWind h n 0 k 0 s = _
  exact congrArg _ (commandC_ends hr (by simp [harmed, hqueue, hrec, hidle, hpaused, hkey]))

theorem ends_wind_of_open {t : State} (hkey : k = (s.chan n).turn) (ht : (s.started h).acceptWind n false 0 = (0, t)) :
    Ends (.wind h n 0 k 0) h (ok (le 2 (t.chan n).turn ++ le 1 (t.chan n).state.code ++ [0] ++ le 4 (t.remainingMs n))) s t := by
  have hrec : fld (s.chan n).record 2 2 ≠ 0xFFFF := hqueue ▸ hsome
  show execWind h n 0 k 0 s = _
  exact congrArg _ (commandC_ends hr (by simp [harmed, hqueue, hrec, hidle, hpaused, hkey, ht]))

end WindCommand

/-! ### Expiries (R471) -/

/-- s with an expiry of channel n counted and recorded, before its action. -/
def State.countExpiry (s : State) (n cause : Nat) : State :=
  (({ s with wwu := { s.wwu with expiryHit := true, expiries := satAdd 32 s.wwu.expiries 1 } } : State).updChan n
    (fun c => { c with expiries := min (c.expiries + 1) 255, lastCause := cause })).log .control 0x0901 3 9 n
      { cause := cause, value := (s.chan n).turn }

theorem State.chan_countExpiry (s : State) (n cause : Nat) :
    (s.countExpiry n cause).chan n = { s.chan n with expiries := min ((s.chan n).expiries + 1) 255, lastCause := cause } := by
  rw [State.countExpiry, State.chan_log, State.chan_updChan_same]
  rfl

/-- An expiry whose action is only to count starts a whole period. -/
theorem State.expire_of_count {s : State} {n : Nat} (cause : Nat) (haction : recAction (s.chan n).record = 0) :
    s.expire n cause = ((s.countExpiry n cause).startPeriod n true).updChan n (fun c => { c with afterExpiry := true }) := by
  simp only [State.expire, haction, State.countExpiry]

/-! ### WATCHDOG_STATUS and WATCHDOG_ARM (R463, R484) -/

section ArmCommand
variable {s : State} {h : Hdr} {n b : Nat}

theorem reads_watchdogArm_of_notReleased (hr : Ready s h (opWatchdogArm.on (le 1 n ++ le 1 b))) (hb : b < 2)
    (hstate : s.isReleased n = false) : Reads (.watchdogArm h n b) h (err 0x0421) s := by
  show execWatchdogArm h n b s = _
  rw [execWatchdogArm, decide_eq_true hb]
  exact congrArg _ (commandC_ends hr (by simp [hstate]))

variable (hstate : s.isReleased n = true)
include hstate

theorem ends_watchdogArm (hr : Ready s h (opWatchdogArm.on (le 1 n ++ le 1 1))) :
    Ends (.watchdogArm h n 1) h (ok (le 1 (((s.started h).armChan n).chan n).state.code)) s ((s.started h).armChan n) := by
  show execWatchdogArm h n 1 s = _
  exact congrArg _ (commandC_ends hr (by simp [hstate]))

theorem reads_watchdogArm_of_hardware (hr : Ready s h (opWatchdogArm.on (le 1 n ++ le 1 0))) (hhw : s.hwChan n = true) :
    Reads (.watchdogArm h n 0) h (err 0x04D1) s := by
  show execWatchdogArm h n 0 s = _
  exact congrArg _ (commandC_ends hr (by simp [hstate, hhw]))

theorem ends_watchdogArm_of_disarm (hr : Ready s h (opWatchdogArm.on (le 1 n ++ le 1 0))) (hhw : s.hwChan n = false) :
    Ends (.watchdogArm h n 0) h (ok [0]) s ((s.started h).disarm n) := by
  show execWatchdogArm h n 0 s = _
  exact congrArg _ (commandC_ends hr (by simp [hstate, hhw, ChState.code]; rfl))

end ArmCommand

/-! ### TIME_READ and TIME_SET (R478 to R482) -/

/-- A step of the wall time (R479). -/
theorem State.emb_stepWall (s : State) (x : Int) :
    (s.stepWall x).2.2.emb.offset = x ∧ (s.stepWall x).2.2.emb.wallSet = true ∧ (s.stepWall x).2.2.emb.stepHit = true ∧
    (s.stepWall x).2.2.emb.epoch = (if (s.now : Int) * 1000 + x < s.stepReference then s.emb.epoch + 1 else s.emb.epoch) := by
  by_cases hback : (s.now : Int) * 1000 + x < s.stepReference
  · simp [State.stepWall, hback]
  · simp [State.stepWall, hback]

@[simp] theorem State.size_stepWall (s : State) (x : Int) :
    (s.stepWall x).1 = if s.emb.wallSet then (s.now : Int) * 1000 + x - s.wall else 0 := rfl

@[simp] theorem State.now_drawn (s : State) : s.drawn.now = s.now := rfl
@[simp] theorem State.wall_drawn (s : State) : s.drawn.wall = s.wall := rfl
@[simp] theorem State.stepReference_drawn (s : State) : s.drawn.stepReference = s.stepReference := rfl

/-- s with the DMT gap acknowledged where FLAGS ask for it (R478). -/
def State.ackGap (s : State) (f : Nat) : State := if f.testBit 1 then { s with emb := { s.emb with dmtGap := false } } else s

section TimeSet
variable {s : State} {h : Hdr} {w a f d : Nat} (hf : f ≤ 3) (howner : f = 0 ∨ s.ownerSource h.src = true)
  (hd : d = if a = 0 then s.now else a)
include hf

theorem reads_timeSet_of_future (hr : Ready s h (opTimeSet.on (le 8 w ++ le 8 a ++ le 1 0 ++ le 1 f))) (hfuture : s.now < a) :
    Reads (.timeSet h w a 0 f) h (err 0x0102) s := by
  have ha : a ≠ 0 := by omega
  show execTimeSet h w a 0 f s = _
  rw [execTimeSet, decide_eq_true ⟨Nat.zero_le 1, hf⟩]
  exact congrArg _ (commandC_ends hr (by simp [ha, hfuture]))

include howner hd

section Step
variable (hr : Ready s h (opTimeSet.on (le 8 w ++ le 8 a ++ le 1 0 ++ le 1 f))) (hpast : d ≤ s.now) {x : Int}
  (hx : x = s.stepOffset (toSigned 64 w) d)
include hr hpast hx

theorem reads_timeSet_of_refused {st : Nat} (hst : s.stepRefusal x (f.testBit 0) = st) (hne : st ≠ 0) :
    Reads (.timeSet h w a 0 f) h (err st) s := by
  have howner' : ¬ (f ≠ 0 ∧ s.ownerSource h.src = false) := by rintro ⟨hne, hnot⟩; simp [hne, hnot] at howner
  show execTimeSet h w a 0 f s = _
  rw [execTimeSet, decide_eq_true ⟨Nat.zero_le 1, hf⟩]
  subst hd hx
  exact congrArg _ (commandC_ends hr (by simp [Nat.not_lt.2 hpast, howner', hst, hne, -Nat.testBit_zero]))

theorem ends_timeSet_of_step {u : State} (hst : s.stepRefusal x (f.testBit 0) = 0) (hu : u = ((s.started h).drawn.stepWall x).2.2) :
    Ends (.timeSet h w a 0 f) h
      (ok (le 8 (ofSigned 64 (if s.emb.wallSet then (s.now : Int) * 1000 + x - s.wall else 0)) ++ le 2 u.emb.epoch ++ zeros 6)) s
      (u.ackGap f) := by
  have howner' : ¬ (f ≠ 0 ∧ s.ownerSource h.src = false) := by rintro ⟨hne, hnot⟩; simp [hne, hnot] at howner
  show execTimeSet h w a 0 f s = _
  rw [execTimeSet, decide_eq_true ⟨Nat.zero_le 1, hf⟩]
  subst hd hx hu
  exact congrArg _ (commandC_ends hr (by simp [Nat.not_lt.2 hpast, howner', hst, State.ackGap, -Nat.testBit_zero]))

end Step

end TimeSet

/-- Settles O52: a wind starts the next period of its channel alone, a step sets OFFSET and raises the epoch when it is backward, and
each refusal ends with the first check that fails. -/
theorem timeCommandsComplete : Obligations.TimeCommandsComplete := by
  unfold Obligations.TimeCommandsComplete
  refine ⟨fun s h hr => ?_, fun s h w a f hr hf howner => ⟨fun hfuture => reads_timeSet_of_future hf hr hfuture,
      fun x u hpast hx hst hu => ?_⟩, State.emb_stepWall, fun s h n k hr hn hqueue hsome harmed => ?_,
    fun s h n k hr harmed hqueue => ends_wind_of_otherQueue hr harmed (by simpa using hqueue),
    fun s h f n a hr hrange ha => ?_, fun s h n b hr hb hstate => reads_watchdogArm_of_notReleased hr hb hstate,
    fun s h n t hr hstate ht => ?_, fun s h n t hr hstate ht => ⟨fun hhw => ?_, reads_watchdogArm_of_hardware hstate hr⟩⟩
  · show execTimeRead h s = _
    exact congrArg _ (commandR_reads hr (by simp))
  · exact ends_timeSet_of_step hf howner rfl hr (by split <;> omega) hx hst hu
  · have hqueue' : s.queueOf h.src = fld (s.chan n).record 2 2 := by simpa using hqueue
    have hsome' : s.queueOf h.src ≠ 0xFFFF := by simpa using hsome
    have hidle : (s.chan n).state ≠ .idle := by simpa [Channel.armed] using harmed
    refine ⟨fun t hpaused hkey hopen hsleep hreacquire hafter ht' => ?_,
      fun hpaused => ends_wind_of_wrongKey hr harmed hqueue' hsome' hidle hpaused, ends_wind_of_paused hr harmed hqueue' hsome'⟩
    have haccept : (s.started h).acceptWind n false 0 = (0, ((s.started h).countWind n).startPeriod n false) :=
      State.acceptWind_of_open (by simpa using hopen) (by simpa using hsleep) (by simpa using hreacquire) (by simpa using hafter) 0
    have hchan := (s.started h).chan_countWind_startPeriod n
    have ht : t = ((s.started h).countWind n).startPeriod n false := by rw [ht', haccept]
    simp only [← ht, State.chan_started, State.now_started, State.chanPeriod_started, ← hkey] at hchan
    refine ⟨?_, by rw [hchan], by rw [hchan], by rw [hchan], by rw [hchan], by rw [hchan], fun m hm => ?_⟩
    · have hends := ends_wind_of_open hr harmed hqueue' hsome' hidle hpaused hkey (ht ▸ haccept)
      rw [hchan] at hends
      exact hends
    · rw [ht, State.chan_countWind_startPeriod_ne _ _ hm, State.chan_started]
  · show execWatchdogStatus h f n a s = _
    rw [execWatchdogStatus, hrange, ha]
    exact congrArg _ (commandR_reads hr (by simp))
  · have hchan := (s.started h).chan_armChan n
    have hends := ends_watchdogArm hstate hr
    rw [← ht] at hchan hends
    refine ⟨?_, by rw [hchan], by rw [hchan], by rw [hchan]; simp⟩
    rw [hchan] at hends
    exact hends
  · exact ht ▸ ⟨ends_watchdogArm_of_disarm hstate hr hhw, State.state_chan_disarm_same _ _⟩

/-! ### An exhausted epoch (R480) -/

section Exhausted
variable {s : State} (hepoch : s.emb.epoch = 65535) {x : Int} (force : Bool)
include hepoch

theorem State.stepRefusal_of_backward (hback : (s.now : Int) * 1000 + x < s.stepReference) : s.stepRefusal x force = 0x0611 := by
  simp [State.stepRefusal, hback, hepoch]

omit hepoch in
theorem State.stepRefusal_of_forward {force : Bool} (hforward : s.stepReference ≤ (s.now : Int) * 1000 + x)
    (hlimit : s.stepLimit = 0 ∨ s.emb.wallSet = false ∨ force = true ∨
      ((s.now : Int) * 1000 + x - s.wall).natAbs ≤ s.stepLimit * 1000000000) : s.stepRefusal x force = 0 := by
  have hlimit' : ¬ (s.stepLimit ≠ 0 ∧ s.emb.wallSet = true ∧ (!force) = true ∧
      s.stepLimit * 1000000000 < ((s.now : Int) * 1000 + x - s.wall).natAbs) := by
    rintro ⟨hsome, hset, hnot, hover⟩
    rcases hlimit with h | h | h | h
    · exact hsome h
    · simp [hset] at h
    · simp [h] at hnot
    · exact Nat.not_lt.2 h hover
  simp only [State.stepRefusal, Int.not_lt.2 hforward, false_and, if_false]
  exact if_neg hlimit'

end Exhausted

/-- s with a slew of the wall time begun, from OFFSET as it stands (R481). -/
def State.startSlew (s : State) (total : Int) : State :=
  { s with emb := { s.emb with
      offset := s.offsetNow, slew := some { begun := s.now, base := s.offsetNow, total := total, ppm := s.slewPpm } } }

theorem ends_timeSet_of_slew {s : State} {h : Hdr} {w a f d : Nat} {c : Int} (hf : f ≤ 3)
    (howner : f = 0 ∨ s.ownerSource h.src = true) (hd : d = if a = 0 then s.now else a)
    (hr : Ready s h (opTimeSet.on (le 8 w ++ le 8 a ++ le 1 1 ++ le 1 f))) (hpast : d ≤ s.now)
    (hset : s.emb.wallSet = true) (hc : c = toSigned 64 w - ((d : Int) * 1000 + s.offsetNow)) (hsmall : c.natAbs ≤ 1000000000) :
    Ends (.timeSet h w a 1 f) h (ok (le 8 (ofSigned 64 0) ++ le 2 s.emb.epoch ++ zeros 6)) s (((s.started h).startSlew c).ackGap f) := by
  have howner' : ¬ (f ≠ 0 ∧ s.ownerSource h.src = false) := by rintro ⟨hne, hnot⟩; simp [hne, hnot] at howner
  show execTimeSet h w a 1 f s = _
  rw [execTimeSet, decide_eq_true ⟨le_rfl, hf⟩]
  refine congrArg _ (commandC_ends hr ?_)
  simp only [State.now_started, State.offsetNow_started, ← hd, ← hc]
  by_cases hgap : f.testBit 1 = true
  · simp [Nat.not_lt.2 hpast, howner', hset, Nat.not_lt.2 hsmall, State.ackGap, State.startSlew, hgap]
  · simp [Nat.not_lt.2 hpast, howner', hset, Nat.not_lt.2 hsmall, State.ackGap, State.startSlew, hgap]

/-- An acknowledgement clears no more than the gap. -/
theorem State.ackGap_only (s : State) (f : Nat) :
    (s.ackGap f).emb = { s.emb with dmtGap := s.emb.dmtGap && !f.testBit 1 } ∧
    ∀ e, { s.ackGap f with emb := e } = { s with emb := e } := by
  unfold State.ackGap
  by_cases hf : f.testBit 1 = true <;> simp [hf]

/-- Settles O51: at the last epoch a STEP is refused exactly when it is backward, and a forward one or a slew leaves the epoch. -/
theorem exhaustedEpochRefusesBackwardSteps : Obligations.ExhaustedEpochRefusesBackwardSteps := by
  unfold Obligations.ExhaustedEpochRefusesBackwardSteps
  intro s h w a f d x hepoch hf howner hd hpast hx
  refine ⟨fun hr => ⟨fun hback => ?_, fun hforward hlimit => ?_⟩, fun hr hset hsmall => ?_⟩
  · exact reads_timeSet_of_refused hf howner hd hr hpast hx (State.stepRefusal_of_backward hepoch _ hback) (by decide)
  · obtain ⟨hoffset, hset, -, hkept⟩ := (s.started h).drawn.emb_stepWall x
    obtain ⟨hemb, -⟩ := ((s.started h).drawn.stepWall x).2.2.ackGap_only f
    have hepoch' : ((s.started h).drawn.stepWall x).2.2.emb.epoch = 65535 := by
      rw [hkept, if_neg]
      · simpa using hepoch
      · simpa using hforward
    have hends := ends_timeSet_of_step hf howner hd hr hpast hx (State.stepRefusal_of_forward hforward hlimit) rfl
    rw [hepoch'] at hends
    exact ⟨_, hends, by rw [hemb]; exact hepoch', by rw [hemb]; exact hset, by rw [hemb]; exact hoffset⟩
  · obtain ⟨hemb, honly⟩ := ((s.started h).startSlew (toSigned 64 w - ((d : Int) * 1000 + s.offsetNow))).ackGap_only f
    refine ⟨_, hepoch ▸ ends_timeSet_of_slew hf howner hd hr hpast hset rfl hsmall, by rw [hemb]; simp [State.startSlew],
      (honly s.emb).trans ?_⟩
    have hstarted : (s.started h).emb = s.emb := by simp
    rw [← hstarted]
    rfl

/-! ### The events of the channels, the clocks and the internal watchdog (R469 to R474) -/

section ChannelEvents
variable {s : State} {n : Nat}

theorem goes_wwuWindWrite {k : Nat} (hn : n < 256) (hup : s.boot.controlUp = true) (harmed : (s.chan n).armed = true)
    (hpaused : (s.chan n).state ≠ .paused) (hregister : (recFlags (s.chan n).record).testBit 2 = true) :
    Goes (.wwuWindWrite n k) s (if k % 65536 = (s.chan n).turn then (s.acceptWind n false 0).2 else s.badWind) := by
  have hidle : (s.chan n).state ≠ .idle := by simpa [Channel.armed] using harmed
  show execWwuWindWrite n k s = _
  by_cases hkey : k % 65536 = (s.chan n).turn
  · simp [execWwuWindWrite, hup, Nat.mod_eq_of_lt hn, hidle, hpaused, hregister, hkey]
  · simp [execWwuWindWrite, hup, Nat.mod_eq_of_lt hn, hidle, hpaused, hregister, hkey]

variable (hup : s.boot.controlUp = true)
include hup

theorem goes_channelExpiry_of_period (hdue : (s.chan n).deadline ≤ s.now)
    (hstate : (s.chan n).state = .first ∨ (s.chan n).state = .running) : Goes (.channelExpiry n) s (s.expire n 1) := by
  show execChannelExpiry n s = _
  simp [execChannelExpiry, hup, hdue, hstate]

theorem goes_channelExpiry_of_reacquire (hdue : (s.chan n).deadline ≤ s.now) (hstate : (s.chan n).state = .reacquire) :
    Goes (.channelExpiry n) s (s.expire n 3) := by
  show execChannelExpiry n s = _
  simp [execChannelExpiry, hup, hdue, hstate]

theorem goes_preExpiryWarning {t u : State} (hstate : (s.chan n).state = .running) (hfirst : (s.chan n).warned = false)
    (hearly : s.now < (s.chan n).deadline) (hset : 0 < fld (s.chan n).record 12 2)
    (hdue : (s.chan n).deadline ≤ s.now + fld (s.chan n).record 12 2 * 1000) (ht : t = s.updChan n (fun c => { c with warned := true }))
    (hu : u = { t with wwu := { t.wwu with preHit := true } }) :
    Goes (.preExpiryWarning n) s ((u.log .control 0x0902 6 9 n { value := u.remainingMs n }).tellManagers 0x0902 6 4 n) := by
  subst ht hu
  show execPreExpiryWarning n s = _
  simp [execPreExpiryWarning, hup, hstate, hfirst, hearly, hset, hdue]

theorem goes_sleepGuardPass (hstate : (s.chan n).state = .sleep) (hdue : (s.chan n).deadline + guardUs (s.chan n).record ≤ s.now) :
    Goes (.sleepGuardPass n) s (s.updChan n (fun c =>
      { c with state := .reacquire, deadline := c.deadline + 4 * guardUs (s.chan n).record })) := by
  show execSleepGuardPass n s = _
  simp [execSleepGuardPass, hup, hstate, hdue]

end ChannelEvents

section Clocks
variable {s : State} (hpwr : s.boot.pwrOk = true) (ember : Bool)
include hpwr

theorem goes_clockReturn {t : State}
    (ht : t = if ember then { s with wwu := { s.wwu with emberStopped := false } }
      else { s with wwu := { s.wwu with refStopped := false } }) :
    Goes (.clockReturn ember) s
      (if s.iwdEmber = ember then { t with wwu := { t.wwu with iwd := { t.wwu.iwd with onBackup := false } } } else t) := by
  have hiwd : t.iwdEmber = s.iwdEmber := by subst ht; cases ember <;> rfl
  show execClockReturn ember s = _
  simp only [execClockReturn, hpwr, Bool.not_true, Bool.false_eq_true, if_false, ← ht, hiwd, beq_iff_eq]
  exact (apply_ite Host.Outcome.next _ _ _).symm

theorem goes_clockStopDetect {a b c : State}
    (ha : a = if ember then { s with wwu := { s.wwu with emberStopped := true } }
      else { s with wwu := { s.wwu with refStopped := true } })
    (hb : b = a.armedChannels.foldl State.watchClock a)
    (hc : c = if b.iwdEmber = ember ∧ b.wwu.iwd.running = true ∧ b.wwu.iwd.onBackup = false then
        ({ b with wwu := { b.wwu with iwd := { b.wwu.iwd with onBackup := true, stopHit := true } } } : State).log .control 0x0903 3 0 0
      else b) :
    Goes (.clockStopDetect ember) s (if (c.wwu.emberStopped && c.wwu.refStopped) = true then
      (c.armedChannels.foldl (fun t n => if (t.chan n).state == .paused || (t.chan n).state == .idle then t else t.expire n 4) c).iwdExpires
    else c) := by
  have hc' : c = if (b.iwdEmber == ember && b.wwu.iwd.running && !b.wwu.iwd.onBackup) = true then
        ({ b with wwu := { b.wwu with iwd := { b.wwu.iwd with onBackup := true, stopHit := true } } } : State).log .control 0x0903 3 0 0
      else b := by simpa [and_assoc] using hc
  show execClockStopDetect ember s = _
  simp only [execClockStopDetect, hpwr, Bool.not_true, Bool.false_eq_true, if_false, ← ha, ← hb, ← hc']
  exact (apply_ite Host.Outcome.next _ _ _).symm

end Clocks

theorem State.iwdExpires_of_running {s : State} (hrunning : s.wwu.iwd.running = true) (hidle : s.wwu.iwd.hardTimer = none)
    (hcount : s.wwu.iwd.expiries < 255) :
    s.iwdExpires.wwu.iwd.hardTimer = some (s.now + 2000) ∧ s.iwdExpires.wwu.iwd.expiries = s.wwu.iwd.expiries + 1 := by
  simp [State.iwdExpires, hrunning, hidle, Nat.min_eq_left hcount]

theorem goes_iwdHardTimerExpiry {s : State} {d : Nat} (hd : s.wwu.iwd.hardTimer = some d) (hdue : d ≤ s.now)
    (hruns : s.wardenRuns = true) : Goes .iwdHardTimerExpiry s s.lastResort := by
  show execIwdHardTimerExpiry s = _
  simp [execIwdHardTimerExpiry, hd, hdue, hruns]

theorem goes_dmtCheckpoint {s : State} (hpwr : s.boot.pwrOk = true) (hdue : s.emb.mramAt + 1000000 ≤ s.now) :
    Goes .dmtCheckpoint s s.writeDmt := by
  show execDmtCheckpoint s = _
  simp [execDmtCheckpoint, hpwr, hdue]

theorem goes_timeSlewEnd {s : State} {w : Slew} (hw : s.emb.slew = some w) (happlied : w.applied s.now = w.total) :
    Goes .timeSlewEnd s { s with emb := { s.emb with offset := w.base + w.total, slew := none } } := by
  show execTimeSlewEnd s = _
  simp [execTimeSlewEnd, hw, happlied]

/-- Settles O53: each event that is due takes its branch, on a running clock or on the other. That IWD_EXPIRY comes when a Warden
runs, the 1,000 ms without a service being the environment's, is the model's choice (log entry 65). -/
theorem watchdogEventsComplete : Obligations.WatchdogEventsComplete := by
  unfold Obligations.WatchdogEventsComplete
  refine ⟨fun s n k hn hup harmed hpaused hregister => ⟨fun hkey => ?_, fun hkey => ?_⟩,
    fun s n hup hdue => ⟨goes_channelExpiry_of_period hup hdue, goes_channelExpiry_of_reacquire hup hdue⟩,
    fun s n c haction hcount => ?_, fun s t u n hup => goes_preExpiryWarning hup, fun s n hup => goes_sleepGuardPass hup,
    fun s t e hpwr => goes_clockReturn hpwr e, fun s a b c e hpwr ha hb hc => ⟨fun hone => ?_, fun hboth => ?_⟩,
    fun s hruns => if_pos hruns, fun s => State.iwdExpires_of_running, fun s d => goes_iwdHardTimerExpiry,
    fun s => goes_dmtCheckpoint, fun s w => goes_timeSlewEnd⟩
  · simpa [hkey] using goes_wwuWindWrite (k := k) hn hup harmed hpaused hregister
  · simpa [hkey] using goes_wwuWindWrite (k := k) hn hup harmed hpaused hregister
  · rw [State.expire_of_count c haction, State.chan_updChan_same, State.chan_startPeriod, State.chan_countExpiry]
    exact ⟨Nat.min_eq_left hcount, rfl, rfl, rfl⟩
  · simpa [hone] using goes_clockStopDetect hpwr e ha hb hc
  · simpa [hboth] using goes_clockStopDetect hpwr e ha hb hc

end Sys2Proof.Machine
end

section
/-! SUPPORT. The Logbook: what numbering, evicting, closing and clearing leave of it (R486 to R503), and with it the statements on
its commands and its records. -/
namespace Sys2Proof.Machine

/-! ### Numbering (R486, R492, R496) -/

@[simp] theorem Lgb.nextSeq_drop (g : Lgb) : g.drop.nextSeq = g.nextSeq := rfl

@[simp] theorem Lgb.nextSeq_evict (g : Lgb) (q : Nat) : (g.evict q).nextSeq = g.nextSeq := by
  unfold Lgb.evict
  split <;> rfl

/-- Making room moves no number on. -/
theorem Lgb.nextSeq_room {g g' : Lgb} {rung : Nat} {storm : Bool} (h : g.room rung storm = some g') : g'.nextSeq = g.nextSeq := by
  unfold Lgb.room at h
  split at h
  · cases h; rfl
  · split at h
    · cases h; simp
    · cases h

theorem Lgb.room_of_free {g : Lgb} (h : g.records.length < g.places) (rung : Nat) (storm : Bool) : g.room rung storm = some g :=
  if_pos h

@[simp] theorem State.lgb_stampAsync (s : State) (e : LogEv) (q : Nat) : (s.stampAsync e q).lgb = s.lgb := rfl

/-- A crossing of FILL_WM is noted, and the records stay. -/
@[simp] theorem State.records_fillCrossing (s : State) (before : Nat) : (s.fillCrossing before).lgb.records = s.lgb.records ∧
    (s.fillCrossing before).lgb.nextSeq = s.lgb.nextSeq := by
  unfold State.fillCrossing
  split <;> simp

@[simp] theorem State.nextSeq_updRecord (s : State) (q : Nat) (f : LogRec → LogRec) :
    (s.updRecord q f).lgb.nextSeq = s.lgb.nextSeq := rfl

/-- A record with a place free for it comes last, under the next number. -/
theorem State.lgb_appendRecord_of_free {s : State} (e : LogEv) (r : LogRec) (h : s.lgb.records.length < s.lgb.places) :
    (s.appendRecord e r).lgb.nextSeq = s.lgb.nextSeq + 1 ∧ (s.appendRecord e r).lgb.records = s.lgb.records ++
      [{ r with seq := s.lgb.nextSeq, opSeconds := s.emb.opSeconds, powerCycles := s.emb.powerCycles }] := by
  simp [State.appendRecord, Lgb.room_of_free h]

/-- a moves a sequence number on by at most one. -/
def SeqStep (n a : Nat) : Prop := n ≤ a ∧ a ≤ n + 1

theorem SeqStep.refl (n : Nat) : SeqStep n n := ⟨le_rfl, Nat.le_succ n⟩

theorem State.seqStep_appendRecord (s : State) (e : LogEv) (r : LogRec) : SeqStep s.lgb.nextSeq (s.appendRecord e r).lgb.nextSeq := by
  unfold State.appendRecord
  split
  · exact .refl _
  · next g hg =>
    simp [SeqStep, Lgb.nextSeq_room hg]

/-- Whichever case of R492 an event falls in, it adds at most one record. -/
theorem State.seqStep_recordEvent (s : State) (e : LogEv) : SeqStep s.lgb.nextSeq (s.recordEvent e).lgb.nextSeq := by
  unfold State.recordEvent
  split
  · exact s.seqStep_appendRecord _ _
  dsimp only
  split
  · exact .refl _
  split
  · next head _ =>
    split
    · exact .refl _
    · exact (s.updRecord head.seq fun r => { r with stormHead := true }).seqStep_appendRecord _ _
  split
  · exact .refl _
  · exact s.seqStep_appendRecord _ _

/-! ### Closing (R493, R495) -/

section UpdRecord
variable {s : State} (f : LogRec → LogRec) {r : LogRec} (hr : r ∈ s.lgb.records)
include hr

theorem State.mem_updRecord : f r ∈ (s.updRecord r.seq f).lgb.records := List.mem_map.2 ⟨r, hr, if_pos rfl⟩

theorem State.mem_updRecord_of_ne {q : Nat} (h : r.seq ≠ q) : r ∈ (s.updRecord q f).lgb.records := List.mem_map.2 ⟨r, hr, if_neg h⟩

end UpdRecord

@[simp] theorem State.length_updRecord (s : State) (q : Nat) (f : LogRec → LogRec) :
    (s.updRecord q f).lgb.records.length = s.lgb.records.length := List.length_map _

/-- What RECORD_CLOSE makes of a record. -/
def LogRec.closeDue (now : Nat) (r : LogRec) : LogRec :=
  if !r.storm && (decide (r.dmt + r.lastDelta + 1000 * r.windowMs ≤ now) || decide (r.dmt + 60000000 ≤ now)) then
    { r with isOpen := false } else r

theorem goes_recordClose (s : State) (q : Nat) : Goes (.recordClose q) s (s.updRecord q (LogRec.closeDue s.now)) := rfl

theorem LogRec.closeDue_of_due {now : Nat} {r : LogRec} (hstorm : r.storm = false)
    (hdue : r.dmt + r.lastDelta + 1000 * r.windowMs ≤ now) :
    r.closeDue now = { r with isOpen := false } := by
  simp [LogRec.closeDue, hstorm, hdue]

theorem goes_stormClose (s : State) (q : Nat) :
    Goes (.stormClose q) s (s.updRecord q (fun r => if r.dmt + 1000 ≤ s.now then s.closeStorm r else r)) := rfl

/-- A storm record that closes names the shared resource of the sources that joined it. -/
theorem State.closeStorm_of_open (s : State) {r : LogRec} (hstorm : r.storm = true) (hopen : r.isOpen = true) :
    s.closeStorm r = { r with isOpen := false, hint := (s.closeStorm r).hint, idx := (s.closeStorm r).idx } ∧
    ((s.closeStorm r).hint, (s.closeStorm r).idx) = s.sharedResource r.cls (r.joined.map Prod.fst) (r.joined.map Prod.snd) := by
  simp [State.closeStorm, hstorm, hopen]

/-! ### TIME_MARK (R491) -/

@[simp] theorem Lgb.lastMark_stage (g : Lgb) (e : LogEv) : (g.stage e).lastMark = g.lastMark := by
  unfold Lgb.stage
  dsimp only
  (repeat' split) <;> rfl

@[simp] theorem State.lastMark_report (s : State) (r : Region) (e : LogEv) : (s.report r e).lgb.lastMark = s.lgb.lastMark := by
  unfold State.report
  dsimp only
  (repeat' split) <;> simp

theorem State.lastMark_timeMark (s : State) : s.timeMark.lgb.lastMark = s.now := by
  simp [State.timeMark, State.now]

theorem State.timeMark_reports (s : State) : ∃ e : LogEv, e.code = 0x0B01 ∧ e.rung = 2 ∧ e.params = fixLen 32 s.timeMarkParams ∧
    { s.timeMark with lgb := { s.timeMark.lgb with lastMark := s.lgb.lastMark } } = s.report .control e := by
  refine ⟨{ code := 0x0B01, rung := 2, cls := 0, idx := 0, own := true, params := fixLen 32 s.timeMarkParams }, rfl, rfl, rfl, ?_⟩
  rw [← State.lastMark_report s .control]
  rfl

/-- Settles O55: an event of rung 0 is appended, every case of R492 appends at most one record, and a record that closes is changed
in its place. -/
theorem recordsAreNumbered : Obligations.RecordsAreNumbered := by
  unfold Obligations.RecordsAreNumbered
  refine ⟨fun s e l hstaged hup => ?_, fun s e hrung hfree => ?_, State.seqStep_recordEvent, fun s r hr hstorm hdue => ?_,
    fun s r hr hstorm hopen hdue => ?_, fun s hup hdue => if_pos ⟨hup, hdue⟩, fun s => ⟨s.lastMark_timeMark, s.timeMark_reports⟩⟩
  · show execLogRecordWrite s = _
    simp [execLogRecordWrite, hstaged, hup]
  · obtain ⟨hseq, hrecords⟩ := State.lgb_appendRecord_of_free e (e.record s.repeatWindow) hfree
    rw [State.recordEvent, if_pos hrung]
    exact ⟨hseq, _, hrecords, rfl, rfl, hrung, rfl, rfl, rfl, rfl, by simp [LogEv.record, hrung]⟩
  · refine ⟨_, goes_recordClose s r.seq, ?_, fun x hx hne => State.mem_updRecord_of_ne _ hx hne, State.length_updRecord ..⟩
    rw [← LogRec.closeDue_of_due hstorm hdue]
    exact State.mem_updRecord _ hr
  · obtain ⟨hclosed, hshared⟩ := s.closeStorm_of_open hstorm hopen
    have hmem := State.mem_updRecord (fun r => if r.dmt + 1000 ≤ s.now then s.closeStorm r else r) hr
    exact ⟨_, _, goes_stormClose s r.seq, by simpa only [hdue, if_true] using hmem, hclosed, hshared⟩

/-! ### The commands and the cursor (R498, R500) -/

section Commands
variable {s : State} {h : Hdr}

theorem reads_logStatus {a : Nat} (hr : Ready s h (opLogStatus.on (le 8 a))) (ha : s.writeAddrOk h a = true) :
    Reads (.logStatus h a) h (okOut a (le 8 s.lgb.newest ++ le 8 s.lgb.oldest ++ le 8 s.lgb.ackedSeq ++ le 4 s.lgb.records.length ++
      le 4 s.lgb.unacked ++ le 4 s.lgb.droppedStart ++ le 4 s.lgb.evictedStart ++ le 4 s.fillWm ++ zeros 20)) s := by
  show execLogStatus h a s = _
  rw [execLogStatus, ha]
  exact congrArg _ (commandR_reads hr (by simp [State.fillWm]))

theorem reads_logRead {f n g a : Nat} {l x : List LogRec}
    (hr : Ready s h (opLogRead.on (le 8 f ++ le 2 n ++ le 1 g ++ zeros 5 ++ le 8 a))) (hlo : 1 ≤ n) (hhi : n ≤ 4096) (hg : g < 2)
    (ha : s.writeAddrOk h a = true) (hl : l = (s.lgb.records.filter (fun r => decide (f ≤ r.seq))).take n)
    (hx : x = if g = 1 then l.takeWhile (fun r => !r.isOpen) else l) :
    Reads (.logRead h f n g a) h (okOut a (x.flatMap LogRec.bytes)
      (le 2 x.length ++ zeros 6 ++ le 8 ((x.getLast?.map (fun r => r.seq + 1)).getD f) ++ le 8 s.lgb.oldest)) s := by
  have hflag : g.testBit 0 = decide (g = 1) := by interval_cases g <;> rfl
  have hx' : x = if g.testBit 0 = true then l.takeWhile (fun r => !r.isOpen) else l := by simpa [hflag] using hx
  show execLogRead h f n g a s = _
  rw [execLogRead, ha, decide_eq_true ⟨hlo, hhi, hg⟩]
  refine congrArg _ (commandR_reads hr ?_)
  simp only [State.started_keeps, ← hl, ← hx']
  cases x.getLast? <;> rfl

theorem reads_logAck_of_above {n : Nat} (hr : Ready s h (opLogAck.on (le 8 n))) (hn : s.lgb.newest < n) :
    Reads (.logAck h n) h (err 0x0102) s := by
  show execLogAck h n s = _
  exact congrArg _ (commandC_ends hr (by simp [hn]))

theorem ends_logAck {n : Nat} (hr : Ready s h (opLogAck.on (le 8 n))) (hn : n ≤ s.lgb.newest) :
    Ends (.logAck h n) h (ok (le 8 (max s.lgb.ackedSeq n))) s
      { s.started h with lgb := { s.lgb with ackedSeq := max s.lgb.ackedSeq n } } := by
  show execLogAck h n s = _
  exact congrArg _ (commandC_ends hr (by simp [Nat.not_lt.2 hn]))

theorem reads_logClear_of_above {n : Nat} (hr : Ready s h (opLogClear.on (le 8 n))) (hn : s.lgb.ackedSeq < n) :
    Reads (.logClear h n) h (err 0x04E0) s := by
  show execLogClear h n s = _
  exact congrArg _ (commandC_ends hr (by simp [hn]))

theorem ends_logClear {n k : Nat} {t : State} (hr : Ready s h (opLogClear.on (le 8 n))) (hn : n ≤ s.lgb.ackedSeq)
    (hk : k = (s.lgb.records.filter (fun r => decide (r.seq ≤ n))).length)
    (ht : t = { s.started h with lgb := { s.lgb with records := s.lgb.records.filter (fun r => decide (n < r.seq)) } }) :
    Ends (.logClear h n) h (ok (le 4 k)) s (if k = 0 then t else t.log .control 0x0B02 2 0 0 { value := k, detail := le 8 n }) := by
  subst hk ht
  show execLogClear h n s = _
  exact congrArg _ (commandC_ends hr (by simp [Nat.not_lt.2 hn]))

end Commands

/-- The first record from number k on lies past it: the window skips to it (R498). -/
def State.skips (s : State) (k : Nat) : Bool := (s.lgb.records.find? (fun r => decide (k ≤ r.seq))).any (fun r => decide (k < r.seq))

theorem State.skips_iff (s : State) (k : Nat) :
    s.skips k = true ↔ ∃ r, s.lgb.records.find? (fun r => decide (k ≤ r.seq)) = some r ∧ k < r.seq := by
  simp [State.skips, Option.any_eq_true]

theorem goes_lgbCursorWrite {s : State} {v k : Nat} (hup : s.pcieUp = true) (hk : k = v % 2 ^ 32 * 2 ^ 32 + s.lgb.cursorLow) :
    Goes (.lgbCursorWrite v) s { s with lgb := { s.lgb with
      cursorHigh := v % 2 ^ 32
      window := (s.lgb.records.filter (fun r => decide (k ≤ r.seq))).take 64
      windowSkipped := s.skips k } } := by
  show execLgbCursorWrite v s = _
  simp only [execLgbCursorWrite, hup, Bool.not_true, Bool.false_eq_true, if_false, ← hk, State.skips]
  rw [← List.head?_filter]
  cases s.lgb.records.filter (fun r => decide (k ≤ r.seq)) <;> rfl

/-- Settles O54: each command reads or changes the records that its parameters pick, and the cursor's window starts at its number. -/
theorem logCommandsComplete : Obligations.LogCommandsComplete := by
  unfold Obligations.LogCommandsComplete
  exact ⟨fun s h a => reads_logStatus, fun s h f n g a l x => reads_logRead,
    fun s h n hr => ⟨reads_logAck_of_above hr, ends_logAck hr⟩,
    fun s h n k t hr hk ht => ⟨reads_logClear_of_above hr, fun hn => ends_logClear hr hn hk ht⟩,
    fun s v k hup hk => ⟨_, goes_lgbCursorWrite hup hk, rfl, rfl, s.skips_iff k⟩⟩

end Sys2Proof.Machine
end

section
/-! SUPPORT. The tamper events and samples branch by branch, and a state in which TAMPER_CLEAR ends a platform hold. -/
namespace Sys2Proof.Machine

/-! ### Detectors (R440, R441) -/

/-- The sources below the shield's neighbours that are watched without a break. -/
theorem isSampled_of_detector {i : Nat} (hi : i < 14) (hshield : i ≠ 12) : isSampled i = false := by
  simp [isSampled, hshield]
  omega

section Detectors
variable {s : State} {i : Nat} (hi : i < 14) (hshield : i ≠ 12)
include hi hshield

section Assert
variable (hwatched : s.boot.pwrOk = true ∨ watchedAlways i = true)
include hwatched

/-- The detector may be heard: it is one of Table 13-1 that needs no sample, on a supply that it has. -/
theorem detector_heard :
    ¬ (32 ≤ i ∨ i = 14 ∨ i = 15 ∨ isSampled i = true ∨ (!s.boot.pwrOk) = true ∧ (!watchedAlways i) = true) := by
  rw [isSampled_of_detector hi hshield]
  rcases hwatched with h | h <;> simp [h] <;> omega

theorem goes_tamperDetectorAssert_of_test (htest : s.underTest i = true) :
    Goes (.tamperDetectorAssert i) s ((s.updSource i (fun x => { x with active := true })).updTest (fun w =>
      { w with detected := some (w.detected.getD (s.now - w.openedAt)), released := false })) := by
  show execTamperDetectorAssert i s = _
  rw [execTamperDetectorAssert, if_neg (detector_heard hi hshield hwatched), if_pos htest]

variable (htest : s.underTest i = false) (hmode : s.sourceMode i ≠ 0)
include htest hmode

theorem goes_tamperDetectorAssert_of_fresh (hidle : (s.source i).active = false)
    (hfresh : (s.source i).deassertAt = none ∨ ∃ t, (s.source i).deassertAt = some t ∧ t + 1 ≤ s.now) :
    Goes (.tamperDetectorAssert i) s ((s.updSource i (fun x => { x with active := true })).tamperEvent i) := by
  show execTamperDetectorAssert i s = _
  rw [execTamperDetectorAssert, if_neg (detector_heard hi hshield hwatched), if_neg (by simp [htest]), if_neg hmode]
  rcases hfresh with hnever | ⟨t, ht, hpassed⟩
  · simp [hidle, hnever]
  · simp [hidle, ht, hpassed]

theorem goes_tamperDetectorAssert_of_active (hactive : (s.source i).active = true) :
    Goes (.tamperDetectorAssert i) s (s.updSource i (fun x => { x with active := true })) := by
  show execTamperDetectorAssert i s = _
  rw [execTamperDetectorAssert, if_neg (detector_heard hi hshield hwatched), if_neg (by simp [htest]), if_neg hmode]
  simp [hactive]

end Assert

theorem goes_tamperDetectorDeassert (hactive : (s.source i).active = true) (htest : s.underTest i = false) :
    Goes (.tamperDetectorDeassert i) s (s.updSource i (fun x => { x with active := false, deassertAt := some s.now })) := by
  have htest' : ∀ f, (s.updSource i f).underTest i = false := fun _ => htest
  show execTamperDetectorDeassert i s = _
  simp [execTamperDetectorDeassert, hactive, isSampled_of_detector hi hshield, htest']
  omega

end Detectors

/-! ### Samples (R442, R454, R455) -/

section Samples
variable {s u : State} {m w : Nat} {b : Bool} {v : Nat}
  (hu : u = { s with emb := ({ s.emb with vbatMv := v } : Ember).starve (!s.boot.pwrOk) })
include hu

theorem goes_tamperSample_of_due {t : State} (hdue : s.emb.lastSample + 32000 ≤ s.now)
    (ht : t = { u with emb := { u.emb with lastSample := s.now - s.now % 32000, meshDrive := u.meshDriven } }) :
    Goes (.tamperSample m w b v) s ((t.sampledNow.filter (u.sampleFails m w b)).foldl State.tamperEvent
      (t.sampledNow.foldl (fun t i => t.updSource i (fun x => { x with active := u.sampleFails m w b i })) t)) := by
  subst hu ht
  show execTamperSample m s w b v = _
  exact if_neg (Nat.not_lt.2 hdue)

theorem goes_tamperSample_of_early (hearly : s.now < s.emb.lastSample + 32000) :
    Goes (.tamperSample m w b v) s (u.testSample m w b) := by
  subst hu
  show execTamperSample m s w b v = _
  exact if_pos hearly

end Samples

/-- The extra sample of a test (R455). -/
theorem State.test_testSample {s : State} {x : TestWindow} (m w : Nat) (b : Bool) (htest : s.emb.test = some x)
    (hsampled : isSampled x.source = true) (hfirst : x.sampled = false) :
    (s.testSample m w b).emb.test = some { x with
      sampled := true
      released := s.testFails m w b x.source
      detected := if s.testFails m w b x.source = true then some (s.now - x.openedAt) else none } := by
  have hfails : ({ s with emb := { s.emb with meshDrive := s.meshDriven, test := some x } } : State).testFails m w b x.source =
      s.testFails m w b x.source := rfl
  have hnow : ({ s with emb := { s.emb with meshDrive := s.meshDriven, test := some x } } : State).now = s.now := rfl
  simp [State.testSample, htest, hsampled, hfirst, State.updTest, hfails, hnow]

section Fails
variable (s : State) (m w : Nat) (b : Bool) (i : Nat)

theorem State.sampleFails_shield : s.sampleFails m w b 12 = b := rfl

theorem State.sampleFails_mesh (hlo : 16 ≤ i) (hhi : i < 24) :
    s.sampleFails m w b i = true ↔ m / 8 ^ (i - 16) % 8 ≠ s.meshDriven / 8 ^ (i - 16) % 8 := by
  have hshield : i ≠ 12 := by omega
  simp [State.sampleFails, hshield, hhi]

theorem State.sampleFails_switch (hlo : 24 ≤ i) :
    s.sampleFails m w b i = true ↔ w.testBit (i - 24) = (fld (s.tamperRec i) 3 1).testBit 0 := by
  have hshield : i ≠ 12 := by omega
  simp only [State.sampleFails, hshield, Nat.not_lt.2 hlo, if_false, beq_iff_eq]

end Fails

/-! ### Tests (R454, R455) -/

/-- The end of a test window, before the command that asked for it is answered. -/
theorem exec_tamperTestWindowEnd {s a t u x : State} {w : TestWindow} {p : Bool} {k : Nat} (hw : s.emb.test = some w)
    (hp : p = (w.detected.isSome && w.released)) (hk : k = w.detected.getD (Config.freeValue s.draws % 65536))
    (ha : a = if w.detected.isSome then s else s.drawn)
    (ht : t = ((({ a with emb := { a.emb with test := none } } : State).updSource w.source
      (fun x => { x with lastTest := if p then 1 else 2 })).log .guard 0x0A02 0 8 w.source { cause := if p then 1 else 2, value := k }))
    (hu : u = if p then t else t.tamperEvent 15) (hx : x = if (u.source w.source).active then u.tamperEvent w.source else u) :
    exec .tamperTestWindowEnd s = .next (w.hdr.elim x (fun h => complete h (ok (le 1 (b2n p) ++ [0] ++ le 2 k)) x)) := by
  show execTamperTestWindowEnd s = _
  simp only [execTamperTestWindowEnd, hw, ← hp, ← hk, ← ha, ← ht, ← hu, ← hx]
  cases w.hdr <;> rfl

theorem goes_tamperScheduledTest {s : State} {i : Nat} (hpwr : s.boot.pwrOk = true) (hinterval : fld s.emb.tamperCopy 0 4 ≠ 0)
    (hnone : s.emb.test = none) (hdue : s.emb.testAt + 1 ≤ s.emb.opSeconds)
    (hperiod : s.emb.opSeconds < s.emb.testPeriod + fld s.emb.tamperCopy 0 4)
    (hi : (List.range 32).find? (fun i => decide (s.emb.testNext ≤ i) && isTestable i && s.sourceMode i != 0) = some i) :
    Goes .tamperScheduledTest s
      (({ s with emb := { s.emb with testNext := i + 1, testAt := s.emb.opSeconds } } : State).openTest i none) := by
  show execTamperScheduledTest s = _
  have hready : ¬ ((!s.boot.pwrOk) = true ∨ fld s.emb.tamperCopy 0 4 = 0 ∨ s.emb.test.isSome = true ∨
      s.emb.opSeconds < s.emb.testAt + 1) := by
    simp only [hpwr, hnone, hinterval, Nat.not_lt.2 hdue]
    decide
  simp only [execTamperScheduledTest, hready, Nat.not_le.2 hperiod, if_false, hi]

/-- Settles O50: each event of a detector, a sample or a test takes the branch of its source's state. A sample before the next is due
is the extra one of an open test, and TAMPER_SAMPLE carries VBAT: that is the model's choice (log entry 128), as are the free values
of the mesh pattern and of the time of a test that detects nothing (log entries 3 and 106). -/
theorem tamperEventsComplete : Obligations.TamperEventsComplete := by
  unfold Obligations.TamperEventsComplete
  exact ⟨fun s i hi hshield hwatched => goes_tamperDetectorAssert_of_fresh hi hshield hwatched,
    fun s i hi hshield hwatched => goes_tamperDetectorAssert_of_active hi hshield hwatched,
    fun s i hi hshield hwatched => goes_tamperDetectorAssert_of_test hi hshield hwatched,
    fun s i hi hshield => goes_tamperDetectorDeassert hi hshield,
    fun s u t m w b v hu => ⟨goes_tamperSample_of_due hu, goes_tamperSample_of_early hu⟩,
    fun s m w b x => State.test_testSample m w b,
    fun s m w b => ⟨s.sampleFails_shield m w b, s.sampleFails_mesh m w b, fun i hlo _ => s.sampleFails_switch m w b i hlo⟩,
    fun s a t u x w p k hw hp hk ha ht hu hx =>
      ⟨fun hnone => (exec_tamperTestWindowEnd hw hp hk ha ht hu hx).trans (by rw [hnone]; rfl),
      fun h hsome => (exec_tamperTestWindowEnd hw hp hk ha ht hu hx).trans (by rw [hsome]; rfl)⟩,
    fun s i => goes_tamperScheduledTest⟩

/-! ### TAMPER_CLEAR of the one source that holds the platform (R446, R454) -/

/-- A running device that source 0 holds by its HOLD_PLATFORM response, with slot 0 kept by that hold and command 1 in flight on
queue 0. -/
def heldPlatform : State :=
  { boot := { pwrOk := true, guardUp := true, controlUp := true, forgeUp := true, reached := true, imageUp := true, imageOp := true,
              phase := .noPolicy, perst := false }
    spn := { domains := 80, clockRunning := 0x7E, inReset := 0 }
    cme := { queues := [(0, { state := .opened, version := 0x12, flights := [{ cid := 1 }] })] }
    strs := { slots := [(0, { heldByTamper := true })] }
    emb := { dmt := 10 ^ 12, tamperCopy := zeros 16 ++ [1, 4, 1, 0, 0, 0, 0, 0], sources := [(0, { tripped := true })] } }

/-- The header of command 1 on queue 0. -/
def heldPlatformHdr : Hdr := { src := .pcie 0, cid := 1 }

/-- In the state that a command leads to, the platform hold keeps slot 0. -/
def keepsSlotZero : Res → Bool
  | .next t => (t.slot 0).heldByTamper
  | _ => false

theorem ready_heldPlatform : Ready heldPlatform heldPlatformHdr (opTamperClear.on (le 4 1)) :=
  ⟨by decide +kernel, by decide +kernel, by decide +kernel⟩

/-- TAMPER_CLEAR ends the hold of the platform that it found, and slot 0 with it. -/
theorem keepsSlotZero_tamperClear : keepsSlotZero (exec (.tamperClear heldPlatformHdr 1) heldPlatform) = false := by decide +kernel

/-- Refutes O49: the statement lets TAMPER_CLEAR end the platform hold only where a source still holds the platform after the clear,
which is where no hold ends; in `heldPlatform` the one source that held it is cleared, and the slot that the hold kept is restored. -/
theorem not_tamperCommandsComplete : ¬ Obligations.TamperCommandsComplete := by
  unfold Obligations.TamperCommandsComplete
  rintro ⟨-, hclear, -⟩
  obtain ⟨-, hends, -⟩ := hclear heldPlatform heldPlatformHdr 1 _ _ _ _ _ _ ready_heldPlatform rfl rfl rfl rfl rfl rfl
  have hexec := congrArg keepsSlotZero (hends (by decide +kernel))
  rw [keepsSlotZero_tamperClear] at hexec
  exact absurd hexec (by decide +kernel)

end Sys2Proof.Machine
end

section
/-! SUPPORT. The life-cycle, key and debug commands (chapter 12): what each ends with, those that verify signatures once the lanes they
need are found. -/
namespace Sys2Proof.Machine

/-! ### Commands that verify a statement -/

section Own
variable {op : Op} {s u : State} {h : Hdr} {r : Reply} {body : Hdr → State → Reply × State} (hr : Ready s h op)
include hr

theorem command_ends_ownBodyC (hb : body (s.stamp h) (s.started h).tryOwn = (r, u)) (hu : u.waitsLane = false) :
    command op h true s (ownBodyC body) = complete (s.stamp h) r ((s.started h).ownDone u) :=
  command_ends hr (ownBody_of_not_waitsLane (by rw [hb]) hu)

theorem command_reads_ownBodyC (hb : body (s.stamp h) (s.started h).tryOwn = (r, (s.started h).tryOwn)) :
    command op h true s (ownBodyC body) = complete (s.stamp h) r (s.started h) :=
  command_ends hr (ownBody_of_tryOwn (by rw [hb]))

end Own

section Statements
variable {s t : State} {h : Hdr} {n a v : Nat} {d : Bytes} {x : Statement}

section LcTransition
variable {g : Nat} (hr : Ready s h (opLcTransition.on (le 1 g ++ zeros 3 ++ le 4 n ++ le 8 a))) (ha : s.readAddrOk h a n = true)
include hr ha

theorem reads_lcTransition_of_refused (hrefused : (s.started h).transitionRefusal g ≠ 0) :
    Reads (.lcTransition h g n a d v) h (err ((s.started h).transitionRefusal g)) s := by
  have hrefused' : (s.started h).tryOwn.transitionRefusal g ≠ 0 := hrefused
  show execLcTransition h g n a d s v = _
  rw [execLcTransition, ha]
  exact congrArg _ (command_reads_ownBodyC hr (if_pos hrefused'))

variable (hallowed : (s.started h).transitionRefusal g = 0)
include hallowed

theorem ends_lcTransition_of_failed {st : Nat} (hst : st ≠ 0)
    (hpresent : (s.started h).tryOwn.present ((s.inputOf h a n d).take n) v (fun x => targetPurpose g x.purpose) = (st, x, t))
    (hlanes : t.waitsLane = false) : Ends (.lcTransition h g n a d v) h (err st) s ((s.started h).ownDone t) := by
  have hallowed' : (s.started h).tryOwn.transitionRefusal g = 0 := hallowed
  show execLcTransition h g n a d s v = _
  rw [execLcTransition, ha]
  exact congrArg _ (command_ends_ownBodyC hr (by simp [hallowed', hpresent, hst]) hlanes)

/-- A statement that passes blows the target and its codeword, and the restart follows (R416 to R418, log entry 131). -/
theorem ends_lcTransition {u w : State} {i : Nat}
    (hpresent : (s.started h).tryOwn.present ((s.inputOf h a n d).take n) v (fun x => targetPurpose g x.purpose) = (0, x, t))
    (hi : t.nextRecord g = some i) (hu : u = t.blowIntent g i)
    (hw : w = (({ u with cru := { u.cru with lcHit := true, newKey := x.newKey } } : State).blowCodeword g i).restartSoon)
    (hlanes : w.waitsLane = false) :
    Ends (.lcTransition h g n a d v) h (ok (le 1 i ++ le 1 w.ownershipCount)) s ((s.started h).ownDone w) := by
  have hallowed' : (s.started h).tryOwn.transitionRefusal g = 0 := hallowed
  show execLcTransition h g n a d s v = _
  rw [execLcTransition, ha]
  exact congrArg _ (command_ends_ownBodyC hr (by simp only [hallowed', hpresent, hi, ← hu, ← hw, ne_eq, not_true, if_false]) hlanes)

end LcTransition

section OwnerKeyChange
variable {k : OwnerTable} (hr : Ready s h (opOwnerKeyChange.on (zeros 4 ++ le 4 n ++ le 8 a))) (ha : s.readAddrOk h a n = true)
  (hpresent : (s.started h).tryOwn.present ((s.inputOf h a n d).take n) v (fun x => decide (6 ≤ x.purpose)) = (0, x, t))
  (hlanes : t.waitsLane = false)
include hr ha hpresent hlanes

theorem ends_ownerKeyChange (hk : t.keyChange x = (0, k)) :
    Ends (.ownerKeyChange h n a d v) h (ok (le 1 x.slot)) s ((s.started h).ownDone (t.writeTable k).refreshCed) := by
  have hlanes' : (t.writeTable k).refreshCed.waitsLane = false := by rw [State.waitsLane_congr (s := t) (by simp), hlanes]
  show execOwnerKeyChange h n a d s v = _
  rw [execOwnerKeyChange, ha]
  exact congrArg _ (command_ends_ownBodyC hr (by simp [hpresent, hk]) hlanes')

theorem ends_ownerKeyChange_of_failed {st : Nat} (hst : st ≠ 0) (hk : t.keyChange x = (st, k)) :
    Ends (.ownerKeyChange h n a d v) h (err st) s ((s.started h).ownDone t) := by
  show execOwnerKeyChange h n a d s v = _
  rw [execOwnerKeyChange, ha]
  exact congrArg _ (command_ends_ownBodyC hr (by simp [hpresent, hk, hst]) hlanes)

end OwnerKeyChange

section DebugGrant
variable (hr : Ready s h (opDebugGrant.on (zeros 4 ++ le 4 n ++ le 8 a))) (ha : s.readAddrOk h a n = true)
include hr ha

theorem reads_debugGrant_of_granted (hgranted : s.cru.granted = true) : Reads (.debugGrant h n a d v) h (err 0x04B5) s := by
  have hgranted' : (s.started h).tryOwn.cru.granted = true := by simpa using hgranted
  show execDebugGrant h n a d s v = _
  rw [execDebugGrant, ha]
  exact congrArg _ (command_reads_ownBodyC hr (if_pos hgranted'))

/-- A grant sets its level, and withdraws the signing keys from level 4 on (R436). -/
theorem ends_debugGrant {u w : State} {g : Nat} (hfree : s.cru.granted = false)
    (hpresent : (s.started h).tryOwn.present ((s.inputOf h a n d).take n) v (fun x => x.purpose == 5) = (0, x, t))
    (hu : u = if 4 ≤ x.level then { t.eraseSigningKeys with cru := { t.eraseSigningKeys.cru with keysWithdrawn := true } } else t)
    (hg : g = leNat (slice (sha384 ((s.inputOf h a n d).take n)) 0 8))
    (hw : w = { u with cru := { u.cru with debugLevel := x.level, granted := true, grantId := g, grantHit := true } })
    (hlanes : t.waitsLane = false) :
    Ends (.debugGrant h n a d v) h (ok (le 1 x.level ++ zeros 3 ++ le 8 g)) s
      ((s.started h).ownDone (w.recompute.log .control 0x0803 2 0 0 { value := x.level, detail := le 8 g })) := by
  have hfree' : (s.started h).tryOwn.cru.granted = false := by simpa using hfree
  have hhma : u.hma = t.hma := by
    rw [hu]
    split
    · simp
    · rfl
  have hlanes' : (w.recompute.log .control 0x0803 2 0 0 { value := x.level, detail := le 8 g }).waitsLane = false := by
    rw [State.waitsLane_congr (s := t) (by simp [hw, hhma]), hlanes]
  show execDebugGrant h n a d s v = _
  rw [execDebugGrant, ha]
  exact congrArg _ (command_ends_ownBodyC hr
    (by simp only [hfree', hpresent, ← hu, ← hg, ← hw, Bool.false_eq_true, ne_eq, not_true, if_false]) hlanes')

end DebugGrant

end Statements

/-! ### Commands that need no lane -/

section Plain
variable {s : State} {h : Hdr}

theorem ends_cruChallenge {p : Nat} {t : State} (hr : Ready s h (opCruChallenge.on (le 1 p))) (hlo : 1 ≤ p) (hhi : p ≤ 8)
    (ht : t = (s.started h).useD0.drawn) (hd0 : s.cru.d0.generating = true) :
    Ends (.cruChallenge h p) h (ok (s.random 32 ++ le 8 (s.now + 600000000))) s
      { t with cru := { t.cru with challenges := t.cru.challenges.set p {} { nonce := s.random 32, expires := s.now + 600000000 } } } := by
  subst ht
  show execCruChallenge h p s = _
  rw [execCruChallenge, decide_eq_true ⟨hlo, hhi⟩]
  exact congrArg _ (commandC_ends hr (by simp [hd0]))

theorem reads_cruChallenge_of_stopped {p : Nat} (hr : Ready s h (opCruChallenge.on (le 1 p))) (hlo : 1 ≤ p) (hhi : p ≤ 8)
    (hd0 : s.cru.d0.generating = false) : Reads (.cruChallenge h p) h (err 0x0593) s := by
  show execCruChallenge h p s = _
  rw [execCruChallenge, decide_eq_true ⟨hlo, hhi⟩]
  exact congrArg _ (commandC_ends hr (by simp [hd0]))

theorem reads_ownerKeysRead {a : Nat} (hr : Ready s h (opOwnerKeysRead.on (le 8 a))) (ha : s.writeAddrOk h a = true) :
    Reads (.ownerKeysRead h a) h (okOut a s.cru.table.bytes
      (le 1 (b2n s.cru.table.cosign) ++ le 1 ((List.range 16).filter (fun i => (s.cru.table.slot i).state == 1)).length)) s := by
  show execOwnerKeysRead h a s = _
  rw [execOwnerKeysRead, ha]
  exact congrArg _ (commandR_reads hr (by simp))

section Rng
variable {n a : Nat} (hr : Ready s h (opRngRead.on (le 4 n ++ zeros 4 ++ le 8 a))) (hlo : 1 ≤ n) (hhi : n ≤ 4096)
  (ha : s.writeAddrOk h a = true)
include hr hlo hhi ha

theorem ends_rngRead (hd0 : s.cru.d0.generating = true) : Ends (.rngRead h n a) h (okOut a (s.random n)) s (s.started h).useD0.drawn := by
  show execRngRead h n a s = _
  rw [execRngRead, ha, decide_eq_true ⟨hlo, hhi⟩]
  exact congrArg _ (commandC_ends hr (by simp [hd0]))

theorem reads_rngRead_of_stopped (hd0 : s.cru.d0.generating = false) : Reads (.rngRead h n a) h (err 0x0593) s := by
  show execRngRead h n a s = _
  rw [execRngRead, ha, decide_eq_true ⟨hlo, hhi⟩]
  exact congrArg _ (commandC_ends hr (by simp [hd0]))

end Rng

theorem reads_otpRead {f n a : Nat} {ws : List Nat} (hr : Ready s h (opOtpRead.on (le 2 f ++ le 2 n ++ zeros 4 ++ le 8 a)))
    (hrange : rangeOk f n 1024 = true) (ha : s.writeAddrOk h a = true) (hws : ws = (List.range n).map (· + f)) :
    Reads (.otpRead h f n a) h (okOut a (ws.flatMap (fun w => le 8 (if otpReadable w then s.otpWord w else 0)))
      (le 2 (ws.filter (fun w => !otpReadable w)).length)) s := by
  subst hws
  show execOtpRead h f n a s = _
  rw [execOtpRead, hrange, ha]
  exact congrArg _ (commandR_reads hr (by simp))

end Plain

/-- A grant's end brings no erased key back (R437). -/
theorem State.cru_endGrant (s : State) : s.endGrant.cru.granted = false ∧ s.endGrant.cru.store = s.cru.store ∧
    (s.cru.granted = true → s.endGrant.cru.debugLevel = s.boot.debugAtStart) := by
  cases hgranted : s.cru.granted <;> simp [State.endGrant, hgranted]

/-! ### Events -/

theorem goes_challengeExpiry {s : State} {p : Nat} (hnonce : (s.cru.challenges.get p {}).nonce ≠ [])
    (hdue : (s.cru.challenges.get p {}).expires ≤ s.now) :
    Goes (.challengeExpiry p) s { s with cru := { s.cru with challenges := s.cru.challenges.del p } } := by
  show execChallengeExpiry p s = _
  simp [execChallengeExpiry, hnonce, hdue]

/-- A factory transition by test equipment in FULL debug (R414, Table 12-4). -/
theorem goes_jtagLcTransition {s t : State} {g i : Nat} (hpwr : s.boot.pwrOk = true) (hlevel : s.cru.debugLevel = 1)
    (hnone : s.transitionPending = false) (hi : s.nextRecord g = some i)
    (hg : g = s.cru.lcState + 1 ∧ g ≤ 3 ∨ g = 6 ∧ s.cru.lcState ≤ 2) (ht : t = s.blowIntent g i) :
    Goes (.jtagLcTransition g) s (({ t with cru := { t.cru with lcHit := true } } : State).blowCodeword g i) := by
  have hallowed : (g == s.cru.lcState + 1 && decide (g ≤ 3) || g == 6 && decide (s.cru.lcState ≤ 2)) = true := by simpa using hg
  subst ht
  show execJtagLcTransition g s = _
  simp only [execJtagLcTransition, hpwr, State.debugReaches, hlevel, hnone, hi, hallowed]
  rfl

/-- Settles O47: each command goes through its checks to the branch of the first that fails or to its effect. It is the model's choice
that the checks of R417 and a grant in force come before the statement (log entry 62), that a row whose work finds no lane is carried
out when it is sent again (log entry 123), and that submissions still come before a life-cycle restart (log entry 131). -/
theorem lifeCycleCommandsComplete : Obligations.LifeCycleCommandsComplete := by
  unfold Obligations.LifeCycleCommandsComplete
  refine ⟨fun s h hr => ?_, fun s h p t hr hlo hhi ht => ⟨ends_cruChallenge hr hlo hhi ht, reads_cruChallenge_of_stopped hr hlo hhi⟩,
    fun s h g n a d v hr ha => ⟨fun x t u w i hallowed => ends_lcTransition hr ha hallowed,
      fun x t st hallowed hst => ends_lcTransition_of_failed hr ha hallowed hst, reads_lcTransition_of_refused hr ha⟩,
    fun s => ⟨rfl, rfl⟩, fun s h a => reads_ownerKeysRead,
    fun s h n a d v x t k hr ha hpresent hlanes => ⟨ends_ownerKeyChange hr ha hpresent hlanes,
      fun st => ends_ownerKeyChange_of_failed hr ha hpresent hlanes⟩,
    fun s h n a d v hr ha => ⟨reads_debugGrant_of_granted hr ha, fun x t u w g => ends_debugGrant hr ha⟩,
    fun s h hr => ?_, State.cru_endGrant,
    fun s h n a hr hlo hhi ha => ⟨ends_rngRead hr hlo hhi ha, reads_rngRead_of_stopped hr hlo hhi ha⟩,
    fun s h f n a ws => reads_otpRead, fun s p => goes_challengeExpiry, fun s t g i => goes_jtagLcTransition⟩
  · show execLcStatus h s = _
    exact congrArg _ (commandR_reads hr (by simp))
  · show execDebugEnd h s = _
    exact congrArg _ (commandC_ends hr rfl)

end Sys2Proof.Machine
end

section
/-! SUPPORT. The recovery commands (chapter 11): their journal, the manifest and the blocks that a host gives, and the commands that
start and stop operations; and the commands of the Cartridge Bay. -/
namespace Sys2Proof.Machine

/-! ### What a command finds as it did before it started -/

@[simp] theorem State.rfuOp_tryOwn (s : State) (d : Nat) : s.tryOwn.rfuOp d = s.rfuOp d := rfl

@[simp] theorem State.transportOk_tryOwn (s : State) (src : Src) (n : Nat) : s.tryOwn.transportOk src n = s.transportOk src n := rfl

/-- A journal record's part in RECOVER_STATUS (Table 11-7). -/
theorem Journal.length_head (j : Journal) : j.head.length = 256 := by
  simp [Journal.head]

/-! ### RECOVER_STAGE (R382 to R385) -/

/-- What RECOVER_STAGE makes of the operation of a device: its manifest is judged while it may take a source (Table 11-17). -/
def State.stageOf (s : State) (o : RfuOp) (d k n a v : Nat) (b : Bytes) : Reply × State :=
  if o.phase != .search && o.phase != .waitSource then (err 0x04A1, s)
  else s.stageManifest d o.slot (if k = 1 then 2 else 1) a (b.take n) v

section RecoverStage
variable {s : State} {h : Hdr} {d k n a v : Nat} {b : Bytes} {o : RfuOp} {op : Op}
  (hop : op = (if k = 1 then { opRecoverStage with version := 0x12 } else opRecoverStage).on
    (le 1 d ++ le 1 k ++ zeros 2 ++ le 4 n ++ le 8 a))
  (hr : Ready s h op) (hk : k ≤ 1) (hsrc : k = 0 → ∃ q, h.src = .pcie q) (hd : d < 32) (hn : 0 < n)
  (ha : s.readAddrOk h a n = true) (ho : s.rfuOp d = some o) (htransport : s.transportOk h.src o.slot = true) (hbegun : o.phase ≠ .idle)
include hop hr hk hsrc hd hn ha ho htransport hbegun

theorem ends_recoverStage {r : Reply} {u : State} (hstage : (s.started h).tryOwn.stageOf o d k n a v (s.inputOf h a n b) = (r, u))
    (hlanes : u.waitsLane = false) : Ends (.recoverStage h d k n a b v) h r s ((s.started h).ownDone u) := by
  have hk01 : k = 0 ∨ k = 1 := by omega
  subst hop
  show execRecoverStage h d k n a b s v = _
  rcases hk01 with rfl | rfl
  · obtain ⟨q, hq⟩ := hsrc rfl
    rw [hq] at htransport
    simp only [execRecoverStage, hq, ha]
    refine congrArg _ ((congrArg (command _ h · s _) ?_).trans (command_ends_ownBodyC hr ?_ hlanes))
    · simp [hd, hn]
    · simpa [ho, hq, htransport, hbegun, State.stageOf] using hstage
  · simp only [execRecoverStage, ha]
    refine congrArg _ ((congrArg (command _ h · s _) ?_).trans (command_ends_ownBodyC hr ?_ hlanes))
    · simp [hd, hn]
    · simpa [ho, htransport, hbegun, State.stageOf] using hstage

end RecoverStage

/-- A manifest that passes gives the operation its source; one that fails is skipped with the check's status (R383). -/
theorem State.stageManifest_of_judged {s t : State} {d n w a v st : Nat} {b : Bytes} :
    (∀ x o, s.judgeManifest n d b v = ((st, some x), t) → (t.chooseSource d w 0 (a + dataOffset x.len) x).rfuOp d = some o →
      (s.stageManifest d n w a b v).1.status = 0 ∧
      (s.stageManifest d n w a b v).2 = (t.chooseSource d w 0 (a + dataOffset x.len) x).settleAll) ∧
    (s.judgeManifest n d b v = ((st, none), t) → s.stageManifest d n w a b v = (err st, t.skipSource d st)) := by
  refine ⟨fun x o hjudged ho => ?_, fun hjudged => ?_⟩
  · simp only [State.stageManifest, hjudged, ho]
    exact ⟨rfl, trivial⟩
  · simp [State.stageManifest, hjudged]

/-! ### RECOVER_DATA (R385) -/

section RecoverData
variable {s : State} {h : Hdr} {d f n a : Nat} {b : Bytes} {o : RfuOp} {m : Manifest}
  (hr : Ready s h (opRecoverData.on (le 1 d ++ zeros 1 ++ le 2 f ++ le 2 n ++ zeros 2 ++ le 8 a)))
  (hd : d < 32) (hlo : 0 < n) (hhi : n ≤ 64)
  (ha : s.readAddrOk h a (65536 * n) = true) (ho : s.rfuOp d = some o) (hm : o.manifest = some m) (hsource : o.source = 2)
  (hphase : o.phase = .waitPort ∨ o.phase = .write) (hstored : (s.storedFrom d m f n).length = n)
include hr hd hlo hhi ha ho hm hsource hphase hstored

theorem ends_recoverData {r : Reply} {t : State} (hline : o.dataWait = [])
    (hoffer : (s.started h).offerBlocks d m { hdr := s.stamp h, first := f, count := n, data := s.inputOf h a (65536 * n) b } =
      (some r, t)) :
    Ends (.recoverData h d f n a b) h r s t.settleAll := by
  have hphase' : (o.phase == .waitPort || o.phase == .write) = true := by simpa using hphase
  show execRecoverData h d f n a b s = _
  rw [execRecoverData, ha, decide_eq_true ⟨hd, hlo, hhi⟩]
  exact congrArg _ (command_ends hr (by simp [ho, hm, hsource, hphase', hstored, hline, hoffer]))

theorem goes_recoverData (hline : o.dataWait ≠ []) :
    Goes (.recoverData h d f n a b) s ((s.started h).updOp d (fun o => { o with
      dataWait := o.dataWait ++ [{ hdr := s.stamp h, first := f, count := n, data := s.inputOf h a (65536 * n) b }] })) := by
  have hphase' : (o.phase == .waitPort || o.phase == .write) = true := by simpa using hphase
  show execRecoverData h d f n a b s = _
  rw [execRecoverData, ha, decide_eq_true ⟨hd, hlo, hhi⟩]
  exact congrArg _ (command_goes hr (by simp [ho, hm, hsource, hphase', hstored, hline]))

end RecoverData

/-! ### Commands on a slot's operations (R410, R411) -/

section Slots
variable {s : State} {h : Hdr} {n : Nat}

section Full
variable (hr : Ready s h (opRecoverFull.on (le 1 n)))
include hr

theorem reads_recoverFull_of_isolated (hheld : (s.slot n).state = .held) (hbus : s.slotIsolated n = true) :
    Reads (.recoverFull h n) h (err 0x0421) s := by
  show execRecoverFull h n s = _
  exact congrArg _ (commandC_ends hr (by simp [hheld, hbus]))

theorem ends_recoverFull (happlies : s.slotCommand n [.released, .held] = 0) (hother : (s.slot n).state ≠ .recovering)
    (hbus : ¬ ((s.slot n).state = .held ∧ s.slotIsolated n = true)) :
    Ends (.recoverFull h n) h ok s ((s.started h).recoverSlot n .command true).settleAll := by
  show execRecoverFull h n s = _
  exact congrArg _ (commandC_ends hr (by simp [happlies, hother, hbus]))

theorem ends_recoverFull_of_recovering (hstate : (s.slot n).state = .recovering) :
    Ends (.recoverFull h n) h (err 0x0421) s ((s.started h).logSuperseded n .command) := by
  show execRecoverFull h n s = _
  exact congrArg _ (commandC_ends hr (by simp [hstate]))

end Full

section Abort
variable (hr : Ready s h (opRecoverAbort.on (le 1 n)))
include hr

theorem reads_recoverAbort_of_none (hnone : ∀ o ∈ s.rfu.ops, o.slot ≠ n) : Reads (.recoverAbort h n) h (err 0x04A0) s := by
  have hany : s.rfu.ops.any (fun o => o.slot == n) = false := List.any_eq_false.2 fun o ho => by simp [hnone o ho]
  show execRecoverAbort h n s = _
  exact congrArg _ (commandC_ends hr (by simp [hany]))

theorem ends_recoverAbort {o : RfuOp} (ho : o ∈ s.rfu.ops) (hslot : o.slot = n) :
    Ends (.recoverAbort h n) h ok s (if (((s.started h).stopOps n true).slot n).state = .recovering then
      ((s.started h).stopOps n true).quarantine n .recoveryFailed else (s.started h).stopOps n true).settleAll := by
  have hany : s.rfu.ops.any (fun o => o.slot == n) = true := List.any_eq_true.2 ⟨o, ho, by simp [hslot]⟩
  show execRecoverAbort h n s = _
  exact congrArg _ (commandC_ends hr (by simp [hany]))

end Abort

theorem ends_recoverArbAdvance {v : Nat} (hr : Ready s h (opRecoverArbAdvance.on (le 1 v))) (hv : v ≤ 128) :
    Ends (.recoverArbAdvance h v) h ok s ((s.started h).advanceArb 3 v) := by
  show execRecoverArbAdvance h v s = _
  rw [execRecoverArbAdvance, decide_eq_true hv]
  exact congrArg _ (commandC_ends hr rfl)

theorem reads_recoverStatus {a : Nat} {l : List Nat} (hr : Ready s h (opRecoverStatus.on (le 8 a))) (ha : s.writeAddrOk h a = true)
    (hl : l = (List.range 32).filter (fun d => (s.journal d).state != .free)) :
    Reads (.recoverStatus h a) h (okOut a (l.flatMap (fun d => (s.journal d).head)) (le 1 l.length)) s := by
  subst hl
  show execRecoverStatus h a s = _
  rw [execRecoverStatus, ha]
  exact congrArg _ (commandR_reads hr (by simp))

end Slots

/-! ### The commands of the Cartridge Bay (R400, R406, R408) -/

section Cartridges
variable {s : State} {h : Hdr} {k : Nat}

theorem reads_cartStatus {a : Nat} (hr : Ready s h (opCartStatus.on (le 8 a))) (ha : s.writeAddrOk h a = true) :
    Reads (.cartStatus h a) h (okOut a ((List.range 4).flatMap (fun k => le 4 ((s.started h).cartWord k) ++
      le 2 (if (s.cart k).usable then 0x10 + k else 0) ++ zeros 2 ++ fixLen 16 (s.cart k).cid ++ le 4 (s.cart k).rpmb ++
      le 4 (s.cart k).capacity ++ le 1 (s.cart k).entries.length ++ zeros 31))) s := by
  show execCartStatus h a s = _
  rw [execCartStatus, ha]
  exact congrArg _ (commandR_reads hr (by simp))

theorem reads_cartLife {a : Nat} (hr : Ready s h (opCartLife.on (le 8 a))) (ha : s.writeAddrOk h a = true) :
    Reads (.cartLife h a) h (okOut a (fixLen 4096 (s.cby.lifeTable.flatMap LifeEntry.bytes)) (le 1 s.cby.lifeTable.length)) s := by
  show execCartLife h a s = _
  rw [execCartLife, ha]
  exact congrArg _ (commandR_reads hr (by simp))

variable (hk : k < 4)
include hk

theorem reads_cartCatalogue {n a : Nat} (hr : Ready s h (opCartCatalogue.on (le 1 k ++ zeros 3 ++ le 4 n ++ le 8 a)))
    (ha : s.writeAddrOk h a = true) (hroom : (s.cart k).raw.length ≤ n) : Reads (.cartCatalogue h k n a) h
      (if (s.cart k).present = true then okOut a (s.cart k).raw (le 4 (s.cart k).raw.length) else err 0x04A2) s := by
  show execCartCatalogue h k n a s = _
  rw [execCartCatalogue, ha, decide_eq_true hk]
  exact congrArg _ (commandR_reads hr (by cases hpresent : (s.cart k).present <;> simp [hpresent, Nat.not_lt.2 hroom]))

section Eject
variable (hr : Ready s h (opCartEject.on (le 1 k)))
include hr

theorem reads_cartEject_of_empty (hempty : (s.cart k).present = false) : Reads (.cartEject h k) h (err 0x04A2) s := by
  show execCartEject h k s = _
  rw [execCartEject, decide_eq_true hk]
  exact congrArg _ (commandC_ends hr (by simp [hempty]))

variable (hpresent : (s.cart k).present = true)
include hpresent

theorem reads_cartEject_of_inUse (huse : s.cartInUse k = true) : Reads (.cartEject h k) h (err 0x04A3) s := by
  show execCartEject h k s = _
  rw [execCartEject, decide_eq_true hk]
  exact congrArg _ (commandC_ends hr (by simp [hpresent, huse]))

theorem ends_cartEject (hidle : s.cartInUse k = false) :
    Ends (.cartEject h k) h ok s
      ((((s.started h).updCart k (fun x =>
        { x with state := .ejected, powered := false, reacquire := none, catalogue := 0, entries := [], raw := [] })).answerCart k
          (ok (le 1 6))).startIdentify) := by
  show execCartEject h k s = _
  rw [execCartEject, decide_eq_true hk]
  exact congrArg _ (commandC_ends hr (by simp [hpresent, hidle]))

end Eject

section Rescan
variable (hr : Ready s h (opCartRescan.on (le 1 k)))
include hr

theorem reads_cartRescan_of_empty (hempty : (s.cart k).present = false) : Reads (.cartRescan h k) h (err 0x04A2) s := by
  show execCartRescan h k s = _
  rw [execCartRescan, decide_eq_true hk]
  exact congrArg _ (command_ends hr (by simp [hempty]))

theorem goes_cartRescan (hpresent : (s.cart k).present = true) (hidle : s.cartInUse k = false) :
    Goes (.cartRescan h k) s
      (((s.started h).updCart k (fun x => { x with waiters := x.waiters ++ [s.stamp h], reidentified := false })).cycleCart k) := by
  show execCartRescan h k s = _
  rw [execCartRescan, decide_eq_true hk]
  exact congrArg _ (command_goes hr (by simp [hpresent, hidle]))

end Rescan

end Cartridges

/-- Settles O43: each command finds its operation, its slot or its cartridge in one of the states that it tells apart. That CART_EJECT
answers the rescans that wait with STATE EJECTED (log entry 48) and that 0x0421 refuses a HELD slot on an isolated bus (log entry 102)
is the model's choice. -/
theorem recoveryCommandsComplete : Obligations.RecoveryCommandsComplete := by
  unfold Obligations.RecoveryCommandsComplete
  refine ⟨fun s h a l => reads_recoverStatus, Journal.length_head,
    fun s h d k n a b v o op r hop hr hk hsrc hd hn ha ho htransport hstage => ⟨fun hphase hlanes => ?_, fun hsearch hwait hidle => ?_⟩,
    fun s t d n w a b v st => State.stageManifest_of_judged,
    fun s h d f n a b o m hr hd hlo hhi ha ho hm hsource hphase hstored =>
      ⟨fun r t => ends_recoverData hr hd hlo hhi ha ho hm hsource hphase hstored,
        goes_recoverData hr hd hlo hhi ha ho hm hsource hphase hstored⟩,
    fun s h n hr => ⟨fun hheld hbus => reads_recoverFull_of_isolated hr hheld (by simpa using hbus),
      fun happlies hother hbus => ends_recoverFull hr (by simpa using happlies) hother (by simpa using hbus),
      ends_recoverFull_of_recovering hr⟩,
    fun s h n hr => ⟨reads_recoverAbort_of_none hr, fun o ho hslot hstate => ?_, fun o ho hslot hstate => ?_⟩,
    fun s h v => ends_recoverArbAdvance, fun s h a => reads_cartStatus,
    fun s h k n a hr hk ha hroom => ⟨fun hpresent => ?_, fun hempty => ?_⟩,
    fun s h a => reads_cartLife,
    fun s h k hr hk => ⟨reads_cartEject_of_empty hk hr, reads_cartEject_of_inUse hk hr, ends_cartEject hk hr⟩,
    fun s h k hr hk => ⟨reads_cartRescan_of_empty hk hr, goes_cartRescan hk hr⟩⟩
  · refine ends_recoverStage hop hr hk hsrc hd hn ha ho htransport (by rcases hphase with h | h <;> simp [h]) ?_ hlanes
    rw [hstage]
    rcases hphase with h | h <;> simp [State.stageOf, h]
  · have hbusy : (s.started h).tryOwn.stageOf o d k n a v (s.inputOf h a n b) = (err 0x04A1, (s.started h).tryOwn) := by
      simp [State.stageOf, hsearch, hwait]
    have hends := ends_recoverStage hop hr hk hsrc hd hn ha ho htransport hidle hbusy (State.waitsLane_tryOwn _)
    rwa [State.ownDone_tryOwn] at hends
  · simpa [hstate] using ends_recoverAbort hr ho hslot
  · simpa [hstate] using ends_recoverAbort hr ho hslot
  · simpa [hpresent] using reads_cartCatalogue hk hr ha hroom
  · simpa [hempty] using reads_cartCatalogue hk hr ha hroom

end Sys2Proof.Machine
end

section
/-! SUPPORT. The events of the Cartridge Bay (chapter 11): each row at the state of its slot in which it is due. -/
namespace Sys2Proof.Machine

section Slot
variable {s : State} {k : Nat} (hk : k < 4) (hpwr : s.boot.pwrOk = true)
include hk hpwr

theorem goes_cartridgeInsertion {t : State} (hempty : (s.cart k).present = false)
    (ht : t = s.updCart k (fun x => { x with present := true, detLow := true, detSince := s.now })) :
    Goes (.cartridgeInsertion k) s ({ t with cby := { t.cby with insertedHit := true } } : State).startIdentify := by
  subst ht
  show execCartridgeInsertion k s = _
  simp [execCartridgeInsertion, hk, hpwr, hempty]

theorem goes_cartridgeRemoval (hpresent : (s.cart k).present = true) :
    Goes (.cartridgeRemoval k) s ((s.removeCart k).answerCart k (err 0x04A2)).startIdentify.settleAll := by
  show execCartridgeRemoval k s = _
  simp [execCartridgeRemoval, hk, hpwr, hpresent]

theorem goes_cartridgeSleep (hready : (s.cart k).state = .ready) (hidle : (s.cart k).lastUsed + 2000000 ≤ s.now) :
    Goes (.cartridgeSleep k) s (s.updCart k (fun x => { x with state := .asleep, reacquire := none, checked := false })) := by
  show execCartridgeSleep k s = _
  simp [execCartridgeSleep, hk, hpwr, hready, hidle]

theorem goes_cartridgeLifeRead {p a b : Nat} (hanswers : (s.cart k).answers = true)
    (hdue : (s.cart k).lastLifeRead + 86400 ≤ s.emb.opSeconds) :
    Goes (.cartridgeLifeRead k p a b) s ((s.useCart k 0).readLife k p a b) := by
  show execCartridgeLifeRead k p a b s = _
  simp [execCartridgeLifeRead, hk, hpwr, hanswers, hdue]

/-! ### Identification (R398) -/

section Poll
variable (hident : (s.cart k).state = .identifying) (hsince : (s.cart k).ocrSince ≤ s.now)
  (hpoll : (s.cart k).lastPoll < (s.cart k).ocrSince ∨ (s.cart k).lastPoll + 10000 ≤ s.now)
include hident hsince hpoll

/-- A poll of the slot is due. -/
theorem ocrPoll_due :
    ¬ (4 ≤ k ∨ (!s.boot.pwrOk) = true ∨ ((s.cart k).state != .identifying) = true ∨ s.now < (s.cart k).ocrSince ∨
    (s.cart k).ocrSince ≤ (s.cart k).lastPoll ∧ s.now < (s.cart k).lastPoll + 10000) := by
  simp only [hident, hpwr, bne_self_eq_false, Bool.not_true, Bool.false_eq_true, false_or]
  omega

theorem goes_ocrPoll_of_ready (i : CartIdent) (v : Nat) : Goes (.ocrPoll k true i v) s (s.ownDone
    (if s.identGood i = true then s.tryOwn.useD0.drawn.identified k i v else s.tryOwn.useD0.drawn.cartFailed k).settleAll) := by
  show execOcrPoll k true i s v = _
  rw [execOcrPoll, if_neg (ocrPoll_due hk hpwr hident hsince hpoll), if_pos rfl]
  rfl

theorem goes_ocrPoll_of_late (i : CartIdent) (v : Nat) (hlate : (s.cart k).ocrSince + 1000000 ≤ s.now) :
    Goes (.ocrPoll k false i v) s (s.cartFailed k).settleAll := by
  show execOcrPoll k false i s v = _
  rw [execOcrPoll, if_neg (ocrPoll_due hk hpwr hident hsince hpoll), if_neg Bool.false_ne_true]
  exact if_pos hlate

theorem goes_ocrPoll_of_waiting {t : State} (i : CartIdent) (v : Nat) (hearly : s.now < (s.cart k).ocrSince + 1000000)
    (ht : t = s.updCart k (fun x => { x with lastPoll := s.now })) :
    Goes (.ocrPoll k false i v) s { t with cby := { t.cby with clockMhz := 0 } } := by
  subst ht
  show execOcrPoll k false i s v = _
  rw [execOcrPoll, if_neg (ocrPoll_due hk hpwr hident hsince hpoll), if_neg Bool.false_ne_true]
  exact if_neg (Nat.not_le.2 hearly)

end Poll

/-! ### Transfers and wakes of a cartridge that is identified (R399 to R401) -/

section Usable
variable (husable : (s.cart k).usable = true)
include husable

theorem goes_cartridgeTransferDone_of_good :
    Goes (.cartridgeTransferDone k true) s (s.updCart k (fun x => { x with retries := 0, lastUsed := s.now })) := by
  show execCartridgeTransferDone k true s = _
  simp [execCartridgeTransferDone, hk, hpwr, husable]

theorem goes_cartridgeTransferDone_of_retry (hretries : (s.cart k).retries < 3) : Goes (.cartridgeTransferDone k false) s
    (s.updCart k (fun x => { x with retries := x.retries + 1, lastUsed := s.now })) := by
  show execCartridgeTransferDone k false s = _
  simp [execCartridgeTransferDone, hk, hpwr, husable, hretries]

/-- A transfer whose retries are used up is counted, and is a read error of the operation that it served (R386). -/
theorem goes_cartridgeTransferDone_of_failed {t u : State} (hretries : 3 ≤ (s.cart k).retries)
    (ht : t = s.updCart k (fun x => { x with retries := 0, lastUsed := s.now }))
    (hu : u = ({ t with cby := { t.cby with errorHit := true, crcErrors := satAdd 32 t.cby.crcErrors 1 } } : State).updLife (s.cart k).cid
      (fun e => { e with crcErrors := satAdd 16 e.crcErrors 1 })) :
    Goes (.cartridgeTransferDone k false) s ((u.reader k).elim u (fun r => (u.readError r.1 r.2).settleAll)) := by
  have hknown : (s.cart k).state ≠ .identifying := fun h => by simp [Cart.usable, h] at husable
  have hready : ¬ (4 ≤ k ∨ (!s.boot.pwrOk) = true ∨ (!((s.cart k).usable || (s.cart k).state == .identifying)) = true) := by
    simp [hk, hpwr, husable]
  show execCartridgeTransferDone k false s = _
  rw [execCartridgeTransferDone, if_neg hready, if_neg Bool.false_ne_true, if_neg (Nat.not_lt.2 hretries)]
  simp only [← ht, ← hu, beq_iff_eq, hknown, if_false]
  cases u.reader k with
  | none => simp
  | some r => simp

/-- A wake or a re-acquisition of a slot is looked at. -/
theorem reacquire_due : ¬ (4 ≤ k ∨ (!s.boot.pwrOk) = true ∨ (!(s.cart k).usable) = true) := by
  simp [hk, hpwr, husable]

theorem goes_cartridgeReacquire_of_same : Goes (.cartridgeReacquire k true (s.cart k).cid) s
    ((s.useCart k 0).updCart k (fun x => { x with reacquire := none, reidentified := false, checked := true })) := by
  show execCartridgeReacquire k true s (s.cart k).cid = _
  rw [execCartridgeReacquire, if_neg (reacquire_due hk hpwr husable), if_pos rfl, if_pos rfl]

theorem goes_cartridgeReacquire_of_other {c : Bytes} {t : State} (hc : c ≠ (s.cart k).cid)
    (ht : t = (s.removeCart k).updCart k (fun x => { x with present := true, detLow := true, detSince := s.now })) :
    Goes (.cartridgeReacquire k true c) s ({ t with cby := { t.cby with insertedHit := true } } : State).startIdentify.settleAll := by
  subst ht
  show execCartridgeReacquire k true s c = _
  rw [execCartridgeReacquire, if_neg (reacquire_due hk hpwr husable), if_pos rfl, if_neg hc]

theorem goes_cartridgeReacquire_of_miss {c : Bytes} (hfirst : (s.cart k).reacquire = none) :
    Goes (.cartridgeReacquire k false c) s (s.updCart k (fun x => { x with reacquire := some s.now })) := by
  show execCartridgeReacquire k false s c = _
  simp [execCartridgeReacquire, hk, hpwr, husable, hfirst]

end Usable

end Slot

/-- Settles O45: each event meets its slot in a state in which it is due. That a transfer which has failed four times is a read error
of the operation of the lowest position that reads there, at its first block, is the model's choice (log entry 125). -/
theorem cartridgeEventsComplete : Obligations.CartridgeEventsComplete := by
  unfold Obligations.CartridgeEventsComplete
  intro s k hk hpwr
  refine ⟨fun t => goes_cartridgeInsertion hk hpwr, fun hident hsince hpoll => ⟨fun i v hgood => ?_, fun i v hbad => ?_,
      fun i v => goes_ocrPoll_of_late hk hpwr hident hsince hpoll i v,
      fun i v t => goes_ocrPoll_of_waiting hk hpwr hident hsince hpoll i v⟩,
    fun husable => ⟨goes_cartridgeTransferDone_of_good hk hpwr husable, goes_cartridgeTransferDone_of_retry hk hpwr husable,
      fun t u hretries ht hu => ⟨fun hnone => ?_, fun d i hsome => ?_⟩, goes_cartridgeReacquire_of_same hk hpwr husable,
      fun c t => goes_cartridgeReacquire_of_other hk hpwr husable, fun c => goes_cartridgeReacquire_of_miss hk hpwr husable,
      fun p a b => goes_cartridgeLifeRead hk hpwr⟩,
    goes_cartridgeRemoval hk hpwr, goes_cartridgeSleep hk hpwr⟩
  · simpa [hgood] using goes_ocrPoll_of_ready hk hpwr hident hsince hpoll i v
  · simpa [hbad] using goes_ocrPoll_of_ready hk hpwr hident hsince hpoll i v
  · simpa [hnone] using goes_cartridgeTransferDone_of_failed hk hpwr husable hretries ht hu
  · simpa [hsome] using goes_cartridgeTransferDone_of_failed hk hpwr husable hretries ht hu

end Sys2Proof.Machine
end
